-- ==== Sys2Proof/Word.lean ====
section
/-! DEFINITION. The word types of the ZL7 and the DEP-7 (R5: bit 0 is the least significant bit). -/

namespace Sys2Proof

/-- One byte (R5). -/
abbrev Byte := BitVec 8

/-- One 64-bit word: a BAR0 register, a Chalk scalar, a header word (R170, R244, R645). -/
abbrev Word := BitVec 64

/-- One 128-bit word: a Chalk vector register, a generator block (R244, R331). -/
abbrev Vec := BitVec 128

end Sys2Proof
end

