-- ==== Sys2Proof/Syntax.lean ====
section
/-! DEFINITION. The commands of the block: one constructor of `Instr` per row of
spec/opcode_table.json, and the records its operands are made of. -/

namespace Sys2Proof

/-- A frame (R169 to R176): base header, route field, payload, CRC-32. -/
structure Frame where
  cohort    : BitVec 10
  part      : BitVec 6
  dst       : BitVec 12
  src       : BitVec 12
  flags     : BitVec 3
  status    : BitVec 5
  opcode    : BitVec 8
  colour    : BitVec 2
  vc        : BitVec 2
  version   : BitVec 4
  group     : BitVec 12
  hopCount  : BitVec 4
  hopPtr    : BitVec 4
  length    : BitVec 12
  seq       : BitVec 24
  fpa       : BitVec 56
  ack       : BitVec 24
  epoch     : BitVec 24
  route     : Vector Byte 16
  payload   : List Byte
  crc       : BitVec 32
deriving DecidableEq, Repr

/-- Desk `d` of Classroom `c` of Wing `w` (R17). -/
structure DeskId where
  w : Fin 4
  c : Fin 300
  d : Fin 256
deriving DecidableEq, Repr

/-- How a memory request reached its destination: ejected from the Centroid at an internal port
(R177), or over the Wings' networks from a Desk or a stream engine (R120, R259, R260). -/
inductive Via where
  | fabric (port : Fin 140)
  | desk (d : DeskId) (seat : Fin 4) (id : Nat)
  | stream (w : Fin 4) (e : Fin 64)
deriving DecidableEq, Repr

/-- A memory request at its destination. -/
structure Req where
  via : Via
  f   : Frame
deriving DecidableEq, Repr

/-- A best-effort source or destination engine: the module's source engine, or the DEP-7 on an
electrical port (R185). -/
inductive Engine where
  | module
  | dep (p : Fin 64)
deriving DecidableEq, Repr

/-- Index of an optical port: port 64 + i (R15). -/
abbrev OptPort := Fin 64

/-- A Chalk instruction issued by a Seat: bits [55:0] of its word; the opcode byte is the row's (R281). -/
structure ChalkOp where
  desk : DeskId
  seat : Fin 4
  w    : BitVec 56
deriving DecidableEq, Repr

/-- A role entry (R264), with its governing descriptor (R336). -/
structure RoleEntry where
  desk    : DeskId
  cohort  : BitVec 10
  tag     : BitVec 8
  keep    : Bool
  resume  : Bool
  mask    : BitVec 4
  entries : Vector (BitVec 12) 4
  governs : Option Nat
deriving DecidableEq, Repr

/-- A step-table entry (R365). -/
structure StepEntry where
  cohort : BitVec 10
  mode   : BitVec 8
  base   : Word
deriving DecidableEq, Repr

/-- A collective descriptor (R335). -/
structure CollDesc where
  id      : BitVec 32
  kind    : BitVec 8
  type    : BitVec 8
  members : Nat
  index   : Nat
  root    : BitVec 12
  group   : BitVec 12
  launch  : Nat
  close   : Nat
  finish  : Nat
  region  : Nat
  lines   : Nat
  init    : Bool
  watch   : List (BitVec 12)
  vote    : Nat
  verdict : Nat
  vtick   : Nat
deriving DecidableEq, Repr

/-- A stream descriptor (R387). -/
structure StreamDesc where
  src       : Word
  dst       : Word
  rowLen    : BitVec 16
  rows      : BitVec 16
  srcStride : BitVec 32
  dstStride : BitVec 32
  tiles     : BitVec 32
  srcTstep  : BitVec 32
  dstTstep  : BitVec 32
  done      : Word
  id        : BitVec 32
  cohort    : BitVec 10
  kind      : BitVec 8
  op        : BitVec 8
  flags     : BitVec 8
  ahead     : BitVec 8
  group     : BitVec 12
  rtag      : BitVec 8
deriving DecidableEq, Repr

/-- A lesson-plan word that the loader distributes (R252). -/
structure PlanWord where
  w    : Fin 4
  c    : Fin 300
  addr : BitVec 12
  word : Word
deriving DecidableEq, Repr

/-- A descriptor list of one engine in one Lesson of the run (R386). -/
structure EngineList where
  lesson : Nat
  w      : Fin 4
  e      : Fin 64
  descs  : List StreamDesc
deriving DecidableEq, Repr

/-- A Prism-plan entry (R434). -/
structure PrismPlan where
  lesson : Nat
  prism  : Fin 4
  cohort : BitVec 10
  name   : BitVec 12
deriving DecidableEq, Repr

/-- A preload entry: a Classroom's list, or its Wing's where the Classroom is absent (R382). -/
structure Preload where
  w      : Fin 4
  c      : Option (Fin 300)
  cohort : BitVec 10
  fva    : Word
deriving DecidableEq, Repr

/-- Target regions of a module's offset space (R75, R105). -/
inductive Region where
  | general | timetable | overflow | blackboard | slate | inbox | mirror | endpoint | hole
deriving DecidableEq, Repr

/-- A reserved slot of a Desk's lane (R292). -/
structure LaneSlot where
  desk   : DeskId
  lane   : Fin 16
  depart : Nat
  node   : BitVec 12
  region : Region
deriving DecidableEq, Repr

/-- A Blackboard range that the timetable declares for a cohort (R559). -/
structure BbOwner where
  w      : Fin 4
  c      : Fin 300
  cohort : BitVec 10
  base   : Nat
  len    : Nat
deriving DecidableEq, Repr

/-- A bank hold: Lesson ticks `start` to `stop` of every Lesson of the run (R646). -/
structure BankHold where
  ch    : Fin 64
  bank  : Fin 32
  row   : Nat
  start : Nat
  stop  : Nat
deriving DecidableEq, Repr

/-- A reserved cell slot on an external port, at a Lesson tick of a Lesson of the run (R451). -/
structure PortSlot where
  lesson : Nat
  port   : Fin 128
  tick   : Nat
deriving DecidableEq, Repr

/-- The content of a timetable page, as the loader reads it (R36). -/
structure Timetable where
  dclk      : Nat
  minGuard  : Nat
  strict    : Bool
  planFirst : Nat
  planCount : Nat
  run       : Nat
  crcOk     : Bool
  roles     : List RoleEntry
  plan      : List PlanWord
  engines   : List EngineList
  prisms    : List PrismPlan
  preloads  : List Preload
  colls     : List CollDesc
  steps     : List StepEntry
  lanes     : List LaneSlot
  owners    : List BbOwner
  holds     : List BankHold
  ports     : List PortSlot
deriving DecidableEq, Repr

/-- A role entry as the page holds it: its Desk, its 16 bytes (R264), and its byte of the governance table (R336). -/
structure RoleImage where
  desk  : DeskId
  entry : BitVec 128
  gov   : BitVec 8
deriving DecidableEq, Repr

/-- A collective descriptor as the page holds it: its 64 bytes, and the node list at WATCH_AT (R335). -/
structure CollImage where
  desc  : BitVec 512
  watch : List (BitVec 12)
deriving DecidableEq, Repr

/-- The descriptors of one engine in one Lesson of the run, 64 bytes each (R386, R387). -/
structure EngineImage where
  lesson : Nat
  w      : Fin 4
  e      : Fin 64
  descs  : List (BitVec 512)
deriving DecidableEq, Repr

/-- A timetable page as the loader finds it: the tables whose layout the rules give, in their bytes (R264, R335, R365, R387); the
rest, whose layout they do not give, as fields. -/
structure PageImage where
  dclk      : Nat
  minGuard  : Nat
  strict    : Bool
  planFirst : Nat
  planCount : Nat
  run       : Nat
  crcOk     : Bool
  roles     : List RoleImage
  plan      : List PlanWord
  engines   : List EngineImage
  prisms    : List PrismPlan
  preloads  : List Preload
  colls     : List CollImage
  steps     : List (BitVec 128)
  lanes     : List LaneSlot
  owners    : List BbOwner
  holds     : List BankHold
  ports     : List PortSlot
deriving DecidableEq, Repr

/-- A vector at a Prism steering input (R427, R436): its requester, matrix, elements and the result's form. -/
structure PrismVector where
  requester : Fin 9
  cohort    : BitVec 10
  name      : BitVec 12
  fp8       : Bool
  int8Out   : Bool
  elems     : Vector Byte 128
  desk      : Option (DeskId × Fin 4 × Nat)
  dest      : Nat
  src       : BitVec 12
deriving DecidableEq, Repr

/-- What a patrol read finds (R420). -/
inductive PatrolOutcome where
  | clean
  | corrected (line : Vector Byte 64)
  | uncorrectable
deriving DecidableEq, Repr

/-- Why a sleeping direction wakes (R487). -/
inductive WakeCause where
  | cell | control | disabled | guardDue
deriving DecidableEq, Repr

/-- A BAR2 request of a PCI Express function (R494 to R496). -/
structure Bar2Req where
  fn    : Fin 65
  pasid : Option (BitVec 20)
  off   : BitVec 40
  len   : Nat
deriving DecidableEq, Repr

/-- An RQ beat of a DEP-7 (R510). -/
structure RqBeat where
  thread : Fin 64
  tag    : BitVec 11
  op     : BitVec 8
  type   : BitVec 4
  attr   : BitVec 2
  scope  : BitVec 3
  fetch  : Bool
  fva    : BitVec 57
  len    : BitVec 11
  group  : BitVec 12
  rowLen : BitVec 16
  rows   : BitVec 16
  stride : BitVec 32
deriving DecidableEq, Repr

/-- Which part of a cohort entry a write covers (R538, R539): seed, or bytes 24 to 25. -/
inductive CohortPart where
  | seed | state
deriving DecidableEq, Repr

/-- The rails (R632). -/
inductive Rail where
  | vddDesk | vddHub | vddSer | vddPh | vlaser | vddqG7 | vaux
deriving DecidableEq, Repr

/-- Reset domains (R562). -/
inductive Domain where
  | compute | switchLinks | memory | module
deriving DecidableEq, Repr

/-- Cause codes of a log record (R588). -/
inductive ResetCause where
  | hostWrite | overrunLimit | routerStall | internalPort | homeWatchdog | thermalHold
deriving DecidableEq, Repr

/-- The temperatures of one sensor round, in °C (R642, R443). -/
structure JunctionTemps where
  centroid : Nat
  wings    : Vector Nat 4
  prisms   : Vector Nat 4
  engines  : Vector Nat 8
  gddr     : Vector Nat 16
deriving DecidableEq, Repr

/-- A site at which a reserved timetabled slot comes round (R21). -/
inductive SlotSite where
  | output (o : Fin 140)
  | channel (ch : Fin 64)
  | bank (w : Fin 4) (c : Fin 300) (bank : Fin 16)
  | prism (p : Fin 4)
deriving DecidableEq, Repr

/-- Where a REGISTER_WRITE goes: a byte address of BAR0 (R606), or a byte address of the register window of the DEP-7 on a port, over its
control port CF (R508). -/
inductive RegAddr where
  | bar0 (addr : BitVec 26)
  | cf (port : Fin 64) (addr : BitVec 18)
deriving DecidableEq, Repr

/-- The commands: one constructor per row of spec/opcode_table.json. -/
inductive Instr where
  /-- BELL (R35). -/
  | bell
  /-- ROLL_CALL_CHECK (R43). -/
  | rollCallCheck
  /-- ROLL_CALL_ACTIVATE (R35). -/
  | rollCallActivate
  /-- ROLL_CALL_SWAP (R35). -/
  | rollCallSwap
  /-- ROLL_CALL_GAP (R35). -/
  | rollCallGap
  /-- PRISM_SETTLED (R434). -/
  | prismSettled (p : Fin 4)
  /-- BODY_START (R31). -/
  | bodyStart
  /-- CLOSING_GUARD (R31). -/
  | closingGuard
  /-- BELL_FRAME_SEND (R56). -/
  | bellFrameSend
  /-- BELL_FRAME (R57). -/
  | bellFrame (p : Fin 128) (f : Frame)
  /-- LEAD_ERR (R58). -/
  | leadErr (f : Frame)
  /-- BELL_MISSED (R60). -/
  | bellMissed
  /-- MASTER_LOST (R60). -/
  | masterLost
  /-- CANDIDACY (R51). -/
  | candidacy (p : Fin 128) (f : Frame)
  /-- ELECTION_END (R51). -/
  | electionEnd
  /-- BELL_IN_EDGE (R61). -/
  | bellInEdge
  /-- BELL_IN_EDGE_MISSING (R62). -/
  | bellInEdgeMissing
  /-- STRETCH (R651). -/
  | stretch (f : Frame)
  /-- STRETCH_HOLD_EXPIRY (R66). -/
  | stretchHoldExpiry
  /-- PWR_ALERT_N (R63). -/
  | pwrAlertN (asserted : Bool)
  /-- COOLANT_ALERT_N (R63). -/
  | coolantAlertN (asserted : Bool)
  /-- BELL_LESSON_LEN_WRITE (R32). -/
  | bellLessonLenWrite (v : BitVec 64)
  /-- BELL_GUARD_WRITE (R32). -/
  | bellGuardWrite (v : BitVec 64)
  /-- BELL_LEAD_WRITE (R56). -/
  | bellLeadWrite (v : BitVec 64)
  /-- TT_POST (R39). -/
  | ttPost (v : BitVec 64) (pageLen : Nat)
  /-- BELL_CTL_PART_WRITE (R650). -/
  | bellCtlPartWrite (part : BitVec 6)
  /-- TIMETABLE_LOADED (R41). -/
  | timetableLoaded (page : Fin 2) (image : PageImage)
  /-- STRICT_WRITE (R357). -/
  | strictWrite (strict : Bool)
  /-- LD_REQUEST (R85). -/
  | ldRequest (r : Req)
  /-- ST_REQUEST (R85). -/
  | stRequest (r : Req)
  /-- MST_REQUEST (R237). -/
  | mstRequest (r : Req)
  /-- MST_CONTEXT_FREED (R241). -/
  | mstContextFreed
  /-- RED_REQUEST (R91). -/
  | redRequest (r : Req) (upset : Int)
  /-- FADD_REQUEST (R88). -/
  | faddRequest (r : Req) (upset : Int)
  /-- MIN_REQUEST (R88). -/
  | minRequest (r : Req)
  /-- MAX_REQUEST (R88). -/
  | maxRequest (r : Req)
  /-- SWAP32_REQUEST (R88). -/
  | swap32Request (r : Req)
  /-- SWAP64_REQUEST (R88). -/
  | swap64Request (r : Req)
  /-- CAS64_REQUEST (R88). -/
  | cas64Request (r : Req)
  /-- CAS128_REQUEST (R88). -/
  | cas128Request (r : Req)
  /-- AND32_REQUEST (R88). -/
  | and32Request (r : Req)
  /-- AND64_REQUEST (R88). -/
  | and64Request (r : Req)
  /-- OR32_REQUEST (R88). -/
  | or32Request (r : Req)
  /-- OR64_REQUEST (R88). -/
  | or64Request (r : Req)
  /-- XOR32_REQUEST (R88). -/
  | xor32Request (r : Req)
  /-- XOR64_REQUEST (R88). -/
  | xor64Request (r : Req)
  /-- RESERVED_OPCODE_REQUEST (R83). -/
  | reservedOpcodeRequest (r : Req)
  /-- RESPONSE (R84). -/
  | response (eng : Engine) (f : Frame)
  /-- RDS (R148). -/
  | rds (p : Fin 64) (f : Frame)
  /-- RDX (R148). -/
  | rdx (p : Fin 64) (f : Frame)
  /-- UPG (R148). -/
  | upg (p : Fin 64) (f : Frame)
  /-- PUTM (R150). -/
  | putm (p : Fin 64) (f : Frame)
  /-- PUTO (R150). -/
  | puto (p : Fin 64) (f : Frame)
  /-- PUTC (R150). -/
  | putc (p : Fin 64) (f : Frame)
  /-- SNPS (R146). -/
  | snps (p : Fin 64) (f : Frame)
  /-- SNPI (R146). -/
  | snpi (p : Fin 64) (f : Frame)
  /-- SNPD (R146). -/
  | snpd (p : Fin 64) (f : Frame)
  /-- FLUSH (R167). -/
  | flush (p : Fin 64) (f : Frame)
  /-- SNOOP_RESPONSE (R145). -/
  | snoopResponse (p : Fin 64) (f : Frame)
  /-- GRANT (R146). -/
  | grant (p : Fin 64) (f : Frame)
  /-- RETRY_RESPONSE (R154). -/
  | retryResponse (p : Fin 64) (f : Frame)
  /-- RETRY_BACKOFF_EXPIRY (R154). -/
  | retryBackoffExpiry (p : Fin 64) (line : Nat)
  /-- PUT_ACK (R146). -/
  | putAck (p : Fin 64) (f : Frame)
  /-- RESERVATION_EXPIRY (R155). -/
  | reservationExpiry (line : Nat)
  /-- HOME_LINE_STABLE (R153). -/
  | homeLineStable (line : Nat)
  /-- TRANSIENT_WAY_FREED (R137). -/
  | transientWayFreed (p : Fin 64) (set : Fin 2048)
  /-- COH_MEMBERS_WRITE (R167). -/
  | cohMembersWrite (v : BitVec 64)
  /-- FLUSH_RESPONSE (R167). -/
  | flushResponse (p : Fin 64) (f : Frame)
  /-- COH_LINE_RELEASE (R164). -/
  | cohLineRelease (v : BitVec 64)
  /-- COH_PORT_RELEASE (R164). -/
  | cohPortRelease (v : BitVec 64)
  /-- FRAME_ARRIVAL (R178). -/
  | frameArrival (p : Fin 140) (f : Frame)
  /-- DEP7_FRAME_ACCEPT (R179). -/
  | dep7FrameAccept (p : Fin 64) (f : Frame)
  /-- CREDIT_RETURN (R182). -/
  | creditReturn (p : Fin 128) (vc : Fin 4) (cells : Nat)
  /-- SYNC (R199). -/
  | sync (eng : Engine) (f : Frame)
  /-- SYNC_RESPONSE (R196). -/
  | syncResponse (eng : Engine) (f : Frame)
  /-- RTX_TIMEOUT (R196). -/
  | rtxTimeout (eng : Engine) (dest : BitVec 12)
  /-- WIN_TIMEOUT (R196). -/
  | winTimeout (eng : Engine) (dest : BitVec 12) (id : Nat)
  /-- AGED_NOTICE (R196). -/
  | agedNotice (eng : Engine) (f : Frame)
  /-- WINDOW_ROOM (R186). -/
  | windowRoom (eng : Engine) (dest : BitVec 12)
  /-- REPLY_HOLD_EXPIRY (R194). -/
  | replyHoldExpiry (eng : Engine) (src : BitVec 12) (seq : BitVec 24)
  /-- SWC_RT_STAGE_WRITE (R208). -/
  | swcRtStageWrite (entry : BitVec 12) (lo : BitVec 64) (hi : BitVec 64)
  /-- SWC_RT_SWAP_WRITE (R209). -/
  | swcRtSwapWrite (v : BitVec 64)
  /-- SWC_RT_HOLD_WRITE (R210). -/
  | swcRtHoldWrite (word : Fin 64) (v : BitVec 64)
  /-- SWC_RTX_WRITE (R198). -/
  | swcRtxWrite (v : BitVec 64)
  /-- SWC_WIN_TIMEOUT_WRITE (R198). -/
  | swcWinTimeoutWrite (v : BitVec 64)
  /-- PORT_DOWN (R204). -/
  | portDown (p : Fin 128)
  /-- OVERFLOW_WRITE (R223). -/
  | overflowWrite (id : Nat)
  /-- OVERFLOW_READBACK (R224). -/
  | overflowReadback (id : Nat)
  /-- WRED_AVG_UPDATE (R228). -/
  | wredAvgUpdate
  /-- AGE_TICK (R229). -/
  | ageTick
  /-- OUTPUT_GRANT (R234). -/
  | outputGrant (o : Fin 140)
  /-- BUF_MIN_WRITE (R242). -/
  | bufMinWrite (p : Fin 140) (v : BitVec 64)
  /-- CREDIT_ADV_WRITE (R242). -/
  | creditAdvWrite (p : Fin 140) (v : BitVec 64)
  /-- VC_CFG_WRITE (R654). -/
  | vcCfgWrite (p : Fin 140) (v : BitVec 64)
  /-- SWC_OVF_ON_WRITE (R242). -/
  | swcOvfOnWrite (v : BitVec 64)
  /-- SWC_OVF_REGION_WRITE (R242). -/
  | swcOvfRegionWrite (size : Bool) (v : BitVec 64)
  /-- WRED_SET_WRITE (R242). -/
  | wredSetWrite (set : Fin 8) (colour : Fin 3) (lo : BitVec 64) (hi : BitVec 64)
  /-- SWC_ARB_WRITE (R657). -/
  | swcArbWrite (v : BitVec 64)
  /-- SWC_AGE_LIMIT_WRITE (R232). -/
  | swcAgeLimitWrite (v : BitVec 64)
  /-- SWC_MARKER_WRITE (R618). -/
  | swcMarkerWrite (m : Fin 16) (lo : BitVec 64) (hi : BitVec 64)
  /-- SWC_MC_GROUP_WRITE (R237). -/
  | swcMcGroupWrite (group : BitVec 12) (v : BitVec 32)
  /-- COL_MC_OWNER_WRITE (R350). -/
  | colMcOwnerWrite (group : BitVec 12) (v : BitVec 32)
  /-- ACCESS_COMPLETION (R249): the access, and the status and data that the completion reports. -/
  | accessCompletion (d : DeskId) (seat : Fin 4) (id : Nat) (status : BitVec 5) (data : List Byte)
  /-- FETCH_BLOCK_DELIVERY (R253). -/
  | fetchBlockDelivery (d : DeskId) (seat : Fin 4) (block : Fin 256)
  /-- LONG_TALLY_ACCEPT (R262). -/
  | longTallyAccept (w : Fin 4) (c : Fin 300)
  /-- LONG_TALLY_COMPLETE (R263). -/
  | longTallyComplete (w : Fin 4) (c : Fin 300) (upset : Int)
  /-- ROUTER_STALL (R276). -/
  | routerStall (w : Fin 4) (c : Fin 300)
  /-- TIMETABLED_DEPARTURE (R293). -/
  | timetabledDeparture (d : DeskId) (id : Nat)
  /-- FENCE_REL_DRAINED (R308). -/
  | fenceRelDrained (d : DeskId) (seat : Fin 4)
  /-- ILLEGAL_INSTRUCTION (R283). -/
  | illegalInstruction (d : DeskId) (seat : Fin 4) (word : BitVec 64)
  /-- NOP (R299). -/
  | chNop (i : ChalkOp)
  /-- END (R251). -/
  | chEnd (i : ChalkOp)
  /-- YIELD (R299). -/
  | chYield (i : ChalkOp)
  /-- BR (R299). -/
  | chBr (i : ChalkOp)
  /-- LOOP (R299). -/
  | chLoop (i : ChalkOp)
  /-- BRS (R299). -/
  | chBrs (i : ChalkOp)
  /-- JR (R299). -/
  | chJr (i : ChalkOp)
  /-- MFSR (R299). -/
  | chMfsr (i : ChalkOp)
  /-- MTSR (R299). -/
  | chMtsr (i : ChalkOp)
  /-- RCV (R268). -/
  | chRcv (i : ChalkOp)
  /-- PLOG (R299). -/
  | chPlog (i : ChalkOp)
  /-- ADD (R300). -/
  | chAdd (i : ChalkOp)
  /-- SUB (R300). -/
  | chSub (i : ChalkOp)
  /-- MUL (R300). -/
  | chMul (i : ChalkOp)
  /-- MULH (R300). -/
  | chMulh (i : ChalkOp)
  /-- AND (R300). -/
  | chAnd (i : ChalkOp)
  /-- OR (R300). -/
  | chOr (i : ChalkOp)
  /-- XOR (R300). -/
  | chXor (i : ChalkOp)
  /-- SHL (R300). -/
  | chShl (i : ChalkOp)
  /-- SHR (R300). -/
  | chShr (i : ChalkOp)
  /-- MIN (R300). -/
  | chMin (i : ChalkOp)
  /-- MAX (R300). -/
  | chMax (i : ChalkOp)
  /-- CMP (R300). -/
  | chCmp (i : ChalkOp)
  /-- SEL (R300). -/
  | chSel (i : ChalkOp)
  /-- MOVI (R300). -/
  | chMovi (i : ChalkOp)
  /-- MOVHI (R300). -/
  | chMovhi (i : ChalkOp)
  /-- ADDI (R300). -/
  | chAddi (i : ChalkOp)
  /-- VADD (R301). -/
  | chVadd (i : ChalkOp)
  /-- VSUB (R301). -/
  | chVsub (i : ChalkOp)
  /-- VMUL (R301). -/
  | chVmul (i : ChalkOp)
  /-- VAND (R301). -/
  | chVand (i : ChalkOp)
  /-- VOR (R301). -/
  | chVor (i : ChalkOp)
  /-- VXOR (R301). -/
  | chVxor (i : ChalkOp)
  /-- VSHL (R301). -/
  | chVshl (i : ChalkOp)
  /-- VSHR (R301). -/
  | chVshr (i : ChalkOp)
  /-- VMIN (R301). -/
  | chVmin (i : ChalkOp)
  /-- VMAX (R301). -/
  | chVmax (i : ChalkOp)
  /-- VCMP (R301). -/
  | chVcmp (i : ChalkOp)
  /-- VSEL (R301). -/
  | chVsel (i : ChalkOp)
  /-- VPERM (R301). -/
  | chVperm (i : ChalkOp)
  /-- VPOPC (R301). -/
  | chVpopc (i : ChalkOp)
  /-- VSGN (R301). -/
  | chVsgn (i : ChalkOp)
  /-- VMOV (R301). -/
  | chVmov (i : ChalkOp)
  /-- VBCAST (R301). -/
  | chVbcast (i : ChalkOp)
  /-- VEXT (R301). -/
  | chVext (i : ChalkOp)
  /-- VINS (R301). -/
  | chVins (i : ChalkOp)
  /-- VFMA (R302). -/
  | chVfma (i : ChalkOp)
  /-- VFADD (R302). -/
  | chVfadd (i : ChalkOp)
  /-- VFSUB (R302). -/
  | chVfsub (i : ChalkOp)
  /-- VFMUL (R302). -/
  | chVfmul (i : ChalkOp)
  /-- VFMIN (R302). -/
  | chVfmin (i : ChalkOp)
  /-- VFMAX (R302). -/
  | chVfmax (i : ChalkOp)
  /-- VFCMP (R302). -/
  | chVfcmp (i : ChalkOp)
  /-- VCVT (R303). -/
  | chVcvt (i : ChalkOp)
  /-- VFSUM (R304). -/
  | chVfsum (i : ChalkOp) (upset : Int)
  /-- FTR (R302). -/
  | chFtr (i : ChalkOp)
  /-- RNG (R331). -/
  | chRng (i : ChalkOp)
  /-- TADD (R322). -/
  | chTadd (i : ChalkOp) (upset : Int)
  /-- TRD (R324). -/
  | chTrd (i : ChalkOp)
  /-- TCLR (R305). -/
  | chTclr (i : ChalkOp)
  /-- TST (R305). -/
  | chTst (i : ChalkOp)
  /-- TLDA (R323). -/
  | chTlda (i : ChalkOp) (upset : Int)
  /-- LTADD (R261). -/
  | chLtadd (i : ChalkOp)
  /-- LTRD (R324). -/
  | chLtrd (i : ChalkOp)
  /-- LTCLR (R305). -/
  | chLtclr (i : ChalkOp)
  /-- SLD (R306). -/
  | chSld (i : ChalkOp)
  /-- SST (R306). -/
  | chSst (i : ChalkOp)
  /-- BBLD (R306). -/
  | chBbld (i : ChalkOp)
  /-- BBST (R306). -/
  | chBbst (i : ChalkOp)
  /-- FLD (R307). -/
  | chFld (i : ChalkOp)
  /-- FST (R307). -/
  | chFst (i : ChalkOp)
  /-- FAT (R308). -/
  | chFat (i : ChalkOp)
  /-- RED (R307). -/
  | chRed (i : ChalkOp)
  /-- MST (R307). -/
  | chMst (i : ChalkOp)
  /-- ACQ (R307). -/
  | chAcq (i : ChalkOp)
  /-- REL (R307). -/
  | chRel (i : ChalkOp)
  /-- FENCE (R307). -/
  | chFence (i : ChalkOp)
  /-- CVTP (R309). -/
  | chCvtp (i : ChalkOp)
  /-- OMV (R440). -/
  | chOmv (i : ChalkOp)
  /-- VERDICT_DECISION (R342). -/
  | verdictDecision (id : BitVec 32)
  /-- WALK_TABLE_READ (R374). -/
  | walkTableRead (walk : Nat) (entry : Option (BitVec 64))
  /-- WALK_COMPLETE (R375). -/
  | walkComplete (walk : Nat)
  /-- TRANSFER_START (R388). -/
  | transferStart (w : Fin 4) (e : Fin 64)
  /-- TILE_TRANSLATED (R389). -/
  | tileTranslated (w : Fin 4) (e : Fin 64)
  /-- TILE_COMPLETE (R104). -/
  | tileComplete (w : Fin 4) (e : Fin 64)
  /-- TRANSFER_PARK (R399). -/
  | transferPark (w : Fin 4) (e : Fin 64)
  /-- FLT_TAIL_WRITE (R396). -/
  | fltTailWrite (v : BitVec 64)
  /-- FLT_RESUME_RETRY (R397). -/
  | fltResumeRetry (token : BitVec 16)
  /-- FLT_RESUME_ABORT (R397). -/
  | fltResumeAbort (token : BitVec 16)
  /-- XLT_PFD_WRITE (R372). -/
  | xltPfdWrite (i : Fin 8) (v : BitVec 64)
  /-- INV_FVA_RANGE (R402). -/
  | invFvaRange (start : BitVec 64) (count : BitVec 32) (cohort : BitVec 10)
  /-- INV_COHORT_ALL (R402). -/
  | invCohortAll (cohort : BitVec 10)
  /-- INV_IA_RANGE (R402). -/
  | invIaRange (start : BitVec 64) (count : BitVec 32) (part : BitVec 6)
  /-- INV_PARTITION_ALL (R402). -/
  | invPartitionAll (part : BitVec 6)
  /-- INV_WALK_CACHES (R402). -/
  | invWalkCaches
  /-- INVAL (R403). -/
  | inval (eng : Engine) (f : Frame)
  /-- INVAL_DRAINED (R403). -/
  | invalDrained (eng : Engine) (ticket : BitVec 32)
  /-- INVAL_ACK (R404). -/
  | invalAck (f : Frame)
  /-- INV_TIMEOUT (R404). -/
  | invTimeout (ticket : BitVec 32)
  /-- CHANNEL_REFRESH (R646). -/
  | channelRefresh (ch : Fin 64) (bank : Fin 32)
  /-- BANK_HOLD_END (R646). -/
  | bankHoldEnd (ch : Fin 64) (bank : Fin 32)
  /-- PATROL_READ (R420). -/
  | patrolRead (outcome : PatrolOutcome)
  /-- CHANNEL_TRAINING_COMPLETE (R422). -/
  | channelTrainingComplete (ch : Fin 64) (passed : Bool) (full : Bool)
  /-- G7M_TT_REGION_WRITE (R417). -/
  | g7mTtRegionWrite (v : BitVec 64)
  /-- G7M_ARB_WRITE (R413). -/
  | g7mArbWrite (v : BitVec 64)
  /-- G7M_SCRUB_WRITE (R653). -/
  | g7mScrubWrite (v : BitVec 64)
  /-- MATRIX_DECOMPOSITION_DONE (R432). -/
  | matrixDecompositionDone (name : BitVec 12) (sigma : BitVec 32)
  /-- OMU_MTX_INVAL_WRITE (R433). -/
  | omuMtxInvalWrite (v : BitVec 64)
  /-- OMU_CTL_WRITE (R624). -/
  | omuCtlWrite (v : BitVec 64)
  /-- VECTOR_FRAME (R436). -/
  | vectorFrame (f : Frame) (v : PrismVector)
  /-- PRISM_FRAME_GRANT (R437). -/
  | prismFrameGrant (p : Fin 4)
  /-- PRISM_RESULT (R439). -/
  | prismResult (p : Fin 4)
  /-- PRISM_LOCK_LOOP_UPDATE (R444). -/
  | prismLockLoopUpdate (p : Fin 4) (maxErrUrad : Nat)
  /-- PRISM_RELOCKED (R445). -/
  | prismRelocked (p : Fin 4)
  /-- PRISM_RELOCK_TIMEOUT (R445). -/
  | prismRelockTimeout (p : Fin 4)
  /-- PRISM_RECALIBRATION (R446). -/
  | prismRecalibration (p : Fin 4)
  /-- CAL_GRACE_EXPIRY (R446). -/
  | calGraceExpiry (p : Fin 4)
  /-- OPTICAL_LINK_START (R452). -/
  | opticalLinkStart (p : OptPort)
  /-- RING_TABLE_SETTLED (R457). -/
  | ringTableSettled (p : OptPort) (k : Fin 16) (rx : Bool)
  /-- RING_PEAK_FOUND (R457). -/
  | ringPeakFound (p : OptPort) (k : Fin 16) (rx : Bool)
  /-- RING_ACQUIRE_TIMEOUT (R457). -/
  | ringAcquireTimeout (p : OptPort) (k : Fin 16) (rx : Bool)
  /-- RING_VERIFY_DONE (R457). -/
  | ringVerifyDone (p : OptPort) (k : Fin 16) (rx : Bool) (tone : Option (Fin 16))
  /-- RING_DITHER_UPDATE (R457). -/
  | ringDitherUpdate (p : OptPort) (k : Fin 16) (rx : Bool) (large : Bool)
  /-- RING_IDENTITY_READ (R457). -/
  | ringIdentityRead (p : OptPort) (k : Fin 16) (rx : Bool) (tone : Option (Fin 16))
  /-- RING_SWEEP_DONE (R457). -/
  | ringSweepDone (p : OptPort) (k : Fin 16) (rx : Bool) (found : Option Int)
  /-- MARGIN_TEST_END (R462). -/
  | marginTestEnd (p : OptPort) (errs : Vector Nat 16)
  /-- SPARE_RETEST_END (R463). -/
  | spareRetestEnd (p : OptPort) (k : Fin 16) (errs : Nat)
  /-- RESULTS_EXCHANGE_END (R454). -/
  | resultsExchangeEnd (p : OptPort) (partner : Option (BitVec 16))
  /-- LINK_DELAY_MEASURED (R55). -/
  | linkDelayMeasured (p : Fin 128) (roundTrips : List Nat)
  /-- OPTICAL_PORT_UP (R452). -/
  | opticalPortUp (p : OptPort)
  /-- OPTICAL_LINK_START_FAIL (R453). -/
  | opticalLinkStartFail (p : OptPort)
  /-- LINK_RESTART_WAIT_EXPIRY (R453). -/
  | linkRestartWaitExpiry (p : Fin 128)
  /-- LASER_MPD_SAMPLE (R464). -/
  | laserMpdSample (p : OptPort) (k : Fin 16) (centiDbm : Int)
  /-- FOM_MARGIN_ESTIMATE (R464). -/
  | fomMarginEstimate (p : OptPort) (k : Fin 16) (centiDb : Int)
  /-- SPARE_WARMED (R465). -/
  | spareWarmed (p : OptPort) (k : Fin 16)
  /-- SPARE_WARM_TIMEOUT (R465). -/
  | spareWarmTimeout (p : OptPort) (k : Fin 16)
  /-- SWAP_ANNOUNCE_ACK (R465). -/
  | swapAnnounceAck (p : OptPort) (k : Fin 16)
  /-- LASER_DRIVER_FAULT (R468). -/
  | laserDriverFault (p : OptPort) (k : Fin 16)
  /-- ACTIVE_SET_CHANGE (R459). -/
  | activeSetChange (p : OptPort) (k : Fin 16)
  /-- JOIN_ANNOUNCE_ACK (R460). -/
  | joinAnnounceAck (p : OptPort) (k : Fin 16)
  /-- OPT_CTL_ENABLE_WRITE (R452). -/
  | optCtlEnableWrite (p : OptPort) (on : Bool)
  /-- OPT_CTL_RESTART (R452). -/
  | optCtlRestart (p : OptPort)
  /-- OPT_CTL_MELIUM_WRITE (R471). -/
  | optCtlMeliumWrite (p : OptPort) (on : Bool)
  /-- OPT_CTL_RECAL (R470). -/
  | optCtlRecal (p : OptPort)
  /-- RECAL_COMPLETE (R470). -/
  | recalComplete (p : OptPort) (offsets : List Int)
  /-- ELECTRICAL_LINK_START (R477). -/
  | electricalLinkStart (p : Fin 64) (dep : Bool)
  /-- ELEC_FOM_CHECK (R477). -/
  | elecFomCheck (p : Fin 64) (foms : Vector (BitVec 8) 4) (partnerOk : Bool)
  /-- ELEC_LINK_START_FAIL (R478). -/
  | elecLinkStartFail (p : Fin 64)
  /-- ELEC_PORT_UP (R477). -/
  | elecPortUp (p : Fin 64)
  /-- LANE_FOM_UPDATE (R479). -/
  | laneFomUpdate (p : Fin 64) (lane : Fin 4) (snrCentiDb : Nat) (eyeMv : Nat) (uncorr : Nat)
  /-- ELEC_CTL_TEST_WRITE (R480). -/
  | elecCtlTestWrite (p : Fin 64) (on : Bool)
  /-- ELEC_CTL_LOOP_WRITE (R481). -/
  | elecCtlLoopWrite (p : Fin 64) (loop : Fin 4)
  /-- FAR_END_LOOP_ACK (R481). -/
  | farEndLoopAck (p : Fin 64)
  /-- FAR_END_LOOP_TIMEOUT (R481). -/
  | farEndLoopTimeout (p : Fin 64)
  /-- PRBS_INJ_ONE (R483). -/
  | prbsInjOne (p : Fin 64) (lane : Fin 4)
  /-- PRBS_CHK_CLEAR (R482). -/
  | prbsChkClear (p : Fin 64) (lane : Fin 4)
  /-- AUDIT_WRITE (R484). -/
  | auditWrite (p : Fin 64) (v : BitVec 64)
  /-- AUDIT_ACK (R484). -/
  | auditAck (p : Fin 64)
  /-- SLEEP_IDLE_EXPIRY (R486). -/
  | sleepIdleExpiry (p : Fin 64) (dep : Bool)
  /-- SLEEP_WAKE (R487). -/
  | sleepWake (p : Fin 64) (cause : WakeCause)
  /-- SLEEP_WAKE_COMPLETE (R487). -/
  | sleepWakeComplete (p : Fin 64)
  /-- SLEEP_WORD (R485). -/
  | sleepWord (p : Fin 64) (dep : Bool) (asleep : Bool)
  /-- ELEC_CTL_DEEP_ENTER (R489). -/
  | elecCtlDeepEnter (p : Fin 64)
  /-- ELEC_CTL_DEEP_EXIT (R490). -/
  | elecCtlDeepExit (p : Fin 64)
  /-- ELEC_CTL_ENABLE_WRITE (R477). -/
  | elecCtlEnableWrite (p : Fin 64) (on : Bool)
  /-- ELEC_CTL_RESTART (R477). -/
  | elecCtlRestart (p : Fin 64)
  /-- ELEC_CTL_RESERVE_WRITE (R488). -/
  | elecCtlReserveWrite (p : Fin 64) (on : Bool)
  /-- BAR2_READ (R497). -/
  | bar2Read (b : Bar2Req)
  /-- BAR2_WRITE (R497). -/
  | bar2Write (b : Bar2Req) (data : List Byte)
  /-- BAR4_STAGING_WRITE (R494). -/
  | bar4StagingWrite (off : BitVec 24) (data : List Byte)
  /-- PERST_N (R570). -/
  | perstN
  /-- HOST_HOT_RESET (R500). -/
  | hostHotReset
  /-- FUNCTION_LEVEL_RESET (R500). -/
  | functionLevelReset (fn : Fin 65)
  /-- HOST_LINK_DOWN (R501). -/
  | hostLinkDown (linkB : Bool)
  /-- HOST_LINK_UP (R501). -/
  | hostLinkUp (linkB : Bool)
  /-- RELAY_SLOT_PERFORM (R503). -/
  | relaySlotPerform (m : Fin 64) (v : BitVec 64)
  /-- BIFURCATE_WRITE (R493). -/
  | bifurcateWrite (on : Bool)
  /-- EP_RST_N (R507). -/
  | epRstN (p : Fin 64)
  /-- EP_CTL_ENABLE_WRITE (R507). -/
  | epCtlEnableWrite (p : Fin 64) (on : Bool)
  /-- EP_RT_WRITE (R525). -/
  | epRtWrite (p : Fin 64) (entry : BitVec 12) (lo : BitVec 64) (hi : BitVec 64)
  /-- EP_NODE_WRITE (R533). -/
  | epNodeWrite (p : Fin 64) (v : BitVec 64)
  /-- RQ_LD (R511). -/
  | rqLd (p : Fin 64) (b : RqBeat)
  /-- RQ_ST (R511). -/
  | rqSt (p : Fin 64) (b : RqBeat)
  /-- RQ_MST (R511). -/
  | rqMst (p : Fin 64) (b : RqBeat)
  /-- RQ_RED (R511). -/
  | rqRed (p : Fin 64) (b : RqBeat)
  /-- RQ_FADD (R158). -/
  | rqFadd (p : Fin 64) (b : RqBeat)
  /-- RQ_MIN (R158). -/
  | rqMin (p : Fin 64) (b : RqBeat)
  /-- RQ_MAX (R158). -/
  | rqMax (p : Fin 64) (b : RqBeat)
  /-- RQ_SWAP (R158). -/
  | rqSwap (p : Fin 64) (b : RqBeat)
  /-- RQ_CAS (R158). -/
  | rqCas (p : Fin 64) (b : RqBeat)
  /-- RQ_AND (R158). -/
  | rqAnd (p : Fin 64) (b : RqBeat)
  /-- RQ_OR (R158). -/
  | rqOr (p : Fin 64) (b : RqBeat)
  /-- RQ_XOR (R158). -/
  | rqXor (p : Fin 64) (b : RqBeat)
  /-- RQ_FENCE (R515). -/
  | rqFence (p : Fin 64) (b : RqBeat)
  /-- RQ_TLD (R511). -/
  | rqTld (p : Fin 64) (b : RqBeat)
  /-- RQ_TST (R511). -/
  | rqTst (p : Fin 64) (b : RqBeat)
  /-- RQ_TRED (R511). -/
  | rqTred (p : Fin 64) (b : RqBeat)
  /-- WD_BEAT (R512). -/
  | wdBeat (p : Fin 64) (data : List Byte)
  /-- IS_RESPONSE (R518). -/
  | isResponse (p : Fin 64) (itag : BitVec 8) (status : BitVec 5) (data : List Byte)
  /-- IN_TIMEOUT_EXPIRY (R519). -/
  | inTimeoutExpiry (p : Fin 64) (itag : BitVec 8)
  /-- STRICT_LINK_WORD (R530). -/
  | strictLinkWord (p : Fin 64) (strict : Bool) (predFar : Bool)
  /-- EP_LINK_DOWN (R527). -/
  | epLinkDown (p : Fin 64)
  /-- GLB_PORT_PART_STAGE_WRITE (R536). -/
  | glbPortPartStageWrite (p : Fin 128) (v : Byte)
  /-- GLB_PART_SWAP_WRITE (R536). -/
  | glbPartSwapWrite (v : BitVec 64)
  /-- GLB_PORT_SCRUB (R537). -/
  | glbPortScrub (v : BitVec 64)
  /-- PORT_SCRUB_DONE (R537). -/
  | portScrubDone (p : Fin 128)
  /-- GLB_COHORT_WRITE (R539). -/
  | glbCohortWrite (c : BitVec 10) (part : CohortPart) (v : BitVec 128)
  /-- GLB_NODE_WRITE (R609). -/
  | glbNodeWrite (v : BitVec 64)
  /-- SEC_ATTEST (R546). -/
  | secAttest (v : BitVec 64)
  /-- ATTESTATION_REPORT_READY (R547). -/
  | attestationReportReady
  /-- EPHEMERAL_KEY_EXPIRY (R546). -/
  | ephemeralKeyExpiry (c : BitVec 10)
  /-- SEC_IMPORT_GO (R549). -/
  | secImportGo
  /-- SEC_LOCKER_CLEAR (R551). -/
  | secLockerClear (v : BitVec 64)
  /-- SEC_SEAL_CREATE (R552). -/
  | secSealCreate (i : Fin 64) (base : BitVec 64) (len : BitVec 64) (cohort : BitVec 10) (slot : BitVec 8)
  /-- SEAL_ZEROING_DONE (R552). -/
  | sealZeroingDone (i : Fin 64)
  /-- SEC_TEARDOWN (R556). -/
  | secTeardown (v : BitVec 64)
  /-- TEARDOWN_COMPLETE (R558). -/
  | teardownComplete (c : BitVec 10) (writeErr : Bool)
  /-- BOOT_STAGE_VERIFIED (R541). -/
  | bootStageVerified (stage : Fin 5) (image : List Byte)
  /-- POWER_ON (R572). -/
  | powerOn (cold : Bool)
  /-- WING_SELF_TEST_DONE (R572). -/
  | wingSelfTestDone (w : Fin 4)
  /-- RAIL_FAULT (R637). -/
  | railFault (rail : Rail)
  /-- RESET_COMPUTE (R562). -/
  | resetCompute (cause : ResetCause)
  /-- RESET_SWITCH_LINKS (R562). -/
  | resetSwitchLinks (cause : ResetCause)
  /-- RESET_MEMORY (R562). -/
  | resetMemory (cause : ResetCause)
  /-- FENCE_DRAINED (R564). -/
  | fenceDrained (d : Domain)
  /-- DRAIN_TIMEOUT_EXPIRY (R564). -/
  | drainTimeoutExpiry (d : Domain)
  /-- RESET_COMPLETE (R562). -/
  | resetComplete (d : Domain)
  /-- PORT_WATCHDOG (R577). -/
  | portWatchdog (p : Fin 128)
  /-- INTERNAL_PORT_WATCHDOG (R577). -/
  | internalPortWatchdog (p : Fin 12)
  /-- HOME_WATCHDOG (R577). -/
  | homeWatchdog (ch : Fin 64)
  /-- PRINCIPAL_WATCHDOG (R577). -/
  | principalWatchdog
  /-- JUNCTION_SENSOR_READ (R642). -/
  | junctionSensorRead (temps : JunctionTemps)
  /-- THERMAL_HOLD_RELEASE (R584). -/
  | thermalHoldRelease
  /-- THERMTRIP (R585). -/
  | thermtrip
  /-- HEARTBEAT (R586). -/
  | heartbeat
  /-- HEARTBEAT_LOST (R586). -/
  | heartbeatLost
  /-- PCAP_WINDOW (R590). -/
  | pcapWindow (meanW : BitVec 16)
  /-- CAL_COMMIT_TIMER (R600). -/
  | calCommitTimer
  /-- GB_EXPORT (R602). -/
  | gbExport
  /-- GB_IMPORT (R603). -/
  | gbImport
  /-- GB_COMMIT (R600). -/
  | gbCommit
  /-- FW_CHUNK (R597). -/
  | fwChunk
  /-- FW_PREFER (R595). -/
  | fwPrefer
  /-- SVN_RAISE (R544). -/
  | svnRaise
  /-- PRIN_CMD_UNKNOWN (R595). -/
  | prinCmdUnknown (code : Byte)
  /-- REGISTER_WRITE (R508, R645): of BAR0, or over CF of the DEP-7 on a port. -/
  | registerWrite (addr : RegAddr) (data : List Byte)
  /-- RESERVED_SLOT (R21). -/
  | reservedSlot (site : SlotSite)
  /-- FLIT_REPLAY (R459). -/
  | flitReplay (p : Fin 128)
  /-- PRBS_CHECKER_LOCK (R482). -/
  | prbsCheckerLock (p : Fin 64) (lane : Fin 4)
  /-- PRBS_CHECKER_LOCK_LOST (R482). -/
  | prbsCheckerLockLost (p : Fin 64) (lane : Fin 4)
  /-- LOSS_OF_POWER (R562). -/
  | lossOfPower
  /-- EP_RT_HOLD_WRITE (R210). -/
  | epRtHoldWrite (p : Fin 64) (word : Fin 64) (v : BitVec 64)
  /-- EP_RTX_WRITE (R526). -/
  | epRtxWrite (p : Fin 64) (v : BitVec 64)
  /-- EP_WIN_TIMEOUT_WRITE (R526). -/
  | epWinTimeoutWrite (p : Fin 64) (v : BitVec 64)
  /-- SWAP_ANNOUNCEMENT (R465). -/
  | swapAnnouncement (p : OptPort) (k : Fin 16)
  /-- JOIN_ANNOUNCEMENT (R460). -/
  | joinAnnouncement (p : OptPort) (k : Fin 16)
  /-- TEST_REQUEST (R480). -/
  | testRequest (p : Fin 64) (on : Bool)
  /-- LOOP_REQUEST (R481). -/
  | loopRequest (p : Fin 64)
  /-- AUDIT_REQUEST (R484). -/
  | auditRequest (p : Fin 64) (lesson : BitVec 32) (ctrlLane : Fin 4)
  /-- PRISM_POWER_ON_LOCK (R572). -/
  | prismPowerOnLock (p : Fin 4)
deriving DecidableEq, Repr

end Sys2Proof
end

