-- ==== Sys2Proof/Decode.lean ====
section
/-! DEFINITION. Decoding. The ZL7 is a block: its commands arrive as frames, register accesses, pins and events, and
spec/opcode_table.json gives none of its rows any bits, so no word spells a command. -/

namespace Sys2Proof

/-- The command that a word of the opcode table's bits spells: none, for the table gives no row any bits. -/
def decodeTableWord (_nbits _w : Nat) : Option Instr := none

end Sys2Proof
end

