-- ==== Sys2Proof/Config.lean ====
section
/-! DEFINITION. What the spec leaves to physics or to an outside standard, as opaque values: nothing
can be proved about any of them. -/

namespace Sys2Proof.Config

/-- The Desk's physical noise source (R334), drawn with the state's free counter. -/
opaque deskNoise : Nat → BitVec 128

/-- ADC noise of a Prism, in codes (R428), drawn with the state's free counter. -/
opaque prismNoise : Nat → Int

/-- Choice among the results that R302 admits for FTR while STRICT is 0. -/
opaque ftrChoice : Nat → Nat

/-- Result of FTR SIN or COS of an infinity while STRICT is 0, drawn with the state's free counter: the spec states none (R319). -/
opaque ftrFree : Nat → Nat

/-- The same while STRICT is 1: operation and format codes, and the lane's bits (R319, R363). -/
opaque ftrStrict : Nat → Nat → Nat → Nat

/-- Where the results of an OMV go whose S[B] is no place for them, in 16-byte words modulo 369: the spec states none (R309). -/
opaque omvDest : Nat → Nat

/-- A byte whose value the spec leaves open, drawn with the state's free counter. -/
opaque freeByte : Nat → Byte


/-- SHA-256 of a byte string (R541, R547). -/
opaque sha256 : List Byte → List Byte

/-- ECDSA P-256 signature by the module's identity key over a digest (R545, R547). -/
opaque identitySign : List Byte → List Byte

/-- ECDSA P-256 verification by the identity key: digest, signature (R603). -/
opaque identityVerify : List Byte → List Byte → Bool

/-- ECDSA P-256 verification by the Vilyan signing key of an index: key index, digest, signature (R542). -/
opaque vendorVerify : Nat → List Byte → List Byte → Bool

/-- Security version that an image's header holds (R542). -/
opaque imageSvn : List Byte → Word

/-- Key index that an image's header holds (R542). -/
opaque imageKey : List Byte → Nat

/-- Header and body of an image (R542). -/
opaque imageSigned : List Byte → List Byte

/-- Signature of an image (R542). -/
opaque imageSignature : List Byte → List Byte

/-- Firmware version of an image (R611). -/
opaque imageVersion : List Byte → BitVec 32

/-- Revocation fuse of a signing key (R542). -/
opaque keyRevoked : Nat → Bool

/-- Digest of the boot ROM that stage 0 measures (R541). -/
opaque romDigest : List Byte

/-- Public part of the n-th ephemeral key pair (R546), 64 bytes. -/
opaque ephemeralPublic : Nat → List Byte

/-- x-coordinate of ECDH between the n-th ephemeral private key and a public key (R549). -/
opaque ecdhX : Nat → List Byte → List Byte

/-- HKDF-SHA-256 with salt, key material and info (R549). -/
opaque hkdf : List Byte → List Byte → List Byte → List Byte

/-- AES-256-GCM opening: key, IV, additional data, ciphertext, tag (R549, R554). -/
opaque gcmOpen : List Byte → List Byte → List Byte → List Byte → List Byte → Option (List Byte)

/-- First 8 bytes of SHA-256 of the identity public key (R545). -/
opaque deviceId : Word

/-- DER certificate chain of SEC.CERT, as 64-bit words (R545). -/
opaque certWord : Nat → Word

/-- Security version fused at manufacture (R542, SEC.SVN). -/
opaque fusedSvn : Word

/-- Version of the firmware image in a bank (R611). -/
opaque fwVersion : Bool → BitVec 32

/-- Bank that the flash names as preferred at first power-on (R543, R611). -/
opaque fwPreferred : Bool

/-- Body of a factory Gradebook entry: kind, index (R598). -/
opaque factoryBody : Nat → Nat → List Byte

/-- LASER body with a baseline and a RETIRED flag put in (R598, R466, R470): old body, baseline where it changes, flag. -/
opaque laserBody : List Byte → Option Int → Bool → List Byte

/-- Baseline that a LASER body holds (R598, R604). -/
opaque bodyBaseline : List Byte → Int

/-- RETIRED flag that a LASER body holds (R598). -/
opaque bodyRetired : List Byte → Bool

/-- RING body shifted by a recalibration's offset (R470). -/
opaque ringBody : List Byte → Int → List Byte

/-- PRISM body that the n-th free draw's scheduled recalibration yields (R446). -/
opaque prismBody : List Byte → Nat → List Byte

/-- Beginning-of-life power of a laser in 0.01 dBm: port index, wavelength, spare (R464). -/
opaque laserBaseline : Nat → Nat → Bool → Int

/-- Whether a posted page whose content the loader has not read reserves a slot on a port (R486, R489): draw, port. -/
opaque unreadSlot : Nat → Nat → Bool

/-- Bit errors that a pattern checker counts over a span of bits (R482): draw, bits. -/
opaque bitErrors : Nat → Nat → Nat

/-- PCI Express link rate and width fields of PCIE.STATUS, whose layout the spec does not give. -/
opaque linkShape : Nat → Word

/-- Bytes of a timetable page that BELL.TT_POST names, by draw (R38, R417): the loader has yet to read it. -/
opaque pageLength : Nat → Nat

/-- Byte of the Principal's flash that CAL.WINDOW shows (R612): the Gradebook's entries, offset. -/
opaque flashByte : List Byte → Nat → Byte

end Sys2Proof.Config
end

