-- ==== Sys2Proof/Machine/RegMap.lean ====
section
/-! DEFINITION. The BAR0 register map (R606) and the DEP-7 register window (R533): addresses, reset
values and access masks of every register, by the field tables of the spec. -/

namespace Sys2Proof.Machine

/-- The masks of one 8-byte register (R8): plain writable, write-1-to-clear, write-only bits, and its reset value. -/
structure RegSpec where
  reset : Word := 0
  rw    : Word := 0
  w1c   : Word := 0
  wo    : Word := 0
deriving DecidableEq, Repr

/-- A counter register: 64 bits, RW, reset 0 (R607). -/
def counterReg : RegSpec := { rw := BitVec.allOnes 64 }
/-- A read-only register with a reset value. -/
def roReg (v : Word := 0) : RegSpec := { reset := v }
/-- A register of one RW field at bit 0 (R608). -/
def fieldReg (width : Nat) (v : Word := 0) : RegSpec := { reset := v, rw := BitVec.ofNat 64 (2 ^ width - 1) }
/-- Reserved space reads as 0 and ignores writes (R10). -/
def reservedReg : RegSpec := {}

/-! ### Addresses -/

def rGlbId := 0x0
def rGlbNode := 0x8
def rGlbMode := 0x10
def rGlbReady := 0x100
def rPortPart := 0x1000
def rPortPartStage := 0x1080
def rPartSwap := 0x1100
def rPartStatus := 0x1108
def rPortScrub := 0x1110
def rCohort := 0x8000
def rBellCtl := 0x10000
def rBellStatus := 0x10008
def rLessonLen := 0x10010
def rGuard := 0x10018
def rLead := 0x10020
def rPrio := 0x10028
def rLesson := 0x10030
def rOvrLimit := 0x10038
def rTtPage0 := 0x10040
def rTtPost := 0x10050
def rTtState := 0x10058
def rPinComp := 0x10060
def rStretch := 0x10068
def rBellTree := 0x10070
def rRstCtl := 0x20000
def rRstStatus := 0x20008
def rRstReset := 0x20010
def rDrainTimeout := 0x20018
def rRstEsc := 0x20020
def rRstWd := 0x20028
def rRstHb := 0x20030
def rExtStatus := 0x20038
def rRstCount := 0x20040
def rLogHead := 0x20048
def rRstLog := 0x21000
def rPrinStatus := 0x30000
def rPrinCmd := 0x30008
def rPrinArg := 0x30010
def rPrinResult := 0x30030
def rPrinFw := 0x30038
def rPcap := 0x30040
def rPower := 0x30048
/-- PRIN.THERM: the spec gives no offset; this one is reserved space of the PRIN block (DESIGN CHOICE, log 12). -/
def rTherm := 0x30050
def rPrinBuf := 0x38000
def rSecCtl := 0x40000
def rSecStatus := 0x40008
def rSvn := 0x40010
def rDeviceId := 0x40018
def rMeas := 0x40040
def rAttest := 0x40200
def rNonce := 0x40220
def rReport := 0x40400
def rImport := 0x40800
def rImportGo := 0x40890
def rLockerClear := 0x40898
def rLocker := 0x41000
def rSeal := 0x42000
def rTeardown := 0x43000
def rAuthFail := 0x43010
def rScrubList := 0x43100
def rScrubReport := 0x43800
def rCert := 0x44000
def rXltCtl := 0x50000
def rXltStatus := 0x50008
def rTblHbase := 0x50040
def rTblFpa := 0x50048
def rTblLen := 0x50050
def rCvtBase := 0x50058
def rPfd := 0x50080
def rInv := 0x50100
def rInvStatus := 0x50120
def rInvGroup := 0x50128
def rInvTimeout := 0x50130
def rDeskFaults := 0x50140
def rWalks := 0x50148
def rWalkSclk := 0x50150
def rPfWalks := 0x50158
def rS2Root := 0x50400
def rS1Root := 0x52000
def rFltBase := 0x60000
def rFltSize := 0x60008
def rFltHead := 0x60010
def rFltTail := 0x60018
def rFltOvf := 0x60020
def rFltStatus := 0x60028
def rFltResume := 0x60030
def rFltSave := 0x60038
def rFltSaveUsed := 0x60040
def rCohCtl := 0x70000
def rCohMembers := 0x70008
def rCohStatus := 0x70010
def rNcWin := 0x70040
def rLineRelease := 0x70080
def rPortRelease := 0x70088
def rLostLogBase := 0x70090
def rLostLogPtr := 0x70098
def rLostCount := 0x700A0
def rRetryCount := 0x700A8
def rRsvGranted := 0x700B0
def rRsvExpired := 0x700B8
def rSnoopWait := 0x700C0
def rColCtl := 0x80000
def rColStatus := 0x80008
def rSlotsFree := 0x80010
def rSlotsColl := 0x80018
def rSlotsRed := 0x80020
def rRingBase := 0x80028
def rRingSize := 0x80030
def rRingPtr := 0x80038
def rColLate := 0x80040
def rColAborts := 0x80048
def rLaunchFail := 0x80050
def rColActive := 0x80100
def rMcOwner := 0x84000
def rSwcCtl := 0x100000
def rCfgStatus := 0x100008
def rSharedTotal := 0x100010
def rSharedFree := 0x100018
def rOvfOn := 0x100020
def rOvfBase := 0x100028
def rOvfSize := 0x100030
def rOvfUsed := 0x100038
def rOvfLost := 0x100040
def rAgeLimit := 0x100048
def rAgeTick := 0x100050
def rSwcArb := 0x100058
def rMcStatus := 0x100060
def rWredSet := 0x100400
def rRtSwap := 0x108000
def rRtStatus := 0x108008
def rRtx := 0x108010
def rWinTimeout := 0x108018
def rWinDefault := 0x108020
def rReplyHold := 0x108028
def rEjectMismatch := 0x108030
def rReplyFull := 0x108038
def rDupCount := 0x108040
def rOooDiscard := 0x108048
def rRtxCount := 0x108050
def rNoRouteGen := 0x108058
def rUndelivered := 0x108060
def rRespDrop := 0x108068
def rRtHold := 0x108400
def rMarker := 0x109000
def rCohortMarker := 0x109100
def rRtActive := 0x110000
def rRtStage := 0x120000
def rWinOut := 0x130000
def rWinSize := 0x134000
def rMcGroup := 0x140000
def rIntPort := 0x144000
def rMcMember := 0x148000
def rG7mCtl := 0x200000
def rG7mStatus := 0x200008
def rTtRegion := 0x200010
def rG7mArb := 0x200018
def rScrub := 0x200020
def rTrain := 0x200028
def rChan := 0x201000
def rOmuCtl := 0x300000
def rOmuStatus := 0x300008
def rMtxDir := 0x300010
def rImgBase := 0x300018
def rMtxInval := 0x300020
def rOmuArb := 0x300028
def rOmuCal := 0x300030
def rCalLast := 0x300038
def rPrismStatus := 0x300040
def rImages := 0x300060
def rPrism := 0x300100
def rPcieCtl := 0x400000
def rPcieStatus := 0x400008
def rBar2Size := 0x400010
def rErrLog := 0x400018
def rStage := 0x400020
def rGwMembers := 0x400028
def rGwNode := 0x400030
def rRelayRefused := 0x400038
def rFnCohort := 0x401000
def rAperture := 0x402000
def rPasidMap := 0x404000
def rRelay := 0x410000
def rCalStatus := 0x500000
/-- CAL.COMMIT: the spec gives no offset; this one is reserved space of the CAL block (DESIGN CHOICE, log 12). -/
def rCalCommit := 0x500008
def rCalWinBase := 0x500010
def rCalWindow := 0x510000
def rPortBlock := 0x800000
def rWingBlock := 0x1000000

/-- A link register of external port n (R625). -/
def linkReg (n off : Nat) : Nat := rPortBlock + n * 0x10000 + off
/-- A switch register of port n, external or internal ("Centroid Switch Core", Registers). -/
def swReg (n off : Nat) : Nat :=
  if n < 128 then rPortBlock + n * 0x10000 + 0x100 + off else rIntPort + (n - 128) * 0x80 + off
/-- A register of wavelength or lane k of port n. -/
def wlReg (n k off : Nat) : Nat := rPortBlock + n * 0x10000 + 0x200 + k * 0x40 + off
/-- A Classroom register (R17, R626). -/
def crReg (w c off : Nat) : Nat := rWingBlock + w * 0x400000 + c * 0x1000 + off
/-- A channel register ("Pooled Memory", Registers). -/
def chReg (c off : Nat) : Nat := rChan + c * 0x1000 + off
/-- A Prism counter register ("Optical Matrix Unit", Registers). -/
def prismReg (p off : Nat) : Nat := rPrism + p * 0x40 + off

def swCreditAdv := 0x00
def swBufMin := 0x08
def swVcCfg := 0x10
def swBufUsed := 0x18
def swWredAvg := 0x20
def swHdrErr := 0x28
def swCrcErr := 0x30
def swPartDrop := 0x38
def swWredDrop := 0x40
def swAgedDrop := 0x58
def swQueueSclk := 0x60
def swQueueFrames := 0x68
def swOvfFrames := 0x70

def lCtl := 0x00
def lStatus := 0x08
def lActive := 0x10
def lAudit := 0x10
def lDelay := 0x18
def lStarts := 0x20
def lFails := 0x28
def lReplays := 0x30
def lUncorr := 0x38

def crFault := 0x00
def crFaultEn := 0x08
def crOvrCount := 0x10
def crStretchOvr := 0x18
def crOvrLast := 0x20
def crRoleDrop := 0x28
def crInboxOvw := 0x30
def crLtErr := 0x38
def crBbArb := 0x40
def crSpill := 0x48
def crSpillUsed := 0x50
def crPlanRange := 0x58
def crBbWait := 0x60
def crSlotArea := 0x68
def crBbOwner := 0x70

/-! ### The map -/

/-- The arbiter layout of R615. -/
def arbReg (burst high : Nat) : RegSpec :=
  { reset := BitVec.ofNat 64 (12 + 64 * 2 ^ 16 + burst * 2 ^ 32 + high * 2 ^ 48)
    rw := 0x03FF007F01FF01FF }

/-- One 8-byte half of a WRED profile (R227, R617). -/
def wredReg (colour : Nat) (high : Bool) : RegSpec :=
  let (en, mn, mx, p) : Nat × Nat × Nat × Nat :=
    if colour = 0 then (0, 8192, 16384, 64) else if colour = 1 then (1, 2048, 8192, 32) else (1, 512, 2048, 128)
  if high then
    { reset := BitVec.ofNat 64 (en * 2 ^ 63 + 9 * 2 ^ 48 + p * 2 ^ 32 + mx), rw := 0x800F01FF0FFFFFFF }
  else { reset := BitVec.ofNat 64 mn, rw := 0x0FFFFFFF }

/-- GLB block (R356, R573, R534 to R539, R609). -/
def glbSpec (a : Nat) : RegSpec :=
  if a = rGlbId then roReg 0x5617712801000000
  else if a = rGlbNode then fieldReg 12
  else if a = rGlbMode then { rw := 1, w1c := 0x100 }
  else if rPortPartStage ≤ a ∧ a < rPartSwap then { rw := 0xBFBFBFBFBFBFBFBF }
  else if a = rPartSwap then { rw := 0x80000000FFFFFFFF }
  else if a = rPartStatus then { w1c := 3 }
  else if a = rPortScrub then { wo := 0x7F }
  else if rCohort ≤ a ∧ a < 0x10000 then
    (if a % 32 < 16 then { rw := BitVec.allOnes 64 } else if a % 32 = 24 then { rw := 0x703F } else roReg)
  else reservedReg

/-- BELL block (R608, R613, R614). -/
def bellSpec (a : Nat) : RegSpec :=
  if a = rBellCtl then { reset := 1, rw := 0x3F03 }
  else if a = rBellStatus then { rw := 0xFFFFFFFF00000000, w1c := 0x36 }
  else if a = rLessonLen then fieldReg 17 1000
  else if a = rGuard then fieldReg 17 1024
  else if a = rLead then fieldReg 10 400
  else if a = rPrio then fieldReg 8 0x80
  else if a = rOvrLimit then fieldReg 8 3
  else if a = rTtPage0 ∨ a = rTtPage0 + 8 then fieldReg 40
  else if a = rTtPost then { wo := BitVec.allOnes 64 }
  else if a = rPinComp then fieldReg 12
  else if a = rStretch then { reset := BitVec.ofNat 64 (1000 * 2 ^ 32), rw := 0x0000FFFF00000000 }
  else if a = rBellTree ∨ a = rBellTree + 8 then { rw := BitVec.allOnes 64 }
  else reservedReg

/-- RST block ("Bring-up, Reset and Recovery", Registers). -/
def rstSpec (a : Nat) : RegSpec :=
  if a = rRstCtl then { reset := 1, rw := 1 }
  else if a = rRstStatus then { w1c := 0x700 }
  else if a = rRstReset then { wo := 3 }
  else if a = rDrainTimeout then fieldReg 14 200
  else if a = rRstEsc then { reset := BitVec.ofNat 64 (10 * 2 ^ 32 + 4), rw := 0x0000FFFF0000000F }
  else if a = rRstWd then { reset := BitVec.ofNat 64 (1000 * 2 ^ 32 + 1000), rw := 0x0003FFFF0003FFFF }
  else if a = rRstHb then fieldReg 6 1
  else reservedReg

/-- PRIN block (R610, R611). -/
def prinSpec (a : Nat) : RegSpec :=
  if a = rPrinStatus then { w1c := 0x80 }
  else if a = rPrinCmd then { wo := 0xFF }
  else if rPrinArg ≤ a ∧ a < rPrinResult then { rw := BitVec.allOnes 64 }
  else if a = rPcap then { reset := BitVec.ofNat 64 (10 * 2 ^ 32 + 1800), rw := 0x7F000007FF }
  else if a = rTherm then fieldReg 8 95
  else if rPrinBuf ≤ a ∧ a < 0x40000 then { rw := BitVec.allOnes 64 }
  else reservedReg

/-- SEC block (R619 and the register table of its chapter). -/
def secSpec (a : Nat) : RegSpec :=
  if a = rSecCtl then { reset := 1, rw := 1 }
  else if a = rAttest then { wo := 0x3FF }
  else if rNonce ≤ a ∧ a < rNonce + 32 then { wo := BitVec.allOnes 64 }
  else if rImport ≤ a ∧ a < rImport + 136 then { wo := BitVec.allOnes 64 }
  else if a = rImportGo then { wo := 1 }
  else if a = rLockerClear then { wo := 0xFF }
  else if rSeal ≤ a ∧ a < rSeal + 2048 then
    (if a % 32 < 16 then { rw := BitVec.allOnes 64 } else if a % 32 = 16 then { rw := 0x03FF03FF } else roReg)
  else if a = rTeardown then { wo := 0x3FF }
  else if a = rAuthFail then counterReg
  else if rScrubList ≤ a ∧ a < rScrubList + 1024 then { rw := BitVec.allOnes 64 }
  else reservedReg

/-- XLT and FLT blocks (R371, R608, R620, R621). -/
def xltSpec (a : Nat) : RegSpec :=
  if a = rXltCtl then { reset := 0x401, rw := 0x1F01 }
  else if a = rXltStatus then { w1c := 1 }
  else if a = rTblHbase ∨ a = rTblLen then { rw := BitVec.allOnes 64 }
  else if a = rTblFpa then fieldReg 56
  else if a = rCvtBase then fieldReg 40
  else if rPfd ≤ a ∧ a < rPfd + 64 then { rw := 0x0FFFFFFFFFFFF101 }
  else if rInv ≤ a ∧ a < rInv + 32 then
    { rw := if a = rInv then BitVec.allOnes 64 else if a = rInv + 8 then 0x03FF00FFFFFFFFFF else if a = rInv + 16 then 0xFFFFFFFF0000003F else 0xFFF }
  else if a = rInvStatus then { w1c := 0x10000 }
  else if a = rInvGroup then fieldReg 12
  else if a = rInvTimeout then fieldReg 17 1000
  else if a = rDeskFaults ∨ a = rWalks ∨ a = rWalkSclk ∨ a = rPfWalks then counterReg
  else if rS2Root ≤ a ∧ a < rS2Root + 512 then { rw := 0xFFFFFFFFFFFFF00F }
  else if rS1Root ≤ a ∧ a < rS1Root + 8192 then { rw := 0xFFFFFFFFFFFFF00F }
  else if a = rFltBase then { rw := BitVec.allOnes 64 }
  else if a = rFltSize then fieldReg 17 4096
  else if a = rFltTail then { rw := BitVec.allOnes 64 }
  else if a = rFltOvf then counterReg
  else if a = rFltStatus then { rw := 0xFFFFFFFF00000000, w1c := 0xC }
  else if a = rFltResume then { wo := 0x3FFFF }
  else if a = rFltSave then { rw := 0x1FFF00FFFFFFFFC0 }
  else reservedReg

/-- COH and COL blocks (R622, R623, R608, R349). -/
def cohSpec (a : Nat) : RegSpec :=
  if a = rCohCtl then { reset := 1, rw := 3 }
  else if a = rCohMembers then { rw := BitVec.allOnes 64 }
  else if a = rCohStatus then { rw := 0xFFFFFFFF00000000, w1c := 6 }
  else if rNcWin ≤ a ∧ a < rNcWin + 64 then { rw := 0x8007FFFF0007FFFF }
  else if a = rLineRelease then { wo := BitVec.allOnes 64 }
  else if a = rPortRelease then { wo := 0x3F }
  else if a = rLostLogBase then { rw := BitVec.allOnes 64 }
  else if a = rLostLogPtr then { rw := 0xFFFFFFFF00000000 }
  else if rRetryCount ≤ a ∧ a ≤ rSnoopWait then counterReg
  else if a = rColCtl then { reset := 1, rw := 1 }
  else if a = rColStatus then { w1c := 3 }
  else if a = rRingBase then { rw := BitVec.allOnes 64 }
  else if a = rRingSize then fieldReg 17 4096
  else if a = rRingPtr then { rw := 0xFFFFFFFF00000000 }
  else if a = rColLate ∨ a = rColAborts ∨ a = rLaunchFail then counterReg
  else if rMcOwner ≤ a ∧ a < rMcOwner + 0x4000 then { rw := 0x803F03FF803F03FF }
  else reservedReg

/-- Reset of BUF_MIN: 128 cells per VC on electrical ports, 256 elsewhere (R217). CREDIT_ADV resets alike:
R183 for external ports; for internal ports the spec states none (DESIGN CHOICE, log 13). -/
def bufMinReset (port : Nat) : Word := if port < 64 then 0x0080008000800080 else 0x0100010001000100

/-- The switch registers of one port (R227, R654). -/
def swSpec (port off : Nat) : RegSpec :=
  if off = swCreditAdv ∨ off = swBufMin then { reset := bufMinReset port, rw := BitVec.allOnes 64 }
  else if off = swVcCfg then { reset := 0xF, rw := 0x770F }
  else if off = swBufUsed ∨ off = swWredAvg then roReg
  else if off ≤ swOvfFrames ∧ off % 8 = 0 then counterReg
  else reservedReg

/-- SWC block (R608, R615 to R618, R654). -/
def swcSpec (a : Nat) : RegSpec :=
  if a = rSwcCtl then { reset := 1, rw := 1 }
  else if a = rCfgStatus then { w1c := 0x8000 }
  else if a = rSharedTotal ∨ a = rSharedFree then roReg 282624
  else if a = rOvfOn then fieldReg 19 32768
  else if a = rOvfBase then fieldReg 40 0x0FBC0000000
  else if a = rOvfSize then fieldReg 7 16
  else if a = rOvfLost then counterReg
  else if a = rAgeLimit then fieldReg 17 2000
  else if a = rSwcArb then arbReg 8 0b110
  else if a = rMcStatus then { rw := 0xFFFFFFFF }
  else if rWredSet ≤ a ∧ a < rWredSet + 384 then wredReg ((a - rWredSet) / 16 % 3) ((a - rWredSet) % 16 = 8)
  else if a = rRtSwap then { rw := 0x80000000FFFFFFFF }
  else if a = rRtStatus then { w1c := 0xA }
  else if a = rRtx then { reset := BitVec.ofNat 64 (3 * 2 ^ 32 + 40), rw := 0x7000003FF }
  else if a = rWinTimeout then fieldReg 14 200
  else if a = rWinDefault then fieldReg 15 1024
  else if a = rReplyHold then fieldReg 14 256
  else if rEjectMismatch ≤ a ∧ a ≤ rRespDrop then counterReg
  else if rRtHold ≤ a ∧ a < rRtHold + 512 then { rw := BitVec.allOnes 64 }
  else if rMarker ≤ a ∧ a < rMarker + 256 then
    (if a % 16 = 0 then { rw := BitVec.allOnes 64 } else { rw := 0x0100FFFFFFFFFFFF })
  else if rCohortMarker ≤ a ∧ a < rCohortMarker + 512 then { rw := BitVec.allOnes 64 }
  else if rRtStage ≤ a ∧ a < rRtStage + 0x10000 then
    (if a % 16 = 0 then { rw := BitVec.allOnes 64 } else { rw := 0x0000008FFFFFFFFF })
  else if rWinSize ≤ a ∧ a < rWinSize + 0x2000 then { rw := BitVec.allOnes 64 }
  else if rMcGroup ≤ a ∧ a < rMcGroup + 0x4000 then { rw := 0x9FFF3FFF9FFF3FFF }
  else if rIntPort ≤ a ∧ a < rIntPort + 0x600 then swSpec (128 + (a - rIntPort) / 0x80) ((a - rIntPort) % 0x80)
  else if rMcMember ≤ a ∧ a < rMcMember + 0x8000 then { rw := 0x0FFF0FFF0FFF0FFF }
  else reservedReg

/-- G7M and OMU blocks (R615, R624, R653). -/
def g7mSpec (a : Nat) : RegSpec :=
  if a = rG7mCtl then { reset := 1, rw := 1 }
  else if a = rG7mStatus then { w1c := 1 }
  else if a = rTtRegion then { reset := BitVec.ofNat 64 (2 ^ 48 + 0x3FF * 2 ^ 30), rw := 0x001F00FFC0000000 }
  else if a = rG7mArb then arbReg 8 0x1C0
  else if a = rScrub then { reset := 24, rw := 0xFF }
  else if rChan ≤ a ∧ a < rChan + 64 * 0x1000 then
    (let off := (a - rChan) % 0x1000
     if off = 0 then { w1c := 4 } else if off ≤ 0x40 then counterReg else roReg)
  else if a = rOmuCtl then { reset := 3, rw := 3 }
  else if a = rOmuStatus then { w1c := 1 }
  else if a = rMtxDir ∨ a = rImgBase then fieldReg 40
  else if a = rMtxInval then { wo := 0xFFF }
  else if a = rOmuArb then arbReg 1 0
  else if a = rOmuCal then { reset := BitVec.ofNat 64 (10000 * 2 ^ 32 + 50000), rw := 0x000FFFFF000FFFFF }
  else reservedReg

/-- PCIE and CAL blocks (R493 to R503, R608, R612). -/
def pcieSpec (a : Nat) : RegSpec :=
  if a = rPcieCtl then { rw := 1 }
  else if a = rPcieStatus then { w1c := 4 }
  else if a = rBar2Size then roReg 16
  else if a = rStage then { rw := 0x00FFF0FFFFFFFFFF }
  else if a = rGwMembers then { rw := BitVec.allOnes 64 }
  else if a = rGwNode then fieldReg 12
  else if a = rRelayRefused then counterReg
  else if rFnCohort ≤ a ∧ a < rFnCohort + 65 * 8 then fieldReg 10
  else if rAperture ≤ a ∧ a < rAperture + 0x800 then
    { reset := if a = rAperture + 8 then BitVec.ofNat 64 (2 ^ 40) else if a = rAperture + 16 then BitVec.ofNat 64 (2 ^ 63)
               else if a = rAperture + 24 then 1 else 0
      rw := if a % 32 = 16 then 0x80FFFFFFFFFFFFFF else BitVec.allOnes 64 }
  else if rPasidMap ≤ a ∧ a < rPasidMap + 0x2000 then { rw := 0x800003FF000FFFFF }
  else if rRelay ≤ a ∧ a < rRelay + 0x1000 then { rw := BitVec.allOnes 64 }
  else if a = rCalStatus then { rw := 0xFFFFFFFF00000000 }
  else if a = rCalCommit then fieldReg 8 24
  else if a = rCalWinBase then { rw := 0xFFFFFFFFFFFF0000 }
  else reservedReg

/-- The link and lane registers of an electrical port ("Electrical Lanes and the Host Link"). -/
def elecSpec (off : Nat) : RegSpec :=
  if off = lCtl then { reset := BitVec.ofNat 64 (40 * 2 ^ 32 + 64 * 2 ^ 24 + 20 * 2 ^ 14 + 1), rw := 0xFFFFFFFFC1, wo := 2 }
  else if off = lStatus then { w1c := 0x8000 }
  else if off = lAudit then { rw := 0x83000000FFFFFFFF, w1c := 0x4000000000000000 }
  else if off = lDelay then roReg
  else if off ≤ lUncorr then counterReg
  else if 0x200 ≤ off ∧ off < 0x300 then
    (let o := off % 0x40
     if o = 0 then { reset := 0xFF00 } else if o = 8 then { rw := 0x000000FC0000F0F0, wo := 0x0000000300000000 }
     else if o = 0x28 then counterReg else roReg)
  else reservedReg

/-- The link and wavelength registers of an optical port ("Optical Ports and Lasers"). -/
def optSpec (off : Nat) : RegSpec :=
  if off = lCtl then { reset := BitVec.ofNat 64 (30 * 2 ^ 24 + 12 * 2 ^ 16 + 1), rw := 0xFF0F0005, wo := 0xA }
  else if off = lStatus then { w1c := 0x8000 }
  else if off = lActive ∨ off = lDelay then roReg
  else if off ≤ lReplays then counterReg
  else if 0x200 ≤ off ∧ off < 0x600 then
    (let o := off % 0x40
     if o = 0 then { w1c := 0xB00 } else if o = 0x20 ∨ o = 0x28 ∨ o = 0x30 then counterReg else roReg)
  else reservedReg

/-- The registers of one Classroom (R276, R626). -/
def classSpec (off : Nat) : RegSpec :=
  if off = crFault then { w1c := 0x3F }
  else if off = crFaultEn then fieldReg 6 0x3F
  else if off = crOvrCount ∨ off = crStretchOvr ∨ off = crRoleDrop ∨ off = crInboxOvw ∨ off = crLtErr then counterReg
  else if off = crBbArb then arbReg 1 0b111
  else if off = crSpill then { reset := BitVec.ofNat 64 (64 * 2 ^ 32 + 0x34000), rw := 0x000001FF0003FFFF }
  else if off = crSlotArea then { reset := BitVec.ofNat 64 (4 * 2 ^ 32 + 0x2F800), rw := 0x0000003F0003FFFF }
  else if crBbOwner ≤ off ∧ off < crBbOwner + 32 then { rw := 0x83FF000FFFFFFFFF }
  else roReg

/-- The register at an 8-byte-aligned BAR0 address (R606). -/
def regSpec (a : Nat) : RegSpec :=
  if a < 0x10000 then glbSpec a
  else if a < 0x20000 then bellSpec a
  else if a < 0x30000 then rstSpec a
  else if a < 0x40000 then prinSpec a
  else if a < 0x50000 then secSpec a
  else if a < 0x70000 then xltSpec a
  else if a < 0x90000 then cohSpec a
  else if a < 0x100000 then reservedReg
  else if a < 0x200000 then swcSpec a
  else if a < 0x400000 then g7mSpec a
  else if a < 0x600000 then pcieSpec a
  else if a < rPortBlock then reservedReg
  else if a < rWingBlock then
    (let n := (a - rPortBlock) / 0x10000
     let off := (a - rPortBlock) % 0x10000
     if 0x100 ≤ off ∧ off < 0x178 then swSpec n (off - 0x100) else if n < 64 then elecSpec off else optSpec off)
  else
    (let off := (a - rWingBlock) % 0x400000
     if rWingBlock + 0x1000000 ≤ a then reservedReg
     else if off < 300 * 0x1000 then (if off % 0x1000 < 0x90 then classSpec (off % 0x1000) else reservedReg) else roReg)

/-- The reset value of the register at an address (R9). -/
def regReset (a : Nat) : Word := (regSpec a).reset

/-! ### The DEP-7 register window (R533) -/

def eId := 0x0
def eCtl := 0x8
def eStatus := 0x10
def eNode := 0x18
def eMode := 0x20
def eExpose := 0x28
def eRetryLimit := 0x30
def eRtx := 0x38
def eWinTimeout := 0x40
def eWinDefault := 0x48
def eReplyHold := 0x50
def eInTimeout := 0x58
def eIntStatus := 0x60
def eIntEn := 0x68
def eXltFaults := 0x70
def eSatchelUe := 0x78
def eReplyFull := 0x80
def ePredNear := 0x88
def ePredFarCnt := 0x90
def eRtxCount := 0x98
def eThreadCohort := 0x100
def eExpSeg := 0x200
def eMarker := 0x400
def eCohortMarker := 0x500
def eElecCtl := 0x800
def eElecStatus := 0x808
def eLane := 0xA00
def eRtHold := 0x1000
def eWinSize := 0x4000
def eWinOut := 0x6000
def eRt := 0x10000

/-- The register at an 8-byte-aligned offset of a DEP-7's window (R533). -/
def epSpec (a : Nat) : RegSpec :=
  if a = eCtl then { reset := 2, rw := 7 }
  else if a = eStatus then { w1c := 0xE000 }
  else if a = eNode then { rw := 0x80000000003F0FFF }
  else if a = eExpose then fieldReg 45
  else if a = eRetryLimit then fieldReg 8 64
  else if a = eRtx then { reset := BitVec.ofNat 64 (3 * 2 ^ 32 + 40), rw := 0x7000003FF }
  else if a = eWinTimeout then fieldReg 14 200
  else if a = eWinDefault then fieldReg 15 1024
  else if a = eReplyHold then fieldReg 14 256
  else if a = eInTimeout then fieldReg 14 100
  else if a = eIntStatus then { w1c := 0x3F }
  else if a = eIntEn then fieldReg 6 0x3F
  else if eXltFaults ≤ a ∧ a ≤ eRtxCount then counterReg
  else if eThreadCohort ≤ a ∧ a < 0x180 then { rw := 0x03FF03FF03FF03FF }
  else if eExpSeg ≤ a ∧ a < 0x300 then { rw := if a % 32 = 24 then 0x8000000000000000 else BitVec.allOnes 64 }
  else if eMarker ≤ a ∧ a < 0x500 then (if a % 16 = 0 then { rw := BitVec.allOnes 64 } else { rw := 0x0100FFFFFFFFFFFF })
  else if eCohortMarker ≤ a ∧ a < 0x700 then { rw := BitVec.allOnes 64 }
  else if a = eElecCtl then
    { reset := BitVec.ofNat 64 (40 * 2 ^ 32 + 64 * 2 ^ 24 + 20 * 2 ^ 14 + 1), rw := 0xFFFFFFFE41, wo := 2 }
  else if a = eElecStatus then { w1c := 0x8000 }
  else if eLane ≤ a ∧ a < eLane + 0x100 then
    (let o := a % 0x40
     if o = 0 then { reset := 0xFF0000FF00, rw := 0xFF00000000 }
     else if o = 8 then { rw := 0x000000FC0000F0F0, wo := 0x0000000300000000 }
     else if o = 0x28 then counterReg else roReg)
  else if eRtHold ≤ a ∧ a < 0x1200 then { reset := BitVec.allOnes 64, rw := BitVec.allOnes 64 }
  else if eWinSize ≤ a ∧ a < 0x6000 then { rw := BitVec.allOnes 64 }
  else if eRt ≤ a ∧ a < 0x20000 then (if a % 16 = 0 then { rw := BitVec.allOnes 64 } else { rw := 0x0000008FFFFFFFFF })
  else reservedReg

/-- The reset value of a DEP-7 register (R507). -/
def epReset (a : Nat) : Word := (epSpec a).reset

end Sys2Proof.Machine
end

