-- ==== Sys2Proof/Machine/Tab.lean ====
section
/-! DEFINITION. Sparse tables: the one form in which State holds memory, registers and every array of
like things. A table lists, by rising key, only the entries that differ from its default. -/

namespace Sys2Proof.Machine

/-- A sparse table over a default function: rising keys, no entry equal to its default. -/
abbrev Tab (α : Type) := List (Nat × α)

/-- The entry at a key: the listed one, or the default. -/
def tget {α : Type} (d : Nat → α) : Tab α → Nat → α
  | [], k => d k
  | (k', v) :: r, k => if k' = k then v else tget d r k

/-- Drop every entry of a key. -/
def terase {α : Type} : Tab α → Nat → Tab α
  | [], _ => []
  | (k', v') :: r, k => if k' = k then terase r k else (k', v') :: terase r k

/-- Write one entry, keeping the canonical form: what the key had goes, and a value other than its default is listed
in its place. -/
def tput {α : Type} [DecidableEq α] (d : Nat → α) : Tab α → Nat → α → Tab α
  | [], k, v => if v = d k then [] else [(k, v)]
  | (k', v') :: r, k, v =>
    if k < k' then (if v = d k then (k', v') :: terase r k else (k, v) :: (k', v') :: terase r k)
    else if k' = k then tput d r k v
    else (k', v') :: tput d r k v

/-- Return every key of a range to its default. -/
def tclear {α : Type} (t : Tab α) (lo hi : Nat) : Tab α :=
  t.filter (fun e => e.1 < lo || hi ≤ e.1)

/-- The canonical form of a table. -/
def tableOk {α : Type} [DecidableEq α] (d : Nat → α) : Tab α → Bool
  | [] => true
  | (k, v) :: r => v ≠ d k && r.all (fun e => k < e.1) && tableOk d r

/-- Field of `len` bits from bit `lo` of a register. -/
def fget (w : Word) (lo len : Nat) : Nat := w.toNat / 2 ^ lo % 2 ^ len

/-- Replace the field of `len` bits from bit `lo`. -/
def fset (w : Word) (lo len v : Nat) : Word :=
  BitVec.ofNat 64 (w.toNat % 2 ^ lo + (v % 2 ^ len) * 2 ^ lo + w.toNat / 2 ^ (lo + len) * 2 ^ (lo + len))

/-- Bytes of a number, little-endian (R5). -/
def leBytes : Nat → Nat → List Byte
  | 0, _ => []
  | n + 1, v => BitVec.ofNat 8 v :: leBytes n (v / 256)

/-- Number whose little-endian bytes these are (R5). -/
def leNat : List Byte → Nat
  | [] => 0
  | b :: r => b.toNat + 256 * leNat r

/-- Bytes `off` to `off + n - 1` of a byte string, as a number. -/
def leAt (l : List Byte) (off n : Nat) : Nat := leNat ((l.drop off).take n)

end Sys2Proof.Machine
end

