-- ==== Sys2Proof/Machine/Float.lean ====
section
/-! DEFINITION. The eight storage formats, rounding and default results ("Number Formats and the
Tally", R312 to R319), and the counter-based generator (R331). -/

namespace Sys2Proof.Machine

/-- The storage formats of R312. -/
inductive Fmt where
  | fp64 | fp32 | bf16 | fp16 | e4m3 | e5m2 | int32 | int8
deriving DecidableEq, Repr

/-- Width of a format in bits (R312). -/
def Fmt.width : Fmt → Nat
  | .fp64 => 64 | .fp32 => 32 | .bf16 => 16 | .fp16 => 16 | .e4m3 => 8 | .e5m2 => 8 | .int32 => 32 | .int8 => 8

/-- Fraction bits of a floating-point format (R312). -/
def Fmt.frac : Fmt → Nat
  | .fp64 => 52 | .fp32 => 23 | .bf16 => 7 | .fp16 => 10 | .e4m3 => 3 | .e5m2 => 2 | .int32 => 0 | .int8 => 0

/-- Exponent bias of a floating-point format (R312). -/
def Fmt.bias : Fmt → Nat
  | .fp64 => 1023 | .fp32 => 127 | .bf16 => 127 | .fp16 => 15 | .e4m3 => 7 | .e5m2 => 15 | .int32 => 0 | .int8 => 0

/-- Whether a format holds integers. -/
def Fmt.isInt : Fmt → Bool
  | .int32 => true | .int8 => true | _ => false

/-- Exponent-field width. -/
def Fmt.expBits (f : Fmt) : Nat := f.width - 1 - f.frac

/-- Magnitude bits of infinity, or of the first encoding above the finite ones. -/
def Fmt.infBits (f : Fmt) : Nat :=
  if f = .e4m3 then 0x7F else (2 ^ f.expBits - 1) * 2 ^ f.frac

/-- The canonical quiet NaN (R313); an integer format has none and takes 0 (R318). -/
def Fmt.nan : Fmt → Nat
  | .fp64 => 0x7FF8000000000000 | .fp32 => 0x7FC00000 | .bf16 => 0x7FC0 | .fp16 => 0x7E00
  | .e4m3 => 0x7F | .e5m2 => 0x7E | .int32 => 0 | .int8 => 0

/-- A value of a format: a NaN, an infinity, or (−1)^neg · m · 2^e. -/
inductive FVal where
  | nan
  | inf (neg : Bool)
  | fin (neg : Bool) (m : Nat) (e : Int)
deriving DecidableEq, Repr

/-- Two's-complement value of the low `w` bits of `n`. -/
def sgn (w n : Nat) : Int := if 2 ^ (w - 1) ≤ n % 2 ^ w then (n % 2 ^ w : Int) - 2 ^ w else (n % 2 ^ w : Int)

/-- A finite value from an integer. -/
def FVal.ofInt (i : Int) : FVal := .fin (i < 0) i.natAbs 0

/-- The value an encoding stands for (R312 to R314). -/
def decodeF (f : Fmt) (bits : Nat) : FVal :=
  if f.isInt then FVal.ofInt (sgn f.width bits)
  else
    let b := bits % 2 ^ f.width
    let neg := decide (2 ^ (f.width - 1) ≤ b)
    let mag := b % 2 ^ (f.width - 1)
    if mag > f.infBits then .nan
    else if mag = f.infBits then (if f = .e4m3 then .nan else .inf neg)
    else
      let ef := mag / 2 ^ f.frac
      let fr := mag % 2 ^ f.frac
      if ef = 0 then .fin neg fr (1 - (f.bias : Int) - f.frac)
      else .fin neg (2 ^ f.frac + fr) ((ef : Int) - f.bias - f.frac)

/-- Rounding modes (R315, R286). -/
inductive Rnd where
  | nearest | zero | up | down | away
  | stochastic (u : Nat)
deriving DecidableEq, Repr

/-- Whether rounding takes the far neighbour b: `rem` out of `2 ^ k` is the part beyond a (R315, R317). -/
def roundUp (r : Rnd) (neg : Bool) (aOdd : Bool) (k rem : Nat) (sticky : Bool) : Bool :=
  if rem = 0 && !sticky then false
  else match r with
    | .nearest => decide (2 ^ k < 2 * rem) || (decide (2 ^ k = 2 * rem) && (aOdd || sticky))
    | .zero => false
    | .up => !neg
    | .down => neg
    | .away => decide (2 ^ k ≤ 2 * rem)
    | .stochastic u => decide (u < rem * 2 ^ 32 / 2 ^ k)

/-- The magnitude (m, and something below its last bit if `sticky`) × 2^e, cut at weight 2^q. -/
def cutAt (m : Nat) (e q : Int) : Nat × Nat × Nat :=
  if q ≤ e then (m * 2 ^ (e - q).toNat, 0, 0)
  else
    let k := (q - e).toNat
    (m / 2 ^ k, k, m % 2 ^ k)

/-- Clamp an integer to a two's-complement width and give its bits (R318). -/
def satInt (w : Nat) (i : Int) : Nat :=
  let lo : Int := -(2 ^ (w - 1) : Int)
  let hi : Int := 2 ^ (w - 1) - 1
  let c := if i < lo then lo else if hi < i then hi else i
  (c % (2 ^ w : Int)).toNat

/-- Round a finite value once to a format (R315 to R318). -/
def roundFin (f : Fmt) (r : Rnd) (neg : Bool) (m : Nat) (e : Int) (sticky : Bool) : Nat :=
  if f.isInt then
    let (a, k, rem) := cutAt m e 0
    let v := if roundUp r neg (a % 2 = 1) k rem sticky then a + 1 else a
    satInt f.width (if neg then -(v : Int) else v)
  else
    let sign := if neg then 2 ^ (f.width - 1) else 0
    if m = 0 then sign
    else
      let emin : Int := 1 - (f.bias : Int)
      let emax : Int := if f = .e4m3 then 8 else f.bias
      let top : Int := (Nat.log2 m : Int) + e
      if emax < top then
        let far := match r with
          | .zero => false
          | .up => !neg
          | .down => neg
          | _ => true
        sign + (if f = .e4m3 || !far then f.infBits - 1 else f.infBits)
      else
        let q := (if top < emin then emin else top) - f.frac
        let (a, k, rem) := cutAt m e q
        let v := if roundUp r neg (a % 2 = 1) k rem sticky then a + 1 else a
        let bits := (q - (emin - f.frac)).toNat * 2 ^ f.frac + v
        sign + (if f.infBits ≤ bits then (if f = .e4m3 then f.infBits - 1 else f.infBits) else bits)

/-- Bits of an infinity of a format (R318, R319). -/
def infOf (f : Fmt) (neg : Bool) : Nat :=
  if f.isInt then (if neg then 2 ^ (f.width - 1) else 2 ^ (f.width - 1) - 1)
  else if f = .e4m3 then 0x7F
  else f.infBits + (if neg then 2 ^ (f.width - 1) else 0)

/-- Encode a value in a format, rounding once (R314 to R319). -/
def encodeF (f : Fmt) (r : Rnd) : FVal → Nat
  | .nan => f.nan
  | .inf neg => infOf f neg
  | .fin neg m e => roundFin f r neg m e false

/-- Negate a value. -/
def FVal.neg : FVal → FVal
  | .nan => .nan
  | .inf n => .inf (!n)
  | .fin n m e => .fin (!n) m e

/-- Exact product (R319: 0 × ∞ is a NaN). -/
def FVal.mul : FVal → FVal → FVal
  | .nan, _ => .nan
  | _, .nan => .nan
  | .inf a, .inf b => .inf (xor a b)
  | .inf a, .fin b m _ => if m = 0 then .nan else .inf (xor a b)
  | .fin a m _, .inf b => if m = 0 then .nan else .inf (xor a b)
  | .fin a m e, .fin b n f => .fin (xor a b) (m * n) (e + f)

/-- Signed integer at a common exponent. -/
def alignInt (neg : Bool) (m : Nat) (e lo : Int) : Int :=
  let v : Int := m * 2 ^ (e - lo).toNat
  if neg then -v else v

/-- Exact sum; an exact zero of opposite signs is +0, or −0 under RND 3 (R319). -/
def FVal.add (r : Rnd) : FVal → FVal → FVal
  | .nan, _ => .nan
  | _, .nan => .nan
  | .inf a, .inf b => if a = b then .inf a else .nan
  | .inf a, .fin _ _ _ => .inf a
  | .fin _ _ _, .inf b => .inf b
  | .fin a m e, .fin b n f =>
    let lo := min e f
    let x := alignInt a m e lo + alignInt b n f lo
    if x = 0 then .fin (if a = b then a else decide (r = .down)) 0 lo
    else .fin (decide (x < 0)) x.natAbs lo

/-- Order of two values that are not NaN; −0 is less than +0 (R89). -/
def FVal.lt : FVal → FVal → Bool
  | .nan, _ => false
  | _, .nan => false
  | .inf a, .inf b => a && !b
  | .inf a, .fin _ _ _ => a
  | .fin _ _ _, .inf b => !b
  | .fin a m e, .fin b n f =>
    let lo := min e f
    let x := alignInt a m e lo
    let y := alignInt b n f lo
    if x = y then (decide (m = 0)) && a && !b else decide (x < y)

/-- Numerical equality (−0 equals +0). -/
def FVal.eq : FVal → FVal → Bool
  | .inf a, .inf b => a == b
  | .fin a m e, .fin b n f => let lo := min e f; alignInt a m e lo == alignInt b n f lo
  | _, _ => false

/-- FP MIN or MAX on encodings (R89). -/
def fpMinMax (f : Fmt) (isMax : Bool) (x y : Nat) : Nat :=
  match decodeF f x, decodeF f y with
  | .nan, .nan => f.nan
  | .nan, _ => y % 2 ^ f.width
  | _, .nan => x % 2 ^ f.width
  | a, b => if isMax then (if a.lt b then y % 2 ^ f.width else x % 2 ^ f.width)
            else (if b.lt a then y % 2 ^ f.width else x % 2 ^ f.width)

/-! ### The generator (R331) -/

def rotl32 (v : BitVec 32) (n : Nat) : BitVec 32 := (v <<< n) ||| (v >>> (32 - n))

def genRA : List Nat := [7, 13, 27, 5, 19, 23, 11, 29, 3, 16]
def genRB : List Nat := [21, 9, 17, 30, 11, 2, 26, 15, 18, 25]

/-- The four words of the generator's block. -/
structure GenX where
  x0 : BitVec 32
  x1 : BitVec 32
  x2 : BitVec 32
  x3 : BitVec 32
deriving DecidableEq, Repr

/-- Key word i of a seed: 0 to 3 from the seed, 4 their XOR with the constant (R331). -/
def genKey (seed : BitVec 128) (i : Nat) : BitVec 32 :=
  let k (j : Nat) : BitVec 32 := BitVec.ofNat 32 (seed.toNat / 2 ^ (32 * j))
  if i < 4 then k i else k 0 ^^^ k 1 ^^^ k 2 ^^^ k 3 ^^^ 0x6C8E9CF5

/-- One round of the generator. -/
def genRound (seed : BitVec 128) (r : Nat) (g : GenX) : GenX :=
  let a0 := g.x0 + g.x1
  let a1 := rotl32 g.x1 (genRA.getD r 0) ^^^ a0
  let a2 := g.x2 + g.x3
  let a3 := rotl32 g.x3 (genRB.getD r 0) ^^^ a2
  if r % 2 = 1 then
    let s := (r + 1) / 2
    { x0 := a0 + genKey seed (s % 5), x1 := a3 + genKey seed ((s + 1) % 5),
      x2 := a2 + genKey seed ((s + 2) % 5), x3 := a1 + genKey seed ((s + 3) % 5) + BitVec.ofNat 32 s }
  else { x0 := a0, x1 := a3, x2 := a2, x3 := a1 }

/-- G(K, step, stream, elem) of R331. -/
def generator (seed : BitVec 128) (step : Word) (stream elem : BitVec 32) : BitVec 128 :=
  let g : GenX := { x0 := BitVec.ofNat 32 step.toNat + genKey seed 0, x1 := BitVec.ofNat 32 (step.toNat / 2 ^ 32) + genKey seed 1,
                    x2 := stream + genKey seed 2, x3 := elem + genKey seed 3 }
  let o := (List.range 10).foldl (fun g r => genRound seed r g) g
  o.x3 ++ o.x2 ++ o.x1 ++ o.x0

end Sys2Proof.Machine
end

