-- ==== Sys2Proof/Machine/Tally.lean ====
section
/-! DEFINITION. The Tally and the Long Tally, their residue check and read-out (R320 to R329). -/

namespace Sys2Proof.Machine

/-- An exact accumulator: the flags, RES and VALUE of R320 and R325. -/
structure Acc where
  nan   : Bool := false
  ninf  : Bool := false
  pinf  : Bool := false
  range : Bool := false
  err   : Bool := false
  res   : Nat := 0
  val   : Int := 0
deriving DecidableEq, Repr

/-- VALUE bits of a Tally (R320). -/
def tallyW : Nat := 619
/-- Weight of a Tally's bit 0 is 2^−298 (R320). -/
def tallyQ : Nat := 298
/-- VALUE bits of a Long Tally (R325). -/
def longW : Nat := 4261
/-- Weight of a Long Tally's bit 0 is 2^−2148 (R325). -/
def longQ : Nat := 2148

/-- The residue r(N) = N mod 255, in 0 to 254 (R328). -/
def residue (n : Int) : Nat := (n % 255).toNat

/-- The image of an accumulator whose VALUE has w bits (R320, R325). -/
def Acc.pack (w : Nat) (a : Acc) : Nat :=
  (a.val % (2 ^ w : Int)).toNat + 2 ^ w * (a.res % 256 + 256 * (a.err.toNat + 2 * (a.range.toNat + 2 * (a.pinf.toNat
    + 2 * (a.ninf.toNat + 2 * a.nan.toNat)))))

/-- The accumulator an image holds (R320, R325). -/
def Acc.unpack (w n : Nat) : Acc :=
  let f := n / 2 ^ (w + 8)
  { val := sgn w n, res := n / 2 ^ w % 256, err := f.testBit 0, range := f.testBit 1, pinf := f.testBit 2,
    ninf := f.testBit 3, nan := f.testBit 4 }

/-- What the adder puts out for `k` units more, off by `upset`. -/
def Acc.adder (w : Nat) (a : Acc) (k upset : Int) : Int := Int.bmod (a.val + k + upset) (2 ^ w)
/-- The residue check fails on an add of `k` units (R329). -/
def Acc.failsUnits (w : Nat) (a : Acc) (k upset : Int) : Bool := (a.res + residue k) % 255 ≠ residue (Acc.adder w a k upset)
/-- Add the integer `k` units through an adder whose output is off by `upset` (0: no upset); checks R322 and R329. -/
def Acc.addUnits (w : Nat) (a : Acc) (k upset : Int) : Acc :=
  let sum := a.val + k
  if sum < -(2 ^ (w - 1) : Int) ∨ (2 ^ (w - 1) : Int) ≤ sum then { a with err := true, range := true }
  else
    if Acc.failsUnits w a k upset then { a with err := true }
    else { a with val := Acc.adder w a k upset, res := residue (Acc.adder w a k upset) }

/-- A finite value in units of 2^−q; none where it is no multiple of one. -/
def unitsOf (q : Nat) (neg : Bool) (m : Nat) (e : Int) : Option Int :=
  let p := e + q
  if 0 ≤ p then some (alignInt neg m p 0)
  else
    let d := 2 ^ (-p).toNat
    if m % d = 0 then some (if neg then -((m / d : Nat) : Int) else (m / d : Nat)) else none
/-- Add a value of weight 2^−q units: R322 when finite, R323 otherwise. -/
def Acc.addVal (w q : Nat) (a : Acc) (x : FVal) (upset : Int) : Acc :=
  match x with
  | .nan => { a with nan := true }
  | .inf neg => if neg then { a with ninf := true } else { a with pinf := true }
  | .fin neg m e => match unitsOf q neg m e with
    | some k => a.addUnits w k upset
    | none => { a with err := true, range := true }
/-- The residue check fails on an add of a value that is in range (R322, R329). -/
def Acc.failsVal (w q : Nat) (a : Acc) (x : FVal) (upset : Int) : Bool :=
  match x with
  | .fin neg m e => (match unitsOf q neg m e with
    | some k => decide (-(2 ^ (w - 1) : Int) ≤ a.val + k) && decide (a.val + k < (2 ^ (w - 1) : Int)) && Acc.failsUnits w a k upset
    | none => false)
  | _ => false

/-- TLDA: the image's flags are ORed in, and its VALUE added where its ERR is 0 and its RES matches (R323). -/
def Acc.addImage (w : Nat) (a i : Acc) (upset : Int) : Acc :=
  let bad := i.err || i.res ≠ residue i.val
  let b := { a with nan := a.nan || i.nan, ninf := a.ninf || i.ninf, pinf := a.pinf || i.pinf,
                    range := a.range || i.range, err := a.err || bad }
  if bad then b else b.addUnits w i.val upset

/-- Read-out of R324: none completes with DATA_ERR. -/
def Acc.readout (q : Nat) (a : Acc) (f : Fmt) (r : Rnd) : Option Nat :=
  if a.err then none
  else if a.nan || (a.pinf && a.ninf) then some f.nan
  else if a.pinf then some (infOf f false)
  else if a.ninf then some (infOf f true)
  else if a.val = 0 then some 0
  else some (roundFin f r (decide (a.val < 0)) a.val.natAbs (-(q : Int)) false)

/-- The accumulator that holds the exact value of an element (R92). -/
def Acc.ofElem (w q : Nat) (f : Fmt) (bits : Nat) : Acc := Acc.addVal w q {} (decodeF f bits) 0

/-- Element type of a reduction (R82). -/
def typeFmt (t : Nat) : Option Fmt :=
  if t = 4 then some .fp32 else if t = 5 then some .fp64 else if t = 6 then some .bf16 else if t = 7 then some .fp16 else none

/-- Element size of R82 in bytes; 0 for a reserved code. -/
def typeSize (t : Nat) : Nat :=
  if t ≤ 1 then 4 else if t ≤ 3 then 8 else if t = 4 then 4 else if t = 5 then 8 else if t ≤ 7 then 2 else 0

/-- VALUE width of the accumulators that serve a format (R92, R337). -/
def accW (f : Fmt) : Nat := if f = .fp64 then longW else tallyW
/-- Unit weight of the accumulators that serve a format. -/
def accQ (f : Fmt) : Nat := if f = .fp64 then longQ else tallyQ

end Sys2Proof.Machine
end

