-- ==== Sys2Proof/Machine/State.lean ====
section
/-! DEFINITION. The state of one ZL7 module and the DEP-7s on its electrical ports. -/

namespace Sys2Proof.Machine

/-! ### What leaves the block -/

/-- Where an ejected frame is handed over (R177, R237, R649). -/
inductive Sink where
  | port (p : Nat)
  | multicast
  | control
  | source
  | bell
deriving DecidableEq, Repr

/-- A link control word (R182, R465, R460, R480, R481, R484, R485, R530). -/
inductive LinkWord where
  | credit (vc cells : Nat)
  | creditStart (advert : Word)
  | swap (k : Nat)
  | swapAck (k : Nat)
  | join (k : Nat)
  | joinAck (k : Nat)
  | results (set : BitVec 16)
  | leave (k : Nat)
  | test (on : Bool)
  | testAck
  | loop (mode : Nat)
  | loopAck
  | audit (lesson : Nat) (lane : Nat)
  | auditAck
  | sleep (asleep : Bool)
  | strict (strict predFar : Bool)
  | injectOne (lane : Nat)
deriving DecidableEq, Repr

/-- How a PCI Express request ends (R495, R497, R645). -/
inductive Cpl where
  | success | unsupported | abort
deriving DecidableEq, Repr

/-- An element of the block's output trace. -/
inductive Out where
  /-- A frame whose last cell left an external port (R213). -/
  | frame (port : Nat) (f : Frame)
  /-- A frame that left a Melium port as the payload of a tunnel frame with its two header bytes (R472). -/
  | tunnel (port : Nat) (out cls : Nat) (f : Frame)
  /-- A frame that a DEP-7 sends to the module on its link. -/
  | depFrame (p : Nat) (f : Frame)
  /-- A frame handed to an internal port or engine (R177). -/
  | deliver (sink : Sink) (f : Frame)
  /-- A link control word sent on an external port. -/
  | word (port : Nat) (w : LinkWord)
  /-- A frame that a DEP-7 has accepted, for the engine whose row serves it (R179). -/
  | depDeliver (p : Nat) (f : Frame)
  /-- A link control word that a DEP-7 sends. -/
  | depWord (p : Nat) (w : LinkWord)
  /-- An MSI-X vector (R499). -/
  | msix (v : Nat)
  /-- An access that a Seat puts on its Classroom's or Wing's networks (R259, R260). -/
  | access (desk seat id : Nat)
  /-- A request that a stream engine puts on the Wings' networks (R120). -/
  | streamAccess (w e : Nat) (f : Frame)
  /-- A vector that leaves towards the Prism steering switch (R436). -/
  | vector (prism : Nat) (v : PrismVector)
  /-- A completion on an RS channel: thread, tag, status, data, and the retry or fault reason (R513). -/
  | rs (p : Nat) (thread tag status reason : Nat) (final : Bool) (off : Nat) (data : List Byte)
  /-- A request on an IQ channel of a die: itag, opcode, address, data (R517). -/
  | iq (p : Nat) (itag : Nat) (op : Nat) (addr : Nat) (len : Nat) (data : List Byte)
  /-- A BAR2 completion: request number, how it ends, data (R495 to R497). -/
  | bar2 (id : Nat) (c : Cpl) (data : List Byte)
  /-- An advisory non-fatal report through AER (R497, R645). -/
  | aer (c : Cpl)
  /-- An output pin by name and level. -/
  | pin (name : String) (level : Bool)
  /-- A DEP-7 output pin. -/
  | depPin (p : Nat) (name : String) (level : Bool)
deriving DecidableEq, Repr

/-! ### Bells and timetables -/

/-- What a Bell frame carries (R54). -/
structure BellInfo where
  lesson  : Word
  n       : Nat
  stretch : Nat
  strict  : Bool
  pin     : Bool
  halt    : Bool
  guard   : Nat
  master  : BitVec 12
  hops    : Nat
  delay   : Nat
  lead    : Nat
deriving DecidableEq, Repr

/-- The point a Lesson has reached (R35, R31). -/
inductive Phase where
  | idle | rung | checked | activated | swapped | gapped | body | guard
deriving DecidableEq, Repr

/-- A timetable page beyond what BELL.TT_STATE shows (R36 to R40). -/
structure Page where
  /-- AT_LESSON of the post. -/
  at_   : Nat := 0
  /-- Rank of the post among all posts (R40). -/
  order : Nat := 0
  /-- The post was written during the roll call in progress (R39). -/
  fresh : Bool := false
  /-- The content the loader has read (R41). -/
  tt    : Option Timetable := none
  /-- Preload entries translated so far, in order: those of the list before this number (R382). -/
  pre     : Nat := 0
  /-- The loader stalls (R382, R396): 0 no, 1 its fault record is posted, 2 its fault waits for room in the queue. -/
  stalled : Nat := 0
deriving DecidableEq, Repr

/-- The active run. -/
structure Run where
  page   : Fin 2
  tt     : Timetable
  /-- Index of the current Lesson in the run. -/
  index  : Nat
deriving DecidableEq, Repr

/-- The Lesson timeline, the election and the stretch (R28 to R67, R650, R651). -/
structure Bell where
  /-- N, G and LEAD in force (R34). -/
  n        : Nat := 1000
  guard    : Nat := 1024
  lead     : Nat := 400
  phase    : Phase := .idle
  /-- Content of the Bell frame sent or received for the next Bell. -/
  next     : Option BellInfo := none
  /-- DCLK edge at which the next Bell rings, where a Bell frame has fixed it (R57). -/
  due      : Nat := 0
  /-- STRICT of the latest Bell frame (R43). -/
  frameStrict : Bool := false
  /-- A Bell has been missed and none has come since (R60). -/
  waiting  : Bool := false
  /-- This module has sent or received a Bell frame since its module reset (R536). -/
  governed : Bool := false
  /-- Best candidacy heard: PRIO, node (R51). -/
  best     : Option (Nat × Nat) := none
  /-- An election has ended and the new master's first Bell frame has not come (R60). -/
  elected  : Bool := false
  /-- A loss was declared; BELL_LOST is to be raised at the new master's first frame (R60). -/
  lost     : Bool := false
  /-- A partition map has been applied, and the partitions whose map has been (R51, R536). -/
  mapped   : Bool := false
  mappedOf : BitVec 64 := 0
  /-- A Bell master governs the module's Bells: its election has ended, or a Bell frame has come (R52, R650). -/
  led      : Bool := false
  /-- BELL.CTL.PART has changed, and no Bell frame of the new partition has come (R650). -/
  moved    : Bool := false
  /-- BELL_OUT is high (R61). -/
  pinOut   : Bool := false
  /-- HALT stands, with the value BELL.LEAD had when it began (R58). -/
  halt     : Option Nat := none
  /-- An edge of BELL_IN has come since the last Bell (R61). -/
  edge     : Bool := false
  /-- Stretch request of each member, by node: codes of R54 (R651). -/
  requests : Tab Nat := []
  /-- This module's own request code. -/
  own      : Nat := 0
  /-- Lessons whose Bell frame has been sent since the last withdrawal (R66). -/
  held     : Nat := 0
  /-- PWR_ALERT_N, COOLANT_ALERT_N and junction causes (R63). -/
  pwr      : Bool := false
  cool     : Bool := false
  hot      : Bool := false
  /-- The two alert pins are asserted, and the Lesson in which each last became so (R639). -/
  pwrPin   : Bool := false
  coolPin  : Bool := false
  pwrAt    : Option Word := none
  coolAt   : Option Word := none
  /-- Best-effort gating of R65. -/
  gate     : Bool := false
  /-- Stretch code that the master placed in its latest Bell frame (R64, R66). -/
  placed   : Nat := 0
  /-- Lesson-plan range of the run that ended at this roll call or at its Bell (R42, R44). -/
  ranged   : Option (Nat × Nat) := none
  /-- Gating was in force at some time in this Lesson (R65). -/
  gated    : Bool := false
  /-- STRICT value waiting to take effect (R357). -/
  strictNext : Option Bool := none
  /-- Consecutive Lessons with a counted overrun, by cohort (R48). -/
  ovr      : Tab Nat := []
  posts    : Nat := 0
  pages    : Vector Page 2 := Vector.replicate 2 {}
  run      : Option Run := none
  /-- Page whose run begins at the roll call after the changeover Lesson (R42). -/
  change   : Option (Fin 2) := none
  /-- A page passed R43 at this roll call (R35). -/
  passed   : Option (Fin 2) := none
  /-- The Lesson is empty (R45). -/
  empty    : Bool := true
  /-- `now` at the latest Bell. -/
  rungAt   : Nat := 0
  /-- Stretch factor in force (R64). -/
  stretch  : Nat := 1
deriving DecidableEq, Repr

/-! ### The Centroid -/

/-- What holds a queued frame's cells (R218, R221). -/
inductive Place where
  | minimum | shared | waitOverflow | overflow
deriving DecidableEq, Repr

/-- A frame in VOQ(i, o, v) (R226). -/
structure QFrame where
  id    : Nat
  f     : Frame
  inp   : Nat
  out   : Nat
  vc    : Nat
  cells : Nat
  sent  : Nat
  place : Place
  stamp : Nat
  since : Nat
  /-- Combining context of a multicast copy, whose payload cells its copies share (R238). -/
  ctx   : Option Nat := none
deriving DecidableEq, Repr

/-- State of one quota-arbiter site (R234, R657). -/
structure Arb where
  hptr  : Nat := 0
  eptr  : Nat := 0
  used  : Nat := 0
  count : Nat := 0
  owner : Option Nat := none
  sent  : Nat := 0
deriving DecidableEq, Repr

/-- Pair states of R195. -/
inductive PairState where
  | syncPending | syncing | opened
deriving DecidableEq, Repr

/-- Who a request belongs to at its source. -/
inductive Owner where
  | none
  | desk (desk seat id : Nat)
  | stream (w e : Nat)
  | copy (ctx : Nat)
  /-- A table read of walk `id`, sent when it had been restarted `gen` times (R381). -/
  | walk (id gen : Nat)
  | relay (m : Nat)
  | host (id : Nat)
  | die (req : Nat)
  | satchel (line : Nat)
deriving DecidableEq, Repr

/-- A request held at a source until it completes (R195). -/
structure SrcReq where
  f      : Frame
  charge : Nat
  /-- Transmissions so far (R195). -/
  tx     : Nat
  /-- An AGED notice is its latest news (R196). -/
  aged   : Bool
  owner  : Owner
  /-- Rank in which it became ready. -/
  id     : Nat
deriving DecidableEq, Repr

/-- One pair of source and destination (R195). -/
structure Pair where
  st      : PairState := .syncPending
  nextSeq : BitVec 24 := 0
  sent    : List SrcReq := []
  waiting : List SrcReq := []
  /-- Latest answer to a SYNC of the pair since it last left OPEN (R197). -/
  answer  : Option (BitVec 5) := none
deriving DecidableEq, Repr

/-- A reply-cache entry (R193), at engine `eng` (0 the module, 1 + p the DEP-7 of port p). -/
structure Reply where
  eng    : Nat
  src    : BitVec 12
  seq    : BitVec 24
  status : BitVec 5
  data   : List Byte
deriving DecidableEq, Repr

/-- A combining context of the multicast engine (R240). -/
structure McCtx where
  id      : Nat
  req     : Req
  pending : Nat
  status  : BitVec 5
  failed  : Nat
deriving DecidableEq, Repr

/-- A timetabled request awaiting its response (R191, R206). -/
structure TtReq where
  dest  : BitVec 12
  index : BitVec 24
  owner : Owner
deriving DecidableEq, Repr

/-- The buckets of a marker (R190), in 1/65,536 byte, brought up to date at tick `upTo`. -/
structure Bucket where
  tc : Nat := 0
  tp : Nat := 0
  upTo : Nat := 0
  /-- Not used since its registers were last written: both buckets start full. -/
  fresh : Bool := true
deriving DecidableEq, Repr

/-- The Centroid: queues, link credits, source and destination engines. -/
structure Fab where
  voq     : List QFrame := []
  /-- Frames of internal ports that wait for their guaranteed minimum: ingress port, output, frame (R219, R220). -/
  entry   : List (Nat × Nat × Frame) := []
  nextId  : Nat := 0
  /-- Link credits by 4·port + VC (R182). -/
  credits : Tab Nat := []
  /-- BUF_MIN, CREDIT_ADV and VC_EN in force, by port (R243). -/
  bufMin  : Tab Word := []
  adv     : Tab Word := []
  vcEn    : Tab Nat := []
  /-- WRED averages in 1/65,536 cell, by 2·port + VC − 1 (R228). -/
  wred    : Tab Nat := []
  /-- Drop generators by output (R228). -/
  lfsr    : Tab (BitVec 32) := []
  /-- Arbiters of the Centroid outputs (R233). -/
  arb     : Tab Arb := []
  /-- Pairs by 4096·engine + destination (R195). -/
  pairs   : Tab Pair := []
  /-- Expected sequence by 4096·engine + source (R192). -/
  expect  : Tab (Option (BitVec 24)) := []
  replies : List Reply := []
  mc      : List McCtx := []
  mcWait  : List Req := []
  /-- MSTs delivered to the multicast engine whose ingress credits are held until it takes them: port, frame (R241). -/
  mcHeld  : List (Nat × Frame) := []
  /-- The MST of this module whose entry module it is, from its sending to its response (R188). -/
  ownMst  : Option SrcReq := none
  tt      : List TtReq := []
  /-- Buckets by 16·engine + marker (R190). -/
  buckets : Tab Bucket := []
  /-- The port holds transmission (R35, R466), by port. -/
  hold    : Tab Bool := []
  /-- Ports scrubbed since they last came up (R537). -/
  scrubbed : BitVec 128 := 0
  /-- Ports being scrubbed. -/
  scrubbing : BitVec 128 := 0
deriving DecidableEq, Repr

/-! ### Memory and coherence -/

/-- Home states of R141. -/
inductive HomeKind where
  | u | sh | ex | ow
deriving DecidableEq, Repr

/-- What the duplicate tags say of a line (R138, R141). -/
structure Dir where
  kind    : HomeKind := .u
  owner   : Nat := 0
  sharers : BitVec 64 := 0
deriving DecidableEq, Repr

/-- What a home transaction or a waiting request is (R148, R152). -/
inductive HomeWork where
  | coherence (port : Nat) (f : Frame)
  | access (r : Req) (upset : Int) (cont : Bool) (since : Nat)
  | recall
deriving DecidableEq, Repr

/-- A home transaction: its lines are in HS (R142). -/
structure Trans where
  work  : HomeWork
  lines : List Nat
  /-- Snoops outstanding: line, port. -/
  pend  : List (Nat × Nat)
  /-- Data that snoop responses have carried, by line. -/
  data  : List (Nat × List Byte)
  /-- Ports whose response kept the line, with the state given (R173). -/
  kept  : List (Nat × Nat)
  /-- Lines whose snoop met an uncorrectable error (R151). -/
  errs  : List Nat
  lost  : Bool
  /-- The requester's Satchel has been lost meanwhile (R162). -/
  orphan : Bool
  /-- Stores of the module's own units to its lines since it began: offset, bytes (R113). -/
  pokes : List (Nat × List Byte)
deriving DecidableEq, Repr

/-- A reservation entry (R155). -/
structure Rsv where
  unit   : Nat
  line   : Nat
  node   : BitVec 12
  /-- Tick since which the line is stable, so the 4,096 SCLK run. -/
  armed  : Option Nat
deriving DecidableEq, Repr

/-- A tally slot (R92, R337). -/
structure Slot where
  type : Nat
  accs : List Acc
  /-- Descriptor's collective ID, for a slot that a collective holds. -/
  coll : Option (BitVec 32)
deriving DecidableEq, Repr

/-- The Homeroom's home side and the module's slot table. -/
structure Coh where
  dir     : Tab Dir := []
  /-- LOST lines: port + 1 of the Satchel lost (R162). -/
  lost    : Tab Nat := []
  trans   : List Trans := []
  /-- Requests and PUTs that wait for a line to be stable, in arrival order (R150, R153). -/
  waitq   : List HomeWork := []
  /-- RETRYs sent to one request, by 64·line + port (R155). -/
  retries : Tab Nat := []
  rsv     : List Rsv := []
  /-- Tick and requester of the latest atomics and REDs of two requesters, newest first, by line (R161). -/
  lastAt  : Tab (List (Nat × Nat)) := []
  slots   : Tab (Option Slot) := []
  /-- FLUSHes sent and unanswered, by port (R167, R168). -/
  flushes : BitVec 64 := 0
  /-- Orderly leaves in progress, by port (R167). -/
  leaving : BitVec 64 := 0
deriving DecidableEq, Repr

/-- States of a collective (R340). -/
inductive CollState where
  | reserved | launched | closed | done | failed
deriving DecidableEq, Repr

/-- A context of the COL unit (R340, R355). -/
structure CollCtx where
  desc   : CollDesc
  /-- Number of the first Lesson of its timetable's run. -/
  base   : Nat
  st     : CollState
  status : BitVec 5
  cause  : BitVec 12
  /-- FAILED at launch (1), or by abort (2); 0 otherwise. -/
  how    : Nat
  slots  : Nat
  /-- Local vote (R341). -/
  vote   : BitVec 8
  /-- The abort notice has been sent (R352). -/
  noticed : Bool
  /-- The verdict has been written (R342). -/
  decided : Bool
  /-- Its record has been written or dropped (R355). -/
  recorded : Bool
  /-- Its region's lines, slots and context are held (R339, R354). -/
  held : Bool
deriving DecidableEq, Repr

/-- The COL unit: 64 contexts (R340). -/
structure Coll where
  ctx : Tab (Option CollCtx) := []
deriving DecidableEq, Repr

/-! ### Desks, Classrooms, translation and streams -/

/-- Seat states (R247). -/
inductive SeatState where
  | idle | ready | waiting | inbox
deriving DecidableEq, Repr

/-- Fabric-access and Blackboard instructions that stay outstanding (R307, R306, R309). -/
inductive AccKind where
  | load | store | atomic | red | multicast | acquire | release | omv | bbLoad | bbStore
deriving DecidableEq, Repr

/-- Where an access stands. -/
inductive AccStage where
  /-- Waiting for its translation walk (R378). -/
  | walking (walk : Nat)
  /-- Waiting for the Seat's earlier accesses, a release (R308). -/
  | draining
  /-- Translated; it goes once earlier accesses let it, its router admits it and its Slate words are read (R65, R117 to R120, R295). -/
  | queued
  /-- Waiting for its slot's departure DCLK (R293). -/
  | slot
  /-- Sent. -/
  | sent
deriving DecidableEq, Repr

/-- An outstanding access of a Seat (R249, R250). -/
structure Access where
  id     : Nat
  kind   : AccKind
  pc     : BitVec 12
  /-- Destination register number. -/
  d      : Nat
  sz     : Nat
  soff   : Nat
  /-- The request it sends; its FPA is the FVA until translated. -/
  f      : Frame
  /-- Its FVA. -/
  fva    : Nat
  needW  : Bool
  /-- T = 1 and still within its slot. -/
  timed  : Bool
  leaves : Bool
  stage  : AccStage
  result : Option (BitVec 5 × List Byte)
  /-- Tick at which its first Slate word is read, one more each DCLK (R295). -/
  since  : Option Nat := none
  /-- Role epoch of its issue (R296). -/
  epoch  : BitVec 24 := 0
deriving DecidableEq, Repr

/-- A Seat (R244, R278). -/
structure Seat where
  st       : SeatState := .idle
  v        : Vector Vec 32 := Vector.replicate 32 0
  s        : Vector Word 16 := Vector.replicate 16 0
  p        : BitVec 8 := 0
  pc       : BitVec 12 := 0
  stat     : Word := 0
  rtag     : BitVec 8 := 0
  srStream : BitVec 32 := 0
  srElem   : BitVec 32 := 0
  acc      : List Access := []
  /-- A FENCE waits for the Seat's earlier accesses (R308). -/
  fence    : Bool := false
  /-- An RCV waits: first register, mask (R268). -/
  rcv      : Option (Nat × BitVec 8) := none
  /-- An LTADD, LTRD or LTCLR waits for room in the Long Tally unit's queue (R262). -/
  ltWait   : Bool := false
  /-- Blocks in the fetch buffer, latest last, and blocks requested (R291). -/
  blocks   : List Nat := []
  wants    : List Nat := []
deriving DecidableEq, Repr

/-- A Desk (R244, R264). -/
structure Desk where
  seats   : Vector Seat 4 := Vector.replicate 4 {}
  t0      : BitVec 640 := 0
  t1      : BitVec 640 := 0
  full    : BitVec 8 := 0
  tag     : BitVec 8 := 0
  cohort  : Option (BitVec 10) := none
  /-- Cohort of the latest role the Desk had (R557). -/
  latest  : Option (BitVec 10) := none
  keep    : Bool := false
  /-- Seats its role started, and those that executed END (R251). -/
  started : BitVec 4 := 0
  ended   : BitVec 4 := 0
  overran : Bool := false
  /-- Lesson-plan address of an illegal instruction met in this Lesson (R283). -/
  illegal : Option (BitVec 12) := none
  /-- Slots used on each lane (R292). -/
  laneUse : Vector Nat 16 := Vector.replicate 16 0
  cur     : Nat := 0
  /-- Collective that governs its role (R336). -/
  governs : Option (BitVec 32) := none
  nextId  : Nat := 0
  /-- Best-effort accesses of roles that have ended, not yet sent, with their Seats (R47, R359). -/
  left    : List (Fin 4 × Access) := []
deriving DecidableEq, Repr

/-- Operations of the Long Tally unit (R262, R305). -/
inductive LtOp where
  | add (x : FVal) (neg : Bool)
  | read (fmt : Fmt) (rnd : Rnd) (d ld : Nat) (scalar clear : Bool)
  | clear
deriving DecidableEq, Repr

/-- A queued Long Tally operation. -/
structure LtReq where
  desk : Nat
  seat : Nat
  off  : Nat
  pc   : BitVec 12
  op   : LtOp
  /-- Its Seat's role still runs. -/
  told : Bool := true
deriving DecidableEq, Repr

/-- A conversion window (R384). -/
structure CvtWin where
  hbase : Nat
  fbase : Nat
  len   : Nat
  valid : Bool
deriving DecidableEq, Repr

/-- A TLB entry (R378). -/
structure Tlb where
  cohort : BitVec 10
  /-- Page number in units of its own size. -/
  page   : Nat
  /-- Log2 of the page size. -/
  size   : Nat
  fpa    : Nat
  /-- IA of the page's start, by which an invalidation of KIND 2 or 3 covers it (R402). -/
  ia     : Nat
  w      : Bool
  x      : Bool
  nc     : Bool
  pinned : Bool
deriving DecidableEq, Repr

/-- A Classroom beyond its registers and its Blackboard. -/
structure Room where
  /-- Long Tally queue, oldest first; those accepted come before `taken` (R262). -/
  lt     : List LtReq := []
  ltBusy : List LtReq := []
  /-- LTADDs that found the queue full. -/
  ltWait : List LtReq := []
  cvt    : List (BitVec 10 × List CvtWin) := []
  tlb    : List Tlb := []
  /-- Quota arbiters of its Blackboard banks (R258, R657). -/
  arbs   : Tab Arb := []
  /-- Tick at which its router last admitted a best-effort access of its Desks under stretch gating (R65). -/
  gateAt : Option Nat := none
deriving DecidableEq, Repr

/-- Why a translation failed (R375, R394). -/
structure XFault where
  status : BitVec 5
  reason : Nat
  level  : Nat
  stage2 : Bool
  ia     : Nat
deriving DecidableEq, Repr

/-- Who asked for a walk. -/
inductive WalkFor where
  | desk (desk seat id : Nat)
  | stream (w e : Nat)
  | prefetch (w : Nat)
  | preload (page : Fin 2) (w : Nat) (room : Option Nat)
  | dep (p : Nat) (req : Nat)
deriving DecidableEq, Repr

/-- A walk in progress (R375). -/
structure Walk where
  id     : Nat
  who    : WalkFor
  cohort : BitVec 10
  fva    : Nat
  needW  : Bool
  needX  : Bool
  /-- False in stage 1, true in stage 2. -/
  stage2 : Bool
  /-- Next level to read; 0: the walk has ended. -/
  level  : Nat
  table  : Nat
  va     : Nat
  /-- Permissions gathered in the current stage, and the stage-1 result. -/
  w      : Bool
  x      : Bool
  w1     : Bool
  x1     : Bool
  nc1    : Bool
  s1     : Nat
  ia     : Nat
  /-- Descriptors in force when the walk started (R372). -/
  pfd1   : Word
  pfd2   : Word
  root1  : Word
  root2  : Word
  /-- The translation it found. -/
  done   : Option Tlb
  failed : Option XFault
  since  : Nat
  /-- A table read on another module has returned: status, entry (R374). -/
  got    : Option (BitVec 5 × Word) := none
  /-- That read has been sent. -/
  asked  : Bool := false
  /-- The walker runs it (R380). -/
  running : Bool := false
  /-- How many times an invalidation has restarted it: a table read sent before answers an earlier run (R381). -/
  gen    : Nat := 0
deriving DecidableEq, Repr

/-- A walk-cache entry: a non-leaf entry of either stage (R377). -/
structure WalkEntry where
  stage2 : Bool
  owner  : Nat
  addr   : Nat
  entry  : Word
deriving DecidableEq, Repr

/-- An invalidation ticket (R402 to R404). -/
structure Ticket where
  id     : BitVec 32
  waits  : List (BitVec 12)
  status : BitVec 5
  fail   : Option (BitVec 12)
deriving DecidableEq, Repr

/-- An INVAL received and not yet acknowledged (R403). -/
structure InvalJob where
  eng    : Nat
  ticket : BitVec 32
  gate   : BitVec 12
deriving DecidableEq, Repr

/-- The walker and the translation caches. -/
structure Xlat where
  walks   : List Walk := []
  nextId  : Nat := 0
  cache   : List WalkEntry := []
  /-- Wing TLBs (R377). -/
  wing    : Tab (List Tlb) := []
  tickets : List Ticket := []
  jobs    : List InvalJob := []
  /-- Descriptors of preload entries translated for a page, awaiting activation (R382). -/
  pins    : List (Fin 2 × Nat × Option Nat × Tlb) := []
  /-- Fault status of each AWAIT save record (R397). -/
  faultSt : Tab Nat := []
  /-- Collective that the transfer of an AWAIT save record carries something of (R352). -/
  faultOf : Tab (Option (BitVec 32)) := []
deriving DecidableEq, Repr

/-- Where a transfer stands. -/
inductive XferStage where
  /-- Translating its current tile (R389). -/
  | translating
  /-- Its current tile's frames are sent, in order, as their bytes arrive. -/
  | sending
  /-- Stalled: fault queue or save area full (R396). -/
  | stalled
deriving DecidableEq, Repr

/-- One frame of a tile (R102, R389). -/
structure TileFrame where
  /-- A frame of the destination side. -/
  dst  : Bool
  /-- Offset in the tile's packed bytes. -/
  off  : Nat
  len  : Nat
  f    : Frame
  /-- It travels over the Wings' networks (R120). -/
  net  : Bool
  sent : Bool
  /-- The vector whose result it carries has been offered to the steering input (R441). -/
  offered : Bool := false
  done : Option (BitVec 5 × List Byte)
deriving DecidableEq, Repr

/-- A transfer on an engine (R386). -/
structure Xfer where
  d       : StreamDesc
  tile    : Nat
  stage   : XferStage
  /-- It continues as best-effort (R383, R398). -/
  loose   : Bool
  /-- Tile maps of both sides (R377). -/
  smap    : List Tlb
  dmap    : List Tlb
  /-- Walks outstanding for its tile. -/
  walks   : List Nat
  /-- Failed pages: reason, FVA, destination side. -/
  faults  : List (XFault × Nat × Bool)
  frames  : List TileFrame
  /-- To be parked once its tile has sent its last frame (R399). -/
  parking : Bool
  /-- The collective it carries out a transfer of (R342, R346). -/
  coll    : Option (BitVec 32) := none
deriving DecidableEq, Repr

/-- A stream engine (R386). -/
structure Strm where
  /-- Descriptors waiting: the descriptor, its next tile, whether it continues as best-effort (R398). -/
  queue : List (StreamDesc × Nat × Bool) := []
  cur   : Option Xfer := none
  /-- Completion words to be written, in order: descriptor, status, the walk that translates DONE (R390). -/
  ends  : List (StreamDesc × BitVec 5 × Option Nat) := []
  /-- Accesses within the module that it has sent and that are not performed, in order (R120, R128). -/
  net   : List Frame := []
deriving DecidableEq, Repr

/-- A pooled-memory channel beyond its registers. -/
structure Chan where
  /-- Open row of each bank (R408). -/
  rows   : Tab (Option Nat) := []
  /-- Holds in force: bank, row (R646). -/
  holds  : List (Nat × Nat) := []
  /-- Refreshes that holds postponed, by bank. -/
  due    : List Nat := []
  /-- Training failures in a row (R422). -/
  fails  : Nat := 0
  /-- Its latest training: 0 none, 1 from the Gradebook, 2 full (R422). -/
  how    : Nat := 0
  /-- Its quota arbiter (R413, R657). -/
  arb    : Arb := {}
deriving DecidableEq, Repr

/-- Pooled memory beyond its contents. -/
structure G7m where
  chan : Tab Chan := []
  /-- Lines that a device reports uncorrectable (R418, R419). -/
  bad  : Tab Bool := []
  /-- The next line that the patrol reads (R420). -/
  patrol : Nat := 0
deriving DecidableEq, Repr

/-! ### The machine -/

/-- States of a Satchel line (R140, R146). -/
inductive SatState where
  | i | s | e | o | m | is | im | sm | om | wb | ci
deriving DecidableEq, Repr

/-- A Satchel line or write-back buffer entry (R137, R520). -/
structure SatLine where
  st      : SatState := .i
  data    : List Byte := []
  used    : Nat := 0
  /-- The line holds an uncorrectable error (R521). -/
  ue      : Bool := false
  /-- A snoop held until the grant (R147). -/
  held    : Option Frame := none
  /-- Tick at which ownership was taken for a near atomic (R160). -/
  nearAt  : Option Nat := none
  /-- The request outstanding serves a near atomic (R160). -/
  near    : Bool := false
  /-- RETRYs received for the request (R154). -/
  tries   : Nat := 0
  /-- Its backoff runs (R154). -/
  backing : Bool := false
  /-- The request outstanding has ended with this status, other than OK and RETRY. -/
  fail    : Option (BitVec 5) := none
deriving DecidableEq, Repr

/-- One piece of a die request: a frame, or an access to one line in the Satchel (R102, R520). -/
structure Piece where
  /-- Offset in the request's packed data. -/
  off  : Nat
  fpa  : Nat
  len  : Nat
  /-- An access to a line in the Satchel. -/
  line : Bool
  /-- The frame has been handed to the source engine, or the access has caused a coherence request. -/
  sent : Bool := false
  done : Option (BitVec 5 × List Byte) := none
deriving DecidableEq, Repr

/-- A request of a die (R510). -/
structure DieReq where
  id      : Nat
  b       : RqBeat
  /-- Write data received, and bytes still to come (R512). -/
  data    : List Byte := []
  need    : Nat := 0
  /-- Status fixed before anything is sent, with its reason (R511, R523, R527). -/
  early   : Option (BitVec 5 × Nat) := none
  /-- Translations found for it (R523). -/
  maps    : List Tlb := []
  /-- Its pages are translated and its pieces made. -/
  gone    : Bool := false
  pieces  : List Piece := []
deriving DecidableEq, Repr

/-- An inbound request presented on IQ (R517). -/
structure Inbound where
  itag : Nat
  f    : Frame
  /-- EP.IN_TIMEOUT has passed, or the link went down: a late answer is discarded (R519, R527). -/
  dead : Bool
deriving DecidableEq, Repr

/-- The DEP-7 on an electrical port (R504 to R533). -/
structure Dep where
  regs    : Tab Word := []
  /-- Satchel and write-back buffer by line number of its Homeroom module (R137). -/
  sat     : Tab SatLine := []
  /-- Predictor counters (R159). -/
  pred    : Tab Nat := []
  tlb     : List Tlb := []
  reqs    : List DieReq := []
  nextId  : Nat := 0
  inb     : List Inbound := []
  /-- Requests waiting for a free ITAG, in order (R517). -/
  iqWait  : List Frame := []
  /-- Accesses made to the Satchel, by which the least recently used way is known (R137). -/
  lru     : Nat := 0
  /-- A FLUSH not yet answered (R167). -/
  flush   : Option Frame := none
  /-- The module's PRED_FAR, as the latest strict link word carried it (R622). -/
  predFar : Bool := false
  /-- A far-end loop is in effect: received data is retimed and sent back (R481, R531). -/
  loop    : Bool := false
  /-- Frames discarded at its ingress (R171, R179). -/
  discards : Nat := 0
  /-- Cells its link's transmitter has sent less those whose credit has come back, by VC (R182). -/
  unpaid  : Tab Nat := []
  /-- Frames that wait for credit, in order (R182). -/
  outq    : List Frame := []
  /-- The low half of an EP.RT entry written over CF, by entry (R525). -/
  rtLow   : Option (Nat × Word) := none
deriving DecidableEq, Repr

/-- A teardown from its accepted write to its report (R556 to R558). -/
structure Tear where
  cohort  : Nat
  /-- Lesson number of the teardown write. -/
  start   : Word
  nonce   : List Byte
  /-- Ranges of SEC.SCRUB_LIST. -/
  listed  : List (Nat × Nat)
  /-- Zeroing has begun; the byte ranges it covers, and what each kind counts for (R560). -/
  scrub   : Bool
  areas   : List (Nat × Nat)
  sealed  : Nat
  local_  : Nat
  slots   : Nat
deriving DecidableEq, Repr

/-- The security services. -/
structure Sec where
  tears : List Tear := []
  /-- Cohorts torn down and not made ACTIVE since (R556). -/
  torn  : List Nat := []
  /-- Keys of the Locker's slots (R548). -/
  keys  : Tab (List Byte) := []
  /-- Cohort and nonce of the report in progress (R546). -/
  attest : Option (BitVec 10 × List Byte) := none
  /-- Live ephemeral keys by cohort: number of the key pair, nonce of its report (R546). -/
  eph   : Tab (Option (Nat × List Byte)) := []
  /-- Ephemeral key pairs made. -/
  pairs : Nat := 0
  /-- Boot stages measured since the module reset (R541). -/
  booted : BitVec 5 := 0
deriving DecidableEq, Repr

/-- A BAR2 request (R494 to R497, R130). -/
structure Bar2 where
  id     : Nat
  fn     : Nat
  off    : Nat
  write  : Bool
  fpa    : Nat
  len    : Nat
  cohort : BitVec 10
  data   : List Byte
  /-- Its frames have been handed to the source engine. -/
  sent   : Bool := false
  /-- Its frames in issue order: FPA, and the result. -/
  parts  : List (Nat × Option (BitVec 5 × List Byte)) := []
  /-- A reset of its function or the loss of its link discards its completion (R500). -/
  dead   : Bool := false
deriving DecidableEq, Repr

/-- The host link (R492 to R503). -/
structure HostSt where
  /-- PCIE.GW_NODE has been written: this module is a member behind that gateway (R502, R503). -/
  member : Bool := false
  /-- Writes to host memory that wait for the link, oldest first (R501). -/
  buf    : List (Nat × List Byte) := []
  /-- Vectors that wait as pending bits (R501). -/
  irqs   : List Nat := []
  /-- The shape the link took at the latest PERST_N or power-on (R493). -/
  split  : Bool := false
  linkB  : Bool := false
  /-- BAR2 requests that have not ended, in arrival order. -/
  reads  : List Bar2 := []
  nextId : Nat := 0
  /-- PCI Express configuration state, as words by 1,024·function + index (R500). -/
  cfg    : Tab Word := []
  /-- The MSI-X table of BAR4, as words by index (R494). -/
  msix   : Tab Word := []
deriving DecidableEq, Repr

/-! ### The Optical Matrix Unit -/

/-- Where a vector's result goes (R436). -/
inductive VecOwner where
  | desk (desk seat id : Nat)
  /-- Frame of the tile of engine 64·w + e whose payload will be the result. -/
  | stream (w e : Nat) (frame : Nat)
  | frame (f : Frame)
deriving DecidableEq, Repr

/-- A vector at the steering input (R436). -/
structure OmuVec where
  v     : PrismVector
  owner : VecOwner
  timed : Bool
deriving DecidableEq, Repr

/-- A cached image: the matrix as it was decomposed (R430, R432). -/
structure OmuImage where
  name   : BitVec 12
  cohort : BitVec 10
  gain   : Nat
  /-- σ in FP32. -/
  sigma  : Nat
  data   : List Byte
  /-- Its place of 64 KiB in the image cache. -/
  slot   : Nat
deriving DecidableEq, Repr

/-- A Prism frame on its way (R437). -/
structure PrismFrame where
  vecs : List OmuVec
  bank : Nat
  /-- The matrix it is multiplied by. -/
  m    : OmuImage
  /-- The Prism was unlocked at some instant while it held the frame (R445). -/
  bad  : Bool
deriving DecidableEq, Repr

/-- A Prism (R426, R434, R445). -/
structure Prism where
  held     : Option OmuImage := none
  /-- Being loaded: the image, from roll call DCLK 128 until it has settled. -/
  loading  : Option OmuImage := none
  /-- Its plan entry in the previous Lesson with work. -/
  plan     : Option (BitVec 10 × BitVec 12) := none
  unlocked : Bool := false
  /-- Loop updates in a row with an error above 30 mrad. -/
  errors   : Nat := 0
  frames   : List PrismFrame := []
  arb      : Arb := {}
  /-- It has read above 105 °C and not yet 100 °C or less (R643). -/
  hot      : Bool := false
deriving DecidableEq, Repr

/-- The unit. -/
structure Omu where
  queue     : List OmuVec := []
  images    : List OmuImage := []
  prisms    : Vector Prism 4 := Vector.replicate 4 {}
  /-- OMU.CTL.EN in force (R624). -/
  en        : Bool := true
  /-- Decompositions performed. -/
  decomps   : Nat := 0
  /-- Lesson of the latest recalibration (R446). -/
  recalAt   : Option Word := none
deriving DecidableEq, Repr

/-! ### Optical ports -/

/-- A ring beyond its state, which WL_STATUS holds (R456, R457). -/
structure Ring where
  /-- Wrong-identity results since it last held a verified lock through one whole Lesson. -/
  wrong : Nat := 0
  /-- Consecutive loop updates with a large error. -/
  errs  : Nat := 0
  /-- Lesson in which it locked. -/
  since : Option Nat := none
  /-- Heater offset that a sweep of this power-on found. -/
  off   : Int := 0
deriving DecidableEq, Repr

/-- A wavelength of an optical port beyond its registers (R459 to R469). -/
structure Wave where
  tx      : Ring := {}
  rx      : Ring := {}
  /-- The carrying laser is lit. -/
  lit     : Bool := false
  /-- Latest monitor samples, latest first, at most 16 (R464). -/
  samples : List Int := []
  /-- Baseline taken from the first 16 samples, where the Gradebook entry fails its check (R575). -/
  fallback : Option Int := none
  /-- The latest 10 ms window showed a BER above the limit (R468). -/
  badWin  : Bool := false
  /-- Its laser has failed and its spare is warming (R468). -/
  failed  : Bool := false
  /-- The partner has acknowledged the announced swap (R465). -/
  swapAck : Bool := false
  /-- A join is announced; Lesson in which the partner acknowledged it (R460). -/
  join    : Bool := false
  joinAck : Option Nat := none
  /-- Lesson in which the partner's announcement of a join came, and that of a swap is pending (R460, R466). -/
  rxJoin  : Option Nat := none
  rxSwap  : Bool := false
  /-- It passed the tests of the link start in progress (R463). -/
  pass    : Bool := false
deriving DecidableEq, Repr

/-- An optical port beyond its registers. -/
structure Opt where
  waves  : Vector Wave 16 := Vector.replicate 16 {}
  /-- Melium laser mode in force (R471). -/
  melium : Bool := false
  /-- Receive set that the results of this link start agreed (R454). -/
  rxSet  : BitVec 16 := 0
  /-- Step 5 of the link start has agreed the sets; step 6 has measured the delay (R452). -/
  agreed : Bool := false
  measured : Bool := false
  /-- It waits 1 ms after a failed start (R453). -/
  wait   : Bool := false
  /-- A recalibration waits for a Gradebook command to end (R605). -/
  recalWait : Bool := false
deriving DecidableEq, Repr

/-! ### The Gradebook and the Principal's mailbox -/

/-- A Gradebook entry that has been written since manufacture (R598, R599). -/
structure GbEntry where
  origin  : Nat
  lesson  : Word
  powerOn : Nat
  body    : List Byte
deriving DecidableEq, Repr

/-- The Gradebook (R598 to R605): entries by 4,096·kind + index; one not listed is the factory's. -/
structure Gb where
  entries : Tab (Option GbEntry) := []
  /-- Results of scheduled Prism recalibrations that await a commit, by Prism (R600). -/
  pending : Tab (Option GbEntry) := []
  /-- Entries that fail their check (R599). -/
  bad     : Tab Bool := []
  /-- RETIRED flags by laser (R466, R603). -/
  retired : Tab Bool := []
  /-- Baselines written since manufacture, in 0.01 dBm, by laser (R464, R470). -/
  base    : Tab (Option Int) := []
  /-- Retirements that wait for a running command (R605). -/
  waits   : List Nat := []
  powerOns : Nat := 0
deriving DecidableEq, Repr

/-- An electrical port beyond its registers (R475 to R490). -/
structure Elec where
  /-- It waits 1 ms after a failed start (R478). -/
  wait     : Bool := false
  /-- Step 3 of the link start has passed; step 5 has measured the delay (R477). -/
  checked  : Bool := false
  measured : Bool := false
  /-- Lanes whose preset came from a search of this power-on (R477). -/
  searched : BitVec 4 := 0
  /-- Consecutive updates below FOM_FLOOR, by lane (R479). -/
  low      : Vector Nat 4 := Vector.replicate 4 0
  /-- The loop in effect, and whether a far-end loop awaits its acknowledgement (R481). -/
  loop     : Nat := 0
  loopAsk  : Bool := false
  /-- Lesson in which the partner acknowledged the armed audit; an audit runs (R484). -/
  acked    : Option Nat := none
  auditing : Bool := false
  /-- The transmit direction wakes (R487). -/
  waking   : Bool := false
  /-- Tick up to which each locked checker has counted (R482). -/
  checks   : Vector (Option Nat) 4 := Vector.replicate 4 none
deriving DecidableEq, Repr

/-- Reset, fencing and what the module knows of its surroundings, beyond the RST registers (R562 to R587). -/
structure Rst where
  /-- The reset in progress: domain, cause (R564). -/
  cur     : Option (Nat × Nat) := none
  /-- Resets requested while another domain's is in progress, in order (R566): domain, cause, argument. -/
  queue   : List (Nat × Nat × Nat) := []
  /-- Ticks of the compute resets that count toward escalation, latest first (R580). -/
  marks   : List Nat := []
  /-- Tick of the latest watchdog reset of each domain (R579). -/
  wd      : Tab (Option Nat) := []
  /-- The rail whose fault holds the module in reset (R637). -/
  rail    : Option Rail := none
  /-- THERMTRIP_N has fallen and no power cycle has come since (R585, R644). -/
  tripped : Bool := false
  /-- Tick of the latest PERST_N release or power-on. -/
  since   : Nat := 0
  /-- The module is in reset: PERST_N is low, a rail fault holds it, or it has no power (R570, R637). -/
  down    : Bool := false
  /-- Domains whose watchdog reset is withheld (R579): bit 1 switch and links, bit 2 memory. -/
  held    : BitVec 3 := 0
  /-- The latest reading of each GDDR7 device is 85 °C or above (R425). -/
  warm    : BitVec 16 := 0
deriving DecidableEq, Repr

/-- A command that the Principal carries out: a write of a SEC register, or of PRIN.CMD (R574, R595). -/
inductive PrinCmd where
  | attest (cohort : Nat)
  | importGo
  | lockerClear (slot : Nat)
  | sealCreate (i : Nat) (base len : Word) (cohort slot : Nat)
  | teardown (cohort : Nat)
  | gbExport
  | gbImport
  | gbCommit
  | fwChunk
  | fwPrefer
  | svnRaise
  | unknown
deriving DecidableEq, Repr

/-- The Principal's mailbox, firmware banks and boot, beyond the PRIN registers (R541 to R544, R593 to R597). -/
structure Prin where
  /-- Commands and SEC writes that wait for the Principal (R574). -/
  waits  : List PrinCmd := []
  /-- The bank in which the ROM boots first, once it has been marked; until then the flash names it (R543, R595). -/
  prefer : Option Bool := none
  /-- Bank that runs (R611). -/
  bank   : Bool := false
  /-- Both banks of the current boot: the preferred one has been refused (R543). -/
  fell   : Bool := false
  /-- The cores restart from stage 2 (R577). -/
  again  : Bool := false
  /-- Bytes received for the bank that does not run (R597). -/
  image  : Tab (Option Byte) := []
  /-- The fused security version, once raised (R544, R595). -/
  svn    : Option Word := none
  /-- Version of the image that FW_CHUNK completed, by bank (R597). -/
  loaded : Tab (Option (List Byte)) := []
  /-- Gating by R590: the previous window was above LIMIT. -/
  capped : Bool := false
deriving DecidableEq, Repr


/-- The state of the module and its DEP-7s. -/
structure State where
  /-- Commands waiting, first in, first out. -/
  pending : List Instr := []
  /-- Time in DCLK periods of an unstretched clock (1/3.3 ns) since reset. -/
  now     : Nat := 0
  /-- Draws made from the free values of Config. -/
  freeCtr : Nat := 0
  /-- BAR0 registers by address (R606). -/
  regs    : Tab Word := []
  /-- Values written to write-only registers that a later command uses, by address. -/
  latch   : Tab Word := []
  /-- The module's 44-bit offset space: pooled memory, Blackboards, Slates and inbox words (R75). -/
  mem     : List Host.Cell := []
  /-- What the module has written to host memory (R163, R355, R395). -/
  hostMem : List Host.Cell := []
  /-- Everything put on the block's outputs, latest first. -/
  out     : List Out := []
  bell    : Bell := {}
  fab     : Fab := {}
  coh     : Coh := {}
  coll    : Coll := {}
  /-- Desks by module-wide index (R17). -/
  desks   : Tab Desk := []
  /-- Classrooms by 300·w + c. -/
  rooms   : Tab Room := []
  /-- Lesson-plan stores by 4,096·(300·w + c) + address (R252). -/
  plan    : Tab Word := []
  xl      : Xlat := {}
  /-- Stream engines by 64·w + e. -/
  strms   : Tab Strm := []
  g7m     : G7m := {}
  /-- DEP-7s by electrical port. -/
  deps    : Tab Dep := []
  sec     : Sec := {}
  host    : HostSt := {}
  /-- Seeds in force, by cohort (R333). -/
  seeds   : Tab (BitVec 128) := []
  omu     : Omu := {}
  /-- Optical ports by port number less 64. -/
  opts    : Tab Opt := []
  gb      : Gb := {}
  /-- Electrical ports. -/
  elecs   : Tab Elec := []
  rst     : Rst := {}
  prin    : Prin := {}
deriving DecidableEq, Repr

/-- The state right after reset (R9, R572, R576). -/
def State.reset : State := {}

/-- Reasons the block stops with a fault. -/
inductive Fault where
  /-- A write of a code that the spec calls reserved, and to which it gives no effect. Raised by
  REGISTER_WRITE of RST.RESET with DOMAIN 3 or of XLT.INV with KIND above 4, and by ST_REQUEST of such a word through the
  register mirror. Safe: the hardware may go on. -/
  | reservedCode
deriving DecidableEq, Repr

/-- Reasons the block refuses a command. -/
inductive Refusal where
  /-- The command has no meaning yet. Raised by the dispatch only. Safe. -/
  | notModelled (mnemonic : String)
deriving DecidableEq, Repr

end Sys2Proof.Machine
end

