-- ==== Sys2Proof/Machine/Frames.lean ====
section
/-! DEFINITION. Frames as bytes, their CRC, classes and virtual channels (R169 to R181). -/

namespace Sys2Proof.Machine

/-! ### Statuses (R11) -/

def stOk : BitVec 5 := 0x00
def stRetry : BitVec 5 := 0x01
def stRole : BitVec 5 := 0x02
def stUnmapped : BitVec 5 := 0x03
def stPerm : BitVec 5 := 0x04
def stPartition : BitVec 5 := 0x05
def stAged : BitVec 5 := 0x06
def stOwnerLost : BitVec 5 := 0x07
def stFenced : BitVec 5 := 0x08
def stSlotsFull : BitVec 5 := 0x09
def stDataErr : BitVec 5 := 0x0A
def stStrict : BitVec 5 := 0x0B
def stSealed : BitVec 5 := 0x0C
def stNoRoute : BitVec 5 := 0x0D
def stWindow : BitVec 5 := 0x0E
def stAlign : BitVec 5 := 0x0F

/-- Header word W0 of R170. -/
def Frame.w0 (f : Frame) : Nat :=
  f.version.toNat + f.vc.toNat * 2 ^ 4 + f.colour.toNat * 2 ^ 6 + f.opcode.toNat * 2 ^ 8 + f.status.toNat * 2 ^ 16
    + f.flags.toNat * 2 ^ 21 + f.src.toNat * 2 ^ 24 + f.dst.toNat * 2 ^ 36 + f.part.toNat * 2 ^ 48 + f.cohort.toNat * 2 ^ 54

/-- Header word W1 of R170, with a given hop pointer. -/
def Frame.w1 (f : Frame) (ptr : Nat) : Nat :=
  f.seq.toNat + f.length.toNat * 2 ^ 24 + ptr * 2 ^ 36 + f.hopCount.toNat * 2 ^ 40 + f.group.toNat * 2 ^ 44

/-- Header word W3 of R170. -/
def Frame.w3 (f : Frame) : Nat := f.epoch.toNat + f.ack.toNat * 2 ^ 24

/-- The bytes the CRC covers: 0 to 47 + P with the hop pointer taken as 0 (R180). -/
def Frame.crcBytes (f : Frame) : List Byte :=
  leBytes 8 (Frame.w0 f) ++ leBytes 8 (Frame.w1 f 0) ++ leBytes 8 f.fpa.toNat ++ leBytes 8 (Frame.w3 f)
    ++ f.route.toList ++ f.payload

/-- One bit of the reflected CRC-32 (R180). -/
def crcBit (c : BitVec 32) : BitVec 32 :=
  if c.getLsbD 0 then (c >>> 1) ^^^ 0xEDB88320 else c >>> 1

/-- One byte of the CRC-32. -/
def crcByte (c : BitVec 32) (b : Byte) : BitVec 32 :=
  let x := c ^^^ b.setWidth 32
  crcBit (crcBit (crcBit (crcBit (crcBit (crcBit (crcBit (crcBit x)))))))

/-- The IEEE 802.3 CRC-32 of a byte string (R180). -/
def crc32 (l : List Byte) : BitVec 32 := ~~~(l.foldl crcByte 0xFFFFFFFF)

/-- The CRC a frame should carry. -/
def Frame.goodCrc (f : Frame) : BitVec 32 := crc32 (Frame.crcBytes f)

/-- The frame with its CRC written. -/
def Frame.sealed (f : Frame) : Frame := { f with crc := Frame.goodCrc f }

/-- Cells a frame occupies: ⌈(52 + P)/256⌉ (R169). -/
def Frame.cells (f : Frame) : Nat := (52 + f.payload.length + 255) / 256

/-- Opcodes 0x01 to 0x5F travel as memory-operation requests (R83, R181). -/
def isMemReq (op : Nat) : Bool := 0x01 ≤ op && op ≤ 0x5F
/-- Coherence requests (R143). -/
def isCohReq (op : Nat) : Bool := 0x60 ≤ op && op ≤ 0x65
/-- Snoops (R143). -/
def isSnoop (op : Nat) : Bool := 0x68 ≤ op && op ≤ 0x6B
/-- Frames that an answer of R178 may be made to: requests, and the SYNC, which draws an answer (R175, R196). -/
def isAnswerable (op : Nat) : Bool := isMemReq op || isCohReq op || op = 0x76
/-- Responses are numbered from 0x80 (R80). -/
def isResponse (op : Nat) : Bool := 0x80 ≤ op

/-- Whether a frame's VC agrees with R181. -/
def vcOk (op vc : Nat) : Bool :=
  if isMemReq op then vc = 0 || vc = 1
  else if isCohReq op then vc = 1
  else if isSnoop op then vc = 3
  else if op = 0x70 || op = 0x71 || op = 0x74 || op = 0x75 then vc = 0
  else if op = 0x72 || op = 0x76 then vc = 1
  else if op = 0x73 then vc = 2
  else if 0x81 ≤ op && op ≤ 0xDF then vc = 0 || vc = 2
  else if 0xE0 ≤ op && op ≤ 0xE5 then vc = 2
  else if 0xE8 ≤ op && op ≤ 0xEB then vc = 3
  else if op = 0xF6 then vc = 2
  else false

/-- R171: version 1, colour not 3, VC in agreement with R181. -/
def Frame.headerOk (f : Frame) : Bool := f.version = 1 && f.colour ≠ 3 && vcOk f.opcode.toNat f.vc.toNat

/-- Element-type code of a typed opcode (R81). -/
def typeOf (op : Nat) : Nat := op % 16

/-- Whether R81 assigns the opcode, with a legal type code. -/
def opcodeLegal (op : Nat) : Bool :=
  let t := op % 16
  if op = 1 || op = 2 || op = 3 then true
  else if op / 16 = 1 then [1, 3, 4, 5, 6, 7].contains t
  else if op / 16 = 2 then [0, 2, 4, 5, 6, 7].contains t
  else if op / 16 = 3 || op / 16 = 4 then t ≤ 5
  else 0x50 ≤ op && op ≤ 0x59

/-- Operand size of an atomic in bytes, 0 where the opcode is no atomic (R82, R88). -/
def operandSize (op : Nat) : Nat :=
  if op / 16 = 2 || op / 16 = 3 || op / 16 = 4 then typeSize (op % 16)
  else if op = 0x50 || op = 0x54 || op = 0x56 || op = 0x58 then 4
  else if op = 0x51 || op = 0x52 || op = 0x55 || op = 0x57 || op = 0x59 then 8
  else if op = 0x53 then 16
  else 0

/-- Request payload of an atomic in bytes (R88). -/
def atomicPayload (op : Nat) : Nat := if op = 0x52 || op = 0x53 then 2 * operandSize op else operandSize op

/-- Bytes that the largest response to a request carries (R172, R186). -/
def responseBytes (f : Frame) : Nat :=
  let op := f.opcode.toNat
  if op = 1 then f.length.toNat else if op = 3 then 2 else if operandSize op > 0 then operandSize op
  else if op = 0x60 || op = 0x61 || op = 0x62 then 64 else 0

/-- Window charge of a request (R186). -/
def chargeOf (f : Frame) : Nat := max (Frame.cells f) ((52 + responseBytes f + 255) / 256)

/-- Sequence a is earlier than b: (b − a) mod 2^24 lies in 1 to 2^23 (R191). -/
def seqEarlier (a b : BitVec 24) : Bool := 1 ≤ (b - a).toNat && (b - a).toNat ≤ 2 ^ 23

/-- A frame with every field zero but its version (R170). -/
def blankFrame : Frame :=
  { cohort := 0, part := 0, dst := 0, src := 0, flags := 0, status := 0, opcode := 0, colour := 0, vc := 0, version := 1,
    group := 0, hopCount := 0, hopPtr := 0, length := 0, seq := 0, fpa := 0, ack := 0, epoch := 0,
    route := Vector.replicate 16 0, payload := [], crc := 0 }

/-- The route field whose first byte is `b`. -/
def routeByte0 (b : Byte) : Vector Byte 16 := (Vector.replicate 16 0).set 0 b

/-- The response of `node` to a request: fields copied as R170, R172 and R174 give (R84). The route is not yet set. -/
def responseTo (node : BitVec 12) (f : Frame) (status : BitVec 5) (flags : BitVec 3) (data : List Byte) : Frame :=
  { blankFrame with
    cohort := f.cohort, part := f.part, dst := f.src, src := node, flags := flags, status := status,
    opcode := f.opcode + 0x80, vc := if f.vc = 0 then 0 else if f.vc = 3 then 3 else 2,
    length := f.length, seq := f.seq, fpa := f.fpa, payload := data }

/-- The data part of an unsuccessful response: 2 bytes of count for an MST, nothing otherwise (R84, R172). Callers give the count,
0 for an MST that no member received (DESIGN CHOICE, log 78). -/
def failData (f : Frame) (count : Nat) : List Byte := if f.opcode = 3 then leBytes 2 count else []

end Sys2Proof.Machine
end

