-- ==== Sys2Proof/Machine/Ops.lean ====
section
/-! DEFINITION. Named operations over the state: registers, memory, outputs, addresses and modes. -/

namespace Sys2Proof.Machine

/-! ### Registers -/

/-- A BAR0 register (R645). -/
def State.reg (s : State) (a : Nat) : Word := tget regReset s.regs a
/-- Write a whole BAR0 register as the module itself does. -/
def State.setReg (s : State) (a : Nat) (v : Word) : State := { s with regs := tput regReset s.regs a v }
/-- A field of a register. -/
def State.regF (s : State) (a lo len : Nat) : Nat := fget (s.reg a) lo len
/-- Write a field of a register. -/
def State.setRegF (s : State) (a lo len v : Nat) : State := s.setReg a (fset (s.reg a) lo len v)
/-- A bit of a register. -/
def State.regBit (s : State) (a i : Nat) : Bool := s.regF a i 1 = 1
/-- Set or clear a bit of a register. -/
def State.setRegBit (s : State) (a i : Nat) (b : Bool) : State := s.setRegF a i 1 b.toNat
/-- Add to a 64-bit counter (R607). -/
def State.addReg (s : State) (a n : Nat) : State := s.setReg a (s.reg a + BitVec.ofNat 64 n)
/-- Count one event (R607). -/
def State.count (s : State) (a : Nat) : State := s.addReg a 1
/-- Add one to a count of `len` bits that saturates (R613). -/
def State.countSat (s : State) (a lo len : Nat) : State := s.setRegF a lo len (min (s.regF a lo len + 1) (2 ^ len - 1))
/-- Add one to a count of `len` bits that wraps. -/
def State.countWrap (s : State) (a lo len : Nat) : State := s.setRegF a lo len (s.regF a lo len + 1)
/-- `n` bytes of a register table at a byte address that stay within one 8-byte word. -/
def State.tabF (s : State) (a n : Nat) : Nat := s.regF (a / 8 * 8) (a % 8 * 8) (8 * n)
/-- Write `n` bytes of a register table. -/
def State.setTabF (s : State) (a n v : Nat) : State := s.setRegF (a / 8 * 8) (a % 8 * 8) (8 * n) v
/-- A write-only value retained (R8). -/
def State.latchAt (s : State) (a : Nat) : Word := tget (fun _ => 0) s.latch a

/-! ### Memory -/

/-- What a byte that nothing has written reads as: a power cycle leaves every line zero (R572). -/
def memDefault (_ : Nat) : Byte := 0
/-- One byte of the module's offset space. -/
def State.byte (s : State) (a : Nat) : Byte := tget memDefault s.mem a
/-- Write one byte. -/
def State.setByte (s : State) (a : Nat) (b : Byte) : State := { s with mem := tput memDefault s.mem a b }
/-- Bytes `a` to `a + n - 1`. -/
def State.bytes (s : State) (a : Nat) : Nat → List Byte
  | 0 => []
  | n + 1 => s.byte a :: s.bytes (a + 1) n
/-- Write a byte string from `a` on (R87). -/
def State.setBytes (s : State) (a : Nat) : List Byte → State
  | [] => s
  | b :: r => (s.setByte a b).setBytes (a + 1) r
/-- `n` bytes as a little-endian number (R5). -/
def State.num (s : State) (a n : Nat) : Nat := leNat (s.bytes a n)
/-- Zero a range. -/
def State.zero (s : State) (a n : Nat) : State := { s with mem := tclear s.mem a (a + n) }
/-- Write to host memory. -/
def putHost : List Host.Cell → Nat → List Byte → List Host.Cell
  | m, _, [] => m
  | m, a, b :: r => putHost (tput memDefault m a b) (a + 1) r

/-! ### Outputs -/

/-- Put an element on the outputs. -/
def State.emit (s : State) (o : Out) : State := { s with out := o :: s.out }
/-- Draw the next free value. -/
def State.draw (s : State) : Nat × State := (s.freeCtr, { s with freeCtr := s.freeCtr + 1 })

/-! ### Identity and modes -/

/-- This module's node ID (R73, R609). -/
def State.node (s : State) : BitVec 12 := BitVec.ofNat 12 (s.regF rGlbNode 0 12)
/-- GLB.MODE.STRICT in force (R356). -/
def State.strict (s : State) : Bool := s.regBit rGlbMode 0
/-- The current Lesson number (R608). -/
def State.lesson (s : State) : Word := s.reg rLesson
/-- Bit `i` of GLB.READY (R573). -/
def State.ready (s : State) (i : Nat) : Bool := s.regBit (rGlbReady + 8 * (i / 64)) (i % 64)
/-- Set or clear bit `i` of GLB.READY. -/
def State.setReady (s : State) (i : Nat) (b : Bool) : State := s.setRegBit (rGlbReady + 8 * (i / 64)) (i % 64) b
/-- READY bit of channel c. -/
def readyCh (c : Nat) : Nat := 2 + c
/-- READY bit of Wing w. -/
def readyWing (w : Nat) : Nat := 66 + w
/-- READY bit of port p. -/
def readyPort (p : Nat) : Nat := 70 + p
/-- READY bit of Prism p. -/
def readyPrism (p : Nat) : Nat := 198 + p
/-- A port that is up; internal ports always are (R204, R573). -/
def State.portUp (s : State) (p : Nat) : Bool := 128 ≤ p || s.ready (readyPort p)
/-- Domain codes of RST.RESET (R562): 0 compute, 1 switch and links, 2 memory. -/
def State.fenced (s : State) (d : Nat) : Bool := s.regBit rRstStatus (5 + d) || s.regBit rRstStatus (2 + d)

/-- The recovery state (R543). -/
def State.recovery (s : State) : Bool := s.regBit rRstStatus 13
/-- A write of a BAR0 register outside the PRIN and SEC blocks: in recovery it is an Unsupported Request (R543, R645). -/
def State.bar0 (s : State) (k : State → State) : State := if s.recovery then s.emit (.aer .unsupported) else k s

/-- Partition of an external port in the active map; none where VALID is 0 (R534). -/
def State.portPart (s : State) (p : Nat) : Option Nat :=
  let b := s.tabF (rPortPart + p) 1
  if 128 ≤ b then some (b % 64) else none

/-- Byte address of a cohort's entry (R538). -/
def cohortAt (c : Nat) : Nat := rCohort + 32 * c
/-- STATE of a cohort (R538). -/
def State.cohortState (s : State) (c : Nat) : Nat := s.regF (cohortAt c + 24) 12 3
/-- Partition of a cohort (R201, R538). -/
def State.cohortPart (s : State) (c : Nat) : Nat := s.regF (cohortAt c + 24) 0 6
/-- STEP of a cohort (R366, R538). -/
def State.step_ (s : State) (c : Nat) : Word := s.reg (cohortAt c + 16)
/-- Seed in force of a cohort: the value its entry had at the latest roll call (R333). -/
def State.seed (s : State) (c : Nat) : BitVec 128 := tget (fun _ => 0) s.seeds c
/-- DCLK elapsed since the current Lesson's Bell (R64, R278). -/
def State.dcycle (s : State) : Nat := (s.now - s.bell.rungAt) / max 1 s.bell.stretch

/-! ### Addresses -/

/-- Module-wide index of a Desk (R17). -/
def DeskId.idx (d : DeskId) : Nat := (300 * d.w.val + d.c.val) * 256 + d.d.val
/-- Classroom index 300·w + c of a Desk index. -/
def roomOf (desk : Nat) : Nat := desk / 256
/-- Offset of a Classroom's Blackboard (R76). -/
def bbBase (room : Nat) : Nat := 0xC0000000000 + room / 300 * 0x8000000 + room % 300 * 0x40000
/-- Offset of a Desk's Slate (R77). -/
def slateBase (desk : Nat) : Nat :=
  0xD0000000000 + desk / 256 / 300 * 0x40000000 + desk / 256 % 300 * 0x200000 + desk % 256 * 0x2000
/-- Offset of a Desk's inbox window (R77). -/
def inboxBase (desk : Nat) : Nat := slateBase desk + 0x1800
/-- Register of a Classroom by its index. -/
def roomReg (room off : Nat) : Nat := crReg (room / 300) (room % 300) off

/-- A place in the module's offset space (R75 to R78, R416). -/
inductive Where where
  | general
  | timetable
  | overflow
  | blackboard (room off : Nat)
  | slate (desk off : Nat)
  | inbox (desk off : Nat)
  | mirror (off : Nat)
  | hole
deriving DecidableEq, Repr

/-- Base and end of the timetable region (R417, R653). -/
def State.ttRegion (s : State) : Nat × Nat :=
  let b := s.regF rTtRegion 30 10 * 2 ^ 30
  (b, b + s.regF rTtRegion 48 5 * 2 ^ 30)
/-- Base and end of the overflow region (R223). -/
def State.ovfRegion (s : State) : Nat × Nat :=
  let b := s.regF rOvfBase 0 40
  (b, b + s.regF rOvfSize 0 7 * 2 ^ 30)

/-- A byte range has a byte in a region given by its base and end. -/
def meetsRegion (r : Nat × Nat) (a n : Nat) : Bool := decide (max a r.1 < min (a + n) r.2)
/-- The place of an offset. -/
def State.whereIs (s : State) (a : Nat) : Where :=
  if a < 2 ^ 40 then
    (if s.ttRegion.1 ≤ a ∧ a < s.ttRegion.2 then .timetable
     else if s.ovfRegion.1 ≤ a ∧ a < s.ovfRegion.2 then .overflow else .general)
  else if 0xC0000000000 ≤ a ∧ a < 0xC0020000000 then
    let o := a - 0xC0000000000
    let c := o / 0x40000 % 512
    if c < 300 then .blackboard (o / 0x8000000 * 300 + c) (o % 0x40000) else .hole
  else if 0xD0000000000 ≤ a ∧ a < 0xD0100000000 then
    let o := a - 0xD0000000000
    let c := o / 0x200000 % 512
    let desk := (o / 0x40000000 * 300 + c) * 256 + o / 0x2000 % 256
    if 300 ≤ c then .hole
    else if o % 0x2000 < 0x1800 then .slate desk (o % 0x2000)
    else if o % 0x2000 < 0x1840 then .inbox desk (o % 0x2000 - 0x1800)
    else .hole
  else if 0xF0000000000 ≤ a ∧ a < 0xF0004000000 then .mirror (a - 0xF0000000000)
  else .hole

/-- Whether two places are in one region of R105, and in one Blackboard, Slate or window (R656). -/
def Where.same : Where → Where → Bool
  | .general, .general => true
  | .timetable, .timetable => true
  | .overflow, .overflow => true
  | .blackboard r _, .blackboard r' _ => r == r'
  | .slate d _, .slate d' _ => d == d'
  | .inbox d _, .inbox d' _ => d == d'
  | .mirror _, .mirror _ => true
  | .hole, .hole => true
  | _, _ => false

/-- The region code that a timetable slot names (R292). -/
def Where.region : Where → Region
  | .general => .general
  | .timetable => .timetable
  | .overflow => .overflow
  | .blackboard _ _ => .blackboard
  | .slate _ _ => .slate
  | .inbox _ _ => .inbox
  | .mirror _ => .mirror
  | .hole => .hole

/-- Channel of a pooled-memory offset (R407). -/
def channelOf (a : Nat) : Nat :=
  (BitVec.ofNat 6 (a / 2 ^ 8) ^^^ BitVec.ofNat 6 (a / 2 ^ 14) ^^^ BitVec.ofNat 6 (a / 2 ^ 20) ^^^ BitVec.ofNat 6 (a / 2 ^ 26)
    ^^^ BitVec.ofNat 6 (a / 2 ^ 32) ^^^ BitVec.ofNat 6 (a / 2 ^ 38 % 4)).toNat
/-- Local address in its channel (R408). -/
def localOf (a : Nat) : Nat := a / 2 ^ 14 * 2 ^ 8 + a % 2 ^ 8
/-- Bank of a pooled-memory offset (R408). -/
def bankOf (a : Nat) : Nat := localOf a / 2 ^ 11 % 32
/-- Row of a pooled-memory offset (R408). -/
def rowOf (a : Nat) : Nat := localOf a / 2 ^ 16

/-- 64-byte lines that `n` bytes from `a` touch. -/
def linesOf (a n : Nat) : List Nat := if n = 0 then [] else (List.range ((a + n - 1) / 64 - a / 64 + 1)).map (· + a / 64)

/-! ### Desks -/

def deskDefault (_ : Nat) : Desk := {}
def State.desk (s : State) (i : Nat) : Desk := tget deskDefault s.desks i
def State.setDesk (s : State) (i : Nat) (d : Desk) : State := { s with desks := tput deskDefault s.desks i d }
def roomDefault (_ : Nat) : Room := {}
def State.room (s : State) (i : Nat) : Room := tget roomDefault s.rooms i
def State.setRoom (s : State) (i : Nat) (r : Room) : State := { s with rooms := tput roomDefault s.rooms i r }
def State.seat (s : State) (i : Nat) (k : Fin 4) : Seat := (s.desk i).seats[k]
def State.setSeat (s : State) (i : Nat) (k : Fin 4) (x : Seat) : State :=
  s.setDesk i { s.desk i with seats := (s.desk i).seats.set k x }
/-- Accesses of a Seat in program order: those of ended roles not yet sent, then those of its role. -/
def State.accesses (s : State) (desk : Nat) (k : Fin 4) : List Access :=
  ((s.desk desk).left.filter (fun e => e.1 = k)).map Prod.snd ++ (s.seat desk k).acc
/-- An access of a Seat by its number. -/
def State.access (s : State) (desk : Nat) (k : Fin 4) (id : Nat) : Option Access := (s.accesses desk k).find? (fun a => a.id = id)
/-- The role epoch of a Desk (R265). -/
def State.epochOf (s : State) (i : Nat) : BitVec 24 := BitVec.ofNat 16 s.lesson.toNat ++ (s.desk i).tag
/-! ### DEP-7s -/

def depDefault (_ : Nat) : Dep := {}
def State.dep (s : State) (p : Nat) : Dep := tget depDefault s.deps p
def State.setDep (s : State) (p : Nat) (d : Dep) : State := { s with deps := tput depDefault s.deps p d }
/-- A DEP-7 register (R533). -/
def State.ep (s : State) (p a : Nat) : Word := tget epReset (s.dep p).regs a
def State.setEp (s : State) (p a : Nat) (v : Word) : State :=
  s.setDep p { s.dep p with regs := tput epReset (s.dep p).regs a v }
def State.epF (s : State) (p a lo len : Nat) : Nat := fget (s.ep p a) lo len
def State.setEpF (s : State) (p a lo len v : Nat) : State := s.setEp p a (fset (s.ep p a) lo len v)
def State.epBit (s : State) (p a i : Nat) : Bool := s.epF p a i 1 = 1
def State.setEpBit (s : State) (p a i : Nat) (b : Bool) : State := s.setEpF p a i 1 b.toNat
/-- Count one event in a DEP-7 counter (R607). -/
def State.countEp (s : State) (p a : Nat) : State := s.setEp p a (s.ep p a + 1)
/-- Set a bit of EP.INT_STATUS; EP_IRQ is high while any enabled bit is 1 (R508, R533). -/
def State.epIrq (s : State) (p bit : Nat) : State :=
  let was := (s.ep p eIntStatus &&& s.ep p eIntEn) ≠ 0
  let t := s.setEpBit p eIntStatus bit true
  if !was && (t.ep p eIntStatus &&& t.ep p eIntEn) ≠ 0 then t.emit (.depPin p "EP_IRQ" true) else t

/-- Apply an operation for every element of a list. -/
def State.forAll {α : Type} (s : State) (l : List α) (op : State → α → State) : State := l.foldl op s

end Sys2Proof.Machine
end

