-- ==== Sys2Proof/Machine/Operands.lean ====
section
/-! DEFINITION. Operand forms of Chalk: instruction-word fields, legality, register and Slate sides, lanes
("Chalk Instruction Set", R278 to R288, R298 to R310). -/

namespace Sys2Proof.Machine

/-! ### Fields of an instruction word (R281, R282) -/

/-- `len` bits of an instruction word from bit `lo`. -/
def bits (w : BitVec 56) (lo len : Nat) : Nat := w.toNat / 2 ^ lo % 2 ^ len
/-- D, A, B and C. -/
def fD (w : BitVec 56) : Nat := bits w 46 5
def fA (w : BitVec 56) : Nat := bits w 41 5
def fB (w : BitVec 56) : Nat := bits w 36 5
def fC (w : BitVec 56) : Nat := bits w 27 5
/-- FMT, or TYPE of format M. -/
def fFmt (w : BitVec 56) : Nat := bits w 32 4
def fRnd (w : BitVec 56) : Nat := bits w 24 3
def fLA (w : BitVec 56) : Nat := bits w 20 4
def fLB (w : BitVec 56) : Nat := bits w 16 4
def fLD (w : BitVec 56) : Nat := bits w 12 4
def fMod (w : BitVec 56) : Nat := bits w 0 12
/-- Bit `i` of MOD. -/
def modBit (w : BitVec 56) (i : Nat) : Bool := w.getLsbD i
/-- IMM of format I, 41 bits. -/
def fImm (w : BitVec 56) : BitVec 41 := BitVec.ofNat 41 w.toNat
def fScope (w : BitVec 56) : Nat := bits w 29 3
/-- T, in formats M and L. -/
def fT (w : BitVec 56) : Bool := w.getLsbD 28
def fTL (w : BitVec 56) : Nat := bits w 24 4
def fSZ (w : BitVec 56) : Nat := bits w 21 3
def fSoff (w : BitVec 56) : Nat := bits w 12 9
def fL16 (w : BitVec 56) : Nat := bits w 5 7
def fAttr (w : BitVec 56) : Nat := bits w 3 2
def fAop (w : BitVec 56) : Nat := bits w 0 3
/-- IMM12 of format L. -/
def fImm12 (w : BitVec 56) : Nat := bits w 29 12

/-- Bytes of SZ and L16 (R287). -/
def sizeOf_ (w : BitVec 56) : Nat := if fSZ w < 7 then 2 ^ fSZ w else 16 * (fL16 w + 1)

/-! ### Formats of the lanes (R284, R285) -/

/-- Width of a lane of a format code; 0 where reserved. -/
def laneW (c : Nat) : Nat := [64, 32, 16, 16, 8, 8, 32, 8, 64, 16].getD c 0
/-- Storage format of a code. -/
def fmtOf (c : Nat) : Option Fmt :=
  [some .fp64, some .fp32, some .bf16, some .fp16, some .e4m3, some .e5m2, some .int32, some .int8].getD c none
/-- INT8, INT16, INT32 or INT64 (R301). -/
def isIntCode (c : Nat) : Bool := 6 ≤ c && c ≤ 9
/-- A floating-point code (R302). -/
def isFpCode (c : Nat) : Bool := c ≤ 5
/-- Lane i of a register with lanes of w bits. -/
def lane (v : Vec) (w i : Nat) : Nat := v.toNat / 2 ^ (i * w) % 2 ^ w
/-- Replace lane i. -/
def setLane (v : Vec) (w i x : Nat) : Vec :=
  BitVec.ofNat 128 (v.toNat % 2 ^ (i * w) + x % 2 ^ w * 2 ^ (i * w) + v.toNat / 2 ^ ((i + 1) * w) * 2 ^ ((i + 1) * w))
/-- A register whose lanes of w bits are given by a function. -/
def ofLanes (w : Nat) (f : Nat → Nat) : Vec :=
  BitVec.ofNat 128 ((List.range (128 / w)).foldl (fun n i => n + f i % 2 ^ w * 2 ^ (i * w)) 0)

/-! ### Legality (R281 to R288, R298) -/

/-- The register files, and STAT as the target of a dependency. -/
inductive RegKind where
  | v | s | p | t | stat | elem
deriving DecidableEq, Repr

/-- Registers less one. -/
def RegKind.top : RegKind → Nat
  | .v => 31 | .s => 15 | .p => 7 | .t => 1 | .stat => 0 | .elem => 0

/-- What an instruction uses of its word: bits, whether their values are legal, and registers (kind, first, count). -/
structure Use where
  mask : Nat := 0
  ok   : Bool := true
  regs : List (RegKind × Nat × Nat) := []
deriving DecidableEq, Repr

/-- A register field at bit `lo` that names `n` consecutive registers (R282, R283). -/
def useReg (w : BitVec 56) (k : RegKind) (lo : Nat) (n : Nat := 1) : Use :=
  let r := bits w lo 5 % (k.top + 1)
  { mask := k.top * 2 ^ lo, ok := decide (r + n ≤ k.top + 1), regs := [(k, r, n)] }
/-- `len` bits from `lo`. -/
def useBits (lo len : Nat) : Use := { mask := (2 ^ len - 1) * 2 ^ lo }
/-- A condition. -/
def need (b : Bool) : Use := { ok := b }
/-- FMT or TYPE with its allowed codes. -/
def useFmt (w : BitVec 56) (p : Nat → Bool) : Use := { mask := 0xF * 2 ^ 32, ok := p (fFmt w) && decide (fFmt w ≤ 9) }
/-- RND (R286): stochastic rounding reads and advances SR_ELEM. -/
def useRnd (w : BitVec 56) : Use := { mask := 7 * 2 ^ 24, ok := decide (fRnd w ≤ 5), regs := if fRnd w = 5 then [(.elem, 0, 1)] else [] }
/-- A lane field at bit `lo` (R285). -/
def useLane (w : BitVec 56) (lo : Nat) : Use := { mask := 0xF * 2 ^ lo, ok := decide (bits w lo 4 < 128 / laneW (fFmt w)) }
/-- A Slate range at SOFF × 16 (R283). -/
def useSlate (w : BitVec 56) (n : Nat) : Use := { mask := 0x1FF * 2 ^ 12, ok := decide (16 * fSoff w + n ≤ 6144) }
/-- The register or Slate side of a memory instruction (R287). -/
def useSide (w : BitVec 56) : List Use :=
  if fSZ w ≤ 3 then [useReg w .s 46]
  else if fSZ w ≤ 6 then [useReg w .v 46 (2 ^ (fSZ w - 4))]
  else [useBits 5 7, useSlate w (sizeOf_ w)]
/-- ATTR and SCOPE (R288). -/
def useAttr (w : BitVec 56) (attrs : List Nat) : List Use :=
  [useBits 3 2, useBits 29 3,
   need (attrs.contains (fAttr w) && (if fAttr w = 0 then fScope w = 0 else (1 ≤ fScope w && decide (fScope w ≤ 5))))]
/-- D, A and B in one file. -/
def useDAB (w : BitVec 56) (k : RegKind) : List Use := [useReg w k 46, useReg w k 41, useReg w k 36]
/-- Highest bit set in an 8-bit mask, 0 where none is. -/
def topBit (m : Nat) : Nat := if m = 0 then 0 else Nat.log2 m

/-- Control and predicates (R299, R310). -/
def usesControl (op : Nat) (w : BitVec 56) : List Use :=
  if op ≤ 0x03 then []
  else if op = 0x04 then [useBits 0 12]
  else if op = 0x05 then [useReg w .s 41, useBits 0 12]
  else if op = 0x06 then [useBits 0 18, { regs := [(.stat, 0, 1)] }]
  else if op = 0x07 then [useReg w .s 41]
  else if op = 0x08 then [useReg w .s 46, useBits 0 6, need (decide (bits w 0 6 ≤ 9)),
    { regs := if bits w 0 6 = 1 then [(.stat, 0, 1)] else if bits w 0 6 = 4 then [(.elem, 0, 1)] else [] }]
  else if op = 0x09 then [useReg w .s 41, useBits 0 6, need ([1, 2, 3, 4].contains (bits w 0 6)),
    { regs := if bits w 0 6 = 1 then [(.stat, 0, 1)] else if bits w 0 6 = 4 then [(.elem, 0, 1)] else [] }]
  else if op = 0x0A then [useBits 0 8, useReg w .v 46 (topBit (bits w 0 8) / 2 + 1)]
  else useDAB w .p ++ [useBits 0 3]

/-- Scalar integer (R300). -/
def usesScalar (op : Nat) (w : BitVec 56) : List Use :=
  if op = 0x17 ∨ op = 0x18 then
    [useReg w .s 46, useReg w .s 41, useBits 6 (if op = 0x17 then 1 else 2)]
      ++ (if modBit w 6 then [useBits 0 6] else [useReg w .s 36])
  else if op = 0x1B then [useReg w .p 46, useReg w .s 41, useReg w .s 36, useBits 0 3, need (decide (bits w 0 3 ≤ 5))]
  else if op = 0x1C then useDAB w .s ++ [useReg w .p 27]
  else if op = 0x1D then [useReg w .s 46, useBits 0 41]
  else if op = 0x1E then [useReg w .s 46, useBits 0 23]
  else if op = 0x1F then [useReg w .s 46, useReg w .s 41, useBits 0 41]
  else useDAB w .s ++ (if op = 0x13 ∨ op = 0x19 ∨ op = 0x1A then [useBits 0 1] else [])

/-- Vector integer, bit and move (R301). -/
def usesVector (op : Nat) (w : BitVec 56) : List Use :=
  if [0x23, 0x24, 0x25, 0x2C].contains op then useDAB w .v
  else if op = 0x2B then useDAB w .v ++ [useReg w .v 27]
  else if [0x26, 0x27, 0x2D, 0x30].contains op then
    [useFmt w isIntCode, useReg w .v 46, useReg w .v 41]
      ++ (if op = 0x26 then [useBits 0 6] else if op = 0x27 then [useBits 0 6, useBits 7 1] else [])
  else if op = 0x2E ∨ op = 0x32 then
    [useFmt w (fun _ => true), useReg w .s 46, useReg w .v 41] ++ (if op = 0x32 then [useLane w 20] else [])
  else if op = 0x31 ∨ op = 0x33 then
    [useFmt w (fun _ => true), useReg w .v 46, useReg w .s 41] ++ (if op = 0x33 then [useLane w 12] else [])
  else [useFmt w isIntCode] ++ useDAB w .v
    ++ (if op = 0x28 ∨ op = 0x29 then [useBits 0 1]
        else if op = 0x2A then [useBits 0 3, need (decide (bits w 0 3 ≤ 5))] else [])

/-- Vector floating point and generation (R302, R303). -/
def usesFloat (op : Nat) (w : BitVec 56) : List Use :=
  if op = 0x47 then
    let wa := laneW (fFmt w)
    let wb := laneW (bits w 0 4)
    [useFmt w (fun _ => true), useRnd w, useReg w .v 46, useReg w .v 41, useBits 20 4, useBits 12 4, useBits 0 4,
     need (decide (bits w 0 4 ≤ 9) && decide (fLA w * wa < max wa wb) && decide (fLD w * wb < max wa wb))]
  else if op = 0x48 then [useFmt w isFpCode, useRnd w, useReg w .v 46, useReg w .v 41, useLane w 12]
  else if op = 0x49 then
    [useFmt w (fun c => c = 1 || c = 2 || c = 3), useRnd w, useReg w .v 46, useReg w .v 41, useBits 0 4, need (decide (bits w 0 4 ≤ 10))]
  else if op = 0x4A then
    [useReg w .v 46, useBits 0 1] ++ (if modBit w 0 then [] else [useReg w .s 41, useReg w .s 36])
  else
    [useFmt w isFpCode] ++ useDAB w .v ++ (if op = 0x40 then [useReg w .v 27] else [])
      ++ (if op ≤ 0x43 then [useRnd w] else if op = 0x46 then [useBits 0 2] else [])

/-- Tally and Long Tally (R305). -/
def usesTally (op : Nat) (w : BitVec 56) : List Use :=
  if op = 0x50 then
    [useFmt w (fun c => decide (c ≤ 7)), useReg w .t 46, useBits 0 2, useReg w .v 41, useLane w 20]
      ++ (if modBit w 0 then [] else [useReg w .v 36, useLane w 16])
  else if op = 0x51 ∨ op = 0x56 then
    [useFmt w (fun c => if op = 0x51 then decide (c ≤ 7) else decide (c ≤ 1)), useRnd w, useBits 0 1, useBits 2 1,
     useReg w (if op = 0x51 then .t else .s) 41]
      ++ (if modBit w 2 then [useReg w .s 46] else [useReg w .v 46, useLane w 12])
  else if op = 0x52 then [useReg w .t 46]
  else if op = 0x53 ∨ op = 0x54 then
    [useReg w .t 46, useBits 21 3, useBits 5 7, need (fSZ w = 7 && fL16 w = 4), useSlate w 80]
  else if op = 0x55 then
    [useReg w .s 41, useReg w .v 36, useLane w 16, useBits 0 2]
      ++ (if modBit w 0 then [] else [useReg w .v 27, useLane w 20])
  else [useReg w .s 41]

/-- Local memory (R306). -/
def usesLocal (op : Nat) (w : BitVec 56) : List Use :=
  [useReg w .s 41, useBits 29 12, useBits 21 3] ++ useSide w
    ++ (if op ≤ 0x71 then [need (decide (fSZ w ≤ 6))] else [useBits 28 1, useBits 24 4])

/-- Fabric access (R307 to R309). -/
def usesFabric (op : Nat) (w : BitVec 56) : List Use :=
  if op = 0x67 then [useBits 29 3, need (1 ≤ fScope w && decide (fScope w ≤ 5))]
  else if op = 0x68 then [useReg w .s 46, useReg w .s 41, useReg w .p 27, useBits 0 1]
  else
    [useReg w .s 41, useBits 28 1, useBits 24 4, useBits 21 3]
      ++ (if op = 0x60 ∨ op = 0x61 then useSide w
          else if op = 0x62 then
            [useBits 0 3, useFmt w (fun c => decide (c ≤ 7))] ++ useAttr w [0, 1, 2, 3]
              ++ (if fAop w ≤ 2 then [need (1 ≤ fSZ w && decide (fSZ w ≤ 3)), useReg w .s 46, useReg w .s 36]
                  else if fAop w = 4 then
                    [need (fSZ w = 3 || fSZ w = 4), useReg w (if fSZ w = 4 then .v else .s) 46,
                     useReg w (if fSZ w = 4 then .v else .s) 36 2]
                  else [need (fSZ w = 2 || fSZ w = 3), useReg w .s 46, useReg w .s 36])
          else if op = 0x63 then
            [useFmt w (fun c => decide (c ≤ 7)), need (decide (2 ≤ fSZ w))] ++ useSide w ++ useAttr w [0, 2]
          else if op = 0x64 then useSide w ++ [useReg w .s 36]
          else if op = 0x65 ∨ op = 0x66 then
            [need (decide (fSZ w ≤ 3)), useBits 29 3, need (1 ≤ fScope w && decide (fScope w ≤ 5))] ++ useSide w
          else
            [useReg w .s 36, useFmt w (fun c => c = 7 || c = 4), useBits 5 7, need (fSZ w = 7 && fL16 w = 7), useSlate w 128])

/-- What an instruction uses; none for a reserved opcode (R298). -/
def usesOf (op : Nat) (w : BitVec 56) : Option (List Use) :=
  if 0x01 ≤ op ∧ op ≤ 0x0B then some (usesControl op w)
  else if 0x10 ≤ op ∧ op ≤ 0x1F then some (usesScalar op w)
  else if (0x20 ≤ op ∧ op ≤ 0x2E) ∨ (0x30 ≤ op ∧ op ≤ 0x33) then some (usesVector op w)
  else if 0x40 ≤ op ∧ op ≤ 0x4A then some (usesFloat op w)
  else if 0x50 ≤ op ∧ op ≤ 0x57 then some (usesTally op w)
  else if 0x60 ≤ op ∧ op ≤ 0x69 then some (usesFabric op w)
  else if 0x70 ≤ op ∧ op ≤ 0x73 then some (usesLocal op w)
  else none

/-- The guard field is legal: G = 0 only with GN and GP 0 (R281). -/
def guardLegal (w : BitVec 56) : Bool := w.getLsbD 55 || bits w 51 4 = 0

/-- Whether an instruction word is legal (R283). -/
def legal (op : Nat) (w : BitVec 56) : Bool :=
  match usesOf op w with
  | none => false
  | some l =>
    guardLegal w && l.all (fun u => u.ok)
      && (w.toNat &&& l.foldl (fun m u => m ||| u.mask) 0xF8000000000000) = w.toNat

/-- Registers an instruction reads or writes (R289), the guard predicate included. -/
def regsOf (op : Nat) (w : BitVec 56) : List (RegKind × Nat × Nat) :=
  (if w.getLsbD 55 then [(.p, bits w 51 3, 1)] else []) ++ ((usesOf op w).getD []).flatMap (fun u => u.regs)

/-- Two register ranges meet. -/
def regsMeet (a b : RegKind × Nat × Nat) : Bool :=
  a.1 = b.1 && decide (a.2.1 < b.2.1 + b.2.2) && decide (b.2.1 < a.2.1 + a.2.2)

/-! ### Registers of a Seat (R244) -/

/-- V[i]. -/
def Seat.vr (x : Seat) (i : Nat) : Vec := if h : i < 32 then x.v[i] else 0
/-- S[i]. -/
def Seat.sr (x : Seat) (i : Nat) : Word := if h : i < 16 then x.s[i] else 0
/-- P[i]. -/
def Seat.pr (x : Seat) (i : Nat) : Bool := x.p.getLsbD i
/-- Write V[i]. -/
def Seat.setV (x : Seat) (i : Nat) (v : Vec) : Seat := if h : i < 32 then { x with v := x.v.set i v } else x
/-- Write S[i]. -/
def Seat.setS (x : Seat) (i : Nat) (v : Word) : Seat := if h : i < 16 then { x with s := x.s.set i v } else x
/-- Write P[i]. -/
def Seat.setP (x : Seat) (i : Nat) (b : Bool) : Seat :=
  { x with p := if b then x.p ||| BitVec.ofNat 8 (2 ^ i) else x.p &&& ~~~(BitVec.ofNat 8 (2 ^ i)) }

/-- Registers that hold a load's data (R287). -/
def destRegs (sz d : Nat) : List (RegKind × Nat × Nat) :=
  if sz ≤ 3 then [(.s, d, 1)] else if sz ≤ 6 then [(.v, d, 2 ^ (sz - 4))] else []

/-- Load data of SZ 0 to 6 into the register side (R287). -/
def Seat.load (x : Seat) (sz d : Nat) (data : List Byte) : Seat :=
  if sz ≤ 3 then x.setS d (BitVec.ofNat 64 (leNat (data.take (2 ^ sz))))
  else (List.range (2 ^ (sz - 4))).foldl (fun y k => y.setV (d + k) (BitVec.ofNat 128 (leAt data (16 * k) 16))) x

/-- The bytes that the register side of SZ 0 to 6 stores (R287). -/
def Seat.data (x : Seat) (sz d : Nat) : List Byte :=
  if sz ≤ 3 then leBytes (2 ^ sz) (x.sr d).toNat
  else (List.range (2 ^ (sz - 4))).flatMap (fun k => leBytes 16 (x.vr (d + k)).toNat)

/-- Tally k of a Desk (R320). -/
def Desk.tally (d : Desk) (k : Nat) : Acc := Acc.unpack tallyW (if k = 0 then d.t0 else d.t1).toNat
/-- Write Tally k. -/
def Desk.setTally (d : Desk) (k : Nat) (a : Acc) : Desk :=
  let v := BitVec.ofNat 640 (a.pack tallyW)
  if k = 0 then { d with t0 := v } else { d with t1 := v }

/-! ### The Seat of a command -/

/-- Desk index of a command. -/
def deskOf (i : ChalkOp) : Nat := DeskId.idx i.desk
/-- The issuing Seat. -/
def State.me (s : State) (i : ChalkOp) : Seat := s.seat (deskOf i) i.seat
/-- Replace the issuing Seat. -/
def State.putMe (s : State) (i : ChalkOp) (x : Seat) : State := s.setSeat (deskOf i) i.seat x

/-! ### Inbox receive (R268, R310) -/

/-- Every word of a mask is FULL. -/
def Desk.wordsFull (d : Desk) (mask : BitVec 8) : Bool := d.full &&& mask = mask
/-- Copy the words of a mask to V registers from `first` and clear their FULL bits. -/
def State.rcvTake (s : State) (desk : Nat) (k : Fin 4) (first : Nat) (mask : BitVec 8) : State :=
  let words := (List.range 8).filter (fun i => mask.getLsbD i)
  let x := words.foldl (fun (y : Seat) i =>
    y.setV (first + i / 2) (setLane (y.vr (first + i / 2)) 64 (i % 2) (s.num (inboxBase desk + 8 * i) 8))) (s.seat desk k)
  let d := s.desk desk
  s.setDesk desk { d with full := d.full &&& ~~~mask, seats := d.seats.set k { x with st := .ready, rcv := none } }
/-- Complete the waiting receives of a Desk, in Seat order. -/
def State.rcvWake (s : State) (desk : Nat) : State :=
  s.forAll [(0 : Fin 4), 1, 2, 3] (fun s k =>
    match (s.seat desk k).rcv with
    | some (first, mask) => if (s.seat desk k).st = .inbox ∧ (s.desk desk).wordsFull mask then s.rcvTake desk k first mask else s
    | none => s)

/-! ### Memory operations that fabric instructions select (R81, R307, R308) -/

/-- Opcode of R81 that an instruction's fields select. -/
def memOp (op : Nat) (w : BitVec 56) : Nat :=
  if op = 0x60 ∨ op = 0x65 then 1
  else if op = 0x61 ∨ op = 0x66 then 2
  else if op = 0x64 then 3
  else if op = 0x63 then 0x10 + fFmt w
  else if fAop w ≤ 2 then 0x20 + 0x10 * fAop w + fFmt w
  else if fAop w = 4 then (if fSZ w = 4 then 0x53 else 0x52)
  else (if fAop w = 3 then 0x50 else 0x4A + 2 * fAop w) + (if fSZ w = 3 then 1 else 0)

/-- Request flags: ACQ and REL of R173. -/
def memFlags (op : Nat) (w : BitVec 56) : BitVec 3 :=
  if op = 0x65 then 2 else if op = 0x66 then 1
  else if op = 0x62 ∨ op = 0x63 then BitVec.ofNat 3 (fAttr w % 2 * 2 + fAttr w / 2) else 0

/-- Kind of access of an opcode. -/
def accKind (op : Nat) : AccKind :=
  if op = 0x60 then .load else if op = 0x61 then .store else if op = 0x62 then .atomic else if op = 0x63 then .red
  else if op = 0x64 then .multicast else if op = 0x65 then .acquire else if op = 0x66 then .release else if op = 0x69 then .omv
  else if op = 0x72 then .bbLoad else .bbStore

/-- Accesses whose result returns to the Seat (R297): they write LAST. -/
def AccKind.isLoad : AccKind → Bool
  | .load => true | .atomic => true | .acquire => true | .omv => true | .bbLoad => true
  | .store => false | .red => false | .multicast => false | .release => false | .bbStore => false

/-- Accesses that write LAST when they complete (R297). -/
def AccKind.last (k : AccKind) : Bool := k.isLoad || k = .bbStore
/-- Registers that an outstanding access will write (R289). -/
def Access.dest (a : Access) : List (RegKind × Nat × Nat) :=
  (if a.kind.last then [(.stat, 0, 1)] else []) ++ (if a.kind.isLoad && a.kind ≠ .omv then destRegs a.sz a.d else [])
/-- Registers that a queued Long Tally operation will write: a stochastic read-out advances SR_ELEM (R286, R289). -/
def LtOp.dest : LtOp → List (RegKind × Nat × Nat)
  | .read _ rnd d _ scalar _ => [(if scalar then .s else .v, d, 1), (.stat, 0, 1)] ++ (match rnd with
    | .stochastic _ => [(.elem, 0, 1)]
    | _ => [])
  | .add _ _ => []
  | .clear => []

/-- The access is a release: REL, or a FAT or RED with the release attribute (R125, R288). -/
def Access.isRelease (a : Access) : Bool := a.kind = .release || a.f.flags.getLsbD 0
/-- The access is an acquire (R125, R126). -/
def Access.isAcquire (a : Access) : Bool := a.kind.isLoad && a.kind ≠ .omv && a.f.flags.getLsbD 1
/-- The access sends Slate words (R295): a store, RED or MST of SZ 7, or an OMV. -/
def Access.reads (a : Access) : Bool := (!a.kind.isLoad && a.sz = 7) || a.kind = .omv
/-- Every byte it sends is at hand. -/
def Access.full (a : Access) : Bool := !a.reads || decide (a.f.length.toNat ≤ a.f.payload.length)
/-- Stores, REDs and MSTs of a Seat that leave the Classroom (R250). -/
def Seat.stores (x : Seat) : Nat := (x.acc.filter (fun a => !a.kind.isLoad && a.leaves)).length
/-- A FENCE or a release waits for the Seat's earlier accesses (R308). -/
def Seat.drains (x : Seat) : Bool := x.fence || x.acc.any (fun a => a.stage = .draining)
/-- The Seat must be WAITING (R247, R250): for a load, atomic or acquire that leaves the Classroom, for a FENCE or release behind an
access that leaves it, or at its store limit. -/
def Seat.mustWait (x : Seat) : Bool :=
  x.acc.any (fun a => a.kind.isLoad && a.leaves)
    || (x.drains && x.acc.any (fun a => a.leaves && a.stage ≠ .draining)) || decide (16 ≤ x.stores)
/-- The Seat waits in place, and the Desk with it (R246): a full Long Tally queue, or a FENCE, a release or an acquire that stays in
the Classroom. -/
def Seat.holdsDesk (x : Seat) : Bool := x.ltWait || (!x.mustWait && (x.drains || x.acc.any (fun a => a.isAcquire)))
/-- A Seat whose state follows from its outstanding accesses. -/
def Seat.settle (x : Seat) : Seat :=
  if x.st = .ready ∧ x.mustWait then { x with st := .waiting }
  else if x.st = .waiting ∧ ¬ x.mustWait then { x with st := .ready } else x

/-! ### Fetch (R253, R291) -/

/-- Block of an instruction address. -/
def blockOf (pc : BitVec 12) : Nat := pc.toNat / 16
/-- The Seat's next instruction is in its buffer. -/
def Seat.fetched (x : Seat) : Bool := x.blocks.contains (blockOf x.pc)
/-- Request a block that is neither in the buffer nor requested. -/
def Seat.want (x : Seat) (b : Nat) : Seat := if x.blocks.contains b || x.wants.contains b then x else { x with wants := x.wants ++ [b] }
/-- The instruction at the Seat's program counter issues: the next sequential block is requested where the buffer lacks it. -/
def Seat.advance (x : Seat) : Seat := { x.want ((blockOf x.pc + 1) % 256) with pc := x.pc + 1 }
/-- A requested block is delivered: it takes the place of the one the Seat does not execute (DESIGN CHOICE, log 84). -/
def Seat.deliver (x : Seat) (b : Nat) : Seat :=
  if x.wants.contains b then
    { x with wants := x.wants.filter (· ≠ b),
             blocks := (if x.fetched then [blockOf x.pc] else x.blocks.drop (x.blocks.length - 1)) ++ [b] }
  else x
/-- A taken branch: the program counter takes the target, whose block is requested where the buffer lacks it. -/
def Seat.goto (x : Seat) (t : Nat) : Seat := { x.want (t % 4096 / 16) with pc := BitVec.ofNat 12 t }
/-- A Seat that a role starts: its entry block is loaded before the body. -/
def Seat.enter (x : Seat) (pc : BitVec 12) : Seat := { x with st := .ready, pc := pc, blocks := [blockOf pc], wants := [] }

end Sys2Proof.Machine
end

