-- ==== Sys2Proof/Machine/Flags.lean ====
section
/-! DEFINITION. What Chalk computes beside its results: guards, predicates, comparisons, and the completion-status
record STAT (R280, R281, R297, R299, R300). -/

namespace Sys2Proof.Machine

/-- The guard of R281 lets the instruction execute. -/
def guardOn (x : Seat) (w : BitVec 56) : Bool :=
  !w.getLsbD 55 || (x.pr (bits w 51 3) != w.getLsbD 54)

/-- STAT after a status (R280, R297). -/
def statNext (stat : Word) (st : BitVec 5) (last : Bool) (pc : BitVec 12) : Word :=
  let a := if last then fset stat 0 5 st.toNat else stat
  if st = 0 then a
  else
    let b := if fget a 20 16 = 0 then fset (fset a 8 5 st.toNat) 36 12 pc.toNat else a
    fset b 20 16 (min (fget b 20 16 + 1) 65535)

/-- Bits of STAT that MTSR writes (R280). -/
def statMask : Word := 0x0000FFFFFFF01F1F

/-- Record a status in a Seat's STAT. -/
def Seat.record (x : Seat) (st : BitVec 5) (last : Bool) (pc : BitVec 12) : Seat := { x with stat := statNext x.stat st last pc }

/-- COUNT of STAT. -/
def statCount (stat : Word) : Nat := fget stat 20 16
/-- LAST of STAT. -/
def statLast (stat : Word) : Nat := fget stat 0 5

/-- Conditions of CMP and VCMP on w-bit values: EQ, NE, LT, LE, LTU, LEU (R300). -/
def cmpCond (c w a b : Nat) : Bool :=
  if c = 0 then a = b else if c = 1 then a ≠ b
  else if c = 2 then decide (sgn w a < sgn w b) else if c = 3 then decide (sgn w a ≤ sgn w b)
  else if c = 4 then decide (a < b) else decide (a ≤ b)

/-- Conditions of VFCMP: EQ, LT, LE, unordered (R302); −0 equals +0. -/
def fcmpCond (c : Nat) (a b : FVal) : Bool :=
  let unord := a = .nan || b = .nan
  if c = 3 then unord
  else if unord then false
  else if c = 0 then a.eq b
  else if c = 1 then a.lt b && !a.eq b
  else a.lt b || a.eq b

/-- PLOG: AND, OR, XOR, AND-NOT, inverted by MOD[2] (R299). -/
def plog (m : Nat) (a b : Bool) : Bool :=
  let r := if m % 4 = 0 then a && b else if m % 4 = 1 then a || b else if m % 4 = 2 then a != b else a && !b
  if m / 4 % 2 = 1 then !r else r

/-- The rounding mode of RND for lane i (R286, R317). -/
def roundingOf (s : State) (cohort : Nat) (x : Seat) (rnd i : Nat) : Rnd :=
  if rnd = 0 then .nearest else if rnd = 1 then .zero else if rnd = 2 then .up else if rnd = 3 then .down
  else if rnd = 4 then .away
  else .stochastic ((generator (s.seed cohort) (s.step_ cohort) x.srStream (x.srElem + BitVec.ofNat 32 i)).toNat % 2 ^ 32)

/-- SR_ELEM after n lanes were rounded (R286). -/
def Seat.rounded (x : Seat) (rnd n : Nat) : Seat := if rnd = 5 then { x with srElem := x.srElem + BitVec.ofNat 32 n } else x

end Sys2Proof.Machine
end

