-- ==== Sys2Proof/Machine/Switch.lean ====
section
/-! DEFINITION. The Centroid switch core: admission, WRED, ageing, the quota arbiter, route processing
and ejection (R171 to R182, R201 to R236, R648, R649). -/

namespace Sys2Proof.Machine

/-! ### The quota arbiter (R234) -/

/-- An arbiter's parameters, in the layout of R615. -/
structure ArbCfg where
  quota  : Nat
  window : Nat
  burst  : Nat
  high   : Nat
deriving DecidableEq, Repr

/-- Decode a register of R615. -/
def arbCfg (w : Word) : ArbCfg :=
  { quota := fget w 0 9, window := fget w 16 9, burst := fget w 32 7, high := fget w 48 10 }

/-- First requester at or after `start`, cyclically among n (R234). -/
def firstFrom (n start : Nat) (p : Nat → Bool) : Option Nat :=
  ((List.range n).map (fun i => (start + i) % n)).find? p

/-- Record a grant (R234). -/
def arbTake (c : ArbCfg) (a : Arb) (g : Nat) : Arb :=
  if a.count + 1 = c.window then { a with count := 0, used := 0, owner := some g, sent := 1 }
  else { a with count := a.count + 1, owner := some g, sent := 1 }

/-- One opportunity of the arbiter among n requesters: the new state and the requester served (R234). -/
def arbStep (n : Nat) (c : ArbCfg) (req high mid : Nat → Bool) (a : Arb) : Arb × Option Nat :=
  let fresh : Arb × Option Nat :=
    let b := { a with owner := none }
    match (if b.used < c.quota then firstFrom n b.hptr (fun r => req r && high r) else none) with
    | some g => (arbTake c { b with hptr := (g + 1) % n, used := b.used + 1 } g, some g)
    | none =>
      match firstFrom n b.eptr req with
      | some g => (arbTake c { b with eptr := (g + 1) % n } g, some g)
      | none => (b, none)
  match a.owner with
  | some o => if req o && (decide (a.sent < c.burst) || mid o) then ({ a with sent := a.sent + 1 }, some o) else fresh
  | none => fresh

/-! ### Melium ports (R471, R472) -/

def optDefault (_ : Nat) : Opt := {}
/-- An optical port by its number less 64. -/
def State.opt (s : State) (i : Nat) : Opt := tget optDefault s.opts i
/-- A port in Melium laser mode (R203, R471). -/
def State.melium (s : State) (p : Nat) : Bool := 64 ≤ p && p < 128 && (s.opt (p - 64)).melium
/-- The counter that a port's credits of a VC stand in: that of the VC, or of the MS-5's class (R182, R472). -/
def State.creditVc (s : State) (p v : Nat) : Nat := if s.melium p then (if v = 1 then 1 else 2) else v

/-! ### Buffer accounting (R216 to R220) -/

def arbDefault (_ : Nat) : Arb := {}
/-- Credits held for a VC of an external port (R182). -/
def State.credit (s : State) (p v : Nat) : Nat := tget (fun _ => 0) s.fab.credits (4 * p + v)
def State.setCredit (s : State) (p v n : Nat) : State :=
  { s with fab := { s.fab with credits := tput (fun _ => 0) s.fab.credits (4 * p + v) n } }
/-- BUF_MIN in force (R217, R243). -/
def State.bufMin (s : State) (p : Nat) : Word := tget bufMinReset s.fab.bufMin p
/-- CREDIT_ADV in force (R183, R243). -/
def State.credAdv (s : State) (p : Nat) : Word := tget bufMinReset s.fab.adv p
/-- VC_EN in force (R243, R654). -/
def State.vcEn (s : State) (p : Nat) : Nat := tget (fun _ => 0xF) s.fab.vcEn p

/-- Cells of queued frames that satisfy a test, counting those still to be sent. -/
def State.cellsOf (s : State) (p : QFrame → Bool) : Nat :=
  (s.fab.voq.filter p).foldl (fun n q => n + (q.cells - q.sent)) 0
/-- Cells that queued frames are charged: of each those still to be sent; of the copies of one MST the payload cells once, and
each its own first cell (R220, R238). -/
def chargedCells : List QFrame → Nat
  | [] => 0
  | q :: r =>
    (match q.ctx with
     | none => q.cells - q.sent
     | some c => (if r.any (fun (x : QFrame) => decide (x.ctx = some c)) then 0 else q.cells - 1) + (if q.sent = 0 then 1 else 0)) + chargedCells r
/-- Free cells of the shared pool (R220). -/
def State.sharedFree (s : State) : Nat :=
  s.regF rSharedTotal 0 64 - chargedCells (s.fab.voq.filter (fun q => q.place == .shared))
/-- Cells charged to a port's guaranteed minimum for a VC (R218). -/
def State.minUsed (s : State) (p v : Nat) : Nat :=
  chargedCells (s.fab.voq.filter (fun q => q.inp = p && s.creditVc p q.vc = v && (q.place == .minimum || q.place == .waitOverflow)))
/-- Cells in overflow (R220). -/
def State.ovfUsed (s : State) : Nat := s.cellsOf (fun q => q.place == .overflow)
/-- Every channel's READY bit is set (R225). -/
def State.channelsReady (s : State) : Bool := (List.range 64).all (fun c => s.ready (readyCh c))
/-- The overflow region accepts n more cells (R221, R225). -/
def State.ovfRoom (s : State) (n : Nat) : Bool :=
  !s.fenced 2 && s.channelsReady && decide (s.ovfUsed + n ≤ s.regF rOvfSize 0 7 * 2 ^ 22)
/-! ### The transmitter of a DEP-7's link (R182) -/

/-- A frame of a DEP-7 starts on its link. -/
def State.depSend (s : State) (p : Nat) (f : Frame) : State :=
  let d := s.dep p
  let v := f.vc.toNat
  (s.setDep p { d with unpaid := tput (fun _ => 0) d.unpaid v (tget (fun _ => 0) d.unpaid v + Frame.cells f) }).emit (.depFrame p f)
/-- A frame of a DEP-7 starts where its port's credits of the VC cover its cells and no earlier frame of the VC waits; else it
waits (R182). -/
def State.depLaunch (s : State) (p : Nat) (f : Frame) : State :=
  let d := s.dep p
  let v := f.vc.toNat
  if d.outq.any (fun g => decide (g.vc = f.vc)) || decide (fget (s.credAdv p) (16 * v) 16 < tget (fun _ => 0) d.unpaid v + Frame.cells f) then
    s.setDep p { d with outq := d.outq ++ [f] }
  else s.depSend p f
/-- Credits come back to a DEP-7: frames that waited start. -/
def State.depCredit (s : State) (p v n : Nat) : State :=
  let d := s.dep p
  let t := s.setDep p { d with unpaid := tput (fun _ => 0) d.unpaid v (tget (fun _ => 0) d.unpaid v - n), outq := [] }
  t.forAll d.outq (fun s f => s.depLaunch p f)
/-- A link that goes down loses its credits and what waits for them (R182). -/
def State.depForget (s : State) (p : Nat) : State :=
  if (s.dep p).unpaid = [] ∧ (s.dep p).outq = [] then s else s.setDep p { s.dep p with unpaid := [], outq := [] }

/-- Return credits for cells that leave an ingress port's buffer (R182, R219). -/
def State.returnCredit (s : State) (p v n : Nat) : State :=
  if p < 128 ∧ n ≠ 0 then
    let t := s.emit (.word p (.credit v n))
    if p < 64 then t.depCredit p v n else t
  else s

/-! ### WRED (R227, R228) -/

/-- WRED average of output queue (o, v), in 1/65,536 cell. -/
def State.wredAvg (s : State) (o v : Nat) : Nat := tget (fun _ => 0) s.fab.wred (2 * o + v - 1)
/-- Drop generator of an output. -/
def lfsrReset (o : Nat) : BitVec 32 := 0x00010000 + BitVec.ofNat 32 o
/-- One shift of the drop generator. -/
def lfsrShift (s : BitVec 32) : BitVec 32 :=
  (s <<< 1) ||| BitVec.ofNat 32 ((s.getLsbD 31).xor ((s.getLsbD 21).xor ((s.getLsbD 1).xor (s.getLsbD 0)))).toNat
/-- Sixteen shifts. -/
def lfsrNext (s : BitVec 32) : BitVec 32 := (List.range 16).foldl (fun x _ => lfsrShift x) s
/-- Base address of the profile that governs colour c of output queue (o, v) (R227, R654). -/
def State.wredAt (s : State) (o v c : Nat) : Nat :=
  rWredSet + 48 * s.regF (swReg o swVcCfg) (if v = 1 then 8 else 12) 3 + 16 * c
/-- WRED's decision at admission, with the generator advanced where the decision draws on it (R228). -/
def State.wredDrop (s : State) (o v c : Nat) : Bool × State :=
  let a := s.wredAt o v c
  let en := s.regBit (a + 8) 63
  let mn := s.regF a 0 28
  let mx := s.regF (a + 8) 0 28
  let p := s.regF (a + 8) 32 9
  let avg := s.wredAvg o v
  if !en || avg < mn * 65536 then (false, s)
  else if mx * 65536 ≤ avg then (true, s)
  else
    let x := lfsrNext (tget lfsrReset s.fab.lfsr o)
    let p16 := p * 256 * (avg - mn * 65536) / ((mx - mn) * 65536)
    (decide (x.toNat % 65536 < p16), { s with fab := { s.fab with lfsr := tput lfsrReset s.fab.lfsr o x } })

/-! ### Admission (R221) -/

/-- The combining context that a frame of the module's source engine is a copy for (R238). -/
def State.copyCtx (s : State) (f : Frame) : Option Nat :=
  let o : Option Owner := if f.opcode ≠ 3 then none
    else if f.vc = 0 then (s.fab.tt.find? (fun r => r.dest = f.dst ∧ r.index = f.seq)).map (fun r => r.owner)
    else ((tget (fun _ => {}) s.fab.pairs f.dst.toNat).sent.find? (fun r => r.f.seq = f.seq)).map (fun r => r.owner)
  match o with
  | some (.copy c) => some c
  | _ => none
/-- Append a frame to its VOQ (R221, R229). -/
def State.enqueue (s : State) (inp out : Nat) (f : Frame) (place : Place) : State :=
  { s with fab := { s.fab with
      nextId := s.fab.nextId + 1
      voq := s.fab.voq ++ [{ id := s.fab.nextId, f := f, inp := inp, out := out, vc := f.vc.toNat, cells := Frame.cells f, sent := 0,
                             place := place, stamp := s.regF rAgeTick 0 18, since := s.now,
                             ctx := if inp = 139 then s.copyCtx f else none }] } }

/-- What holds an admitted frame (R218, R221). -/
def State.placeFor (s : State) (v n : Nat) : Place :=
  if v = 0 ∨ v = 3 then .minimum
  else if n + s.regF rOvfOn 0 19 ≤ s.sharedFree then .shared
  else if s.regBit rSwcCtl 0 && s.ovfRoom n then .waitOverflow
  else .minimum

/-- A frame of an internal port waits: its port's advertised minimum has no room for its cells, or an earlier frame of its port
and VC waits (R219, R220). -/
def State.mustEnter (s : State) (inp : Nat) (f : Frame) : Bool :=
  decide (128 ≤ inp) && (s.fab.entry.any (fun x => decide (x.1 = inp) && decide (x.2.2.vc = f.vc))
    || decide (fget (s.credAdv inp) (16 * f.vc.toNat) 16 < s.minUsed inp f.vc.toNat + Frame.cells f))
/-- Admit a frame that passed R178 to output `out` (R221). -/
def State.admitNow (s : State) (inp out : Nat) (f : Frame) : State :=
  let v := f.vc.toNat
  let n := Frame.cells f
  let w := if v = 1 ∨ v = 2 then s.wredDrop out v f.colour.toNat else (false, s)
  if w.1 then (w.2.count (swReg out (swWredDrop + 8 * f.colour.toNat))).returnCredit inp v n
  else
    let place := w.2.placeFor v n
    let t := w.2.enqueue inp out f place
    if place = .shared then t.returnCredit inp v n else t
/-- Admit a frame, or let it wait at its internal port. -/
def State.admitFrame (s : State) (inp out : Nat) (f : Frame) : State :=
  if s.mustEnter inp f then { s with fab := { s.fab with entry := s.fab.entry ++ [(inp, out, f)] } } else s.admitNow inp out f
/-- Admit the frames that waited at internal ports and now find room, in order. -/
def State.enter (s : State) : State :=
  if s.fab.entry.isEmpty then s
  else ({ s with fab := { s.fab with entry := [] } }).forAll s.fab.entry (fun s x => s.admitFrame x.1 x.2.1 x.2.2)

/-! ### Routes (R176, R178, R207) -/

/-- The route-table entry of a node at a base address: route and hop count; none where not VALID (R207). -/
def State.routeAt (s : State) (base : Nat) (d : BitVec 12) : Option (Vector Byte 16 × BitVec 4) :=
  let a := base + 16 * d.toNat
  let lo := (s.reg a).toNat
  let hi := (s.reg (a + 8)).toNat
  if (s.reg (a + 8)).getLsbD 39 then
    some (Vector.ofFn (fun i : Fin 16 =>
      if i.val < 8 then BitVec.ofNat 8 (lo / 2 ^ (8 * i.val)) else if i.val < 12 then BitVec.ofNat 8 (hi / 2 ^ (8 * (i.val - 8))) else 0),
      BitVec.ofNat 4 (hi / 2 ^ 32))
  else none

/-- A frame with the active route to its destination node; none where the entry is not VALID. -/
def State.routed (s : State) (f : Frame) : Option Frame :=
  match s.routeAt rRtActive f.dst with
  | some (r, h) => some { f with route := r, hopCount := h, hopPtr := 0 }
  | none => none

/-- A byte that names no port (R176). -/
def routeByteInvalid (b : Nat) : Bool := 0x8C ≤ b && b ≤ 0xFE

/-- Internal port of an ejecting request (R177). -/
def State.ejectPort (s : State) (f : Frame) : Nat :=
  match s.whereIs (f.fpa.toNat % 2 ^ 44) with
  | .general => 136 + f.src.toNat % 2
  | .timetable => 136 + f.src.toNat % 2
  | .overflow => 136 + f.src.toNat % 2
  | .blackboard r _ => 128 + 2 * (r / 300) + r % 300 % 2
  | .slate d _ => 128 + 2 * (roomOf d / 300) + roomOf d % 300 % 2
  | .inbox d _ => 128 + 2 * (roomOf d / 300) + roomOf d % 300 % 2
  | .mirror _ => 139
  | .hole => 136

/-- A frame that may leave a Melium port: not of VC0, and its next route byte names an MS-5 port (R472). -/
def State.tunnelOk (_s : State) (f : Frame) : Bool :=
  f.vc ≠ 0 && decide (f.hopPtr.toNat + 1 < f.hopCount.toNat) && decide ((f.route.toList.getD (f.hopPtr.toNat + 1) 0).toNat ≤ 0x3F)

/-- The output that R178's procedure chooses: none where it answers NO_ROUTE. -/
def State.outputOf (s : State) (f : Frame) : Option Nat :=
  if f.hopCount.toNat ≤ f.hopPtr.toNat then none
  else
    let b := (f.route.toList.getD f.hopPtr.toNat 0).toNat
    let last := f.hopPtr.toNat + 1 = f.hopCount.toNat
    if routeByteInvalid b || (decide (128 ≤ b) && !last) then none
    else if b = 0xFF then some (s.ejectPort f)
    else if b < 128 then
      (if s.portPart b = some f.part.toNat ∧ s.portUp b ∧ (!s.melium b || s.tunnelOk f) then some b else none)
    else some b

/-- Engine that awaits a response: the port its request left from, or the source engine (R177). -/
def ownerSink (s : State) : Owner → Sink
  | .none => .source
  | .desk d _ _ => .port (128 + 2 * (roomOf d / 300) + roomOf d % 300 % 2)
  | .stream w e => .port (128 + 2 * w + e % 2)
  | .copy _ => .source
  | .walk _ _ => .source
  | .relay _ => .source
  | .host _ => .port 139
  | .die _ => .port (136 + s.node.toNat % 2)
  | .satchel _ => .port (136 + s.node.toNat % 2)

/-- A response that a Centroid on the way may have generated: its source is the node that made it (R170, R203, R205, R565). -/
def mayBeGenerated (f : Frame) : Bool := f.status = stNoRoute || f.status = stPartition || f.status = stAged || f.status = stFenced
/-- A request of which a response carries the sequence, the opcode and the FPA (R170). -/
def answers (f g : Frame) : Bool := g.seq = f.seq && g.fpa = f.fpa && g.opcode + 0x80 = f.opcode
/-- The pair of an engine whose outstanding request a generated answer answers; the answer's source is no member of it (R196). -/
def State.answeredPair (s : State) (e : Nat) (f : Frame) : Option Nat :=
  if mayBeGenerated f then
    (s.fab.pairs.find? (fun x => decide (x.1 / 4096 = e) && x.2.sent.any (fun r => answers f r.f))).map (fun x => x.1 % 4096)
  else none
/-- The destination of the request that a response to an engine answers (R196). -/
def State.answeredNode (s : State) (e : Nat) (f : Frame) : Nat := (s.answeredPair e f).getD f.src.toNat
/-- The timetabled request that a response answers: on VC0 its destination's, on VC2 a generated one that answers no best-effort
request (R84, R205). -/
def State.ttAnswered (s : State) (f : Frame) : Option TtReq :=
  if f.vc = 0 then s.fab.tt.find? (fun r => r.dest = f.src ∧ r.index = f.seq)
  else if mayBeGenerated f && (s.answeredPair 0 f).isNone then
    s.fab.tt.find? (fun r => r.dest.toNat = f.fpa.toNat / 2 ^ 44 ∧ r.index = f.seq)
  else none
/-- The engine of this module that awaits a response; none where no engine does (R177, R206). -/
def State.awaiting (s : State) (f : Frame) : Option Sink :=
  match s.ttAnswered f with
  | some r => some (ownerSink s r.owner)
  | none =>
    if f.vc = 0 then none
    else if f.vc = 3 then some (.port (136 + f.src.toNat % 2))
    else
      (((tget (fun _ => {}) s.fab.pairs (s.answeredNode 0 f)).sent.find? (fun r => r.f.seq = f.seq)).map (fun r => ownerSink s r.owner))

/-- A response that counts as an answer a Centroid generated: its status is one of R205's (DESIGN CHOICE, log 78). -/
def isGenerated (f : Frame) : Bool := isResponse f.opcode.toNat && (f.status = stNoRoute || f.status = stPartition || f.status = stAged)
/-- Count a frame that R178 discards unanswered (R178, R205). -/
def State.discard (s : State) (p : Nat) (gen : Bool) (f : Frame) : State :=
  if gen || isGenerated f then s.count rUndelivered
  else if isResponse f.opcode.toNat then s.count rRespDrop
  else s.count (swReg p swHdrErr)

/-- Deliver a frame that ejects here and whose destination is this node (R177, R180, R237). An MST whose source is a module
is a copy of its entry module (DESIGN CHOICE, log 20). The ingress credits of a frame that enters no queue return at once, but for
an MST's, which the multicast engine holds until it takes the MST (R219, R241). -/
def State.ejectTo (s : State) (p out : Nat) (gen : Bool) (explicit : Bool) (f : Frame) : State :=
  let op := f.opcode.toNat
  let back := fun (s : State) => s.returnCredit p f.vc.toNat (Frame.cells f)
  let hand := fun (k : Sink) => match k with
    | .port q => s.admitFrame p q f
    | _ => back (s.emit (.deliver k f))
  if f.crc ≠ Frame.goodCrc f then back s
  else if explicit then s.admitFrame p out f
  else if 0x72 ≤ op ∧ op ≤ 0x76 ∨ op = 0xF6 then hand .control
  else if isResponse op then
    match s.awaiting f with
    | some k => hand k
    | none => back (s.discard p gen f)
  else if op = 3 ∧ 64 ≤ f.src.toNat then
    (if p < 128 then { s with fab := { s.fab with mcHeld := s.fab.mcHeld ++ [(p, f)] } } else s).emit (.deliver .multicast f)
  else s.admitFrame p out f
/-- The multicast engine takes an MST, or refuses it: its ingress credits return (R241). -/
def State.mstRelease (s : State) (f : Frame) : State :=
  match s.fab.mcHeld.find? (fun x => x.2 = f) with
  | some x => ({ s with fab := { s.fab with mcHeld := s.fab.mcHeld.erase x } }).returnCredit x.1 f.vc.toNat (Frame.cells f)
  | none => s

/-- Send a frame that the module itself makes, or one of its responses, from internal port `p`; it is never answered
(R178, R205, R648). -/
def State.sendOwn (s : State) (p : Nat) (gen : Bool) (f : Frame) : State :=
  match s.outputOf f with
  | none => s.discard p gen f
  | some out =>
    let b := f.route.toList.getD f.hopPtr.toNat 0
    let g := { f with hopPtr := f.hopPtr + 1 }
    if out < 128 then s.admitFrame p out (if s.melium out then { g with hopPtr := f.hopPtr + 2 } else g)
    else if f.dst ≠ s.node then (s.discard p gen f).count rEjectMismatch
    else s.ejectTo p out gen (b ≠ 0xFF) g

/-- Route a frame by the active table and send it; an entry that is not VALID leaves it undelivered. -/
def State.sendRouted (s : State) (p : Nat) (gen : Bool) (f : Frame) : State :=
  match s.routed f with
  | some g => s.sendOwn p gen (Frame.sealed g)
  | none => s.discard p gen f

/-- The answer that the Centroid generates to a request (R205). -/
def State.answerGen (s : State) (f : Frame) (status : BitVec 5) : State :=
  let t := if status = stNoRoute then s.count rNoRouteGen else s
  t.sendRouted 139 true { responseTo s.node f status 0 (failData f 0) with vc := 2 }

/-- The answer sent straight out of the ingress port (R203, R565). -/
def State.answerPort (s : State) (p : Nat) (f : Frame) (status : BitVec 5) : State :=
  let g := { responseTo s.node f status 0 (failData f 0) with
             vc := 2, route := routeByte0 0xFF, hopCount := 1, hopPtr := if p < 64 then 1 else 0 }
  if s.melium p then s
  else if s.portUp p then s.admitFrame 139 p (Frame.sealed g) else s.count rUndelivered

/-- Answer a request, or discard any other frame with its count (R178). -/
def State.answerOrDrop (s : State) (p : Nat) (f : Frame) (status : BitVec 5) : State :=
  if isAnswerable f.opcode.toNat then s.answerGen f status else s.discard p false f

/-- A frame arriving at port p, other than BELL and CANDIDACY (R171, R178, R203, R565). -/
def State.arrive (s : State) (p : Nat) (f : Frame) : State :=
  let v := f.vc.toNat
  let n := Frame.cells f
  if !Frame.headerOk f then (s.count (swReg p swHdrErr)).returnCredit p v n
  else
    let s := if f.crc ≠ Frame.goodCrc f then s.count (swReg p swCrcErr) else s
    if p < 128 ∧ s.portPart p ≠ some f.part.toNat then
      let t := (s.count (swReg p swPartDrop)).returnCredit p v n
      if isAnswerable f.opcode.toNat then t.answerPort p f stPartition else t.discard p false f
    else if p < 128 ∧ s.fenced 1 ∧ f.vc = 1 ∧ isAnswerable f.opcode.toNat then
      (s.returnCredit p v n).answerPort p f stFenced
    else
      match s.outputOf f with
      | none => (s.returnCredit p v n).answerOrDrop p f stNoRoute
      | some out =>
        let b := f.route.toList.getD f.hopPtr.toNat 0
        let g := { f with hopPtr := f.hopPtr + 1 }
        if out < 128 then s.admitFrame p out (if s.melium out then { g with hopPtr := f.hopPtr + 2 } else g)
        else if f.dst ≠ s.node then ((s.count rEjectMismatch).returnCredit p v n).answerOrDrop p f stNoRoute
        else s.ejectTo p out false (b ≠ 0xFF) g

/-- BELL and CANDIDACY frames at ingress: whether the frame passes, and the state with its discard counted (R649). -/
def State.bellIngress (s : State) (p : Nat) (f : Frame) : Bool × State :=
  if s.portPart p ≠ some f.part.toNat then (false, s.count (swReg p swPartDrop))
  else if !Frame.headerOk f then (false, s.count (swReg p swHdrErr))
  else if f.crc ≠ Frame.goodCrc f then (false, s.count (swReg p swCrcErr))
  else (true, s)

/-! ### Output (R204, R230, R231, R234) -/

/-- Head of VOQ(i, o, v) (R224, R226). -/
def State.head (s : State) (i o v : Nat) : Option QFrame :=
  s.fab.voq.find? (fun q => q.inp = i ∧ q.out = o ∧ q.vc = v)

/-- Whether a frame may send a cell now: on die, its output up and not held, credit for all its cells (R182, R224). -/
def State.sendable (s : State) (q : QFrame) : Bool :=
  decide (0 < q.sent) ||
    (q.place ≠ .overflow && s.portUp q.out && !(tget (fun _ => false) s.fab.hold q.out)
      && (decide (128 ≤ q.out) || decide (q.cells ≤ s.credit q.out (s.creditVc q.out q.vc))))

/-- Remove a frame from its queue. -/
def State.dequeue (s : State) (id : Nat) : State :=
  { s with fab := { s.fab with voq := s.fab.voq.filter (fun q => q.id ≠ id) } }

/-- Cells of a frame's ingress buffer that its leaving frees. -/
def QFrame.freed (q : QFrame) : Nat := if q.place = .minimum ∨ q.place = .waitOverflow then q.cells - q.sent else 0

/-- Discard a queued frame, returning its ingress port's credits (R219). -/
def State.dropQueued (s : State) (q : QFrame) : State := (s.dequeue q.id).returnCredit q.inp q.vc (QFrame.freed q)

/-- Send one cell of a queued frame; the last one puts the frame on the output (R182, R213). -/
def State.sendCell (s : State) (q : QFrame) : State :=
  let first := q.sent = 0
  let s := if first ∧ q.out < 128 then s.setCredit q.out (s.creditVc q.out q.vc) (s.credit q.out (s.creditVc q.out q.vc) - q.cells) else s
  let s := if first ∧ q.vc ≠ 0 then
      (s.addReg (swReg q.out swQueueSclk) ((s.now - q.since) / 2)).count (swReg q.out swQueueFrames) else s
  let s := if q.place = .minimum ∨ q.place = .waitOverflow then s.returnCredit q.inp q.vc 1 else s
  if q.sent + 1 = q.cells then
    (s.dequeue q.id).emit
      (if s.melium q.out then .tunnel q.out (q.f.route.toList.getD (q.f.hopPtr.toNat - 1) 0).toNat (if q.vc = 1 then 0 else 1) q.f
       else if q.out < 128 then .frame q.out q.f else .deliver (.port q.out) q.f)
  else
    { s with fab := { s.fab with
      voq := s.fab.voq.map (fun (x : QFrame) => if x.id = q.id then
        { x with sent := x.sent + 1, place := if x.place = .waitOverflow then .minimum else x.place } else x) } }

/-- L of R229: ⌈AGE_LIMIT × 1,650 / 1,024⌉ ticks. -/
def State.ageL (s : State) : Nat := (s.regF rAgeLimit 0 17 * 1650 + 1023) / 1024
/-- A frame is too old to be sent (R230). -/
def State.tooOld (s : State) (q : QFrame) : Bool :=
  (q.vc = 1 || q.vc = 2) && q.sent = 0 && decide (s.ageL < (s.regF rAgeTick 0 18 + 2 ^ 18 - q.stamp) % 2 ^ 18)

/-- Discard the aged frames at the head of a VOQ (R231). -/
def State.dropAged (s : State) (i o v : Nat) : Nat → State
  | 0 => s
  | k + 1 =>
    match s.head i o v with
    | none => s
    | some q =>
      if s.tooOld q then
        let t := (s.dropQueued q).count (swReg o swAgedDrop)
        (if isAnswerable q.f.opcode.toNat then t.answerGen q.f stAged else t).dropAged i o v k
      else s

/-- Frames of VC0 that need no reserved slot (R54, R175). -/
def isVc0Control (f : Frame) : Bool := 0x70 ≤ f.opcode.toNat && f.opcode.toNat ≤ 0x75

/-- The control frame of VC0 that output o sends ahead of any other cell (R54, R175). -/
def State.vc0Control (s : State) (o : Nat) : Option QFrame :=
  s.fab.voq.find? (fun q => q.out = o && q.vc = 0 && isVc0Control q.f && s.sendable q)
/-- The timetabled frame that output o sends next: one begun, else the first sendable one that heads its VOQ (R224, R226). -/
def State.vc0Timed (s : State) (o : Nat) : Option QFrame :=
  let l := s.fab.voq.filter (fun q => q.out = o && q.vc = 0 && !isVc0Control q.f)
  match l.find? (fun q => 0 < q.sent) with
  | some q => some q
  | none => l.find? (fun q => decide ((l.find? (fun x => x.inp = q.inp)) = some q) && s.sendable q)

/-- VC of a requester number 3i + v − 1 (R233). -/
def reqVc (r : Nat) : Nat := r % 3 + 1

/-- One opportunity of the quota arbiter at a Centroid output (R234). -/
def State.arbitrate (s : State) (o : Nat) : State :=
  let c := arbCfg (s.reg rSwcArb)
  let req := fun r => match s.head (r / 3) o (reqVc r) with
    | some q => s.sendable q
    | none => false
  let mid := fun r => match s.head (r / 3) o (reqVc r) with
    | some q => decide (0 < q.sent)
    | none => false
  let high := fun r => c.high.testBit (r % 3)
  let (a, g) := arbStep 420 c req high mid (tget arbDefault s.fab.arb o)
  let t := { s with fab := { s.fab with arb := tput arbDefault s.fab.arb o a } }
  match g with
  | none => t
  | some r =>
    let u := t.dropAged (r / 3) o (reqVc r) t.fab.voq.length
    match u.head (r / 3) o (reqVc r) with
    | some q => if u.sendable q then u.sendCell q else u
    | none => u

/-- An opportunity of output o: a VC0 control frame goes ahead of any other cell (R54), else the arbiter (R234). -/
def State.opportunity (s : State) (o : Nat) : State :=
  (match s.vc0Control o with
   | some q => s.sendCell q
   | none => s.arbitrate o).enter
/-- A reserved slot of output o: the timetabled cell, or an opportunity where there is none (R21, R226, R235). -/
def State.reservedOutput (s : State) (o : Nat) : State :=
  match s.vc0Control o, s.vc0Timed o with
  | none, some q => (s.sendCell q).enter
  | _, _ => s.opportunity o

/-- Discard what is queued for a port that goes down (R204, R226). -/
def State.flushOutput (s : State) (o : Nat) : State :=
  let lose := fun (s : State) (f : Frame) =>
    if isAnswerable f.opcode.toNat then s.answerGen f stNoRoute
    else if isGenerated f then s.count rUndelivered
    else if isResponse f.opcode.toNat then s.count rRespDrop else s
  let gone := s.fab.entry.filter (fun x => x.2.1 = o)
  let t := { s with fab := { s.fab with entry := s.fab.entry.filter (fun x => x.2.1 ≠ o) } }
  let t := t.forAll (t.fab.voq.filter (fun q => q.out = o)) (fun s q =>
    let t := s.dropQueued q
    if 0 < q.sent then t else lose t q.f)
  (t.forAll gone (fun s x => lose s x.2.2)).enter

/-- Discard what overflow holds: a request is answered AGED, a response dropped (R225). -/
def State.loseOverflow (s : State) : State :=
  s.forAll (s.fab.voq.filter (fun q => q.place = .overflow)) (fun s q =>
    let t := (s.dequeue q.id).count rOvfLost
    if isAnswerable q.f.opcode.toNat then t.answerGen q.f stAged else t)

/-- Put the values written for a port's buffering in force (R243) and recompute SHARED_TOTAL (R216). -/
def State.applyBuffers (s : State) (p : Nat) : State :=
  let mn := s.reg (swReg p swBufMin)
  let en := s.regF (swReg p swVcCfg) 0 4
  let sum (w : Word) (e : Nat) : Nat := (List.range 4).foldl (fun n v => if e.testBit v then n + fget w (16 * v) 16 else n) 0
  let was := sum (s.bufMin p) (s.vcEn p)
  let total := s.regF rSharedTotal 0 64 + was - sum mn en
  ({ s with fab := { s.fab with
      bufMin := tput bufMinReset s.fab.bufMin p mn
      adv := tput bufMinReset s.fab.adv p (s.reg (swReg p swCreditAdv))
      vcEn := tput (fun _ => 0xF) s.fab.vcEn p en } }).setReg rSharedTotal (BitVec.ofNat 64 total)

/-! ### Meanings -/

/-- FRAME_ARRIVAL (R178); BELL and CANDIDACY are taken at ingress and go to the Bell logic (R649). -/
def execFrameArrival (p : Fin 140) (f : Frame) (s : State) : Host.Outcome State Fault Refusal :=
  if f.opcode = 0x70 ∨ f.opcode = 0x71 then
    let r := s.bellIngress p.val f
    let t := r.2.returnCredit p.val f.vc.toNat (Frame.cells f)
    .next (if r.1 then t.emit (.deliver .bell f) else t)
  else .next (s.arrive p.val f)

/-- CREDIT_RETURN (R182). -/
def execCreditReturn (p : Fin 128) (vc : Fin 4) (cells : Nat) (s : State) : Host.Outcome State Fault Refusal :=
  .next (s.setCredit p.val vc.val (s.credit p.val vc.val + cells))

/-- OVERFLOW_WRITE (R223): the frame's last cell has arrived, and it is written whole to the region. -/
def execOverflowWrite (id : Nat) (s : State) : Host.Outcome State Fault Refusal :=
  match s.fab.voq.find? (fun q => q.id = id) with
  | some q =>
    if q.place = .waitOverflow ∧ q.sent = 0 ∧ s.ovfRoom q.cells then
      let t := { s with fab := { s.fab with
        voq := s.fab.voq.map (fun (x : QFrame) => if x.id = id then { x with place := .overflow } else x) } }
      .next ((t.count (swReg q.out swOvfFrames)).returnCredit q.inp q.vc q.cells).enter
    else .next s
  | none => .next s

/-- OVERFLOW_READBACK (R223, R224): the frame heads its VOQ and the shared pool, OVF_ON included, has room. -/
def execOverflowReadback (id : Nat) (s : State) : Host.Outcome State Fault Refusal :=
  match s.fab.voq.find? (fun q => q.id = id) with
  | some q =>
    if q.place = .overflow ∧ s.head q.inp q.out q.vc = some q ∧ q.cells ≤ s.sharedFree then
      .next { s with fab := { s.fab with
        voq := s.fab.voq.map (fun (x : QFrame) => if x.id = id then { x with place := .shared } else x) } }
    else .next s
  | none => .next s

/-- One update of a WRED average, truncated toward −∞ (R228). -/
def wredUpdate (avg q w : Nat) : Nat := ((avg : Int) + ((q * 65536 : Int) - avg) / 2 ^ w).toNat

/-- The average of one output queue, VC1 or VC2, moves towards its length (R228): queue k is VC k mod 2 + 1 of output k / 2. -/
def State.wredMove (s : State) (k : Nat) : State :=
  let o := k / 2
  let v := k % 2 + 1
  let q := s.cellsOf (fun q => q.out = o && q.vc = v)
  let w := s.regF (s.wredAt o v 0 + 8) 48 4
  { s with fab := { s.fab with wred := tput (fun _ => 0) s.fab.wred k (wredUpdate (s.wredAvg o v) q w) } }

/-- WRED_AVG_UPDATE (R228): every VC1 and VC2 output queue. -/
def execWredAvgUpdate (s : State) : Host.Outcome State Fault Refusal := .next (s.forAll (List.range 280) State.wredMove)

/-- AGE_TICK (R229). -/
def execAgeTick (s : State) : Host.Outcome State Fault Refusal := .next (s.countWrap rAgeTick 0 18)

/-- OUTPUT_GRANT (R234). -/
def execOutputGrant (o : Fin 140) (s : State) : Host.Outcome State Fault Refusal := .next (s.opportunity o.val)

end Sys2Proof.Machine
end

