-- ==== Sys2Proof/Machine/Source.lean ====
section
/-! DEFINITION. Best-effort source engines: windows, colours, sequences, retransmission; timetabled
requests outstanding; multicast contexts (R185 to R200, R206, R237 to R241, R526, R647). An engine is numbered 0 for
the module and 1 + p for the DEP-7 of port p. -/

namespace Sys2Proof.Machine

/-- Number of an engine. -/
def Engine.num : Engine → Nat
  | .module => 0
  | .dep p => p.val + 1

/-! ### Parameters (R526) -/

/-- Retransmission limit (R196). -/
def State.rtxLimit (s : State) (e : Nat) : Nat := if e = 0 then s.regF rRtx 32 3 else s.epF (e - 1) eRtx 32 3
/-- Window size toward a destination; an entry never written takes the default register (R185). -/
def State.winSize (s : State) (e d : Nat) : Nat :=
  let w := if e = 0 then s.tabF (rWinSize + 2 * d) 2 else s.epF (e - 1) ((eWinSize + 2 * d) / 8 * 8) (2 * d % 8 * 8) 16
  if w = 0 then (if e = 0 then s.regF rWinDefault 0 15 else s.epF (e - 1) eWinDefault 0 15) else w
/-- Hold bit of a destination (R210). -/
def State.isHeld (s : State) (e d : Nat) : Bool :=
  if e = 0 then s.regBit (rRtHold + 8 * (d / 64)) (d % 64) else s.epBit (e - 1) (eRtHold + 8 * (d / 64)) (d % 64)
/-- Route of a DEP-7's table (R207, R525). -/
def State.depRoute (s : State) (p : Nat) (d : BitVec 12) : Option (Vector Byte 16 × BitVec 4) :=
  let lo := (s.ep p (eRt + 16 * d.toNat)).toNat
  let hi := s.ep p (eRt + 16 * d.toNat + 8)
  if hi.getLsbD 39 then
    some (Vector.ofFn (fun i : Fin 16 =>
      if i.val < 8 then BitVec.ofNat 8 (lo / 2 ^ (8 * i.val))
      else if i.val < 12 then BitVec.ofNat 8 (hi.toNat / 2 ^ (8 * (i.val - 8))) else 0), BitVec.ofNat 4 (hi.toNat / 2 ^ 32))
  else none
/-- Route of an engine to a node; none where the entry is not VALID (R207, R647). -/
def State.engRoute (s : State) (e : Nat) (d : BitVec 12) : Option (Vector Byte 16 × BitVec 4) :=
  if e = 0 then s.routeAt rRtActive d else s.depRoute (e - 1) d
/-- Node ID an engine's frames carry (R73). -/
def State.engNode (s : State) (e : Nat) : BitVec 12 := if e = 0 then s.node else BitVec.ofNat 12 (s.epF (e - 1) eNode 0 12)

/-! ### Pairs -/

def pairDefault (_ : Nat) : Pair := {}
def State.pair (s : State) (e d : Nat) : Pair := tget pairDefault s.fab.pairs (4096 * e + d)
def State.setPair (s : State) (e d : Nat) (x : Pair) : State :=
  { s with fab := { s.fab with pairs := tput pairDefault s.fab.pairs (4096 * e + d) x } }
/-- Pairs of one engine. -/
def State.pairsOf (s : State) (e : Nat) : List (Nat × Pair) := s.fab.pairs.filter (fun x => x.1 / 4096 = e)
/-- Cells charged to a window (R186). -/
def Pair.charged (x : Pair) : Nat := x.sent.foldl (fun n r => n + r.charge) 0
/-- A request is a copy that the multicast engine makes. -/
def SrcReq.isCopy (r : SrcReq) : Bool := match r.owner with
  | .copy _ => true
  | _ => false
/-- A request whose MST order rule of R188 applies; the copies of the multicast engine are ordinary requests (R239). -/
def SrcReq.isMst (r : SrcReq) : Bool := r.f.opcode = 3 && !r.isCopy
/-- An MST of the module whose entry module it is itself: it reaches the multicast engine without a frame (R120, R188). -/
def State.isOwnMst (s : State) (e : Nat) (r : SrcReq) : Bool := e = 0 && r.isMst && decide (r.f.dst = s.node)

/-! ### Colour (R189, R190) -/

/-- Bring a bucket up to date: whole SCLKs since `upTo`; the increment of one is truncated to 16 fractional bits of a byte (DESIGN
CHOICE, log 79). -/
def Bucket.fill (b : Bucket) (cir pir cbs pbs now : Nat) : Bucket :=
  if b.fresh then { tc := cbs * 65536, tp := pbs * 65536, upTo := now, fresh := false }
  else
    let k := (now - b.upTo) / 2
    { tc := min (cbs * 65536) (b.tc + k * (cir * 4194304 / 13200)), tp := min (pbs * 65536) (b.tp + k * (pir * 4194304 / 13200)),
      upTo := b.upTo + 2 * k, fresh := false }

/-- Colour of a request of `n` bytes of an engine's cohort, taking tokens (R190). -/
def State.colourOf (s : State) (e : Nat) (cohort : BitVec 10) (n : Nat) : BitVec 2 × State :=
  let c := cohort.toNat
  let m := if e = 0 then s.regF (rCohortMarker + c / 16 * 8) (c % 16 * 4) 4 else s.epF (e - 1) (eCohortMarker + c / 16 * 8) (c % 16 * 4) 4
  let lo := if e = 0 then s.reg (rMarker + 16 * m) else s.ep (e - 1) (eMarker + 16 * m)
  let hi := if e = 0 then s.reg (rMarker + 16 * m + 8) else s.ep (e - 1) (eMarker + 16 * m + 8)
  if !hi.getLsbD 56 then (0, s)
  else
    let b := Bucket.fill (tget (fun _ => ({} : Bucket)) s.fab.buckets (16 * e + m)) (fget lo 0 32) (fget lo 32 32) (fget hi 0 24) (fget hi 24 24) s.now
    let need := n * 65536
    let r : BitVec 2 × Bucket :=
      if b.tp < need then (2, b)
      else if b.tc < need then (1, { b with tp := b.tp - need })
      else (0, { b with tp := b.tp - need, tc := b.tc - need })
    (r.1, { s with fab := { s.fab with buckets := tput (fun _ => ({} : Bucket)) s.fab.buckets (16 * e + m) r.2 } })

/-! ### Results to owners -/

/-- Give a Desk's access its result (R249); of a role that has ended it is discarded (R47). -/
def State.resultDesk (s : State) (d k id : Nat) (status : BitVec 5) (data : List Byte) : State :=
  if h : k < 4 then
    let x := s.seat d ⟨k, h⟩
    let t := s.setSeat d ⟨k, h⟩ { x with acc := x.acc.map (fun (a : Access) => if a.id = id then { a with result := some (status, data) } else a) }
    if (s.desk d).left.any (fun e => e.2.id = id) then t.setDesk d { t.desk d with left := (t.desk d).left.filter (fun e => e.2.id ≠ id) } else t
  else s

def strmDefault (_ : Nat) : Strm := {}
def State.strm (s : State) (w e : Nat) : Strm := tget strmDefault s.strms (64 * w + e)
def State.setStrm (s : State) (w e : Nat) (x : Strm) : State := { s with strms := tput strmDefault s.strms (64 * w + e) x }

/-- Give the first open frame of a tile to a target its result. -/
def tileResult (f : Frame) (status : BitVec 5) (data : List Byte) : List TileFrame → List TileFrame
  | [] => []
  | x :: r =>
    if x.sent ∧ x.done = none ∧ x.f.fpa = f.fpa ∧ x.f.opcode.toNat % 128 = f.opcode.toNat % 128 then { x with done := some (status, data) } :: r
    else x :: tileResult f status data r
/-- Give a stream engine the result of one of its tile's frames (R104). -/
def Strm.result (x : Strm) (f : Frame) (status : BitVec 5) (data : List Byte) : Strm :=
  { x with cur := x.cur.map (fun (c : Xfer) => { c with frames := tileResult f status data c.frames }), net := x.net.erase f }

/-- Give a piece of a die request its result: the first sent piece still open (R513). -/
def openPiece (status : BitVec 5) (data : List Byte) (fpa : Nat) : List Piece → List Piece
  | [] => []
  | x :: r =>
    if x.sent ∧ x.done = none ∧ !x.line ∧ x.fpa = fpa then { x with done := some (status, data) } :: r
    else x :: openPiece status data fpa r

/-- Give the frame of a BAR2 request at an FPA its result (R497). -/
def barPart (fpa : Nat) (status : BitVec 5) (data : List Byte) :
    List (Nat × Option (BitVec 5 × List Byte)) → List (Nat × Option (BitVec 5 × List Byte))
  | [] => []
  | x :: r => if x.1 = fpa ∧ x.2 = none then (x.1, some (status, data)) :: r else x :: barPart fpa status data r

/-- The response of the module's own MST ends its exclusion (R188). -/
def State.endOwnMst (s : State) (f : Frame) : State := if f.opcode = 3 then { s with fab := { s.fab with ownMst := none } } else s
/-- Answer a source with the response to its MST or other request that the module's engines serve: over the fabric, or to the
Desk or stream engine of this module that issued it. -/
def State.answerVia (s : State) (r : Req) (status : BitVec 5) (flags : BitVec 3) (data : List Byte) : State :=
  match r.via with
  | .fabric p => s.sendRouted p.val false (responseTo s.node r.f status flags data)
  | .desk d k id => (s.endOwnMst r.f).resultDesk (DeskId.idx d) k.val id status data
  | .stream w e =>
    let t := s.endOwnMst r.f
    t.setStrm w.val e.val (Strm.result (t.strm w.val e.val) r.f status data)

/-- Write the reply-cache entry of an accepted request (R193). -/
def State.remember (s : State) (e : Nat) (f : Frame) (status : BitVec 5) (data : List Byte) : State :=
  let keep := if operandSize f.opcode.toNat > 0 ∨ f.opcode = 3 then data else []
  { s with fab := { s.fab with
      replies := s.fab.replies ++ [{ eng := e, src := f.src, seq := f.seq, status := status, data := keep }] } }

/-- The combined response of an MST with its count (R100, R240); the module's own abort notice awaits none. -/
def State.mcAnswer (s : State) (r : Req) (status : BitVec 5) (count : Nat) : State :=
  let d := leBytes 2 count
  match r.via with
  | .fabric _ =>
    if r.f.src = s.node then s
    else (if r.f.vc = 0 then s else s.remember 0 r.f status d).answerVia r status 0 d
  | _ => s.answerVia r status 0 d

/-- The status and count of an MST's combined response (R100, R240). -/
def McCtx.combine (c : McCtx) (status : BitVec 5) : McCtx :=
  { c with pending := c.pending - 1, status := if c.status.toNat < status.toNat then status else c.status,
           failed := if status = 0 then c.failed else c.failed + 1 }

/-- A copy of an MST has completed; the last one releases the context and sends the combined response (R240). -/
def State.copyDone (s : State) (ctx : Nat) (status : BitVec 5) : State :=
  match s.fab.mc.find? (fun c => c.id = ctx) with
  | none => s
  | some c =>
    let c' := McCtx.combine c status
    if c'.pending = 0 then
      let t := { s with fab := { s.fab with mc := s.fab.mc.filter (fun x => x.id ≠ ctx) } }
      let t := t.setRegF rMcStatus 32 11 t.fab.mc.length
      t.mcAnswer c'.req c'.status c'.failed
    else { s with fab := { s.fab with mc := s.fab.mc.map (fun (x : McCtx) => if x.id = ctx then c' else x) } }

/-- Tell a request's owner how it completed. -/
def State.tellOwner (s : State) (e : Nat) (f : Frame) (o : Owner) (status : BitVec 5) (data : List Byte) : State :=
  match o with
  | .none => s
  | .desk d k id => s.resultDesk d k id status data
  | .stream w n => s.setStrm w n (Strm.result (s.strm w n) f status data)
  | .copy c => s.copyDone c status
  | .walk i g => { s with xl := { s.xl with walks := s.xl.walks.map (fun (w : Walk) =>
      if w.id = i ∧ w.gen = g then { w with got := some (status, BitVec.ofNat 64 (leNat data)) } else w) } }
  | .relay _ => s
  | .host i => { s with host := { s.host with reads := s.host.reads.map (fun (b : Bar2) =>
      if b.id = i then { b with parts := barPart f.fpa.toNat status data b.parts } else b) } }
  | .die i =>
    if e = 0 then s else
      let d := s.dep (e - 1)
      s.setDep (e - 1) { d with reqs := d.reqs.map (fun (r : DieReq) =>
        if r.id = i then { r with pieces := openPiece status data f.fpa.toNat r.pieces } else r) }
  | .satchel l =>
    if e = 0 then s else
      let d := s.dep (e - 1)
      let x := tget (fun _ => ({} : SatLine)) d.sat l
      if status = stOk ∨ status = stRetry then s
      else s.setDep (e - 1) { d with sat := tput (fun _ => ({} : SatLine)) d.sat l { x with fail := some status } }

/-! ### Sending -/

/-- Put a frame of an engine on its way: a module's frame enters the Centroid at the port of its owner, a DEP-7's its link. -/
def State.launch (s : State) (e : Nat) (o : Owner) (f : Frame) : State :=
  if e = 0 then
    let p := match ownerSink s o with
      | .port q => q
      | _ => 139
    s.sendOwn p false (Frame.sealed f)
  else if s.epBit (e - 1) eStatus 11 then s.depLaunch (e - 1) (Frame.sealed f) else s
/-- Hand the module's own MST to its multicast engine (R120). -/
def State.launchOwn (s : State) (r : SrcReq) : State :=
  let t := { s with fab := { s.fab with ownMst := some r } }
  match r.owner with
  | .desk d k id => t.emit (.access d k id)
  | .stream w e => t.emit (.streamAccess w e r.f)
  | _ => t

/-- The ack a request carries (R194). -/
def ackOf (x : Pair) (own : BitVec 24) : BitVec 24 :=
  match x.sent with
  | r :: _ => r.f.seq - 1
  | [] => own - 1

/-- Send the SYNC of a pair (R196). Its FPA names its destination, by which an answer that a Centroid generates is known (DESIGN
CHOICE, log 78). -/
def State.sendSync (s : State) (e : Nat) (d : BitVec 12) (r : Vector Byte 16 × BitVec 4) : State :=
  let x := s.pair e d.toNat
  let q := match x.sent with
    | a :: _ => a.f.seq
    | [] => x.nextSeq
  let part := match x.sent ++ x.waiting with
    | a :: _ => a.f.part
    | [] => 0
  (s.setPair e d.toNat { x with st := .syncing }).launch e .none
    { blankFrame with part := part, dst := d, src := s.engNode e, opcode := 0x76, vc := 1, seq := q,
                      fpa := BitVec.ofNat 56 (d.toNat * 2 ^ 44), route := r.1, hopCount := r.2 }

/-- Whether the MST order of R188 lets a request be sent now. The copies that the module makes as an entry module, its own MST's
among them, pass an MST that awaits its response (DEDUCED, log 80). -/
def State.mstAllows (s : State) (e : Nat) (r : SrcReq) : Bool :=
  let ps := s.pairsOf e
  let own := decide (e = 0) && s.fab.ownMst.isSome
  if r.isCopy then true
  else if SrcReq.isMst r then !own && ps.all (fun x => x.2.sent.isEmpty && x.2.waiting.all (fun y => y.isCopy || y.id ≥ r.id))
  else !own && ps.all (fun x => x.2.sent.all (fun y => !SrcReq.isMst y) && x.2.waiting.all (fun y => !SrcReq.isMst y || y.id > r.id))

/-- Room for a request in its window, and in a DEP-7's retransmission buffer (R186, R526). -/
def State.windowFits (s : State) (e d : Nat) (r : SrcReq) : Bool :=
  decide (Pair.charged (s.pair e d) + r.charge + (match s.fab.ownMst with
    | some m => if e = 0 ∧ d = s.node.toNat then m.charge else 0
    | none => 0) ≤ s.winSize e d) &&
    (e = 0 || decide ((s.pairsOf e).foldl (fun n x => n + x.2.sent.foldl (fun m y => m + Frame.cells y.f) 0) 0 + Frame.cells r.f ≤ 8192))

/-- Send the first waiting request of an OPEN pair, if it may be sent (R186, R188, R191, R194). -/
def State.sendFirst (s : State) (e : Nat) (d : BitVec 12) (rt : Vector Byte 16 × BitVec 4) : Option State :=
  let x := s.pair e d.toNat
  match x.waiting with
  | [] => none
  | r :: rest =>
    if s.isHeld e d.toNat || !s.mstAllows e r || !s.windowFits e d.toNat r then none
    else if s.isOwnMst e r then some ((s.setPair e d.toNat { x with waiting := rest }).launchOwn r)
    else
      let marked := match r.owner with
        | .copy _ => (r.f.colour, s)
        | _ => if isCohReq r.f.opcode.toNat then (0, s) else s.colourOf e r.f.cohort (52 + r.f.payload.length)
      let f := { r.f with seq := x.nextSeq, ack := ackOf x x.nextSeq, colour := marked.1, route := rt.1, hopCount := rt.2, hopPtr := 0,
                          src := s.engNode e, vc := 1 }
      let y := { x with nextSeq := x.nextSeq + 1, waiting := rest, sent := x.sent ++ [{ r with f := f, tx := 1 }] }
      some ((marked.2.setPair e d.toNat y).launch e r.owner f)

/-- Complete every waiting request of a pair with a status (R197, R647). -/
def State.failWaiting (s : State) (e d : Nat) (status : BitVec 5) : State :=
  let x := s.pair e d
  (s.setPair e d { x with waiting := [] }).forAll x.waiting (fun s r => s.tellOwner e r.f r.owner status (failData r.f 0))

/-- Send what a pair may send (R186, R196, R647). `k` bounds the requests sent at once. -/
def State.pump (s : State) (e : Nat) (d : BitVec 12) : Nat → State
  | 0 => s
  | k + 1 =>
    let x := s.pair e d.toNat
    if x.waiting.isEmpty || s.isHeld e d.toNat then s
    else if (x.waiting.take 1).any (fun r => s.isOwnMst e r) then
      (match s.sendFirst e d (routeByte0 0xFF, 1) with
       | some t => t.pump e d k
       | none => s)
    else
      match s.engRoute e d with
      | none => s.failWaiting e d.toNat stNoRoute
      | some rt =>
        match x.st with
        | .syncPending => s.sendSync e d rt
        | .syncing => s
        | .opened =>
          match s.sendFirst e d rt with
          | some t => t.pump e d k
          | none => s

/-- Requests one command may send on a pair. -/
def pumpFuel : Nat := 4096

/-- Send what any pair of an engine may send: a completion may make room, or end an MST's exclusion (R188). -/
def State.pumpAll (s : State) (e : Nat) : State :=
  s.forAll (s.pairsOf e) (fun s x => s.pump e (BitVec.ofNat 12 (x.1 % 4096)) pumpFuel)

/-- Hand a request to a source engine (R185, R195). -/
def State.submit (s : State) (e : Nat) (f : Frame) (o : Owner) : State :=
  let x := s.pair e f.dst.toNat
  let r : SrcReq := { f := f, charge := chargeOf f, tx := 0, aged := false, owner := o, id := s.fab.nextId }
  let t := { s with fab := { s.fab with nextId := s.fab.nextId + 1 } }
  (t.setPair e f.dst.toNat { x with waiting := x.waiting ++ [r] }).pump e f.dst pumpFuel

/-- Send a timetabled request of the module and await its response (R84, R206). -/
def State.sendTimed (s : State) (f : Frame) (o : Owner) : State :=
  match s.routed f with
  | none => s.tellOwner 0 f o stNoRoute (failData f 0)
  | some g =>
    let t := { s with fab := { s.fab with tt := s.fab.tt ++ [({ dest := f.dst, index := f.seq, owner := o } : TtReq)] } }
    t.launch 0 o { g with src := s.node, vc := 0 }

/-! ### Events of a source (R196, R197) -/

/-- Take a response's request out of its pair; the requests that complete with it where NO_ROUTE or PARTITION says so. -/
def State.takeResponse (s : State) (e : Nat) (f : Frame) : State :=
  let d := s.answeredNode e f
  let x := s.pair e d
  match x.sent.find? (fun r => r.f.seq = f.seq) with
  | none => if e = 0 then s.count rRespDrop else s
  | some r =>
    let cut := f.status = stNoRoute ∨ f.status = stPartition
    let gone := if cut then x.sent.filter (fun y => y.f.seq = f.seq || seqEarlier f.seq y.f.seq) else [r]
    let left := x.sent.filter (fun y => !gone.any (fun z => z.f.seq = y.f.seq))
    let st := if cut ∧ x.st = .opened then PairState.syncPending else x.st
    let t := s.setPair e d { x with sent := left, st := st, answer := if x.st = .opened then none else x.answer }
    let t := t.forAll gone (fun s y =>
      if y.f.seq = f.seq then s.tellOwner e y.f y.owner f.status f.payload else s.tellOwner e y.f y.owner f.status (failData y.f 0))
    t.pumpAll e

/-- Resend the outstanding requests that satisfy a test and have retransmissions left (R196). -/
def State.resend (s : State) (e : Nat) (d : BitVec 12) (p : SrcReq → Bool) (mark : Bool) : State :=
  match s.engRoute e d with
  | none => s
  | some rt =>
    let x := s.pair e d.toNat
    let go := fun (r : SrcReq) => p r && decide (r.tx < s.rtxLimit e + 1)
    let t := s.setPair e d.toNat { x with sent := x.sent.map (fun (r : SrcReq) => if go r then { r with tx := r.tx + 1 } else r) }
    t.forAll (x.sent.filter go) (fun s r =>
      let f := { r.f with route := rt.1, hopCount := rt.2, hopPtr := 0, ack := ackOf x r.f.seq,
                          flags := if mark then r.f.flags ||| 4 else r.f.flags }
      (if e = 0 then s.count rRtxCount else s.countEp (e - 1) eRtxCount).launch e r.owner f)

/-- SYNC_RESPONSE (R196): the pair opens; any other answer to the SYNC is only remembered (R197). -/
def State.syncAnswer (s : State) (e : Nat) (f : Frame) : State :=
  let d := if f.status = stOk then f.src else BitVec.ofNat 12 (f.fpa.toNat / 2 ^ 44)
  let x := s.pair e d.toNat
  if x.st ≠ .syncing then s
  else if f.status ≠ stOk then s.setPair e d.toNat { x with answer := some f.status }
  else (s.setPair e d.toNat { x with st := .opened, answer := none }).pump e d pumpFuel

/-- AGED notice for a request (R196). -/
def State.agedNotice (s : State) (e : Nat) (f : Frame) : State :=
  let d := BitVec.ofNat 12 (s.answeredNode e f)
  let x := s.pair e d.toNat
  let t := s.setPair e d.toNat { x with sent := x.sent.map (fun (r : SrcReq) => if r.f.seq = f.seq then { r with aged := true } else r) }
  if x.st = .opened ∧ x.sent.any (fun r => r.f.seq = f.seq) then
    t.resend e d (fun r => r.f.seq = f.seq || seqEarlier f.seq r.f.seq) true
  else t

/-- RTX_TIMEOUT of a pair (R196). -/
def State.rtxExpired (s : State) (e : Nat) (d : BitVec 12) : State :=
  let x := s.pair e d.toNat
  match x.st with
  | .opened => s.resend e d (fun _ => true) true
  | .syncing => match s.engRoute e d with
    | some rt => s.sendSync e d rt
    | none => s
  | .syncPending => match s.engRoute e d with
    | some rt => if x.sent.any (fun r => decide (r.tx < s.rtxLimit e + 1)) || !x.waiting.isEmpty then s.sendSync e d rt else s
    | none => s

/-- WIN_TIMEOUT of request `id` of a pair, outstanding (R196) or unsent (R197). -/
def State.winExpired (s : State) (e : Nat) (d : BitVec 12) (id : Nat) : State :=
  let x := s.pair e d.toNat
  match x.sent.find? (fun r => r.id = id) with
  | some r =>
    let st := if x.st = .opened then PairState.syncPending else x.st
    let t := s.setPair e d.toNat { x with sent := x.sent.filter (fun y => y.id ≠ id), st := st }
    (t.tellOwner e r.f r.owner (if r.aged then stAged else stWindow) (failData r.f 0)).pumpAll e
  | none =>
    match x.waiting.find? (fun r => r.id = id) with
    | some r =>
      if x.st = .opened ∨ s.isHeld e d.toNat then s
      else
        let t := s.setPair e d.toNat { x with waiting := x.waiting.filter (fun y => y.id ≠ id) }
        t.tellOwner e r.f r.owner (if x.answer = some stNoRoute ∨ x.answer = some stPartition then x.answer.getD stWindow else stWindow) (failData r.f 0)
    | none => s

/-- Complete every request of an engine with a status and empty its pairs (R568, R527). -/
def State.dropPairs (s : State) (e : Nat) (status : SrcReq → BitVec 12 → Bool → BitVec 5) : State :=
  let ps := s.pairsOf e
  let t := { s with fab := { s.fab with pairs := s.fab.pairs.filter (fun x => x.1 / 4096 ≠ e) } }
  t.forAll ps (fun s x =>
    let d := BitVec.ofNat 12 (x.1 % 4096)
    let u := (s.setPair e (x.1 % 4096) { nextSeq := x.2.nextSeq })
    let u := u.forAll x.2.sent (fun s r => s.tellOwner e r.f r.owner (status r d true) (failData r.f 0))
    u.forAll x.2.waiting (fun s r => s.tellOwner e r.f r.owner (status r d false) (failData r.f 0)))

/-- Complete the timetabled requests still outstanding at the Bell that ends their Lesson with DATA_ERR (R206). -/
def State.timedOut (s : State) : State :=
  ({ s with fab := { s.fab with tt := [] } }).forAll s.fab.tt (fun s r =>
    s.tellOwner 0 { blankFrame with dst := r.dest, seq := r.index } r.owner stDataErr [])

/-! ### Destination side (R192 to R194, R199) -/

/-- What a destination does with a best-effort request (R192, R193). -/
inductive SeqVerdict where
  | accept
  | replay (r : Reply)
  | drop
deriving DecidableEq, Repr

/-- Entries a destination's reply cache holds (R193, R526). -/
def replyRoom (e : Nat) : Nat := if e = 0 then 65536 else 8192

/-- The sequence check of a best-effort request at destination engine e, its ack applied (R192 to R194). -/
def State.seqCheck (s : State) (e : Nat) (f : Frame) : SeqVerdict × State :=
  let k := 4096 * e + f.src.toNat
  let freed := s.fab.replies.filter (fun r => !(r.eng = e && r.src = f.src && (r.seq = f.ack || seqEarlier r.seq f.ack)))
  let s := { s with fab := { s.fab with replies := freed } }
  let exp := (tget (fun _ => none) s.fab.expect k).getD f.seq
  if f.seq = exp then
    if replyRoom e ≤ (freed.filter (fun r => r.eng = e)).length then
      (.drop, if e = 0 then s.count rReplyFull else s.countEp (e - 1) eReplyFull)
    else (.accept, { s with fab := { s.fab with expect := tput (fun _ => none) s.fab.expect k (some (f.seq + 1)) } })
  else if seqEarlier f.seq exp then
    match freed.find? (fun r => r.eng = e ∧ r.src = f.src ∧ r.seq = f.seq) with
    | some r => (.replay r, if e = 0 then s.count rDupCount else s)
    | none => (.drop, s)
  else (.drop, if e = 0 then s.count rOooDiscard else s)

/-! ### Meanings -/

/-- REPLY_HOLD_EXPIRY (R194). -/
def execReplyHoldExpiry (eng : Engine) (src : BitVec 12) (seq : BitVec 24) (s : State) : Host.Outcome State Fault Refusal :=
  .next { s with fab := { s.fab with
    replies := s.fab.replies.filter (fun r => !(r.eng = Engine.num eng && r.src = src && r.seq = seq)) } }

/-- SYNC (R199): the destination sets its expected sequence unless the SYNC's is earlier, and answers. -/
def execSync (eng : Engine) (f : Frame) (s : State) : Host.Outcome State Fault Refusal :=
  let e := Engine.num eng
  let k := 4096 * e + f.src.toNat
  let q := match tget (fun _ => none) s.fab.expect k with
    | some x => if seqEarlier f.seq x then x else f.seq
    | none => f.seq
  let t := { s with fab := { s.fab with expect := tput (fun _ => none) s.fab.expect k (some q) } }
  let a := responseTo (s.engNode e) f 0 0 []
  .next (if e = 0 then t.sendRouted 139 false a
         else match s.depRoute (e - 1) a.dst with
           | some rt => t.launch e .none { a with route := rt.1, hopCount := rt.2 }
           | none => t)

end Sys2Proof.Machine
end

