-- ==== Sys2Proof/Machine/Record.lean ====
section
/-! DEFINITION. What the module writes to host memory and the interrupts it raises: directly, through its
gateway's relay slot, or held while the host link is down (R276, R499, R501, R503). -/

namespace Sys2Proof.Machine

/-- Principal time since the module reset, in µs (R588). -/
def State.principalTime (s : State) : Nat := (s.now - s.rst.since) / 3300
/-- Write a record of the reset log; RST.LOG_HEAD is the ring index of the next one (R588). -/
def State.logRecord (s : State) (kind domain cause arg : Nat) (v : Word) : State :=
  let h := s.regF rLogHead 0 7
  let a := rRstLog + 32 * h
  let t := s.setReg a s.lesson
  let t := t.setReg (a + 8) (BitVec.ofNat 64 (kind % 256 + domain % 256 * 2 ^ 8 + cause % 256 * 2 ^ 16 + arg % 2 ^ 16 * 2 ^ 32))
  let t := (t.setReg (a + 16) v).setReg (a + 24) (BitVec.ofNat 64 s.principalTime)
  t.setRegF rLogHead 0 7 (h + 1)
/-- A record other than a Classroom fault copy: it carries RST.COUNT (R588). -/
def State.logEvent (s : State) (kind domain cause arg : Nat) : State := s.logRecord kind domain cause arg (s.reg rRstCount)

/-- This module is a member behind a gateway (R502, R503). -/
def State.behindGateway (s : State) : Bool := s.host.member && decide (s.regF rGwNode 0 12 ≠ s.node.toNat)

/-- Write one word of this module's relay slot at its gateway (R503). -/
def State.relayWord (s : State) (word : Nat) (v : List Byte) : State :=
  let g := s.regF rGwNode 0 12
  s.submit 0 { blankFrame with
    part := BitVec.ofNat 6 (s.cohortPart 0), dst := BitVec.ofNat 12 g, src := s.node, opcode := 2, vc := 1, length := 8,
    fpa := BitVec.ofNat 56 (g * 2 ^ 44 + 0xF0000000000 + rRelay + 0x40 * s.node.toNat + 8 * word), payload := v } (.relay g)

/-- Perform a relay slot with up to 32 bytes of data for a host address (R503). -/
def State.relayWrite (s : State) (addr : Nat) (d : List Byte) : State :=
  let s := s.forAll (List.range ((d.length + 7) / 8)) (fun s i =>
    s.relayWord i ((((d.drop (8 * i)).take 8) ++ List.replicate 8 0).take 8))
  (s.relayWord 4 (leBytes 8 addr)).relayWord 5 (leBytes 8 d.length)

/-- Bytes that wait for the host link (R501). -/
def State.bufBytes (s : State) : Nat := s.host.buf.foldl (fun n x => n + x.2.length) 0

/-- The buffer of R501 cannot take n more bytes: every writer treats its ring as full. -/
def State.hostFull (s : State) (n : Nat) : Bool :=
  !s.behindGateway && !s.ready 0 && decide (2 ^ 20 < s.bufBytes + n)

/-- Write to host memory (R501, R503). -/
def State.writeHost (s : State) (addr : Nat) (d : List Byte) : State :=
  if s.behindGateway then
    s.forAll (List.range ((d.length + 31) / 32)) (fun s i => s.relayWrite (addr + 32 * i) ((d.drop (32 * i)).take 32))
  else if s.ready 0 then { s with hostMem := putHost s.hostMem addr d }
  else if s.hostFull d.length then s
  else { s with host := { s.host with buf := s.host.buf ++ [(addr, d)] } }

/-- Raise event v: vector 32·m + v of module m, sent, relayed, or pending (R499, R501, R503). -/
def State.raise (s : State) (v : Nat) : State :=
  let n := 32 * (s.node.toNat % 64) + v
  if s.behindGateway then s.relayWord 5 (leBytes 8 (2 ^ 8 + v * 2 ^ 16))
  else if s.ready 0 then s.emit (.msix n)
  else if s.host.irqs.contains n then s
  else { s with host := { s.host with irqs := s.host.irqs ++ [n] } }

/-- Append a record to a ring in host memory: head in bits [31:0] and tail in bits [63:32] of its pointer register,
both free-running; none where the ring is full (R163, R355, R501). -/
def State.ringPut (s : State) (ptr size base : Nat) (d : List Byte) : Option State :=
  let h := s.regF ptr 0 32
  let t := s.regF ptr 32 32
  if size ≤ (h + 2 ^ 32 - t) % 2 ^ 32 ∨ s.hostFull d.length then none
  else some ((s.writeHost (base + h % size * d.length) d).setRegF ptr 0 32 (h + 1))

/-- Set a bit of CR.FAULT, raising CLASS_FAULT on an enabled transition to 1 (R276). -/
def State.classFault (s : State) (room bit : Nat) : State :=
  let a := roomReg room crFault
  if s.regBit a bit then s
  else
    let t := s.setRegBit a bit true
    if s.regBit (roomReg room crFaultEn) bit then t.raise 7 else t

end Sys2Proof.Machine
end

