-- ==== Sys2Proof/Machine/Chalk.lean ====
section
/-! DEFINITION. Chalk: issue and Seat selection, control, predicates, scalar integers, special registers and the
inbox receive ("Desks, Classrooms and Wings", R244 to R253; "Chalk Instruction Set", R278 to R300, R310). -/

namespace Sys2Proof.Machine

/-! ### Seat selection (R245 to R251) -/

/-- First READY Seat at or after `start`, cyclically. -/
def Desk.readyFrom (d : Desk) (start : Nat) : Option (Fin 4) :=
  ((List.range 4).map (fun n => Fin.ofNat 4 (start + n))).find? (fun k => d.seats[k].st = .ready)

/-- The Seat that issues next (R249). -/
def Desk.selected (d : Desk) : Option (Fin 4) := d.readyFrom d.cur

/-- The Seat switch of R249 after Seat k issued. -/
def State.switchSeat (s : State) (desk : Nat) (k : Fin 4) : State :=
  let d := s.desk desk
  s.setDesk desk { d with cur := match d.readyFrom (k.val + 1) with
    | some c => c.val
    | none => (k.val + 1) % 4 }

/-- An instruction waits for a register that an outstanding access will write, or for the results queued for it in the
Long Tally unit (R246, R289). -/
def State.waitsFor (s : State) (op : Nat) (i : ChalkOp) : Bool :=
  let rs := regsOf op i.w
  let r := s.room (roomOf (deskOf i))
  (s.me i).acc.any (fun a => (Access.dest a).any (fun x => rs.any (regsMeet x)))
    || (r.lt ++ r.ltBusy).any (fun q => q.told && q.desk = deskOf i && q.seat = i.seat.val && (LtOp.dest q.op).any (fun x => rs.any (regsMeet x)))

/-- The Seat may issue an instruction now: the body or the closing guard of a Lesson runs, the compute domain is not
fenced, no Seat of the Desk waits in place, R249 selects it, and its block is in the buffer (R31, R245, R246, R262, R291, R565). -/
def State.mayIssue (s : State) (op : Nat) (i : ChalkOp) : Bool :=
  let d := s.desk (deskOf i)
  (s.bell.phase = .body || s.bell.phase = .guard) && !s.fenced 0
    && !(d.seats.toList.any Seat.holdsDesk) && d.selected = some i.seat && (s.me i).fetched
    && !(legal op i.w && s.waitsFor op i)

/-- A memory instruction that takes a slot of its lane (R292). -/
def isTimed (op : Nat) (w : BitVec 56) : Bool :=
  fT w && (([0x60, 0x61, 0x62, 0x63, 0x64, 0x65, 0x66, 0x69, 0x72, 0x73] : List Nat).contains op)

/-- Count the use of a lane's slot (R292, R293). -/
def State.useLane (s : State) (i : ChalkOp) : State :=
  let d := s.desk (deskOf i)
  let n : Fin 16 := Fin.ofNat 16 (fTL i.w)
  s.setDesk (deskOf i) { d with laneUse := d.laneUse.set n (d.laneUse[n] + 1) }

/-- An illegal instruction: its Seat becomes IDLE without END, and CR.OVR_LAST will name it (R283). -/
def State.illegalAt (s : State) (desk : Nat) (k : Fin 4) : State :=
  let x := s.seat desk k
  let t := s.setSeat desk k { x with st := .idle }
  t.setDesk desk { t.desk desk with illegal := some x.pc }

/-- Issue an instruction of opcode `op`: not where it may not issue; illegal words, guards that hold it back, and
otherwise `body` on the state with the program counter advanced, given the instruction's own address (R281, R283). -/
def State.issue (s : State) (op : Nat) (i : ChalkOp) (body : State → BitVec 12 → State) : State :=
  if !s.mayIssue op i then s
  else
    let d := s.desk (deskOf i)
    let s := s.setDesk (deskOf i) { d with cur := i.seat.val }
    if !legal op i.w then s.illegalAt (deskOf i) i.seat
    else
      let x := s.me i
      let t := s.putMe i x.advance
      if guardOn x i.w then body t x.pc
      else if isTimed op i.w then t.useLane i else t

/-- Issue an instruction that changes only its Seat. -/
def State.issueSeat (s : State) (op : Nat) (i : ChalkOp) (f : State → Seat → Seat) : State :=
  s.issue op i (fun t _ => t.putMe i (f t (t.me i)))

/-- Issue an instruction that writes S[D]. -/
def State.issueS (s : State) (op : Nat) (i : ChalkOp) (f : Seat → Word) : State :=
  s.issueSeat op i (fun _ x => x.setS (fD i.w) (f x))

/-- Cohort of a Desk's role. -/
def State.cohortOf (s : State) (desk : Nat) : Nat := ((s.desk desk).cohort.getD 0).toNat

/-! ### Control and predicates (R299) -/

/-- NOP (R299). -/
def execChNop (i : ChalkOp) (s : State) : Host.Outcome State Fault Refusal := .next (s.issueSeat 0x01 i (fun _ x => x))

/-- END (R251): the Seat becomes IDLE for the Lesson, and the Desk switches Seats. -/
def execChEnd (i : ChalkOp) (s : State) : Host.Outcome State Fault Refusal :=
  .next (s.issue 0x02 i (fun t _ =>
    let u := t.putMe i { t.me i with st := .idle }
    let d := u.desk (deskOf i)
    (u.setDesk (deskOf i) { d with ended := d.ended ||| BitVec.ofNat 4 (2 ^ i.seat.val) }).switchSeat (deskOf i) i.seat))

/-- YIELD (R249, R299). -/
def execChYield (i : ChalkOp) (s : State) : Host.Outcome State Fault Refusal :=
  .next (s.issue 0x03 i (fun t _ => t.switchSeat (deskOf i) i.seat))

/-- BR (R299). -/
def execChBr (i : ChalkOp) (s : State) : Host.Outcome State Fault Refusal :=
  .next (s.issueSeat 0x04 i (fun _ x => x.goto (bits i.w 0 12)))

/-- LOOP (R299). -/
def execChLoop (i : ChalkOp) (s : State) : Host.Outcome State Fault Refusal :=
  .next (s.issueSeat 0x05 i (fun _ x =>
    let v := x.sr (fA i.w) - 1
    let y := x.setS (fA i.w) v
    if v ≠ 0 then y.goto (bits i.w 0 12) else y))

/-- BRS (R299): on STAT.LAST. -/
def execChBrs (i : ChalkOp) (s : State) : Host.Outcome State Fault Refusal :=
  .next (s.issueSeat 0x06 i (fun _ x =>
    if (statLast x.stat == bits i.w 12 5) != i.w.getLsbD 17 then x.goto (bits i.w 0 12) else x))

/-- JR (R299). -/
def execChJr (i : ChalkOp) (s : State) : Host.Outcome State Fault Refusal :=
  .next (s.issueSeat 0x07 i (fun _ x => x.goto (x.sr (fA i.w)).toNat))

/-- A special register as MFSR reads it (R278); `pc` is the reading instruction's address. -/
def State.special (s : State) (i : ChalkOp) (pc : BitVec 12) (n : Nat) : Word :=
  let x := s.me i
  let c := s.cohortOf (deskOf i)
  if n = 0 then pc.setWidth 64
  else if n = 1 then x.stat
  else if n = 2 then x.rtag.setWidth 64
  else if n = 3 then x.srStream.setWidth 64
  else if n = 4 then x.srElem.setWidth 64
  else if n = 5 then s.lesson
  else if n = 6 then s.step_ c
  else if n = 7 then BitVec.ofNat 64 (s.node.toNat * 2 ^ 32 + i.seat.val * 2 ^ 20 + deskOf i)
  else if n = 8 then BitVec.ofNat 64 c
  else BitVec.ofNat 64 s.dcycle

/-- MFSR (R278, R299). -/
def execChMfsr (i : ChalkOp) (s : State) : Host.Outcome State Fault Refusal :=
  .next (s.issue 0x08 i (fun t pc => t.putMe i ((t.me i).setS (fD i.w) (t.special i pc (bits i.w 0 6)))))

/-- MTSR (R278, R280, R299). -/
def execChMtsr (i : ChalkOp) (s : State) : Host.Outcome State Fault Refusal :=
  .next (s.issueSeat 0x09 i (fun _ x =>
    let v := x.sr (fA i.w)
    let n := bits i.w 0 6
    if n = 1 then { x with stat := v &&& statMask }
    else if n = 2 then { x with rtag := BitVec.ofNat 8 v.toNat }
    else if n = 3 then { x with srStream := BitVec.ofNat 32 v.toNat }
    else { x with srElem := BitVec.ofNat 32 v.toNat }))

/-- RCV (R268, R310). -/
def execChRcv (i : ChalkOp) (s : State) : Host.Outcome State Fault Refusal :=
  .next (s.issue 0x0A i (fun t _ =>
    let mask := BitVec.ofNat 8 (bits i.w 0 8)
    if (t.desk (deskOf i)).wordsFull mask then t.rcvTake (deskOf i) i.seat (fD i.w) mask
    else t.putMe i { t.me i with st := .inbox, rcv := some (fD i.w, mask) }))

/-- PLOG (R299). -/
def execChPlog (i : ChalkOp) (s : State) : Host.Outcome State Fault Refusal :=
  .next (s.issueSeat 0x0B i (fun _ x => x.setP (fD i.w) (plog (bits i.w 0 3) (x.pr (fA i.w)) (x.pr (fB i.w)))))

/-! ### Scalar integer (R300) -/

/-- ADD (R300). -/
def execChAdd (i : ChalkOp) (s : State) : Host.Outcome State Fault Refusal :=
  .next (s.issueS 0x10 i (fun x => x.sr (fA i.w) + x.sr (fB i.w)))
/-- SUB (R300). -/
def execChSub (i : ChalkOp) (s : State) : Host.Outcome State Fault Refusal :=
  .next (s.issueS 0x11 i (fun x => x.sr (fA i.w) - x.sr (fB i.w)))
/-- MUL (R300): low half. -/
def execChMul (i : ChalkOp) (s : State) : Host.Outcome State Fault Refusal :=
  .next (s.issueS 0x12 i (fun x => x.sr (fA i.w) * x.sr (fB i.w)))
/-- High half of a product, signed or not. -/
def mulHigh (signed : Bool) (a b : Word) : Word :=
  if signed then BitVec.ofInt 64 (a.toInt * b.toInt / 2 ^ 64) else BitVec.ofNat 64 (a.toNat * b.toNat / 2 ^ 64)
/-- MULH (R300). -/
def execChMulh (i : ChalkOp) (s : State) : Host.Outcome State Fault Refusal :=
  .next (s.issueS 0x13 i (fun x => mulHigh (modBit i.w 0) (x.sr (fA i.w)) (x.sr (fB i.w))))
/-- AND (R300). -/
def execChAnd (i : ChalkOp) (s : State) : Host.Outcome State Fault Refusal :=
  .next (s.issueS 0x14 i (fun x => x.sr (fA i.w) &&& x.sr (fB i.w)))
/-- OR (R300). -/
def execChOr (i : ChalkOp) (s : State) : Host.Outcome State Fault Refusal :=
  .next (s.issueS 0x15 i (fun x => x.sr (fA i.w) ||| x.sr (fB i.w)))
/-- XOR (R300). -/
def execChXor (i : ChalkOp) (s : State) : Host.Outcome State Fault Refusal :=
  .next (s.issueS 0x16 i (fun x => x.sr (fA i.w) ^^^ x.sr (fB i.w)))
/-- Shift count of SHL and SHR: MOD[5:0], or S[B][5:0]. -/
def shiftCount (w : BitVec 56) (x : Seat) : Nat := if modBit w 6 then bits w 0 6 else (x.sr (fB w)).toNat % 64
/-- SHL (R300). -/
def execChShl (i : ChalkOp) (s : State) : Host.Outcome State Fault Refusal :=
  .next (s.issueS 0x17 i (fun x => x.sr (fA i.w) <<< shiftCount i.w x))
/-- SHR (R300). -/
def execChShr (i : ChalkOp) (s : State) : Host.Outcome State Fault Refusal :=
  .next (s.issueS 0x18 i (fun x =>
    if modBit i.w 7 then (x.sr (fA i.w)).sshiftRight (shiftCount i.w x) else x.sr (fA i.w) >>> shiftCount i.w x))
/-- a is the lesser of two w-bit values. -/
def lessW (signed : Bool) (w a b : Nat) : Bool := if signed then decide (sgn w a < sgn w b) else decide (a < b)
/-- MIN (R300). -/
def execChMin (i : ChalkOp) (s : State) : Host.Outcome State Fault Refusal :=
  .next (s.issueS 0x19 i (fun x =>
    if lessW (modBit i.w 0) 64 (x.sr (fB i.w)).toNat (x.sr (fA i.w)).toNat then x.sr (fB i.w) else x.sr (fA i.w)))
/-- MAX (R300). -/
def execChMax (i : ChalkOp) (s : State) : Host.Outcome State Fault Refusal :=
  .next (s.issueS 0x1A i (fun x =>
    if lessW (modBit i.w 0) 64 (x.sr (fA i.w)).toNat (x.sr (fB i.w)).toNat then x.sr (fB i.w) else x.sr (fA i.w)))
/-- CMP (R300). -/
def execChCmp (i : ChalkOp) (s : State) : Host.Outcome State Fault Refusal :=
  .next (s.issueSeat 0x1B i (fun _ x =>
    x.setP (fD i.w) (cmpCond (bits i.w 0 3) 64 (x.sr (fA i.w)).toNat (x.sr (fB i.w)).toNat)))
/-- SEL (R300). -/
def execChSel (i : ChalkOp) (s : State) : Host.Outcome State Fault Refusal :=
  .next (s.issueS 0x1C i (fun x => if x.pr (fC i.w) then x.sr (fA i.w) else x.sr (fB i.w)))
/-- MOVI (R282, R300): IMM sign-extended. -/
def execChMovi (i : ChalkOp) (s : State) : Host.Outcome State Fault Refusal :=
  .next (s.issueS 0x1D i (fun _ => (fImm i.w).signExtend 64))
/-- MOVHI (R300). -/
def execChMovhi (i : ChalkOp) (s : State) : Host.Outcome State Fault Refusal :=
  .next (s.issueS 0x1E i (fun x => BitVec.ofNat 64 ((x.sr (fD i.w)).toNat % 2 ^ 41 + bits i.w 0 23 * 2 ^ 41)))
/-- ADDI (R300). -/
def execChAddi (i : ChalkOp) (s : State) : Host.Outcome State Fault Refusal :=
  .next (s.issueS 0x1F i (fun x => x.sr (fA i.w) + (fImm i.w).signExtend 64))

/-! ### Fetch and illegal words -/

/-- ILLEGAL_INSTRUCTION (R283): the Seat's next word is illegal. -/
def execIllegalInstruction (d : DeskId) (seat : Fin 4) (word : BitVec 64) (s : State) : Host.Outcome State Fault Refusal :=
  let i : ChalkOp := { desk := d, seat := seat, w := word.setWidth 56 }
  let op := word.toNat / 2 ^ 56
  .next (if legal op i.w then s else s.issue op i (fun t _ => t))

/-- FETCH_BLOCK_DELIVERY (R253, R291): a block that the Seat has requested enters its buffer. -/
def execFetchBlockDelivery (d : DeskId) (seat : Fin 4) (block : Fin 256) (s : State) : Host.Outcome State Fault Refusal :=
  .next (s.setSeat (DeskId.idx d) seat ((s.seat (DeskId.idx d) seat).deliver block.val))

end Sys2Proof.Machine
end

