-- ==== Sys2Proof/Machine/Ftr.lean ====
section
/-! DEFINITION. The functions of FTR, correctly rounded (R302, R319). Each is evaluated in fixed point with 720
fraction bits; the cases whose exact result is representable are told apart, so that every other result is inexact. -/

namespace Sys2Proof.Machine

/-- Fraction bits of the evaluation. -/
def ftrP : Nat := 720
/-- Fraction bits of π for the reduction of large arguments. -/
def ftrQ : Nat := 900
/-- 1 in fixed point. -/
def ftrOne : Nat := 2 ^ 720

/-- Σ r^n / n! from term n on. -/
def expSum (r : Nat) : Nat → Nat → Nat → Nat → Nat
  | 0, _, _, acc => acc
  | k + 1, n, t, acc => let u := t * r / (n * ftrOne); expSum r k (n + 1) u (acc + u)
/-- e^r for 0 ≤ r < 1. -/
def expFix (r : Nat) : Nat := expSum r 170 1 ftrOne ftrOne
/-- Σ z^(2n+1) / (2n+1). -/
def atanhSum (zz : Nat) : Nat → Nat → Nat → Nat → Nat
  | 0, _, _, acc => acc
  | k + 1, n, t, acc => atanhSum zz k (n + 2) (t * zz / ftrOne) (acc + t / n)
/-- atanh z for 0 ≤ z ≤ 1/3. -/
def atanhFix (z : Nat) : Nat := atanhSum (z * z / ftrOne) 250 1 z 0
/-- ln 2 = 2 atanh (1/3). -/
def ln2Fix : Nat := 2 * atanhFix (ftrOne / 3)
/-- atan (1/d), with ftrQ fraction bits. -/
def atanInv (d : Int) : Nat → Int → Int → Int → Int
  | 0, _, _, acc => acc
  | k + 1, n, t, acc => atanInv d k (n + 2) (-(t / (d * d))) (acc + t / n)
/-- π/2 with ftrQ fraction bits, by Machin's formula. -/
def halfPi : Nat := ((16 * atanInv 5 220 1 (2 ^ 900 / 5) 0 - 4 * atanInv 239 80 1 (2 ^ 900 / 239) 0) / 2).toNat
/-- Alternating series of sine (n = 1) or cosine (n = 0). -/
def trigSum (rr : Nat) : Nat → Nat → Nat → Bool → Int → Int
  | 0, _, _, _, acc => acc
  | k + 1, n, t, neg, acc =>
    trigSum rr k (n + 2) (t * rr / (ftrOne * ((n + 1) * (n + 2)))) (!neg) (if neg then acc - t else acc + t)
/-- sin r for 0 ≤ r < π/2. -/
def sinFix (r : Nat) : Int := trigSum (r * r / ftrOne) 110 1 r false 0
/-- cos r for 0 ≤ r < π/2. -/
def cosFix (r : Nat) : Int := trigSum (r * r / ftrOne) 110 0 ftrOne false 0

/-- A result before rounding: (−1)^neg · m · 2^e, and something beyond its last bit. -/
structure FtrRes where
  neg    : Bool
  m      : Nat
  e      : Int
  sticky : Bool
deriving DecidableEq, Repr

/-- An inexact result of fixed-point value v. -/
def inexact (v : Int) : FtrRes := { neg := decide (v < 0), m := v.natAbs, e := -720, sticky := true }
/-- An exact result. -/
def exactly (neg : Bool) (m : Nat) (e : Int) : FtrRes := { neg := neg, m := m, e := e, sticky := false }
/-- A positive result beyond every format, and one below half of every least subnormal. -/
def huge : FtrRes := { neg := false, m := 1, e := 400, sticky := true }
def tiny : FtrRes := { neg := false, m := 1, e := -720, sticky := true }

/-- m · 2^e in fixed point with p fraction bits, truncated. -/
def toFix (p m : Nat) (e : Int) : Nat := if 0 ≤ e + p then m * 2 ^ (e + p).toNat else m / 2 ^ (-(e + p)).toNat

/-- e^x for x = ±v in fixed point, |x| < 512: mantissa in [1, 2) and exponent. -/
def expOf (neg : Bool) (v : Nat) : Nat × Int :=
  let x : Int := if neg then -(v : Int) else v
  let k := x / (ln2Fix : Int)
  (expFix (x - k * ln2Fix).toNat, k)
/-- A mantissa and exponent in fixed point. -/
def scaleFix (p : Nat × Int) : Nat := if 0 ≤ p.2 then p.1 * 2 ^ p.2.toNat else p.1 / 2 ^ (-p.2).toNat

/-- |x| reaches 2^k. -/
def atLeast (m : Nat) (e : Int) (k : Int) : Bool := m ≠ 0 && decide (k ≤ (Nat.log2 m : Int) + e)

/-- ln of m · 2^e, in fixed point. -/
def lnFix (m : Nat) (e : Int) : Int :=
  let top := Nat.log2 m
  let a := m * 2 ^ (720 - top)
  let z := (a - ftrOne) * ftrOne / (a + ftrOne)
  ((e + top) * ln2Fix : Int) + 2 * atanhFix z

/-- m is a power of two. -/
def isPow2 (m : Nat) : Bool := m = 2 ^ Nat.log2 m

/-- f of the finite value (−1)^neg · m · 2^e, m ≠ 0 (R302): none where R319 makes it a NaN. -/
def ftrFinite (fn : Nat) (neg : Bool) (m : Nat) (e : Int) : Option FtrRes :=
  if fn = 0 then
    (if atLeast m e 9 then some (if neg then tiny else huge)
     else let p := expOf neg (toFix ftrP m e); some { neg := false, m := p.1, e := p.2 - 720, sticky := true })
  else if fn = 1 then
    (if atLeast m e 9 then some (if neg then tiny else huge)
     else
       let v := toFix ftrP m e
       let x : Int := if neg then -(v : Int) else v
       let k := x / (ftrOne : Int)
       let fr := (x - k * ftrOne).toNat
       if fr = 0 then some (exactly false 1 k)
       else some { neg := false, m := expFix (fr * ln2Fix / ftrOne), e := k - 720, sticky := true })
  else if fn = 2 then
    (if neg then none
     else if isPow2 m ∧ (Nat.log2 m : Int) + e = 0 then some (exactly false 0 0)
     else some (inexact (lnFix m e)))
  else if fn = 3 then
    (if neg then none
     else if isPow2 m then let k := (Nat.log2 m : Int) + e; some (exactly (decide (k < 0)) k.natAbs 0)
     else some (inexact (lnFix m e * ftrOne / ln2Fix)))
  else if fn = 4 ∨ fn = 5 then
    let x := toFix ftrQ m e
    let k := x / halfPi % 4
    let r := x % halfPi / 2 ^ (ftrQ - ftrP)
    let q := if fn = 4 then k else (k + 1) % 4
    let v := if q = 0 then sinFix r else if q = 1 then cosFix r else if q = 2 then -(sinFix r) else -(cosFix r)
    some (inexact (if fn = 4 ∧ neg then -v else v))
  else if fn = 6 then
    let t : Int :=
      if atLeast m e 7 then ftrOne - 1
      else
        let q := scaleFix (expOf true (2 * toFix ftrP m e))
        ((ftrOne - q) * ftrOne / (ftrOne + q) : Nat)
    some (inexact (if neg then -t else t))
  else if fn = 7 then
    (if atLeast m e 8 then some (if neg then tiny else inexact (ftrOne - 1))
     else
       let q := scaleFix (expOf true (toFix ftrP m e))
       some (inexact (if neg then (q * ftrOne / (ftrOne + q) : Nat) else (ftrOne * ftrOne / (ftrOne + q) : Nat))))
  else if fn = 8 then
    let n := 2 ^ 200
    some { neg := neg, m := n / m, e := -200 - e, sticky := decide (n % m ≠ 0) }
  else if neg then none
  else if fn = 9 then
    let h := if e % 2 = 0 then m else 2 * m
    let g := if e % 2 = 0 then e else e - 1
    let n := 2 ^ 400 / h
    let r := Nat.sqrt n
    some { neg := false, m := r, e := -200 - g / 2, sticky := decide (r * r * h ≠ 2 ^ 400) }
  else
    let h := if e % 2 = 0 then m else 2 * m
    let g := if e % 2 = 0 then e else e - 1
    let r := Nat.sqrt (h * 2 ^ 200)
    some { neg := false, m := r, e := g / 2 - 100, sticky := decide (r * r ≠ h * 2 ^ 200) }

/-- Move the magnitude of a finite nonzero result among those within two units in the last place (R302). -/
def ftrNear (f : Fmt) (exact : Bool) (bits c : Nat) : Nat :=
  let sign := bits / 2 ^ (f.width - 1) * 2 ^ (f.width - 1)
  let mag := bits % 2 ^ (f.width - 1)
  if mag = 0 ∨ f.infBits ≤ mag then bits
  else
    let n := if exact then mag + c % 5 - 2 else mag + c % 4 - 1
    sign + min n f.infBits

/-- Round a result of FTR: directly to FP32 or FP16, and to BF16 through FP32 (R302). -/
def ftrRound (f : Fmt) (r : Rnd) (x : FtrRes) : Nat :=
  if f = .bf16 then encodeF .bf16 r (decodeF .fp32 (roundFin .fp32 .nearest x.neg x.m x.e x.sticky))
  else roundFin f r x.neg x.m x.e x.sticky

/-- FTR of one element (R302, R319); `c` numbers the draw of its free values. Under STRICT a free value depends on the operation alone
(R363). -/
def ftr (f : Fmt) (fn : Nat) (r : Rnd) (strict : Bool) (c bits : Nat) : Nat :=
  match decodeF f bits with
  | .nan => f.nan
  | .inf neg =>
    if fn = 0 ∨ fn = 1 then (if neg then 0 else infOf f false)
    else if fn = 2 ∨ fn = 3 ∨ fn = 10 then (if neg then f.nan else infOf f false)
    else if fn = 4 ∨ fn = 5 then (if strict then Config.ftrStrict fn f.width bits else Config.ftrFree c) % 2 ^ f.width
    else if fn = 6 then encodeF f r (.fin neg 1 0)
    else if fn = 7 then (if neg then 0 else encodeF f r (.fin false 1 0))
    else if fn = 8 then encodeF f r (.fin neg 0 0)
    else if neg then f.nan else 0
  | .fin neg m e =>
    if m = 0 then
      if fn = 0 ∨ fn = 1 ∨ fn = 5 then encodeF f r (.fin false 1 0)
      else if fn = 2 ∨ fn = 3 then infOf f true
      else if fn = 4 ∨ fn = 6 ∨ fn = 10 then encodeF f r (.fin neg 0 0)
      else if fn = 7 then encodeF f r (.fin false 1 (-1))
      else infOf f neg
    else
      match ftrFinite fn neg m e with
      | none => f.nan
      | some x =>
        if strict then ftrRound f r x
        else ftrNear f (!x.sticky) (ftrRound f .zero x) (Config.ftrChoice c)

end Sys2Proof.Machine
end

