-- ==== Sys2Proof/Machine/ChalkVec.lean ====
section
/-! DEFINITION. Chalk vectors: integer, bit, move, floating point, conversion, sums, functions and generation
("Chalk Instruction Set", R301 to R304; "Number Formats and the Tally", R315 to R319, R329 to R334). -/

namespace Sys2Proof.Machine

/-! ### Integer, bit and move (R301) -/

/-- Issue an instruction that writes V[D] whole. -/
def State.issueV (s : State) (op : Nat) (i : ChalkOp) (f : Seat → Vec) : State :=
  s.issueSeat op i (fun _ x => x.setV (fD i.w) (f x))
/-- V[A] and V[B] lane by lane with the width of FMT. -/
def State.issueLanes (s : State) (op : Nat) (i : ChalkOp) (f : Nat → Nat → Nat → Nat) : State :=
  s.issueV op i (fun x =>
    let w := laneW (fFmt i.w)
    ofLanes w (fun k => f w (lane (x.vr (fA i.w)) w k) (lane (x.vr (fB i.w)) w k)))

/-- VADD (R301). -/
def execChVadd (i : ChalkOp) (s : State) : Host.Outcome State Fault Refusal :=
  .next (s.issueLanes 0x20 i (fun w a b => (a + b) % 2 ^ w))
/-- VSUB (R301). -/
def execChVsub (i : ChalkOp) (s : State) : Host.Outcome State Fault Refusal :=
  .next (s.issueLanes 0x21 i (fun w a b => (a + 2 ^ w - b) % 2 ^ w))
/-- VMUL (R301): low half of the lane product. -/
def execChVmul (i : ChalkOp) (s : State) : Host.Outcome State Fault Refusal :=
  .next (s.issueLanes 0x22 i (fun w a b => a * b % 2 ^ w))
/-- VAND (R301). -/
def execChVand (i : ChalkOp) (s : State) : Host.Outcome State Fault Refusal :=
  .next (s.issueV 0x23 i (fun x => x.vr (fA i.w) &&& x.vr (fB i.w)))
/-- VOR (R301). -/
def execChVor (i : ChalkOp) (s : State) : Host.Outcome State Fault Refusal :=
  .next (s.issueV 0x24 i (fun x => x.vr (fA i.w) ||| x.vr (fB i.w)))
/-- VXOR (R301). -/
def execChVxor (i : ChalkOp) (s : State) : Host.Outcome State Fault Refusal :=
  .next (s.issueV 0x25 i (fun x => x.vr (fA i.w) ^^^ x.vr (fB i.w)))
/-- VSHL (R301). -/
def execChVshl (i : ChalkOp) (s : State) : Host.Outcome State Fault Refusal :=
  .next (s.issueLanes 0x26 i (fun w a _ => a * 2 ^ bits i.w 0 6 % 2 ^ w))
/-- VSHR (R301). -/
def execChVshr (i : ChalkOp) (s : State) : Host.Outcome State Fault Refusal :=
  .next (s.issueLanes 0x27 i (fun w a _ =>
    if modBit i.w 7 then (sgn w a / 2 ^ bits i.w 0 6 % (2 ^ w : Int)).toNat else a / 2 ^ bits i.w 0 6))
/-- VMIN (R301). -/
def execChVmin (i : ChalkOp) (s : State) : Host.Outcome State Fault Refusal :=
  .next (s.issueLanes 0x28 i (fun w a b => if lessW (modBit i.w 0) w b a then b else a))
/-- VMAX (R301). -/
def execChVmax (i : ChalkOp) (s : State) : Host.Outcome State Fault Refusal :=
  .next (s.issueLanes 0x29 i (fun w a b => if lessW (modBit i.w 0) w a b then b else a))
/-- VCMP (R301). -/
def execChVcmp (i : ChalkOp) (s : State) : Host.Outcome State Fault Refusal :=
  .next (s.issueLanes 0x2A i (fun w a b => if cmpCond (bits i.w 0 3) w a b then 2 ^ w - 1 else 0))
/-- VSEL (R301). -/
def execChVsel (i : ChalkOp) (s : State) : Host.Outcome State Fault Refusal :=
  .next (s.issueV 0x2B i (fun x => (x.vr (fC i.w) &&& x.vr (fA i.w)) ||| (~~~(x.vr (fC i.w)) &&& x.vr (fB i.w))))
/-- VPERM (R301). -/
def execChVperm (i : ChalkOp) (s : State) : Host.Outcome State Fault Refusal :=
  .next (s.issueV 0x2C i (fun x => ofLanes 8 (fun j =>
    let b := lane (x.vr (fB i.w)) 8 j
    if b < 16 then lane (x.vr (fA i.w)) 8 b else 0)))
/-- Count of the 1 bits among the low w bits. -/
def popCount (w n : Nat) : Nat := ((List.range w).filter (fun k => n.testBit k)).length
/-- VPOPC (R301). -/
def execChVpopc (i : ChalkOp) (s : State) : Host.Outcome State Fault Refusal :=
  .next (s.issueLanes 0x2D i (fun w a _ => popCount w a))
/-- VSGN (R301). -/
def execChVsgn (i : ChalkOp) (s : State) : Host.Outcome State Fault Refusal :=
  .next (s.issueS 0x2E i (fun x =>
    let w := laneW (fFmt i.w)
    BitVec.ofNat 64 ((List.range (128 / w)).foldl (fun n k => n + lane (x.vr (fA i.w)) w k / 2 ^ (w - 1) * 2 ^ k) 0)))
/-- VMOV (R301). -/
def execChVmov (i : ChalkOp) (s : State) : Host.Outcome State Fault Refusal :=
  .next (s.issueV 0x30 i (fun x => x.vr (fA i.w)))
/-- VBCAST (R301). -/
def execChVbcast (i : ChalkOp) (s : State) : Host.Outcome State Fault Refusal :=
  .next (s.issueV 0x31 i (fun x => ofLanes (laneW (fFmt i.w)) (fun _ => (x.sr (fA i.w)).toNat)))
/-- VEXT (R301). -/
def execChVext (i : ChalkOp) (s : State) : Host.Outcome State Fault Refusal :=
  .next (s.issueS 0x32 i (fun x => BitVec.ofNat 64 (lane (x.vr (fA i.w)) (laneW (fFmt i.w)) (fLA i.w))))
/-- VINS (R301). -/
def execChVins (i : ChalkOp) (s : State) : Host.Outcome State Fault Refusal :=
  .next (s.issueV 0x33 i (fun x => setLane (x.vr (fD i.w)) (laneW (fFmt i.w)) (fLD i.w) (x.sr (fA i.w)).toNat))

/-! ### Floating point (R302) -/

/-- Value of an element of any lane format (R284, R312). -/
def decodeLane (c bits : Nat) : FVal :=
  match fmtOf c with
  | some f => decodeF f bits
  | none => FVal.ofInt (sgn (laneW c) bits)
/-- Round a value to an integer of w bits: NaN to 0, infinities and overflow saturate (R318). -/
def encodeInt (w : Nat) (r : Rnd) : FVal → Nat
  | .nan => 0
  | .inf neg => if neg then 2 ^ (w - 1) else 2 ^ (w - 1) - 1
  | .fin neg m e =>
    let (a, k, rem) := cutAt m e 0
    let v := if roundUp r neg (a % 2 = 1) k rem false then a + 1 else a
    satInt w (if neg then -(v : Int) else v)
/-- Encode a value in any lane format, rounding once. -/
def encodeLane (c : Nat) (r : Rnd) (x : FVal) : Nat :=
  match fmtOf c with
  | some f => encodeF f r x
  | none => encodeInt (laneW c) r x

/-- Issue a floating-point instruction of three operands, lane by lane, each result rounded once (R302). -/
def State.issueFma (s : State) (op : Nat) (i : ChalkOp) (f : Rnd → FVal → FVal → FVal → FVal) : State :=
  s.issueSeat op i (fun t x =>
    let c := fFmt i.w
    let w := laneW c
    let r := fun k => roundingOf t (t.cohortOf (deskOf i)) x (fRnd i.w) k
    let v := ofLanes w (fun k =>
      encodeLane c (r k) (f (r k) (decodeLane c (lane (x.vr (fA i.w)) w k)) (decodeLane c (lane (x.vr (fB i.w)) w k))
        (decodeLane c (lane (x.vr (fC i.w)) w k))))
    (x.setV (fD i.w) v).rounded (fRnd i.w) (128 / w))

/-- VFMA (R302): one rounding. -/
def execChVfma (i : ChalkOp) (s : State) : Host.Outcome State Fault Refusal :=
  .next (s.issueFma 0x40 i (fun r a b c => FVal.add r (FVal.mul a b) c))
/-- VFADD (R302). -/
def execChVfadd (i : ChalkOp) (s : State) : Host.Outcome State Fault Refusal :=
  .next (s.issueFma 0x41 i (fun r a b _ => FVal.add r a b))
/-- VFSUB (R302). -/
def execChVfsub (i : ChalkOp) (s : State) : Host.Outcome State Fault Refusal :=
  .next (s.issueFma 0x42 i (fun r a b _ => FVal.add r a (FVal.neg b)))
/-- VFMUL (R302). -/
def execChVfmul (i : ChalkOp) (s : State) : Host.Outcome State Fault Refusal :=
  .next (s.issueFma 0x43 i (fun _ a b _ => FVal.mul a b))
/-- FP minimum or maximum of two lanes of a format code (R89). -/
def laneMinMax (c : Nat) (isMax : Bool) (a b : Nat) : Nat :=
  match fmtOf c with
  | some f => fpMinMax f isMax a b
  | none => a
/-- VFMIN (R89, R302). -/
def execChVfmin (i : ChalkOp) (s : State) : Host.Outcome State Fault Refusal :=
  .next (s.issueLanes 0x44 i (fun _ a b => laneMinMax (fFmt i.w) false a b))
/-- VFMAX (R89, R302). -/
def execChVfmax (i : ChalkOp) (s : State) : Host.Outcome State Fault Refusal :=
  .next (s.issueLanes 0x45 i (fun _ a b => laneMinMax (fFmt i.w) true a b))
/-- VFCMP (R302). -/
def execChVfcmp (i : ChalkOp) (s : State) : Host.Outcome State Fault Refusal :=
  .next (s.issueLanes 0x46 i (fun w a b =>
    if fcmpCond (bits i.w 0 2) (decodeLane (fFmt i.w) a) (decodeLane (fFmt i.w) b) then 2 ^ w - 1 else 0))

/-- VCVT (R286, R303, R318, R319). -/
def execChVcvt (i : ChalkOp) (s : State) : Host.Outcome State Fault Refusal :=
  .next (s.issueSeat 0x47 i (fun t x =>
    let ca := fFmt i.w
    let cb := bits i.w 0 4
    let wa := laneW ca
    let wb := laneW cb
    let n := 128 / max wa wb
    let v := (List.range n).foldl (fun v k =>
      setLane v wb (fLD i.w * n + k)
        (encodeLane cb (roundingOf t (t.cohortOf (deskOf i)) x (fRnd i.w) k) (decodeLane ca (lane (x.vr (fA i.w)) wa (fLA i.w * n + k)))))
      (x.vr (fD i.w))
    (x.setV (fD i.w) v).rounded (fRnd i.w) n))

/-! ### VFSUM (R304, R329) -/

/-- One level of the tree: adjacent pairs added and rounded. -/
def pairSum (f : Fmt) (r : Rnd) : List Nat → List Nat
  | a :: b :: l => encodeF f r (FVal.add r (decodeF f a) (decodeF f b)) :: pairSum f r l
  | l => l
/-- The fixed tree of R304: `fuel` levels, the last by `r`, the others by `inner`. -/
def treeSum (f : Fmt) (inner r : Rnd) : Nat → List Nat → Nat
  | 0, l => l.headD 0
  | fuel + 1, l => if l.length ≤ 2 then (pairSum f r l).headD 0 else treeSum f inner r fuel (pairSum f inner l)
/-- Exact sum in the FMA unit's Tally path: the canonical NaN where a residue check fails (R329). The upset is the first add's. -/
def exactSum (f : Fmt) (r : Rnd) (l : List Nat) (upset : Int) : Nat :=
  let a := (l.foldl (fun (p : Acc × Int) x => (Acc.addVal (accW f) (accQ f) p.1 (decodeF f x) p.2, 0)) (({} : Acc), upset)).1
  (Acc.readout (accQ f) a f r).getD f.nan

/-- VFSUM (R304). -/
def execChVfsum (i : ChalkOp) (upset : Int) (s : State) : Host.Outcome State Fault Refusal :=
  .next (s.issueSeat 0x48 i (fun t x =>
    let c := fFmt i.w
    let w := laneW c
    let f := (fmtOf c).getD .fp32
    let l := (List.range (128 / w)).map (lane (x.vr (fA i.w)) w)
    let r := roundingOf t (t.cohortOf (deskOf i)) x (fRnd i.w) 0
    let v := if t.strict then exactSum f r l upset else treeSum f (if fRnd i.w = 5 then .nearest else r) r 4 l
    (x.setV (fD i.w) (setLane (x.vr (fD i.w)) w (fLD i.w) v)).rounded (fRnd i.w) 1))

/-! ### FTR and RNG (R302, R319, R331 to R334) -/

/-- FTR (R302, R319). While STRICT is 0 each finite nonzero result is one of those within two units in the last place. -/
def execChFtr (i : ChalkOp) (s : State) : Host.Outcome State Fault Refusal :=
  .next (s.issue 0x49 i (fun t _ =>
    let x := t.me i
    let f := (fmtOf (fFmt i.w)).getD .fp32
    let w := laneW (fFmt i.w)
    let n := 128 / w
    let v := ofLanes w (fun k =>
      ftr f (bits i.w 0 4) (roundingOf t (t.cohortOf (deskOf i)) x (fRnd i.w) k) t.strict (t.freeCtr + k) (lane (x.vr (fA i.w)) w k))
    let u := t.putMe i ((x.setV (fD i.w) v).rounded (fRnd i.w) n)
    { u with freeCtr := u.freeCtr + n }))

/-- RNG (R331 to R334). -/
def execChRng (i : ChalkOp) (s : State) : Host.Outcome State Fault Refusal :=
  .next (s.issue 0x4A i (fun t pc =>
    let x := t.me i
    let c := t.cohortOf (deskOf i)
    if modBit i.w 0 then
      (if t.strict then t.putMe i (x.record stStrict true pc)
       else
         let d := t.draw
         d.2.putMe i ((x.setV (fD i.w) (Config.deskNoise d.1)).record 0 true pc))
    else
      t.putMe i ((x.setV (fD i.w) (generator (t.seed c) (t.step_ c) (BitVec.ofNat 32 (x.sr (fA i.w)).toNat)
        (BitVec.ofNat 32 (x.sr (fB i.w)).toNat))).record 0 true pc)))

end Sys2Proof.Machine
end

