-- ==== Sys2Proof/Machine/Home.lean ====
section
/-! DEFINITION. A memory request at its destination module: admission and the status precedence of
R106, line effects, tally slots, and the home's snoop transactions (R83 to R113, R141 to R165, R267,
R337 to R339, R406 to R421, R553, R554, R655, R656). -/

namespace Sys2Proof.Machine

/-! ### Requests -/

/-- Offset a request names in the module. -/
def Req.off (r : Req) : Nat := r.f.fpa.toNat % 2 ^ 44
/-- Opcode of a request. -/
def Req.op (r : Req) : Nat := r.f.opcode.toNat
/-- Bytes a request covers: its length field (R172). -/
def Req.len (r : Req) : Nat := r.f.length.toNat
/-- Lines a request touches. -/
def Req.lines (r : Req) : List Nat := linesOf (Req.off r) (Req.len r)
/-- The request is timetabled (R21): VC0. -/
def Req.timed (r : Req) : Bool := r.f.vc = 0
/-- A number that tells requesters apart (R161). -/
def Req.who (r : Req) : Nat :=
  match r.via with
  | .fabric _ => r.f.src.toNat
  | .desk d k _ => 4096 + 4 * DeskId.idx d + k.val
  | .stream w e => 4096 + 4 * 2 ^ 21 + 64 * w.val + e.val
/-- The request came as a frame from the Centroid. -/
def Req.isFrame (r : Req) : Bool := match r.via with
  | .fabric _ => true
  | _ => false

/-- LD. -/
def isLd (op : Nat) : Bool := op = 1
/-- ST or a copy of an MST. -/
def isStore (op : Nat) : Bool := op = 2 || op = 3
/-- RED. -/
def isRed (op : Nat) : Bool := op / 16 = 1
/-- FADD on a floating-point type. -/
def isFpFadd (op : Nat) : Bool := op / 16 = 2 && 4 ≤ op % 16
/-- RED on a floating-point type. -/
def isFpRed (op : Nat) : Bool := op / 16 = 1 && 4 ≤ op % 16
/-- The request is carried out through tally slots (R90, R92). -/
def State.slotted (s : State) (op : Nat) : Bool := isFpRed op || (isFpFadd op && s.strict)

/-- The limits of R85, R88, R91, R83 and the payload of R88. -/
def shapeOk (w : Where) (f : Frame) : Bool :=
  let op := f.opcode.toNat
  let a := f.fpa.toNat
  let n := f.length.toNat
  let pl := f.payload.length
  if !opcodeLegal op then false
  else if op ≤ 3 then
    (match w with
     | .mirror _ => (n = 4 || n = 8) && a % n = 0
     | _ => 1 ≤ n && n ≤ 2048 && a % 2048 + n ≤ 2048) && (op = 1 || pl = n)
  else if isRed op then
    let z := typeSize (op % 16)
    1 ≤ n && n ≤ 2048 && n % z = 0 && a % z = 0 && a % 2048 + n ≤ 2048 && pl = n
  else
    let z := operandSize op
    a % z = 0 && n = z && pl = atomicPayload op

/-- Whether R105 admits a request to a region; a Desk or stream engine of this module reaches a Blackboard in either
class (R258). -/
def admitted (w : Where) (r : Req) : Bool :=
  let f := r.f
  let op := f.opcode.toNat
  let modSrc := f.src.toNat < 64
  match w with
  | .general => true
  | .timetable => (op = 1 || op = 2) && modSrc
  | .overflow => false
  | .blackboard _ _ => f.vc = 0 || !Req.isFrame r
  | .slate _ _ => (op = 1 || op = 2) && f.vc = 0
  | .inbox _ _ => (op = 2 || op = 3) && f.vc = 0
  | .mirror _ => (op = 1 || op = 2) && f.vc = 1 && modSrc
  | .hole => false

/-! ### Lines in error (R418, R419) -/

/-- Error-table entry addresses of a channel. -/
def errEntry (c i : Nat) : Nat := chReg c 0x800 + 8 * i
/-- Index of a line's error-table entry (R419). -/
def State.errIndex (s : State) (line : Nat) : Option Nat :=
  (List.range 256).find? (fun i =>
    let w := s.reg (errEntry (channelOf (64 * line)) i)
    w.getLsbD 63 && fget w 0 40 = 64 * line)
/-- A read of this line meets an uncorrectable error. -/
def State.lineBad (s : State) (line : Nat) : Bool :=
  decide (64 * line < 2 ^ 40) && (tget (fun _ => false) s.g7m.bad line
    || (decide (0 < s.regF (chReg (channelOf (64 * line)) 0x48) 0 9) && (s.errIndex line).isSome))
/-- Record a line in its channel's error table (R151, R419). -/
def State.markBad (s : State) (line : Nat) : State :=
  let c := channelOf (64 * line)
  if (s.errIndex line).isSome then s
  else match (List.range 256).find? (fun i => !(s.reg (errEntry c i)).getLsbD 63) with
    | some i => (s.setReg (errEntry c i) (BitVec.ofNat 64 (2 ^ 63 + 64 * line))).countWrap (chReg c 0x48) 0 9
    | none => s.setRegBit (chReg c 0) 2 true
/-- A store has covered the whole line (R110, R419). -/
def State.heal (s : State) (line : Nat) : State :=
  let s := { s with g7m := { s.g7m with bad := tput (fun _ => false) s.g7m.bad line false } }
  if 64 * line < 2 ^ 40 ∧ 0 < s.regF (chReg (channelOf (64 * line)) 0x48) 0 9 then
    match s.errIndex line with
    | some i =>
      let c := channelOf (64 * line)
      (s.setReg (errEntry c i) 0).setRegF (chReg c 0x48) 0 9 (s.regF (chReg c 0x48) 0 9 - 1)
    | none => s
  else s

/-- Count uncorrectable errors met (R421). -/
def State.countBad (s : State) (lines : List Nat) : State :=
  s.forAll lines (fun s l => s.count (chReg (channelOf (64 * l)) 0x10))

/-! ### Channel bursts (R408, R421) -/

def chanDefault (_ : Nat) : Chan := {}
def State.chan (s : State) (c : Nat) : Chan := tget chanDefault s.g7m.chan c
def State.setChan (s : State) (c : Nat) (x : Chan) : State := { s with g7m := { s.g7m with chan := tput chanDefault s.g7m.chan c x } }

/-- Bursts to one line: reads, writes, and the row its bank then holds open. -/
def State.burst (s : State) (line : Nat) (rd wr : Bool) : State :=
  if 64 * line < 2 ^ 40 then
    let a := 64 * line
    let c := channelOf a
    let x := s.chan c
    let hit := tget (fun _ => none) x.rows (bankOf a) = some (rowOf a)
    let s := if rd then s.count (chReg c 0x28) else s
    let s := if wr then s.count (chReg c 0x30) else s
    let s := if hit then s else s.count (chReg c 0x38)
    s.setChan c { x with rows := tput (fun _ => none) x.rows (bankOf a) (some (rowOf a)) }
  else s

/-- Requester of a channel's arbiter that a request is (R413). -/
def Req.chanReq (r : Req) : Nat :=
  match r.via with
  | .fabric _ => r.f.src.toNat % 2
  | .desk d _ _ => 2 + d.w.val
  | .stream w _ => 2 + w.val
/-- A best-effort burst of requester q is granted at its line's channel: alone there, it takes the opportunity (R234, R413). -/
def State.chanTake (s : State) (q line : Nat) : State :=
  if 64 * line < 2 ^ 40 then
    let c := channelOf (64 * line)
    let x := s.chan c
    let cfg := arbCfg (s.reg rG7mArb)
    s.setChan c { x with arb := (arbStep 10 cfg (fun r => decide (r = q)) (fun r => cfg.high.testBit r) (fun _ => false) x.arb).1 }
  else s

/-- Requester of a Blackboard bank's arbiter that a request is: a Desk of its Classroom, or the router (R258). -/
def Req.bankReq (r : Req) (room : Nat) : Nat :=
  match r.via with
  | .desk d _ _ => if roomOf (DeskId.idx d) = room then DeskId.idx d % 256 else 256
  | _ => 256
/-- A best-effort access of requester q to a Blackboard line is granted its bank: alone there, it takes the opportunity (R234, R257,
R258). -/
def State.bankTake (s : State) (q line : Nat) : State :=
  match s.whereIs (64 * line) with
  | .blackboard room o =>
    let x := s.room room
    let cfg := arbCfg (s.reg (roomReg room crBbArb))
    let a := arbStep 259 cfg (fun r => decide (r = q)) (fun r => decide (256 ≤ r) && cfg.high.testBit (r - 256)) (fun _ => false)
      (tget arbDefault x.arbs (o / 64 % 16))
    s.setRoom room { x with arbs := tput arbDefault x.arbs (o / 64 % 16) a.1 }
  | _ => s
/-- A best-effort request takes its turn at the arbiters of the channels or banks of its lines (R233). -/
def State.siteTake (s : State) (r : Req) : State :=
  s.forAll (Req.lines r) (fun s l => match s.whereIs (64 * l) with
    | .blackboard room _ => s.bankTake (Req.bankReq r room) l
    | _ => s.chanTake (Req.chanReq r) l)

/-- A bank hold keeps another row of the line's bank (R646). -/
def State.heldBank (s : State) (line : Nat) : Bool :=
  let a := 64 * line
  decide (a < 2 ^ 40) && (s.chan (channelOf a)).holds.any (fun h => h.1 = bankOf a && h.2 ≠ rowOf a)

/-! ### Tally slots (R92 to R97, R337 to R339) -/

def State.slot (s : State) (line : Nat) : Option Slot := tget (fun _ => none) s.coh.slots line
def State.setSlot (s : State) (line : Nat) (x : Option Slot) : State :=
  { s with coh := { s.coh with slots := tput (fun _ => none) s.coh.slots line x } }
/-- Slots in use in a Classroom's slot area (R338). -/
def State.areaUsed (s : State) (room : Nat) : Nat :=
  (s.coh.slots.filter (fun x => match s.whereIs (64 * x.1) with
    | .blackboard r _ => r = room
    | _ => false)).length
/-- Whether `k` more slots may be taken for lines at a place (R93, R337, R338). -/
def State.slotsFit (s : State) (w : Where) (k : Nat) : Bool :=
  decide (s.coh.slots.length + k ≤ 4096) &&
    (match w with
     | .blackboard room _ => decide (s.areaUsed room + k ≤ s.regF (roomReg room crSlotArea) 32 6)
     | _ => true)
/-- A slot taken for a line: every accumulator loaded with the exact value of its element in memory (R92). -/
def State.newSlot (s : State) (line t : Nat) (fmt : Fmt) (coll : Option (BitVec 32)) : Slot :=
  let z := fmt.width / 8
  { type := t, coll := coll,
    accs := (List.range (64 / z)).map (fun i => Acc.ofElem (accW fmt) (accQ fmt) fmt (s.num (64 * line + i * z) z)) }
/-- Release an ordinary slot (R96). -/
def State.dropSlot (s : State) (line : Nat) : State :=
  match s.slot line with
  | some x => if x.coll = none then s.setSlot line none else s
  | none => s

/-- Contexts of the COL unit in index order. -/
def State.collCtx (s : State) (i : Nat) : Option CollCtx := tget (fun _ => none) s.coll.ctx i
/-- The collective that holds a line (R339). -/
def State.collAt (s : State) (line : Nat) : Option CollCtx :=
  (s.coll.ctx.filterMap (fun e => e.2)).find? (fun c =>
    c.held && c.desc.region / 64 ≤ line && line < c.desc.region / 64 + c.desc.lines)

/-- What R339 says of an access to the lines collectives hold: none, PERM or SLOTS_FULL with the count of COL.LATE. -/
def State.collRule (s : State) (r : Req) : Option (BitVec 5 × Bool) :=
  if isLd (Req.op r) then none
  else
    ((Req.lines r).filterMap (fun l => match s.collAt l with
      | none => (none : Option (BitVec 5 × Bool))
      | some c =>
        if (isRed (Req.op r) || (isFpFadd (Req.op r) && s.strict)) && Req.op r % 16 = c.desc.type.toNat then
          (let late := decide (c.base + c.desc.close ≤ s.lesson.toNat)
           if c.st = .launched && !late then none else some (stSlotsFull, late))
        else some (stPerm, false))).foldl (fun a b => match a with
          | none => some b
          | some x => if x.1 = stPerm then some x else some b) none

/-! ### Statuses before performing (R106) -/

/-- Bytes 0 to n of a range lie in a range being zeroed by a teardown (R558). -/
def State.beingZeroed (s : State) (a n : Nat) : Bool :=
  s.sec.tears.any (fun t => t.scrub && t.areas.any (fun x => decide (x.1 / 64 * 64 < a + n) && decide (a < (x.1 + x.2 + 63) / 64 * 64)))

/-- The domain that holds a place is fenced or in reset, or a channel or Wing is not ready (R106, R423, R558). -/
def State.isFenced (s : State) (w : Where) (a n : Nat) : Bool :=
  match w with
  | .general => s.fenced 2 || (linesOf a (max n 1)).any (fun l => !s.ready (readyCh (channelOf (64 * l)))) || s.beingZeroed a n
  | .timetable => s.fenced 2 || (linesOf a (max n 1)).any (fun l => !s.ready (readyCh (channelOf (64 * l))))
  | .overflow => s.fenced 2 || (linesOf a (max n 1)).any (fun l => !s.ready (readyCh (channelOf (64 * l))))
  | .blackboard r _ => s.fenced 0 || !s.ready (readyWing (r / 300)) || s.beingZeroed a n
  | .slate d _ => s.fenced 0 || !s.ready (readyWing (roomOf d / 300)) || s.beingZeroed a n
  | .inbox d _ => s.fenced 0 || !s.ready (readyWing (roomOf d / 300))
  | .mirror _ => false
  | .hole => false

/-- Fields of seal entry i (R552): base, length, cohort, slot, state. -/
def State.sealEntry (s : State) (i : Nat) : Nat × Nat × Nat × Nat × Nat :=
  let w := s.reg (rSeal + 32 * i + 16)
  ((s.reg (rSeal + 32 * i)).toNat, (s.reg (rSeal + 32 * i + 8)).toNat, fget w 0 10, fget w 16 8, fget w 24 2)
/-- The seal entry whose region a range touches. -/
def State.sealOver (s : State) (a n : Nat) : Option Nat :=
  (List.range 64).find? (fun i =>
    let e := s.sealEntry i
    e.2.2.2.2 ≠ 0 && decide (e.1 < a + n) && decide (a < e.1 + e.2.1))

/-- Whether a request is refused SEALED, other than a record that the engine opens (R553). -/
def State.sealRefuses (s : State) (r : Req) : Bool :=
  if 2 ^ 40 ≤ Req.off r then false
  else match s.sealOver (Req.off r) (Req.len r) with
    | none => false
    | some i =>
      let e := s.sealEntry i
      if e.2.2.2.2 ≠ 2 then true
      else match r.via with
        | .fabric _ => Req.op r ≠ 2
        | .desk _ _ _ => r.f.cohort.toNat ≠ e.2.2.1
        | .stream _ _ => r.f.cohort.toNat ≠ e.2.2.1 || !isLd (Req.op r)

/-- The request is a sealed record (R554). -/
def State.isRecord (s : State) (r : Req) : Bool :=
  Req.isFrame r && Req.op r = 2 && decide (Req.off r < 2 ^ 40) && (match s.sealOver (Req.off r) (Req.len r) with
    | some i => (s.sealEntry i).2.2.2.2 = 2
    | none => false)
/-- Shape of a sealed record (R554). -/
def recordOk (f : Frame) : Bool :=
  let d := f.payload.length - 32
  96 ≤ f.payload.length && d % 64 = 0 && d ≤ 1984 && f.fpa.toNat % 64 = 0

/-- Target Desk of a Slate or inbox access. -/
def Where.deskOf : Where → Option Nat
  | .slate d _ => some d
  | .inbox d _ => some d
  | _ => none
/-- The role epoch of the request does not admit it (R266). -/
def State.roleRefuses (s : State) (w : Where) (f : Frame) : Bool :=
  match Where.deskOf w with
  | some d => f.epoch ≠ s.epochOf d || f.epoch.toNat % 256 = 0
  | none => false

/-- The first status of orders 2 to 7 of R106 that applies. -/
def State.refusal (s : State) (r : Req) : Option (BitVec 5) :=
  let a := Req.off r
  let n := Req.len r
  let w := s.whereIs a
  if s.isFenced w a n then some stFenced
  else if w = .hole then some stUnmapped
  else if !shapeOk w r.f || (decide (0 < n) && !(Where.same w (s.whereIs (a + n - 1)))) || (s.isRecord r && !recordOk r.f) then some stAlign
  else if !admitted w r || (Req.isFrame r && s.sec.torn.contains r.f.cohort.toNat) || (s.collRule r).map Prod.fst = some stPerm then some stPerm
  else if s.sealRefuses r then some stSealed
  else if s.roleRefuses w r.f then some stRole
  else none

/-! ### Effects on lines -/

/-- Bytes of an overlay or of memory: an owner's data stands for its line (R152). -/
def State.readOver (s : State) (cover : List (Nat × List Byte)) (a n : Nat) : List Byte :=
  if cover.isEmpty then s.bytes a n
  else (List.range n).map (fun i =>
    match cover.find? (fun x => x.1 = (a + i) / 64) with
    | some x => x.2.getD ((a + i) % 64) 0
    | none => s.byte (a + i))

/-- The part of a line that `n` bytes from `a` cover: start and end. -/
def span (a n line : Nat) : Nat × Nat := (max a (64 * line), min (a + n) (64 * line + 64))

/-- Write the bytes of a store that fall in one line: slots released first (R96), a whole line healed (R110). -/
def State.storeLine (s : State) (a : Nat) (data : List Byte) (line : Nat) : State :=
  let p := span a data.length line
  let t := (s.dropSlot line).setBytes p.1 ((data.drop (p.1 - a)).take (p.2 - p.1))
  if p.2 - p.1 = 64 then t.heal line else t

/-- A store: every line it covers whole, and every partly covered line not in error (R87, R110). -/
def State.storeMem (s : State) (a : Nat) (data : List Byte) : BitVec 5 × State :=
  let ls := linesOf a data.length
  let skip := ls.filter (fun l => s.lineBad l && decide ((span a data.length l).2 - (span a data.length l).1 < 64))
  let t := s.forAll ls (fun s l => if skip.contains l then s else (s.storeLine a data l).burst l false true)
  if skip.isEmpty then (stOk, t) else (stDataErr, t.countBad skip)

/-- The new operand of an atomic (R88, R89, R90). -/
def atomicNew (op : Nat) (old : Nat) (arg : List Byte) : Nat :=
  let z := operandSize op
  let x := leAt arg 0 z
  let t := op % 16
  let m := 2 ^ (8 * z)
  if op / 16 = 2 then
    (match typeFmt t with
     | some fmt => encodeF fmt .nearest (FVal.add .nearest (decodeF fmt old) (decodeF fmt x))
     | none => (old + x) % m)
  else if op / 16 = 3 || op / 16 = 4 then
    let mx := op / 16 = 4
    (match typeFmt t with
     | some fmt => fpMinMax fmt mx old x
     | none =>
       let lt := if t % 2 = 1 then decide (sgn (8 * z) x < sgn (8 * z) old) else decide (x < old)
       if x = old then old else if lt = mx then old else x)
  else if op = 0x50 || op = 0x51 then x
  else if op = 0x52 || op = 0x53 then (if x = old then leAt arg z z else old)
  else if op = 0x54 || op = 0x55 then old &&& x
  else if op = 0x56 || op = 0x57 then old ||| x
  else old ^^^ x

/-- Elements of a payload. -/
def elems (z : Nat) (l : List Byte) : List Nat := (List.range (l.length / z)).map (fun i => leAt l (i * z) z)

/-- Add elements exactly to the accumulators from index `first` on (R94). The upset is the first add's. -/
def addElems (fmt : Fmt) : List Acc → Nat → List Nat → Int → List Acc
  | [], _, _, _ => []
  | a :: r, first + 1, xs, u => a :: addElems fmt r first xs u
  | a :: r, 0, [], _ => a :: r
  | a :: r, 0, x :: xs, u =>
    Acc.addVal (accW fmt) (accQ fmt) a (decodeF fmt x) u :: addElems fmt r 0 xs 0

/-- What one line's slot becomes under an RED: its slot, and the bytes to write, none on a failed check. -/
structure LineAdd where
  line : Nat
  slot : Slot
  kept : Option Slot
  at_  : Nat
  data : Option (List Byte)
deriving DecidableEq, Repr

/-- Add the part of an RED that falls in one line (R92, R94). -/
def State.addLine (s : State) (t : Nat) (fmt : Fmt) (a : Nat) (pay : List Byte) (upset : Int) (line : Nat) : LineAdd :=
  let z := fmt.width / 8
  let p := span a pay.length line
  let xs := elems z ((pay.drop (p.1 - a)).take (p.2 - p.1))
  let first := (p.1 - 64 * line) / z
  let base := match s.slot line with
    | some x => if x.type = t then x else s.newSlot line t fmt none
    | none => s.newSlot line t fmt none
  let accs := addElems fmt base.accs first xs upset
  let outs := ((accs.drop first).take xs.length).map (fun c => Acc.readout (accQ fmt) c fmt .nearest)
  { line := line, slot := { base with accs := accs }, kept := if base.coll = none then none else some base, at_ := p.1,
    data := if outs.all Option.isSome then some (outs.flatMap (fun o => leBytes z (o.getD 0))) else none }

/-- Lines of a slotted request that need a slot they do not have (R92, R93). -/
def State.slotsNeeded (s : State) (ls : List Nat) : Nat := (ls.filter (fun l => (s.slot l).isNone)).length

/-- A slotted RED or STRICT FADD over the lines not in error (R92 to R97): status and state. -/
def State.addSlots (s : State) (t : Nat) (fmt : Fmt) (a : Nat) (pay : List Byte) (upset : Int) : BitVec 5 × State :=
  let ls := linesOf a pay.length
  let bad := ls.filter s.lineBad
  let good := ls.filter (fun l => !bad.contains l)
  let adds := (List.range good.length).map (fun i => s.addLine t fmt a pay (if i = 0 then upset else 0) (good.getD i 0))
  let u := s.forAll good (fun s l => s.burst l true true)
  if adds.all (fun x => x.data.isSome) then
    let v := u.forAll adds (fun s x => (s.setSlot x.line (some x.slot)).setBytes x.at_ (x.data.getD []))
    if bad.isEmpty then (stOk, v) else (stDataErr, v.countBad bad)
  else
    let v := u.forAll adds (fun s x => s.setSlot x.line x.kept)
    let v := v.forAll (adds.filter (fun x => x.data.isNone && decide (64 * x.line < 2 ^ 40)))
      (fun s x => s.count (chReg (channelOf (64 * x.line)) 0x20))
    (stDataErr, v.countBad bad)

/-- An integer RED: elements added modulo their size on every line not in error (R91, R110). -/
def State.addInts (s : State) (z a : Nat) (pay : List Byte) : BitVec 5 × State :=
  let ls := linesOf a pay.length
  let bad := ls.filter s.lineBad
  let t := s.forAll ls (fun s l =>
    if bad.contains l then s
    else
      let p := span a pay.length l
      let xs := elems z ((pay.drop (p.1 - a)).take (p.2 - p.1))
      let new := (List.range xs.length).flatMap (fun i => leBytes z (s.num (p.1 + i * z) z + xs.getD i 0))
      ((s.dropSlot l).setBytes p.1 new).burst l true true)
  if bad.isEmpty then (stOk, t) else (stDataErr, t.countBad bad)

/-- Store into an inbox window: FULL bits set, overwrites counted, and a receive that waits completed (R267, R268). -/
def State.storeInbox (s : State) (desk off : Nat) (data : List Byte) : State :=
  let words := (List.range 8).filter (fun i => decide (8 * i < off + data.length) && decide (off < 8 * i + 8))
  let x := s.desk desk
  let cover := (words.filter (fun i => x.full.getLsbD i)).length
  let mask : BitVec 8 := words.foldl (fun m i => m ||| BitVec.ofNat 8 (2 ^ i)) 0
  let t := if cover = 0 then s else s.addReg (roomReg (roomOf desk) crInboxOvw) cover
  ((t.setDesk desk { x with full := x.full ||| mask }).setBytes (inboxBase desk + off) data).rcvWake desk

/-- Open a sealed record and store its plaintext (R554). -/
def State.storeRecord (s : State) (a : Nat) (f : Frame) : BitVec 5 × State :=
  match s.sealOver a 1 with
  | none => (stSealed, s)
  | some i =>
    let e := s.sealEntry i
    let d := f.payload.length - 32
    let l := rLocker + 8 * e.2.2.2.1
    let kb := tget (fun _ => []) s.sec.keys e.2.2.2.1
    let ok := (s.reg l).getLsbD 63 && decide (fget (s.reg l) 32 10 = e.2.2.1)
    match (if ok then Config.gcmOpen kb (f.payload.take 12) (leBytes 8 a ++ leBytes 2 d) ((f.payload.drop 16).take d)
             (f.payload.drop (16 + d)) else none) with
    | some plain =>
      if plain.length = d then s.storeMem a plain else (stSealed, s.count rAuthFail)
    | none => (stSealed, s.count rAuthFail)

/-- Perform an admitted request to memory at one instant: status, response data, state (R85 to R97, R110). -/
def State.performMem (s : State) (r : Req) (upset : Int) (cover : List (Nat × List Byte)) : BitVec 5 × List Byte × State :=
  let a := Req.off r
  let n := Req.len r
  let op := Req.op r
  let f := r.f
  let badRead := (Req.lines r).filter (fun l => s.lineBad l && !cover.any (fun x => x.1 = l))
  if isLd op then
    let t := s.forAll (Req.lines r) (fun s l => s.burst l true false)
    if badRead.isEmpty then (stOk, t.readOver cover a n, t) else (stDataErr, [], t.countBad badRead)
  else if s.isRecord r then let x := s.storeRecord a f; (x.1, [], x.2)
  else if isStore op then
    match s.whereIs a with
    | .inbox d o => (stOk, [], s.storeInbox d o f.payload)
    | _ => let x := s.storeMem a f.payload; (x.1, [], x.2)
  else if isRed op then
    match typeFmt (op % 16) with
    | some fmt => let x := s.addSlots (op % 16) fmt a f.payload upset; (x.1, [], x.2)
    | none => let x := s.addInts (typeSize (op % 16)) a f.payload; (x.1, [], x.2)
  else
    let z := operandSize op
    let old := s.bytes a z
    if !badRead.isEmpty then (stDataErr, [], s.countBad badRead)
    else if s.slotted op then
      match typeFmt (op % 16) with
      | some fmt => let x := s.addSlots (op % 16) fmt a f.payload upset; (x.1, if x.1 = 0 then old else [], x.2)
      | none => (stDataErr, [], s)
    else
      let new := leBytes z (atomicNew op (leNat old) f.payload)
      let t := (s.forAll (Req.lines r) (fun s l => (s.dropSlot l).burst l true true)).setBytes a new
      (stOk, old, t)

/-! ### The directory and its transactions (R138 to R163) -/

def dirDefault (_ : Nat) : Dir := {}
def State.dirOf (s : State) (line : Nat) : Dir := tget dirDefault s.coh.dir line
def State.setDir (s : State) (line : Nat) (d : Dir) : State := { s with coh := { s.coh with dir := tput dirDefault s.coh.dir line d } }
/-- Number of the Satchel from which a line was lost, plus 1 (R162). -/
def State.lostFrom (s : State) (line : Nat) : Nat := tget (fun _ => 0) s.coh.lost line
/-- The line is in HS (R142). -/
def State.inHs (s : State) (line : Nat) : Bool := s.coh.trans.any (fun t => t.lines.contains line)
/-- Sharers of a line, by port. -/
def Dir.ports (d : Dir) : List Nat := (List.range 64).filter (fun p => d.sharers.getLsbD p)

/-- State after a sharer or owner goes. -/
def Dir.without (d : Dir) (p : Nat) : Dir :=
  let sh := d.sharers &&& ~~~(BitVec.ofNat 64 (2 ^ p))
  if (d.kind = .ex ∨ d.kind = .ow) ∧ d.owner = p then (if sh = 0 then {} else { kind := .sh, sharers := sh })
  else if d.kind = .sh then (if sh = 0 then {} else { d with sharers := sh })
  else { d with sharers := sh }
/-- The Satchels that the home lists for a line. -/
def Dir.lists (d : Dir) (p : Nat) : Bool :=
  ((d.kind = .ex || d.kind = .ow) && d.owner = p) || ((d.kind = .sh || d.kind = .ow) && d.sharers.getLsbD p)

/-- Send a snoop or FLUSH to the DEP-7 on an electrical port (R143, R145). -/
def State.sendSnoop (s : State) (op : Nat) (line p : Nat) : State :=
  let f : Frame := { blankFrame with
    part := BitVec.ofNat 6 ((s.portPart p).getD 0), dst := BitVec.ofNat 12 (s.epF p eNode 0 12), src := s.node,
    opcode := BitVec.ofNat 8 op, vc := 3, hopCount := 1, hopPtr := 1,
    fpa := BitVec.ofNat 56 (s.node.toNat * 2 ^ 44 + 64 * line), route := routeByte0 (BitVec.ofNat 8 p) }
  if s.portUp p then s.admitFrame (136 + s.node.toNat % 2) p (Frame.sealed f) else s

/-- Snoops that an access of R152 sends for a line: opcode and ports. -/
def accessSnoops (ld : Bool) (d : Dir) : List (Nat × Nat) :=
  if ld then (match d.kind with
    | .ex => [(0x6A, d.owner)]
    | .ow => [(0x6A, d.owner)]
    | _ => [])
  else match d.kind with
    | .u => []
    | .sh => (Dir.ports d).map (fun p => (0x69, p))
    | .ex => [(0x69, d.owner)]
    | .ow => (d.owner :: (Dir.ports d).filter (· ≠ d.owner)).map (fun p => (0x69, p))

/-- Start a home transaction: its lines enter HS and the snoops leave together (R142, R145). -/
def State.beginTrans (s : State) (w : HomeWork) (lines : List Nat) (snoops : List (Nat × Nat × Nat)) : State :=
  let t : Trans := { work := w, lines := lines, pend := snoops.map (fun x => (x.1, x.2.2)), data := [], kept := [],
                     errs := [], lost := false, orphan := false, pokes := [] }
  ({ s with coh := { s.coh with trans := s.coh.trans ++ [t] } }).forAll snoops (fun s x => s.sendSnoop x.2.1 x.1 x.2.2)

/-! ### Answers -/

/-- Answer a request: the reply cache keeps what a best-effort frame was answered (R193). -/
def State.finish (s : State) (r : Req) (status : BitVec 5) (cont : Bool) (data : List Byte) : State :=
  let data := if r.f.opcode = 3 then leBytes 2 (if status = 0 then 0 else 1) else if status = 0 then data else []
  let t := if Req.isFrame r && !Req.timed r then s.remember 0 r.f status data else s
  let t := if status = stRole then
      (match Where.deskOf (s.whereIs (Req.off r)) with
       | some d => (t.count (roomReg (roomOf d) crRoleDrop)).classFault (roomOf d) 2
       | none => t) else t
  t.answerVia r status (if cont then 1 else 0) data

/-- CONT (R161): contention by waiting for HS, or by another requester's atomic or RED within 1,024 SCLK. -/
def State.contended (s : State) (r : Req) (cont : Bool) : Bool :=
  operandSize (Req.op r) > 0 && (cont || (tget (fun _ => []) s.coh.lastAt (Req.off r / 64)).any (fun x =>
    decide (s.now ≤ x.1 + 2048) && decide (x.2 ≠ Req.who r)))
/-- The two latest requesters of atomics and REDs to a line, once a request to it is performed (R161). -/
def State.seenAt (s : State) (r : Req) (line : Nat) : State :=
  let l := (tget (fun _ => []) s.coh.lastAt line).filter (fun x => decide (x.2 ≠ Req.who r))
  { s with coh := { s.coh with lastAt := tput (fun _ => []) s.coh.lastAt line ((s.now, Req.who r) :: l.take 1) } }

/-- Put a line in error for one request, or end that. -/
def State.setBad (s : State) (line : Nat) (b : Bool) : State :=
  { s with g7m := { s.g7m with bad := tput (fun _ => false) s.g7m.bad line b } }
/-- Perform a request and answer it; its atomics and REDs are remembered for CONT. Lines of which a Satchel answered a snoop
with an error count as in error, though the error table may be full (R110, R151, R419). -/
def State.performAnswer (s : State) (r : Req) (upset : Int) (cont : Bool) (cover : List (Nat × List Byte)) (errs : List Nat) : State :=
  let c := s.contended r cont
  let fresh := errs.filter (fun l => !(tget (fun _ => false) s.g7m.bad l))
  let x := (s.forAll fresh (fun s l => s.setBad l true)).performMem r upset cover
  let t := x.2.2.forAll fresh (fun s l => s.setBad l false)
  let t := if Req.timed r then t else t.siteTake r
  let t := if (isRed (Req.op r) || operandSize (Req.op r) > 0) && decide (Req.off r < 2 ^ 40) then
      t.forAll (Req.lines r) (fun s l => s.seenAt r l) else t
  t.finish r x.1 c x.2.1

/-- The status of orders 8 and 10 of R106, or of R339, that a request meets as it is performed. -/
def State.lateRefusal (s : State) (r : Req) : Option (BitVec 5 × Bool) :=
  let ls := if Req.off r < 2 ^ 40 then Req.lines r else []
  if ls.any (fun l => s.lostFrom l ≠ 0) then some (stOwnerLost, false)
  else match s.collRule r with
    | some x => some x
    | none =>
      if s.slotted (Req.op r) && (typeFmt (Req.op r % 16)).isSome && !s.slotsFit (s.whereIs (Req.off r)) (s.slotsNeeded (Req.lines r)) then
        some (stSlotsFull, false)
      else none
/-- A timetabled access has waited for snoops, its own or those of the transaction it met (R157). -/
def State.snoopWaited (s : State) (r : Req) (since : Nat) : State :=
  if Req.timed r ∧ since < s.now then s.addReg rSnoopWait ((s.now - since) / 2) else s
/-- Refuse a request late, or perform it. -/
def State.performLate (s : State) (r : Req) (upset : Int) (cont : Bool) (cover : List (Nat × List Byte)) (errs : List Nat) : State :=
  match s.lateRefusal r with
  | some (st, late) => (if late then s.count rColLate else s).finish r st false []
  | none => s.performAnswer r upset cont cover errs

/-- Serve an admitted request at its home: OWNER_LOST, SLOTS_FULL, snoops, or performed (R106 orders 8 to 12, R152). -/
def State.serveAccess (s : State) (r : Req) (upset : Int) (cont : Bool) (since : Nat) : State :=
  let ls := if Req.off r < 2 ^ 40 then Req.lines r else []
  let snoops := if (s.lateRefusal r).isSome then []
    else ls.flatMap (fun l => (accessSnoops (isLd (Req.op r)) (s.dirOf l)).map (fun x => (l, x.1, x.2)))
  if snoops.isEmpty then (s.snoopWaited r since).performLate r upset cont [] []
  else s.beginTrans (.access r upset cont since) ls snoops

/-- Lines a waiting work item needs. -/
def HomeWork.lines : HomeWork → List Nat
  | .coherence _ f => [f.fpa.toNat % 2 ^ 44 / 64]
  | .access r _ _ _ => Req.lines r
  | .recall => []
/-- What orders a request among others at the home: of a frame its source and class (R111), within the module its Seat or stream
engine (R120). -/
def Req.queue (r : Req) : Nat × Nat :=
  match r.via with
  | .fabric _ => (0, 2 * r.f.src.toNat + (Req.timed r).toNat)
  | .desk d k _ => (1, 4 * DeskId.idx d + k.val)
  | .stream w e => (2, 64 * w.val + e.val)
def HomeWork.queue : HomeWork → Nat × Nat
  | .coherence _ f => (0, 2 * f.src.toNat)
  | .access r _ _ _ => Req.queue r
  | .recall => (3, 0)
/-- A number for the home of an offset within the module: one pooled-memory channel, one Blackboard, one Slate (R120). -/
def State.homeKey (s : State) (off : Nat) : Nat :=
  match s.whereIs off with
  | .blackboard r _ => 64 + r
  | .slate d _ => 2000 + d
  | .inbox d _ => 400000 + d
  | _ => channelOf off
/-- Homes of `n` bytes of the module. -/
def State.homesOf (s : State) (off n : Nat) : List Nat := (linesOf off n).map (fun l => s.homeKey (64 * l))
/-- The homes that work is for: one for all frames of a source (R111, R410). -/
def State.homes (s : State) (w : HomeWork) : List Nat :=
  if (HomeWork.queue w).1 = 0 then [0]
  else match w with
    | .access r _ _ _ => s.homesOf (Req.off r) (Req.len r)
    | _ => []
/-- Work must be performed before later work of its queue to its home (R111, R120). -/
def State.workBefore (s : State) (y w : HomeWork) : Bool :=
  HomeWork.queue y = HomeWork.queue w && (s.homes y).any (fun c => (s.homes w).contains c)
/-- The access reaches its target without the Centroid (R120, R260): its own node, other than the register mirror. -/
def State.inModule (s : State) (f : Frame) : Bool :=
  f.fpa.toNat / 2 ^ 44 = s.node.toNat && (match s.whereIs (f.fpa.toNat % 2 ^ 44) with
    | .mirror _ => f.opcode = 3
    | _ => true)
/-- An access of a Desk's own Blackboard by BBLD or BBST (R306). -/
def Access.isBoard (a : Access) : Bool := a.kind = .bbLoad || a.kind = .bbStore
/-- The access has been translated. -/
def Access.translated (a : Access) : Bool := a.stage = .queued || a.stage = .slot || a.stage = .sent
/-- Two ranges of bytes meet. -/
def bytesMeet (a n b m : Nat) : Bool := decide (a < b + m) && decide (b < a + n)
/-- An earlier access of a Seat is not performed, and its home is one of these; one that still walks counts where it is to the same
bytes (R117, R120). -/
def State.seatHolds (s : State) (desk : Nat) (homes : List Nat) (a b : Access) : Bool :=
  b.result.isNone && (
    if b.isBoard then homes.contains (64 + roomOf desk)
    else if b.kind = .omv then false
    else if b.translated then s.inModule b.f && (s.homesOf (b.f.fpa.toNat % 2 ^ 44) b.f.length.toNat).any (fun c => homes.contains c)
    else bytesMeet a.fva a.f.length.toNat b.fva b.f.length.toNat)
/-- A Seat's access within the module waits for an earlier one of its Seat to the same home (R117, R120, R123). -/
def State.seatBehind (s : State) (w : HomeWork) : Bool :=
  match w with
  | .access r _ _ _ => (match r.via with
    | .desk d k id => (match s.access (DeskId.idx d) k id with
      | some a => ((s.accesses (DeskId.idx d) k).takeWhile (fun b => b.id ≠ id)).any (s.seatHolds (DeskId.idx d) (s.homes w) a)
      | none => false)
    | _ => false)
  | _ => false
/-- A stream engine's access within the module waits for an earlier one of its queue to the same home (R120). -/
def State.streamBehind (s : State) (w : HomeWork) : Bool :=
  match w with
  | .access r _ _ _ => (match r.via with
    | .stream n e =>
      let l := (s.strm n.val e.val).net
      l.contains r.f && (l.takeWhile (fun f => f ≠ r.f)).any (fun f =>
        (s.homesOf (f.fpa.toNat % 2 ^ 44) f.length.toNat).any (fun c => (s.homes w).contains c))
    | _ => false)
  | _ => false
/-- Earlier work of its queue is not yet performed at its home (R111, R117, R120, R410). -/
def State.behind (s : State) (w : HomeWork) : Bool :=
  s.coh.trans.any (fun t => s.workBefore t.work w) || s.coh.waitq.any (fun y => s.workBefore y w) || s.seatBehind w || s.streamBehind w

/-- An access waits: a line in HS, a bank held for another row, or an earlier waiter on its lines or of its queue (R111, R120,
R153, R646). -/
def State.mustWait (s : State) (r : Req) : Bool :=
  s.behind (.access r 0 false 0) || (decide (Req.off r < 2 ^ 40) && ((Req.lines r).any (fun l => s.inHs l || (!Req.timed r && s.heldBank l))
    || s.coh.waitq.any (fun w => (HomeWork.lines w).any (fun l => (Req.lines r).contains l))))

/-- A request that passed R106's orders 1 to 7 at its home: served, or waiting in arrival order. -/
def State.arriveHome (s : State) (r : Req) (upset : Int) : State :=
  if s.mustWait r then
    { s with coh := { s.coh with waitq := s.coh.waitq ++ [.access r upset ((Req.lines r).any s.inHs) s.now] } }
  else s.serveAccess r upset false s.now

/-- The whole of a memory request at its destination, other than a register-mirror access or an MST at its engine. -/
def State.atHome (s : State) (r : Req) (upset : Int) : State :=
  match s.refusal r with
  | some st => s.finish r st false []
  | none => s.arriveHome r upset

/-- Sequence check and reply cache around a request (R192, R193): `k` performs an accepted one. An answer given again carries flags
0 (DESIGN CHOICE, log 84). -/
def State.checked (s : State) (r : Req) (k : State → State) : State :=
  if Req.isFrame r && !Req.timed r then
    match s.seqCheck 0 r.f with
    | (.drop, t) => t
    | (.accept, t) => k t
    | (.replay y, t) =>
      if isLd (Req.op r) ∧ y.status = 0 then
        k { t with fab := { t.fab with replies := t.fab.replies.filter (· ≠ y) } }
      else t.answerVia r y.status 0 y.data
  else k s

end Sys2Proof.Machine
end

