-- ==== Sys2Proof/Machine/Coherence.lean ====
section
/-! DEFINITION. The home side of Homeroom coherence: requests of member DEP-7s, snoop responses, retries and
reservations, lost lines and leaving (R133 to R168, R622). -/

namespace Sys2Proof.Machine

/-- Bit p of COH.MEMBERS (R133). -/
def State.isMember (s : State) (p : Nat) : Bool := s.regBit rCohMembers p

/-- Response of the home to a coherence request: it leaves from a home port, and the reply cache keeps its status. -/
def State.cohAnswer (s : State) (f : Frame) (status : BitVec 5) (flags : BitVec 3) (data : List Byte) : State :=
  (s.remember 0 f status []).sendRouted (136 + f.src.toNat % 2) false (responseTo s.node f status flags data)

/-- The line lies in a no-cache window, or COH.CTL.EN is 0 (R136, R622). -/
def State.noCache (s : State) (a : Nat) : Bool :=
  !s.regBit rCohCtl 0 || (List.range 8).any (fun i =>
    let w := s.reg (rNcWin + 8 * i)
    w.getLsbD 63 && decide (fget w 0 19 ≤ a / 2 ^ 21) && decide (a / 2 ^ 21 ≤ fget w 32 19))

/-- Line that a coherence frame names. -/
def lineOf (f : Frame) : Nat := f.fpa.toNat % 2 ^ 44 / 64

/-- Status that a coherence request meets before its line's state (R106, R133, R134). -/
def State.cohRefusal (s : State) (p : Nat) (f : Frame) : Option (BitVec 5) :=
  let a := f.fpa.toNat % 2 ^ 44
  let w := s.whereIs a
  if s.isFenced w (a / 64 * 64) 64 then some stFenced
  else if w = .hole then some stUnmapped
  else if w ≠ .general ∨ !s.isMember p then some stPerm
  else if (s.sealOver (a / 64 * 64) 64).isSome then some stSealed
  else none

/-! ### Retry and reservation (R154 to R156) -/

/-- A reservation blocks a DEP-7's request to a stable line (R155). Where a line has two, each holder passes (DESIGN CHOICE,
log 77). -/
def State.rsvBlocks (s : State) (line : Nat) (n : BitVec 12) : Bool :=
  s.coh.rsv.any (fun r => r.line = line && r.armed.isSome) && !s.coh.rsv.any (fun r => r.line = line && r.node = n)

/-- Answer RETRY, granting a reservation with the 16th or the first later one that finds an entry free (R155, R156). -/
def State.answerRetry (s : State) (p : Nat) (f : Frame) : State :=
  let l := lineOf f
  let k := 64 * l + p
  let n := tget (fun _ => 0) s.coh.retries k + 1
  let u := channelOf (64 * l)
  let grant := decide (16 ≤ n) && !s.coh.rsv.any (fun r => r.line = l && r.node = f.src)
    && decide ((s.coh.rsv.filter (fun r => r.unit = u)).length < 16)
  let t := { s with coh := { s.coh with
    retries := tput (fun _ => 0) s.coh.retries k n
    rsv := if grant then s.coh.rsv ++ [({ unit := u, line := l, node := f.src, armed := if s.inHs l then none else some s.now } : Rsv)] else s.coh.rsv } }
  let t := t.count rRetryCount
  let t := if grant then t.count rRsvGranted else t
  t.cohAnswer f stRetry (if grant then 4 else 0) []

/-- The RETRYs of one request cease to count: it has ended (R155). -/
def State.clearRetries (s : State) (line p : Nat) : State :=
  { s with coh := { s.coh with retries := tput (fun _ => 0) s.coh.retries (64 * line + p) 0 } }
/-- A DEP-7's request is served: its retry count and its reservation end (R154, R155). -/
def State.served (s : State) (p : Nat) (f : Frame) : State :=
  let t := s.clearRetries (lineOf f) p
  { t with coh := { t.coh with rsv := t.coh.rsv.filter (fun r => !(r.line = lineOf f && r.node = f.src)) } }
/-- A DEP-7's request ends with a status other than OK and RETRY: its RETRYs no longer count (R155). -/
def State.cohFail (s : State) (p : Nat) (f : Frame) (st : BitVec 5) : State := (s.clearRetries (lineOf f) p).cohAnswer f st 0 []

/-! ### Grants (R148, R151) -/

/-- Grant code of R144. -/
def grantFlags (g : Nat) (withData : Bool) : BitVec 3 := BitVec.ofNat 3 (g + if withData then 4 else 0)

/-- Grant with a line's data from memory: DATA_ERR where the line is in error, with nothing granted (R151); `e` is what the
Satchels then hold. -/
def State.grantMem (s : State) (p : Nat) (f : Frame) (g : Nat) (d e : Dir) : State :=
  let l := lineOf f
  let t := ((s.served p f).burst l true false).chanTake (f.src.toNat % 2) l
  if t.lineBad l then ((t.countBad [l]).setDir l e).cohAnswer f stDataErr 0 []
  else (t.setDir l d).cohAnswer f stOk (grantFlags g true) (t.bytes (64 * l) 64)

/-- Grant with data that a snoop response carried. -/
def State.grantData (s : State) (p : Nat) (f : Frame) (g : Nat) (d : Dir) (data : List Byte) : State :=
  (((s.served p f).setDir (lineOf f) d)).cohAnswer f stOk (grantFlags g true) data

/-- Grant M without data to a listed holder (R148). -/
def State.grantBare (s : State) (p : Nat) (f : Frame) : State :=
  ((s.served p f).setDir (lineOf f) { kind := .ex, owner := p }).cohAnswer f stOk (grantFlags 3 false) []

/-- The directory entry of a line with one more sharer. -/
def Dir.share (d : Dir) (p : Nat) : Dir :=
  { d with kind := (if d.kind = .ow then .ow else .sh), sharers := d.sharers ||| BitVec.ofNat 64 (2 ^ p) }

/-- Whether the request asks for ownership, and whether it may be granted without data (R148, R149). -/
def upgOk (d : Dir) (p : Nat) : Bool := (d.kind = .sh || d.kind = .ow) && Dir.lists d p

/-- An UPG from a listed holder; any other is served as an RDX (R149). -/
def isUpg (op : Nat) (d : Dir) (p : Nat) : Bool := op = 0x62 && upgOk d p
/-- Snoops of a coherence request: opcode and ports (R136, R148). -/
def cohSnoops (op p : Nat) (noc : Bool) (d : Dir) : List (Nat × Nat) :=
  if isUpg op d p then (accessSnoops false d).filter (fun x => x.2 ≠ p)
  else if noc then accessSnoops true d
  else if op = 0x60 then (match d.kind with
    | .ex => [(0x68, d.owner)]
    | .ow => [(0x68, d.owner)]
    | _ => [])
  else accessSnoops false d

/-- Grant once no snoop is outstanding, with the data snoop responses carried (R148). -/
def State.grantCoh (s : State) (p : Nat) (f : Frame) (got : Option (List Byte)) : State :=
  let l := lineOf f
  let op := f.opcode.toNat
  let d := s.dirOf l
  let mine : Dir := { kind := .ex, owner := p }
  let send := fun (g : Nat) (d' e : Dir) => match got with
    | some x => s.grantData p f g d' x
    | none => s.grantMem p f g d' e
  if isUpg op d p then s.grantBare p f
  else if s.noCache (64 * l) then send 0 d d
  else if op = 0x60 then
    (match d.kind with
     | .u => send 2 mine {}
     | .sh => send 1 (Dir.share d p) d
     | .ex => if got.isSome then send 1 (Dir.share { d with kind := .ow } p) d
              else let y : Dir := { kind := .sh, sharers := BitVec.ofNat 64 (2 ^ d.owner) }
                   send 1 (Dir.share y p) y
     | .ow => send 1 (Dir.share d p) d)
  else send 3 mine {}

/-- RDS, RDX or UPG at the home (R111, R148, R149, R151, R155). -/
def State.cohRequest (s : State) (p : Nat) (f : Frame) : State :=
  match s.cohRefusal p f with
  | some st => s.cohFail p f st
  | none =>
    let l := lineOf f
    if s.behind (.coherence p f) then { s with coh := { s.coh with waitq := s.coh.waitq ++ [.coherence p f] } }
    else if s.lostFrom l ≠ 0 then s.cohFail p f stOwnerLost
    else if s.inHs l || s.rsvBlocks l f.src then s.answerRetry p f
    else
      let sn := cohSnoops f.opcode.toNat p (s.noCache (64 * l)) (s.dirOf l)
      if sn.isEmpty then s.grantCoh p f none
      else s.beginTrans (.coherence p f) [l] (sn.map (fun x => (l, x.1, x.2)))

/-! ### Write-backs (R150) -/

/-- Write a whole line that a Satchel returns: slots released, errors healed (R96, R110). -/
def State.writeBack (s : State) (line : Nat) (data : List Byte) : State :=
  if data.length = 64 then (s.storeLine (64 * line) data line).burst line false true else s

/-- Serve a PUT on a stable line (R150, R163). -/
def State.servePut (s : State) (p : Nat) (f : Frame) : State :=
  let l := lineOf f
  if s.lostFrom l ≠ 0 then s.cohAnswer f stOwnerLost 0 []
  else
  let d := s.dirOf l
  let op := f.opcode.toNat
  let owner := (d.kind = .ex || d.kind = .ow) && d.owner = p
  let t :=
    if !Dir.lists d p then s
    else if op = 0x65 then (if owner ∧ d.kind = .ow then s else s.setDir l (Dir.without d p))
    else if owner then (s.writeBack l f.payload).setDir l (Dir.without d p)
    else s
  t.cohAnswer f stOk 0 []

/-- PUTM, PUTO or PUTC at the home: never RETRY; it waits while its line is in HS (R150). -/
def State.cohPut (s : State) (p : Nat) (f : Frame) : State :=
  match s.cohRefusal p f with
  | some st => s.cohAnswer f st 0 []
  | none =>
    if s.inHs (lineOf f) || s.behind (.coherence p f) then { s with coh := { s.coh with waitq := s.coh.waitq ++ [.coherence p f] } }
    else s.servePut p f

/-! ### The end of a transaction -/

/-- A transaction's lines are stable: reservations on them start to run (R142, R155). -/
def State.stableNow (s : State) (lines : List Nat) : State :=
  { s with coh := { s.coh with rsv := s.coh.rsv.map (fun (r : Rsv) => if lines.contains r.line ∧ r.armed = none then { r with armed := some s.now } else r) } }

/-- A line's snooped data under the stores that the module's own units have made to it since (R113). -/
def pokedLine (pokes : List (Nat × List Byte)) (line : Nat) (data : List Byte) : List Byte :=
  pokes.foldl (fun x y => (List.range x.length).map (fun i =>
    if y.1 ≤ 64 * line + i ∧ 64 * line + i < y.1 + y.2.length then y.2.getD (64 * line + i - y.1) 0 else x.getD i 0)) data
/-- The data of a transaction's lines. -/
def Trans.lineData (t : Trans) : List (Nat × List Byte) := t.data.map (fun x => (x.1, pokedLine t.pokes x.1 x.2))
/-- Write back the data that snoops returned (R107, R152). -/
def State.writeBacks (s : State) (l : List (Nat × List Byte)) : State := s.forAll l (fun s x => s.writeBack x.1 x.2)
/-- The grant to a member whose Satchel was lost meanwhile: the line is not listed for it, and data it was to own goes to memory
(R162). -/
def State.grantLost (s : State) (p : Nat) (f : Frame) (got : Option (List Byte)) : State :=
  let t := s.grantCoh p f got
  let d := Dir.without (t.dirOf (lineOf f)) p
  let u := t.setDir (lineOf f) d
  match got with
  | some x => if d.kind = .ow then u else u.writeBack (lineOf f) x
  | none => u

/-- Every snoop of a transaction is answered: its request completes (R93, R107, R148, R151, R152, R157, R162). -/
def State.endTrans (s : State) (t : Trans) : State :=
  let s := ({ s with coh := { s.coh with trans := s.coh.trans.filter (· ≠ t) } }).stableNow t.lines
  let data := Trans.lineData t
  match t.work with
  | .coherence p f =>
    let l := lineOf f
    let got := (data.find? (fun x => x.1 = l)).map Prod.snd
    let s := if t.lost ∨ t.errs ≠ [] then (if f.opcode = 0x60 then s else s.writeBacks data) else s
    if t.lost then s.cohFail p f stOwnerLost
    else if t.errs ≠ [] then s.cohFail p f stDataErr
    else if t.orphan then s.grantLost p f got
    else s.grantCoh p f got
  | .access r upset cont since =>
    let s := s.snoopWaited r since
    if isLd (Req.op r) then
      (if t.lost then s.finish r stOwnerLost false [] else s.performLate r upset cont data t.errs)
    else
      let s := (s.writeBacks data).forAll t.lines (fun s l => if s.lostFrom l ≠ 0 then s else s.setDir l {})
      if t.lost then s.finish r stOwnerLost false [] else s.performLate r upset cont [] t.errs
  | .recall => (s.writeBacks data).forAll t.lines (fun s l => s.setDir l {})

/-- A snoop response at the home (R145, R151): a Satchel that has answered an SNPI, or met an error, is no longer listed. -/
def State.snoopAnswered (s : State) (p : Nat) (f : Frame) : State :=
  let l := lineOf f
  match s.coh.trans.find? (fun t => t.pend.contains (l, p)) with
  | none => s
  | some t =>
    let bad := f.status = stDataErr
    let s := if bad then s.markBad l else s
    let s := if bad ∨ f.opcode = 0xE9 then s.setDir l (Dir.without (s.dirOf l) p) else s
    let t' := { t with
      pend := t.pend.filter (· ≠ (l, p))
      data := if f.flags.getLsbD 2 ∧ f.payload.length = 64 ∧ ¬ bad then t.data ++ [(l, f.payload)] else t.data
      kept := t.kept ++ [(p, f.flags.toNat % 4)]
      errs := if bad then t.errs ++ [l] else t.errs }
    let s := { s with coh := { s.coh with trans := s.coh.trans.map (fun x => if x = t then t' else x) } }
    if t'.pend.isEmpty then s.endTrans t' else s

/-- Serve the waiting requests that need wait no longer, in arrival order (R111, R120, R150, R153, R646); one to the register
mirror is served with the mirror. -/
def State.runWaiting (s : State) : State :=
  let l := s.coh.waitq
  ({ s with coh := { s.coh with waitq := [] } }).forAll l (fun s w =>
    let keep := { s with coh := { s.coh with waitq := s.coh.waitq ++ [w] } }
    let blocked := (HomeWork.lines w).any s.inHs || s.behind w || s.coh.waitq.any (fun y => (HomeWork.lines y).any (fun a => (HomeWork.lines w).contains a))
    if blocked then keep
    else match w with
      | .coherence q f => if f.opcode.toNat ≤ 0x62 then s.cohRequest q f else s.servePut q f
      | .access r upset cont since =>
        (match s.whereIs (Req.off r) with
         | .mirror _ => keep
         | _ => if s.mustWait r then keep else s.serveAccess r upset cont since)
      | .recall => s)

/-! ### Lost Satchels (R162 to R165) -/

/-- Append a line to the lost-line log (R163). -/
def State.logLost (s : State) (line : Nat) : State :=
  (s.ringPut rLostLogPtr 65536 (s.reg rLostLogBase).toNat (leBytes 8 (s.node.toNat * 2 ^ 44 + 64 * line))).getD
    (s.setRegBit rCohStatus 1 true)

/-- Mark a line LOST and log it (R163). Its other sharers leave the duplicate tags with it, as it returns to U (R164; DESIGN
CHOICE, log 77). -/
def State.markLost (s : State) (p line : Nat) : State :=
  ({ s with coh := { s.coh with
    lost := tput (fun _ => 0) s.coh.lost line (p + 1)
    dir := tput dirDefault s.coh.dir line {} } }).logLost line

/-- A member's Satchel is lost: every duplicate-tag entry and every outstanding snoop of it (R162). An orderly leave of it has
ended (DESIGN CHOICE, log 77). -/
def State.loseSatchel (s : State) (p : Nat) : State :=
  let leaves := s.coh.leaving.getLsbD p
  let owned := s.coh.dir.filter (fun e => (e.2.kind = .ex || e.2.kind = .ow) && e.2.owner = p)
  let held := s.coh.dir.filter (fun e => Dir.lists e.2 p)
  let hit := s.coh.trans.filter (fun t => t.pend.any (fun x => x.2 = p))
  let s := s.forAll held (fun s e => s.setDir e.1 (Dir.without e.2 p))
  let s := s.forAll owned (fun s e => s.markLost p e.1)
  let s := if owned.isEmpty then s else s.raise 5
  let upd := fun (t : Trans) => { t with
    pend := t.pend.filter (fun x => x.2 ≠ p)
    lost := t.lost || t.pend.any (fun x => x.2 = p && owned.any (fun e => e.1 = x.1))
    orphan := t.orphan || (match t.work with
      | .coherence q _ => decide (q = p)
      | _ => false) }
  let s := { s with coh := { s.coh with
    trans := s.coh.trans.map upd
    flushes := s.coh.flushes &&& ~~~(BitVec.ofNat 64 (2 ^ p))
    leaving := s.coh.leaving &&& ~~~(BitVec.ofNat 64 (2 ^ p)) } }
  let s := if leaves then s.setRegBit rCohStatus 0 (decide (s.coh.leaving ≠ 0)) else s
  s.forAll (hit.map upd) (fun s t => if t.pend.isEmpty then s.endTrans t else s)

/-- Release one lost line: it returns to U (R164). -/
def State.releaseLine (s : State) (line : Nat) : State :=
  { s with coh := { s.coh with lost := tput (fun _ => 0) s.coh.lost line 0 } }

/-- An orderly leave has ended: the member's bit reads 0 (R167). -/
def State.leaveDone (s : State) (p : Nat) : State :=
  let m := BitVec.ofNat 64 (2 ^ p)
  if s.coh.leaving &&& m ≠ 0 then
    let t := { s with coh := { s.coh with leaving := s.coh.leaving &&& ~~~m } }
    let t := t.setRegBit rCohMembers p false
    t.setRegBit rCohStatus 0 (decide (t.coh.leaving ≠ 0))
  else s

/-- Send FLUSH to a member (R167, R168). -/
def State.sendFlush (s : State) (p : Nat) : State :=
  ({ s with coh := { s.coh with flushes := s.coh.flushes ||| BitVec.ofNat 64 (2 ^ p) } }).sendSnoop 0x6B 0 p

/-- COH.MEMBERS as written: a bit set joins, a bit cleared starts an orderly leave (R133, R167). -/
def State.writeMembers (s : State) (v : Word) : State :=
  let old := s.reg rCohMembers
  let going := old &&& ~~~v
  let t := s.setReg rCohMembers (old ||| v)
  let t := { t with coh := { t.coh with leaving := t.coh.leaving ||| going } }
  let t := if going ≠ 0 then t.setRegBit rCohStatus 0 true else t
  t.forAll ((List.range 64).filter (fun p => going.getLsbD p)) (fun s p => if s.coh.flushes.getLsbD p then s else s.sendFlush p)

/-! ### Meanings -/

/-- A coherence request of a member under the sequence check (R191, R192). -/
def State.cohChecked (s : State) (f : Frame) (k : State → State) : State :=
  match s.seqCheck 0 f with
  | (.drop, t) => t
  | (.accept, t) => k t
  | (.replay y, t) => t.sendRouted (136 + f.src.toNat % 2) false (responseTo s.node f y.status 0 [])

/-- RDS (R148). -/
def execRds (p : Fin 64) (f : Frame) (s : State) : Host.Outcome State Fault Refusal :=
  .next (s.cohChecked { f with opcode := 0x60 } (fun t => t.cohRequest p.val { f with opcode := 0x60 }))
/-- RDX (R148). -/
def execRdx (p : Fin 64) (f : Frame) (s : State) : Host.Outcome State Fault Refusal :=
  .next (s.cohChecked { f with opcode := 0x61 } (fun t => t.cohRequest p.val { f with opcode := 0x61 }))
/-- UPG (R148, R149). -/
def execUpg (p : Fin 64) (f : Frame) (s : State) : Host.Outcome State Fault Refusal :=
  .next (s.cohChecked { f with opcode := 0x62 } (fun t => t.cohRequest p.val { f with opcode := 0x62 }))
/-- PUTM (R150). -/
def execPutm (p : Fin 64) (f : Frame) (s : State) : Host.Outcome State Fault Refusal :=
  .next (s.cohChecked { f with opcode := 0x63 } (fun t => t.cohPut p.val { f with opcode := 0x63 }))
/-- PUTO (R150). -/
def execPuto (p : Fin 64) (f : Frame) (s : State) : Host.Outcome State Fault Refusal :=
  .next (s.cohChecked { f with opcode := 0x64 } (fun t => t.cohPut p.val { f with opcode := 0x64 }))
/-- PUTC (R150). -/
def execPutc (p : Fin 64) (f : Frame) (s : State) : Host.Outcome State Fault Refusal :=
  .next (s.cohChecked { f with opcode := 0x65 } (fun t => t.cohPut p.val { f with opcode := 0x65 }))
/-- The tick since which the 4,096 SCLK of a line's oldest reservation have run. -/
def State.rsvOldest (s : State) (line : Nat) : Option Nat :=
  s.coh.rsv.foldl (fun m r => if r.line = line then (match m, r.armed with
    | some a, some b => some (min a b)
    | none, x => x
    | x, none => x) else m) none
/-- RESERVATION_EXPIRY (R155): the reservation of a line whose 4,096 SCLK have run ends and is counted: the one armed first. -/
def execReservationExpiry (line : Nat) (s : State) : Host.Outcome State Fault Refusal :=
  let ran := fun (r : Rsv) => r.line = line && r.armed.isSome && decide (r.armed = s.rsvOldest line)
  let gone := s.coh.rsv.filter ran
  .next (({ s with coh := { s.coh with rsv := s.coh.rsv.filter (fun r => !ran r) } }).addReg rRsvExpired gone.length)
/-- COH_MEMBERS_WRITE (R133, R167). -/
def execCohMembersWrite (v : BitVec 64) (s : State) : Host.Outcome State Fault Refusal := .next (s.bar0 (fun s => s.writeMembers v))
/-- FLUSH_RESPONSE (R167, R168): while the memory domain is fenced, the member has dropped its lines without write-back. -/
def execFlushResponse (p : Fin 64) (_ : Frame) (s : State) : Host.Outcome State Fault Refusal :=
  let s := if s.fenced 2 then
      s.forAll (s.coh.dir.filter (fun e => Dir.lists e.2 p.val)) (fun s e => s.setDir e.1 (Dir.without e.2 p.val))
    else s
  .next (({ s with coh := { s.coh with flushes := s.coh.flushes &&& ~~~(BitVec.ofNat 64 (2 ^ p.val)) } }).leaveDone p.val)
/-- COH.LINE_RELEASE as written: the line of an FPA of this module. -/
def State.lineRelease (s : State) (v : Word) : State :=
  if v.toNat / 2 ^ 44 % 2 ^ 12 = s.node.toNat then s.releaseLine (v.toNat % 2 ^ 44 / 64) else s
/-- COH.PORT_RELEASE as written: every line lost from a port. -/
def State.portRelease (s : State) (v : Word) : State :=
  { s with coh := { s.coh with lost := s.coh.lost.filter (fun e => e.2 ≠ v.toNat % 64 + 1) } }
/-- COH_LINE_RELEASE (R164): the line of an FPA returns to U. -/
def execCohLineRelease (v : BitVec 64) (s : State) : Host.Outcome State Fault Refusal := .next (s.bar0 (fun s => s.lineRelease v))
/-- COH_PORT_RELEASE (R164): every line lost from a port returns to U. -/
def execCohPortRelease (v : BitVec 64) (s : State) : Host.Outcome State Fault Refusal := .next (s.bar0 (fun s => s.portRelease v))

end Sys2Proof.Machine
end

