-- ==== Sys2Proof/Machine/Xlate.lean ====
section
/-! DEFINITION. Two-stage translation: page formats, the table window, walks, the translation caches, fault records
and invalidation (R368 to R385, R392 to R396, R402 to R405, R620). -/

namespace Sys2Proof.Machine

/-! ### Reads and writes that units of the module make in pooled memory -/

/-- What the Satchel of an owner holds of a line, where it is newer than memory (R140, R141). -/
def State.ownerData (s : State) (line : Nat) : Option (List Byte) :=
  let d := s.dirOf line
  if d.kind = .ex ∨ d.kind = .ow then
    let x := tget (fun _ => ({} : SatLine)) (s.dep d.owner).sat line
    if x.st = .m ∨ x.st = .o ∨ x.st = .om ∨ x.st = .wb then some x.data else none
  else none
/-- Bytes as a non-caching agent of the module reads them (R152). -/
def State.peek (s : State) (a n : Nat) : List Byte :=
  if s.coh.dir.isEmpty then s.bytes a n
  else s.readOver ((linesOf a n).filterMap (fun l => (s.ownerData l).map (fun x => (l, x)))) a n
/-- A little-endian number so read. -/
def State.peekNum (s : State) (a n : Nat) : Nat := leNat (s.peek a n)
/-- A line so read meets an error. -/
def State.peekBad (s : State) (a n : Nat) : Bool := (linesOf a n).any s.lineBad
/-- Take every Satchel copy of a line away, its data merged into memory (R152). -/
def State.takeLine (s : State) (line : Nat) : State :=
  let d := s.dirOf line
  if d.kind = .u then s
  else
    let t := match s.ownerData line with
      | some x => s.writeBack line x
      | none => s
    let ports := (List.range 64).filter (fun p => Dir.lists d p)
    (t.forAll ports (fun s p => s.setDep p { s.dep p with sat := tput (fun _ => ({} : SatLine)) (s.dep p).sat line {} })).setDir line {}
/-- Home transactions in progress learn of a unit's store to their lines: it stands over the older data of their snoops (R113). -/
def State.tellTrans (s : State) (a : Nat) (d : List Byte) : State :=
  { s with coh := { s.coh with trans := s.coh.trans.map (fun (t : Trans) =>
      if (linesOf a d.length).any t.lines.contains then { t with pokes := t.pokes ++ [(a, d)] } else t) } }
/-- A store of a unit of the module (R96, R110, R113, R152). -/
def State.poke (s : State) (a : Nat) (d : List Byte) : State :=
  (((s.forAll (linesOf a d.length) (fun s l => s.takeLine l)).tellTrans a d).storeMem a d).2

/-! ### Page formats (R369, R371, R372) -/

/-- XLT.PFD fields. -/
structure Pfd where
  xPos   : Nat
  xSense : Bool
  ncPos  : Nat
  ncEn   : Bool
  extLo  : Nat
  extW   : Nat
  aHi    : Nat
  psPos  : Nat
  wPos   : Nat
  pPos   : Nat
  five   : Bool
  valid  : Bool
deriving DecidableEq, Repr

/-- Decode a descriptor (R371). -/
def pfdOf (w : Word) : Pfd :=
  { xPos := fget w 54 6, xSense := w.getLsbD 53, ncPos := fget w 47 6, ncEn := w.getLsbD 46, extLo := fget w 40 6,
    extW := fget w 36 4, aHi := fget w 30 6, psPos := fget w 24 6, wPos := fget w 18 6, pPos := fget w 12 6,
    five := w.getLsbD 8, valid := w.getLsbD 0 }

/-- Levels of a format's tables. -/
def Pfd.top (d : Pfd) : Nat := if d.five then 5 else 4
/-- Table index at level n (R369). -/
def tableIndex (va n : Nat) : Nat := va / 2 ^ (9 * n + 3) % 512
/-- The address an entry yields (R372). -/
def Pfd.addr (d : Pfd) (e : Word) : Nat :=
  fget e 12 (d.aHi - 11) * 2 ^ 12 + fget e d.extLo d.extW * 2 ^ (d.aHi + 1)
/-- Log2 of the page size of a leaf at level n (R369). -/
def leafBits (n : Nat) : Nat := 12 + 9 * (n - 1)
/-- Bits that a descriptor's fields occupy, with repetitions (R372). -/
def Pfd.positions (d : Pfd) : List Nat :=
  [d.pPos, d.wPos, d.psPos, d.xPos] ++ (if d.ncEn then [d.ncPos] else []) ++ (List.range d.extW).map (· + d.extLo)
/-- A list without repetitions. -/
def noDup : List Nat → Bool
  | [] => true
  | a :: r => !r.contains a && noDup r
/-- Whether a write of a descriptor is accepted (R372). -/
def pfdOk (w : Word) : Bool :=
  let d := pfdOf w
  !(d.valid && decide (55 < d.aHi + d.extW)) && decide (20 ≤ d.aHi) && noDup d.positions
    && d.positions.all (fun b => decide (b < 12) || decide (d.aHi < b))

/-- Partition of a cohort for translation, and the roots (R375). -/
def State.s1Root (s : State) (c : Nat) : Word := s.reg (rS1Root + 8 * c)
def State.s2Root (s : State) (part : Nat) : Word := s.reg (rS2Root + 8 * part)
/-- Root address of an entry. -/
def rootAddr (w : Word) : Nat := w.toNat / 2 ^ 12 * 2 ^ 12
/-- VALID of a root entry. -/
def rootValid (w : Word) : Bool := w.getLsbD 3

/-! ### Walks (R374 to R381) -/

/-- A failure in the current stage of a walk. -/
def Walk.fail (w : Walk) (status : BitVec 5) (reason level : Nat) : Walk :=
  { w with failed := some { status := status, reason := reason, level := level, stage2 := w.stage2, ia := if w.stage2 then w.va else 0 },
           level := 0 }

/-- Begin a stage at its root. -/
def Walk.begin (w : Walk) (stage2 : Bool) (va : Nat) : Walk :=
  let root := if stage2 then w.root2 else w.root1
  let d := pfdOf (if stage2 then w.pfd2 else w.pfd1)
  let v := { w with stage2 := stage2, va := va, w := true, x := true, table := rootAddr root, level := d.top, got := none, asked := false }
  if !d.valid then v.fail stUnmapped 3 0
  else if 2 ^ (9 * d.top + 12) ≤ va then v.fail stUnmapped 5 0
  else v

/-- Start a walk's translation: roots and descriptors are taken now; a DEP-7's cohort must be of its port's partition (R372, R375,
R522, R620). -/
def State.freshWalk (s : State) (id : Nat) (who : WalkFor) (cohort : BitVec 10) (fva : Nat) (needW needX : Bool) : Walk :=
  let r1 := s.s1Root cohort.toNat
  let r2 := s.s2Root (s.cohortPart cohort.toNat)
  let w : Walk :=
    { id := id, who := who, cohort := cohort, fva := fva, needW := needW, needX := needX, stage2 := false, level := 0, table := 0, va := fva,
      w := true, x := true, w1 := true, x1 := true, nc1 := false, s1 := 12, ia := 0,
      pfd1 := s.reg (rPfd + 8 * (r1.toNat % 8)), pfd2 := s.reg (rPfd + 8 * (r2.toNat % 8)), root1 := r1, root2 := r2,
      done := none, failed := none, since := s.now }
  let foreign := match who with
    | .dep p _ => s.portPart p ≠ some (s.cohortPart cohort.toNat)
    | _ => false
  if !s.regBit rXltCtl 0 || !rootValid r1 || !rootValid r2 || foreign then w.fail stUnmapped 3 0 else w.begin false fva

/-- Put a walk request to the walker: its number and the state. -/
def State.startWalk (s : State) (who : WalkFor) (cohort : BitVec 10) (fva : Nat) (needW needX : Bool) : Nat × State :=
  let id := s.xl.nextId
  let w := s.freshWalk id who cohort fva needW needX
  (id, { s with xl := { s.xl with nextId := id + 1, walks := s.xl.walks ++ [w] } })

/-- A walk begins anew from the root: it keeps its place, and a table read it sent before answers nothing (R381). -/
def State.restartWalk (s : State) (w : Walk) : Walk :=
  { s.freshWalk w.id w.who w.cohort w.fva w.needW w.needX with since := w.since, running := w.running, gen := w.gen + 1 }
/-- A prefetch walk (R380, R391). -/
def Walk.prefetch (w : Walk) : Bool :=
  match w.who with
  | .prefetch _ => true
  | _ => false
/-- The walks that wait to run, in the order in which the walker takes them: demand walks in arrival order, then prefetch walks (R380). -/
def State.walkQueue (s : State) : List Walk :=
  let l := s.xl.walks.filter (fun w => w.level ≠ 0 && !w.running)
  l.filter (fun w => !w.prefetch) ++ l.filter (fun w => w.prefetch)
/-- Whether the walker runs a walk: it does already, or fewer than 64 run and no walk waits ahead of it (R380). -/
def State.walkRuns (s : State) (w : Walk) : Bool :=
  w.running || (decide ((s.xl.walks.filter (fun x => x.running && x.level ≠ 0)).length < 64) && s.walkQueue.head?.map (·.id) = some w.id)

/-- Use an entry in a walk (R375). -/
def Walk.use (w : Walk) (e : Word) : Walk :=
  let d := pfdOf (if w.stage2 then w.pfd2 else w.pfd1)
  let n := w.level
  if !e.getLsbD d.pPos then w.fail stUnmapped 0 n
  else
    let okW := w.w && e.getLsbD d.wPos
    let okX := w.x && (e.getLsbD d.xPos != d.xSense)
    if n = 1 ∨ e.getLsbD d.psPos then
      if 3 < n then w.fail stUnmapped 3 n
      else
        let b := leafBits n
        let base := d.addr e / 2 ^ b * 2 ^ b
        let a := base + w.va % 2 ^ b
        let nc := d.ncEn && e.getLsbD d.ncPos
        if !w.stage2 then ({ w with w1 := okW, x1 := okX, nc1 := nc, s1 := b, ia := a }).begin true a
        else
          let v := { w with level := 0 }
          if w.needW && !(w.w1 && okW) then { v with failed := some { status := stPerm, reason := 1, level := n, stage2 := true, ia := w.ia } }
          else if w.needX && !(w.x1 && okX) then { v with failed := some { status := stPerm, reason := 2, level := n, stage2 := true, ia := w.ia } }
          else
            let sz := min w.s1 b
            { v with done := some { cohort := w.cohort, page := w.fva / 2 ^ sz, size := sz, fpa := a / 2 ^ sz * 2 ^ sz,
                                    ia := w.ia / 2 ^ sz * 2 ^ sz, w := w.w1 && okW, x := w.x1 && okX, nc := w.nc1 || nc, pinned := false } }
    else { w with w := okW, x := okX, level := n - 1, table := d.addr e, got := none, asked := false }

/-- Address of the entry a walk reads next. -/
def Walk.entryAddr (w : Walk) : Nat := w.table + 8 * tableIndex w.va w.level
/-- Owner of a walk-cache entry: its cohort in stage 1, its partition in stage 2. -/
def State.cacheOwner (s : State) (w : Walk) : Nat := if w.stage2 then s.cohortPart w.cohort.toNat else w.cohort.toNat

/-- Replace a walk by its next form. -/
def State.setWalk (s : State) (w : Walk) : State :=
  { s with xl := { s.xl with walks := s.xl.walks.map (fun (x : Walk) => if x.id = w.id then w else x) } }

/-- Advance a walk by one entry, remembering a non-leaf entry in the walk cache (R377). -/
def State.useEntry (s : State) (w : Walk) (e : Word) : State :=
  let v := w.use e
  let k : WalkEntry := { stage2 := w.stage2, owner := s.cacheOwner w, addr := w.entryAddr, entry := e }
  let leaf := v.failed.isSome || v.done.isSome || v.stage2 != w.stage2
  let c := s.xl.cache
  let c := if leaf || c.contains k then c else (if 2048 ≤ c.length then c.drop 1 else c) ++ [k]
  ({ s with xl := { s.xl with cache := c } }).setWalk v

/-- One table read of a walk that runs: from the walk cache, from this module's memory, where the walker is a requester of the
channel's arbiter (R413), or from another module's (R374, R377, R379, R380). -/
def State.walkRead (s : State) (id : Nat) (entry : Option Word) : State :=
  match s.xl.walks.find? (fun w => w.id = id) with
  | none => s
  | some w =>
    if w.level = 0 || !s.walkRuns w then s
    else
      let w := { w with running := true }
      let s := s.setWalk w
      let p := w.entryAddr
      match s.xl.cache.find? (fun k => k.stage2 = w.stage2 && k.owner = s.cacheOwner w && k.addr = p) with
      | some k => s.useEntry w k.entry
      | none =>
        let lo := (s.reg rTblHbase).toNat
        if p < lo ∨ lo + (s.reg rTblLen).toNat ≤ p then s.setWalk (w.fail stUnmapped 4 w.level)
        else
          let fpa := s.regF rTblFpa 0 56 + (p - lo)
          let off := fpa % 2 ^ 44
          if fpa / 2 ^ 44 = s.node.toNat ∧ s.fenced 2 then s
          else if fpa / 2 ^ 44 = s.node.toNat then
            let t := (s.burst (off / 64) true false).chanTake 8 (off / 64)
            if t.peekBad off 8 || t.isFenced (t.whereIs off) off 8 then
              (if t.peekBad off 8 then t.countBad [off / 64] else t).setWalk (w.fail stDataErr 4 w.level)
            else t.useEntry w (BitVec.ofNat 64 (t.peekNum off 8))
          else match w.got with
            | some (st, e) => if st = 0 then s.useEntry w e else s.setWalk (w.fail stDataErr 4 w.level)
            | none =>
              match entry with
              | some e => s.useEntry w e
              | none =>
                if w.asked then s
                else (s.setWalk { w with asked := true }).submit 0 { blankFrame with
                  cohort := w.cohort, part := BitVec.ofNat 6 (s.cohortPart w.cohort.toNat), dst := BitVec.ofNat 12 (fpa / 2 ^ 44),
                  src := s.node, opcode := 1, vc := 1, length := 8, fpa := BitVec.ofNat 56 fpa } (.walk id w.gen)

/-! ### Translation caches (R377, R378) -/

/-- The entry of a TLB that translates an address with the permissions needed (R378). -/
def tlbFind (l : List Tlb) (cohort : BitVec 10) (fva : Nat) (needW needX : Bool) : Option Tlb :=
  l.find? (fun e => e.cohort = cohort && e.page = fva / 2 ^ e.size && (!needW || e.w) && (!needX || e.x))
/-- FPA of an address under an entry. -/
def Tlb.map (e : Tlb) (fva : Nat) : Nat := e.fpa + fva % 2 ^ e.size
/-- Install a translation in a set of `ways` entries, those of `l` that `set` selects: an unpinned entry of the page gives way, and so
does the oldest unpinned one of a full set. Pinned entries are never replaced: where none is unpinned, a pinned entry joins them and
an unpinned one is not kept (R382; log entry 85). -/
def tlbPutIn (ways : Nat) (set : Tlb → Bool) (l : List Tlb) (e : Tlb) : List Tlb :=
  let m := l.filter (fun x => !(x.cohort = e.cohort && x.size = e.size && x.page = e.page && (!x.pinned || e.pinned)))
  let full := m.filter set
  if full.length < ways then m ++ [e]
  else match full.find? (fun x => !x.pinned) with
    | some v => m.erase v ++ [e]
    | none => if e.pinned then m ++ [e] else m
/-- Install a translation in a fully associative TLB of `cap` entries (R377). -/
def tlbPut (cap : Nat) (l : List Tlb) (e : Tlb) : List Tlb := tlbPutIn cap (fun _ => true) l e
/-- The set of a Wing TLB that holds a page: its number's low 10 bits (R377; log entry 85). -/
def Tlb.set (e : Tlb) : Nat := e.page % 1024
/-- Wing TLB: 1,024 sets of 8 (R377). -/
def State.wingTlb (s : State) (w : Nat) : List Tlb := tget (fun _ => []) s.xl.wing w
def State.putWing (s : State) (w : Nat) (e : Tlb) : State :=
  { s with xl := { s.xl with wing := tput (fun _ => []) s.xl.wing w (tlbPutIn 8 (fun x => x.set = e.set) (s.wingTlb w) e) } }
/-- Install in a Classroom's micro-TLB. -/
def State.putMicro (s : State) (room : Nat) (e : Tlb) : State :=
  s.setRoom room { s.room room with tlb := tlbPut 64 (s.room room).tlb e }

/-! ### Fault records (R394 to R396) -/

/-- The fault queue is full (R396, R501). -/
def State.faultFull (s : State) : Bool :=
  decide (s.regF rFltSize 0 17 ≤ (s.reg rFltHead - s.reg rFltTail).toNat) || s.hostFull 32
/-- Write a fault record and raise FAULT; FAULTQ_FULL on a transition to full (R395, R396). -/
def State.postFault (s : State) (r : List Byte) : State :=
  let h := (s.reg rFltHead).toNat
  let n := max 1 (s.regF rFltSize 0 17)
  let rec29 := r.getD 29 0 ||| (if h / n % 2 = 1 then 0x80 else 0)
  let t := s.writeHost ((s.reg rFltBase).toNat + 32 * (h % n)) (r.set 29 rec29)
  let t := (t.setReg rFltHead (s.reg rFltHead + 1)).raise 2
  if t.faultFull then t.raise 3 else t
/-- The bytes of a fault record (R394), PHASE left 0. -/
def faultRecord (fva id tile cohort : Nat) (x : XFault) (dst : Bool) (w e : Nat) (loader : Bool) (token : Nat) : List Byte :=
  leBytes 8 (fva / 4096 * 4096) ++ leBytes 8 (if x.stage2 then x.ia else 0) ++ leBytes 4 id ++ leBytes 4 tile ++ leBytes 2 cohort
    ++ leBytes 1 x.status.toNat ++ leBytes 1 (x.reason + 8 * x.stage2.toNat + 16 * dst.toNat + 32 * x.level)
    ++ leBytes 1 (w + 4 * e) ++ leBytes 1 loader.toNat ++ leBytes 2 token

/-! ### Invalidation (R381, R402, R403) -/

/-- The fields of an INVAL payload (R402). -/
structure Inval where
  start  : Nat
  count  : Nat
  kind   : Nat
  cohort : BitVec 10
  part   : Nat
  ticket : BitVec 32
  gate   : BitVec 12
deriving DecidableEq, Repr

/-- The payload of an INVAL (R402). -/
def Inval.bytes (i : Inval) : List Byte :=
  leBytes 8 i.start ++ leBytes 4 i.count ++ leBytes 1 i.kind ++ leBytes 1 0 ++ leBytes 2 i.cohort.toNat ++ leBytes 1 i.part
    ++ leBytes 3 0 ++ leBytes 4 i.ticket.toNat ++ leBytes 2 i.gate.toNat ++ leBytes 6 0
/-- The fields of an INVAL payload. -/
def Inval.ofBytes (l : List Byte) : Inval :=
  { start := leAt l 0 8, count := leAt l 8 4, kind := leAt l 12 1, cohort := BitVec.ofNat 10 (leAt l 14 2), part := leAt l 16 1 % 64,
    ticket := BitVec.ofNat 32 (leAt l 20 4), gate := BitVec.ofNat 12 (leAt l 24 2) }

/-- Two ranges meet. -/
def meets (a n b m : Nat) : Bool := decide (a < b + m) && decide (b < a + n)
/-- A cached translation is covered (R402). -/
def State.covers (s : State) (i : Inval) (e : Tlb) : Bool :=
  if i.kind = 0 then e.cohort = i.cohort && meets i.start (4096 * i.count) (e.page * 2 ^ e.size) (2 ^ e.size)
  else if i.kind = 1 then e.cohort = i.cohort
  else if i.kind = 2 then s.cohortPart e.cohort.toNat = i.part && meets i.start (4096 * i.count) e.ia (2 ^ e.size)
  else i.kind = 3 && s.cohortPart e.cohort.toNat = i.part
/-- A walk in progress is covered (R381). -/
def State.coversWalk (s : State) (i : Inval) (w : Walk) : Bool :=
  if i.kind = 0 then w.cohort = i.cohort && meets i.start (4096 * i.count) w.fva 1
  else if i.kind = 1 then w.cohort = i.cohort
  else if i.kind = 2 then s.cohortPart w.cohort.toNat = i.part && (w.stage2 || w.done.isSome) && meets i.start (4096 * i.count) w.ia 1
  else i.kind = 3 && s.cohortPart w.cohort.toNat = i.part
/-- A walk-cache entry leaves with an INVAL (R402). -/
def State.coversCache (s : State) (i : Inval) (k : WalkEntry) : Bool :=
  if i.kind = 4 then true
  else if i.kind ≤ 1 then (!k.stage2 && k.owner = i.cohort.toNat)
  else (k.stage2 && k.owner = i.part) || (!k.stage2 && s.cohortPart k.owner = i.part)

/-- Apply an INVAL to the module's caches: covered entries leave, covered walks restart (R381, R403). -/
def State.applyInval (s : State) (i : Inval) : State :=
  let keep := fun (l : List Tlb) => l.filter (fun e => !s.covers i e)
  { s with
    xl := { s.xl with
      cache := s.xl.cache.filter (fun k => !s.coversCache i k)
      wing := (s.xl.wing.map (fun e => (e.1, keep e.2))).filter (fun e => !e.2.isEmpty)
      pins := s.xl.pins.filter (fun e => !s.covers i e.2.2.2)
      walks := s.xl.walks.map (fun (w : Walk) => if s.coversWalk i w then s.restartWalk w else w) }
    rooms := (s.rooms.map (fun (e : Nat × Room) => (e.1, { e.2 with tlb := keep e.2.tlb }))).filter (fun e => e.2 ≠ roomDefault e.1)
    strms := s.strms.map (fun (e : Nat × Strm) => (e.1, { e.2 with cur := e.2.cur.map (fun (c : Xfer) =>
      { c with smap := keep c.smap, dmap := keep c.dmap }) })) }
/-- Apply an INVAL to the TLB of a DEP-7 (R524). -/
def State.applyInvalDep (s : State) (p : Nat) (i : Inval) : State :=
  let d := s.dep p
  s.setDep p { d with
    tlb := d.tlb.filter (fun e => !s.covers i e)
    reqs := d.reqs.map (fun (r : DieReq) => { r with maps := r.maps.filter (fun e => !s.covers i e) }) }

/-- Start an invalidation ticket (R402, R403): INVAL goes through the multicast engine and to this module itself. -/
def State.startInval (s : State) (kind : Nat) (start count : Nat) (cohort : BitVec 10) (part : Nat) : State :=
  if 16 ≤ s.xl.tickets.length then s.setRegBit rInvStatus 16 true
  else
    let t := s.regF rInvStatus 0 16
    let i : Inval := { start := start, count := count, kind := kind, cohort := cohort, part := part, ticket := BitVec.ofNat 32 t, gate := s.node }
    let g := s.regF rInvGroup 0 12
    let e := s.tabF (rMcGroup + 4 * g) 4
    let first := e % 2 ^ 14
    let n := e / 2 ^ 16 % 2 ^ 13
    let members := if 2 ^ 31 ≤ e then (List.range n).map (fun k => BitVec.ofNat 12 (s.tabF (rMcMember + 2 * (first + k)) 2)) else []
    let s := (s.setRegF rInvStatus 0 16 (t + 1)).setRegF rInvStatus (48 + t % 16) 1 0
    let missing := members.find? (fun m => m ≠ s.node && (s.routeAt rRtActive m).isNone)
    let s := { s with xl := { s.xl with
      tickets := s.xl.tickets ++ [({ id := i.ticket, waits := members.filter (fun m => m = s.node || (s.routeAt rRtActive m).isSome), status := if missing.isSome then stNoRoute else 0, fail := missing } : Ticket)]
      jobs := s.xl.jobs ++ [({ eng := 0, ticket := i.ticket, gate := s.node } : InvalJob)] } }
    let s := s.forAll (members.filter (fun m => m ≠ s.node && (s.routeAt rRtActive m).isSome)) (fun s m => s.sendRouted 139 false
      { blankFrame with part := BitVec.ofNat 6 (s.cohortPart cohort.toNat), cohort := cohort, dst := m, src := s.node, opcode := 0x72, vc := 1,
                        length := 32, payload := i.bytes })
    s.applyInval i

/-- Complete a ticket (R404). -/
def State.endTicket (s : State) (t : Ticket) (status : BitVec 5) (fail : BitVec 12) : State :=
  let s := { s with xl := { s.xl with tickets := s.xl.tickets.filter (fun x => x.id ≠ t.id) } }
  let s := ((s.setRegF rInvStatus (48 + t.id.toNat % 16) 1 1).setRegF rInvStatus 43 5 status.toNat).setRegF rInvStatus 31 12 fail.toNat
  s.raise 4

/-- One member's acknowledgement (R404). -/
def State.ackTicket (s : State) (ticket : BitVec 32) (n : BitVec 12) (status : BitVec 5) : State :=
  match s.xl.tickets.find? (fun t => t.id = ticket) with
  | none => s
  | some t =>
    let t' := { t with waits := t.waits.filter (· ≠ n), status := if t.status.toNat < status.toNat then status else t.status,
                       fail := if t.fail.isSome || status ≠ stNoRoute then t.fail else some n }
    let s := { s with xl := { s.xl with tickets := s.xl.tickets.map (fun (x : Ticket) => if x.id = ticket then t' else x) } }
    if t'.waits.isEmpty then s.endTicket t' t'.status (t'.fail.getD 0) else s

/-- XLT.INV_TIMEOUT of a ticket: the first member that did not answer is recorded (R404). -/
def State.ticketTimeout (s : State) (ticket : BitVec 32) : State :=
  match s.xl.tickets.find? (fun t => t.id = ticket) with
  | none => s
  | some t => s.endTicket t (if t.status.toNat < 14 then stWindow else t.status) (t.fail.getD (t.waits.headD 0))

/-- An INVAL received at an engine (R403). -/
def State.takeInval (s : State) (e : Nat) (f : Frame) : State :=
  let i := Inval.ofBytes f.payload
  let t := { s with xl := { s.xl with jobs := s.xl.jobs ++ [({ eng := e, ticket := i.ticket, gate := i.gate } : InvalJob)] } }
  if e = 0 then t.applyInval i else t.applyInvalDep (e - 1) i

/-- An engine has nothing left that used a covered translation: it answers INVAL_ACK (R403). -/
def State.invalDone (s : State) (e : Nat) (ticket : BitVec 32) : State :=
  match s.xl.jobs.find? (fun j => j.eng = e ∧ j.ticket = ticket) with
  | none => s
  | some j =>
    let s := { s with xl := { s.xl with jobs := s.xl.jobs.filter (· ≠ j) } }
    if e = 0 ∧ j.gate = s.node then s.ackTicket ticket s.node 0
    else
      let f : Frame := { blankFrame with
        part := if e = 0 then BitVec.ofNat 6 (s.cohortPart 0) else BitVec.ofNat 6 (s.epF (e - 1) eNode 16 6),
        dst := j.gate, src := s.engNode e, opcode := 0x73, vc := 2, length := 8, payload := leBytes 4 ticket.toNat ++ leBytes 4 0 }
      if e = 0 then s.sendRouted 139 false f
      else match s.depRoute (e - 1) j.gate with
        | some rt => s.launch e .none { f with route := rt.1, hopCount := rt.2 }
        | none => s

/-! ### Meanings of the invalidation rows -/

/-- INV_FVA_RANGE (R402). -/
def execInvFvaRange (start : BitVec 64) (count : BitVec 32) (cohort : BitVec 10) (s : State) : Host.Outcome State Fault Refusal :=
  .next (s.bar0 (fun s => s.startInval 0 start.toNat count.toNat cohort 0))
/-- INV_COHORT_ALL (R402). -/
def execInvCohortAll (cohort : BitVec 10) (s : State) : Host.Outcome State Fault Refusal :=
  .next (s.bar0 (fun s => s.startInval 1 0 0 cohort 0))
/-- INV_IA_RANGE (R402). -/
def execInvIaRange (start : BitVec 64) (count : BitVec 32) (part : BitVec 6) (s : State) : Host.Outcome State Fault Refusal :=
  .next (s.bar0 (fun s => s.startInval 2 start.toNat count.toNat 0 part.toNat))
/-- INV_PARTITION_ALL (R402). -/
def execInvPartitionAll (part : BitVec 6) (s : State) : Host.Outcome State Fault Refusal :=
  .next (s.bar0 (fun s => s.startInval 3 0 0 0 part.toNat))
/-- INV_WALK_CACHES (R402). -/
def execInvWalkCaches (s : State) : Host.Outcome State Fault Refusal := .next (s.bar0 (fun s => s.startInval 4 0 0 0 0))
/-- INVAL (R403, R524). -/
def execInval (eng : Engine) (f : Frame) (s : State) : Host.Outcome State Fault Refusal := .next (s.takeInval (Engine.num eng) f)
/-- INVAL_DRAINED (R403). -/
def execInvalDrained (eng : Engine) (ticket : BitVec 32) (s : State) : Host.Outcome State Fault Refusal :=
  .next (s.invalDone (Engine.num eng) ticket)
/-- INVAL_ACK (R404). -/
def execInvalAck (f : Frame) (s : State) : Host.Outcome State Fault Refusal :=
  .next (s.ackTicket (BitVec.ofNat 32 (leAt f.payload 0 4)) f.src (BitVec.ofNat 5 (leAt f.payload 4 1)))
/-- INV_TIMEOUT (R404). -/
def execInvTimeout (ticket : BitVec 32) (s : State) : Host.Outcome State Fault Refusal := .next (s.ticketTimeout ticket)
/-- XLT_PFD_WRITE (R372). -/
def execXltPfdWrite (i : Fin 8) (v : BitVec 64) (s : State) : Host.Outcome State Fault Refusal :=
  .next (s.bar0 (fun s => if pfdOk v then s.setReg (rPfd + 8 * i.val) (v &&& 0x0FFFFFFFFFFFF101) else s.setRegBit rXltStatus 0 true))
/-- WALK_TABLE_READ (R374): one table read of a walk; `entry` is what another module's memory answers, where the
module's own fabric has not carried it. -/
def execWalkTableRead (walk : Nat) (entry : Option (BitVec 64)) (s : State) : Host.Outcome State Fault Refusal :=
  .next (s.walkRead walk entry)

end Sys2Proof.Machine
end

