-- ==== Sys2Proof/Machine/SwitchRegs.lean ====
section
/-! DEFINITION. Writes of BAR0 registers in general (R8, R10, R645), and the writes of the switch's registers with the
checks that bind them ("Frames, Source Routes and Flow Control", R198, R207 to R210; "Centroid Switch Core", R237, R242,
R243; "Collective Operations", R349, R350; R608, R615 to R618, R654). -/

namespace Sys2Proof.Machine

/-! ### Writes in general -/

/-- Every bit of a register. -/
def allBits : Word := BitVec.allOnes 64

/-- The value of a register after a write of `v` under the mask `m` of the bits that the access covers (R8, R645). -/
def RegSpec.written (sp : RegSpec) (old v m : Word) : Word :=
  ((old &&& ~~~(sp.rw &&& m)) ||| (v &&& sp.rw &&& m)) &&& ~~~(v &&& sp.w1c &&& m)

/-- Write a register that starts nothing and checks nothing. -/
def State.writePlain (s : State) (a : Nat) (v m : Word) : State := s.setReg a ((regSpec a).written (s.reg a) v m)

/-- Write a register whole, where the fields of the written value pass a check; otherwise report. -/
def State.writeIf (s : State) (a : Nat) (v : Word) (ok : Bool) (report : State → State) : State :=
  if ok then s.writePlain a v allBits else report s

/-- The bits of a value that a register's fields take. -/
def writable (a : Nat) (v : Word) : Word := v &&& (regSpec a).rw

/-- CFG_ERR of the SWC block with its row and port (R242). -/
def State.cfgErr (s : State) (code port : Nat) : State :=
  ((s.setRegBit rCfgStatus 15 true).setRegF rCfgStatus 8 4 code).setRegF rCfgStatus 0 8 port
/-- CFG_ERR of the SWC block for a value outside its range (R608). -/
def State.cfgRange (s : State) : State := s.setRegBit rCfgStatus 15 true
/-- CFG_ERR of SWC.RT_STATUS (R198). -/
def State.rtErr (s : State) : State := s.setRegBit rRtStatus 3 true

/-- A number lies in a closed range. -/
def inRange (lo hi n : Nat) : Bool := decide (lo ≤ n) && decide (n ≤ hi)

/-! ### Buffering (R242, R243) -/

/-- The four 16-bit fields of a per-VC register. -/
def vcField (w : Word) (v : Nat) : Nat := fget w (16 * v) 16
/-- Σ BUF_MIN over the enabled VCs of every port with the values that will take effect, one port's value replaced. -/
def State.sumMin (s : State) (p : Nat) (w : Word) : Nat :=
  (List.range 140).foldl (fun n q =>
    let mn := if q = p then w else s.reg (swReg q swBufMin)
    let en := s.regF (swReg q swVcCfg) 0 4
    (List.range 4).foldl (fun m v => if en.testBit v then m + vcField mn v else m) n) 0

/-- BUF_MIN of a port (R242 rows 1 and 2). -/
def State.writeBufMin (s : State) (p : Nat) (v : Word) : State :=
  let en := s.regF (swReg p swVcCfg) 0 4
  let ad := s.reg (swReg p swCreditAdv)
  if (List.range 4).any (fun i => (en.testBit i && decide (vcField v i < 18)) || decide (vcField v i < vcField ad i)) then s.cfgErr 1 p
  else if 327680 < s.sumMin p v then s.cfgErr 2 p
  else s.writePlain (swReg p swBufMin) v allBits

/-- CREDIT_ADV of a port (R242 row 3). -/
def State.writeCreditAdv (s : State) (p : Nat) (v : Word) : State :=
  let en := s.regF (swReg p swVcCfg) 0 4
  let mn := s.reg (swReg p swBufMin)
  s.writeIf (swReg p swCreditAdv) v
    (!(List.range 4).any (fun i => (en.testBit i && decide (vcField v i < 18)) || decide (vcField mn i < vcField v i)))
    (fun s => s.cfgErr 3 p)

/-- VC_CFG of a port (R242 row 4, R654). -/
def State.writeVcCfg (s : State) (p : Nat) (v : Word) : State :=
  let was := s.regF (swReg p swVcCfg) 0 4
  let mn := s.reg (swReg p swBufMin)
  let ad := s.reg (swReg p swCreditAdv)
  s.writeIf (swReg p swVcCfg) v
    (!(List.range 4).any (fun i => v.getLsbD i && !was.testBit i && (decide (vcField mn i < 18) || decide (vcField ad i < 18))))
    (fun s => s.cfgErr 4 p)

/-- SWC.OVF_ON (R242 row 5). -/
def State.writeOvfOn (s : State) (v : Word) : State :=
  let n := fget v 0 19
  s.writeIf rOvfOn v (decide (18 ≤ n) && decide (2 * n ≤ s.regF rSharedTotal 0 64)) (fun s => s.cfgErr 5 0)

/-- SWC.OVF_BASE or SWC.OVF_SIZE (R242 row 6). -/
def State.writeOvfRegion (s : State) (size : Bool) (v : Word) : State :=
  let base := if size then s.regF rOvfBase 0 40 else fget v 0 40
  let n := if size then fget v 0 7 else s.regF rOvfSize 0 7
  s.writeIf (if size then rOvfSize else rOvfBase) v
    (s.ovfUsed = 0 && base % 2 ^ 30 = 0 && decide (n ≤ 64) && decide (base + n * 2 ^ 30 ≤ 2 ^ 40)) (fun s => s.cfgErr 6 0)

/-- Half of a WRED profile, with the other half as it stands (R242 row 7, R617). -/
def wredOk (lo hi : Word) : Bool :=
  !(hi.getLsbD 63 && decide (fget hi 0 28 ≤ fget lo 0 28)) && decide (fget hi 32 9 ≤ 256)
/-- Write the two halves of a WRED profile. -/
def State.writeWred (s : State) (a : Nat) (lo hi : Word) : State :=
  if wredOk lo hi then (s.writePlain a lo allBits).writePlain (a + 8) hi allBits else s.cfgErr 7 0

/-- Whether the fields of an arbiter register of R615 are legal (R242 row 8). -/
def arbOk (v : Word) : Bool :=
  let c := arbCfg v
  decide (c.quota ≤ c.window) && inRange 16 256 c.window && inRange 1 64 c.burst
/-- SWC.ARB (R242 row 8, R657). -/
def State.writeSwcArb (s : State) (v : Word) : State := s.writeIf rSwcArb v (arbOk v) (fun s => s.cfgErr 8 0)
/-- SWC.AGE_LIMIT (R242 row 9). -/
def State.writeAgeLimit (s : State) (v : Word) : State := s.writeIf rAgeLimit v (inRange 10 100000 (fget v 0 17)) (fun s => s.cfgErr 9 0)

/-! ### Colour markers, routes and timers (R189, R198, R207 to R210) -/

/-- The limits of R189 on a marker's fields. -/
def markerOk (lo hi : Word) : Bool :=
  decide (fget lo 0 32 ≤ fget lo 32 32) && decide (2100 ≤ fget hi 0 24) && decide (2100 ≤ fget hi 24 24)

/-- The buckets of a marker start full (R190). -/
def State.freshBucket (s : State) (e m : Nat) : State :=
  { s with fab := { s.fab with buckets := tput (fun _ => ({} : Bucket)) s.fab.buckets (16 * e + m) {} } }
/-- The bucket of an enabled marker takes the SCLKs that have passed at the rates in force until now (R190). -/
def State.fillBucket (s : State) (e m : Nat) (lo hi : Word) : State :=
  if hi.getLsbD 56 then
    let b := Bucket.fill (tget (fun _ => ({} : Bucket)) s.fab.buckets (16 * e + m)) (fget lo 0 32) (fget lo 32 32) (fget hi 0 24) (fget hi 24 24) s.now
    { s with fab := { s.fab with buckets := tput (fun _ => ({} : Bucket)) s.fab.buckets (16 * e + m) b } }
  else s
/-- SWC.MARKER m (R190, R618): a marker that becomes enabled starts with both buckets full. -/
def State.writeMarker (s : State) (m : Nat) (lo hi : Word) : State :=
  let a := rMarker + 16 * m
  if markerOk lo hi then
    let t := ((s.fillBucket 0 m (s.reg a) (s.reg (a + 8))).writePlain a lo allBits).writePlain (a + 8) hi allBits
    if s.regBit (a + 8) 56 then t else t.freshBucket 0 m
  else s.cfgErr 10 0

/-- Bytes in use of a staged entry. -/
def stagedByte (lo hi : Word) (k : Nat) : Nat := if k < 8 then fget lo (8 * k) 8 else fget hi (8 * (k - 8)) 8
/-- Whether a staged entry fails R208, VALID or not; one that holds only zeros stages nothing (DESIGN CHOICE, log 79). -/
def State.stageBad (s : State) (d : Nat) : Bool :=
  let lo := s.reg (rRtStage + 16 * d)
  let hi := s.reg (rRtStage + 16 * d + 8)
  let h := fget hi 32 4
  let last := stagedByte lo hi (h - 1)
  (lo ≠ 0 || hi ≠ 0) && (h = 0 || decide (12 < h)
    || (List.range h).any (fun k => routeByteInvalid (stagedByte lo hi k) || (decide (128 ≤ stagedByte lo hi k) && k + 1 ≠ h))
    || (decide (stagedByte lo hi 0 < 128) && (s.portPart (stagedByte lo hi 0)).isNone)
    || (if d < 64 then decide (last < 128) else decide (64 ≤ last)))
/-- STAGE_ERR and ERR_INDEX over the whole staged table (R208, R616). -/
def State.stageCheck (s : State) : State :=
  let ds := (s.regs.filter (fun e => rRtStage ≤ e.1 && e.1 < rRtStage + 0x10000)).map (fun e => (e.1 - rRtStage) / 16)
  match ds.find? s.stageBad with
  | some d => (s.setRegBit rRtStatus 2 true).setRegF rRtStatus 16 12 d
  | none => (s.setRegBit rRtStatus 2 false).setRegF rRtStatus 16 12 0
/-- A word of SWC.RT_STAGE (R208). -/
def State.writeStage (s : State) (a : Nat) (v m : Word) : State := (s.writePlain a v m).stageCheck

/-- SWC.RT_HOLD: a bit cleared makes its waiting requests ready (R210). -/
def State.writeHold (s : State) (k : Nat) (v : Word) : State :=
  let was := s.reg (rRtHold + 8 * k)
  let t := s.setReg (rRtHold + 8 * k) v
  t.forAll ((List.range 64).filter (fun i => was.getLsbD i && !v.getLsbD i)) (fun s i => s.pump 0 (BitVec.ofNat 12 (64 * k + i)) pumpFuel)

/-- Take a write of SWC.RTX or SWC.WIN_TIMEOUT that is in range and keeps (LIMIT + 1) × RTX_TIMEOUT within WIN_TIMEOUT; each check
that fails sets its own error bit (R198, R608, R616). -/
def State.writeTimer (s : State) (a : Nat) (v : Word) (ranged fits : Bool) : State :=
  if ranged && fits then s.writePlain a v allBits
  else
    let t := if fits then s else s.rtErr
    if ranged then t else t.cfgRange
/-- SWC.RTX (R198, R616). -/
def State.writeRtx (s : State) (v : Word) : State :=
  s.writeTimer rRtx v (inRange 1 1000 (fget v 0 10)) (decide ((fget v 32 3 + 1) * fget v 0 10 ≤ s.regF rWinTimeout 0 14))
/-- SWC.WIN_TIMEOUT (R198, R608). -/
def State.writeWinTimeout (s : State) (v : Word) : State :=
  s.writeTimer rWinTimeout v (inRange 10 10000 (fget v 0 14)) (decide ((s.regF rRtx 32 3 + 1) * s.regF rRtx 0 10 ≤ fget v 0 14))
/-- SWC.WIN_DEFAULT (R608): a window that grows may let its waiting requests leave. -/
def State.writeWinDefault (s : State) (v : Word) : State :=
  if inRange 9 16384 (fget v 0 15) then (s.writePlain rWinDefault v allBits).pumpAll 0 else s.cfgRange
/-- SWC.WIN_SIZE: 2 bytes for each of four destinations; a size outside R185 is ignored. A write of 0 is taken and stands for
SWC.WIN_DEFAULT (DESIGN CHOICE, log 79). -/
def State.writeWinSize (s : State) (a : Nat) (v m : Word) : State :=
  let ok := (List.range 4).all (fun i => !m.getLsbD (16 * i) || vcField v i = 0 || inRange 9 16384 (vcField v i))
  if ok then (s.writePlain a v m).pumpAll 0 else s.cfgRange

/-! ### Multicast groups (R237, R349, R350) -/

/-- A collective that is RESERVED, LAUNCHED or CLOSED names a group (R350). -/
def State.groupBusy (s : State) (g : Nat) : Bool :=
  s.coll.ctx.any (fun e => match e.2 with
    | some c => c.desc.group.toNat = g && (c.st = .reserved || c.st = .launched || c.st = .closed)
    | none => false)
/-- FIRST and COUNT of a group; COUNT 0 where the entry is not VALID (R237, R618). -/
def State.mcGroup (s : State) (g : Nat) : Nat × Nat :=
  let e := s.tabF (rMcGroup + 4 * g) 4
  if 2 ^ 31 ≤ e then (e % 2 ^ 14, e / 2 ^ 16 % 2 ^ 13) else (0, 0)
/-- COL.STATUS.MC_BUSY (R350). -/
def State.mcBusy (s : State) : State := s.setRegBit rColStatus 0 true

/-- An entry of SWC.MC_GROUP (R237, R350). -/
def State.writeMcGroup (s : State) (g : Nat) (v : BitVec 32) : State :=
  let n := v.toNat
  if s.groupBusy g then s.mcBusy
  else if 2 ^ 31 ≤ n ∧ 16384 < n % 2 ^ 14 + n / 2 ^ 16 % 2 ^ 13 then s.cfgErr 11 0
  else s.setTabF (rMcGroup + 4 * g) 4 (v &&& 0x9FFF3FFF).toNat
/-- Members of SWC.MC_MEMBER in one register, unless a busy group holds one of them (R350). -/
def State.writeMcMember (s : State) (a : Nat) (v m : Word) : State :=
  let k := (a - rMcMember) / 2
  let hit := s.coll.ctx.any (fun e => match e.2 with
    | some c =>
      let g := s.mcGroup c.desc.group.toNat
      (c.st = .reserved || c.st = .launched || c.st = .closed)
        && (List.range 4).any (fun i => m.getLsbD (16 * i) && decide (g.1 ≤ k + i) && decide (k + i < g.1 + g.2))
    | none => false)
  if hit then s.mcBusy else s.writePlain a v m
/-- An entry of COL.MC_OWNER (R350). -/
def State.writeMcOwner (s : State) (g : Nat) (v : BitVec 32) : State :=
  if s.groupBusy g then s.mcBusy else s.setTabF (rMcOwner + 4 * g) 4 (v &&& 0x803F03FF).toNat

/-! ### Meanings -/

/-- SWC_RT_STAGE_WRITE (R208, R616). -/
def execSwcRtStageWrite (entry : BitVec 12) (lo hi : BitVec 64) (s : State) : Host.Outcome State Fault Refusal :=
  .next (s.bar0 (fun s => (s.writeStage (rRtStage + 16 * entry.toNat) lo allBits).writeStage (rRtStage + 16 * entry.toNat + 8) hi allBits))
/-- SWC_RT_SWAP_WRITE (R209). -/
def execSwcRtSwapWrite (v : BitVec 64) (s : State) : Host.Outcome State Fault Refusal := .next (s.bar0 (fun s => s.writePlain rRtSwap v allBits))
/-- SWC_RT_HOLD_WRITE (R210). -/
def execSwcRtHoldWrite (word : Fin 64) (v : BitVec 64) (s : State) : Host.Outcome State Fault Refusal := .next (s.bar0 (fun s => s.writeHold word.val v))
/-- SWC_RTX_WRITE (R198). -/
def execSwcRtxWrite (v : BitVec 64) (s : State) : Host.Outcome State Fault Refusal := .next (s.bar0 (fun s => s.writeRtx v))
/-- SWC_WIN_TIMEOUT_WRITE (R198). -/
def execSwcWinTimeoutWrite (v : BitVec 64) (s : State) : Host.Outcome State Fault Refusal := .next (s.bar0 (fun s => s.writeWinTimeout v))
/-- BUF_MIN_WRITE (R242, R243). -/
def execBufMinWrite (p : Fin 140) (v : BitVec 64) (s : State) : Host.Outcome State Fault Refusal := .next (s.bar0 (fun s => s.writeBufMin p.val v))
/-- CREDIT_ADV_WRITE (R242, R243). -/
def execCreditAdvWrite (p : Fin 140) (v : BitVec 64) (s : State) : Host.Outcome State Fault Refusal := .next (s.bar0 (fun s => s.writeCreditAdv p.val v))
/-- VC_CFG_WRITE (R242, R243, R654). -/
def execVcCfgWrite (p : Fin 140) (v : BitVec 64) (s : State) : Host.Outcome State Fault Refusal := .next (s.bar0 (fun s => s.writeVcCfg p.val v))
/-- SWC_OVF_ON_WRITE (R242). -/
def execSwcOvfOnWrite (v : BitVec 64) (s : State) : Host.Outcome State Fault Refusal := .next (s.bar0 (fun s => s.writeOvfOn v))
/-- SWC_OVF_REGION_WRITE (R242): OVF_SIZE where `size`, else OVF_BASE. -/
def execSwcOvfRegionWrite (size : Bool) (v : BitVec 64) (s : State) : Host.Outcome State Fault Refusal := .next (s.bar0 (fun s => s.writeOvfRegion size v))
/-- WRED_SET_WRITE (R227, R242, R617). -/
def execWredSetWrite (set : Fin 8) (colour : Fin 3) (lo hi : BitVec 64) (s : State) : Host.Outcome State Fault Refusal :=
  .next (s.bar0 (fun s => s.writeWred (rWredSet + 48 * set.val + 16 * colour.val) lo hi))
/-- SWC_ARB_WRITE (R242, R657). -/
def execSwcArbWrite (v : BitVec 64) (s : State) : Host.Outcome State Fault Refusal := .next (s.bar0 (fun s => s.writeSwcArb v))
/-- SWC_AGE_LIMIT_WRITE (R229, R232, R242). -/
def execSwcAgeLimitWrite (v : BitVec 64) (s : State) : Host.Outcome State Fault Refusal := .next (s.bar0 (fun s => s.writeAgeLimit v))
/-- SWC_MARKER_WRITE (R189, R618). -/
def execSwcMarkerWrite (m : Fin 16) (lo hi : BitVec 64) (s : State) : Host.Outcome State Fault Refusal := .next (s.bar0 (fun s => s.writeMarker m.val lo hi))
/-- SWC_MC_GROUP_WRITE (R237, R350). -/
def execSwcMcGroupWrite (group : BitVec 12) (v : BitVec 32) (s : State) : Host.Outcome State Fault Refusal :=
  .next (s.bar0 (fun s => s.writeMcGroup group.toNat v))
/-- COL_MC_OWNER_WRITE (R350). -/
def execColMcOwnerWrite (group : BitVec 12) (v : BitVec 32) (s : State) : Host.Outcome State Fault Refusal :=
  .next (s.bar0 (fun s => s.writeMcOwner group.toNat v))

end Sys2Proof.Machine
end

