-- ==== Sys2Proof/Machine/Mst.lean ====
section
/-! DEFINITION. The multicast engine: an MST at its entry module ("Centroid Switch Core", R237 to R241; "Collective
Operations", R349). -/

namespace Sys2Proof.Machine

/-- Status with which the engine refuses an MST before any copy is made (R241, R349). -/
def State.mstRefusal (s : State) (f : Frame) : Option (BitVec 5) :=
  let g := f.group.toNat
  let o := s.tabF (rMcOwner + 4 * g) 4
  if s.tabF (rMcGroup + 4 * g) 4 < 2 ^ 31 then some stNoRoute
  else if 2 ^ 31 ≤ o ∧ (o / 2 ^ 16 % 64 ≠ f.part.toNat ∨ o % 1024 ≠ f.cohort.toNat) then some stPerm
  else none

/-- Members of a group, in order (R237). -/
def State.mcMembers (s : State) (g : Nat) : List (BitVec 12) :=
  let x := s.mcGroup g
  (List.range x.2).map (fun k => BitVec.ofNat 12 (s.tabF (rMcMember + 2 * (x.1 + k)) 2))

/-- The copy of an MST for one member (R238). -/
def mcCopy (node : BitVec 12) (f : Frame) (m : BitVec 12) : Frame :=
  { f with dst := m, src := node, fpa := BitVec.ofNat 56 (m.toNat * 2 ^ 44 + f.fpa.toNat % 2 ^ 44), flags := 0, status := 0, ack := 0,
           hopPtr := 0 }

/-- Take an MST that finds a free context: one copy per member, timetabled on VC0, otherwise through the source engine
(R238 to R240). -/
def State.mstStart (s : State) (r : Req) : State :=
  let ms := s.mcMembers r.f.group.toNat
  let id := s.fab.nextId
  let c : McCtx := { id := id, req := r, pending := ms.length, status := 0, failed := 0 }
  if ms.isEmpty then (s.mcAnswer r stOk 0).pumpAll 0
  else
    let t := { s with fab := { s.fab with nextId := id + 1, mc := s.fab.mc ++ [c] } }
    let t := t.setRegF rMcStatus 32 11 t.fab.mc.length
    t.forAll ms (fun s m =>
      let f := mcCopy s.node r.f m
      if r.f.vc = 0 then s.sendTimed f (.copy id) else s.submit 0 f (.copy id))

/-- The engine takes an MST: refused, or copied; its ingress credits return (R241). -/
def State.mstGo (s : State) (r : Req) : State :=
  let s := s.mstRelease r.f
  match s.mstRefusal r.f with
  | some st => (s.mcAnswer r st 0).pumpAll 0
  | none => s.mstStart r

/-- An MST at the engine (R237 to R241): it waits behind those that wait, or where no context is free. -/
def State.mstTake (s : State) (r : Req) : State :=
  if s.fab.mcWait.isEmpty && (decide (s.fab.mc.length < 1024) || (s.mstRefusal r.f).isSome) then s.mstGo r
  else ({ s with fab := { s.fab with mcWait := s.fab.mcWait ++ [r] } }).countWrap rMcStatus 0 32

/-- MST_CONTEXT_FREED (R241): the first waiting MST takes a free context. -/
def execMstContextFreed (s : State) : Host.Outcome State Fault Refusal :=
  .next (match s.fab.mcWait with
    | [] => s
    | r :: rest =>
      if s.fab.mc.length < 1024 then ({ s with fab := { s.fab with mcWait := rest } }).mstGo r else s)

end Sys2Proof.Machine
end

