-- ==== Sys2Proof/Machine/Collective.lean ====
section
/-! DEFINITION. The COL unit: reservation, launch, verdict, aborts and the end of collectives ("Collective Operations", R335 to
R355). -/

namespace Sys2Proof.Machine

/-! ### Contexts (R340) -/

def State.putColl (s : State) (i : Nat) (c : Option CollCtx) : State :=
  { s with coll := { s.coll with ctx := tput (fun _ => none) s.coll.ctx i c } }
/-- Contexts of the unit with their numbers. A collective whose local vote is not OK holds no context; it is followed under a
number from 64 on until its launch fails (R341, R344). -/
def State.colls (s : State) : List (Nat × CollCtx) := s.coll.ctx.filterMap (fun e => e.2.map (fun c => (e.1, c)))
/-- A collective that is RESERVED, LAUNCHED or CLOSED. -/
def CollCtx.live (c : CollCtx) : Bool := c.st = .reserved || c.st = .launched || c.st = .closed
/-- First context that no collective holds (R340, R355). -/
def State.freeColl (s : State) : Option Nat :=
  (List.range 64).find? (fun i => match s.collCtx i with
    | none => true
    | some c => !c.live && !c.held)

/-- Element format of a collective that needs slots (R337). -/
def collFmt (d : CollDesc) : Option Fmt := if d.kind = 2 then none else typeFmt d.type.toNat
/-- Lines of a collective's region. -/
def collLines (d : CollDesc) : List Nat := (List.range d.lines).map (fun i => d.region / 64 + i)
/-- Slots that a collective needs (R337). -/
def collSlots (d : CollDesc) : Nat := if (collFmt d).isSome then d.lines else 0

/-- Release everything a collective holds (R353, R354). -/
def State.freeCollSlots (s : State) (i : Nat) (c : CollCtx) : State :=
  let t := s.forAll (collLines c.desc) (fun s l => match s.slot l with
    | some x => if x.coll = some c.desc.id then s.setSlot l none else s
    | none => s)
  t.putColl i (some { c with held := false, slots := 0 })

/-! ### The verdict line (R342) -/

/-- A verdict line's bytes. -/
def verdictLine (id : BitVec 32) (code : Nat) (status : Byte) (cause : BitVec 12) : List Byte :=
  leBytes 4 id.toNat ++ leBytes 1 code ++ leBytes 1 status.toNat ++ leBytes 2 cause.toNat ++ leBytes 56 0
/-- The status that a byte of a vote or verdict line names; one that is no status of R11 counts as NO_ROUTE (R11; DESIGN CHOICE,
log 48). -/
def statusByte (b : Nat) : BitVec 5 := if b < 16 then BitVec.ofNat 5 b else stNoRoute
/-- ID, code, status and cause that a collective's verdict line holds. -/
def State.verdictAt (s : State) (d : CollDesc) : BitVec 32 × Nat × BitVec 5 × BitVec 12 :=
  let l := s.peek d.verdict 8
  (BitVec.ofNat 32 (leAt l 0 4), leAt l 4 1, statusByte (leAt l 5 1), BitVec.ofNat 12 (leAt l 6 2))
/-- The verdict line holds an ABORT of the collective (R352). -/
def State.abortedAt (s : State) (c : CollCtx) : Bool :=
  let v := s.verdictAt c.desc
  (c.st = .launched || c.st = .closed) && v.1 = c.desc.id && v.2.1 = 3

/-! ### Aborts (R352) -/

/-- Cohort and partition that an abort notice carries: those of the first role the collective governs. -/
def State.collCohort (s : State) (d : CollDesc) : BitVec 10 :=
  match s.bell.run with
  | none => 0
  | some r =>
    match r.tt.roles.find? (fun e => match e.governs with
      | some k => (r.tt.colls[k]?).map CollDesc.id = some d.id
      | none => false) with
    | some e => e.cohort
    | none => 0

/-- Send the abort notice of a collective: its own verdict line, the root's, and the group (R352). The verdict lines of the
members are taken to share one offset, as the group's one store needs. -/
def State.collNotice (s : State) (d : CollDesc) (status : BitVec 5) : State :=
  let line := verdictLine d.id 3 (status.setWidth 8) s.node
  let c := s.collCohort d
  let t := s.poke d.verdict line
  let f : Frame := { blankFrame with
    cohort := c, part := BitVec.ofNat 6 (s.cohortPart c.toNat), dst := d.root, src := s.node, opcode := 2, vc := 1, length := 64,
    fpa := BitVec.ofNat 56 (d.root.toNat * 2 ^ 44 + d.verdict), payload := line }
  let t := if d.root = s.node then t else t.submit 0 f .none
  t.mstTake { via := .fabric 139, f := { f with dst := s.node, opcode := 3, group := d.group,
                                                fpa := BitVec.ofNat 56 (s.node.toNat * 2 ^ 44 + d.verdict) } }

/-- Abort context i with a status: one notice per collective (R352). -/
def State.collAbort (s : State) (i : Nat) (c : CollCtx) (status : BitVec 5) : State :=
  if (c.st = .launched ∨ c.st = .closed) ∧ ¬ c.noticed then
    (s.putColl i (some { c with noticed := true })).collNotice c.desc status
  else s
/-- Abort every collective that satisfies a test. -/
def State.collAbortAll (s : State) (p : CollDesc → Bool) (status : BitVec 5) : State :=
  s.forAll (s.colls.filter (fun e => p e.2.desc)) (fun s e => match s.collCtx e.1 with
    | some c => s.collAbort e.1 c status
    | none => s)
/-- Statuses that abort a collective (R352). -/
def abortStatus (st : BitVec 5) : Bool := st = stNoRoute || st = stFenced || st = stRole || st = stPartition || st = stDataErr
/-- A Desk received a status: the collective that governs its role aborts on the ones of R352. -/
def State.collDesk (s : State) (desk : Nat) (status : BitVec 5) : State :=
  if abortStatus status then
    match (s.desk desk).governs with
    | some id => s.collAbortAll (fun d => d.id = id) status
    | none => s
  else s
/-- A transfer of a collective completed with a status (R352). -/
def State.collTransfer (s : State) (id : Option (BitVec 32)) (status : BitVec 5) : State :=
  match id with
  | some i => if abortStatus status then s.collAbortAll (fun d => d.id = i) status else s
  | none => s
/-- The port of a watched end-point: where its route leaves this module directly (R352). -/
def State.collPortDown (s : State) (p : Nat) : State :=
  s.collAbortAll (fun d => d.watch.any (fun n => match s.routeAt rRtActive n with
    | some (r, h) => h = 1 && (r.toList.getD 0 0).toNat = p
    | none => false)) stNoRoute
/-- The compute or memory domain is fenced (R352). -/
def State.collFenced (s : State) : State := s.collAbortAll (fun _ => true) stFenced

/-! ### Ends and records (R354, R355) -/

/-- Write a collective's record and raise COLL_DONE (R355). -/
def State.collRecord (s : State) (i : Nat) (c : CollCtx) : State :=
  let d := leBytes 4 c.desc.id.toNat ++ leBytes 1 c.status.toNat ++ leBytes 1 c.how ++ leBytes 2 c.cause.toNat ++ leBytes 8 s.lesson.toNat
  let t := s.putColl i (some { c with recorded := true })
  match t.ringPut rRingPtr (t.regF rRingSize 0 17) (t.reg rRingBase).toNat d with
  | some u => u.raise 6
  | none => t.setRegBit rColStatus 1 true

/-- A collective becomes FAILED: everything it holds is released and its record written (R344, R353). -/
def State.collFail (s : State) (i : Nat) (c : CollCtx) (how : Nat) (status : BitVec 5) (cause : BitVec 12) : State :=
  let c := { c with st := .failed, how := how, status := status, cause := cause }
  let t := (s.freeCollSlots i c).count (if how = 1 then rLaunchFail else rColAborts)
  let t := t.collRecord i { c with held := false, slots := 0 }
  if 64 ≤ i then t.putColl i none else t

/-- The end of Lesson E at a Bell: a collective still LAUNCHED or CLOSED becomes DONE (R354), unless it has aborted (R340, R353). -/
def State.collBell (s : State) (ended : Nat) : State :=
  s.forAll s.colls (fun s e =>
    if (e.2.st = .launched ∨ e.2.st = .closed) ∧ e.2.base + e.2.desc.finish ≤ ended ∧ ¬ s.abortedAt e.2 then
      s.putColl e.1 (some { e.2 with st := .done, status := stOk, how := 0, cause := 0 })
    else s)

/-! ### Roll call DCLK 64 (R341, R344, R353, R354) -/

/-- Release and record the collectives that are DONE. -/
def State.collReleaseDone (s : State) : State :=
  s.forAll s.colls (fun s e =>
    if e.2.st = .done ∧ e.2.held then (s.freeCollSlots e.1 e.2).collRecord e.1 { e.2 with held := false, slots := 0 } else s)

/-- LAUNCHED: the region starts at zero, or its accumulators take the values memory holds (R344). -/
def State.collLaunch (s : State) (i : Nat) (c : CollCtx) : State :=
  let s := if c.desc.init then s else s.poke c.desc.region (List.replicate (64 * c.desc.lines) 0)
  let s := match collFmt c.desc with
    | some fmt => s.forAll (collLines c.desc) (fun s l => s.setSlot l (some (s.newSlot l c.desc.type.toNat fmt (some c.desc.id))))
    | none => s
  s.putColl i (some { c with st := .launched })

/-- What a collective's verdict line decides at the roll call of its Lesson L + 1 (R344). -/
def State.collVerdict (s : State) (i : Nat) (c : CollCtx) : State :=
  let v := s.verdictAt c.desc
  if v.1 = c.desc.id ∧ v.2.1 = 1 ∧ c.held then s.collLaunch i c
  else if v.1 = c.desc.id ∧ 2 ≤ v.2.1 then s.collFail i c 1 v.2.2.1 v.2.2.2
  else (s.collFail i c 1 stNoRoute c.desc.root).collNotice c.desc stNoRoute

/-- Aborts and launches due at this roll call, then closings, which one launched at its own Lesson C meets at once (R339, R344, R353,
R340). -/
def State.collAdvance (s : State) : State :=
  let l := s.lesson.toNat
  let t := s.forAll s.colls (fun s e =>
    let v := s.verdictAt e.2.desc
    if s.abortedAt e.2 then s.collFail e.1 e.2 2 v.2.2.1 v.2.2.2
    else if e.2.st = .reserved ∧ e.2.base + e.2.desc.launch + 1 ≤ l then s.collVerdict e.1 e.2
    else s)
  t.forAll t.colls (fun s e =>
    if e.2.st = .launched ∧ e.2.base + e.2.desc.close ≤ l then s.putColl e.1 (some { e.2 with st := .closed }) else s)

/-- Local vote of a descriptor (R341, R623). -/
def State.collVote (s : State) (d : CollDesc) : BitVec 5 :=
  if (collLines d).any (fun l => (s.collAt l).isSome) then stPerm
  else if !s.regBit rColCtl 0 || s.freeColl.isNone || ((collFmt d).isSome && !s.slotsFit (s.whereIs d.region) d.lines) then stSlotsFull
  else stOk

/-- Reserve a collective at the roll call of its Lesson L, descriptor number k of its timetable (R341). -/
def State.collReserve (s : State) (k : Nat) (d : CollDesc) (base : Nat) : State :=
  let vote := s.collVote d
  let byte := if vote = 0 then 1 else vote.toNat
  let ok := vote = stOk
  let c : CollCtx := { desc := d, base := base, st := .reserved, status := 0, cause := 0, how := 0,
                       slots := if ok then collSlots d else 0, vote := BitVec.ofNat 8 byte, noticed := false, decided := false,
                       recorded := false, held := ok }
  let t := s.putColl (if ok then (s.freeColl.getD 0) else 64 + k) (some c)
  let t := match (collFmt d) with
    | some fmt => if ok then t.forAll (collLines d) (fun s l => s.setSlot l (some (s.newSlot l d.type.toNat fmt (some d.id)))) else t
    | none => t
  let t := t.poke d.verdict (List.replicate 64 0)
  if d.index = 0 then t.poke d.vote (leBytes 64 byte) else t

/-- New reservations of the Lesson of index `n` of a run, in descriptor order (R341). -/
def State.collReserveAll (s : State) (r : Run) (n : Nat) : State :=
  s.forAll r.tt.colls.zipIdx (fun s x => if x.1.launch = n then s.collReserve x.2 x.1 (s.lesson.toNat - n) else s)

/-- A governed role runs in this Lesson: its collective is launched and has not ended (R336). -/
def State.governedRuns (s : State) (id : BitVec 32) : Bool :=
  s.colls.any (fun e => e.2.desc.id = id && (e.2.st = .launched || e.2.st = .closed))

/-! ### The verdict (R342, R343) -/

/-- The verdict that a vote line gives: status, and the member of lowest index whose byte gives it. -/
def verdictOf (votes : List Byte) : Byte × Nat :=
  let code := fun (b : Byte) => if b = 1 then 0 else if b = 0 then 0x0D else (statusByte b.toNat).toNat
  let m := votes.foldl (fun m b => max m (code b)) 0
  (BitVec.ofNat 8 m, (votes.findIdx? (fun b => code b = m)).getD 0)

/-- Member of index i of a group whose members stand in its multicast group in order of their index: the root is 0. -/
def State.memberNode (s : State) (d : CollDesc) (i : Nat) : BitVec 12 :=
  if i = 0 then d.root else (s.mcMembers d.group.toNat).getD (i - 1) d.root

/-- VERDICT_DECISION (R342, R343): at VTICK the root reads the vote line and writes its verdict line. -/
def execVerdictDecision (id : BitVec 32) (s : State) : Host.Outcome State Fault Refusal :=
  .next (match s.colls.find? (fun e => e.2.desc.id = id && e.2.st = .reserved && e.2.desc.index = 0 && !e.2.decided) with
    | none => s
    | some (i, c) =>
      let v := verdictOf (s.peek c.desc.vote c.desc.members)
      let t := s.putColl i (some { c with decided := true })
      t.poke c.desc.verdict
        (if v.1 = 0 then verdictLine id 1 0 0 else verdictLine id 2 v.1 (s.memberNode c.desc v.2)))

end Sys2Proof.Machine
end

