-- ==== Sys2Proof/Machine/ChalkTally.lean ====
section
/-! DEFINITION. Tallies and Long Tallies of the Desks and Classrooms ("Chalk Instruction Set", R305; "Desks,
Classrooms and Wings", R261 to R263; "Number Formats and the Tally", R320 to R329). -/

namespace Sys2Proof.Machine

/-! ### Tallies -/

/-- The addend of TADD or LTADD: lane la of a, times lane lb of b unless MOD[0] is 1, negated if MOD[1] is 1 (R305). -/
def addend (c : Nat) (w : BitVec 56) (la lb : Nat) (va vb : Vec) : FVal :=
  let x := decodeLane c (lane va (laneW c) la)
  let p := if modBit w 0 then x else FVal.mul x (decodeLane c (lane vb (laneW c) lb))
  if modBit w 1 then FVal.neg p else p

/-- Issue an instruction that changes one Tally of the Desk. -/
def State.issueTally (s : State) (op : Nat) (i : ChalkOp) (k : Nat) (f : State → Acc → Acc) : State :=
  s.issue op i (fun t _ => t.setDesk (deskOf i) ((t.desk (deskOf i)).setTally k (f t ((t.desk (deskOf i)).tally k))))

/-- TADD (R305, R322, R323, R329). -/
def execChTadd (i : ChalkOp) (upset : Int) (s : State) : Host.Outcome State Fault Refusal :=
  .next (s.issueTally 0x50 i (fD i.w) (fun t a =>
    let x := t.me i
    Acc.addVal tallyW tallyQ a (addend (fFmt i.w) i.w (fLA i.w) (fLB i.w) (x.vr (fA i.w)) (x.vr (fB i.w))) upset))

/-- Write a read-out to lane LD of V[D], or to S[D] if MOD[2] is 1 (R305). -/
def Seat.putReadout (x : Seat) (scalar : Bool) (w d ld v : Nat) : Seat :=
  if scalar then x.setS d (BitVec.ofNat 64 (v % 2 ^ w)) else x.setV d (setLane (x.vr d) w ld v)

/-- TRD (R305, R324): DATA_ERR leaves the Tally and the destination as they are. -/
def execChTrd (i : ChalkOp) (s : State) : Host.Outcome State Fault Refusal :=
  .next (s.issue 0x51 i (fun t pc =>
    let d := t.desk (deskOf i)
    let x := t.me i
    let f := (fmtOf (fFmt i.w)).getD .fp32
    match Acc.readout tallyQ (d.tally (fA i.w)) f (roundingOf t (t.cohortOf (deskOf i)) x (fRnd i.w) 0) with
    | none => (t.putMe i (x.record stDataErr true pc)).collDesk (deskOf i) stDataErr
    | some v =>
      let y := ((x.putReadout (modBit i.w 2) (laneW (fFmt i.w)) (fD i.w) (fLD i.w) v).rounded (fRnd i.w) 1).record stOk true pc
      let u := if modBit i.w 0 then t.setDesk (deskOf i) (d.setTally (fA i.w) {}) else t
      u.putMe i y))

/-- TCLR (R305, R320). -/
def execChTclr (i : ChalkOp) (s : State) : Host.Outcome State Fault Refusal :=
  .next (s.issueTally 0x52 i (fD i.w) (fun _ _ => {}))

/-- TST (R305, R320): the 80-byte image goes to the Slate. -/
def execChTst (i : ChalkOp) (s : State) : Host.Outcome State Fault Refusal :=
  .next (s.issue 0x53 i (fun t _ =>
    let d := t.desk (deskOf i)
    t.setBytes (slateBase (deskOf i) + 16 * fSoff i.w) (leBytes 80 (if fD i.w = 0 then d.t0 else d.t1).toNat)))

/-- TLDA (R305, R323). -/
def execChTlda (i : ChalkOp) (upset : Int) (s : State) : Host.Outcome State Fault Refusal :=
  .next (s.issueTally 0x54 i (fD i.w) (fun t a =>
    Acc.addImage tallyW a (Acc.unpack tallyW (t.num (slateBase (deskOf i) + 16 * fSoff i.w) 80)) upset))

/-! ### Long Tallies -/

/-- A Long Tally offset that R305 accepts. -/
def ltOffOk (off : Nat) : Bool := off % 64 = 0 && decide (off ≤ 2 ^ 18 - 576)

/-- Put an operation in the Long Tally unit's queue; with 16 queued the Seat waits in place (R262). -/
def State.ltQueue (s : State) (i : ChalkOp) (q : LtReq) : State :=
  let room := roomOf (deskOf i)
  let r := s.room room
  if r.lt.length < 16 then s.setRoom room { r with lt := r.lt ++ [q] }
  else (s.setRoom room { r with ltWait := r.ltWait ++ [q] }).putMe i { s.me i with ltWait := true }

/-- Issue LTADD, LTRD or LTCLR (R305). -/
def State.issueLt (s : State) (op : Nat) (i : ChalkOp) (f : State → LtOp) (then_ : Seat → Seat) : State :=
  s.issue op i (fun t pc =>
    let off := ((t.me i).sr (fA i.w)).toNat
    if ltOffOk off then
      let q : LtReq := { desk := deskOf i, seat := i.seat.val, off := off, pc := pc, op := f t }
      (t.putMe i (then_ (t.me i))).ltQueue i q
    else t.putMe i ((t.me i).record stAlign (op = 0x56) pc))

/-- LTADD (R261, R262, R305). -/
def execChLtadd (i : ChalkOp) (s : State) : Host.Outcome State Fault Refusal :=
  .next (s.issueLt 0x55 i (fun t =>
    let x := t.me i
    .add (addend 0 i.w (fLB i.w) (fLA i.w) (x.vr (fB i.w)) (x.vr (fC i.w))) false) id)

/-- LTRD (R305, R324): the element index of a stochastic read-out is taken at issue. -/
def execChLtrd (i : ChalkOp) (s : State) : Host.Outcome State Fault Refusal :=
  .next (s.issueLt 0x56 i (fun t =>
    .read ((fmtOf (fFmt i.w)).getD .fp64) (roundingOf t (t.cohortOf (deskOf i)) (t.me i) (fRnd i.w) 0) (fD i.w) (fLD i.w)
      (modBit i.w 2) (modBit i.w 0)) (fun x => x.rounded (fRnd i.w) 1))

/-- LTCLR (R305). -/
def execChLtclr (i : ChalkOp) (s : State) : Host.Outcome State Fault Refusal :=
  .next (s.issueLt 0x57 i (fun _ => .clear) id)

/-- The Long Tally at an offset of a Classroom's Blackboard (R325). -/
def State.longTally (s : State) (room off : Nat) : Acc := Acc.unpack longW (s.num (bbBase room + off) 536)
/-- Write a Long Tally, its reserved bytes as 0, releasing slots on its lines (R96, R325). -/
def State.setLongTally (s : State) (room off : Nat) (a : Acc) : State :=
  (s.forAll (linesOf (bbBase room + off) 576) (fun s l => s.dropSlot l)).setBytes (bbBase room + off) (leBytes 576 (a.pack longW))
/-- A residue mismatch of the Long Tally unit (R263). -/
def State.ltError (s : State) (room : Nat) : State := (s.count (roomReg room crLtErr)).classFault room 3

/-- Lines of the Long Tally at an offset of a Classroom's Blackboard. -/
def ltLines (room off : Nat) : List Nat := linesOf (bbBase room + off) 576
/-- An operation is refused: LTADD and LTCLR of a line that a collective holds complete with PERM (R339). -/
def State.ltRefuse (s : State) (q : LtReq) : State :=
  let k : Fin 4 := Fin.ofNat 4 q.seat
  if q.told then s.setSeat q.desk k ((s.seat q.desk k).record stPerm false q.pc) else s
/-- What an operation does to the Long Tally `a` that its nine lines hold, of which collectives hold some if `held`; of a role that has
ended nothing is recorded (R47, R263, R324, R326). -/
def State.ltApply (s : State) (room : Nat) (q : LtReq) (upset : Int) (held : Bool) (a : Acc) : State :=
  let bad := a.res ≠ residue a.val
  match q.op with
  | .clear => if held then s.ltRefuse q else s.setLongTally room q.off {}
  | .add x neg =>
    if held then s.ltRefuse q
    else if bad then (s.setLongTally room q.off { a with err := true }).ltError room
    else
      let y := if neg then FVal.neg x else x
      let t := s.setLongTally room q.off (Acc.addVal longW longQ a y upset)
      if Acc.failsVal longW longQ a y upset then t.ltError room else t
  | .read fmt rnd d ld scalar clear =>
    let a' := if bad then { a with err := true } else a
    let t := if held then s else s.setLongTally room q.off a'
    let t := if bad then t.ltError room else t
    let k : Fin 4 := Fin.ofNat 4 q.seat
    let x := t.seat q.desk k
    match Acc.readout longQ a' fmt rnd with
    | none =>
      if !q.told then t else
      let y := match rnd with
        | .stochastic _ => { x with srElem := x.srElem - 1 }
        | _ => x
      (t.setSeat q.desk k (y.record stDataErr true q.pc)).collDesk q.desk stDataErr
    | some v =>
      let u := if clear && !held then t.setLongTally room q.off {} else t
      if q.told then u.setSeat q.desk k ((x.putReadout scalar fmt.width d ld v).record stOk true q.pc) else u

/-- Perform an operation of the Long Tally unit in one step: it reads the nine lines and writes them back, and takes its turn at their
banks (R258, R263, R326). -/
def State.ltPerform (s : State) (room : Nat) (q : LtReq) (upset : Int) : State :=
  let ls := ltLines room q.off
  (s.forAll ls (fun s l => s.bankTake 257 l)).ltApply room q upset (ls.any (fun l => (s.collAt l).isSome)) (s.longTally room q.off)

/-- LONG_TALLY_ACCEPT (R262): the oldest queued operation is accepted, and a waiting one takes its place. -/
def execLongTallyAccept (w : Fin 4) (c : Fin 300) (s : State) : Host.Outcome State Fault Refusal :=
  let room := 300 * w.val + c.val
  let r := s.room room
  .next (match r.lt with
    | [] => s
    | q :: rest =>
      match r.ltWait with
      | [] => s.setRoom room { r with lt := rest, ltBusy := r.ltBusy ++ [q] }
      | p :: more =>
        let t := s.setRoom room { r with lt := rest ++ [p], ltBusy := r.ltBusy ++ [q], ltWait := more }
        let k : Fin 4 := Fin.ofNat 4 p.seat
        t.setSeat p.desk k { t.seat p.desk k with ltWait := false })

/-- LONG_TALLY_COMPLETE (R263, R326). -/
def execLongTallyComplete (w : Fin 4) (c : Fin 300) (upset : Int) (s : State) : Host.Outcome State Fault Refusal :=
  let room := 300 * w.val + c.val
  let r := s.room room
  .next (match r.ltBusy with
    | [] => s
    | q :: rest => (s.setRoom room { r with ltBusy := rest }).ltPerform room q upset)

end Sys2Proof.Machine
end

