-- ==== Sys2Proof/Machine/Omu.lean ====
section
/-! DEFINITION. The Optical Matrix Unit ("Optical Matrix Unit", R426 to R447; R388, R604, R624, R643). -/

namespace Sys2Proof.Machine

/-! ### Prisms and their registers -/

def State.prism (s : State) (p : Fin 4) : Prism := s.omu.prisms[p]
def State.setPrism (s : State) (p : Fin 4) (x : Prism) : State := { s with omu := { s.omu with prisms := s.omu.prisms.set p x } }
/-- The Prisms. -/
def allPrisms : List (Fin 4) := [0, 1, 2, 3]
/-- Status register of a Prism (R624). -/
def prismStat (p : Fin 4) : Nat := rPrismStatus + 8 * p.val
/-- DOWN of a Prism (R445). -/
def State.prismDown (s : State) (p : Fin 4) : Bool := s.regBit (prismStat p) 2
/-- HELD, NAME and COHORT of a Prism's status follow the matrix it holds. -/
def State.prismShow (s : State) (p : Fin 4) : State :=
  let a := prismStat p
  match (s.prism p).held with
  | some m => ((s.setRegF a 32 10 m.cohort.toNat).setRegF a 16 12 m.name.toNat).setRegBit a 0 true
  | none => ((s.setRegF a 32 10 0).setRegF a 16 12 0).setRegBit a 0 false
/-- Change the matrix a Prism holds. -/
def State.prismHold (s : State) (p : Fin 4) (m : Option OmuImage) : State := (s.setPrism p { s.prism p with held := m }).prismShow p
/-- A Prism holds the matrix that a vector names, for the vector's cohort (R431). -/
def Prism.serves (x : Prism) (v : PrismVector) : Bool :=
  match x.held with
  | some m => m.name = v.name && m.cohort = v.cohort
  | none => false
/-- Some Prism serves a vector. -/
def State.served_ (s : State) (v : PrismVector) : Bool := allPrisms.any (fun p => (s.prism p).serves v)
/-- Raise OMU_UNLOCK where UNLOCK_IE enables it (R445, R624). -/
def State.omuUnlock (s : State) : State := if s.regBit rOmuCtl 1 then s.raise 9 else s

/-! ### What a Prism computes (R427 to R429) -/

/-- ⌈log2 n⌉ for n ≥ 1. -/
def clog2 (n : Nat) : Nat := if n ≤ 1 then 0 else Nat.log2 (n - 1) + 1
/-- Round a ratio to the nearest integer, ties to even. -/
def ratRound (n : Int) (d : Nat) : Int :=
  let q := n / d
  let r := n % d
  if 2 * r < d then q else if (d : Int) < 2 * r then q + 1 else if q % 2 = 0 then q else q + 1
/-- An FP8 E4M3 element in units of 2^−9; none for a NaN. -/
def e4m3Units (b : Byte) : Option Int :=
  match decodeF .e4m3 b.toNat with
  | .fin neg m e => some (if neg then -((m * 2 ^ (e + 9).toNat : Nat) : Int) else ((m * 2 ^ (e + 9).toNat : Nat) : Int))
  | _ => none
/-- An FP32 value in units of 2^−149; 0 where it is not finite. -/
def fp32Units (b : Nat) : Int :=
  match decodeF .fp32 b with
  | .fin neg m e => if neg then -((m * 2 ^ (e + 149).toNat : Nat) : Int) else ((m * 2 ^ (e + 149).toNat : Nat) : Int)
  | _ => 0
/-- DAC codes of a vector and the exponent of s_in (for INT8, s_in is 127 and the codes are the elements); none where an element
is a NaN (R427, R429). -/
def dacCodes (v : PrismVector) : Option (List Int × Int) :=
  let l := v.elems.toList
  if v.fp8 then
    if l.any (fun b => (e4m3Units b).isNone) then none
    else
      let xs := l.map (fun b => (e4m3Units b).getD 0)
      let m := xs.foldl (fun m x => max m x.natAbs) 0
      if m = 0 then some (xs.map (fun _ => 0), 0)
      else
        let k := clog2 m
        some (xs.map (fun x => ratRound (127 * x) (2 ^ k)), (k : Int) - 9)
  else some (l.map (fun b => max (-127) (sgn 8 b.toNat)), 0)
/-- Exact sum of one row of a matrix against the codes, in units of 2^−149. -/
def rowSum (m : OmuImage) (i : Nat) (d : List Int) : Int :=
  d.zipIdx.foldl (fun a x => a + fp32Units (leAt m.data (4 * (128 * i + x.2)) 4) * x.1) 0
/-- ADC code of a row before it is clamped (R427, R428), with the noise drawn. -/
def adcRaw (m : OmuImage) (i : Nat) (d : List Int) (noise : Int) : Int :=
  ratRound (2 ^ m.gain * rowSum m i d) (fp32Units m.sigma).natAbs + noise
/-- The ADC's range. -/
def adcClamp (c : Int) : Int := max (-127) (min 127 c)
/-- y_i in BF16 (R427, R440): σ × s_in × c / (127 × g), rounded once to nearest, ties to even. For INT8 input s_in is 127. -/
def prismBf16 (m : OmuImage) (fp8 : Bool) (e : Int) (c : Int) : Nat :=
  let n := (fp32Units m.sigma).natAbs * c.natAbs * (if fp8 then 1 else 127) * 2 ^ 64
  roundFin .bf16 .nearest (c < 0) (n / 127) (e - 149 - 64 - m.gain) (n % 127 ≠ 0)
/-- The result of a vector: its bytes, the number of saturated codes, and the state with its noise drawn (R427 to R429). -/
def State.prismCompute (s : State) (m : OmuImage) (v : PrismVector) : List Byte × Nat × State :=
  match dacCodes v with
  | none => (if v.int8Out then List.replicate 128 0x80 else (List.range 128).flatMap (fun _ => leBytes 2 Fmt.bf16.nan), 0, s)
  | some (d, e) =>
    let raw := (List.range 128).map (fun i => adcRaw m i d (Config.prismNoise (s.freeCtr + i)))
    let c := raw.map adcClamp
    let out := if v.int8Out then c.map (fun x => BitVec.ofInt 8 x) else c.flatMap (fun x => leBytes 2 (prismBf16 m v.fp8 e x))
    (out, (raw.filter (fun x => adcClamp x ≠ x)).length, { s with freeCtr := s.freeCtr + 128 })

/-! ### Completion of vectors (R440 to R442) -/

/-- Give a stream tile's result frame its data, and store it where it is OK (R441, R442). -/
def State.streamResult (s : State) (w e k : Nat) (status : BitVec 5) (data : List Byte) : State :=
  let x := s.strm w e
  match x.cur with
  | none => s
  | some c =>
    match c.frames[k]? with
    | none => s
    | some t =>
      let f := { t.f with payload := data }
      let t' := { t with sent := true, f := f, done := if status = stOk then none else some (status, []) }
      let u := s.setStrm w e { x with cur := some { c with frames := c.frames.set k t' } }
      if status = stOk ∧ w < 4 ∧ e < 64 then u.atHome { via := .stream (Fin.ofNat 4 w) (Fin.ofNat 64 e), f := f } 0 else u

/-- Complete a vector: its result goes back the way the vector came (R436, R440). -/
def State.vecDone (s : State) (x : OmuVec) (status : BitVec 5) (data : List Byte) : State :=
  match x.owner with
  | .desk d k id =>
    let f := if h : k < 4 then (s.access d ⟨k, h⟩ id) else none
    match f with
    | none => s
    | some a =>
      if status = stOk ∧ (a.f.epoch ≠ s.epochOf d ∨ a.f.epoch.toNat % 256 = 0) then
        (((s.count (roomReg (roomOf d) crRoleDrop)).classFault (roomOf d) 2)).resultDesk d k id stRole []
      else s.resultDesk d k id status data
  | .stream w e k => s.streamResult w e k status data
  | .frame f => s.sendRouted 138 false (responseTo s.node f status 0 data)

/-- Complete the queued vectors that a test selects. -/
def State.dropVecs (s : State) (p : OmuVec → Bool) (status : BitVec 5) : State :=
  let gone := s.omu.queue.filter p
  ({ s with omu := { s.omu with queue := s.omu.queue.filter (fun x => !p x) } }).forAll gone (fun s x => s.vecDone x status [])
/-- Complete with NO_ROUTE the queued vectors that no Prism serves (R434, R440). -/
def State.dropUnserved (s : State) : State := s.dropVecs (fun x => !s.served_ x.v) stNoRoute

/-- A vector reaches the steering input (R431, R436, R440, R447). -/
def State.offer (s : State) (x : OmuVec) : State :=
  if s.strict then s.vecDone x stStrict []
  else if s.fenced 0 then s.vecDone x stFenced []
  else if !s.served_ x.v then s.vecDone x stNoRoute []
  else { s with omu := { s.omu with queue := s.omu.queue ++ [x] } }

/-! ### Prism frames (R437, R438) -/

/-- A modulator bank that carries no frame (R437). -/
def State.freeBank (s : State) : Option Nat :=
  (List.range 4).find? (fun b => !allPrisms.any (fun p => (s.prism p).frames.any (fun f => f.bank = b)))
/-- First queued vector of a requester. -/
def State.headVec (s : State) (r : Nat) (timed : Bool) : Option OmuVec := s.omu.queue.find? (fun x => x.v.requester.val = r && x.timed = timed)
/-- Consecutive vectors of a list that name the same matrix, up to n. -/
def sameMatrix (v : PrismVector) : Nat → List OmuVec → List OmuVec
  | 0, _ => []
  | _, [] => []
  | n + 1, x :: r => if x.v.name = v.name ∧ x.v.cohort = v.cohort then x :: sameMatrix v n r else []
/-- Remove the elements of a second list from a first, one occurrence each. -/
def removeVecs (l : List OmuVec) : List OmuVec → List OmuVec
  | [] => l
  | x :: r => removeVecs (l.erase x) r

/-- Form the frame of requester r that begins with its first queued vector and give it to Prism p on a bank (R437). -/
def State.grantFrame (s : State) (p : Fin 4) (bank r : Nat) (timed : Bool) : State :=
  match s.headVec r timed, (s.prism p).held with
  | some x, some m =>
    let vs := sameMatrix x.v 256 (s.omu.queue.filter (fun y => y.v.requester.val = r && y.timed = timed))
    let t := { s with omu := { s.omu with queue := removeVecs s.omu.queue vs } }
    let q := t.prism p
    let t := t.setPrism p { q with frames := q.frames ++ [({ vecs := vs, bank := bank, m := m, bad := q.unlocked } : PrismFrame)] }
    (t.addReg (prismReg p.val 0) vs.length).count (prismReg p.val 8)
  | _, _ => s

/-- One best-effort opportunity of a Prism's steering input (R438). -/
def State.prismOpportunity (s : State) (p : Fin 4) : State :=
  match s.freeBank with
  | none => s
  | some b =>
    let x := s.prism p
    if x.loading.isSome then s
    else
      let c := arbCfg (s.reg rOmuArb)
      let req := fun r => match s.headVec r false with
        | some v => x.serves v.v
        | none => false
      let (a, g) := arbStep 9 c req (fun r => c.high.testBit r) (fun _ => false) x.arb
      let t := s.setPrism p { x with arb := a }
      match g with
      | some r => t.grantFrame p b r false
      | none => t

/-- A frame slot that the timetable reserves on a Prism (R21, R438). -/
def State.prismSlot (s : State) (p : Fin 4) : State :=
  match s.freeBank, (List.range 9).find? (fun r => match s.headVec r true with
      | some v => (s.prism p).serves v.v
      | none => false) with
  | some b, some r => if (s.prism p).loading.isSome then s else s.grantFrame p b r true
  | _, _ => s.prismOpportunity p

/-! ### Loading at roll call (R434, R446, R447) -/

/-- Plan entry of a Prism in the current Lesson of the run. -/
def State.planOf (s : State) (p : Fin 4) : Option (BitVec 10 × BitVec 12) :=
  match s.bell.run with
  | none => none
  | some r => (r.tt.prisms.find? (fun x => x.prism = p && x.lesson = r.index)).map (fun x => (x.cohort, x.name))
/-- A Prism lets its matrix go, and any that it loads. -/
def State.prismDrop (s : State) (p : Fin 4) : State := (s.setPrism p { s.prism p with loading := none, plan := none }).prismHold p none
/-- Under STRICT no Prism holds a matrix: vectors that wait complete with NO_ROUTE (R361, R440). -/
def State.prismsDrop (s : State) : State := (s.forAll allPrisms State.prismDrop).dropUnserved
/-- Roll call DCLK 128 for one Prism. -/
def State.prismGapOne (s : State) (p : Fin 4) : State :=
  let x := s.prism p
  if s.strict || !s.omu.en || x.hot || !s.ready (readyPrism p.val) then s.prismDrop p
  else if s.bell.empty || s.prismDown p then s
  else
    let e := s.planOf p
    if e = x.plan ∧ (x.held.isSome ∨ e = none) then s
    else
      let m := match e with
        | some k => s.omu.images.find? (fun i => i.name = k.2 && i.cohort = k.1)
        | none => none
      (s.setPrism p { x with loading := m, plan := e }).prismHold p none
/-- Roll call DCLK 128: EN takes effect, changing Prisms begin to load, and vectors for departed matrices complete. -/
def State.prismGap (s : State) : State :=
  let t := { s with omu := { s.omu with en := s.regBit rOmuCtl 0 } }
  (t.forAll allPrisms (fun s p => s.prismGapOne p)).dropUnserved

/-! ### Meanings -/

/-- PRISM_SETTLED (R434). -/
def execPrismSettled (p : Fin 4) (s : State) : Host.Outcome State Fault Refusal :=
  let x := s.prism p
  .next (match x.loading with
    | some m => (s.setPrism p { x with loading := none }).prismHold p (some m)
    | none => s)

/-- OMU.MTX_INVAL as written. -/
def State.dropImage (s : State) (v : Word) : State :=
  { s with omu := { s.omu with images := s.omu.images.filter (fun i => i.name.toNat ≠ v.toNat % 4096) } }
/-- OMU_MTX_INVAL_WRITE (R433). -/
def execOmuMtxInvalWrite (v : BitVec 64) (s : State) : Host.Outcome State Fault Refusal := .next (s.bar0 (fun s => s.dropImage v))

/-- OMU_CTL_WRITE (R624): EN takes effect at the next roll call. -/
def execOmuCtlWrite (v : BitVec 64) (s : State) : Host.Outcome State Fault Refusal := .next (s.bar0 (fun s => s.writePlain rOmuCtl v allBits))

/-- VECTOR_FRAME (R436, R447): a frame that port 138 has delivered, with the vector it carries. -/
def execVectorFrame (f : Frame) (v : PrismVector) (s : State) : Host.Outcome State Fault Refusal :=
  .next (s.offer { v := { v with requester := 0 }, owner := .frame f, timed := f.vc = 0 })

/-- PRISM_FRAME_GRANT (R437, R438). -/
def execPrismFrameGrant (p : Fin 4) (s : State) : Host.Outcome State Fault Refusal := .next (s.prismOpportunity p)

/-- PRISM_RESULT (R427 to R429, R439 to R442, R445): the oldest frame of a Prism leaves it. -/
def execPrismResult (p : Fin 4) (s : State) : Host.Outcome State Fault Refusal :=
  let x := s.prism p
  .next (match x.frames with
    | [] => s
    | f :: rest =>
      let t := s.setPrism p { x with frames := rest }
      if f.bad then (t.addReg (prismReg p.val 0x20) f.vecs.length).forAll f.vecs (fun s v => s.vecDone v stDataErr [])
      else t.forAll f.vecs (fun s v =>
        let r := s.prismCompute f.m v.v
        (r.2.2.addReg (prismReg p.val 0x10) r.2.1).vecDone v stOk r.1))

/-- PRISM_LOCK_LOOP_UPDATE (R444, R445). -/
def execPrismLockLoopUpdate (p : Fin 4) (maxErrUrad : Nat) (s : State) : Host.Outcome State Fault Refusal :=
  let x := s.prism p
  .next (if x.unlocked then s
    else if maxErrUrad ≤ 30000 then s.setPrism p { x with errors := 0 }
    else if x.errors + 1 < 3 then s.setPrism p { x with errors := x.errors + 1 }
    else
      let t := s.setPrism p { x with errors := 0, unlocked := true, frames := x.frames.map (fun (f : PrismFrame) => { f with bad := true }) }
      ((t.count (prismReg p.val 0x18)).setRegBit (prismStat p) 1 false).omuUnlock)

/-- PRISM_RELOCKED (R445). -/
def execPrismRelocked (p : Fin 4) (s : State) : Host.Outcome State Fault Refusal :=
  let x := s.prism p
  .next (if x.unlocked ∧ ¬ s.prismDown p then (s.setPrism p { x with unlocked := false }).setRegBit (prismStat p) 1 true else s)

/-- PRISM_RELOCK_TIMEOUT (R445). -/
def execPrismRelockTimeout (p : Fin 4) (s : State) : Host.Outcome State Fault Refusal :=
  let x := s.prism p
  .next (if x.unlocked then
      ((((s.setPrism p { x with loading := none }).prismHold p none).setRegBit (prismStat p) 2 true).setReady (readyPrism p.val) false).dropUnserved
    else s)

/-- CAL_GRACE_EXPIRY (R446). -/
def execCalGraceExpiry (p : Fin 4) (s : State) : Host.Outcome State Fault Refusal :=
  .next (if s.regBit (prismStat p) 3 then s else (s.setRegBit (prismStat p) 3 true).omuUnlock)

end Sys2Proof.Machine
end

