-- ==== Sys2Proof/Machine/ChalkMem.lean ====
section
/-! DEFINITION. Chalk's local memory and fabric accesses: slots, translation, refusals at issue, departures, completions,
fences and pointer conversion ("Chalk Instruction Set", R287, R292 to R297, R306 to R309, R652; "Desks, Classrooms and
Wings", R246 to R250; "Address Translation and Stream Engines", R376 to R385, R392). -/

namespace Sys2Proof.Machine

/-! ### Timetabled slots (R292, R293) -/

/-- What a timetabled instruction's slot says. -/
inductive SlotUse where
  /-- Departs at its slot, the given index of the timetable's slots. -/
  | departs (index : Nat)
  /-- Issued late, or no slot left. -/
  | late
  /-- Another destination or region than the slot's. -/
  | mismatch
deriving DecidableEq, Repr

/-- The k-th slot of a lane in the active timetable, with its index among all slots (R292). -/
def State.laneSlot (s : State) (d : DeskId) (ln k : Nat) : Option (LaneSlot × Nat) :=
  match s.bell.run with
  | none => none
  | some r => ((r.tt.lanes.zipIdx.filter (fun x => x.1.desk = d && x.1.lane.val = ln))[k]?)

/-- Compare an instruction with the next slot of its lane; `region` absent: only the node is compared (R293). -/
def State.slotUse (s : State) (i : ChalkOp) (node : Nat) (region : Option Region) : SlotUse :=
  let d := s.desk (deskOf i)
  let n : Fin 16 := Fin.ofNat 16 (fTL i.w)
  match s.laneSlot i.desk n.val d.laneUse[n] with
  | none => .late
  | some (x, k) =>
    if 512 + x.depart < s.dcycle then .late
    else if x.node.toNat ≠ node ∨ (region.isSome ∧ region ≠ some x.region) then .mismatch
    else .departs k

/-- Region of an FPA, as slots name it (R292). -/
def State.regionOf (s : State) (fpa : Nat) : Region :=
  if 64 ≤ fpa / 2 ^ 44 then .endpoint else (s.whereIs (fpa % 2 ^ 44)).region

/-! ### Outstanding accesses (R246 to R250, R295, R297) -/

/-- Replace an access of a Seat. -/
def State.setAccess (s : State) (desk : Nat) (k : Fin 4) (a : Access) : State :=
  let d := s.desk desk
  let put := fun (b : Access) => if b.id = a.id then a else b
  let x := d.seats[k]
  s.setDesk desk { d with seats := d.seats.set k { x with acc := x.acc.map put }, left := d.left.map (fun e => (e.1, put e.2)) }
/-- A Seat whose state follows from its outstanding accesses. -/
def State.settleSeat (s : State) (desk : Nat) (k : Fin 4) : State := s.setSeat desk k (s.seat desk k).settle
/-- An access of a Classroom's Desk stays in the Classroom (R248). -/
def State.ownRoom (s : State) (desk : Nat) (f : Frame) : Bool :=
  f.opcode ≠ 3 && f.fpa.toNat / 2 ^ 44 = s.node.toNat && (match s.whereIs (f.fpa.toNat % 2 ^ 44) with
    | .blackboard r _ => r = roomOf desk
    | .slate d _ => roomOf d = roomOf desk
    | .inbox d _ => roomOf d = roomOf desk
    | _ => false)

/-- The Slate words that an access has read by now: one each DCLK from its first (R295). -/
def State.readWords (s : State) (desk : Nat) (a : Access) : Access :=
  match a.since with
  | none => a
  | some t =>
    let got := a.f.payload.length / 16
    let due := min (a.f.length.toNat / 16) ((s.now - t) / max 1 s.bell.stretch + 1)
    { a with f := { a.f with payload := a.f.payload ++ s.bytes (slateBase desk + 16 * (a.soff + got)) (16 * (due - got)) } }
/-- An access that sends Slate words reads the first of them now (R295). -/
def State.beginRead (s : State) (desk : Nat) (a : Access) : Access :=
  if a.reads then s.readWords desk { a with since := some s.now, f := { a.f with payload := [] } } else a

/-- Record the result of a completed access: registers or Slate, STAT, and the Seat's state (R249, R295, R297). Of a role that has
ended nothing is recorded (R47). -/
def State.complete (s : State) (desk : Nat) (k : Fin 4) (a : Access) (status : BitVec 5) (data : List Byte) : State :=
  let x := s.seat desk k
  if x.acc.all (fun b => b.id ≠ a.id) then s.setDesk desk { s.desk desk with left := (s.desk desk).left.filter (fun e => e.2.id ≠ a.id) }
  else
    let x := { x with acc := x.acc.filter (fun b => b.id ≠ a.id) }
    let write := a.kind.isLoad && status = stOk
    let y := if write && a.sz < 7 then x.load a.sz a.d data else x
    let y := if a.kind.last then y.record status true a.pc
             else if status = stOk then y else y.record status false a.pc
    let t := (s.setSeat desk k y.settle).collDesk desk status
    if write && a.kind = .omv then t.setBytes (slateBase desk + a.d) data
    else if write && a.sz = 7 then t.setBytes (slateBase desk + 16 * a.soff) data
    else t

/-- Perform a load or store of the Desk's own Blackboard (R258, R306); a store to a line that a collective holds is PERM (R339). -/
def State.performBb (s : State) (desk : Nat) (k : Fin 4) (a : Access) : State :=
  let at_ := bbBase (roomOf desk) + a.f.fpa.toNat
  let ls := linesOf at_ a.f.length.toNat
  let s := if a.timed then s else s.forAll ls (fun s l => s.bankTake (desk % 256) l)
  if a.kind = .bbLoad then s.complete desk k a stOk (s.bytes at_ a.f.length.toNat)
  else if ls.any (fun l => (s.collAt l).isSome) then s.complete desk k a stPerm []
  else (s.storeMem at_ a.f.payload).2.complete desk k a stOk []

/-- The vector that an OMV sends (R440). -/
def omvVector (a : Access) : PrismVector :=
  { requester := 0, cohort := a.f.cohort, name := BitVec.ofNat 12 a.f.fpa.toNat, fp8 := a.f.group = 4, int8Out := false,
    elems := Vector.ofFn (fun i : Fin 128 => a.f.payload.getD i.val 0), desk := none, dest := a.d, src := a.f.src }

/-! ### Order and admission (R65, R117 to R123, R308) -/

/-- An earlier access of the Seat to the same place is not performed: of a Blackboard access, one to the Blackboard or not yet
translated; of a frame, one of the other class to the same bytes (R117, R120, R123). Within the module the home keeps the order. -/
def State.clash (s : State) (desk : Nat) (a b : Access) : Bool :=
  b.result.isNone && b.kind ≠ .omv && (
    if a.isBoard then !b.translated || s.seatHolds desk [64 + roomOf desk] a b
    else if a.kind = .omv || s.inModule a.f || b.isBoard then false
    else if b.translated then b.timed != a.timed && bytesMeet a.f.fpa.toNat a.f.length.toNat b.f.fpa.toNat b.f.length.toNat
    else a.timed && bytesMeet a.fva a.f.length.toNat b.fva b.f.length.toNat)
/-- Accesses of the Seat before one of them. -/
def State.earlier (s : State) (desk : Nat) (k : Fin 4) (a : Access) : List Access :=
  (s.accesses desk k).takeWhile (fun b => b.id ≠ a.id)
/-- The Classroom's router admits a best-effort fabric access now: under stretch gating one each 256 DCLK (R65). -/
def State.admits (s : State) (desk : Nat) : Bool :=
  !s.bell.gate || (match (s.room (roomOf desk)).gateAt with
    | none => true
    | some t => decide (t + 256 * max 1 s.bell.stretch ≤ s.now))
/-- A queued access goes: its Slate words are read, no earlier access must be performed first, and a best-effort fabric access
follows every earlier one of its Seat and is admitted (R65, R117 to R123, R295). -/
def State.mayGo (s : State) (desk : Nat) (k : Fin 4) (a : Access) : Bool :=
  let before := s.earlier desk k a
  a.stage = .queued && a.full && !before.any (s.clash desk a)
    && (a.timed || a.isBoard || (before.all (fun b => b.timed || b.isBoard || b.stage = .sent) && s.admits desk))

/-- Send an access: to the Desk's Blackboard, over the Classroom's and Wing's networks, or as a frame (R120, R260). -/
def State.sendAccess (s : State) (desk : Nat) (k : Fin 4) (a : Access) : State :=
  if a.isBoard then s.performBb desk k a
  else
    let a := { a with stage := .sent }
    let s := s.setAccess desk k a
    let s := if s.bell.gate && !a.timed then s.setRoom (roomOf desk) { s.room (roomOf desk) with gateAt := some s.now } else s
    if a.kind = .omv then s.offer { v := omvVector a, owner := .desk desk k.val a.id, timed := a.timed }
    else if s.inModule a.f && (a.timed || a.f.opcode ≠ 3) then s.emit (.access desk k.val a.id)
    else if a.timed then s.sendTimed a.f (.desk desk k.val a.id)
    else s.submit 0 a.f (.desk desk k.val a.id)
/-- Send a Seat's queued accesses that may go, in program order. -/
def State.pumpSeat (s : State) (desk : Nat) (k : Fin 4) : State :=
  (s.forAll ((s.accesses desk k).map (fun a => a.id)) (fun s id => match s.access desk k id with
    | some a => if s.mayGo desk k a then s.sendAccess desk k a else s
    | none => s)).settleSeat desk k

/-- An access has something to do at the next DCLK: Slate words to read, or an admission to wait for. -/
def Access.due (a : Access) : Bool := a.stage = .queued || (a.since.isSome && !a.full)
/-- A DCLK passes for a Desk's accesses (R65, R295). -/
def State.tickDesk (s : State) (desk : Nat) : State :=
  let d := s.desk desk
  if d.left.any (fun e => e.2.due) || d.seats.toList.any (fun (x : Seat) => x.acc.any Access.due) then
    s.forAll [(0 : Fin 4), 1, 2, 3] (fun s k =>
      (s.forAll (s.accesses desk k) (fun s a => if a.due then s.setAccess desk k (s.readWords desk a) else s)).pumpSeat desk k)
  else s
/-- The block idles for one period of the unstretched DCLK, 1/3.3 ns (R28; DESIGN CHOICE, log 1): Desks read Slate words and their
routers admit what waits. -/
def State.idle (s : State) : State :=
  let t := { s with now := s.now + 1 }
  t.forAll (t.desks.map Prod.fst) State.tickDesk

/-! ### Refusals at issue and translation (R652) -/

/-- Consume the slot of a timetabled access and complete it with a status at issue. -/
def State.refuse (s : State) (i : ChalkOp) (op : Nat) (st : BitVec 5) (pc : BitVec 12) : State :=
  let t := if isTimed op i.w then s.useLane i else s
  t.putMe i ((t.me i).record st (accKind op).isLoad pc)

/-- Register a new access of the issuing Seat: its number and the state. -/
def State.newAccess (s : State) (i : ChalkOp) (a : Access) : Access × State :=
  let d := s.desk (deskOf i)
  let a := { a with id := d.nextId }
  let s := s.setDesk (deskOf i) { d with nextId := d.nextId + 1 }
  let x := s.me i
  (a, s.putMe i { x with acc := x.acc ++ [a] })

/-- The role epoch an access carries: that of its issue, only to a Slate or an inbox (R174, R296). -/
def State.withEpoch (s : State) (a : Access) (f : Frame) : Frame :=
  match (if f.fpa.toNat / 2 ^ 44 < 64 then s.whereIs (f.fpa.toNat % 2 ^ 44) else .hole) with
  | .slate _ _ => { f with epoch := a.epoch }
  | .inbox _ _ => { f with epoch := a.epoch }
  | _ => { f with epoch := 0 }

/-- The target is the Slate of another Desk of the Classroom (R308). -/
def State.neighbourSlate (s : State) (desk : Nat) (f : Frame) : Bool :=
  (f.opcode = 1 || f.opcode = 2) && f.fpa.toNat / 2 ^ 44 = s.node.toNat && (match s.whereIs (f.fpa.toNat % 2 ^ 44) with
    | .slate d _ => roomOf d = roomOf desk && d ≠ desk
    | _ => false)

/-- The mirror's size rule, known once an access is translated (R85). -/
def State.mirrorBad (s : State) (f : Frame) : Bool :=
  f.fpa.toNat / 2 ^ 44 < 64 && (match s.whereIs (f.fpa.toNat % 2 ^ 44) with
    | .mirror o => !shapeOk (.mirror o) f
    | _ => false)

/-- The pinned or other entry that translates a Desk's access, and the state with the micro-TLB refilled (R377, R378). -/
def State.lookup (s : State) (desk : Nat) (cohort : BitVec 10) (fva : Nat) (needW pinned : Bool) : Option Tlb × State :=
  let ok := fun (l : List Tlb) => tlbFind (l.filter (fun e => e.pinned || !pinned)) cohort fva needW false
  let room := roomOf desk
  match ok (s.room room).tlb with
  | some e => (some e, s)
  | none => match ok (s.wingTlb (room / 300)) with
    | some e => (some e, if pinned then s else s.putMicro room { e with pinned := false })
    | none => (none, s)

/-- A best-effort access that is translated: refused, or on its way (R308, R652). -/
def State.goLoose (s : State) (desk : Nat) (k : Fin 4) (a : Access) (e : Tlb) (fva : Nat) : State :=
  let fpa := Tlb.map e fva
  let f := s.withEpoch a { a.f with fpa := BitVec.ofNat 56 fpa, dst := BitVec.ofNat 12 (fpa / 2 ^ 44), vc := 1 }
  (if s.mirrorBad f then s.complete desk k a stAlign []
   else if s.neighbourSlate desk f then s.complete desk k a stPerm []
   else s.setAccess desk k { a with f := f, leaves := !s.ownRoom desk f, timed := false, stage := .queued }).pumpSeat desk k

/-- Begin a best-effort access: by the TLBs, or by a walk (R377, R378). -/
def State.startLoose (s : State) (desk : Nat) (k : Fin 4) (a : Access) (cohort : BitVec 10) (fva : Nat) : State :=
  match s.lookup desk cohort fva a.needW false with
  | (some e, t) => t.goLoose desk k a e fva
  | (none, t) =>
    let w := t.startWalk (.desk desk k.val a.id) cohort fva a.needW false
    (w.2.setAccess desk k { a with stage := .walking w.1, timed := false }).settleSeat desk k

/-- A walk for a Desk's access has ended (R378, R392). -/
def State.deskWalked (s : State) (desk : Nat) (k : Fin 4) (id : Nat) (w : Walk) : State :=
  match s.access desk k id with
  | none => s
  | some a =>
    match w.failed, w.done with
    | some x, _ => ((s.count rDeskFaults).complete desk k a x.status []).pumpSeat desk k
    | none, some e => ((s.putWing (roomOf desk / 300) e).putMicro (roomOf desk) e).goLoose desk k a e w.fva
    | none, none => s

/-- A timetabled access whose slot is gone, or whose translation is not pinned: STRICT, or the same access with T = 0
(R293, R383). -/
def State.goLate (s : State) (desk : Nat) (k : Fin 4) (a : Access) (cohort : BitVec 10) (fva : Nat) : State :=
  if s.strict then (s.complete desk k a stStrict []).pumpSeat desk k
  else s.startLoose desk k (s.beginRead desk { a with timed := false }) cohort fva

/-- The data an instruction sends from registers: its operands for FAT, D for stores (R287, R308). -/
def regPayload (op : Nat) (w : BitVec 56) (x : Seat) : List Byte :=
  if op = 0x62 then
    (if fAop w = 4 then x.data (fSZ w) (fB w) ++ x.data (fSZ w) (fB w + 1) else x.data (fSZ w) (fB w))
  else if (accKind op).isLoad then [] else x.data (fSZ w) (fD w)

/-- An ALIGN refusal at issue: R85, R88, R91 on the FVA, and the types of R308. -/
def alignBad (op : Nat) (w : BitVec 56) (f : Frame) : Bool :=
  !shapeOk .general f || (op = 0x62 && decide (3 ≤ fAop w) && fFmt w ≠ 0)

/-- A Seat whose new access leaves its Desk gives way to the next (R249): `x` is the Seat before the access. -/
def State.giveWay (u : State) (i : ChalkOp) (x : Seat) : State :=
  match (u.me i).acc.find? (fun b => (x.acc.any (fun y => y.id = b.id)) = false) with
  | some b => if b.leaves then u.switchSeat (deskOf i) i.seat else u
  | none => u

/-- An untimed fabric access: a release first waits for the Seat's earlier accesses (R308). -/
def State.fabricLoose (t : State) (i : ChalkOp) (a : Access) (c : BitVec 10) : State :=
  if a.isRelease && !(t.me i).acc.isEmpty then
    let p := t.newAccess i { a with stage := .draining }
    p.2.settleSeat (deskOf i) i.seat
  else
    let p := t.newAccess i (t.beginRead (deskOf i) a)
    p.2.startLoose (deskOf i) i.seat p.1 c a.fva

/-- A fabric access that has no slot, or has lost it: STRICT, or best-effort from here on (R293). -/
def State.fabricLate (t : State) (i : ChalkOp) (a : Access) (c : BitVec 10) : State :=
  let v := t.useLane i
  if v.strict then
    let p := v.newAccess i a
    p.2.complete (deskOf i) i.seat p.1 stStrict []
  else v.fabricLoose i { a with timed := false } c

/-- A timed fabric access: its translation, the mirror's shapes, and its slot (R292, R293, R307). -/
def State.fabricTimed (t : State) (op : Nat) (i : ChalkOp) (a : Access) (c : BitVec 10) : State :=
  match t.lookup (deskOf i) c a.fva a.needW true with
  | (none, v) => v.fabricLate i a c
  | (some e, v) =>
    let fpa := Tlb.map e a.fva
    let g := v.withEpoch a { a.f with fpa := BitVec.ofNat 56 fpa, dst := BitVec.ofNat 12 (fpa / 2 ^ 44) }
    if v.mirrorBad g then v.refuse i op stAlign a.pc
    else
      match v.slotUse i (fpa / 2 ^ 44) (some (v.regionOf fpa)) with
      | .mismatch => v.refuse i op stPerm a.pc
      | .late => v.fabricLate i a c
      | .departs q =>
        let b := { a with f := { g with seq := BitVec.ofNat 24 q }, leaves := !v.ownRoom (deskOf i) g,
                          stage := if a.isRelease && !(v.me i).acc.isEmpty then AccStage.draining else .slot }
        ((v.useLane i).newAccess i b).2.settleSeat (deskOf i) i.seat

/-- The access that a fabric instruction makes, before its translation (R307). -/
def State.fabricAccess (t : State) (op : Nat) (i : ChalkOp) (pc : BitVec 12) : Access :=
  let x := t.me i
  let fva := (x.sr (fA i.w)).toNat
  let n := sizeOf_ i.w
  let c := BitVec.ofNat 10 (t.cohortOf (deskOf i))
  let kind := accKind op
  let pay := if !kind.isLoad && fSZ i.w = 7 then t.bytes (slateBase (deskOf i) + 16 * fSoff i.w) n else regPayload op i.w x
  let f : Frame := { blankFrame with
    cohort := c, part := BitVec.ofNat 6 (t.cohortPart c.toNat), src := t.node, flags := memFlags op i.w,
    opcode := BitVec.ofNat 8 (memOp op i.w), vc := if fT i.w then 0 else 1, length := BitVec.ofNat 12 n, fpa := BitVec.ofNat 56 fva,
    group := if op = 0x64 then BitVec.ofNat 12 (x.sr (fB i.w)).toNat else 0, payload := pay }
  { id := 0, kind := kind, pc := pc, d := fD i.w, sz := fSZ i.w, soff := fSoff i.w, f := f, fva := fva,
    needW := memOp op i.w ≠ 1, timed := fT i.w, leaves := true, stage := .queued, result := none,
    epoch := BitVec.ofNat 16 t.lesson.toNat ++ x.rtag }

/-- A fabric access of R307 at issue: the refusals of R652 in order, and the access on its way. -/
def State.fabric (s : State) (op : Nat) (i : ChalkOp) : State :=
  s.issue op i (fun t pc =>
    let a := t.fabricAccess op i pc
    if !a.timed && t.strict then t.refuse i op stStrict pc
    else if alignBad op i.w a.f then t.refuse i op stAlign pc
    else
      let c := a.f.cohort
      (if !a.timed then t.fabricLoose i a c else t.fabricTimed op i a c).giveWay i (t.me i))

/-- FLD (R307). -/
def execChFld (i : ChalkOp) (s : State) : Host.Outcome State Fault Refusal := .next (s.fabric 0x60 i)
/-- FST (R307). -/
def execChFst (i : ChalkOp) (s : State) : Host.Outcome State Fault Refusal := .next (s.fabric 0x61 i)
/-- FAT (R308). -/
def execChFat (i : ChalkOp) (s : State) : Host.Outcome State Fault Refusal := .next (s.fabric 0x62 i)
/-- RED (R307). -/
def execChRed (i : ChalkOp) (s : State) : Host.Outcome State Fault Refusal := .next (s.fabric 0x63 i)
/-- MST (R307). -/
def execChMst (i : ChalkOp) (s : State) : Host.Outcome State Fault Refusal := .next (s.fabric 0x64 i)
/-- ACQ (R307). -/
def execChAcq (i : ChalkOp) (s : State) : Host.Outcome State Fault Refusal := .next (s.fabric 0x65 i)
/-- REL (R307, R308). -/
def execChRel (i : ChalkOp) (s : State) : Host.Outcome State Fault Refusal := .next (s.fabric 0x66 i)

/-- FENCE (R246, R247, R308): with nothing outstanding it completes at once. -/
def execChFence (i : ChalkOp) (s : State) : Host.Outcome State Fault Refusal :=
  .next (s.issueSeat 0x67 i (fun _ x => if x.acc.isEmpty then x else ({ x with fence := true } : Seat).settle))

/-- The first valid window that holds an address, and its conversion (R384). -/
def convert (l : List CvtWin) (reverse : Bool) (x : Nat) : Option Nat :=
  match l.find? (fun c =>
    let b := if reverse then c.fbase else c.hbase
    c.valid && decide (b ≤ x) && decide (x < b + c.len)) with
  | some c => some (if reverse then c.hbase + (x - c.fbase) else c.fbase + (x - c.hbase))
  | none => none

/-- CVTP (R309, R384, R385). -/
def execChCvtp (i : ChalkOp) (s : State) : Host.Outcome State Fault Refusal :=
  .next (s.issueSeat 0x68 i (fun t x =>
    let l := (((t.room (roomOf (deskOf i))).cvt.find? (fun e => e.1.toNat = t.cohortOf (deskOf i))).map Prod.snd).getD []
    match convert l (modBit i.w 0) (x.sr (fA i.w)).toNat with
    | some v => (x.setS (fD i.w) (BitVec.ofNat 64 v)).setP (fC i.w) true
    | none => x.setP (fC i.w) false))

/-- Slate offset of an OMV's results: S[B], a multiple of 16 within the Slate; for another the spec states no place, and they go to
a free one (R309, R311; DESIGN CHOICE, log 83). -/
def omvDest (b : Nat) : Nat := if b % 16 = 0 ∧ b + 256 ≤ 6144 then b else 16 * (Config.omvDest b % 369)
/-- The access of an OMV (R309, R440): its frame holds the matrix name as FPA and TYPE as group, and D is the destination offset. -/
def State.omvAccess (t : State) (i : ChalkOp) (pc : BitVec 12) : Access :=
  let x := t.me i
  let e := BitVec.ofNat 16 t.lesson.toNat ++ x.rtag
  { id := 0, kind := .omv, pc := pc, d := omvDest (x.sr (fB i.w)).toNat, sz := 7, soff := fSoff i.w,
    f := { blankFrame with
      cohort := BitVec.ofNat 10 (t.cohortOf (deskOf i)), src := t.node, length := 128, group := BitVec.ofNat 12 (fFmt i.w),
      vc := if fT i.w then 0 else 1, fpa := BitVec.ofNat 56 ((x.sr (fA i.w)).toNat % 2 ^ 12), epoch := e },
    fva := 0, needW := false, timed := fT i.w, leaves := true, stage := .queued, result := none, epoch := e }
/-- Begin an OMV without a slot. -/
def State.omvLoose (v : State) (i : ChalkOp) (a : Access) : State :=
  (v.newAccess i (v.beginRead (deskOf i) { a with timed := false })).2.pumpSeat (deskOf i) i.seat

/-- OMV (R309, R440). -/
def execChOmv (i : ChalkOp) (s : State) : Host.Outcome State Fault Refusal :=
  .next (s.issue 0x69 i (fun t pc =>
    if t.strict then t.refuse i 0x69 stStrict pc
    else
      let a := t.omvAccess i pc
      (if !a.timed then t.omvLoose i a
       else match t.slotUse i t.node.toNat none with
         | .mismatch => t.refuse i 0x69 stPerm pc
         | .late => (t.useLane i).omvLoose i a
         | .departs _ => ((t.useLane i).newAccess i { a with stage := .slot }).2.settleSeat (deskOf i) i.seat).giveWay i (t.me i)))

/-! ### Local memory (R306) -/

/-- Offset of SLD, SST, BBLD and BBST: S[A] + IMM12 × 16. -/
def localOff (w : BitVec 56) (x : Seat) : Nat := ((x.sr (fA w)).toNat + 16 * fImm12 w) % 2 ^ 64
/-- ALIGN of SLD and SST. -/
def slateBad (w : BitVec 56) (off : Nat) : Bool :=
  let n := sizeOf_ w
  decide (6144 < off + n) || (if fSZ w ≤ 4 then decide (16 < off % 16 + n) else off % n ≠ 0)
/-- ALIGN of BBLD and BBST. -/
def boardBad (w : BitVec 56) (off : Nat) : Bool :=
  let n := sizeOf_ w
  decide (2 ^ 18 < off + n) || (if fSZ w < 7 then decide (64 < off % 64 + n) else off % 16 ≠ 0)

/-- SLD (R306). -/
def execChSld (i : ChalkOp) (s : State) : Host.Outcome State Fault Refusal :=
  .next (s.issue 0x70 i (fun t pc =>
    let x := t.me i
    let off := localOff i.w x
    t.putMe i (if slateBad i.w off then x.record stAlign true pc
      else (x.load (fSZ i.w) (fD i.w) (t.bytes (slateBase (deskOf i) + off) (sizeOf_ i.w))).record stOk true pc)))
/-- SST (R306). -/
def execChSst (i : ChalkOp) (s : State) : Host.Outcome State Fault Refusal :=
  .next (s.issue 0x71 i (fun t pc =>
    let x := t.me i
    let off := localOff i.w x
    if slateBad i.w off then t.putMe i (x.record stAlign true pc)
    else (t.setBytes (slateBase (deskOf i) + off) (x.data (fSZ i.w) (fD i.w))).putMe i (x.record stOk true pc)))

/-- BBLD or BBST at issue (R293, R295, R306): with T = 0 at once, SZ 7 stores once their words are read; with T = 1 at its slot. -/
def State.board (s : State) (op : Nat) (i : ChalkOp) : State :=
  s.issue op i (fun t pc =>
    let desk := deskOf i
    let x := t.me i
    let off := localOff i.w x
    let n := sizeOf_ i.w
    let end_ := fun (v : State) (st : BitVec 5) => v.putMe i ((v.me i).record st true pc)
    if boardBad i.w off then end_ (if fT i.w then t.useLane i else t) stAlign
    else
      let a : Access := { id := 0, kind := accKind op, pc := pc, d := fD i.w, sz := fSZ i.w, soff := fSoff i.w,
                          f := { blankFrame with length := BitVec.ofNat 12 n, fpa := BitVec.ofNat 56 off,
                                                 payload := if op = 0x73 ∧ fSZ i.w < 7 then x.data (fSZ i.w) (fD i.w) else [] },
                          fva := 0, needW := op = 0x73, timed := fT i.w, leaves := false, stage := .queued, result := none }
      let go := fun (v : State) => (v.newAccess i (v.beginRead desk { a with timed := false })).2.pumpSeat desk i.seat
      if !fT i.w then go t
      else match t.slotUse i t.node.toNat (some .blackboard) with
        | .mismatch => end_ (t.useLane i) stPerm
        | .late => if t.strict then end_ (t.useLane i) stStrict else go (t.useLane i)
        | .departs _ => ((t.useLane i).newAccess i { a with stage := .slot }).2)

/-- BBLD (R306). -/
def execChBbld (i : ChalkOp) (s : State) : Host.Outcome State Fault Refusal := .next (s.board 0x72 i)
/-- BBST (R306). -/
def execChBbst (i : ChalkOp) (s : State) : Host.Outcome State Fault Refusal := .next (s.board 0x73 i)

/-! ### Departures, completions and fences -/

/-- Depart at the slot: a fabric access if its translation is still pinned and no earlier access to its bytes is outstanding in the
other class (R117, R123, R293, R383). -/
def State.depart (s : State) (desk : Nat) (k : Fin 4) (a : Access) : State :=
  let b := { s.beginRead desk a with stage := .queued }
  if a.isBoard || a.kind = .omv
      || ((s.lookup desk a.f.cohort a.fva a.needW true).1.isSome && !(s.earlier desk k a).any (s.clash desk b)) then
    (s.setAccess desk k b).pumpSeat desk k
  else s.goLate desk k a a.f.cohort a.fva

/-- An access of a Seat that waits for its slot departs (R293). -/
def State.departAccess (s : State) (desk id : Nat) (k : Fin 4) : State :=
  match s.access desk k id with
  | some a => if a.stage = .slot then s.depart desk k a else s
  | none => s
/-- Accesses that wait at homes for an earlier one of their Seat go on (R120). -/
def State.homesGo (s : State) : State := if s.coh.waitq.isEmpty then s else s.runWaiting

/-- TIMETABLED_DEPARTURE (R293). -/
def execTimetabledDeparture (d : DeskId) (id : Nat) (s : State) : Host.Outcome State Fault Refusal :=
  .next (if s.bell.phase ≠ .body then s else
    (s.forAll [(0 : Fin 4), 1, 2, 3] (fun s k => s.departAccess (DeskId.idx d) id k)).homesGo)

/-- ACCESS_COMPLETION (R249): the result that an access's target has returned is recorded; without one it has not been performed, and
nothing completes (R128, R131). What is recorded is the target's own result, which the state holds, whatever status and data the row
reports (DESIGN CHOICE, log 87). -/
def execAccessCompletion (d : DeskId) (seat : Fin 4) (id : Nat) (_status : BitVec 5) (_data : List Byte) (s : State) : Host.Outcome State Fault Refusal :=
  .next (match s.access (DeskId.idx d) seat id with
    | none => s
    | some a => match a.result with
      | none => s
      | some r => ((s.complete (DeskId.idx d) seat a r.1 r.2).pumpSeat (DeskId.idx d) seat).homesGo)

/-- The slot that a timetabled access took has gone by (R293). -/
def State.slotPast (s : State) (a : Access) : Bool :=
  match s.bell.run with
  | none => true
  | some r => match r.tt.lanes[a.f.seq.toNat]? with
    | none => true
    | some x => decide (512 + x.depart < s.dcycle)
/-- FENCE_REL_DRAINED (R293, R308): every earlier access of the Seat has completed; the fence completes, or the release departs. -/
def execFenceRelDrained (d : DeskId) (seat : Fin 4) (s : State) : Host.Outcome State Fault Refusal :=
  let desk := DeskId.idx d
  let x := s.seat desk seat
  .next (match x.acc with
    | [] => if x.fence then s.setSeat desk seat ({ x with fence := false } : Seat).settle else s
    | [a] =>
      if a.stage ≠ .draining then s
      else if !a.timed then s.startLoose desk seat (s.beginRead desk a) a.f.cohort a.fva
      else if s.slotPast a then s.goLate desk seat a a.f.cohort a.fva
      else (s.setAccess desk seat { a with stage := .slot }).settleSeat desk seat
    | _ => s)

end Sys2Proof.Machine
end

