-- ==== Sys2Proof/Machine/Stream.lean ====
section
/-! DEFINITION. Stream engines: starts, tiles, faults and save records, parking and resumes ("Address Translation and Stream
Engines", R386 to R401; R101 to R104, R346, R441, R442). -/

namespace Sys2Proof.Machine

/-! ### Descriptor fields (R387) -/

def srcKind (d : StreamDesc) : Nat := d.kind.toNat % 4
def dstKind (d : StreamDesc) : Nat := d.kind.toNat / 4 % 4
def descOp (d : StreamDesc) : Nat := d.op.toNat % 16
def descTimed (d : StreamDesc) : Bool := d.flags.getLsbD 0
def descResume (d : StreamDesc) : Bool := d.flags.getLsbD 1
def descAcq (d : StreamDesc) : Bool := d.flags.getLsbD 2
def descRel (d : StreamDesc) : Bool := d.flags.getLsbD 3
def descScope (d : StreamDesc) : Nat := d.flags.toNat / 16 % 8
/-- Bytes of a row, rows of a tile, bytes of a tile. -/
def rowBytes (d : StreamDesc) : Nat := d.rowLen.toNat + 1
def rowCount (d : StreamDesc) : Nat := d.rows.toNat + 1
def tileBytes (d : StreamDesc) : Nat := rowBytes d * rowCount d
/-- Result area of a Prism transfer (R441). -/
def prismRes (d : StreamDesc) : Nat := fget d.dst 16 44
/-- Bytes of one vector's result (R441). -/
def prismOut (d : StreamDesc) : Nat := if d.dst.getLsbD 12 then 128 else 256

/-- The 64 bytes of a descriptor; bytes 61 to 63 as given (R387, R401). -/
def descBytes (d : StreamDesc) (b61 b62 : Nat) : List Byte :=
  leBytes 8 d.src.toNat ++ leBytes 8 d.dst.toNat ++ leBytes 2 d.rowLen.toNat ++ leBytes 2 d.rows.toNat
    ++ leBytes 4 d.srcStride.toNat ++ leBytes 4 d.dstStride.toNat ++ leBytes 4 d.tiles.toNat
    ++ leBytes 4 d.srcTstep.toNat ++ leBytes 4 d.dstTstep.toNat ++ leBytes 8 d.done.toNat ++ leBytes 4 d.id.toNat
    ++ leBytes 2 d.cohort.toNat ++ leBytes 1 d.kind.toNat ++ leBytes 1 d.op.toNat ++ leBytes 1 d.flags.toNat
    ++ leBytes 1 d.ahead.toNat ++ leBytes 2 d.group.toNat ++ leBytes 1 d.rtag.toNat ++ leBytes 1 b61 ++ leBytes 1 b62 ++ leBytes 1 0
/-- The descriptor that 64 bytes hold. -/
def descOfBytes (l : List Byte) : StreamDesc :=
  { src := BitVec.ofNat 64 (leAt l 0 8), dst := BitVec.ofNat 64 (leAt l 8 8), rowLen := BitVec.ofNat 16 (leAt l 16 2),
    rows := BitVec.ofNat 16 (leAt l 18 2), srcStride := BitVec.ofNat 32 (leAt l 20 4), dstStride := BitVec.ofNat 32 (leAt l 24 4),
    tiles := BitVec.ofNat 32 (leAt l 28 4), srcTstep := BitVec.ofNat 32 (leAt l 32 4), dstTstep := BitVec.ofNat 32 (leAt l 36 4),
    done := BitVec.ofNat 64 (leAt l 40 8), id := BitVec.ofNat 32 (leAt l 48 4), cohort := BitVec.ofNat 10 (leAt l 52 2),
    kind := BitVec.ofNat 8 (leAt l 54 1), op := BitVec.ofNat 8 (leAt l 55 1), flags := BitVec.ofNat 8 (leAt l 56 1),
    ahead := BitVec.ofNat 8 (leAt l 57 1), group := BitVec.ofNat 12 (leAt l 58 2), rtag := BitVec.ofNat 8 (leAt l 60 1) }
/-- A descriptor advanced to the start of its tile t (R393, R399, R401). -/
def advance (d : StreamDesc) (t : Nat) : StreamDesc :=
  { d with src := d.src + BitVec.ofNat 64 (t * d.srcTstep.toNat)
           dst := if dstKind d = 2 then fset d.dst 16 44 (prismRes d + t * d.dstTstep.toNat) else d.dst + BitVec.ofNat 64 (t * d.dstTstep.toNat)
           tiles := d.tiles - BitVec.ofNat 32 t }

/-! ### Start checks (R101, R388, R441) -/

/-- R101 for one side. -/
def tileOk (d : StreamDesc) (stride : Nat) : Bool := decide (tileBytes d ≤ 2 ^ 23) && decide (rowBytes d ≤ stride)
/-- The ALIGN row of R388, with R441's. -/
def descAligned (d : StreamDesc) : Bool :=
  tileOk d d.srcStride.toNat && (dstKind d = 2 || tileOk d d.dstStride.toNat)
    && decide (1 ≤ d.tiles.toNat) && decide (d.tiles.toNat * tileBytes d ≤ 2 ^ 32)
    && decide (descOp d ≤ 2) && decide (d.op.toNat / 16 ≤ 7) && decide (srcKind d ≤ 1) && decide (dstKind d ≤ 2)
    && (descOp d ≠ 1 || opcodeLegal (0x10 + d.op.toNat / 16))
    && (!(descAcq d || descRel d) || inRange 1 5 (descScope d))
    && (dstKind d ≠ 2 || (rowBytes d % 128 = 0 && descOp d = 0))
/-- The module-offset lines of every row of every tile lie where R388 admits them: a Blackboard, or with T a Slate. -/
def State.offsetOk (s : State) (d : StreamDesc) (a step stride : Nat) : Bool :=
  (List.range d.tiles.toNat).all (fun t => (List.range (rowCount d)).all (fun r =>
    (linesOf (a + t * step + r * stride) (rowBytes d)).all (fun l => match s.whereIs (64 * l) with
      | .blackboard _ _ => true
      | .slate _ _ => descTimed d
      | _ => false)))
/-- First row of R388 that fails. -/
def State.startRefusal (s : State) (d : StreamDesc) : Option (BitVec 5) :=
  if s.strict && dstKind d = 2 then some stStrict
  else if s.strict && !descTimed d then some stStrict
  else if !descAligned d then some stAlign
  else if (srcKind d = 1 && !s.offsetOk d d.src.toNat d.srcTstep.toNat d.srcStride.toNat)
      || (dstKind d = 1 && !s.offsetOk d d.dst.toNat d.dstTstep.toNat d.dstStride.toNat) then some stPerm
  else none

/-! ### The pieces of a tile (R102) -/

/-- Split `n` bytes at address `a` at 2,048-byte boundaries: offset in the packed tile, address, length. -/
def splitRow : Nat → Nat → Nat → Nat → List (Nat × Nat × Nat)
  | 0, _, _, _ => []
  | k + 1, off, a, n =>
    if n = 0 then []
    else
      let m := min n (2048 - a % 2048)
      (off, a, m) :: splitRow k (off + m) (a + m) (n - m)
/-- The pieces of a tile that begins at `a`, rows `stride` apart. -/
def tilePieces (a n rows stride : Nat) : List (Nat × Nat × Nat) :=
  (List.range rows).flatMap (fun r => splitRow (n / 2048 + 2) (r * n) (a + r * stride) n)
/-- Source pieces of tile t. -/
def srcPieces (d : StreamDesc) (t : Nat) : List (Nat × Nat × Nat) :=
  tilePieces (d.src.toNat + t * d.srcTstep.toNat) (rowBytes d) (rowCount d) d.srcStride.toNat
/-- Destination pieces of tile t: those of memory, or one for each vector of a Prism transfer (R441). -/
def dstPieces (d : StreamDesc) (t : Nat) : List (Nat × Nat × Nat) :=
  if dstKind d = 2 then
    (List.range (rowCount d)).flatMap (fun r => (List.range (rowBytes d / 128)).map (fun v =>
      (r * rowBytes d + 128 * v, prismRes d + t * d.dstTstep.toNat + r * d.dstStride.toNat + v * prismOut d, 128)))
  else tilePieces (d.dst.toNat + t * d.dstTstep.toNat) (rowBytes d) (rowCount d) d.dstStride.toNat

/-! ### Translation of a tile (R377, R383, R389) -/

/-- Pages of tile t with their side that need translation, in the order in which a fault record names them. -/
def tilePages (d : StreamDesc) (t : Nat) : List (Nat × Bool) :=
  (if srcKind d = 0 then (srcPieces d t).map (fun p => (p.2.1 / 4096 * 4096, false)) else [])
    ++ (if dstKind d = 0 then (dstPieces d t).map (fun p => (p.2.1 / 4096 * 4096, true)) else [])
/-- The entry of a tile map or of the Wing TLB for a page. -/
def State.tileEntry (s : State) (w : Nat) (c : Xfer) (fva : Nat) (dst : Bool) : Option Tlb :=
  match tlbFind (if dst then c.dmap else c.smap) c.d.cohort fva dst false with
  | some e => some e
  | none => tlbFind (s.wingTlb w) c.d.cohort fva dst false
/-- Fill the tile maps from the Wing TLB as far as the first page that lacks a translation: the transfer, and that page. -/
def State.fillMaps (s : State) (w : Nat) : Xfer → List (Nat × Bool) → Xfer × Option (Nat × Bool)
  | c, [] => (c, none)
  | c, p :: r =>
    match tlbFind (if p.2 then c.dmap else c.smap) c.d.cohort p.1 p.2 false with
    | some _ => s.fillMaps w c r
    | none => match tlbFind (s.wingTlb w) c.d.cohort p.1 p.2 false with
      | some e => s.fillMaps w (if p.2 then { c with dmap := c.dmap ++ [e] } else { c with smap := c.smap ++ [e] }) r
      | none => (c, some p)
/-- Every page of a timetabled tile is pinned (R383). -/
def State.tilePinned (s : State) (w : Nat) (c : Xfer) : Bool :=
  (tilePages c.d c.tile).all (fun p =>
    (tlbFind ((s.wingTlb w).filter (fun e => e.pinned)) c.d.cohort p.1 p.2 false).isSome)
/-- The tile is to be sent timetabled (R383, R398). -/
def State.tileTimed (s : State) (w : Nat) (c : Xfer) : Bool := descTimed c.d && !c.loose && s.tilePinned w c

/-! ### Frames of an engine -/

/-- A frame of an engine to an FPA: role epoch for a Slate (R389), class, and index (R191). -/
def State.streamFrame (s : State) (d : StreamDesc) (timed : Bool) (op n fpa : Nat) (flags : BitVec 3) : Frame :=
  let slate := fpa / 2 ^ 44 < 64 && (match s.whereIs (fpa % 2 ^ 44) with
    | .slate _ _ => true
    | .inbox _ _ => true
    | _ => false)
  { blankFrame with
    cohort := d.cohort, part := BitVec.ofNat 6 (s.cohortPart d.cohort.toNat), dst := BitVec.ofNat 12 (fpa / 2 ^ 44), src := s.node,
    flags := flags, opcode := BitVec.ofNat 8 op, vc := if timed then 0 else 1, length := BitVec.ofNat 12 n,
    fpa := BitVec.ofNat 56 fpa, group := if op = 3 then d.group else 0,
    seq := if timed then BitVec.ofNat 24 d.id.toNat else 0,
    epoch := if slate then BitVec.ofNat 16 s.lesson.toNat ++ d.rtag else 0 }
/-- Put a frame of engine e of Wing w on its way (R120, R389). -/
def State.streamSend (s : State) (w e : Nat) (f : Frame) : State :=
  if s.inModule f && (f.vc = 0 || f.opcode ≠ 3) then
    let x := s.strm w e
    (s.setStrm w e { x with net := x.net ++ [f] }).emit (.streamAccess w e f)
  else if f.vc = 0 then s.sendTimed f (.stream w e)
  else s.submit 0 f (.stream w e)
/-- New timetabled frames leave in the body alone, or before any Lesson has begun (R31). -/
def State.timedPhase (s : State) : Bool := s.bell.phase = .body || s.bell.phase = .idle

/-! ### The end of a transfer (R390) -/

/-- The engine has sent an access that is not yet performed (R128). -/
def State.streamBusy (s : State) (w e : Nat) : Bool :=
  let mine := fun (o : Owner) => match o with
    | .stream n k => n = w && k = e
    | _ => false
  !(s.strm w e).net.isEmpty || s.fab.tt.any (fun r => mine r.owner)
    || s.fab.pairs.any (fun p => decide (p.1 < 4096) && (p.2.sent ++ p.2.waiting).any (fun r => mine r.owner))
/-- Write a completion word through a translation of DONE. -/
def State.writeDone (s : State) (w e : Nat) (d : StreamDesc) (status : BitVec 5) (t : Tlb) : State :=
  let f := s.streamFrame d (descTimed d && t.pinned) 2 8 (Tlb.map t d.done.toNat) (if descRel d then 1 else 0)
  s.streamSend w e { f with payload := leBytes 8 (status.toNat * 2 ^ 32 + d.id.toNat) }
/-- Write an engine's completion words in order as far as they may go: each once DONE is translated, a timetabled one in the body, a
release once everything the engine has sent is performed (R31, R119, R128, R390). `k` bounds those written at once. -/
def State.goEnds (s : State) (w e : Nat) : Nat → State
  | 0 => s
  | k + 1 =>
    let x := s.strm w e
    match x.ends with
    | (d, st, none) :: rest =>
      (match tlbFind (s.wingTlb w) d.cohort d.done.toNat true false with
       | none =>
         let r := s.startWalk (.stream w e) d.cohort d.done.toNat true false
         r.2.setStrm w e { r.2.strm w e with ends := (d, st, some r.1) :: rest }
       | some t =>
         if (descRel d && s.streamBusy w e) || (descTimed d && t.pinned && !s.timedPhase) then s
         else ((s.setStrm w e { x with ends := rest }).writeDone w e d st t).goEnds w e k)
    | _ => s
/-- The completion words of an engine that may be written now. -/
def State.endsGo (s : State) (w e : Nat) : State := s.goEnds w e (s.strm w e).ends.length
/-- End a transfer: its completion word is written to DONE once that is translated; a DONE that no table maps takes no word. -/
def State.endXfer (s : State) (w e : Nat) (d : StreamDesc) (status : BitVec 5) (loose : Bool) : State :=
  if d.done = 0 then s
  else
    let x := s.strm w e
    let d := if loose then { d with flags := d.flags &&& 0xFE } else d
    (s.setStrm w e { x with ends := x.ends ++ [(d, status, none)] }).endsGo w e
/-- The engine's current transfer ends with a status. -/
def State.finishXfer (s : State) (w e : Nat) (status : BitVec 5) : State :=
  let x := s.strm w e
  match x.cur with
  | none => s
  | some c => ((s.setStrm w e { x with cur := none }).collTransfer c.coll status).endXfer w e c.d status c.loose

/-! ### What a transfer carries of a collective (R342, R346, R347, R352) -/

/-- FPA of a piece's address on one side. -/
def State.pieceFpa (s : State) (c : Xfer) (dst : Bool) (a : Nat) : Nat :=
  if (if dst then dstKind c.d else srcKind c.d) = 0 then
    (match tlbFind (if dst then c.dmap else c.smap) c.d.cohort a dst false with
     | some e => Tlb.map e a
     | none => 0)
  else s.node.toNat * 2 ^ 44 + a % 2 ^ 44

/-- The collective that a transfer carries something of: it sends the group its result, its source or destination lies in a region or
in a vote or verdict line. A region's and a verdict line's offset is taken to be the same on each member (DESIGN CHOICE, log 48). -/
def State.collOf (s : State) (d : StreamDesc) (src dst : Nat) : Option (BitVec 32) :=
  let home := fun (a : Nat) => a / 2 ^ 44 = s.node.toNat
  (s.colls.find? (fun e =>
    let c := e.2.desc
    let region := fun (a : Nat) => decide (c.region ≤ a % 2 ^ 44) && decide (a % 2 ^ 44 < c.region + 64 * c.lines)
    let member := fun (a : Nat) => a / 2 ^ 44 = c.root.toNat || (s.mcMembers c.group.toNat).any (fun n => a / 2 ^ 44 = n.toNat) || home a
    let o := dst % 2 ^ 44
    (descOp d = 2 && c.kind.toNat ≠ 0 && d.group = c.group)
      || (home src && region src) || (descOp d ≠ 2 && dstKind d ≠ 2 && member dst && region dst)
      || (dst / 2 ^ 44 = c.root.toNat && decide (c.vote ≤ o) && decide (o < c.vote + 64))
      || (member dst && decide (c.verdict ≤ o) && decide (o < c.verdict + 64)))).map (fun e => e.2.desc.id)
/-- The collective of a transfer, as far as its tile is translated. -/
def State.collOfXfer (s : State) (c : Xfer) : Option (BitVec 32) :=
  match c.coll with
  | some i => some i
  | none => s.collOf c.d (((srcPieces c.d c.tile).head?.map (fun p => s.pieceFpa c false p.2.1)).getD 0)
      (((dstPieces c.d c.tile).head?.map (fun p => s.pieceFpa c true p.2.1)).getD 0)

/-! ### The save area (R393, R399 to R401) -/

/-- FLT.SAVE.BASE and COUNT. -/
def State.saveBase (s : State) : Nat := s.regF rFltSave 6 34 * 64
def State.saveCount (s : State) : Nat := s.regF rFltSave 48 13
/-- STATE of a save record. -/
def State.saveState (s : State) (i : Nat) : Nat := s.peekNum (s.saveBase + 64 * i + 61) 1 % 4
/-- The record numbers of the save area. -/
def State.saveRecords (s : State) : List Nat := List.range (min s.saveCount 4096)
/-- The lowest free record. -/
def State.freeSave (s : State) : Option Nat := s.saveRecords.find? (fun i => s.saveState i = 0)
/-- Write a record. -/
def State.putSave (s : State) (i st w e : Nat) (d : StreamDesc) : State := s.poke (s.saveBase + 64 * i) (descBytes d (st + 4 * w) e)
/-- Change the state of a record. -/
def State.setSaveState (s : State) (i st : Nat) : State :=
  let a := s.saveBase + 64 * i + 61
  s.poke a (leBytes 1 (s.peekNum a 1 / 4 * 4 + st))
/-- The descriptor of a record. -/
def State.savedDesc (s : State) (i : Nat) : StreamDesc := descOfBytes (s.peek (s.saveBase + 64 * i) 64)
/-- Wing and engine of a record. -/
def State.savedBy (s : State) (i : Nat) : Nat × Nat :=
  (s.peekNum (s.saveBase + 64 * i + 61) 1 / 4 % 4, s.peekNum (s.saveBase + 64 * i + 62) 1 % 64)

/-- A tile whose translation failed: saved with its record posted, or stalled (R393 to R396). -/
def State.tileFault (s : State) (w e : Nat) (c : Xfer) (x : XFault) (fva : Nat) (dst : Bool) : State :=
  let y := s.strm w e
  let stall := fun (s : State) => s.setStrm w e { y with cur := some { c with stage := .stalled, walks := [], smap := [], dmap := [] } }
  if s.faultFull then stall (s.count rFltOvf)
  else match s.freeSave with
    | none => stall (s.countWrap rFltStatus 32 32)
    | some i =>
      let t := (s.setStrm w e { y with cur := none }).putSave i 1 w e (advance c.d c.tile)
      let t := { t with xl := { t.xl with faultSt := tput (fun _ => 0) t.xl.faultSt i x.status.toNat,
                                          faultOf := tput (fun _ => none) t.xl.faultOf i (s.collOfXfer c) } }
      t.postFault (faultRecord fva c.d.id.toNat c.tile c.d.cohort.toNat x dst w e false i)

/-- Look for the pages of the current tile: STRICT, ALIGN, the first missing page's walk, or a tile ready to be sent
(R383, R389). -/
def State.seek (s : State) (w e : Nat) : State :=
  let x := s.strm w e
  match x.cur with
  | none => s
  | some c =>
    if c.stage = .translating ∧ c.walks.isEmpty then
      if descTimed c.d && !c.loose && s.strict && !s.tilePinned w c then s.finishXfer w e stStrict
      else
        let r := s.fillMaps w c (tilePages c.d c.tile)
        if 512 < r.1.smap.length ∨ 512 < r.1.dmap.length then s.finishXfer w e stAlign
        else match r.2 with
          | none => s.setStrm w e { x with cur := some r.1 }
          | some p =>
            let k := s.startWalk (.stream w e) c.d.cohort p.1 p.2 false
            k.2.setStrm w e { x with cur := some { r.1 with walks := [k.1] } }
    else s

/-- A walk of a stream engine has ended (R377, R389, R393). -/
def State.streamWalked (s : State) (w e : Nat) (k : Walk) : State :=
  let s := match k.done with
    | some t => if k.failed.isSome then s else s.putWing w t
    | none => s
  let x := s.strm w e
  match x.ends.find? (fun n => n.2.2 = some k.id) with
  | some _ =>
    let ok := k.failed.isNone && k.done.isSome
    (s.setStrm w e { x with ends := x.ends.filterMap (fun m =>
      if m.2.2 = some k.id then (if ok then some (m.1, m.2.1, none) else none) else some m) }).endsGo w e
  | none =>
    match x.cur with
    | none => s
    | some c =>
      if c.walks.contains k.id then
        let c := { c with walks := [] }
        let s := s.setStrm w e { x with cur := some c }
        match k.failed with
        | some f => s.tileFault w e c f k.fva k.needW
        | none => s.seek w e
      else s

/-! ### Sending a tile (R389, R391) -/

/-- Bytes of one image of R320 or R325. -/
def imageBytes (f : Fmt) : Nat := if f = .fp64 then 576 else 80
/-- Bytes of the images of one line of a region (R346). -/
def lineImages (f : Fmt) : Nat := 512 / f.width * imageBytes f
/-- The collective of which a timetabled COPY exports images, its first line, and its lines (R346): its source begins at a line of the
region, and its tiles together hold the images of whole lines, more bytes than the region has from there. -/
def State.exportOf (s : State) (d : StreamDesc) (fpa : Nat) : Option (CollDesc × Nat × Nat) :=
  if descOp d = 0 ∧ descTimed d ∧ fpa / 2 ^ 44 = s.node.toNat ∧ fpa % 64 = 0 then
    s.colls.findSome? (fun e => match collFmt e.2.desc with
      | some f =>
        let c := e.2.desc
        let first := (fpa % 2 ^ 44 - c.region) / 64
        let total := d.tiles.toNat * tileBytes d
        let n := total / lineImages f
        if (e.2.st = .launched ∨ e.2.st = .closed) ∧ c.region ≤ fpa % 2 ^ 44 ∧ total % lineImages f = 0 ∧ 0 < n
            ∧ first + n ≤ c.lines ∧ 64 * (c.lines - first) < total then some (c, first, n) else none
      | none => none)
  else none
/-- Images of lines of a region, line by line and element by element; an accumulator whose residue fails is exported with ERR, an
element without one as zero (R346, R351). -/
def State.exportImages (s : State) (d : CollDesc) (first n : Nat) : List Byte :=
  match collFmt d with
  | none => []
  | some f => (((collLines d).drop first).take n).flatMap (fun l =>
      (((s.slot l).map Slot.accs).getD (List.replicate (512 / f.width) {})).flatMap (fun a =>
        let b := if a.res = residue a.val then a else { a with err := true }
        leBytes (imageBytes f) (b.pack (accW f))))
/-- The vote byte that a 1-byte transfer to a root's vote line carries (R342). -/
def State.voteOf (s : State) (d : StreamDesc) (fpa : Nat) : Option Byte :=
  if tileBytes d = 1 then
    (s.colls.find? (fun e => e.2.st = .reserved && decide (fpa = e.2.desc.root.toNat * 2 ^ 44 + e.2.desc.vote + e.2.desc.index))).map (fun e => e.2.vote)
  else none
/-- The frames of the current tile; source data that the engine has at once stands as one completed source frame. -/
def State.tileFrames (s : State) (w : Nat) (c : Xfer) : List TileFrame × Option (BitVec 32) :=
  let timed := s.tileTimed w c
  let sp := (srcPieces c.d c.tile).map (fun p => (p.1, s.pieceFpa c false p.2.1, p.2.2))
  let dp := (dstPieces c.d c.tile).map (fun p => (p.1, s.pieceFpa c true p.2.1, p.2.2))
  let a0 := (sp.head?.map (fun p => p.2.1)).getD 0
  let b0 := (dp.head?.map (fun p => p.2.1)).getD 0
  let held : Option (List Byte) := match s.exportOf c.d (a0 - c.tile * c.d.srcTstep.toNat) with
    | some x => some (((s.exportImages x.1 x.2.1 x.2.2).drop (c.tile * tileBytes c.d)).take (tileBytes c.d))
    | none => (s.voteOf c.d b0).map (fun b => [b])
  let srcF : List TileFrame := match held with
    | some bytes => [{ dst := false, off := 0, len := tileBytes c.d, f := s.streamFrame c.d timed 1 0 a0 0, net := true, sent := true,
                       done := some (stOk, bytes) }]
    | none => sp.zipIdx.map (fun p =>
        let f := s.streamFrame c.d timed 1 p.1.2.2 p.1.2.1 (if descAcq c.d && c.tile = 0 && p.2 = 0 then 2 else 0)
        { dst := false, off := p.1.1, len := p.1.2.2, f := f, net := s.inModule f, sent := false, done := none })
  let op := if descOp c.d = 1 then 0x10 + c.d.op.toNat / 16 else if descOp c.d = 2 then 3 else 2
  let dstF : List TileFrame := dp.map (fun p =>
    let f := s.streamFrame c.d timed op (if dstKind c.d = 2 then prismOut c.d else p.2.2) p.2.1 0
    { dst := true, off := p.1, len := p.2.2, f := f, net := s.inModule f, sent := false, done := none })
  (srcF ++ dstF, s.collOf c.d a0 b0)

/-- Bytes `off` to `off + n - 1` of the packed tile, where every source frame over them has returned them. -/
def arrived (fs : List TileFrame) (off n : Nat) : Option (List Byte) :=
  let cover := fs.filter (fun x => !x.dst && meets x.off x.len off n)
  if cover.all (fun x => match x.done with
    | some (st, d) => st = stOk && d.length = x.len
    | none => false) then
    let all := cover.flatMap (fun x => (x.done.map Prod.snd).getD [])
    let start := (cover.head?.map (fun x => x.off)).getD off
    some ((all.drop (off - start)).take n)
  else none

/-- The vector of a Prism transfer's frame: rows of even number through the lane of port 128 + 2w (R441). -/
def streamVector (s : State) (w : Nat) (d : StreamDesc) (off : Nat) (data : List Byte) : PrismVector :=
  { requester := Fin.ofNat 9 (1 + 2 * w + off / rowBytes d % 2), cohort := d.cohort, name := BitVec.ofNat 12 d.dst.toNat,
    fp8 := d.dst.getLsbD 13, int8Out := d.dst.getLsbD 12, elems := Vector.ofFn (fun i : Fin 128 => data.getD i.val 0), desk := none,
    dest := 0, src := s.node }

/-- A destination frame of which a source frame has failed: it is never sent (R104). -/
def TileFrame.dead (fs : List TileFrame) (x : TileFrame) : Bool :=
  x.dst && fs.any (fun y => !y.dst && meets y.off y.len x.off x.len && (match y.done with
    | some (st, _) => st ≠ stOk
    | none => false))
/-- Frames before one let it be sent: an acquire's read has completed, and earlier destination frames have left (R111, R114, R119,
R126). -/
def TileFrame.follows (before fs : List TileFrame) (t : TileFrame) : Bool :=
  !before.any (fun x => (x.f.flags.getLsbD 1 && x.done.isNone)
    || (t.dst && x.dst && !x.sent && !x.offered && x.done.isNone && !x.dead fs))
/-- Send frame k of the current tile, if it may be sent; a timetabled one in the body alone (R31). -/
def State.sendTileFrame (s : State) (w e k : Nat) : State :=
  let x := s.strm w e
  match x.cur with
  | none => s
  | some c =>
    match c.frames[k]? with
    | none => s
    | some t =>
      if t.sent || t.offered || t.done.isSome || !TileFrame.follows (c.frames.take k) c.frames t || (t.f.vc = 0 && !s.timedPhase) then s
      else if !t.dst then
        (s.setStrm w e { x with cur := some { c with frames := c.frames.set k { t with sent := true } } }).streamSend w e t.f
      else
        match arrived c.frames t.off t.len with
        | none => s
        | some data =>
          if dstKind c.d = 2 then
            (s.setStrm w e { x with cur := some { c with frames := c.frames.set k { t with offered := true } } }).offer
              { v := streamVector s w c.d t.off data, owner := .stream w e k, timed := t.f.vc = 0 }
          else
            let f := { t.f with payload := data }
            (s.setStrm w e { x with cur := some { c with frames := c.frames.set k { t with sent := true, f := f } } }).streamSend w e f

/-- Send every frame of the current tile that may be sent, in the order of R102. -/
def State.sendTile (s : State) (w e : Nat) : State :=
  match (s.strm w e).cur with
  | none => s
  | some c => if c.stage = .sending then s.forAll (List.range c.frames.length) (fun s k => s.sendTileFrame w e k) else s

/-- Tiles that are being sent go on as their source bytes arrive, and completion words are written (R389, R390). -/
def State.settleStreams (s : State) : State :=
  s.forAll s.strms (fun s x => (s.sendTile (x.1 / 64) (x.1 % 64)).endsGo (x.1 / 64) (x.1 % 64))

/-- Request the prefetch walks of a tile just translated (R391). -/
def State.prefetch (s : State) (w : Nat) (c : Xfer) : State :=
  let a := if c.d.ahead = 0xFF then s.regF rXltCtl 8 5 else c.d.ahead.toNat
  let tiles := ((List.range (min a 16)).map (fun i => c.tile + 1 + i)).filter (fun t => decide (t < c.d.tiles.toNat))
  s.forAll (tiles.flatMap (fun t => tilePages c.d t)) (fun s p =>
    if (tlbFind (s.wingTlb w) c.d.cohort p.1 p.2 false).isSome
        || s.xl.walks.any (fun k => k.who = .prefetch w && k.cohort = c.d.cohort && k.fva = p.1 && k.needW = p.2) then s
    else (s.startWalk (.prefetch w) c.d.cohort p.1 p.2 false).2)

/-- Stream engines start tiles: outside the roll call, and not while the compute domain is fenced (R31, R399, R565). -/
def State.streamsRun (s : State) : Bool := (s.bell.phase = .body || s.bell.phase = .guard || s.bell.phase = .idle) && !s.fenced 0
/-- In the closing guard no timetabled tile begins (R31). -/
def State.tileMayStart (s : State) (w : Nat) (c : Xfer) : Bool :=
  s.streamsRun && !c.parking && !(s.bell.phase = .guard && s.tileTimed w c)

/-- A translated transfer that a sealed region refuses: any but a Prism transfer of the owning cohort that reads it (R553). -/
def State.sealStops (s : State) (c : Xfer) : Bool :=
  let here := fun (fpa n : Nat) => if fpa / 2 ^ 44 = s.node.toNat ∧ fpa % 2 ^ 44 < 2 ^ 40 then s.sealOver (fpa % 2 ^ 44) n else none
  (srcPieces c.d c.tile).any (fun p => match here (s.pieceFpa c false p.2.1) p.2.2 with
    | some i => !(dstKind c.d = 2 && (s.sealEntry i).2.2.1 = c.d.cohort.toNat && (s.sealEntry i).2.2.2.2 = 2)
    | none => false)
  || (dstPieces c.d c.tile).any (fun p => (here (s.pieceFpa c true p.2.1) (if dstKind c.d = 2 then prismOut c.d else p.2.2)).isSome)

/-- Begin to send the translated tile of an engine. -/
def State.beginTile (s : State) (w e : Nat) : State :=
  let x := s.strm w e
  match x.cur with
  | none => s
  | some c =>
    if c.stage = .translating ∧ c.walks.isEmpty ∧ s.tileMayStart w c ∧ (s.fillMaps w c (tilePages c.d c.tile)).2 = none then
      let c := (s.fillMaps w c (tilePages c.d c.tile)).1
      if s.sealStops c then s.finishXfer w e stSealed
      else
      let r := s.tileFrames w c
      let c' := { c with stage := .sending, frames := r.1, coll := match r.2 with
        | some i => some i
        | none => c.coll }
      ((s.setStrm w e { x with cur := some c' }).sendTile w e).prefetch w c
    else s

/-! ### The life of a transfer -/

/-- A transfer at its start. -/
def freshXfer (d : StreamDesc) (t : Nat) (loose : Bool) : Xfer :=
  { d := d, tile := t, stage := .translating, loose := loose, smap := [], dmap := [], walks := [], faults := [], frames := [], parking := false }

/-- Take up the next descriptor of an engine, once the completion words of earlier ones have left (R119, R388, R400). -/
def State.startXfer (s : State) (w e : Nat) : State :=
  let x := s.strm w e
  match x.cur, x.queue with
  | none, (d, t, loose) :: rest =>
    if !s.streamsRun || !x.ends.isEmpty then s
    else
      let s := s.setStrm w e { x with queue := rest }
      let found := if descResume d && !loose then s.saveRecords.find? (fun i =>
          let r := s.savedDesc i
          s.saveState i = 3 && (s.savedBy i).1 = w && r.id = d.id && r.cohort = d.cohort) else none
      let go := fun (s : State) (d : StreamDesc) =>
        match s.startRefusal d with
        | some st => s.endXfer w e d st loose
        | none => (s.setStrm w e { s.strm w e with cur := some (freshXfer d t loose) }).seek w e
      match found with
      | some i => go (s.setSaveState i 0) (s.savedDesc i)
      | none => go (if descResume d && !loose then s.setRegBit rFltStatus 2 true else s) d
  | _, _ => s

/-- A tile's status: that of its first failing frame (R104, R442); none while a frame that can still complete has not. -/
def tileStatus (fs : List TileFrame) : Option (BitVec 5) :=
  let waiting := fs.any (fun x => x.done.isNone && (x.sent || x.offered || !x.dead fs))
  if waiting then none
  else some (((fs.filterMap (fun x => x.done.map Prod.fst)).find? (fun st => st ≠ stOk)).getD stOk)

/-- Write an engine's transfer to the lowest free record as PARKED, at its tile t (R399). -/
def State.parkAt (s : State) (w e : Nat) (c : Xfer) (t : Nat) : State :=
  match s.freeSave with
  | none => s
  | some i => (s.putSave i 3 w e (advance c.d t)).setStrm w e { s.strm w e with cur := none }

/-- The current tile has completed: the next tile, a parking, or the end (R390, R399). -/
def State.tileDone (s : State) (w e : Nat) : State :=
  let x := s.strm w e
  match x.cur with
  | none => s
  | some c =>
    if c.stage = .sending then
      match tileStatus c.frames with
      | none => s
      | some st =>
        if st ≠ stOk ∨ c.d.tiles.toNat ≤ c.tile + 1 then s.finishXfer w e st
        else if c.parking then s.parkAt w e c (c.tile + 1)
        else
          (s.setStrm w e { x with cur := some { c with tile := c.tile + 1, stage := .translating, smap := [], dmap := [], frames := [] } }).seek w e
    else s

/-- Park an engine's transfer once its tile has sent its last frame; the last tile of a transfer ends it instead (R399). -/
def State.parkXfer (s : State) (w e : Nat) : State :=
  match (s.strm w e).cur with
  | none => s
  | some c =>
    if !c.parking then s
    else if c.stage = .sending then
      (if c.d.tiles.toNat ≤ c.tile + 1 then s
       else if c.frames.all (fun x => x.sent || x.offered || x.done.isSome) then s.parkAt w e c (c.tile + 1) else s)
    else s.parkAt w e c c.tile

/-! ### The roll call (R386, R398, R399) -/

/-- Descriptors that the active timetable gives an engine in this Lesson. -/
def State.engineList (s : State) (w e : Nat) : List StreamDesc :=
  match s.bell.run with
  | none => []
  | some r => if s.bell.empty then [] else
      ((r.tt.engines.filter (fun x => x.lesson = r.index && x.w.val = w && x.e.val = e)).flatMap (fun x => x.descs))

/-- The new list of one engine at DCLK 64: a transfer in progress continues under a descriptor that resumes it, or is parked;
descriptors that waited from an earlier list go, resumed transfers that waited stay. -/
def State.engineLesson (s : State) (w e : Nat) : State :=
  let x := s.strm w e
  let l := s.engineList w e
  let kept := x.queue.filter (fun q => q.2.2)
  let fresh := fun (l : List StreamDesc) => l.map (fun d => (d, 0, false))
  match x.cur, l with
  | none, _ => s.setStrm w e { x with queue := kept ++ fresh l }
  | some c, d :: rest =>
    if d.id = c.d.id ∧ d.cohort = c.d.cohort ∧ descResume d then s.setStrm w e { x with queue := kept ++ fresh rest }
    else (s.setStrm w e { x with queue := kept ++ fresh l, cur := some { c with parking := true } }).parkXfer w e
  | some c, [] => (s.setStrm w e { x with queue := kept, cur := some { c with parking := true } }).parkXfer w e

/-- Lowest engine of a Wing without a descriptor in this Lesson (R398). -/
def State.idleEngine (s : State) (w : Nat) : Option Nat := (List.range 64).find? (fun e => (s.engineList w e).isEmpty)
/-- READY records join queues (R398). -/
def State.requeueReady (s : State) : State :=
  s.forAll s.saveRecords (fun s i =>
    if s.saveState i = 2 then
      let w := (s.savedBy i).1
      match s.idleEngine w with
      | none => s
      | some e =>
        let d := s.savedDesc i
        let t := s.setSaveState i 0
        let x := t.strm w e
        t.setStrm w e { x with queue := x.queue ++ [(d, 0, true)] }
    else s)
/-- Roll call DCLK 64 for the stream engines. -/
def State.streamsLesson (s : State) : State :=
  let busy := s.strms.map Prod.fst
  let listed : List Nat := match s.bell.run with
    | none => []
    | some r => if s.bell.empty then [] else
        (r.tt.engines.filter (fun (x : EngineList) => x.lesson = r.index)).map (fun (x : EngineList) => 64 * x.w.val + x.e.val)
  let all := busy ++ (listed.filter (fun k => !busy.contains k)).eraseDups
  (s.forAll all (fun s k => s.engineLesson (k / 64) (k % 64))).requeueReady

/-- The Bell completes with DATA_ERR what a tile sent timetabled and has not seen answered (R206). -/
def State.streamsTimedOut (s : State) : State :=
  { s with strms := s.strms.map (fun (x : Nat × Strm) => (x.1, { x.2 with cur := x.2.cur.map (fun (c : Xfer) =>
      { c with frames := c.frames.map (fun (f : TileFrame) =>
        if f.sent && !f.net && f.f.vc = 0 && f.done.isNone then { f with done := some (stDataErr, []) } else f) }) })) }

/-- A compute reset: transfers end without a completion word, and every save record is freed (R401, R567). -/
def State.resetStreams (s : State) : State :=
  ({ s with strms := [], xl := { s.xl with faultSt := [], faultOf := [] } }).forAll (s.saveRecords.filter (fun i => s.saveState i ≠ 0)) (fun s i => s.setSaveState i 0)

/-! ### Resumes (R396, R397) -/

/-- BAD_RESUME. -/
def State.badResume (s : State) : State := s.setRegBit rFltStatus 3 true
/-- ABORT of an AWAIT record. -/
def State.abortRecord (s : State) (i : Nat) : State :=
  let d := s.savedDesc i
  let b := s.savedBy i
  let st := BitVec.ofNat 5 (tget (fun _ => 0) s.xl.faultSt i)
  let t := s.setSaveState i 0
  let c := tget (fun _ => none) s.xl.faultOf i
  let t := { t with xl := { t.xl with faultSt := tput (fun _ => 0) t.xl.faultSt i 0, faultOf := tput (fun _ => none) t.xl.faultOf i none } }
  (t.collTransfer c st).endXfer b.1 b.2 d st true
/-- A resume of a save record. -/
def State.resumeRecord (s : State) (token : Nat) (retry : Bool) : State :=
  if min s.saveCount 4096 ≤ token ∨ s.saveState token ≠ 1 then s.badResume
  else if !retry || (descTimed (s.savedDesc token) && s.strict) then s.abortRecord token
  else s.setSaveState token 2
/-- FLT.TAIL advances: stalled tiles translate again in ascending order of Wing and engine (R396). -/
def State.writeFltTail (s : State) (v : Word) : State :=
  let t := s.setReg rFltTail v
  t.forAll t.strms (fun s x =>
    let w := x.1 / 64
    let e := x.1 % 64
    let y := s.strm w e
    match y.cur with
    | some c => if c.stage = .stalled then (s.setStrm w e { y with cur := some { c with stage := .translating } }).seek w e else s
    | none => s)

/-! ### Meanings -/

/-- TRANSFER_START (R388, R400): the engine takes up its next descriptor. -/
def execTransferStart (w : Fin 4) (e : Fin 64) (s : State) : Host.Outcome State Fault Refusal :=
  .next ((s.endsGo w.val e.val).startXfer w.val e.val)
/-- TILE_TRANSLATED (R389, R391): the tile's frames leave, in order; frames of a tile being sent whose bytes have arrived leave. -/
def execTileTranslated (w : Fin 4) (e : Fin 64) (s : State) : Host.Outcome State Fault Refusal :=
  .next (((s.seek w.val e.val).beginTile w.val e.val).sendTile w.val e.val)
/-- TILE_COMPLETE (R104, R390). -/
def execTileComplete (w : Fin 4) (e : Fin 64) (s : State) : Host.Outcome State Fault Refusal :=
  .next (((s.sendTile w.val e.val).endsGo w.val e.val).tileDone w.val e.val)
/-- TRANSFER_PARK (R399). -/
def execTransferPark (w : Fin 4) (e : Fin 64) (s : State) : Host.Outcome State Fault Refusal := .next (s.parkXfer w.val e.val)

end Sys2Proof.Machine
end

