-- ==== Sys2Proof/Machine/Bell.lean ====
section
/-! DEFINITION. The Bell: Bell frames, the election, the wired Bell, stretches, and the registers that govern them ("Bells,
Lessons and Exact Timing", R31 to R34, R50 to R67, R649 to R651). -/

namespace Sys2Proof.Machine

/-! ### Registers and ports -/

/-- The module's Bell partition (R650). -/
def State.bellPart (s : State) : Nat := s.regF rBellCtl 8 6
/-- The module is Bell master. -/
def State.isMaster (s : State) : Bool := s.regBit rBellStatus 28
/-- An election is in progress. -/
def State.electing (s : State) : Bool := s.regBit rBellStatus 6
/-- Node of the Bell master. -/
def State.masterNode (s : State) : BitVec 12 := BitVec.ofNat 12 (s.regF rBellStatus 16 12)
/-- BELL.STATUS.CFG_ERR. -/
def State.bellCfgErr (s : State) : State := s.setRegBit rBellStatus 1 true
/-- BELL.STATUS.TREE_ERR. -/
def State.treeErr (s : State) : State := s.setRegBit rBellStatus 4 true
/-- A port is marked in BELL.TREE (R53). -/
def State.treePort (s : State) (p : Nat) : Bool := s.regBit (rBellTree + 8 * (p / 64)) (p % 64)
/-- External ports of the Bell partition that are up (R650); a Melium port carries no VC0 (R472). -/
def State.bellPorts (s : State) : List Nat := (List.range 128).filter (fun p => s.portUp p && s.portPart p = some s.bellPart && !s.melium p)
/-- Link delay of a port in 1/64 ns (R55). -/
def State.linkDelay (s : State) (p : Nat) : Nat := (s.reg (linkReg p lDelay)).toNat

/-! ### Bell frames (R54 to R58, R649) -/

/-- The 32-byte payload of a Bell frame (R54). -/
def BellInfo.bytes (b : BellInfo) : List Byte :=
  leBytes 8 b.lesson.toNat ++ leBytes 4 b.n ++ leBytes 1 b.stretch ++ leBytes 1 (b.strict.toNat + 2 * b.pin.toNat + 4 * b.halt.toNat)
    ++ leBytes 2 (b.guard / 64) ++ leBytes 2 b.master.toNat ++ leBytes 1 b.hops ++ leBytes 1 0 ++ leBytes 4 b.delay ++ leBytes 2 b.lead
    ++ leBytes 6 0
/-- What a Bell frame's payload says. -/
def BellInfo.ofBytes (l : List Byte) : BellInfo :=
  { lesson := BitVec.ofNat 64 (leAt l 0 8), n := leAt l 8 4, stretch := leAt l 12 1, strict := (leAt l 13 1).testBit 0,
    pin := (leAt l 13 1).testBit 1, halt := (leAt l 13 1).testBit 2, guard := leAt l 14 2 * 64, master := BitVec.ofNat 12 (leAt l 16 2),
    hops := leAt l 18 1, delay := leAt l 20 4, lead := leAt l 24 2 }
/-- A frame that travels one link: BELL or CANDIDACY (R649). -/
def State.linkFrame (s : State) (op : BitVec 8) (pay : List Byte) : Frame :=
  Frame.sealed { blankFrame with
    part := BitVec.ofNat 6 s.bellPart, src := s.node, opcode := op, hopCount := 1, length := BitVec.ofNat 12 pay.length,
    route := routeByte0 0xFF, payload := pay }
/-- Send a Bell frame on the module's own tree ports other than one, as a frame of port 139 (R53, R57, R648). -/
def State.bellOut (s : State) (b : BellInfo) (skip : Option Nat) : State :=
  s.forAll (s.bellPorts.filter (fun p => s.treePort p && some p ≠ skip)) (fun s p => s.admitFrame 139 p (s.linkFrame 0x70 b.bytes))
/-- A control frame routed to the Bell master (R175, R649). -/
def State.toMaster (s : State) (op : BitVec 8) (v : Nat) : State :=
  s.sendRouted 139 false { blankFrame with
    part := BitVec.ofNat 6 s.bellPart, dst := s.masterNode, src := s.node, opcode := op, length := 4, payload := leBytes 4 v }

/-- The factor of a stretch code (R54). -/
def stretchFactor (code : Nat) : Nat := if code = 1 then 2 else if code = 2 then 4 else 1
/-- The code in force. -/
def State.stretchCode (s : State) : Nat := s.regF rStretch 0 2
/-- The factor that a STRETCH frame carries for a code: 0 withdraws (R175). -/
def codeRequest (code : Nat) : Nat := if code = 0 then 0 else stretchFactor code
/-- The code of a factor requested. -/
def requestCode (factor : Nat) : Nat := if factor = 2 then 1 else if factor = 4 then 2 else 0

/-- 290 SCLK in 1/64 ns, to the nearest (R57). -/
def forwardDelay : Nat := 11248
/-- DCLK edge nearest to a Bell's instant: LEAD REFCLK periods from now less D in 1/64 ns (R57). -/
def State.bellDue (s : State) (lead d : Nat) : Nat := (s.now * 640 + lead * 21120 - d * 33 + 320) / 640

/-! ### Requests of a stretch (R63, R651) -/

/-- The code this module's causes call for (R63). -/
def State.ownCode (s : State) : Nat := if s.bell.hot then 2 else if s.bell.pwr ∨ s.bell.cool then 1 else 0
/-- The master keeps a member's request; one for the factor in force or above starts the hold again (R66, R651). -/
def State.recordRequest (s : State) (node code : Nat) : State :=
  { s with bell := { s.bell with requests := tput (fun _ => 0) s.bell.requests node code
                                 held := if s.bell.placed ≤ code then 0 else s.bell.held } }
/-- Send or record this module's current request. -/
def State.sendRequest (s : State) : State :=
  if s.isMaster then s.recordRequest s.node.toNat s.bell.own
  else if s.electing ∨ s.regBit rBellStatus 3 then s
  else s.toMaster 0x74 (codeRequest s.bell.own)
/-- A cause has changed: a new request goes out at once, and a larger factor gates until it takes effect (R63, R65, R66). -/
def State.causeChanged (s : State) : State :=
  let c := s.ownCode
  if c = s.bell.own then s
  else
    let g := if s.stretchCode < c then true else if c ≤ s.stretchCode then false else s.bell.gate
    ({ s with bell := { s.bell with own := c, gate := g, gated := s.bell.gated || g } }).sendRequest
/-- An alert pin changes (R63, R588, R639): its assertion is logged; one that also ends within the Lesson counts to its end. -/
def State.alertPin (s : State) (coolant on : Bool) : State :=
  let was := if coolant then s.bell.coolPin else s.bell.pwrPin
  if was = on then s
  else
    let b := s.bell
    let at_ := if coolant then b.coolAt else b.pwrAt
    let stays := !on && decide (at_ = some s.lesson)
    let since := if on then some s.lesson else at_
    let b := if coolant then { b with coolPin := on, cool := on || stays, coolAt := since }
             else { b with pwrPin := on, pwr := on || stays, pwrAt := since }
    let t := ({ s with bell := b }).setRegBit rExtStatus coolant.toNat on
    (if on then t.logEvent 3 3 (if coolant then 12 else 11) 0 else t).causeChanged
/-- At the Bell, alerts whose pins are no longer asserted cease to count (R639). -/
def State.alertsLapse (s : State) : State :=
  { s with bell := { s.bell with pwr := s.bell.pwrPin, cool := s.bell.coolPin } }
/-- The largest factor any member requests. -/
def State.wantedCode (s : State) : Nat := s.bell.requests.foldl (fun m x => max m x.2) 0

/-! ### The election (R50 to R52, R60) -/

/-- Send a candidacy on every port of the Bell partition but one. -/
def State.candidacyOut (s : State) (c : Nat × Nat) (skip : Option Nat) : State :=
  s.forAll (s.bellPorts.filter (fun p => some p ≠ skip)) (fun s p =>
    s.admitFrame 139 p (s.linkFrame 0x71 (leBytes 1 c.1 ++ leBytes 1 0 ++ leBytes 2 c.2 ++ leBytes 4 0)))
/-- The Bell of a frame already sent or received will not ring: STRICT that it carried at the master waits for the next frame
(R357). -/
def State.dropNext (s : State) : State :=
  let kept := match s.bell.strictNext, s.bell.next with
    | some v, _ => some v
    | none, some b => if s.isMaster && !b.halt then some b.strict else none
    | none, none => none
  { s with bell := { s.bell with next := none, strictNext := kept } }
/-- Start an election (R51). -/
def State.startElection (s : State) : State :=
  let mine := if s.regBit rBellCtl 0 then some (s.regF rPrio 0 8, s.node.toNat) else none
  let t := s.dropNext
  let t := { t with bell := { t.bell with best := mine, waiting := false, elected := false, led := false } }
  let t := t.setRegBit rBellStatus 6 true
  match mine with
  | some c => t.candidacyOut c none
  | none => t
/-- A candidacy is better (R51). -/
def better (a b : Nat × Nat) : Bool := decide (a.1 < b.1) || (a.1 = b.1 && decide (a.2 < b.2))

/-! ### Meanings: frames and the election -/

/-- The STRICT value that a Bell frame sent now carries (R357). -/
def State.strictToSend (s : State) : Bool := s.bell.strictNext.getD s.strict

/-- BELL_FRAME_SEND (R34, R54, R56, R58, R60, R64, R66, R357): the master sends the Bell frame of the next Bell. A frame with HALT
rings no Bell: no Lesson of the hold passes with it, and a STRICT value waits on. Byte 18 counts the link about to be crossed
(DESIGN CHOICE, log 76). -/
def execBellFrameSend (s : State) : Host.Outcome State Fault Refusal :=
  .next (if !s.isMaster then s
    else
      let lead := s.regF rLead 0 10
      let halt : Option Nat := match s.bell.halt with
        | some l => if l < lead then none else some l
        | none => none
      let want := s.wantedCode
      let raised := decide (s.bell.placed ≤ want)
      let code := if raised then want else s.bell.placed
      let held := if raised then 0 else if halt.isSome then s.bell.held else s.bell.held + 1
      let b : BellInfo := { lesson := s.lesson + 1, n := s.regF rLessonLen 0 17, stretch := code, strict := s.strictToSend,
                            pin := s.regBit rBellCtl 1, halt := halt.isSome, guard := s.regF rGuard 0 17, master := s.node, hops := 0,
                            delay := 0, lead := lead }
      let t := { s with bell := { s.bell with next := some b, halt := halt, placed := code, held := held, governed := true,
                                              elected := false, frameStrict := b.strict, waiting := false, led := true, moved := false,
                                              strictNext := if halt.isSome then s.bell.strictNext else none, due := s.bellDue lead 0 } }
      let t := if s.bell.lost then ({ t with bell := { t.bell with lost := false } }).raise 1 else t
      t.bellOut { b with hops := 1 } none)

/-- A Bell frame that the Bell logic accepts (R57, R58, R60). -/
def State.takeBell (s : State) (p : Nat) (f : Frame) : State :=
  let b0 := BellInfo.ofBytes f.payload
  let d := b0.delay + s.linkDelay p
  let b := { b0 with stretch := if b0.stretch ≤ 2 then b0.stretch else s.stretchCode, delay := d }
  let late := decide (b.lead * 640 < d + 12800)
  let t := s.setRegF rBellStatus 16 12 b.master.toNat
  let t := { t with bell := { t.bell with next := some { b with halt := b.halt || late }, governed := true, elected := false, waiting := false,
                                          led := true, moved := false, frameStrict := b.strict, due := s.bellDue b.lead d } }
  let t := if s.bell.lost then ({ t with bell := { t.bell with lost := false } }).raise 1 else t
  let t := t.bellOut { b0 with hops := b0.hops + 1, delay := d + forwardDelay } (some p)
  if late then (t.setRegBit rBellStatus 5 true).toMaster 0x75 d else t

/-- BELL_FRAME (R53, R57, R650): a frame that the Centroid's ingress has passed to the Bell logic. -/
def execBellFrame (p : Fin 128) (f : Frame) (s : State) : Host.Outcome State Fault Refusal :=
  .next (if s.portPart p.val ≠ some s.bellPart ∨ ¬ s.treePort p.val ∨ s.isMaster then s.treeErr else s.takeBell p.val f)

/-- LEAD_ERR (R58): at the master, HALT stands until BELL.LEAD is raised. -/
def execLeadErr (_f : Frame) (s : State) : Host.Outcome State Fault Refusal :=
  .next (if s.isMaster ∧ s.bell.halt = none then { s with bell := { s.bell with halt := some (s.regF rLead 0 10) } } else s)

/-- Stage 1 of R60: no Bell is rung, and MISSED is set. -/
def State.missBell (s : State) : State :=
  { s.setRegBit rBellStatus 2 true with bell := { s.bell with waiting := true, next := none } }

/-- An edge of BELL_IN stands for the next Bell, in pin mode (R61, R62). -/
def State.edgeStands (s : State) : Bool := s.regBit rBellCtl 1 && s.bell.edge
/-- BELL_MISSED (R60): the next Bell is due at a member and no Bell frame has come for it. -/
def execBellMissed (s : State) : Host.Outcome State Fault Refusal :=
  .next (if s.isMaster ∨ s.electing ∨ s.bell.phase = .idle ∨ s.bell.next.isSome ∨ s.bell.elected ∨ s.bell.waiting ∨ s.edgeStands then s
    else s.missBell)

/-- MASTER_LOST (R60): no Bell frame within two Lesson lengths of a missed Bell, or of the end of an election. -/
def execMasterLost (s : State) : Host.Outcome State Fault Refusal :=
  .next (if (s.bell.waiting ∨ s.bell.elected) ∧ ¬ s.electing then
      ({ s with bell := { s.bell with lost := true } }).startElection
    else s)

/-- CANDIDACY (R51, R650): a candidacy that the Centroid's ingress has passed to the Bell logic. -/
def execCandidacy (p : Fin 128) (f : Frame) (s : State) : Host.Outcome State Fault Refusal :=
  .next (if s.portPart p.val ≠ some s.bellPart then s.treeErr
    else
      let c := (leAt f.payload 0 1, leAt f.payload 2 2 % 4096)
      let t := if s.electing then s else ({ s with bell := { s.bell with lost := s.bell.lost || s.bell.governed } }).startElection
      if (match t.bell.best with
          | some b => better c b
          | none => true) then
        ({ t with bell := { t.bell with best := some c } }).candidacyOut c (some p.val)
      else t)

/-- The winner of an election: the best candidacy heard, this module's own only while it is eligible still (R50, R51). -/
def State.winner (s : State) : Option (Nat × Nat) :=
  match s.bell.best with
  | some c => if c.2 = s.node.toNat ∧ ¬ s.regBit rBellCtl 0 then none else some c
  | none => none
/-- ELECTION_END (R51, R52, R60, R651): 100 µs have passed with no better candidacy heard. A hold that ran at the former master
starts again from 0, with the factor in force as the one placed (DESIGN CHOICE, log 76). -/
def execElectionEnd (s : State) : Host.Outcome State Fault Refusal :=
  .next (if !s.electing then s
    else
      let t := s.setRegBit rBellStatus 6 false
      match s.winner with
      | none => (t.setRegBit rBellStatus 3 true).setRegBit rBellStatus 28 false
      | some c =>
        let mine := decide (c.2 = t.node.toNat)
        let t := ((t.setRegBit rBellStatus 3 false).setRegF rBellStatus 16 12 c.2).setRegBit rBellStatus 28 mine
        let b := { t.bell with elected := true, best := none, halt := none, requests := [], held := 0, placed := t.stretchCode }
        let t := { t with bell := { b with led := mine || !t.bell.moved } }
        t.sendRequest)

/-! ### Meanings: the wired Bell (R61, R62) -/

/-- BELL_IN_EDGE (R61). -/
def execBellInEdge (s : State) : Host.Outcome State Fault Refusal :=
  .next (if s.regBit rBellCtl 1 then { s with bell := { s.bell with edge := true } } else s)

/-- BELL_IN_EDGE_MISSING (R62): a Bell frame came and no edge followed within one Lesson length of the due time. -/
def execBellInEdgeMissing (s : State) : Host.Outcome State Fault Refusal :=
  .next (if s.regBit rBellCtl 1 ∧ s.bell.next.isSome ∧ ¬ s.bell.edge then s.missBell else s)

/-! ### Meanings: stretches (R63 to R66, R651) -/

/-- STRETCH (R651): the master keeps the latest request of each member. -/
def execStretch (f : Frame) (s : State) : Host.Outcome State Fault Refusal :=
  .next (if s.isMaster then
      s.recordRequest f.src.toNat (requestCode (leAt f.payload 0 4))
    else s)

/-- STRETCH_HOLD_EXPIRY (R66): every request for the higher factor has been withdrawn for HOLD Lessons. The factor drops to the
largest request that stands, whatever requests between were withdrawn later (DESIGN CHOICE, log 76). -/
def execStretchHoldExpiry (s : State) : Host.Outcome State Fault Refusal :=
  .next (if s.isMaster ∧ s.wantedCode < s.bell.placed ∧ s.regF rStretch 32 16 ≤ s.bell.held then
      { s with bell := { s.bell with placed := s.wantedCode, held := 0 } }
    else s)

/-- PWR_ALERT_N (R63). -/
def execPwrAlertN (asserted : Bool) (s : State) : Host.Outcome State Fault Refusal :=
  .next (s.alertPin false asserted)

/-- COOLANT_ALERT_N (R63). -/
def execCoolantAlertN (asserted : Bool) (s : State) : Host.Outcome State Fault Refusal :=
  .next (s.alertPin true asserted)

/-! ### Meanings: registers (R31, R32, R56, R357, R608, R650) -/

/-- N and G leave a body of 1,024 DCLK (R32). -/
def bodyFits (n g : Nat) : Bool := decide (512 + g + 1024 ≤ 33 * n)
/-- BELL.LESSON_LEN. -/
def State.writeLessonLen (s : State) (v : Word) : State :=
  let n := fget v 0 17
  s.writeIf rLessonLen v (inRange 200 100000 n && bodyFits n (s.regF rGuard 0 17) && decide (s.regF rLead 0 10 < n)) State.bellCfgErr
/-- BELL.GUARD. -/
def State.writeGuard (s : State) (v : Word) : State :=
  let g := fget v 0 17
  s.writeIf rGuard v (inRange 256 65536 g && g % 64 = 0 && bodyFits (s.regF rLessonLen 0 17) g) State.bellCfgErr
/-- BELL.LEAD. -/
def State.writeLead (s : State) (v : Word) : State :=
  let l := fget v 0 10
  s.writeIf rLead v (inRange 100 1000 l && decide (l < s.regF rLessonLen 0 17)) State.bellCfgErr
/-- State of a timetable page (R614). -/
def State.pageState (s : State) (p : Nat) : Nat := s.regF rTtState (16 * p) 3
/-- An active port map gives the module ports of its Bell partition. -/
def State.hasBellPorts (s : State) : Bool := (List.range 128).any (fun p => s.portPart p = some s.bellPart)
/-- The map of the Bell partition is first applied: its election begins (R51, R536). -/
def State.mapApplied (s : State) : State :=
  if s.bell.mapped && (!s.hasBellPorts || s.bell.mappedOf.getLsbD s.bellPart) then s
  else
    let own := if s.hasBellPorts then s.bell.mappedOf ||| BitVec.twoPow 64 s.bellPart else s.bell.mappedOf
    ({ s with bell := { s.bell with mapped := true, mappedOf := own } }).startElection
/-- BELL.CTL.PART (R650): the former partition's election, frame and edge are dropped. -/
def State.writeBellPart (s : State) (part : Nat) : State :=
  if (List.range 2).any (fun p => s.pageState p = 3 || s.pageState p = 4) then s.bellCfgErr
  else if part = s.bellPart then s
  else
    let t := ((s.dropNext.setRegF rBellCtl 8 6 part).setRegBit rBellStatus 28 false).setRegBit rBellStatus 6 false
    let t := { t with bell := { t.bell with waiting := false, elected := false, best := none, edge := false, led := false, moved := true } }
    if t.bell.mapped then t.mapApplied else t
/-- The fields of BELL.CTL. -/
def State.writeBellCtl (s : State) (v m : Word) : State :=
  let w := (regSpec rBellCtl).written (s.reg rBellCtl) v m
  let t := if fget w 1 1 = (s.regBit rBellCtl 1).toNat then s else { s with bell := { s.bell with edge := false } }
  let t := t.setRegF rBellCtl 0 2 (fget w 0 2)
  if m.extractLsb' 8 6 = 0 then t else t.writeBellPart (fget w 8 6)

/-- BELL_LESSON_LEN_WRITE (R31, R32, R56). -/
def execBellLessonLenWrite (v : BitVec 64) (s : State) : Host.Outcome State Fault Refusal := .next (s.bar0 (fun s => s.writeLessonLen v))
/-- BELL_GUARD_WRITE (R31, R32). -/
def execBellGuardWrite (v : BitVec 64) (s : State) : Host.Outcome State Fault Refusal := .next (s.bar0 (fun s => s.writeGuard v))
/-- BELL_LEAD_WRITE (R56). -/
def execBellLeadWrite (v : BitVec 64) (s : State) : Host.Outcome State Fault Refusal := .next (s.bar0 (fun s => s.writeLead v))
/-- BELL_CTL_PART_WRITE (R650). -/
def execBellCtlPartWrite (part : BitVec 6) (s : State) : Host.Outcome State Fault Refusal := .next (s.bar0 (fun s => s.writeBellPart part.toNat))
/-- STRICT_WRITE (R357): the value waits for the roll call, or on the Bell master for its next Bell frame. -/
def execStrictWrite (strict : Bool) (s : State) : Host.Outcome State Fault Refusal :=
  .next (s.bar0 (fun s => { s with bell := { s.bell with strictNext := some strict } }))

end Sys2Proof.Machine
end

