-- ==== Sys2Proof/Machine/Security.lean ====
section
/-! DEFINITION. Port partitions, cohorts, attestation, the Locker, sealed regions and teardown ("Cohorts, Partitions and
Security", R534 to R561, R609, R619). -/

namespace Sys2Proof.Machine

/-! ### The port-to-partition map (R534 to R537) -/

/-- GLB.PART_STATUS: SWAPPED in bit 0, SWAP_ERR in bit 1, ERR_PORT in bits 14 to 8. -/
def State.swapErr (s : State) (p : Option Nat) : State :=
  let t := s.setRegBit rPartStatus 1 true
  match p with
  | some q => t.setRegF rPartStatus 8 7 q
  | none => t
/-- Why a port's entry may not change now (R536). -/
def State.swapOffends (s : State) (p : Nat) : Bool :=
  let a := s.tabF (rPortPart + p) 1
  a ≠ s.tabF (rPortPartStage + p) 1 && decide (128 ≤ a) && (s.portUp p || !s.fab.scrubbed.getLsbD p || s.treePort p)
/-- The staged map replaces the active one, all or nothing; the map of the Bell partition, first applied, starts its
election (R51, R536). -/
def State.partSwap (s : State) : State :=
  match (List.range 128).find? s.swapOffends with
  | some p => s.swapErr (some p)
  | none =>
    let t := s.forAll (List.range 16) (fun s i => s.setReg (rPortPart + 8 * i) (s.reg (rPortPartStage + 8 * i)))
    let t := (t.setRegBit rPartSwap 63 false).setRegBit rPartStatus 0 true
    t.mapApplied
/-- PART_SWAP is armed. -/
def State.partArmed (s : State) : Bool := s.regBit rPartSwap 63
/-- An armed swap is attempted at once while no Bell master governs the module (R536). -/
def State.partSwapFree (s : State) : State := if s.partArmed && !s.bell.governed then s.partSwap else s
/-- Roll call DCLK 96: the swap of Lesson AT_LESSON, and of later roll calls while ARM stands (R35, R536). -/
def State.partSwapLesson (s : State) : State :=
  if s.partArmed && decide ((s.lesson.toNat + 2 ^ 32 - s.regF rPartSwap 0 32) % 2 ^ 32 < 2 ^ 31) then s.partSwap else s
/-- Roll call DCLK 96: an armed route table replaces the active one (R209). -/
def State.routeSwap (s : State) : State :=
  if s.regBit rRtSwap 63 && decide (s.regF rRtSwap 0 32 = s.lesson.toNat % 2 ^ 32) && !s.regBit rRtStatus 2 then
    let staged := s.regs.filter (fun e => rRtStage ≤ e.1 && e.1 < rRtStage + 0x10000)
    let t := { s with regs := tclear s.regs rRtActive (rRtActive + 0x10000) }
    let t := t.forAll staged (fun s e => s.setReg (e.1 - rRtStage + rRtActive) e.2)
    (t.setRegBit rRtSwap 63 false).setRegBit rRtStatus 1 true
  else s

/-- GLB.PORT_SCRUB (R537). -/
def State.writeScrub (s : State) (v : Word) : State :=
  let p := v.toNat % 128
  if s.portUp p then s.swapErr none
  else { s with fab := { s.fab with scrubbing := s.fab.scrubbing ||| BitVec.ofNat 128 (2 ^ p) } }
/-- A scrub has ended: what the port's minimums and the overflow region held for it is gone (R537). -/
def State.scrubDone (s : State) (p : Nat) : State :=
  let m := BitVec.ofNat 128 (2 ^ p)
  if s.fab.scrubbing &&& m = 0 then s
  else
    let gone := s.fab.voq.filter (fun q => q.inp = p && (q.place = .minimum || q.place = .overflow || q.place = .waitOverflow))
    let t := s.forAll gone (fun s q => s.dequeue q.id)
    { t with fab := { t.fab with scrubbing := t.fab.scrubbing &&& ~~~m, scrubbed := t.fab.scrubbed ||| m } }

/-- GLB.NODE (R609): ignored while any port has a partition. -/
def State.writeNode (s : State) (v : Word) : State :=
  if (List.range 128).any (fun p => (s.portPart p).isSome) then s else s.writePlain rGlbNode v allBits

/-! ### Cohorts (R538, R539) -/

/-- Bytes 24 to 25 of a cohort entry: accepted only as STATE 1 over STATE 0. -/
def State.writeCohortState (s : State) (c v : Nat) : State :=
  if v / 2 ^ 12 % 8 = 1 ∧ s.cohortState c = 0 then
    let t := (s.setRegF (cohortAt c + 24) 12 3 1).setRegF (cohortAt c + 24) 0 6 (v % 64)
    { t with sec := { t.sec with torn := t.sec.torn.filter (· ≠ c) } }
  else s

/-! ### Commands of the Principal's security services -/

/-- End a command with its code (R550, R552, R556, R619). -/
def State.secEnd (s : State) (code : Nat) : State :=
  let t := (s.setRegF rSecStatus 0 4 code).setRegBit rSecStatus 8 false
  if t.regBit rSecCtl 0 then t.raise 13 else t
/-- Bytes of a block of 8-byte registers. -/
def State.regBytes (s : State) (a n : Nat) : List Byte := (List.range n).flatMap (fun i => leBytes 8 (s.reg (a + 8 * i)).toNat)
/-- Write bytes into a block of n 8-byte registers. -/
def State.putRegs (s : State) (a n : Nat) (l : List Byte) : State :=
  s.forAll (List.range n) (fun s i => s.setReg (a + 8 * i) (BitVec.ofNat 64 (leAt l (8 * i) 8)))
/-- Bytes latched in a block of write-only registers. -/
def State.latchBytes (s : State) (a n : Nat) : List Byte := (List.range n).flatMap (fun i => leBytes 8 (s.latchAt (a + 8 * i)).toNat)

/-- The fused security version (R544). -/
def State.svn (s : State) : Word := s.prin.svn.getD Config.fusedSvn
/-- A command of the Principal: it waits, with SEC.STATUS.BUSY at 1, while the Principal is absent (R574). -/
def State.viaPrincipal (s : State) (i : PrinCmd) (k : State → State) : State :=
  if s.ready 1 then k s else ({ s with prin := { s.prin with waits := s.prin.waits ++ [i] } }).setRegBit rSecStatus 8 true

/-- SEC.ATTEST (R546). -/
def State.secAttest (s : State) (c : Nat) : State :=
  if s.cohortState c ≠ 1 then s.secEnd 5
  else ({ s with sec := { s.sec with attest := some (BitVec.ofNat 10 c, s.latchBytes rNonce 4) } }).setRegBit rSecStatus 8 true

/-- The report's first 392 bytes (R547). -/
def State.reportBody (s : State) (c : BitVec 10) (nonce pub : List Byte) : List Byte :=
  leBytes 4 1 ++ leBytes 4 456 ++ leBytes 8 Config.deviceId.toNat ++ s.regBytes rMeas 32 ++ leBytes 8 s.svn.toNat
    ++ leBytes 8 s.lesson.toNat ++ leBytes 2 c.toNat ++ leBytes 2 (s.strict.toNat + 2 * s.recovery.toNat) ++ leBytes 4 0
    ++ nonce ++ pub
/-- The report is ready: a fresh ephemeral key pair stands behind it (R546, R547). -/
def State.reportReady (s : State) : State :=
  match s.sec.attest with
  | none => s
  | some (c, nonce) =>
    let k := s.sec.pairs
    let body := s.reportBody c nonce (Config.ephemeralPublic k)
    let t := { s with sec := { s.sec with attest := none, pairs := k + 1, eph := tput (fun _ => none) s.sec.eph c.toNat (some (k, nonce)) } }
    (t.putRegs rReport 57 (body ++ Config.identitySign (Config.sha256 body))).secEnd 0

/-- The ASCII string of R549. -/
def lockerInfo : List Byte := [0x5A, 0x4C, 0x37, 0x2D, 0x4C, 0x4F, 0x43, 0x4B, 0x45, 0x52]
/-- SEC.IMPORT_GO (R549, R550). -/
def State.secImport (s : State) : State :=
  let b := s.latchBytes rImport 17
  let c := leAt b 76 2 % 1024
  let slot := leAt b 78 1
  let l := rLocker + 8 * slot
  match tget (fun _ => none) s.sec.eph c with
  | none => s.secEnd (if s.cohortState c ≠ 1 then 5 else 2)
  | some (k, nonce) =>
    let t := { s with sec := { s.sec with eph := tput (fun _ => none) s.sec.eph c none } }
    if s.cohortState c ≠ 1 then t.secEnd 5
    else if (s.reg l).getLsbD 63 then t.secEnd 4
    else
      let kek := Config.hkdf nonce (Config.ecdhX k (b.take 64)) (lockerInfo ++ (b.drop 76).take 8)
      match Config.gcmOpen kek ((b.drop 64).take 12) ((b.drop 76).take 12) ((b.drop 88).take 32) (b.drop 120) with
      | none => t.secEnd 3
      | some key =>
        let t := { t with sec := { t.sec with keys := tput (fun _ => []) t.sec.keys slot key } }
        (t.setReg l (BitVec.ofNat 64 (2 ^ 63 + c * 2 ^ 32 + leAt b 80 4))).secEnd 0

/-- Zero a Locker slot (R551). -/
def State.clearSlot (s : State) (slot : Nat) : State :=
  { s.setReg (rLocker + 8 * slot) 0 with sec := { s.sec with keys := tput (fun _ => []) s.sec.keys slot [] } }

/-! ### Zeroing -/

/-- Lines of a pooled-memory range that are held as in error. -/
def State.badLines (s : State) (a n : Nat) : List Nat :=
  let tab := s.regs.filterMap (fun e =>
    if rChan ≤ e.1 ∧ e.1 < rChan + 64 * 0x1000 ∧ 0x800 ≤ (e.1 - rChan) % 0x1000 ∧ e.2.getLsbD 63 then some (fget e.2 0 40 / 64) else none)
  (s.g7m.bad.map Prod.fst ++ tab).filter (fun l => decide (a ≤ 64 * l) && decide (64 * l < a + n))
/-- Zero a range of the module's memory: tally slots on it go, and lines in error are written whole. -/
def State.scrubRange (s : State) (a n : Nat) : State :=
  let t := s.zero a n
  let t := { t with coh := { t.coh with slots := t.coh.slots.filter (fun e =>
    !(decide (a / 64 ≤ e.1) && decide (64 * e.1 < a + n) && (match e.2 with
      | some x => x.coll = none
      | none => false))) } }
  t.forAll (t.badLines a n) (fun s l => s.heal l)

/-! ### Sealed regions (R552) -/

/-- Set STATE of a seal entry. -/
def State.setSeal (s : State) (i st : Nat) : State := s.setRegF (rSeal + 32 * i + 16) 24 2 st
/-- Recall every Satchel copy in a range with write-back (R152, R552). -/
def State.recallRange (s : State) (a n : Nat) : State :=
  s.forAll (s.coh.dir.filter (fun e => decide (a ≤ 64 * e.1) && decide (64 * e.1 < a + n))) (fun s e =>
    if s.inHs e.1 then s
    else
      let sn := (accessSnoops false e.2).map (fun x => (e.1, x.1, x.2))
      if sn.isEmpty then s else s.beginTrans .recall [e.1] sn)
/-- Create the sealed region of entry i (R552). -/
def State.sealCreate (s : State) (i : Nat) (base len : Word) (cohort slot : Nat) : State :=
  let e := s.sealEntry i
  let a := base.toNat
  let n := len.toNat
  if e.2.2.2.2 ≠ 0 then s
  else if (s.sealOver a n).isSome || meetsRegion s.ovfRegion a n || meetsRegion s.ttRegion a n then s.secEnd 6
  else if decide (2 ^ 40 < a + n) || n = 0 || a % 2 ^ 21 ≠ 0 || n % 2 ^ 21 ≠ 0 || s.cohortState cohort ≠ 1 then s.secEnd 7
  else
    let t := (s.setReg (rSeal + 32 * i) base).setReg (rSeal + 32 * i + 8) len
    let t := t.setReg (rSeal + 32 * i + 16) (BitVec.ofNat 64 (cohort + slot * 2 ^ 16 + 2 ^ 24))
    (t.recallRange a n).secEnd 0
/-- The region of entry i has been zeroed (R552). -/
def State.sealZeroed (s : State) (i : Nat) : State :=
  let e := s.sealEntry i
  if e.2.2.2.2 = 1 then (s.scrubRange e.1 e.2.1).setSeal i 2 else s

/-! ### Teardown (R556 to R560) -/

/-- A page's timetable names a cohort. -/
def ttNames (tt : Timetable) (c : Nat) : Bool :=
  tt.roles.any (fun e => e.cohort.toNat = c) || tt.steps.any (fun e => e.cohort.toNat = c) || tt.prisms.any (fun e => e.cohort.toNat = c)
    || tt.preloads.any (fun e => e.cohort.toNat = c) || tt.owners.any (fun e => e.cohort.toNat = c)
    || tt.engines.any (fun e => e.descs.any (fun d => d.cohort.toNat = c))
/-- The ranges of SEC.SCRUB_LIST up to a length of 0. -/
def State.scrubListed (s : State) : Nat → Nat → List (Nat × Nat)
  | 0, _ => []
  | k + 1, i =>
    let n := (s.reg (rScrubList + 16 * i + 8)).toNat
    if n = 0 then [] else ((s.reg (rScrubList + 16 * i)).toNat, n) :: s.scrubListed k (i + 1)
/-- SEC.TEARDOWN (R556). -/
def State.teardown (s : State) (c : Nat) : State :=
  let named := [(0 : Fin 2), 1].any (fun p => inRange 1 4 (s.pageState p.val) && (match s.bell.pages[p].tt with
    | some tt => ttNames tt c
    | none => false))
  if named then s.secEnd 8
  else if s.cohortState c ≠ 1 then s.secEnd 5
  else
    let t := (s.setRegF (cohortAt c + 24) 12 3 2).setRegBit rSecStatus 8 true
    { t with sec := { t.sec with
        torn := c :: t.sec.torn.filter (· ≠ c)
        tears := t.sec.tears ++ [({ cohort := c, start := t.lesson, nonce := t.latchBytes rNonce 4, listed := t.scrubListed 64 0, scrub := false,
                                    areas := [], sealed := 0, local_ := 0, slots := 0 } : Tear)] } }

/-- The Classrooms of the module. -/
def allRooms : List Nat := List.range 1200
/-- Base and bytes of a Classroom's spill records (R274). -/
def State.spillBase (s : State) (room : Nat) : Nat := bbBase room + s.regF (roomReg room crSpill) 0 18
def State.spillCount (s : State) (room : Nat) : Nat := s.regF (roomReg room crSpill) 32 9
/-- VALID spill records of a Classroom. -/
def State.spillValid (s : State) (room : Nat) : List Nat :=
  (List.range (s.spillCount room)).filter (fun i => (s.byte (s.spillBase room + 768 * i + 519)).getLsbD 0)
/-- Ranges that a Classroom's CR.BB_OWNER records for a cohort. -/
def State.ownedBy (s : State) (room c : Nat) : List (Nat × Nat) :=
  (List.range 4).filterMap (fun k =>
    let w := s.reg (roomReg room crBbOwner + 8 * k)
    if w.getLsbD 63 ∧ fget w 48 10 = c then some (bbBase room + fget w 18 18, fget w 0 18 + 1) else none)
/-- Classrooms of which anything other than the reset state is held. -/
def State.touchedRooms (s : State) : List Nat :=
  allRooms.filter (fun r => s.regs.any (fun e => decide (roomReg r 0 ≤ e.1) && decide (e.1 < roomReg r 0 + 0x1000))
    || s.mem.any (fun e => decide (bbBase r ≤ e.1) && decide (e.1 < bbBase r + 0x40000)))

/-- Roll call DCLK 64: a cohort in TEARDOWN moves to SCRUBBING (R557). -/
def State.scrubStart (s : State) (t : Tear) : State :=
  if t.scrub then s
  else
    let c := t.cohort
    let seals := (List.range 64).filter (fun i => (s.sealEntry i).2.2.2.2 ≠ 0 && (s.sealEntry i).2.2.1 = c)
    let rooms := s.touchedRooms
    let bb := rooms.flatMap (fun r => s.ownedBy r c ++ (s.spillValid r).filterMap (fun i =>
      let a := s.spillBase r + 768 * i
      if s.num (a + 516) 2 % 1024 = c then some (a, 768) else none))
    let desks := (s.desks.filter (fun e => e.2.latest.map BitVec.toNat = some c)).map Prod.fst
    let slates := desks.map (fun d => (slateBase d, 6144))
    let sealed := seals.map (fun i => ((s.sealEntry i).1, (s.sealEntry i).2.1))
    let sum := fun (l : List (Nat × Nat)) => l.foldl (fun n x => n + x.2) 0
    let locks := (List.range 256).filter (fun k => (s.reg (rLocker + 8 * k)).getLsbD 63 && fget (s.reg (rLocker + 8 * k)) 32 10 = c)
    let saves := s.saveRecords.filter (fun i => s.saveState i ≠ 0 && (s.savedDesc i).cohort.toNat = c)
    let u := s.setRegF (cohortAt c + 24) 12 3 3
    let u := u.forAll seals (fun s i => s.setSeal i 3)
    let u := u.forAll locks (fun s k => s.clearSlot k)
    let u := u.forAll saves (fun s i => s.poke (s.saveBase + 64 * i) (List.replicate 64 0))
    let u := u.forAll desks (fun s d => s.setDesk d { s.desk d with t0 := 0, t1 := 0 })
    let u := ((u.setReg (cohortAt c) 0).setReg (cohortAt c + 8) 0).setReg (cohortAt c + 16) 0
    let t' := { t with scrub := true, areas := sealed ++ t.listed ++ bb ++ slates, sealed := sum sealed,
                       local_ := sum bb + sum slates + 160 * desks.length, slots := locks.length }
    { u with sec := { u.sec with tears := u.sec.tears.map (fun (x : Tear) => if x.cohort = c then t' else x) } }

/-- Every object of a teardown is zeroed: its report is written (R558, R560). -/
def State.teardownDone (s : State) (c : Nat) (writeErr : Bool) : State :=
  match s.sec.tears.find? (fun t => t.cohort = c && t.scrub) with
  | none => s
  | some t =>
    let u := { s with sec := { s.sec with tears := s.sec.tears.filter (fun x => x.cohort ≠ c) } }
    let u := u.forAll t.areas (fun s x => s.scrubRange x.1 x.2)
    let u := u.forAll ((List.range 64).filter (fun i => (u.sealEntry i).2.2.2.2 = 3 && (u.sealEntry i).2.2.1 = c)) (fun s i => s.setSeal i 0)
    let u := u.forAll u.touchedRooms (fun s r => s.forAll (List.range 4) (fun s k =>
      let a := roomReg r crBbOwner + 8 * k
      if (s.reg a).getLsbD 63 ∧ fget (s.reg a) 48 10 = c then s.setReg a 0 else s))
    let u := u.setRegF (cohortAt c + 24) 12 3 0
    let sum := t.listed.foldl (fun n x => n + x.2) 0
    let body := leBytes 2 c ++ leBytes 1 (if writeErr then 10 else 0) ++ leBytes 5 0 ++ leBytes 8 t.start.toNat ++ leBytes 8 u.lesson.toNat
      ++ leBytes 8 t.sealed ++ leBytes 8 sum ++ leBytes 8 t.local_ ++ leBytes 1 t.slots ++ leBytes 15 0 ++ t.nonce
    (u.putRegs rScrubReport 20 (body ++ Config.identitySign (Config.sha256 body))).secEnd 0

/-! ### Meanings -/

/-- GLB_PORT_PART_STAGE_WRITE (R536). -/
def execGlbPortPartStageWrite (p : Fin 128) (v : BitVec 8) (s : State) : Host.Outcome State Fault Refusal :=
  .next (s.bar0 (fun s => (s.setTabF (rPortPartStage + p.val) 1 (v &&& 0xBF).toNat).partSwapFree))
/-- GLB_PART_SWAP_WRITE (R536). -/
def execGlbPartSwapWrite (v : BitVec 64) (s : State) : Host.Outcome State Fault Refusal :=
  .next (s.bar0 (fun s => (s.writePlain rPartSwap v allBits).partSwapFree))
/-- GLB_PORT_SCRUB (R537). -/
def execGlbPortScrub (v : BitVec 64) (s : State) : Host.Outcome State Fault Refusal := .next (s.bar0 (fun s => s.writeScrub v))
/-- PORT_SCRUB_DONE (R537). -/
def execPortScrubDone (p : Fin 128) (s : State) : Host.Outcome State Fault Refusal := .next (s.scrubDone p.val)
/-- GLB_COHORT_WRITE (R333, R539): the seed, or bytes 24 to 25. -/
def execGlbCohortWrite (c : BitVec 10) (part : CohortPart) (v : BitVec 128) (s : State) : Host.Outcome State Fault Refusal :=
  .next (s.bar0 (fun s => match part with
    | .seed => (s.setReg (cohortAt c.toNat) (v.setWidth 64)).setReg (cohortAt c.toNat + 8) ((v >>> 64).setWidth 64)
    | .state => s.writeCohortState c.toNat (v.toNat % 2 ^ 16)))
/-- GLB_NODE_WRITE (R609). -/
def execGlbNodeWrite (v : BitVec 64) (s : State) : Host.Outcome State Fault Refusal := .next (s.bar0 (fun s => s.writeNode v))
/-- SEC_ATTEST (R546). -/
def execSecAttest (v : BitVec 64) (s : State) : Host.Outcome State Fault Refusal := .next (s.viaPrincipal (.attest (fget v 0 10)) (fun s => s.secAttest (fget v 0 10)))
/-- ATTESTATION_REPORT_READY (R546, R547). -/
def execAttestationReportReady (s : State) : Host.Outcome State Fault Refusal := .next s.reportReady
/-- EPHEMERAL_KEY_EXPIRY (R546): 60 s have passed. -/
def execEphemeralKeyExpiry (c : BitVec 10) (s : State) : Host.Outcome State Fault Refusal :=
  .next { s with sec := { s.sec with eph := tput (fun _ => none) s.sec.eph c.toNat none } }
/-- SEC_IMPORT_GO (R549, R550). -/
def execSecImportGo (s : State) : Host.Outcome State Fault Refusal := .next (s.viaPrincipal .importGo State.secImport)
/-- SEC_LOCKER_CLEAR (R551). -/
def execSecLockerClear (v : BitVec 64) (s : State) : Host.Outcome State Fault Refusal :=
  .next (s.viaPrincipal (.lockerClear (fget v 0 8)) (fun s => s.clearSlot (fget v 0 8)))
/-- SEC_SEAL_CREATE (R552). -/
def execSecSealCreate (i : Fin 64) (base len : BitVec 64) (cohort : BitVec 10) (slot : BitVec 8) (s : State) :
    Host.Outcome State Fault Refusal := 
  .next (s.viaPrincipal (.sealCreate i.val base len cohort.toNat slot.toNat) (fun s => s.sealCreate i.val base len cohort.toNat slot.toNat))
/-- SEAL_ZEROING_DONE (R552). -/
def execSealZeroingDone (i : Fin 64) (s : State) : Host.Outcome State Fault Refusal := .next (s.sealZeroed i.val)
/-- SEC_TEARDOWN (R556). -/
def execSecTeardown (v : BitVec 64) (s : State) : Host.Outcome State Fault Refusal :=
  .next (s.viaPrincipal (.teardown (fget v 0 10)) (fun s => s.teardown (fget v 0 10)))
/-- TEARDOWN_COMPLETE (R558, R560). -/
def execTeardownComplete (c : BitVec 10) (writeErr : Bool) (s : State) : Host.Outcome State Fault Refusal :=
  .next (if s.fenced 0 || s.fenced 2 then s else s.teardownDone c.toNat writeErr)
end Sys2Proof.Machine
end

