-- ==== Sys2Proof/Machine/RollCall.lean ====
section
/-! DEFINITION. Timetable pages, the loader, the Bell and the roll call up to DCLK 96 ("Bells, Lessons and Exact Timing", R30,
R31, R35 to R49, R60 to R62; "Desks, Classrooms and Wings", R264 to R277; R279, R333, R360, R365, R366, R382 to R385, R432,
R451, R539, R559, R646). -/

namespace Sys2Proof.Machine

/-! ### Pages (R36 to R39, R417) -/

/-- The two pages. -/
def bothPages : List (Fin 2) := [0, 1]
def State.page (s : State) (p : Fin 2) : Page := s.bell.pages[p]
def State.setPage (s : State) (p : Fin 2) (x : Page) : State := { s with bell := { s.bell with pages := s.bell.pages.set p x } }
/-- Put a page in a state with a reason (R614). -/
def State.setPageState (s : State) (p : Fin 2) (st reason : Nat) : State :=
  (s.setRegF rTtState (16 * p.val) 3 st).setRegF rTtState (16 * p.val + 4) 3 reason
/-- A page that is POSTED, LOADING, LOADED or ACTIVE. -/
def State.pageBusy (s : State) (p : Fin 2) : Bool := inRange 1 4 (s.pageState p.val)
/-- A roll call is in progress (R39). -/
def State.inRollCall (s : State) : Bool :=
  s.bell.phase = .rung || s.bell.phase = .checked || s.bell.phase = .activated || s.bell.phase = .swapped || s.bell.phase = .gapped
/-- The page at a pooled-memory offset lies wholly inside the timetable region (R417). -/
def State.pageInside (s : State) (p : Fin 2) (len : Nat) : Bool :=
  let a := s.regF (rTtPage0 + 8 * p.val) 0 40
  decide (s.ttRegion.1 ≤ a) && decide (a + len ≤ s.ttRegion.2)
/-- A compute or memory fence holds the loader (R574). -/
def State.loaderHeld (s : State) : Bool := s.fenced 0 || s.fenced 2
/-- BELL.TT_POST (R38, R39, R417, R614): the loader begins reading at once (R37, R41), so the page is LOADING unless it is held. -/
def State.postPage (s : State) (v : Word) (len : Nat) : State :=
  let p : Fin 2 := Fin.ofNat 2 v.toNat
  if s.pageBusy p || !s.pageInside p len then s.bellCfgErr
  else
    let t := (s.setPageState p (if s.loaderHeld then 1 else 2) 0).setPage p { at_ := v.toNat / 2, order := s.bell.posts, fresh := s.inRollCall }
    { t with bell := { t.bell with posts := t.bell.posts + 1 }, xl := { t.xl with pins := t.xl.pins.filter (fun x => x.1 ≠ p) } }

/-! ### The loader (R41, R42, R382, R432) -/

/-- Two ranges cover a common address (R42). -/
def rangesMeet (a b : Nat × Nat) : Bool := decide (max a.1 b.1 < min (a.1 + a.2) (b.1 + b.2))
/-- Lesson-plan range of a timetable. -/
def planRange (tt : Timetable) : Nat × Nat := (tt.planFirst, tt.planCount)
/-- Place of a plan word in the stores (R252). -/
def planAt (w : PlanWord) : Nat := 4096 * (300 * w.w.val + w.c.val) + w.addr.toNat
/-- Write the plan words of a timetable that satisfy a test. -/
def State.writePlan (s : State) (tt : Timetable) (p : PlanWord → Bool) : State :=
  { s with plan := (tt.plan.filter p).foldl (fun t w => tput (fun _ => 0) t (planAt w) w.word) s.plan }
/-- Range that the active run occupies. -/
def State.activeRange (s : State) : Option (Nat × Nat) := s.bell.run.map (fun r => planRange r.tt)
/-- Matrices that a Prism plan names. -/
def planNames (tt : Timetable) : List (BitVec 12) := (tt.prisms.map (fun (x : PrismPlan) => x.name)).eraseDups
/-- Every matrix that a timetable names has its image in the cache (R432). -/
def State.imagesReady (s : State) (tt : Timetable) : Bool := (planNames tt).all (fun n => s.omu.images.any (fun i => i.name = n))

/-- The role entry that 16 bytes and a byte of the governance table hold (R264, R336). -/
def RoleImage.role (r : RoleImage) : RoleEntry :=
  { desk := r.desk, cohort := r.entry.extractLsb' 0 10, tag := r.entry.extractLsb' 16 8, keep := r.entry.getLsbD 24, resume := r.entry.getLsbD 25,
    mask := r.entry.extractLsb' 28 4, entries := Vector.ofFn (fun k : Fin 4 => r.entry.extractLsb' (32 + 16 * k.val) 12),
    governs := if r.gov = 0xFF then none else some r.gov.toNat }
/-- The step entry that 16 bytes hold (R365). -/
def stepOf (b : BitVec 128) : StepEntry := { cohort := b.extractLsb' 0 10, mode := b.extractLsb' 16 8, base := b.extractLsb' 64 64 }
/-- The collective descriptor that 64 bytes and the list at WATCH_AT hold (R335). -/
def CollImage.coll (x : CollImage) : CollDesc :=
  let f := fun (b n : Nat) => (x.desc.extractLsb' (8 * b) (8 * n)).toNat
  { id := x.desc.extractLsb' 0 32, kind := x.desc.extractLsb' 32 8, type := x.desc.extractLsb' 40 8, members := f 6 1, index := f 7 1,
    root := x.desc.extractLsb' 64 12, group := x.desc.extractLsb' 80 12, launch := f 12 4, close := f 16 4, finish := f 20 4,
    region := f 24 6, lines := f 30 2, init := x.desc.getLsbD 256, watch := x.watch, vote := f 36 6, verdict := f 42 6, vtick := f 48 4 }
/-- The timetable that a page holds (R36). -/
def PageImage.timetable (i : PageImage) : Timetable :=
  { dclk := i.dclk, minGuard := i.minGuard, strict := i.strict, planFirst := i.planFirst, planCount := i.planCount, run := i.run,
    crcOk := i.crcOk, roles := i.roles.map RoleImage.role, plan := i.plan
    engines := i.engines.map (fun (e : EngineImage) => { lesson := e.lesson, w := e.w, e := e.e, descs := e.descs.map (fun d => descOfBytes (leBytes 64 d.toNat)) })
    prisms := i.prisms, preloads := i.preloads, colls := i.colls.map CollImage.coll, steps := i.steps.map stepOf, lanes := i.lanes,
    owners := i.owners, holds := i.holds, ports := i.ports }

/-- A page whose content is distributed becomes LOADED and raises TT_LOADED (R37, R41, R382, R432). -/
def State.tryLoaded (s : State) (p : Fin 2) : State :=
  let x := s.page p
  match x.tt with
  | none => s
  | some tt =>
    if s.pageState p.val = 2 ∧ x.stalled = 0 ∧ tt.preloads.length ≤ x.pre ∧ s.imagesReady tt then (s.setPageState p 3 0).raise 0 else s
/-- Walk the next preload entry of a page (R382). -/
def State.preloadNext (s : State) (p : Fin 2) : State :=
  let x := s.page p
  match x.tt with
  | none => s
  | some tt =>
    match tt.preloads[x.pre]? with
    | none => s.tryLoaded p
    | some e => (s.startWalk (.preload p e.w.val (e.c.map (fun c => 300 * e.w.val + c.val))) e.cohort e.fva.toNat false false).2
/-- The loader has yet to read a page: it is POSTED, or LOADING with its content unread (R37, R41). -/
def State.pageUnread (s : State) (p : Fin 2) : Bool := s.pageState p.val = 1 || (s.pageState p.val = 2 && (s.page p).tt.isNone)
/-- The loader has read a page: plan words go where the active run does not reach, and the preload walks begin. -/
def State.loaded (s : State) (p : Fin 2) (tt : Timetable) : State :=
  if s.loaderHeld then s
  else if s.pageUnread p then
    let t := (s.setPageState p 2 0).setPage p { s.page p with tt := some tt, pre := 0, stalled := 0 }
    let t := t.writePlan tt (fun w => match s.activeRange with
      | some r => !rangesMeet r (w.addr.toNat, 1)
      | none => true)
    t.preloadNext p
  else s.tryLoaded p
/-- A page is REFUSED (R37). -/
def State.refusePage (s : State) (p : Fin 2) (reason : Nat) : State := s.setPageState p 6 reason

/-- The loader's fault record, or a stall until the queue has room (R382, R394, R396). -/
def State.preloadFault (s : State) (p : Fin 2) (w : Nat) (k : Walk) (x : XFault) : State :=
  if s.faultFull then (s.setPage p { s.page p with stalled := 2 }).count rFltOvf
  else (s.setPage p { s.page p with stalled := 1 }).postFault (faultRecord k.fva 0xFFFFFFFF 0 k.cohort.toNat x false w 0 true 0xFFFF)
/-- A preload walk has ended (R382). -/
def State.preloadWalked (s : State) (p : Fin 2) (w : Nat) (room : Option Nat) (k : Walk) : State :=
  if s.pageState p.val ≠ 2 then s
  else match k.failed, k.done with
    | some x, _ => s.preloadFault p w k x
    | none, some t =>
      let u := s.setPage p { s.page p with pre := (s.page p).pre + 1 }
      ({ u with xl := { u.xl with pins := u.xl.pins ++ [(p, w, room, { t with pinned := true })] } }).preloadNext p
    | none, none => s
/-- The loader stalls on a page with its record posted. -/
def State.loaderStalled (s : State) (p : Fin 2) : Bool := s.pageState p.val = 2 && (s.page p).stalled = 1
/-- A resume of the loader: RETRY repeats the walk, ABORT refuses the page (R382, R397). -/
def State.resumeLoader (s : State) (retry : Bool) : State :=
  match bothPages.find? s.loaderStalled with
  | none => s.badResume
  | some p => if retry then (s.setPage p { s.page p with stalled := 0 }).preloadNext p else s.refusePage p 1
/-- FLT.RESUME (R397). -/
def State.fltResume (s : State) (token : Nat) (retry : Bool) : State :=
  if token = 0xFFFF then s.resumeLoader retry else s.resumeRecord token retry
/-- Loader stalls that waited for room translate again when FLT.TAIL advances (R396). -/
def State.loaderAgain (s : State) : State :=
  s.forAll bothPages (fun s p =>
    if s.pageState p.val = 2 ∧ (s.page p).stalled = 2 then (s.setPage p { s.page p with stalled := 0 }).preloadNext p else s)

/-! ### Matrix images (R430, R432) -/

/-- An FP32 element is finite. -/
def fp32Finite (b : Nat) : Bool := b / 2 ^ 23 % 2 ^ 8 ≠ 255
/-- Place of a matrix's directory entry (R430). -/
def State.mtxEntry (s : State) (name : BitVec 12) : Nat := s.regF rMtxDir 0 40 + 16 * name.toNat
/-- VALID of a matrix's directory entry (R430, R432). -/
def State.mtxValid (s : State) (name : BitVec 12) : Bool := decide (128 ≤ s.num (s.mtxEntry name + 10) 1)
/-- σ is finite and not 0, and every element is finite (R432). -/
def elementsOk (sigma : Nat) (data : List Byte) : Bool :=
  fp32Finite sigma && sigma % 2 ^ 31 ≠ 0 && (List.range 16384).all (fun i => fp32Finite (leAt data (4 * i) 4))
/-- A named matrix as R432 asks: its directory entry is VALID, and its image, or the matrix in memory where none is cached, is
usable. -/
def State.matrixOk (s : State) (name : BitVec 12) : Bool :=
  s.mtxValid name && (match s.omu.images.find? (fun (i : OmuImage) => i.name = name) with
    | some i => elementsOk i.sigma i.data
    | none => elementsOk (s.num (s.mtxEntry name + 12) 4) (s.peek (s.num (s.mtxEntry name) 8 % 2 ^ 40) 65536))
/-- A pooled-memory range that the decomposition may read: no uncorrectable error, and no sealed region of another cohort (R433). -/
def State.matrixReadable (s : State) (a : Nat) (cohort : Nat) : Bool :=
  !s.peekBad a 65536 && (match s.sealOver a 65536 with
    | some i => (s.sealEntry i).2.2.1 = cohort
    | none => true)
/-- Pages that are LOADING and name a matrix. -/
def State.pagesNaming (s : State) (name : BitVec 12) : List (Fin 2) :=
  bothPages.filter (fun p => s.pageState p.val = 2 && (match (s.page p).tt with
    | some tt => (planNames tt).contains name
    | none => false))
/-- A place of the image cache for a matrix: its former one, a free one, or that of an image no page in use names. -/
def State.imageSlot (s : State) (name : BitVec 12) : Nat :=
  let named := fun (n : BitVec 12) => bothPages.any (fun p => inRange 2 4 (s.pageState p.val) && (match (s.page p).tt with
    | some tt => (planNames tt).contains n
    | none => false))
  match s.omu.images.find? (fun i => i.name = name) with
  | some i => i.slot
  | none =>
    match (List.range 64).find? (fun k => !s.omu.images.any (fun (i : OmuImage) => i.slot = k)) with
    | some k => k
    | none => ((s.omu.images.find? (fun i => !named i.name)).map OmuImage.slot).getD 0
/-- The Principal has decomposed a matrix: σ goes to the directory, its image to the cache, and pages that waited go on; a
matrix that R432 rejects refuses them. -/
def State.decomposed (s : State) (name : BitVec 12) (sigma : BitVec 32) : State :=
  let ps := s.pagesNaming name
  if ps.isEmpty then s
  else
    let e := s.mtxEntry name
    let d := s.peek e 16
    let a := leAt d 0 8 % 2 ^ 40
    let cohort := leAt d 8 2 % 1024
    let t := s.poke (e + 12) (leBytes 4 sigma.toNat)
    let data := t.peek a 65536
    let ok := s.mtxValid name && t.matrixReadable a cohort && elementsOk sigma.toNat data
    if !ok then t.forAll ps (fun s p => s.refusePage p 1)
    else
      let k := t.imageSlot name
      let m : OmuImage := { name := name, cohort := BitVec.ofNat 10 cohort, gain := leAt d 10 1 % 8, sigma := sigma.toNat, data := data, slot := k }
      let u := { t with omu := { t.omu with images := t.omu.images.filter (fun (i : OmuImage) => i.slot ≠ k) ++ [m], decomps := t.omu.decomps + 1 },
                        freeCtr := t.freeCtr + 65536 }
      let u := u.poke (u.regF rImgBase 0 40 + 65536 * k) ((List.range 65536).map (fun i => Config.freeByte (t.freeCtr + i)))
      u.forAll ps (fun s p => s.tryLoaded p)

/-! ### Format conditions (R43) -/

/-- Pairs of a list, each element with those after it. -/
def laterPairs {α : Type} : List α → List (α × α)
  | [] => []
  | a :: r => r.map (fun b => (a, b)) ++ laterPairs r
/-- R365. -/
def stepsOk (tt : Timetable) : Bool :=
  decide (tt.steps.length ≤ 1024) && tt.steps.all (fun (e : StepEntry) => decide (e.mode.toNat ≤ 2))
    && (laterPairs tt.steps).all (fun x => x.1.cohort ≠ x.2.cohort)
/-- R382. -/
def preloadsOk (tt : Timetable) : Bool :=
  tt.preloads.all (fun (e : Preload) => match e.c with
    | some _ => decide ((tt.preloads.filter (fun (x : Preload) => x.w = e.w && x.c = e.c)).length ≤ 48)
    | none => decide ((tt.preloads.filter (fun (x : Preload) => x.w = e.w && x.c = none)).length ≤ 1024))
/-- Cohorts that the role entries of a Classroom name (R385). -/
def roomCohorts (tt : Timetable) (w : Fin 4) (c : Fin 300) : List (BitVec 10) :=
  ((tt.roles.filter (fun (e : RoleEntry) => e.desk.w = w && e.desk.c = c)).map (fun (e : RoleEntry) => e.cohort)).eraseDups
/-- R385. -/
def cohortsOk (tt : Timetable) : Bool := tt.roles.all (fun (e : RoleEntry) => decide ((roomCohorts tt e.desk.w e.desk.c).length ≤ 4))
/-- R432: the plan names at most 32 matrices, each of them usable. -/
def State.matricesOk (s : State) (tt : Timetable) : Bool := decide ((planNames tt).length ≤ 32) && (planNames tt).all s.matrixOk
/-- R451: at most 3 cells in any 8 SCLK on an optical port. -/
def portsOk (tt : Timetable) : Bool :=
  tt.ports.all (fun (x : PortSlot) => decide (x.port.val < 64)
    || decide ((tt.ports.filter (fun (y : PortSlot) => y.lesson = x.lesson && y.port = x.port && decide (x.tick ≤ y.tick) && decide (y.tick < x.tick + 8))).length ≤ 3))
/-- R539: every cohort named is ACTIVE. -/
def State.cohortsActive (s : State) (tt : Timetable) : Bool :=
  tt.roles.all (fun (e : RoleEntry) => s.cohortState e.cohort.toNat = 1) && tt.steps.all (fun (e : StepEntry) => s.cohortState e.cohort.toNat = 1)
    && tt.prisms.all (fun (e : PrismPlan) => s.cohortState e.cohort.toNat = 1)
/-- R559: no two ranges of different cohorts overlap in one Classroom. -/
def ownersOk (tt : Timetable) : Bool :=
  (laterPairs tt.owners).all (fun x => x.1.w ≠ x.2.w || x.1.c ≠ x.2.c || x.1.cohort = x.2.cohort || !rangesMeet (x.1.base, x.1.len) (x.2.base, x.2.len))
/-- R646: no hold longer than 1,650 Lesson ticks, no two overlapping holds of one bank. -/
def holdsOk (tt : Timetable) : Bool :=
  tt.holds.all (fun (h : BankHold) => decide (h.stop ≤ h.start + 1650))
    && (laterPairs tt.holds).all (fun x => x.1.ch ≠ x.2.ch || x.1.bank ≠ x.2.bank || decide (x.1.stop < x.2.start) || decide (x.2.stop < x.1.start))
/-- The page meets every format condition of R43. -/
def State.formatOk (s : State) (tt : Timetable) : Bool :=
  tt.crcOk && stepsOk tt && preloadsOk tt && cohortsOk tt && s.matricesOk tt && portsOk tt && s.cohortsActive tt && ownersOk tt && holdsOk tt

/-! ### The Bell (R30, R35, R47 to R49, R60 to R64) -/

/-- A Desk that has not reached END (R47, R251). -/
def Desk.notAtEnd (d : Desk) : Bool := d.started &&& ~~~d.ended ≠ 0
/-- CR.OVR_LAST of a Desk that overran (R283, R626). -/
def State.overrunWord (s : State) (i : Nat) (d : Desk) : Word :=
  let pc := match d.illegal with
    | some a => a
    | none => ((d.seats.toList.find? (fun (x : Seat) => decide (x.st ≠ SeatState.idle))).map (fun (x : Seat) => x.pc)).getD 0
  BitVec.ofNat 64 (s.lesson.toNat % 2 ^ 16 + i % 256 * 2 ^ 16 + pc.toNat * 2 ^ 32 + d.illegal.isSome.toNat * 2 ^ 47)
/-- Count the overrun of a Desk (R47, R65, R277). -/
def State.countOverrun (s : State) (i : Nat) (d : Desk) : State :=
  let room := roomOf i
  let t := s.setReg (roomReg room crOvrLast) (s.overrunWord i d)
  if s.bell.gated then (t.count (roomReg room crStretchOvr)).classFault room 1
  else (t.count (roomReg room crOvrCount)).classFault room 0
/-- A best-effort access that its Seat has issued and whose target has not yet answered. -/
def Access.remains (a : Access) : Bool := !a.timed && a.result.isNone && a.stage ≠ .draining
/-- A Desk at DCLK 0: its role tag is 0 and its Seats lose what they had outstanding. Best-effort accesses that were issued go on,
with no completion (R47, R251, R265, R359). -/
def Desk.abort (d : Desk) : Desk :=
  { d with tag := 0, overran := d.notAtEnd, cur := 0,
           left := d.left ++ [(0 : Fin 4), 1, 2, 3].flatMap (fun k => (d.seats[k].acc.filter Access.remains).map (fun a => (k, a))),
           seats := d.seats.map (fun (x : Seat) =>
             { x with st := .idle, pc := 0, stat := 0, acc := [], fence := false, rcv := none, ltWait := false, blocks := [], wants := [] }) }
/-- Long Tally requests of the Lesson that ended: those accepted into the queue are performed, their read-outs discarded. -/
def Room.endLesson (r : Room) : Room :=
  let keep := fun (l : List LtReq) => l.map (fun (q : LtReq) => { q with told := false })
  { r with lt := keep r.lt, ltBusy := keep r.ltBusy, ltWait := [] }
/-- Consecutive counted overruns of each cohort (R48, R65, R566). A Lesson in which gating was in force breaks every cohort's
sequence; one under a fence leaves it as it is (DESIGN CHOICE, log 40). -/
def State.overrunCounts (s : State) : Tab Nat :=
  let cohorts := if s.bell.gated || s.fenced 0 || s.fenced 2 then []
    else (s.desks.filterMap (fun e => if e.2.notAtEnd then e.2.cohort.map BitVec.toNat else none)).eraseDups
  cohorts.foldl (fun t c => tput (fun _ => 0) t c (tget (fun _ => 0) s.bell.ovr c + 1)) []
/-- DCLK 0 for the Desks. -/
def State.abortDesks (s : State) : State :=
  let late := s.desks.filter (fun e => e.2.notAtEnd)
  let t := { s with bell := { s.bell with ovr := if s.fenced 0 || s.fenced 2 then s.bell.ovr else s.overrunCounts } }
  let t := t.forAll late (fun s e => s.countOverrun e.1 e.2)
  let t := t.forAll t.desks (fun s e => s.setDesk e.1 (Desk.abort e.2))
  t.forAll t.rooms (fun s e => s.setRoom e.1 (Room.endLesson e.2))

/-- Remove every pinned entry: the run it belongs to has ended (R382). -/
def State.dropPins (s : State) : State :=
  let keep := fun (l : List Tlb) => l.filter (fun e => !e.pinned)
  { s with
    xl := { s.xl with wing := (s.xl.wing.map (fun (e : Nat × List Tlb) => (e.1, keep e.2))).filter (fun e => !e.2.isEmpty) }
    rooms := (s.rooms.map (fun (e : Nat × Room) => (e.1, { e.2 with tlb := keep e.2.tlb }))).filter (fun e => e.2 ≠ roomDefault e.1) }
/-- The active run ends: its page is DONE with a reason (R37, R40, R44). -/
def State.endRun (s : State) (reason : Nat) : State :=
  match s.bell.run with
  | none => s
  | some r =>
    let t := (s.setPageState r.page 5 reason).dropPins
    { t with bell := { t.bell with run := none, ranged := some (planRange r.tt) } }
/-- At the Bell the active run moves to its next Lesson, or ends. -/
def State.runOn (s : State) : State :=
  let s := { s with bell := { s.bell with ranged := none } }
  match s.bell.run with
  | none => s
  | some r => if r.tt.run ≤ r.index + 1 then s.endRun 0 else { s with bell := { s.bell with run := some { r with index := r.index + 1 } } }

/-- The content that the Bell rings with: the Bell frame's, or in pin mode with no frame the Lesson number incremented and all
else unchanged (R62); none where no Bell rings (R58, R60, R61), or no Bell master governs the module (R52, R650). -/
def State.ringing (s : State) : Option BellInfo :=
  let pin := s.regBit rBellCtl 1
  if pin && !s.bell.edge then none
  else match s.bell.next with
    | some b => if b.halt then none else some b
    | none =>
      if pin && s.bell.led && !s.electing then
        some { lesson := s.lesson + 1, n := s.bell.n, stretch := s.stretchCode, strict := s.bell.frameStrict, pin := true, halt := false,
               guard := s.bell.guard, master := s.masterNode, hops := 0, delay := 0, lead := s.bell.lead }
      else none
/-- A Bell may ring: the body or the closing guard runs, or no Lesson has begun. -/
def State.bellMayRing (s : State) : Bool := s.bell.phase = .body || s.bell.phase = .guard || s.bell.phase = .idle

/-- STRICT that takes effect at this Bell (R357). -/
def State.strictAt (s : State) (b : BellInfo) : Bool := if s.isMaster then b.strict else s.bell.strictNext.getD s.strict
/-- The module's STRICT goes to the DEP-7s of its electrical ports (R530). -/
def State.strictWords (s : State) : State :=
  s.forAll ((List.range 64).filter s.portUp) (fun s p => s.emit (.word p (.strict s.strict (s.regBit rCohCtl 1))))

/-- What the Bell puts in force (R34, R35, R64, R65, R357). -/
def State.bellTakes (s : State) (b : BellInfo) : State :=
  let own := s.bell.own
  let strict := s.strictAt b
  let gate := s.bell.gate && decide (b.stretch < own)
  let t := (s.setReg rLesson b.lesson).setRegF rStretch 0 2 b.stretch
  let t := t.setRegBit rGlbMode 0 strict
  let cap := t.regBit rPrinStatus 2
  { t with bell := { t.bell with
      n := b.n, guard := b.guard, lead := b.lead, stretch := stretchFactor b.stretch, gate := gate, gated := gate || cap,
      strictNext := if s.isMaster then s.bell.strictNext else none,
      next := none, edge := false, waiting := false, elected := false, passed := none, phase := .rung, rungAt := s.now } }

/-- The Bell rings (R35, R47, R49, R61, R206, R354, R361, R651). -/
def State.ring (s : State) (b : BellInfo) : State :=
  let ended := s.lesson.toNat
  let nof := s.bell.next.isNone
  let t := ((s.timedOut.abortDesks).streamsTimedOut).collBell ended
  let t := (t.runOn).bellTakes b
  let t := if nof then t.countSat rBellStatus 48 16 else t
  let t := if t.regBit rBellCtl 1 then ({ t with bell := { t.bell with pinOut := true } }).emit (.pin "BELL_OUT" true) else t
  let t := (t.strictWords).alertsLapse
  let t := if t.strict then t.prismsDrop else t
  if t.ownCode ≠ t.bell.own then t.causeChanged
  else if !t.isMaster && (t.bell.own ≠ 0 || b.stretch ≠ 0) then t.sendRequest else t

/-! ### Roll call DCLK 32 (R40, R43, R44, R360) -/

/-- A page is due at this roll call (R39, R40). -/
def State.pageDue (s : State) (p : Fin 2) : Bool :=
  let x := s.page p
  inRange 1 3 (s.pageState p.val) && !x.fresh
    && (s.bell.change = some p || (if x.at_ = 0 then s.bell.run.isNone else decide (x.at_ ≤ s.lesson.toNat)))
/-- The pending page: the one whose changeover Lesson has passed, else the one posted first among those due. -/
def State.pendingPage (s : State) : Option (Fin 2) :=
  match bothPages.filter s.pageDue with
  | [] => none
  | [p] => some p
  | _ => match s.bell.change with
    | some p => some p
    | none => if (s.page 0).order < (s.page 1).order then some 0 else some 1
/-- N and G in force suit a timetable: none, LEN_MISMATCH or GUARD_SHORT (R43, R44). -/
def State.lengthFault (s : State) (tt : Timetable) : Option Nat :=
  if tt.dclk ≠ 33 * s.bell.n then some 3 else if s.bell.guard < tt.minGuard then some 4 else none
/-- This module's STRICT differs from the Bell frame's (R360). -/
def State.modeDiffers (s : State) : Bool := s.strict != s.bell.frameStrict
/-- The reason for which the pending page's content fails R43; none where it passes. -/
def State.pageRefusal (s : State) (tt : Timetable) : Option Nat :=
  if !s.formatOk tt then some 1
  else if s.modeDiffers || (tt.strict != s.strict) then some 2
  else s.lengthFault tt
/-- R43 for the pending page; the other page due waits for the end of its run (R40). -/
def State.checkPage (s : State) (p : Fin 2) : State :=
  let x := s.page p
  match (if s.pageState p.val = 3 then x.tt else none) with
  | some tt =>
    match s.pageRefusal tt with
    | some r =>
      let t := s.refusePage p r
      { t with bell := { t.bell with change := none } }
    | none =>
      let t := s.forAll (bothPages.filter (fun q => q ≠ p && s.pageDue q)) (fun s q => s.setPage q { s.page q with at_ := 0 })
      { t with bell := { t.bell with passed := some p } }
  | none => s.countSat rBellStatus 32 16
/-- Roll call DCLK 32. -/
def State.rollCheck (s : State) : State :=
  let pend := s.pendingPage
  let t := if s.modeDiffers then (s.setRegBit rGlbMode 8 true).endRun 2
    else match s.bell.run with
      | none => s
      | some r => match s.lengthFault r.tt with
        | some reason => s.endRun reason
        | none => s
  let t := match pend with
    | some p => t.checkPage p
    | none => t
  if t.bell.pinOut then ({ t with bell := { t.bell with pinOut := false } }).emit (.pin "BELL_OUT" false) else t

/-! ### Roll call DCLK 64: the run (R35, R42, R45, R46) -/

/-- Install the pinned entries of a page (R382). -/
def State.installPins (s : State) (p : Fin 2) : State :=
  let t := s.forAll (s.xl.pins.filter (fun x => x.1 = p)) (fun s x => match x.2.2.1 with
    | some room => s.putMicro room x.2.2.2
    | none => s.putWing x.2.1 x.2.2.2)
  { t with xl := { t.xl with pins := t.xl.pins.filter (fun x => x.1 ≠ p) } }
/-- A page's run begins. -/
def State.beginRun (s : State) (p : Fin 2) (tt : Timetable) : State :=
  let t := ((s.endRun 0).setPageState p 4 0).writePlan tt (fun _ => true)
  let t := (t.dropPins).installPins p
  { t with bell := { t.bell with run := some { page := p, tt := tt, index := 0 }, change := none, ranged := none } }
/-- The pending timetable becomes active, or its changeover Lesson begins, or the Lesson is as the active run leaves it. -/
def State.activate (s : State) : State :=
  let t := match s.bell.passed with
    | none => s
    | some p => match (s.page p).tt with
      | none => s
      | some tt =>
        let busy := if s.bell.change = some p then none else match s.activeRange with
          | some r => some r
          | none => s.bell.ranged
        match busy with
        | some r =>
          if rangesMeet r (planRange tt) then
            let t := (s.endRun 0).writePlan tt (fun _ => true)
            { t with bell := { t.bell with change := some p } }
          else s.beginRun p tt
        | none => s.beginRun p tt
  { t with bell := { t.bell with empty := t.bell.run.isNone, passed := none, ranged := none } }

/-! ### Roll call DCLK 64: roles (R264 to R275, R279, R333, R336, R366, R385) -/

/-- The seeds of the cohort table take effect (R333). -/
def State.takeSeeds (s : State) : State :=
  let cs := ((s.regs.filter (fun e => decide (rCohort ≤ e.1) && decide (e.1 < 0x10000) && e.1 % 32 < 16)).map (fun e => (e.1 - rCohort) / 32)).eraseDups
  { s with seeds := cs.foldl (fun t c => tput (fun _ => 0) t c (s.reg (cohortAt c + 8) ++ s.reg (cohortAt c))) [] }
/-- The role entries that take effect in this Lesson (R45, R264, R336, R566, R574). -/
def State.rolesNow (s : State) : List RoleEntry :=
  match s.bell.run with
  | none => []
  | some r =>
    if s.fenced 0 then []
    else r.tt.roles.filter (fun (e : RoleEntry) => s.ready (readyWing e.desk.w.val) && match e.governs with
      | none => true
      | some k => match r.tt.colls[k]? with
        | some d => s.governedRuns d.id
        | none => true)
/-- Collective that governs a role entry (R336). -/
def State.governor (s : State) (e : RoleEntry) : Option (BitVec 32) :=
  match s.bell.run, e.governs with
  | some r, some k => (r.tt.colls[k]?).map (fun (d : CollDesc) => d.id)
  | _, _ => none
/-- A step entry sets STEP in this Lesson: LOAD at the activation roll call, PIN where its cohort has work (R366). -/
def StepEntry.sets (e : StepEntry) (index : Nat) (works : List Nat) : Bool :=
  (e.mode = 1 && index = 0) || (e.mode = 2 && works.contains e.cohort.toNat)
/-- STEP of every cohort with work advances, and the step table's entries follow (R35, R45, R366). A cohort has work where a role
entry of it takes effect (DESIGN CHOICE, log 76). -/
def State.stepCohorts (s : State) (roles : List RoleEntry) : State :=
  match s.bell.run with
  | none => s
  | some r =>
    let works := (roles.map (fun (e : RoleEntry) => e.cohort.toNat)).eraseDups
    let t := s.forAll works (fun s c => s.setReg (cohortAt c + 16) (s.step_ c + 1))
    t.forAll (r.tt.steps.filter (fun e => StepEntry.sets e r.index works)) (fun s e => s.setReg (cohortAt e.cohort.toNat + 16) e.base)

/-- The spill record of a Desk (R271). -/
def State.spillRecord (s : State) (i : Nat) (d : Desk) : List Byte :=
  d.seats.toList.flatMap (fun (x : Seat) => x.s.toList.flatMap (fun w => leBytes 8 w.toNat))
    ++ d.seats.toList.map (fun (x : Seat) => x.p) ++ leBytes 2 ((d.cohort.getD 0).toNat) ++ leBytes 1 (i % 256) ++ leBytes 1 1
    ++ leBytes 2 s.lesson.toNat ++ leBytes 54 0 ++ leBytes 80 d.t0.toNat ++ leBytes 80 d.t1.toNat ++ leBytes 32 0
/-- Spill a Desk into the lowest free record of its Classroom (R271, R273). -/
def State.spill (s : State) (i : Nat) : State :=
  let room := roomOf i
  match (List.range (s.spillCount room)).find? (fun k => !(s.byte (s.spillBase room + 768 * k + 519)).getLsbD 0) with
  | some k =>
    let a := s.spillBase room + 768 * k
    ((s.storeMem a (s.spillRecord i (s.desk i))).2).forAll (linesOf a 768) (fun s l => s.bankTake 258 l)
  | none => s.classFault room 4
/-- The record that fills a Desk (R272). -/
def State.fillRecord (s : State) (i : Nat) (cohort : BitVec 10) : Option Nat :=
  ((s.spillValid (roomOf i)).map (fun k => s.spillBase (roomOf i) + 768 * k)).find? (fun a =>
    s.num (a + 516) 2 % 1024 = cohort.toNat && (s.byte (a + 518)).toNat = i % 256)
/-- A Desk's registers with S, P and the Tallies of a record (R272). -/
def State.filled (s : State) (a : Nat) (d : Desk) : Desk :=
  { d with
    seats := Vector.ofFn (fun k : Fin 4 => { d.seats[k] with
      v := Vector.replicate 32 0
      s := Vector.ofFn (fun n : Fin 16 => BitVec.ofNat 64 (s.num (a + 128 * k.val + 8 * n.val) 8))
      p := s.byte (a + 512 + k.val) })
    t0 := BitVec.ofNat 640 (s.num (a + 576) 80)
    t1 := BitVec.ofNat 640 (s.num (a + 656) 80) }
/-- S, V and P of every Seat zeroed (R47, R270). -/
def Desk.clearSeats (d : Desk) : Desk :=
  { d with seats := d.seats.map (fun (x : Seat) => { x with v := Vector.replicate 32 0, s := Vector.replicate 16 0, p := 0 }) }
/-- The cohort changes, or no role is given (R270). -/
def Desk.leaves (d : Desk) (e : Option RoleEntry) : Bool :=
  match e with
  | some r => d.cohort ≠ some r.cohort
  | none => true
/-- The Desk is spilled (R271, R275). -/
def Desk.spills (d : Desk) (e : Option RoleEntry) : Bool := d.keep && d.cohort.isSome && !d.overran && d.leaves e
/-- A Desk whose registers, Tallies and Slate have been kept or zeroed (R47, R270). -/
def State.keepOrZero (s : State) (i : Nat) (e : Option RoleEntry) : State :=
  let d := s.desk i
  if d.leaves e then
    (s.setDesk i { Desk.clearSeats d with t0 := 0, t1 := 0 }).zero (slateBase i) 6144
  else if d.overran then s.setDesk i (Desk.clearSeats d) else s
/-- Fill a Desk whose role resumes (R272). -/
def State.fill (s : State) (i : Nat) (e : RoleEntry) : State :=
  match s.fillRecord i e.cohort with
  | some a =>
    let t := (s.setDesk i (s.filled a (s.desk i))).setByte (a + 519) (s.byte (a + 519) &&& 0xFE)
    t.forAll (linesOf a 768) (fun s l => s.bankTake 258 l)
  | none => ((s.setDesk i { Desk.clearSeats (s.desk i) with t0 := 0, t1 := 0 }).zero (slateBase i) 6144).classFault (roomOf i) 4
/-- The role of a Desk for the Lesson; the entry block of each Seat it starts is loaded (R264, R265, R279, R291). -/
def State.giveRole (s : State) (i : Nat) (e : Option RoleEntry) : State :=
  let d := s.desk i
  let fresh := fun (x : Seat) => { x with st := .idle, stat := 0, rtag := 0, srStream := 0, srElem := 0, pc := 0, blocks := [], wants := [] }
  let base := { d with full := 0, overran := false, illegal := none, laneUse := Vector.replicate 16 0, cur := 0, ended := 0, started := 0,
                       tag := 0, keep := false, governs := none, seats := d.seats.map fresh }
  match e with
  | none => s.setDesk i { base with cohort := none }
  | some r =>
    s.setDesk i { base with
      tag := r.tag, cohort := some r.cohort, latest := some r.cohort, keep := r.keep, started := r.mask, governs := s.governor r
      seats := Vector.ofFn (fun k : Fin 4 =>
        if r.mask.getLsbD k.val then base.seats[k].enter r.entries[k] else base.seats[k]) }
/-- Roll call DCLK 64 for the Desks: inboxes, spills, what is kept, fills and roles. -/
def State.assignRoles (s : State) (roles : List RoleEntry) : State :=
  let named := roles.map (fun (e : RoleEntry) => DeskId.idx e.desk)
  let all := (s.desks.map Prod.fst ++ named).eraseDups
  let entry := fun (i : Nat) => roles.find? (fun (e : RoleEntry) => DeskId.idx e.desk = i)
  let t := s.forAll all (fun s i => s.zero (inboxBase i) 64)
  let t := t.forAll all (fun s i => if Desk.spills (s.desk i) (entry i) then s.spill i else s)
  let t := t.forAll all (fun s i => s.keepOrZero i (entry i))
  let t := t.forAll all (fun s i => match entry i with
    | some e => if e.resume then s.fill i e else s
    | none => s)
  t.forAll all (fun s i => s.giveRole i (entry i))

/-- A conversion window of the table (R384). -/
def State.cvtWindow (s : State) (c k : Nat) : CvtWin :=
  let l := s.peek (s.regF rCvtBase 0 40 + 512 * c + 32 * k) 32
  { hbase := leAt l 0 8, fbase := leAt l 8 8, len := leAt l 16 8, valid := (leAt l 24 1).testBit 0 }
/-- Each Classroom loads the windows of the cohorts that its role entries name (R385). -/
def State.loadWindows (s : State) : State :=
  match s.bell.run with
  | none => s
  | some r =>
    let rooms := (r.tt.roles.map (fun (e : RoleEntry) => (e.desk.w, e.desk.c))).eraseDups
    s.forAll rooms (fun s x =>
      let i := 300 * x.1.val + x.2.val
      s.setRoom i { s.room i with cvt := (roomCohorts r.tt x.1 x.2).map (fun c => (c, (List.range 16).map (s.cvtWindow c.toNat))) })

/-- Blackboard ranges that the timetable declares are recorded (R559): in the first entry of the Classroom that is not VALID. -/
def State.recordOwners (s : State) : State :=
  match s.bell.run with
  | none => s
  | some r => s.forAll r.tt.owners (fun s (o : BbOwner) =>
      let a := roomReg (300 * o.w.val + o.c.val) crBbOwner
      let v := BitVec.ofNat 64 ((o.len - 1) % 2 ^ 18 + o.base % 2 ^ 18 * 2 ^ 18 + o.cohort.toNat * 2 ^ 48 + 2 ^ 63)
      if (List.range 4).any (fun k => s.reg (a + 8 * k) = v) then s
      else match (List.range 4).find? (fun k => !(s.reg (a + 8 * k)).getLsbD 63) with
        | some k => s.setReg (a + 8 * k) v
        | none => s)

/-- Slots taken by RED and STRICT FP FADD are released (R95). -/
def State.releaseSlots (s : State) : State :=
  { s with coh := { s.coh with slots := s.coh.slots.filter (fun e => match e.2 with
    | some x => x.coll.isSome
    | none => false) } }
/-- Reservations of the collectives of this Lesson (R341). -/
def State.reserveNow (s : State) : State :=
  match s.bell.run with
  | none => s
  | some r => s.collReserveAll r r.index

/-- Roll call DCLK 64. -/
def State.rollActivate (s : State) : State :=
  let t := s.activate.takeSeeds
  let t := (((t.collReleaseDone).collAdvance).releaseSlots).reserveNow
  let roles := t.rolesNow
  let t := ((t.stepCohorts roles).assignRoles roles).loadWindows
  let t := (t.recordOwners).streamsLesson
  t.forAll t.sec.tears (fun s x => s.scrubStart x)

/-! ### Meanings -/

/-- ROLL_CALL_CHECK (R40, R43, R44, R360). -/
def execRollCallCheck (s : State) : Host.Outcome State Fault Refusal :=
  .next (if s.bell.phase = .rung then { s.rollCheck with bell := { s.rollCheck.bell with phase := .checked } } else s)
/-- ROLL_CALL_ACTIVATE (R35). -/
def execRollCallActivate (s : State) : Host.Outcome State Fault Refusal :=
  .next (if s.bell.phase = .checked then
      let t := s.rollActivate
      { t with bell := { t.bell with phase := .activated } }
    else s)
/-- ROLL_CALL_SWAP (R209, R536). -/
def execRollCallSwap (s : State) : Host.Outcome State Fault Refusal :=
  .next (if s.bell.phase = .activated then
      let t := s.routeSwap.partSwapLesson
      { t with bell := { t.bell with phase := .swapped } }
    else s)
/-- BODY_START (R31): posts written during the roll call count from the next one on (R39). -/
def execBodyStart (s : State) : Host.Outcome State Fault Refusal :=
  .next (if s.bell.phase = .gapped then
      { s with bell := { s.bell with phase := .body, pages := s.bell.pages.map (fun (x : Page) => { x with fresh := false }) } }
    else s)
/-- TT_POST (R38, R39, R417). -/
def execTtPost (v : BitVec 64) (pageLen : Nat) (s : State) : Host.Outcome State Fault Refusal := .next (s.bar0 (fun s => s.postPage v pageLen))
/-- TIMETABLE_LOADED (R41, R382): the loader has read a page. -/
def execTimetableLoaded (page : Fin 2) (image : PageImage) (s : State) : Host.Outcome State Fault Refusal :=
  .next (s.loaded page (PageImage.timetable image))
/-- MATRIX_DECOMPOSITION_DONE (R430, R432). -/
def execMatrixDecompositionDone (name : BitVec 12) (sigma : BitVec 32) (s : State) : Host.Outcome State Fault Refusal :=
  .next (s.decomposed name sigma)
/-- FLT_RESUME_RETRY (R397). -/
def execFltResumeRetry (token : BitVec 16) (s : State) : Host.Outcome State Fault Refusal := .next (s.bar0 (fun s => s.fltResume token.toNat true))
/-- FLT_RESUME_ABORT (R397). -/
def execFltResumeAbort (token : BitVec 16) (s : State) : Host.Outcome State Fault Refusal := .next (s.bar0 (fun s => s.fltResume token.toNat false))
/-- FLT_TAIL_WRITE (R396). -/
def execFltTailWrite (v : BitVec 64) (s : State) : Host.Outcome State Fault Refusal := .next (s.bar0 (fun s => (s.writeFltTail v).loaderAgain))

end Sys2Proof.Machine
end

