-- ==== Sys2Proof/Machine/Pool.lean ====
section
/-! DEFINITION. Pooled memory on its own: refreshes and bank holds, the patrol, training, and the G7M registers ("Pooled Memory",
R408, R413, R417 to R423, R646; R653). -/

namespace Sys2Proof.Machine

/-! ### Banks (R408, R646) -/

/-- A refresh closes the row a bank holds open. -/
def State.closeRow (s : State) (c bank : Nat) : State :=
  let x := s.chan c
  s.setChan c { x with rows := tput (fun _ => none) x.rows bank none }
/-- A bank is held. -/
def State.bankHeld (s : State) (c bank : Nat) : Bool := (s.chan c).holds.any (fun h => h.1 = bank)
/-- A refresh of a bank: at once, or postponed by a hold. -/
def State.refresh (s : State) (c bank : Nat) : State :=
  if s.bankHeld c bank then
    let x := s.chan c
    s.setChan c { x with due := x.due.filter (· ≠ bank) ++ [bank] }
  else s.closeRow c bank
/-- A hold ends: its postponed refresh takes place. -/
def State.endHold (s : State) (c bank : Nat) : State :=
  let x := s.chan c
  let t := s.setChan c { x with holds := x.holds.filter (fun h => h.1 ≠ bank), due := x.due.filter (· ≠ bank) }
  if x.due.contains bank then t.closeRow c bank else t
/-- Lesson tick of the current Lesson (R30). -/
def State.tick (s : State) : Nat := s.dcycle / 2
/-- A reserved slot of a channel brings the holds that begin by it in force (R646). -/
def State.beginHolds (s : State) (c : Nat) : State :=
  match s.bell.run with
  | none => s
  | some r => s.forAll (r.tt.holds.filter (fun (h : BankHold) => h.ch.val = c && decide (h.start ≤ s.tick) && decide (s.tick ≤ h.stop))) (fun s h =>
      let x := s.chan c
      if x.holds.any (fun k => k.1 = h.bank.val) then s else s.setChan c { x with holds := x.holds ++ [(h.bank.val, h.row)] })

/-! ### The patrol (R420) -/

/-- Lines of pooled memory. -/
def poolLines : Nat := 2 ^ 34
/-- Move the patrol on (R653). -/
def State.patrolOn (s : State) : State :=
  let n := (s.g7m.patrol + 1) % poolLines
  ({ s with g7m := { s.g7m with patrol := n } }).setRegF rScrub 44 20 (64 * n / 2 ^ 20)
/-- The patrol may read its next line: enabled, its channel ready, the line stable and its bank not held for another row. -/
def State.patrolMay (s : State) : Bool :=
  let l := s.g7m.patrol
  s.regBit rG7mCtl 0 && s.ready (readyCh (channelOf (64 * l))) && !s.inHs l && !s.heldBank l && !s.fenced 2
/-- One patrol read with its outcome. A line found uncorrectable is one that the device reports at each later read (R419). -/
def State.patrolRead (s : State) (o : PatrolOutcome) : State :=
  if !s.patrolMay then s
  else
    let l := s.g7m.patrol
    let c := channelOf (64 * l)
    let t := (s.burst l true false).chanTake 9 l
    (match o with
     | .clean => t
     | .corrected d => ((t.setBytes (64 * l) d.toList).burst l false true).count (chReg c 0x08)
     | .uncorrectable =>
       let u := { t with g7m := { t.g7m with bad := tput (fun _ => false) t.g7m.bad l true } }
       (u.count (chReg c 0x10)).raise 8).patrolOn

/-! ### Training (R422, R423) -/

/-- G7M.TRAIN follows the latest training of each channel (R653). -/
def State.trainCounts (s : State) : State :=
  let n := fun (k : Nat) => ((List.range 64).filter (fun c => (s.chan c).how = k)).length
  (s.setRegF rTrain 0 7 (n 1)).setRegF rTrain 32 7 (n 2)
/-- A training of a channel has ended; a FAILED channel stays so until a module reset. In a memory reset
the bits of GLB.READY wait for its end (R561, R569). -/
def State.trained (s : State) (c : Nat) (passed full : Bool) : State :=
  if s.regBit (chReg c 0) 1 then s
  else
    let x := s.chan c
    let t := (s.setChan c { x with how := if full then 2 else 1, fails := if passed then 0 else x.fails + 1 }).trainCounts
    if passed then
      (let u := t.setRegBit (chReg c 0) 0 true
       if s.regBit rRstStatus 4 then u else u.setReady (readyCh c) true)
    else if x.fails + 1 < 3 then t else t.setRegBit (chReg c 0) 1 true

/-! ### Registers (R413, R417, R653) -/

/-- G7M.STATUS.CFG_ERR. -/
def State.g7mErr (s : State) : State := s.setRegBit rG7mStatus 0 true
/-- G7M.TT_REGION. -/
def State.writeTtRegion (s : State) (v : Word) : State :=
  let a := fget v 30 10 * 2 ^ 30
  let n := fget v 48 5 * 2 ^ 30
  s.writeIf rTtRegion v
    (inRange 1 16 (fget v 48 5) && decide (a + n ≤ 2 ^ 40) && !rangesMeet (a, n) (s.ovfRegion.1, s.ovfRegion.2 - s.ovfRegion.1)
      && !bothPages.any s.pageBusy) State.g7mErr
/-- G7M.ARB. -/
def State.writeG7mArb (s : State) (v : Word) : State := s.writeIf rG7mArb v (arbOk v) State.g7mErr
/-- G7M.SCRUB. -/
def State.writeScrubPeriod (s : State) (v : Word) : State := s.writeIf rScrub v (inRange 1 168 (fget v 0 8)) State.g7mErr

/-! ### Meanings -/

/-- CHANNEL_REFRESH (R408, R646). -/
def execChannelRefresh (ch : Fin 64) (bank : Fin 32) (s : State) : Host.Outcome State Fault Refusal := .next (s.refresh ch.val bank.val)
/-- BANK_HOLD_END (R646): the requests that waited for the bank go on. -/
def execBankHoldEnd (ch : Fin 64) (bank : Fin 32) (s : State) : Host.Outcome State Fault Refusal :=
  .next ((s.endHold ch.val bank.val).runWaiting).settleStreams
/-- PATROL_READ (R420). -/
def execPatrolRead (outcome : PatrolOutcome) (s : State) : Host.Outcome State Fault Refusal := .next (s.patrolRead outcome)
/-- CHANNEL_TRAINING_COMPLETE (R422, R423). -/
def execChannelTrainingComplete (ch : Fin 64) (passed full : Bool) (s : State) : Host.Outcome State Fault Refusal :=
  .next (s.trained ch.val passed full)
/-- G7M_TT_REGION_WRITE (R417). -/
def execG7mTtRegionWrite (v : BitVec 64) (s : State) : Host.Outcome State Fault Refusal := .next (s.bar0 (fun s => s.writeTtRegion v))
/-- G7M_ARB_WRITE (R413). -/
def execG7mArbWrite (v : BitVec 64) (s : State) : Host.Outcome State Fault Refusal := .next (s.bar0 (fun s => s.writeG7mArb v))
/-- G7M_SCRUB_WRITE (R420, R653). -/
def execG7mScrubWrite (v : BitVec 64) (s : State) : Host.Outcome State Fault Refusal := .next (s.bar0 (fun s => s.writeScrubPeriod v))

end Sys2Proof.Machine
end

