-- ==== Sys2Proof/Machine/Optical.lean ====
section
/-! DEFINITION. Optical ports: link start, rings, the active set, lasers and spares, recalibration, and what every port does as it
comes up or goes down ("Optical Ports and Lasers", R448 to R472; R55, R182, R204, R243, R582, R605). -/

namespace Sys2Proof.Machine

/-! ### Ports that come up and go down (R55, R182, R204, R243, R582) -/

/-- A port is marked down: credits, queued frames, collectives that watch it, and a member's Satchel are lost (R204, R582). -/
def State.portLost (s : State) (n : Nat) : State :=
  if !s.ready (readyPort n) then s
  else
    let t := s.setReady (readyPort n) false
    let t := (t.forAll (List.range 4) (fun s v => s.setCredit n v 0)).depForget n
    let t := { t with fab := { t.fab with hold := tput (fun _ => false) t.fab.hold n false } }
    let t := (t.collPortDown n).flushOutput n
    if n < 64 ∧ t.isMember n then (t.loseSatchel n).setRegBit rCohMembers n false else t
/-- Half the mean of the round trips of 64 timing-marker exchanges, in 1/64 ns (R55). -/
def oneWay (l : List Nat) : Nat := l.foldl (· + ·) 0 / 128
/-- Step 6 of a link start: the delay is stored, the written buffering takes effect and its credits are advertised. -/
def State.linkMeasured (s : State) (n : Nat) (l : List Nat) : State :=
  let t := (s.setReg (linkReg n lDelay) (BitVec.ofNat 64 (oneWay l))).applyBuffers n
  t.emit (.word n (.creditStart (t.credAdv n)))
/-- A port comes up: its READY bit is set, and it counts as not scrubbed since (R452, R477, R537). -/
def State.portRises (s : State) (n : Nat) : State :=
  { s.setReady (readyPort n) true with fab := { s.fab with scrubbed := s.fab.scrubbed &&& ~~~(BitVec.ofNat 128 (2 ^ n)) } }

/-! ### The Gradebook's lasers and rings (R598 to R605) -/

/-- Index of a laser and of a ring within its kind. -/
def laserIdx (i k : Nat) (spare : Bool) : Nat := 32 * i + 2 * k + spare.toNat
def ringIdx (i k : Nat) (rx : Bool) : Nat := 32 * i + 2 * k + rx.toNat
/-- Key of an entry. -/
def gbKey (kind idx : Nat) : Nat := 4096 * kind + idx
def State.gbEntry (s : State) (kind idx : Nat) : Option GbEntry := tget (fun _ => none) s.gb.entries (gbKey kind idx)
/-- Body of an entry. -/
def State.gbBody (s : State) (kind idx : Nat) : List Byte :=
  match s.gbEntry kind idx with
  | some e => e.body
  | none => Config.factoryBody kind idx
/-- The entry counts as absent (R599). -/
def State.gbBad (s : State) (kind idx : Nat) : Bool := tget (fun _ => false) s.gb.bad (gbKey kind idx)
/-- Write an entry; it passes its check from then on. -/
def State.gbWrite (s : State) (kind idx origin : Nat) (body : List Byte) : State :=
  { s with gb := { s.gb with
      entries := tput (fun _ => none) s.gb.entries (gbKey kind idx) (some { origin := origin, lesson := s.lesson, powerOn := s.gb.powerOns, body := body })
      bad := tput (fun _ => false) s.gb.bad (gbKey kind idx) false } }
def State.retired (s : State) (i k : Nat) : Bool := tget (fun _ => false) s.gb.retired (laserIdx i k false)
/-- Write a primary's retirement (R466). -/
def State.retireNow (s : State) (idx : Nat) : State :=
  let t := { s with gb := { s.gb with retired := tput (fun _ => false) s.gb.retired idx true } }
  t.gbWrite 1 idx (match s.gbEntry 1 idx with
    | some e => e.origin
    | none => 0) (Config.laserBody (s.gbBody 1 idx) none true)
/-- Retire a primary, at once or after the Gradebook command in progress (R605). -/
def State.retire (s : State) (i k : Nat) : State :=
  let idx := laserIdx i k false
  if s.regBit rPrinStatus 0 then { s with gb := { s.gb with waits := s.gb.waits ++ [idx] } } else s.retireNow idx
/-- Baseline of a laser (R464, R470, R575). -/
def State.laserBase (s : State) (i k : Nat) (spare : Bool) : Option Int :=
  match tget (fun _ => none) s.gb.base (laserIdx i k spare) with
  | some v => some v
  | none => if s.gbBad 1 (laserIdx i k spare) then none else some (Config.laserBaseline i k spare)

/-! ### Registers of a port and of its wavelengths -/

def State.setOpt (s : State) (i : Nat) (o : Opt) : State := { s with opts := tput optDefault s.opts i o }
/-- Put a value in a vector at a place given by a number. -/
def vecPut {α : Type} {n : Nat} (v : Vector α n) (k : Nat) (x : α) : Vector α n := if h : k < n then v.set k x else v
def State.wave (s : State) (i k : Nat) : Wave := (s.opt i).waves.toList.getD k {}
def State.setWave (s : State) (i k : Nat) (w : Wave) : State := s.setOpt i { s.opt i with waves := vecPut (s.opt i).waves k w }
/-- WL_STATUS of a wavelength of port 64 + i. -/
def wlStat (i k : Nat) : Nat := wlReg (64 + i) k 0
/-- Ring state (R456). -/
def State.ringSt (s : State) (i k : Nat) (rx : Bool) : Nat := s.regF (wlStat i k) (if rx then 16 else 20) 4
def State.setRingSt (s : State) (i k : Nat) (rx : Bool) (v : Nat) : State := s.setRegF (wlStat i k) (if rx then 16 else 20) 4 v
/-- Laser-pair state (R465). -/
def State.laser (s : State) (i k : Nat) : Nat := s.regF (wlStat i k) 13 3
def State.setLaser (s : State) (i k v : Nat) : State := s.setRegF (wlStat i k) 13 3 v
def State.onSpare (s : State) (i k : Nat) : Bool := s.regBit (wlStat i k) 12
def State.excluded (s : State) (i k : Nat) : Bool := s.regBit (wlStat i k) 3
/-- Set a flag of WL_STATUS, raising OPT_EVENT where it was 0. -/
def State.wlFlag (s : State) (i k bit : Nat) : State :=
  if s.regBit (wlStat i k) bit then s else (s.setRegBit (wlStat i k) bit true).raise 10
/-- OPT_STATUS.STATE. -/
def State.optState (s : State) (i : Nat) : Nat := s.regF (linkReg (64 + i) lStatus) 0 4
def State.setOptState (s : State) (i v : Nat) : State := s.setRegF (linkReg (64 + i) lStatus) 0 4 v
/-- OPT_CTL.ENABLE. -/
def State.optEnabled (s : State) (i : Nat) : Bool := s.regBit (linkReg (64 + i) lCtl) 0
/-- Least wavelengths per direction: OPT_MIN, or all eight of a Melium port (R453, R471). -/
def State.optMin (s : State) (i : Nat) : Nat :=
  if (s.opt i).melium then 8 else
    let m := s.regF (linkReg (64 + i) lCtl) 16 4
    if m = 0 then 16 else m
/-- The transmit or receive active set. -/
def State.activeSet (s : State) (i : Nat) (rx : Bool) : BitVec 16 := BitVec.ofNat 16 (s.regF (linkReg (64 + i) lActive) (if rx then 16 else 0) 16)
/-- Members of a set of wavelengths. -/
def setCount (m : BitVec 16) : Nat := ((List.range 16).filter (fun k => m.getLsbD k)).length
/-- Write a direction's active set, and ACTIVE, DEGRADED and the wavelengths' ACTIVE bits with it. -/
def State.putActive (s : State) (i : Nat) (rx : Bool) (m : BitVec 16) : State :=
  let n := 64 + i
  let t := s.setRegF (linkReg n lActive) (if rx then 16 else 0) 16 m.toNat
  let t := if rx then t else t.forAll (List.range 16) (fun s k => s.setRegBit (wlStat i k) 2 (m.getLsbD k))
  let least := min (setCount (t.activeSet i false)) (setCount (t.activeSet i true))
  let u := t.setRegF (linkReg n lStatus) 8 5 least
  let deg := s.optState i = 7 && decide (least < 16)
  if u.regBit (linkReg n lStatus) 13 = deg then u else (u.setRegBit (linkReg n lStatus) 13 deg).raise 10

/-! ### Down and start (R452, R453, R461, R469, R471) -/

/-- An optical port goes down. -/
def State.optDown (s : State) (i : Nat) : State :=
  if s.optState i = 7 then ((((s.portLost (64 + i)).setOptState i 0).putActive i false 0).putActive i true 0) else s.setOptState i 0
/-- The start fails, or the port has lost too many wavelengths: it waits 1 ms (R453, R461). -/
def State.optWait (s : State) (i : Nat) : State :=
  let t := s.optDown i
  t.setOpt i { t.opt i with wait := true, agreed := false, measured := false }

/-- Laser-pair state with which a wavelength's link start begins (R452, R463, R468, R469). -/
def State.startLaser (s : State) (i k : Nat) : State :=
  let st := s.laser i k
  let spare := s.onSpare i k || s.retired i k || st = 2
  (s.setLaser i k (if spare then 3 else if st = 4 then 4 else 0)).setRegBit (wlStat i k) 12 spare
/-- One wavelength at a link start: its laser is lit and its rings run TABLE or SWEEP, unless it stays excluded (R457, R458). -/
def State.startWave (s : State) (i k : Nat) : State :=
  let w := s.wave i k
  let fresh : Wave := { tx := { w.tx with errs := 0, since := none }, rx := { w.rx with errs := 0, since := none }, fallback := w.fallback }
  if s.excluded i k ∧ s.regF (wlStat i k) 4 2 = 2 then s.setWave i k fresh
  else
    let t := ((s.setRegBit (wlStat i k) 3 false).setRegF (wlStat i k) 4 2 0).setRegBit (wlStat i k) 10 false
    if (s.opt i).melium ∧ k % 2 = 1 then ((t.setRingSt i k false 0).setRingSt i k true 0).setWave i k fresh
    else
      let go := fun (s : State) (rx : Bool) => s.setRingSt i k rx (if s.gbBad 2 (ringIdx i k rx) then 6 else 1)
      (go (go (t.startLaser i k) false) true).setWave i k { fresh with lit := true }
/-- A link start (R452). -/
def State.optStart (s : State) (i : Nat) : State :=
  if !s.optEnabled i ∨ s.optState i = 8 then s
  else
    let t := (s.optDown i).count (linkReg (64 + i) lStarts)
    let t := t.setOpt i { t.opt i with melium := t.regBit (linkReg (64 + i) lCtl) 2, wait := false, agreed := false, measured := false, rxSet := 0 }
    let t := t.forAll (List.range 16) (fun s k => s.startWave i k)
    let swept := (List.range 16).any (fun k => t.ringSt i k false = 6 || t.ringSt i k true = 6)
    (t.setOptState i 1).setRegBit (linkReg (64 + i) lStatus) 14 swept
/-- A link start is in progress. -/
def State.optStarting (s : State) (i : Nat) : Bool := inRange 1 6 (s.optState i)
/-- OPT_STATUS.STATE while the rings settle. -/
def State.ringPhase (s : State) (i : Nat) : State :=
  if inRange 1 3 (s.optState i) then
    let sts := (List.range 16).flatMap (fun k => if (s.opt i).melium && k % 2 = 1 then [] else [s.ringSt i k false, s.ringSt i k true])
    s.setOptState i (if sts.contains 6 then 3 else if sts.all (fun x => x = 4 || x = 7) then 4 else 2)
  else s

/-! ### Leaving, joining and exclusion (R459 to R461) -/

/-- Take a wavelength out of a direction's active set; a port left with too few goes down and starts again. -/
def State.leaveSet (s : State) (i k : Nat) (rx : Bool) : State :=
  let m := s.activeSet i rx
  if m.getLsbD k then
    let m' := m &&& ~~~(BitVec.ofNat 16 (2 ^ k))
    let t := s.putActive i rx m'
    let t := if rx then t.emit (.word (64 + i) (.leave k)) else t
    if s.optState i = 7 ∧ setCount m' < s.optMin i then t.optWait i else t
  else s
/-- A spare that is warming, or warm and awaiting its swap, goes dark (R465, R473). -/
def State.spareDark (s : State) (i k : Nat) : State := if inRange 1 2 (s.laser i k) then s.setLaser i k 0 else s
/-- A wavelength is excluded: both lasers and both heaters are off (R457, R463, R468, R473). -/
def State.exclude (s : State) (i k reason : Nat) : State :=
  let w := s.wave i k
  let t := (s.setRegF (wlStat i k) 4 2 reason).setRegBit (wlStat i k) 3 true
  let t := ((t.setRingSt i k false 7).setRingSt i k true 7).spareDark i k
  let t := t.setWave i k { w with lit := false, failed := false, swapAck := false, join := false, joinAck := none, rxJoin := none, pass := false }
  (((t.raise 10).leaveSet i k false).leaveSet i k true).ringPhase i
/-- Announce a join where a wavelength of an up port is ready for it (R460). -/
def State.offerJoin (s : State) (i k : Nat) : State :=
  let w := s.wave i k
  if s.optState i = 7 ∧ s.ringSt i k false = 4 ∧ s.ringSt i k true = 4 ∧ w.lit ∧ !w.join ∧ !(s.activeSet i false).getLsbD k ∧ !(s.opt i).melium then
    (s.setWave i k { w with join := true, joinAck := none }).emit (.word (64 + i) (.join k))
  else s

/-! ### Rings (R457) -/

def Wave.ring (w : Wave) (rx : Bool) : Ring := if rx then w.rx else w.tx
def Wave.putRing (w : Wave) (rx : Bool) (r : Ring) : Wave := if rx then { w with rx := r } else { w with tx := r }
/-- The ring has held its lock through one whole Lesson. -/
def State.heldLesson (s : State) (r : Ring) : Bool :=
  match r.since with
  | some l => decide (l + 2 ≤ s.lesson.toNat)
  | none => false
/-- A ring enters RETURN: its wavelength leaves the active set, and the ring goes to TABLE, or at its third wrong identity the
wavelength is excluded. -/
def State.ringReturn (s : State) (i k : Nat) (rx wrong : Bool) : State :=
  let w := s.wave i k
  let r := w.ring rx
  let n := (if s.heldLesson r then 0 else r.wrong) + wrong.toNat
  let t := s.count (wlReg (64 + i) k (if wrong then 0x20 else 0x28))
  let t := t.setWave i k { w.putRing rx { r with wrong := n, errs := 0, since := none } with join := false, joinAck := none, rxJoin := none }
  let t := (t.setRingSt i k rx 1).leaveSet i k rx
  if wrong ∧ 3 ≤ n then t.exclude i k 2 else t.ringPhase i
/-- A ring locks. -/
def State.ringLock (s : State) (i k : Nat) (rx : Bool) : State :=
  let w := s.wave i k
  let t := (s.setRingSt i k rx 4).setWave i k (w.putRing rx { w.ring rx with errs := 0, since := some s.lesson.toNat })
  (t.ringPhase i).offerJoin i k

/-! ### Lasers (R464 to R468) -/

/-- The spare is powered toward f_k, or, where none is left or the port is a Melium port, END is set (R465, R471). -/
def State.fade (s : State) (i k : Nat) : State :=
  if s.laser i k = 0 ∧ !(s.opt i).melium then s.setLaser i k 1
  else if s.laser i k = 3 ∨ s.laser i k = 4 ∨ (s.opt i).melium then s.wlFlag i k 10 else s
/-- A laser has failed (R468). -/
def State.laserFails (s : State) (i k : Nat) : State :=
  let w := s.wave i k
  let t := (s.setWave i k { w with lit := false, failed := true, samples := [], join := false, joinAck := none }).leaveSet i k false
  if s.laser i k < 3 ∧ !(s.opt i).melium then t.setLaser i k 1
  else (t.setLaser i k 5).exclude i k 3
/-- Mean of the kept samples. -/
def meanOf (l : List Int) : Int := l.foldl (· + ·) 0 / (max 1 l.length : Nat)
/-- One sample of the carrying laser's monitor (R464, R465, R468, R575). -/
def State.mpdSample (s : State) (i k : Nat) (v : Int) : State :=
  let w := s.wave i k
  if !w.lit then s
  else if (match w.samples with
      | p :: _ => decide (600 < p - v)
      | [] => false) then s.laserFails i k
  else
    let l := (v :: w.samples).take 16
    let m := meanOf l
    let spare := s.onSpare i k
    let fb := if (s.laserBase i k spare).isNone && w.fallback.isNone && l.length = 16 then some m else w.fallback
    let t := (s.setWave i k { w with samples := l, fallback := fb }).setRegF (wlReg (64 + i) k 8) 0 16 (BitVec.ofInt 16 m).toNat
    match (match s.laserBase i k spare with
      | some b => some b
      | none => fb) with
    | none => t
    | some b =>
      let t := if m ≤ b - 100 ∧ (s.laser i k = 0 ∨ s.laser i k = 3) then t.wlFlag i k 8 else t
      if m ≤ b - 200 then t.fade i k else t
/-- One FOM estimate of a wavelength (R464, R465, R468). -/
def State.fomEstimate (s : State) (i k : Nat) (v : Int) : State :=
  let w := s.wave i k
  let t := s.setReg (wlReg (64 + i) k 0x10) (BitVec.ofInt 64 v)
  if !w.lit then t
  else
    let t := t.setWave i k { w with badWin := decide (v < 0) }
    if w.badWin ∧ v < 0 ∧ !s.excluded i k then t.exclude i k 3
    else if v < 150 then t.fade i k else t
/-- The spare has reached its wavelength: the swap is announced, or after a failure the spare carries and its ring runs TABLE
(R465, R468). -/
def State.spareWarm (s : State) (i k : Nat) : State :=
  let w := s.wave i k
  if s.laser i k ≠ 1 then s
  else if w.failed then
    (((s.setLaser i k 3).setRegBit (wlStat i k) 12 true).setRingSt i k false 1).setWave i k { w with failed := false, lit := true, samples := [] }
  else ((s.setLaser i k 2).setWave i k { w with swapAck := false }).emit (.word (64 + i) (.swap k))
/-- The spare did not reach its wavelength within 1 ms (R465, R468). -/
def State.spareLost (s : State) (i k : Nat) : State :=
  let w := s.wave i k
  if s.laser i k ≠ 1 then s
  else
    let t := s.wlFlag i k 11
    if w.failed then (t.setLaser i k 5).exclude i k 3 else t.setLaser i k 4

/-! ### The gap at roll call DCLK 128 (R460, R465, R466) -/

/-- The swap of one wavelength. -/
def State.swapWave (s : State) (i k : Nat) : State :=
  let w := s.wave i k
  if s.laser i k = 2 ∧ w.swapAck ∧ s.ringSt i k false = 4 then
    let t := ((s.setLaser i k 3).setRegBit (wlStat i k) 12 true).wlFlag i k 9
    let t := t.setReg (wlReg (64 + i) k 0x38) (BitVec.ofNat 64 (s.lesson.toNat % 2 ^ 32))
    (t.setWave i k { w with swapAck := false, samples := [] }).retire i k
  else s
/-- An announcement was acknowledged before this roll call began. -/
def State.beforeCall (s : State) (l : Option Nat) : Bool :=
  match l with
  | some n => decide (n < s.lesson.toNat)
  | none => false
/-- The joins of one wavelength, in each direction. -/
def State.joinWave (s : State) (i k : Nat) : State :=
  let w := s.wave i k
  let ready := s.ringSt i k false = 4 && s.ringSt i k true = 4
  let m := BitVec.ofNat 16 (2 ^ k)
  let t := if ready && w.lit && w.join && s.beforeCall w.joinAck then
      (s.setWave i k { w with join := false, joinAck := none }).putActive i false (s.activeSet i false ||| m)
    else s
  let w := t.wave i k
  if ready && s.beforeCall w.rxJoin then (t.setWave i k { w with rxJoin := none }).putActive i true (t.activeSet i true ||| m) else t
/-- Roll call DCLK 128 for the optical ports. -/
def State.opticalGap (s : State) : State :=
  s.forAll ((s.opts.map Prod.fst).filter (fun i => s.optState i = 7)) (fun s i =>
    s.forAll (List.range 16) (fun s k =>
      let t := (s.swapWave i k).joinWave i k
      t.setWave i k { t.wave i k with rxSwap := false }))

/-! ### Margin test and results (R462, R463, R454) -/

/-- Errors at which a wavelength fails the test. -/
def marginLimit : Nat := 26880
/-- A spare is left for a wavelength. -/
def State.spareLeft (s : State) (i k : Nat) : Bool := s.laser i k < 3 && !(s.opt i).melium
/-- The margin test of each carrying laser has ended. -/
def State.marginEnd (s : State) (i : Nat) (errs : Vector Nat 16) : State :=
  if !inRange 1 4 (s.optState i) then s
  else
    let t := s.forAll (List.range 16) (fun s k =>
      let e := errs.toList.getD k 0
      let w := s.wave i k
      if !w.lit then s
      else
        let s := s.setReg (wlReg (64 + i) k 0x18) (BitVec.ofNat 64 e)
        if e < marginLimit then s.setWave i k { w with pass := true }
        else if s.spareLeft i k then s.setLaser i k 1
        else s.exclude i k 1)
    t.setOptState i (if (List.range 16).any (fun k => t.laser i k = 1) then 5 else 6)
/-- The retest of a wavelength's spare has ended. -/
def State.retestEnd (s : State) (i k errs : Nat) : State :=
  if s.optState i ≠ 5 ∨ s.laser i k ≠ 1 then s
  else
    let s := s.setReg (wlReg (64 + i) k 0x18) (BitVec.ofNat 64 errs)
    let t := if errs < marginLimit then
        (((s.setLaser i k 3).setRegBit (wlStat i k) 12 true).setWave i k { s.wave i k with pass := true }).retire i k
      else (s.setLaser i k 5).exclude i k 1
    if (List.range 16).any (fun j => t.laser i j = 1) then t else t.setOptState i 6
/-- Wavelengths that passed in the transmit direction. -/
def State.passSet (s : State) (i : Nat) : BitVec 16 :=
  (List.range 16).foldl (fun m k => if (s.wave i k).pass then m ||| BitVec.ofNat 16 (2 ^ k) else m) 0
/-- A start that fails counts LINK_FAILS and waits (R453). -/
def State.optFail (s : State) (i : Nat) : State := if s.optStarting i then (s.count (linkReg (64 + i) lFails)).optWait i else s
/-- The exchanged results agree both active sets, or the start fails. -/
def State.exchangeEnd (s : State) (i : Nat) (partner : Option (BitVec 16)) : State :=
  if s.optState i ≠ 6 ∨ (s.opt i).agreed then s
  else match partner with
    | none => s.optFail i
    | some m =>
      if setCount (s.passSet i) < s.optMin i ∨ setCount m < s.optMin i then s.optFail i
      else s.setOpt i { s.opt i with rxSet := m, agreed := true }
/-- The port comes up (R452). -/
def State.optUp (s : State) (i : Nat) : State :=
  let o := s.opt i
  if s.optState i = 6 ∧ o.agreed ∧ o.measured then
    let t := (s.setOptState i 7).setOpt i { o with agreed := false, measured := false }
    ((t.putActive i false (s.passSet i)).putActive i true o.rxSet).portRises (64 + i)
  else s

/-! ### Recalibration and the enables (R452, R470, R605) -/

/-- A recalibration begins: the port goes down and each ring sweeps. -/
def State.recalStart (s : State) (i : Nat) : State :=
  let t := (s.optDown i).setOptState i 8
  let t := t.setOpt i { t.opt i with recalWait := false, wait := false }
  t.forAll (List.range 16) (fun s k => (s.setRingSt i k false 6).setRingSt i k true 6)
/-- OPT_CTL.RECAL. -/
def State.recalWrite (s : State) (i : Nat) : State :=
  if s.optState i = 8 then s
  else if s.regBit rPrinStatus 0 then s.setOpt i { s.opt i with recalWait := true }
  else s.recalStart i
/-- A recalibration ends: ring tables and baselines reach the Gradebook, exclusions of reason 2 clear, and a link start runs. -/
def State.recalEnd (s : State) (i : Nat) (offs : List Int) : State :=
  if s.optState i ≠ 8 then s
  else
    let t := s.forAll (List.range 32) (fun s j =>
      let idx := ringIdx i (j / 2) (j % 2 = 1)
      s.gbWrite 2 idx 1 (Config.ringBody (s.gbBody 2 idx) (offs.getD j 0)))
    let t := t.forAll (List.range 16) (fun s k =>
      let w := s.wave i k
      let idx := laserIdx i k (s.onSpare i k)
      let s := if w.samples.isEmpty then s
        else
          let m := meanOf w.samples
          let u := s.gbWrite 1 idx 1 (Config.laserBody (s.gbBody 1 idx) (some m) (tget (fun _ => false) s.gb.retired idx))
          { u with gb := { u.gb with base := tput (fun _ => none) u.gb.base idx (some m) } }
      let s := s.setWave i k { w with tx := {}, rx := {}, fallback := none }
      if s.excluded i k ∧ s.regF (wlStat i k) 4 2 = 2 then (s.setRegBit (wlStat i k) 3 false).setRegF (wlStat i k) 4 2 0 else s)
    (t.setOptState i 0).optStart i
/-- OPT_CTL.ENABLE. -/
def State.optEnable (s : State) (i : Nat) (on : Bool) : State :=
  let was := s.optEnabled i
  let t := s.setRegBit (linkReg (64 + i) lCtl) 0 on
  if on then (if was then t else t.optStart i)
  else
    let t := t.optDown i
    let t := t.setOpt i { t.opt i with wait := false, agreed := false, measured := false }
    t.forAll (List.range 16) (fun s k =>
      let u := (s.setRingSt i k false 0).setRingSt i k true 0
      let u := if u.laser i k = 1 then u.spareDark i k else u
      u.setWave i k { u.wave i k with lit := false })

/-! ### Meanings -/

/-- OPTICAL_LINK_START (R452). -/
def execOpticalLinkStart (p : OptPort) (s : State) : Host.Outcome State Fault Refusal := .next (s.optStart p.val)
/-- RING_TABLE_SETTLED (R457). -/
def execRingTableSettled (p : OptPort) (k : Fin 16) (rx : Bool) (s : State) : Host.Outcome State Fault Refusal :=
  .next (if s.ringSt p.val k.val rx = 1 then (s.setRingSt p.val k.val rx 2).ringPhase p.val else s)
/-- RING_PEAK_FOUND (R457, R471). -/
def execRingPeakFound (p : OptPort) (k : Fin 16) (rx : Bool) (s : State) : Host.Outcome State Fault Refusal :=
  .next (if s.ringSt p.val k.val rx ≠ 2 then s
    else if (s.opt p.val).melium then s.ringLock p.val k.val rx
    else (s.setRingSt p.val k.val rx 3).ringPhase p.val)
/-- RING_ACQUIRE_TIMEOUT (R457). -/
def execRingAcquireTimeout (p : OptPort) (k : Fin 16) (rx : Bool) (s : State) : Host.Outcome State Fault Refusal :=
  .next (if s.ringSt p.val k.val rx = 2 then s.ringReturn p.val k.val rx false else s)
/-- RING_VERIFY_DONE (R457). -/
def execRingVerifyDone (p : OptPort) (k : Fin 16) (rx : Bool) (tone : Option (Fin 16)) (s : State) : Host.Outcome State Fault Refusal :=
  .next (if s.ringSt p.val k.val rx ≠ 3 then s
    else if tone = some k then s.ringLock p.val k.val rx else s.ringReturn p.val k.val rx true)
/-- RING_DITHER_UPDATE (R457). -/
def execRingDitherUpdate (p : OptPort) (k : Fin 16) (rx large : Bool) (s : State) : Host.Outcome State Fault Refusal :=
  .next (if s.ringSt p.val k.val rx ≠ 4 then s
    else
      let w := s.wave p.val k.val
      let n := if large then (w.ring rx).errs + 1 else 0
      if 3 ≤ n then s.ringReturn p.val k.val rx false
      else s.setWave p.val k.val (w.putRing rx { w.ring rx with errs := n }))
/-- RING_IDENTITY_READ (R457, R471). -/
def execRingIdentityRead (p : OptPort) (k : Fin 16) (rx : Bool) (tone : Option (Fin 16)) (s : State) : Host.Outcome State Fault Refusal :=
  .next (if s.ringSt p.val k.val rx ≠ 4 ∨ (s.opt p.val).melium ∨ tone = some k then s else s.ringReturn p.val k.val rx true)
/-- RING_SWEEP_DONE (R457). -/
def execRingSweepDone (p : OptPort) (k : Fin 16) (rx : Bool) (found : Option Int) (s : State) : Host.Outcome State Fault Refusal :=
  .next (if s.ringSt p.val k.val rx ≠ 6 ∨ s.optState p.val = 8 then s
    else match found with
      | some d =>
        let w := s.wave p.val k.val
        ((s.setRingSt p.val k.val rx 3).setWave p.val k.val (w.putRing rx { w.ring rx with off := d })).ringPhase p.val
      | none => s.exclude p.val k.val 2)
/-- MARGIN_TEST_END (R462, R463). -/
def execMarginTestEnd (p : OptPort) (errs : Vector Nat 16) (s : State) : Host.Outcome State Fault Refusal := .next (s.marginEnd p.val errs)
/-- SPARE_RETEST_END (R463). -/
def execSpareRetestEnd (p : OptPort) (k : Fin 16) (errs : Nat) (s : State) : Host.Outcome State Fault Refusal :=
  .next (s.retestEnd p.val k.val errs)
/-- RESULTS_EXCHANGE_END (R453, R454). -/
def execResultsExchangeEnd (p : OptPort) (partner : Option (BitVec 16)) (s : State) : Host.Outcome State Fault Refusal :=
  .next (s.exchangeEnd p.val partner)
/-- OPTICAL_PORT_UP (R452). -/
def execOpticalPortUp (p : OptPort) (s : State) : Host.Outcome State Fault Refusal := .next (s.optUp p.val)
/-- OPTICAL_LINK_START_FAIL (R453). -/
def execOpticalLinkStartFail (p : OptPort) (s : State) : Host.Outcome State Fault Refusal := .next (s.optFail p.val)
/-- LASER_MPD_SAMPLE (R464, R465, R468). -/
def execLaserMpdSample (p : OptPort) (k : Fin 16) (centiDbm : Int) (s : State) : Host.Outcome State Fault Refusal :=
  .next (s.mpdSample p.val k.val centiDbm)
/-- FOM_MARGIN_ESTIMATE (R464, R465, R468). -/
def execFomMarginEstimate (p : OptPort) (k : Fin 16) (centiDb : Int) (s : State) : Host.Outcome State Fault Refusal :=
  .next (s.fomEstimate p.val k.val centiDb)
/-- SPARE_WARMED (R465, R468). -/
def execSpareWarmed (p : OptPort) (k : Fin 16) (s : State) : Host.Outcome State Fault Refusal := .next (s.spareWarm p.val k.val)
/-- SPARE_WARM_TIMEOUT (R465, R468). -/
def execSpareWarmTimeout (p : OptPort) (k : Fin 16) (s : State) : Host.Outcome State Fault Refusal := .next (s.spareLost p.val k.val)
/-- SWAP_ANNOUNCE_ACK (R465). -/
def execSwapAnnounceAck (p : OptPort) (k : Fin 16) (s : State) : Host.Outcome State Fault Refusal :=
  .next (if s.laser p.val k.val = 2 then s.setWave p.val k.val { s.wave p.val k.val with swapAck := true } else s)
/-- LASER_DRIVER_FAULT (R468). -/
def execLaserDriverFault (p : OptPort) (k : Fin 16) (s : State) : Host.Outcome State Fault Refusal :=
  .next (if (s.wave p.val k.val).lit then s.laserFails p.val k.val else s)
/-- ACTIVE_SET_CHANGE (R459): the partner, as the receiving end, takes a wavelength out of this end's transmit set. -/
def execActiveSetChange (p : OptPort) (k : Fin 16) (s : State) : Host.Outcome State Fault Refusal := .next (s.leaveSet p.val k.val false)
/-- JOIN_ANNOUNCE_ACK (R460). -/
def execJoinAnnounceAck (p : OptPort) (k : Fin 16) (s : State) : Host.Outcome State Fault Refusal :=
  let w := s.wave p.val k.val
  .next (if w.join then s.setWave p.val k.val { w with joinAck := some s.lesson.toNat } else s)
/-- OPT_CTL_ENABLE_WRITE (R452). -/
def execOptCtlEnableWrite (p : OptPort) (on : Bool) (s : State) : Host.Outcome State Fault Refusal := .next (s.bar0 (fun s => s.optEnable p.val on))
/-- OPT_CTL_RESTART (R452). -/
def execOptCtlRestart (p : OptPort) (s : State) : Host.Outcome State Fault Refusal := .next (s.bar0 (fun s => s.optStart p.val))
/-- OPT_CTL_MELIUM_WRITE (R471): the mode takes effect at the next link start. -/
def execOptCtlMeliumWrite (p : OptPort) (on : Bool) (s : State) : Host.Outcome State Fault Refusal :=
  .next (s.bar0 (fun s => s.setRegBit (linkReg (64 + p.val) lCtl) 2 on))
/-- OPT_CTL_RECAL (R470, R605). -/
def execOptCtlRecal (p : OptPort) (s : State) : Host.Outcome State Fault Refusal := .next (s.bar0 (fun s => s.recalWrite p.val))
/-- RECAL_COMPLETE (R470): the offsets of the 32 rings, modulator before demultiplexer within each wavelength. -/
def execRecalComplete (p : OptPort) (offsets : List Int) (s : State) : Host.Outcome State Fault Refusal := .next (s.recalEnd p.val offsets)
/-- SWAP_ANNOUNCEMENT (R465, R466). -/
def execSwapAnnouncement (p : OptPort) (k : Fin 16) (s : State) : Host.Outcome State Fault Refusal :=
  .next (if s.optState p.val = 7 then
      (s.setWave p.val k.val { s.wave p.val k.val with rxSwap := true }).emit (.word (64 + p.val) (.swapAck k.val))
    else s)
/-- JOIN_ANNOUNCEMENT (R460). -/
def execJoinAnnouncement (p : OptPort) (k : Fin 16) (s : State) : Host.Outcome State Fault Refusal :=
  .next (if s.optState p.val = 7 then
      (s.setWave p.val k.val { s.wave p.val k.val with rxJoin := some s.lesson.toNat }).emit (.word (64 + p.val) (.joinAck k.val))
    else s)

end Sys2Proof.Machine
end

