-- ==== Sys2Proof/Machine/Dep7.lean ====
section
/-! DEFINITION. The DEP-7 end-point block: the Satchel, die requests, inbound requests and its registers ("Daldoa DEP-7 End-Point
Block", R504 to R530; the Satchel side of R133 to R168; R179, R200). -/

namespace Sys2Proof.Machine

/-! ### Satchel lines (R137, R140, R520) -/

def satDefault (_ : Nat) : SatLine := {}
/-- A Satchel line, by line number of the Homeroom. -/
def State.sat (s : State) (p l : Nat) : SatLine := tget satDefault (s.dep p).sat l
def State.setSat (s : State) (p l : Nat) (x : SatLine) : State := s.setDep p { s.dep p with sat := tput satDefault (s.dep p).sat l x }
/-- The line waits for a grant. -/
def SatState.waits : SatState → Bool
  | .is => true
  | .im => true
  | .sm => true
  | .om => true
  | _ => false
/-- The line waits for a PUT acknowledgement. -/
def SatState.leaves : SatState → Bool
  | .wb => true
  | .ci => true
  | _ => false
/-- The line waits for the home. -/
def SatState.busy (x : SatState) : Bool := x.waits || x.leaves
/-- Lines that occupy ways of a set (R137). -/
def State.waysOf (s : State) (p set : Nat) : List (Nat × SatLine) :=
  (s.dep p).sat.filter (fun e => e.1 % 2048 = set && e.2.st ≠ .i && !e.2.st.leaves)
/-- Lines in the states IS, IM, SM and OM, and lines in the write-back buffer (R520). -/
def State.tracked (s : State) (p : Nat) : Nat := ((s.dep p).sat.filter (fun e => e.2.st.waits)).length
def State.backlog (s : State) (p : Nat) : Nat := ((s.dep p).sat.filter (fun e => e.2.st = .wb)).length
/-- Replace bytes of a line from an offset on. -/
def splice (d : List Byte) (o : Nat) (v : List Byte) : List Byte := d.take o ++ v ++ d.drop (o + v.length)

/-! ### The contention predictor (R159, R160, R529) -/

/-- The predictor is pinned to far, its counters frozen. -/
def State.pinned (s : State) (p : Nat) : Bool := s.epBit p eMode 0 || s.epBit p eCtl 2 || (s.dep p).predFar
/-- Counter of a line. -/
def predIndex (l : Nat) : Nat := (BitVec.ofNat 10 l ^^^ BitVec.ofNat 10 (l / 2 ^ 10) ^^^ BitVec.ofNat 10 (l / 2 ^ 20)).toNat
def State.predAt (s : State) (p l : Nat) : Nat := tget (fun _ => 2) (s.dep p).pred (predIndex l)
/-- Move a counter up or down, saturating, unless it is frozen. -/
def State.predMove (s : State) (p l : Nat) (up : Bool) : State :=
  if s.pinned p then s
  else
    let n := s.predAt p l
    s.setDep p { s.dep p with pred := tput (fun _ => 2) (s.dep p).pred (predIndex l) (if up then min 3 (n + 1) else n - 1) }

/-! ### Frames of the block (R143, R201) -/

/-- Partition and node ID of a DEP-7 (R533). -/
def State.epPart (s : State) (p : Nat) : BitVec 6 := BitVec.ofNat 6 (s.epF p eNode 16 6)
/-- Send a coherence request for a line to the home. -/
def State.askHome (s : State) (p l op : Nat) (cohort : BitVec 10) (data : List Byte) : State :=
  s.submit (p + 1) { blankFrame with
    cohort := cohort, part := s.epPart p, dst := s.node, src := s.engNode (p + 1), opcode := BitVec.ofNat 8 op, vc := 1, length := 64,
    fpa := BitVec.ofNat 56 (s.node.toNat * 2 ^ 44 + 64 * l), payload := data } (.satchel l)
/-- Answer a request or a snoop along the block's own route to its source. -/
def State.depAnswer (s : State) (p : Nat) (f : Frame) (status : BitVec 5) (flags : BitVec 3) (data : List Byte) : State :=
  let a := responseTo (s.engNode (p + 1)) f status flags data
  match s.depRoute p a.dst with
  | some rt => s.launch (p + 1) .none { a with route := rt.1, hopCount := rt.2 }
  | none => s
/-- Evict a line: M and O keep their data in the write-back buffer (R139, R146). -/
def State.evict (s : State) (p l : Nat) : State :=
  let x := s.sat p l
  match x.st with
  | .m => (s.setSat p l { st := .wb, data := x.data, nearAt := x.nearAt }).askHome p l 0x63 0 x.data
  | .o => (s.setSat p l { st := .wb, data := x.data, nearAt := x.nearAt }).askHome p l 0x64 0 x.data
  | .e => (s.setSat p l { st := .ci }).askHome p l 0x65 0 []
  | .s => (s.setSat p l { st := .ci }).askHome p l 0x65 0 []
  | _ => s

/-! ### Snoops (R146, R147, R151, R160, R173) -/

/-- Apply a snoop to a line and answer it. -/
def State.applySnoop (s : State) (p : Nat) (f : Frame) : State :=
  let l := lineOf f
  let x := s.sat p l
  let op := f.opcode.toNat
  let inv : Bool := op = 0x69
  let recent : Bool := match x.nearAt with
    | some t => decide (s.now ≤ t + 2048)
    | none => false
  let s := if (op = 0x68 ∨ inv) ∧ recent then s.predMove p l true else s
  let gone := s.setSat p l {}
  let clean := fun (t : State) (code : Nat) => t.depAnswer p f 0 (BitVec.ofNat 3 code) []
  let dirty := fun (t : State) (code : Nat) => t.depAnswer p f 0 (BitVec.ofNat 3 (code + 4)) x.data
  if x.ue ∧ (x.st = .m ∨ x.st = .o ∨ x.st = .om) then gone.depAnswer p f stDataErr 0 []
  else match x.st with
    | .s => if inv then clean gone 0 else clean s 1
    | .e => if inv then clean gone 0 else if op = 0x68 then clean (s.setSat p l { x with st := .s }) 1 else clean s 3
    | .o => if inv then dirty gone 0 else dirty s 2
    | .m => if inv then dirty gone 0 else if op = 0x68 then dirty (s.setSat p l { x with st := .o }) 2 else dirty s 3
    | .sm => if inv then clean (s.setSat p l { x with st := .im, data := [] }) 0 else clean s 1
    | .om => if inv then dirty (s.setSat p l { x with st := .im, data := [] }) 0 else dirty s 2
    | .wb => dirty s 0
    | _ => clean s 0
/-- A snoop arrives: a line in IS or IM holds it until its grant (R147). -/
def State.takeSnoop (s : State) (p : Nat) (f : Frame) : State :=
  let l := lineOf f
  let x := s.sat p l
  if x.st = .is ∨ x.st = .im then s.setSat p l { x with held := some f } else s.applySnoop p f

/-! ### Die requests (R510 to R515) -/

/-- Opcode of the frames of a request (R511). -/
def beatOp (b : RqBeat) : Nat :=
  let op := b.op.toNat
  if op = 9 then 1 else if op = 10 then 2 else if op = 11 then 16 + b.type.toNat else op
def beatTile (b : RqBeat) : Bool := 9 ≤ b.op.toNat && b.op.toNat ≤ 11
/-- Bytes of a request that is not a tile. -/
def beatLen (b : RqBeat) : Nat := b.len.toNat + 1
def beatRow (b : RqBeat) : Nat := b.rowLen.toNat + 1
def beatRows (b : RqBeat) : Nat := b.rows.toNat + 1
def beatRel (b : RqBeat) : Bool := b.attr.getLsbD 0
/-- An ACQ request is an LD or an atomic (R515). -/
def beatAcq (b : RqBeat) : Bool := b.attr.getLsbD 1 && (b.op = 1 || decide (0 < operandSize b.op.toNat))
/-- Write data that WD carries for a request (R512). -/
def wdBytes (b : RqBeat) : Nat :=
  let op := b.op.toNat
  if op = 2 ∨ op = 3 ∨ op / 16 = 1 then beatLen b
  else if op = 10 ∨ op = 11 then beatRow b * beatRows b
  else atomicPayload op
/-- A request that its OP, TYPE, SCOPE, FETCH and tile limits allow (R101, R511). -/
def beatLegal (b : RqBeat) : Bool :=
  let op := b.op.toNat
  (opcodeLegal op || (8 ≤ op && op ≤ 11))
    && (!b.fetch || op = 1 || op = 9)
    && (if op = 11 then opcodeLegal (16 + b.type.toNat) else b.type = 0)
    && (if b.attr ≠ 0 ∨ op = 8 then 1 ≤ b.scope.toNat && b.scope.toNat ≤ 5 else b.scope = 0)
    && (!beatTile b || (decide (beatRow b * beatRows b ≤ 2 ^ 23) && decide (beatRow b ≤ b.stride.toNat)))
/-- The runs of addresses of a request: offset in its packed data, FVA, length. -/
def beatSpans (b : RqBeat) : List (Nat × Nat × Nat) :=
  if beatTile b then (List.range (beatRows b)).map (fun i => (i * beatRow b, b.fva.toNat + i * b.stride.toNat, beatRow b))
  else [(0, b.fva.toNat, beatLen b)]
/-- Its 4 KiB pages, in order. -/
def beatPages (b : RqBeat) : List Nat :=
  (beatSpans b).flatMap (fun x => (List.range ((x.2.1 + x.2.2 - 1) / 4096 - x.2.1 / 4096 + 1)).map (fun i => (x.2.1 / 4096 + i) * 4096))
/-- Cohort of a thread (R533). -/
def State.threadCohort (s : State) (p : Nat) (b : RqBeat) : BitVec 10 :=
  BitVec.ofNat 10 (s.epF p (eThreadCohort + b.thread.toNat / 4 * 8) (b.thread.toNat % 4 * 16) 10)

def State.setReq (s : State) (p id : Nat) (g : DieReq → DieReq) : State :=
  s.setDep p { s.dep p with reqs := (s.dep p).reqs.map (fun (r : DieReq) => if r.id = id then g r else r) }
def State.dieReq (s : State) (p id : Nat) : Option DieReq := (s.dep p).reqs.find? (fun r => r.id = id)
def State.setPiece (s : State) (p id off : Nat) (g : Piece → Piece) : State :=
  s.setReq p id (fun (r : DieReq) => { r with pieces := r.pieces.map (fun (x : Piece) => if x.off = off then g x else x) })
def State.endPiece (s : State) (p id off : Nat) (status : BitVec 5) (data : List Byte) : State :=
  s.setPiece p id off (fun (x : Piece) => { x with sent := true, done := some (status, data) })

/-- The frame of a piece. -/
def State.pieceFrame (s : State) (p : Nat) (r : DieReq) (x : Piece) : Frame :=
  let op := beatOp r.b
  { blankFrame with
    cohort := s.threadCohort p r.b, part := s.epPart p, dst := BitVec.ofNat 12 (x.fpa / 2 ^ 44), src := s.engNode (p + 1),
    flags := BitVec.ofNat 3 r.b.attr.toNat, opcode := BitVec.ofNat 8 op, vc := 1, group := if op = 3 then r.b.group else 0,
    length := BitVec.ofNat 12 x.len, fpa := BitVec.ofNat 56 x.fpa,
    payload := if op = 1 then [] else if 0 < operandSize op then r.data else (r.data.drop x.off).take x.len }
/-- Send a piece as a frame. -/
def State.sendPiece (s : State) (p : Nat) (r : DieReq) (x : Piece) : State :=
  (s.setPiece p r.id x.off (fun (y : Piece) => { y with line := false, sent := true })).submit (p + 1) (s.pieceFrame p r x) (.die r.id)

/-! ### Accesses in the Satchel (R146, R158, R160, R520, R521) -/

/-- Whether the DEP-7 may cache the line of an FPA (R134). -/
def State.cacheable (s : State) (p fpa : Nat) (nc : Bool) : Bool :=
  let a := fpa % 2 ^ 44
  !nc && s.epBit p eCtl 1 && decide (fpa / 2 ^ 44 = s.node.toNat) && s.isMember p && s.whereIs a = .general
    && (s.sealOver (a / 64 * 64) 64).isNone
/-- Perform an access on a line that the Satchel holds with the rights it needs. -/
def State.performLine (s : State) (p : Nat) (r : DieReq) (x : Piece) : State :=
  let l := x.fpa % 2 ^ 44 / 64
  let y := s.sat p l
  let o := x.fpa % 64
  let op := beatOp r.b
  let old := (y.data.drop o).take x.len
  let n := (s.dep p).lru + 1
  let s := s.setDep p { s.dep p with lru := n }
  if op = 1 then (s.setSat p l { y with used := n }).endPiece p r.id x.off stOk old
  else if 0 < operandSize op then
    let new := leBytes (operandSize op) (atomicNew op (leNat old) r.data)
    ((s.setSat p l { y with st := .m, data := splice y.data o new, used := n }).endPiece p r.id x.off stOk old).countEp p ePredNear
  else (s.setSat p l { y with st := .m, data := splice y.data o ((r.data.drop x.off).take x.len), used := n }).endPiece p r.id x.off stOk []
/-- Ask the home for a line on behalf of an access. -/
def State.requestLine (s : State) (p l op : Nat) (st : SatState) (r : DieReq) (x : Piece) : State :=
  let y := s.sat p l
  let t := s.setSat p l { y with st := st, near := decide (0 < operandSize (beatOp r.b)), used := (s.dep p).lru, tries := 0 }
  (t.setPiece p r.id x.off (fun (z : Piece) => { z with sent := true })).askHome p l op (s.threadCohort p r.b) []
/-- The way that a miss to a full set replaces: the least recently used one that is not transient, and holds no dirty line in error. -/
def State.victim (s : State) (p set : Nat) : Option (Nat × SatLine) :=
  ((s.waysOf p set).filter (fun e => !e.2.st.busy && !(e.2.ue && (e.2.st = .m || e.2.st = .o)))).foldl (fun b e => match b with
    | none => some e
    | some v => if e.2.used < v.2.used then some e else some v) none
/-- A miss: it waits where the tracking structures, the set or the write-back buffer have no room. -/
def State.miss (s : State) (p l : Nat) (r : DieReq) (x : Piece) : State :=
  let load : Bool := beatOp r.b = 1
  let go := fun (t : State) => t.requestLine p l (if load then 0x60 else 0x61) (if load then .is else .im) r x
  if 128 ≤ s.tracked p then s
  else if (s.waysOf p (l % 2048)).length < 16 then go s
  else match s.victim p (l % 2048) with
    | none => s
    | some v => if (v.2.st = .m ∨ v.2.st = .o) ∧ 32 ≤ s.backlog p then s else go (s.evict p v.1)
/-- An access to a line goes through the Satchel; an atomic that STRICT meets before it is performed goes far (R158, R359, R361). -/
def State.accessLine (s : State) (p : Nat) (r : DieReq) (x : Piece) : State :=
  let l := x.fpa % 2 ^ 44 / 64
  let y := s.sat p l
  let op := beatOp r.b
  if y.st.busy then s
  else if 0 < operandSize op ∧ s.epBit p eMode 0 then s.sendPiece p r x
  else if y.st = .i then
    (if !s.cacheable p x.fpa false then s.sendPiece p r x
     else if (s.dep p).flush.isSome then s else s.miss p l r x)
  else if y.ue then
    (if y.st = .m ∨ y.st = .o then ((s.countEp p eSatchelUe).epIrq p 4).endPiece p r.id x.off stDataErr [] else s.evict p l)
  else if op = 1 then s.performLine p r x
  else if y.st = .m ∨ y.st = .e then (if 0 < operandSize op then s.predMove p l false else s).performLine p r x
  else if 128 ≤ s.tracked p then s
  else s.requestLine p l 0x62 (if y.st = .s then .sm else .om) r x

/-- The access that caused a line's request. -/
def State.causeOf (s : State) (p l : Nat) : Option (DieReq × Piece) :=
  ((s.dep p).reqs.flatMap (fun r => r.pieces.map (fun x => (r, x)))).find? (fun e =>
    e.2.line && e.2.sent && e.2.done.isNone && e.2.fpa % 2 ^ 44 / 64 = l)
/-- Apply the snoop that a line held (R147). -/
def State.releaseHeld (s : State) (p : Nat) (held : Option Frame) : State :=
  match held with
  | some f => s.applySnoop p f
  | none => s
/-- A grant completes its transient line: the access is performed, an atomic under STRICT at the home (R359), then the held snoop
applied (R146, R147). -/
def State.grantLine (s : State) (p l g : Nat) (data : List Byte) : State :=
  let y := s.sat p l
  let d := if data.length = 64 then data else y.data
  let st : SatState := if g = 1 then .s else if g = 2 then .e else .m
  let kept : SatLine := { st := st, data := d, used := y.used, nearAt := if y.near then some s.now else y.nearAt }
  match s.causeOf p l with
  | none => (if y.st.waits then s.setSat p l (if g = 0 then {} else kept) else s).releaseHeld p y.held
  | some (r, x) =>
    let t := if g = 0 then
        (if beatOp r.b = 1 then (s.setSat p l {}).endPiece p r.id x.off stOk ((d.drop (x.fpa % 64)).take x.len)
         else (s.setSat p l {}).sendPiece p r x)
      else if 0 < operandSize (beatOp r.b) ∧ s.epBit p eMode 0 then (s.setSat p l kept).sendPiece p r x
      else (s.setSat p l kept).performLine p r x
    t.releaseHeld p y.held
/-- State to which a line returns when its request ends without a grant. -/
def SatState.fallback : SatState → SatState
  | .sm => .s
  | .om => .o
  | _ => .i
/-- A line's request has ended with a status and no grant. -/
def State.failLine (s : State) (p l : Nat) (status : BitVec 5) : State :=
  let y := s.sat p l
  let back : SatLine := if y.st.fallback = .i then {} else { y with st := y.st.fallback, held := none, fail := none, backing := false, tries := 0, near := false }
  if !y.st.waits then s.setSat p l {}
  else
    let t := match s.causeOf p l with
      | some (r, x) => s.endPiece p r.id x.off status []
      | none => s
    (t.setSat p l back).releaseHeld p y.held
/-- RETRY: a backoff, or the status to the thread at the retry limit (R154 to R156, R160). -/
def State.retryLine (s : State) (p l : Nat) : State :=
  let y := s.sat p l
  if !y.st.waits then s
  else
    let t := if y.near then s.predMove p l true else s
    if t.epF p eRetryLimit 0 8 ≤ y.tries + 1 then (t.clearRetries l p).failLine p l stRetry
    else t.setSat p l { y with tries := y.tries + 1, backing := true }
/-- A backoff has expired: the request is sent again, chosen from the line's state (R154). -/
def State.resendLine (s : State) (p l : Nat) : State :=
  let y := s.sat p l
  if !y.backing ∨ !y.st.waits then s
  else
    let c := match s.causeOf p l with
      | some (r, _) => s.threadCohort p r.b
      | none => 0
    (s.setSat p l { y with backing := false }).askHome p l (if y.st = .is then 0x60 else if y.st = .im then 0x61 else 0x62) c []

/-! ### Starting requests (R512, R514, R515, R522, R523) -/

/-- Lines that two runs of addresses share. -/
def spansMeet (a b : List (Nat × Nat × Nat)) : Bool :=
  a.any (fun x => b.any (fun y => decide (x.2.1 / 64 ≤ (y.2.1 + y.2.2 - 1) / 64) && decide (y.2.1 / 64 ≤ (x.2.1 + x.2.2 - 1) / 64)))
/-- Every earlier request of its thread lets a request start (R119, R129, R514, R515). `line`: it would go through the Satchel. A
request that is a frame waits until each earlier one has been sent, an ACQ request and a FENCE hold every later one. -/
def State.orderAllows (s : State) (p : Nat) (r : DieReq) (line : Bool) : Bool :=
  let before := ((s.dep p).reqs.takeWhile (fun q => q.id ≠ r.id)).filter (fun q => q.b.thread = r.b.thread)
  !before.any (fun q => beatAcq q.b || q.b.op = 8)
    && (line || before.all (fun q => q.gone || q.early.isSome))
    && (!(beatRel r.b || r.b.op = 8) || before.isEmpty)
    && !before.any (fun q => spansMeet (beatSpans q.b) (beatSpans r.b)
        && (!q.gone || q.pieces.any (fun x => x.done.isNone && x.line != line)))
/-- Take the translations of a request's pages from the TLB: those found, and the first page missing. -/
def fillPages (tlb : List Tlb) (cohort : BitVec 10) (needW needX : Bool) : List Tlb → List Nat → List Tlb × Option Nat
  | m, [] => (m, none)
  | m, a :: r =>
    if (tlbFind m cohort a needW needX).isSome then fillPages tlb cohort needW needX m r
    else match tlbFind tlb cohort a needW needX with
      | some e => fillPages tlb cohort needW needX (m ++ [e]) r
      | none => (m, some a)
/-- Walks that a DEP-7 holds (R522). -/
def State.depWalks (s : State) (p : Nat) : List Walk :=
  s.xl.walks.filter (fun w => match w.who with
    | .dep q _ => q = p
    | _ => false)
/-- FPA and NC of an address of a translated request. -/
def mapped (maps : List Tlb) (cohort : BitVec 10) (a : Nat) : Nat × Bool :=
  match tlbFind maps cohort a false false with
  | some e => (e.map a, e.nc)
  | none => (0, true)
/-- Runs split at every boundary of `k` bytes (R102, R520). -/
def splitRuns (k : Nat) (l : List (Nat × Nat × Nat)) : List (Nat × Nat × Nat) :=
  l.flatMap (fun x => (List.range ((x.2.1 + x.2.2 - 1) / k - x.2.1 / k + 1)).map (fun i =>
    let a := max x.2.1 ((x.2.1 / k + i) * k)
    let b := min (x.2.1 + x.2.2) ((x.2.1 / k + i + 1) * k)
    (x.1 + (a - x.2.1), a, b - a)))
/-- A translated request goes through the Satchel: a cacheable LD or ST, or an atomic that the predictor performs near (R134, R158,
R159, R511, R520). -/
def State.satchelBound (s : State) (p : Nat) (b : RqBeat) (fpa : Nat) (nc : Bool) : Bool :=
  let z := operandSize b.op.toNat
  s.cacheable p fpa nc && (
    if b.op = 1 ∨ b.op = 2 then decide (b.fva.toNat % 2048 + beatLen b ≤ 2048)
    else decide (0 < z) && beatLen b = z && fpa % z = 0 && !s.pinned p && decide (s.predAt p (fpa % 2 ^ 44 / 64) ≤ 1))
/-- Make a translated request's pieces and send those that are frames. -/
def State.dispatchReq (s : State) (p : Nat) (r : DieReq) (line : Bool) : State :=
  let c := s.threadCohort p r.b
  let runs := if line then splitRuns 64 (beatSpans r.b) else if beatTile r.b then splitRuns 2048 (beatSpans r.b) else beatSpans r.b
  let ps := runs.map (fun x => ({ off := x.1, fpa := (mapped r.maps c x.2.1).1, len := x.2.2, line := line } : Piece))
  let t := s.setReq p r.id (fun (q : DieReq) => { q with gone := true, maps := [], pieces := ps })
  if line then t else t.forAll ps (fun s x => s.sendPiece p r x)
/-- Start a request if it may start. -/
def State.startReq (s : State) (p id : Nat) : State :=
  match s.dieReq p id with
  | none => s
  | some r =>
    if r.gone || r.early.isSome || decide (0 < r.need) then s
    else if !s.epBit p eNode 63 then s.setReq p id (fun (q : DieReq) => { q with early := some (stNoRoute, 0) })
    else if r.b.op = 8 then (if s.orderAllows p r false then s.setReq p id (fun (q : DieReq) => { q with gone := true }) else s)
    else
      let c := s.threadCohort p r.b
      let needW := beatOp r.b ≠ 1
      let m := fillPages (s.dep p).tlb c needW r.b.fetch r.maps (beatPages r.b)
      let s := s.setReq p id (fun (q : DieReq) => { q with maps := m.1 })
      let r := { r with maps := m.1 }
      if beatTile r.b ∧ 512 < m.1.length then s.setReq p id (fun (q : DieReq) => { q with early := some (stAlign, 0) })
      else match m.2 with
        | some a =>
          if (s.depWalks p).any (fun w => w.who = .dep p id) || decide (32 ≤ (s.depWalks p).length) || !s.epBit p eStatus 11 then s
          else (s.startWalk (.dep p id) c a needW r.b.fetch).2
        | none =>
          let x := mapped m.1 c r.b.fva.toNat
          let line := s.satchelBound p r.b x.1 x.2
          if s.orderAllows p r line then s.dispatchReq p r line else s
/-- A walk for a die request has ended (R522, R523). -/
def State.depWalked (s : State) (p id : Nat) (w : Walk) : State :=
  match w.done with
  | some e => (s.setDep p { s.dep p with tlb := tlbPut 4096 (s.dep p).tlb e }).setReq p id (fun (q : DieReq) => { q with maps := q.maps ++ [e] })
  | none =>
    let x := w.failed.getD { status := stUnmapped, reason := 0, level := 0, stage2 := false, ia := 0 }
    ((s.setReq p id (fun (q : DieReq) => { q with early := some (x.status, if x.status = stDataErr then 0 else x.reason) })).countEp p eXltFaults).epIrq p 3

/-! ### Completions on RS (R104, R513) -/

/-- Status of a request whose pieces are done: that of the first failing one. -/
def DieReq.status (r : DieReq) : BitVec 5 :=
  match r.pieces.find? (fun x => match x.done with
      | some (st, _) => st ≠ 0
      | none => false) with
  | some x => (x.done.getD (0, [])).1
  | none => 0
/-- Data responses of a piece, 64 bytes each. -/
def rsData (p : Nat) (b : RqBeat) (off : Nat) (d : List Byte) : List Out :=
  (List.range ((d.length + 63) / 64)).map (fun i =>
    .rs p b.thread.toNat b.tag.toNat 0 0 false (off + 64 * i) ((d.drop (64 * i)).take 64))
/-- Return one request's responses. -/
def State.finishReq (s : State) (p : Nat) (r : DieReq) : State :=
  let e := r.early.getD (r.status, 0)
  let datas := if r.b.op = 3 then
      rsData p r.b 0 (match r.pieces with
        | x :: _ => (x.done.getD (0, leBytes 2 0)).2
        | [] => leBytes 2 0)
    else if e.1 = 0 then r.pieces.flatMap (fun x => rsData p r.b x.off (x.done.getD (0, [])).2) else []
  let t := s.forAll datas (fun s o => s.emit o)
  (t.emit (.rs p r.b.thread.toNat r.b.tag.toNat e.1.toNat e.2 true 0 [])).setDep p { t.dep p with reqs := (t.dep p).reqs.filter (fun q => q.id ≠ r.id) }
/-- A request has completed. -/
def DieReq.ended (r : DieReq) : Bool := (r.early.isSome && r.need = 0) || (r.gone && r.pieces.all (fun x => x.done.isSome))
def State.finishReqs (s : State) (p : Nat) : State :=
  s.forAll ((s.dep p).reqs.filter DieReq.ended) (fun s r => s.finishReq p r)

/-! ### Progress -/

/-- Lines that a piece touches in the Homeroom's module. -/
def State.pieceLines (s : State) (x : Piece) : List Nat := if x.fpa / 2 ^ 44 = s.node.toNat then linesOf (x.fpa % 2 ^ 44) x.len else []
/-- Try an access that waits before the Satchel: earlier accesses to its line go first (R514). -/
def State.tryPiece (s : State) (p id off : Nat) : State :=
  let all := (s.dep p).reqs.flatMap (fun r => r.pieces.map (fun x => (r, x)))
  match all.find? (fun e => e.1.id = id && e.2.off = off) with
  | none => s
  | some (r, x) =>
    if !x.line || x.sent || x.done.isSome then s
    else
      let l := x.fpa % 2 ^ 44 / 64
      let before := all.takeWhile (fun e => !(e.1.id = id && e.2.off = off))
      if before.any (fun e => e.2.done.isNone && (e.2.line || e.1.b.thread = r.b.thread) && (s.pieceLines e.2).contains l) then s
      else s.accessLine p r x
/-- A FLUSH in progress: stable lines are evicted as the write-back buffer has room, and the FLUSH is answered once the Satchel is
empty (R167, R622). -/
def State.flushStep (s : State) (p : Nat) : State :=
  match (s.dep p).flush with
  | none => s
  | some f =>
    let t := s.forAll (s.dep p).sat (fun s e =>
      let x := s.sat p e.1
      if (x.st = .m ∨ x.st = .o) ∧ 32 ≤ s.backlog p then s else s.evict p e.1)
    if (t.dep p).sat.isEmpty then (t.setDep p { t.dep p with flush := none }).depAnswer p f 0 0 [] else t
/-- One round: failed line requests, starts, Satchel accesses, completions. -/
def State.depRound (s : State) (p : Nat) : State :=
  let s := s.forAll ((s.dep p).sat.filterMap (fun e => e.2.fail.map (fun st => (e.1, st)))) (fun s x => s.failLine p x.1 x.2)
  let s := s.forAll (s.dep p).reqs (fun s r => s.startReq p r.id)
  let s := s.forAll (s.dep p).reqs (fun s r => s.forAll r.pieces (fun s x => s.tryPiece p r.id x.off))
  (s.finishReqs p).flushStep p
/-- Rounds until nothing more can move: each round but the last two completes a request. -/
def State.depRounds (s : State) (p : Nat) : Nat → State
  | 0 => s
  | k + 1 => (s.depRound p).depRounds p k
def State.settleDep (s : State) (p : Nat) : State := s.depRounds p ((s.dep p).reqs.length + 2)
/-- Progress of the DEP-7 behind an engine number. -/
def State.settleEng (s : State) (e : Nat) : State := if e = 0 then s else s.settleDep (e - 1)

/-! ### Responses at the block (R146, R154, R160) -/

/-- The outstanding request that a response answers. -/
def State.answered (s : State) (p : Nat) (f : Frame) : Option SrcReq := (s.pair (p + 1) f.src.toNat).sent.find? (fun r => r.f.seq = f.seq)
/-- Grant, RETRY, PUT acknowledgement or another status for a coherence request. -/
def State.cohResponse (s : State) (p : Nat) (f : Frame) : State :=
  match s.answered p f with
  | none => s
  | some r =>
    let l := lineOf r.f
    let t := s.takeResponse (p + 1) f
    let put := 0x63 ≤ r.f.opcode.toNat
    (if f.status = stRetry then t.retryLine p l
     else if f.status ≠ stOk then t
     else if put then (if (t.sat p l).st.leaves then t.setSat p l {} else t)
     else t.grantLine p l (f.flags.toNat % 4) f.payload).settleDep p
/-- CONT of a far atomic moves the predictor, and the atomic is counted (R160, R529). -/
def State.farAnswer (s : State) (p : Nat) (f : Frame) : State :=
  match s.answered p f with
  | none => s
  | some r =>
    if operandSize r.f.opcode.toNat = 0 ∨ f.status ≠ stOk then s
    else
      let t := s.countEp p ePredFarCnt
      t.predMove p (lineOf r.f) (f.flags.getLsbD 0)
/-- Any response at the block. -/
def State.depResponse (s : State) (p : Nat) (f : Frame) : State :=
  if isCohReq (f.opcode.toNat - 0x80) then s.cohResponse p f
  else ((s.farAnswer p f).takeResponse (p + 1) f).settleDep p

/-! ### Inbound requests (R79, R105, R106, R192, R193, R516 to R519) -/

/-- Die address of an exposed range: the lowest-numbered VALID segment that covers it. -/
def State.exposed (s : State) (p off n : Nat) : Option Nat :=
  (List.range 8).findSome? (fun k =>
    let a := eExpSeg + 32 * k
    let base := (s.ep p a).toNat
    if (s.ep p (a + 24)).getLsbD 63 ∧ base ≤ off ∧ off + n ≤ base + (s.ep p (a + 8)).toNat
    then some ((s.ep p (a + 16)).toNat + (off - base)) else none)
/-- Status that an inbound request meets before the die. -/
def State.inboundStatus (s : State) (p : Nat) (f : Frame) : BitVec 5 :=
  let off := f.fpa.toNat % 2 ^ 44
  let n := max 1 f.length.toNat
  let size := s.epF p eExpose 0 45
  let op := f.opcode.toNat
  if f.part ≠ s.epPart p then stPartition
  else if size ≤ off then stUnmapped
  else if size < off + n then stAlign
  else if (s.exposed p off n).isNone then stUnmapped
  else if !shapeOk .general f then stAlign
  else if isRed op || isFpFadd op then stPerm
  else stOk
/-- Answer an inbound request: the reply cache keeps what a best-effort one was answered. -/
def State.answerInbound (s : State) (p : Nat) (f : Frame) (status : BitVec 5) (data : List Byte) : State :=
  let d := if f.opcode = 3 then leBytes 2 (if status = 0 then 0 else 1) else if status = 0 then data else []
  (if f.vc = 0 then s else s.remember (p + 1) f status d).depAnswer p f status 0 d
/-- Present waiting requests on IQ while an ITAG is free (R517). `k` bounds those presented at once. -/
def State.presentIq (s : State) (p : Nat) : Nat → State
  | 0 => s
  | k + 1 =>
    let d := s.dep p
    match d.iqWait, (List.range 256).find? (fun i => !d.inb.any (fun x => x.itag = i)) with
    | f :: rest, some i =>
      let op := if f.opcode = 3 then 2 else f.opcode.toNat
      let addr := (s.exposed p (f.fpa.toNat % 2 ^ 44) (max 1 f.length.toNat)).getD 0
      ((s.setDep p { d with iqWait := rest, inb := d.inb ++ [({ itag := i, f := f, dead := false } : Inbound)] }).emit
        (.iq p i op addr f.length.toNat f.payload)).presentIq p k
    | _, _ => s
/-- Serve an accepted inbound request. -/
def State.serveInbound (s : State) (p : Nat) (f : Frame) : State :=
  let st := s.inboundStatus p f
  if st ≠ stOk then s.answerInbound p f st []
  else (s.setDep p { s.dep p with iqWait := (s.dep p).iqWait ++ [f] }).presentIq p 256
/-- A memory request ejected at the block, under the sequence check. -/
def State.inbound (s : State) (p : Nat) (f : Frame) : State :=
  if f.vc = 0 then s.serveInbound p f
  else match s.seqCheck (p + 1) f with
    | (.drop, t) => t
    | (.accept, t) => t.serveInbound p f
    | (.replay y, t) =>
      if f.opcode = 1 ∧ y.status = 0 then
        ({ t with fab := { t.fab with replies := t.fab.replies.filter (· ≠ y) } }).serveInbound p f
      else t.depAnswer p f y.status 0 y.data
/-- A frame reaches the block (R74, R171, R179, R180). -/
def State.depAccept (s : State) (p : Nat) (f : Frame) : State :=
  if !s.epBit p eStatus 11 then s
  else if !Frame.headerOk f ∨ f.hopPtr ≠ f.hopCount then s.setDep p { s.dep p with discards := (s.dep p).discards + 1 }
  else if f.crc ≠ Frame.goodCrc f ∨ !s.epBit p eNode 63 then s
  else if f.dst ≠ s.engNode (p + 1) then (if isAnswerable f.opcode.toNat then s.depAnswer p f stNoRoute 0 (failData f 1) else s)
  else if isMemReq f.opcode.toNat then s.inbound p f
  else s.emit (.depDeliver p f)
/-- The die answers an ITAG (R518, R519). -/
def State.isAnswer (s : State) (p itag : Nat) (status : BitVec 5) (data : List Byte) : State :=
  match (s.dep p).inb.find? (fun x => x.itag = itag) with
  | none => s
  | some x =>
    let t := s.setDep p { s.dep p with inb := (s.dep p).inb.filter (fun y => y.itag ≠ itag) }
    let st := if status = stOk ∨ status = stDataErr ∨ status = stPerm then status else stDataErr
    (if x.dead then t else t.answerInbound p x.f st data).presentIq p 256
/-- An ITAG unanswered within EP.IN_TIMEOUT (R519). -/
def State.inExpired (s : State) (p itag : Nat) : State :=
  match (s.dep p).inb.find? (fun x => x.itag = itag && !x.dead) with
  | none => s
  | some x =>
    let t := s.setDep p { s.dep p with inb := (s.dep p).inb.map (fun (y : Inbound) => if y.itag = itag then { y with dead := true } else y) }
    ((t.answerInbound p x.f stDataErr []).setEpBit p eStatus 13 true).epIrq p 2

/-! ### Leaving, the link, and reset (R166 to R168, R507, R527, R530) -/

/-- FLUSH: with write-back, or, where the memory domain is fenced, without (R167, R168). -/
def State.takeFlush (s : State) (p : Nat) (f : Frame) : State :=
  if s.fenced 2 then
    let causes := (s.dep p).sat.filterMap (fun e => s.causeOf p e.1)
    let t := s.forAll causes (fun s e => s.endPiece p e.1.id e.2.off stFenced [])
    let d := s.node.toNat
    let x := t.pair (p + 1) d
    let own := fun (r : SrcReq) => match r.owner with
      | .satchel _ => true
      | _ => false
    let t := t.setPair (p + 1) d { x with sent := x.sent.filter (fun r => !own r), waiting := x.waiting.filter (fun r => !own r) }
    ((t.setDep p { t.dep p with sat := [] }).depAnswer p f 0 0 []).settleDep p
  else (s.setDep p { s.dep p with flush := some f }).settleDep p
/-- EP.STATUS.LINK_UP and EP_LINK_UP change (R508, R533). -/
def State.setLinkUp (s : State) (p : Nat) (up : Bool) : State :=
  if s.epBit p eStatus 11 = up then s else ((s.setEpBit p eStatus 11 up).emit (.depPin p "EP_LINK_UP" up)).epIrq p 0
/-- STATE of EP.ELEC_STATUS. -/
def State.setEpState (s : State) (p v : Nat) : State := s.setEpF p eElecStatus 0 4 v
/-- The block's link has gone down (R166, R527). -/
def State.depLinkDown (s : State) (p : Nat) : State :=
  if !s.epBit p eStatus 11 then s
  else
    let t := (s.setLinkUp p false).depForget p
    let home := t.node
    let t := t.dropPairs (p + 1) (fun _ d sent => if d = home ∨ !sent then stNoRoute else stWindow)
    let fail := fun (x : Piece) => if x.done.isNone && x.line then { x with sent := true, done := some (stNoRoute, []) } else x
    let d := t.dep p
    let t := t.setDep p { d with
      sat := [], pred := [], flush := none, iqWait := []
      reqs := d.reqs.map (fun (r : DieReq) =>
        if r.gone || r.b.op = 8 || r.early.isSome then { r with pieces := r.pieces.map fail } else { r with early := some (stNoRoute, 0) })
      inb := d.inb.map (fun (y : Inbound) => { y with dead := true }) }
    let t := { t with xl := { t.xl with walks := t.xl.walks.filter (fun w => !(t.depWalks p).contains w) } }
    t.settleDep p
/-- EP_RST_N (R507): nothing of the block's state remains, and nothing outstanding draws a response. -/
def State.depReset (s : State) (p : Nat) : State :=
  let e := p + 1
  let low := fun (s : State) (name : String) (was : Bool) => if was then s.emit (.depPin p name false) else s
  let t := low (low (low s "EP_IRQ" (decide ((s.ep p eIntStatus &&& s.ep p eIntEn) ≠ 0))) "EP_STRICT" (s.epBit p eMode 0)) "EP_LINK_UP" (s.epBit p eStatus 11)
  { t with
    deps := tput depDefault t.deps p {}
    fab := { t.fab with
      pairs := t.fab.pairs.filter (fun x => x.1 / 4096 ≠ e)
      expect := t.fab.expect.filter (fun x => x.1 / 4096 ≠ e)
      replies := t.fab.replies.filter (fun r => r.eng ≠ e)
      buckets := t.fab.buckets.filter (fun x => x.1 / 16 ≠ e) }
    xl := { t.xl with
      walks := t.xl.walks.filter (fun w => !(t.depWalks p).contains w)
      jobs := t.xl.jobs.filter (fun j => j.eng ≠ e) } }
/-- The module's STRICT and PRED_FAR arrive in a link control word (R530, R622). -/
def State.strictWord (s : State) (p : Nat) (strict predFar : Bool) : State :=
  let was := s.epBit p eMode 0
  let t := (s.setEpBit p eMode 0 strict).setEpBit p eStatus 12 strict
  let t := t.setDep p { t.dep p with predFar := predFar }
  if was = strict then t else t.emit (.depPin p "EP_STRICT" strict)

/-! ### Register writes over CF (R198, R210, R525, R526, R533) -/

/-- A refused timer or window write. -/
def State.epCfgErr (s : State) (p : Nat) : State := (s.setEpBit p eStatus 15 true).epIrq p 5
/-- EP.CTL.ENABLE: lanes on and a link start, or every lane off (R507, R533). -/
def State.epEnable (s : State) (p : Nat) (on : Bool) : State :=
  let was := s.epBit p eCtl 0
  let t := s.setEpBit p eCtl 0 on
  if on then (if was then t else t.setEpState p 1) else (t.depLinkDown p).setEpState p 0
/-- EP.NODE: writable only while EP.CTL.ENABLE is 0. -/
def State.writeEpNode (s : State) (p : Nat) (v : Word) : State :=
  if s.epBit p eCtl 0 then s else (s.setEp p eNode (v &&& 0x80000000003F0FFF)).settleDep p
/-- A route entry breaks R525. -/
def epRouteBad (d : Nat) (lo hi : Word) : Bool :=
  let h := fget hi 32 4
  let last := stagedByte lo hi (h - 1)
  h = 0 || decide (12 < h)
    || (List.range h).any (fun k => routeByteInvalid (stagedByte lo hi k) || (decide (128 ≤ stagedByte lo hi k) && k + 1 ≠ h))
    || (if d < 64 then decide (last < 128) else decide (64 ≤ last))
/-- EP.RT entry d. -/
def State.writeEpRt (s : State) (p d : Nat) (lo hi : Word) : State :=
  if !s.isHeld (p + 1) d || decide (0 < Pair.charged (s.pair (p + 1) d)) || epRouteBad d lo hi then
    ((s.setEpBit p eStatus 14 true).setEpF p eStatus 16 12 d).epIrq p 1
  else (s.setEp p (eRt + 16 * d) lo).setEp p (eRt + 16 * d + 8) (hi &&& 0x0000008FFFFFFFFF)
/-- EP.RT_HOLD: a bit cleared makes its waiting requests ready (R210). -/
def State.writeEpHold (s : State) (p k : Nat) (v : Word) : State :=
  let was := s.ep p (eRtHold + 8 * k)
  let t := s.setEp p (eRtHold + 8 * k) v
  (t.forAll ((List.range 64).filter (fun i => was.getLsbD i && !v.getLsbD i)) (fun s i =>
    s.pump (p + 1) (BitVec.ofNat 12 (64 * k + i)) pumpFuel)).settleDep p
/-- EP.RTX. -/
def State.writeEpRtx (s : State) (p : Nat) (v : Word) : State :=
  if inRange 1 1000 (fget v 0 10) && decide ((fget v 32 3 + 1) * fget v 0 10 ≤ s.epF p eWinTimeout 0 14) then s.setEp p eRtx (v &&& 0x7000003FF)
  else s.epCfgErr p
/-- EP.WIN_TIMEOUT. -/
def State.writeEpWinTimeout (s : State) (p : Nat) (v : Word) : State :=
  if inRange 10 10000 (fget v 0 14) && decide ((s.epF p eRtx 32 3 + 1) * s.epF p eRtx 0 10 ≤ fget v 0 14) then s.setEp p eWinTimeout (v &&& 0x3FFF)
  else s.epCfgErr p

/-- Write a register of the window: its RW bits take the value, its W1C bits clear (R8). -/
def State.writeEpPlain (s : State) (p a : Nat) (v : Word) : State :=
  let sp := epSpec a
  s.setEp p a (((s.ep p a &&& ~~~sp.rw) ||| (v &&& sp.rw)) &&& ~~~(v &&& sp.w1c))
/-- Write a register where its value passes a check; otherwise report. -/
def State.writeEpIf (s : State) (p a : Nat) (v : Word) (ok : Bool) (report : State → State) : State :=
  if ok then s.writeEpPlain p a v else report s
/-- EP_IRQ follows EP.INT_STATUS and EP.INT_EN (R508). -/
def State.epIrqFollows (s : State) (p : Nat) (was : Bool) : State :=
  let on := decide ((s.ep p eIntStatus &&& s.ep p eIntEn) ≠ 0)
  if on = was then s else s.emit (.depPin p "EP_IRQ" on)
/-- EP.CTL: ENABLE acts as R507 states, the other fields are set. -/
def State.writeEpCtl (s : State) (p : Nat) (v : Word) : State :=
  let t := s.writeEpPlain p eCtl ((v &&& 6) ||| (s.ep p eCtl &&& 1))
  if v.getLsbD 0 = t.epBit p eCtl 0 then t else t.epEnable p (v.getLsbD 0)
/-- Half of an EP.RT entry: the low half is held until the high half is written (R525; DESIGN CHOICE, log 81). -/
def State.writeEpRtHalf (s : State) (p a : Nat) (v : Word) : State :=
  let e := (a - eRt) / 16
  let d := s.dep p
  if a % 16 = 0 then s.setDep p { d with rtLow := some (e, v) }
  else
    let lo := match d.rtLow with
      | some x => if x.1 = e then x.2 else s.ep p (eRt + 16 * e)
      | none => s.ep p (eRt + 16 * e)
    (s.setDep p { d with rtLow := none }).writeEpRt p e lo v
/-- A word of EP.MARKER (R189, R190). -/
def State.writeEpMarker (s : State) (p a : Nat) (v : Word) : State :=
  let k := (a - eMarker) / 16
  let hi := eMarker + 16 * k + 8
  let old := s.fillBucket (p + 1) k (s.ep p (eMarker + 16 * k)) (s.ep p hi)
  if a % 16 = 0 then (if fget v 0 32 ≤ fget v 32 32 then old.writeEpPlain p a v else s)
  else if 2100 ≤ fget v 0 24 ∧ 2100 ≤ fget v 24 24 then
    (let t := old.writeEpPlain p a v
     if s.epBit p hi 56 then t else t.freshBucket (p + 1) k)
  else s
/-- A write of 8 bytes over CF to the register at an 8-byte-aligned offset of the window (R508, R533). A value out of its range is
ignored, with CFG_ERR for a timer or a window (R526). -/
def State.writeEp (s : State) (p a : Nat) (v : Word) : State :=
  let was := decide ((s.ep p eIntStatus &&& s.ep p eIntEn) ≠ 0)
  if a = eCtl then (s.writeEpCtl p v).settleDep p
  else if a = eNode then s.writeEpNode p v
  else if a = eExpose then s.writeEpIf p a v (v.toNat % 2 ^ 21 = 0 && decide (v.toNat ≤ 2 ^ 44)) (fun s => s)
  else if a = eRetryLimit then s.writeEpIf p a v (inRange 1 255 v.toNat) (fun s => s)
  else if a = eRtx then s.writeEpRtx p v
  else if a = eWinTimeout then s.writeEpWinTimeout p v
  else if a = eWinDefault then (s.writeEpIf p a v (inRange 9 16384 (fget v 0 15)) (fun s => s.epCfgErr p)).pumpAll (p + 1)
  else if a = eReplyHold then s.writeEpIf p a v (inRange 1 10000 (fget v 0 14)) (fun s => s.epCfgErr p)
  else if a = eInTimeout then s.writeEpIf p a v (inRange 1 10000 (fget v 0 14)) (fun s => s.epCfgErr p)
  else if a = eIntStatus ∨ a = eIntEn then (s.writeEpPlain p a v).epIrqFollows p was
  else if eMarker ≤ a ∧ a < eMarker + 256 then s.writeEpMarker p a v
  else if eRtHold ≤ a ∧ a < eRtHold + 512 then s.writeEpHold p ((a - eRtHold) / 8) v
  else if eWinSize ≤ a ∧ a < eWinSize + 0x2000 then
    (s.writeEpIf p a v ((List.range 4).all (fun i => vcField v i = 0 || inRange 9 16384 (vcField v i))) (fun s => s.epCfgErr p)).pumpAll (p + 1)
  else if eRt ≤ a ∧ a < eRt + 0x10000 then s.writeEpRtHalf p a v
  else s.writeEpPlain p a v

/-! ### Meanings -/

/-- A beat transfers on RQ: its tag must be free and the block must have room (R510). `fam`: the OP is one of its row's. -/
def State.rqBeat (s : State) (p : Nat) (fam : Bool) (b : RqBeat) : State :=
  let d := s.dep p
  if d.reqs.any (fun r => r.b.tag = b.tag) || decide (2048 ≤ d.reqs.length)
      || decide (256 ≤ (d.reqs.filter (fun r => r.b.thread = b.thread)).length) then s
  else
    let r : DieReq := { id := d.nextId, b := b, need := wdBytes b, early := if fam && beatLegal b then none else some (stAlign, 0) }
    (s.setDep p { d with reqs := d.reqs ++ [r], nextId := d.nextId + 1 }).settleDep p

/-- RQ_LD (R511). -/
def execRqLd (p : Fin 64) (b : RqBeat) (s : State) : Host.Outcome State Fault Refusal := .next (s.rqBeat p.val (b.op = 1) b)
/-- RQ_ST (R511). -/
def execRqSt (p : Fin 64) (b : RqBeat) (s : State) : Host.Outcome State Fault Refusal := .next (s.rqBeat p.val (b.op = 2) b)
/-- RQ_MST (R511, R188). -/
def execRqMst (p : Fin 64) (b : RqBeat) (s : State) : Host.Outcome State Fault Refusal := .next (s.rqBeat p.val (b.op = 3) b)
/-- RQ_RED (R511, R158). -/
def execRqRed (p : Fin 64) (b : RqBeat) (s : State) : Host.Outcome State Fault Refusal := .next (s.rqBeat p.val (b.op.toNat / 16 = 1) b)
/-- RQ_FADD (R158). -/
def execRqFadd (p : Fin 64) (b : RqBeat) (s : State) : Host.Outcome State Fault Refusal := .next (s.rqBeat p.val (b.op.toNat / 16 = 2) b)
/-- RQ_MIN (R158). -/
def execRqMin (p : Fin 64) (b : RqBeat) (s : State) : Host.Outcome State Fault Refusal := .next (s.rqBeat p.val (b.op.toNat / 16 = 3) b)
/-- RQ_MAX (R158). -/
def execRqMax (p : Fin 64) (b : RqBeat) (s : State) : Host.Outcome State Fault Refusal := .next (s.rqBeat p.val (b.op.toNat / 16 = 4) b)
/-- RQ_SWAP (R158). -/
def execRqSwap (p : Fin 64) (b : RqBeat) (s : State) : Host.Outcome State Fault Refusal := .next (s.rqBeat p.val (b.op = 0x50 || b.op = 0x51) b)
/-- RQ_CAS (R158). -/
def execRqCas (p : Fin 64) (b : RqBeat) (s : State) : Host.Outcome State Fault Refusal := .next (s.rqBeat p.val (b.op = 0x52 || b.op = 0x53) b)
/-- RQ_AND (R158). -/
def execRqAnd (p : Fin 64) (b : RqBeat) (s : State) : Host.Outcome State Fault Refusal := .next (s.rqBeat p.val (b.op = 0x54 || b.op = 0x55) b)
/-- RQ_OR (R158). -/
def execRqOr (p : Fin 64) (b : RqBeat) (s : State) : Host.Outcome State Fault Refusal := .next (s.rqBeat p.val (b.op = 0x56 || b.op = 0x57) b)
/-- RQ_XOR (R158). -/
def execRqXor (p : Fin 64) (b : RqBeat) (s : State) : Host.Outcome State Fault Refusal := .next (s.rqBeat p.val (b.op = 0x58 || b.op = 0x59) b)
/-- RQ_FENCE (R515). -/
def execRqFence (p : Fin 64) (b : RqBeat) (s : State) : Host.Outcome State Fault Refusal := .next (s.rqBeat p.val (b.op = 8) b)
/-- RQ_TLD (R511, R101). -/
def execRqTld (p : Fin 64) (b : RqBeat) (s : State) : Host.Outcome State Fault Refusal := .next (s.rqBeat p.val (b.op = 9) b)
/-- RQ_TST (R511, R101). -/
def execRqTst (p : Fin 64) (b : RqBeat) (s : State) : Host.Outcome State Fault Refusal := .next (s.rqBeat p.val (b.op = 10) b)
/-- RQ_TRED (R511, R101). -/
def execRqTred (p : Fin 64) (b : RqBeat) (s : State) : Host.Outcome State Fault Refusal := .next (s.rqBeat p.val (b.op = 11) b)
/-- WD_BEAT (R512): data of the first request still short of its own. -/
def execWdBeat (p : Fin 64) (data : List Byte) (s : State) : Host.Outcome State Fault Refusal :=
  .next (match (s.dep p.val).reqs.find? (fun r => 0 < r.need) with
    | some r =>
      let d := data.take r.need
      (s.setReq p.val r.id (fun (q : DieReq) => { q with data := q.data ++ d, need := q.need - d.length })).settleDep p.val
    | none => s)
/-- IS_RESPONSE (R518, R519). -/
def execIsResponse (p : Fin 64) (itag : BitVec 8) (status : BitVec 5) (data : List Byte) (s : State) : Host.Outcome State Fault Refusal :=
  .next (s.isAnswer p.val itag.toNat status data)
/-- IN_TIMEOUT_EXPIRY (R519). -/
def execInTimeoutExpiry (p : Fin 64) (itag : BitVec 8) (s : State) : Host.Outcome State Fault Refusal := .next (s.inExpired p.val itag.toNat)
/-- DEP7_FRAME_ACCEPT (R179, R180, R192 to R194, R516, R517). -/
def execDep7FrameAccept (p : Fin 64) (f : Frame) (s : State) : Host.Outcome State Fault Refusal := .next (s.depAccept p.val f)
/-- SNPS (R146, R147). -/
def execSnps (p : Fin 64) (f : Frame) (s : State) : Host.Outcome State Fault Refusal := .next ((s.takeSnoop p.val { f with opcode := 0x68 }).settleDep p.val)
/-- SNPI (R146, R147). -/
def execSnpi (p : Fin 64) (f : Frame) (s : State) : Host.Outcome State Fault Refusal := .next ((s.takeSnoop p.val { f with opcode := 0x69 }).settleDep p.val)
/-- SNPD (R146, R147). -/
def execSnpd (p : Fin 64) (f : Frame) (s : State) : Host.Outcome State Fault Refusal := .next ((s.takeSnoop p.val { f with opcode := 0x6A }).settleDep p.val)
/-- FLUSH (R167, R168, R622). -/
def execFlush (p : Fin 64) (f : Frame) (s : State) : Host.Outcome State Fault Refusal := .next (s.takeFlush p.val { f with opcode := 0x6B })
/-- GRANT (R146, R147). -/
def execGrant (p : Fin 64) (f : Frame) (s : State) : Host.Outcome State Fault Refusal := .next (s.cohResponse p.val { f with status := 0 })
/-- RETRY_RESPONSE (R154, R156). -/
def execRetryResponse (p : Fin 64) (f : Frame) (s : State) : Host.Outcome State Fault Refusal := .next (s.cohResponse p.val { f with status := stRetry })
/-- RETRY_BACKOFF_EXPIRY (R154). -/
def execRetryBackoffExpiry (p : Fin 64) (line : Nat) (s : State) : Host.Outcome State Fault Refusal := .next ((s.resendLine p.val line).settleDep p.val)
/-- PUT_ACK (R146). -/
def execPutAck (p : Fin 64) (f : Frame) (s : State) : Host.Outcome State Fault Refusal := .next (s.cohResponse p.val { f with status := 0 })
/-- TRANSIENT_WAY_FREED (R137): misses that waited for a way of the set go on. -/
def execTransientWayFreed (p : Fin 64) (set : Fin 2048) (s : State) : Host.Outcome State Fault Refusal :=
  .next (if (s.waysOf p.val set.val).any (fun e => !e.2.st.busy) || decide ((s.waysOf p.val set.val).length < 16) then s.settleDep p.val else s)
/-- STRICT_LINK_WORD (R530, R622). -/
def execStrictLinkWord (p : Fin 64) (strict predFar : Bool) (s : State) : Host.Outcome State Fault Refusal := .next (s.strictWord p.val strict predFar)
/-- EP_LINK_DOWN (R166, R527). -/
def execEpLinkDown (p : Fin 64) (s : State) : Host.Outcome State Fault Refusal := .next ((s.depLinkDown p.val).setEpState p.val 0)
/-- EP_RST_N (R507). -/
def execEpRstN (p : Fin 64) (s : State) : Host.Outcome State Fault Refusal := .next (s.depReset p.val)
/-- EP_CTL_ENABLE_WRITE (R507, R533). -/
def execEpCtlEnableWrite (p : Fin 64) (on : Bool) (s : State) : Host.Outcome State Fault Refusal := .next (s.epEnable p.val on)
/-- EP_RT_WRITE (R525). -/
def execEpRtWrite (p : Fin 64) (entry : BitVec 12) (lo hi : BitVec 64) (s : State) : Host.Outcome State Fault Refusal :=
  .next (s.writeEpRt p.val entry.toNat lo hi)
/-- EP_NODE_WRITE (R533). -/
def execEpNodeWrite (p : Fin 64) (v : BitVec 64) (s : State) : Host.Outcome State Fault Refusal := .next (s.writeEpNode p.val v)
/-- EP_RT_HOLD_WRITE (R210). -/
def execEpRtHoldWrite (p : Fin 64) (word : Fin 64) (v : BitVec 64) (s : State) : Host.Outcome State Fault Refusal :=
  .next (s.writeEpHold p.val word.val v)
/-- EP_RTX_WRITE (R198, R526). -/
def execEpRtxWrite (p : Fin 64) (v : BitVec 64) (s : State) : Host.Outcome State Fault Refusal := .next (s.writeEpRtx p.val v)
/-- EP_WIN_TIMEOUT_WRITE (R198, R526). -/
def execEpWinTimeoutWrite (p : Fin 64) (v : BitVec 64) (s : State) : Host.Outcome State Fault Refusal := .next (s.writeEpWinTimeout p.val v)

end Sys2Proof.Machine
end

