-- ==== Sys2Proof/Machine/Electrical.lean ====
section
/-! DEFINITION. Electrical ports: link start and the figure of merit, test loops and patterns, audits, sleep, and the events that
ports of both kinds share ("Electrical Lanes and the Host Link", R474 to R491; the DEP-7's side, R531; R204, R459, R478). -/

namespace Sys2Proof.Machine

/-! ### Registers -/

def elecDefault (_ : Nat) : Elec := {}
def State.elec (s : State) (p : Nat) : Elec := tget elecDefault s.elecs p
def State.setElec (s : State) (p : Nat) (x : Elec) : State := { s with elecs := tput elecDefault s.elecs p x }
/-- A field of ELEC_CTL, ELEC_STATUS and AUDIT. -/
def State.elecCtl (s : State) (p lo len : Nat) : Nat := s.regF (linkReg p lCtl) lo len
def State.elecBit (s : State) (p i : Nat) : Bool := s.regBit (linkReg p lCtl) i
def State.setElecBit (s : State) (p i : Nat) (b : Bool) : State := s.setRegBit (linkReg p lCtl) i b
/-- Bits of ELEC_CTL. -/
def ecEnable := 0
def ecSleep := 6
def ecDeep := 7
def ecReserve := 8
def ecTest := 9
/-- ELEC_STATUS.STATE: 0 DOWN, 1 DETECT, 5 ALIGN, 6 UP, 7 TEST, 8 DEEP_SLEEP, 9 WAKING. -/
def State.elecState (s : State) (p : Nat) : Nat := s.regF (linkReg p lStatus) 0 4
def State.setElecState (s : State) (p v : Nat) : State := s.setRegF (linkReg p lStatus) 0 4 v
def State.elecFlag (s : State) (p i : Nat) : Bool := s.regBit (linkReg p lStatus) i
def State.setElecFlag (s : State) (p i : Nat) (b : Bool) : State := s.setRegBit (linkReg p lStatus) i b
/-- ELEC_STATUS.CFG_ERR. -/
def State.elecErr (s : State) (p : Nat) : State := s.setElecFlag p 15 true
/-- A register of lane l. -/
def laneReg (p l off : Nat) : Nat := wlReg p l off
/-- A link start is in progress. -/
def State.elecStarting (s : State) (p : Nat) : Bool := inRange 1 5 (s.elecState p)

/-! ### Pattern checkers (R482 to R484) -/

/-- The pattern tools of a lane run: while TEST is 1 as its PRBS_CTL enables them, or during an audit of the lane. -/
def State.audited (s : State) (p l : Nat) : Bool := (s.elec p).auditing && s.regF (linkReg p lAudit) 56 2 ≠ l
def State.checkerRuns (s : State) (p l : Nat) : Bool := (s.elecBit p ecTest && s.regBit (laneReg p l 8) 15) || s.audited p l
def State.generatorRuns (s : State) (p l : Nat) : Bool := (s.elecBit p ecTest && s.regBit (laneReg p l 8) 7) || s.audited p l
def Elec.check (x : Elec) (l : Nat) : Option Nat := x.checks.toList.getD l none
/-- Bits that a locked checker has received since it last counted: 224 Gb/s. -/
def checkedBits (since now : Nat) : Nat := (now - since) * 2240 / 33
/-- Bring a locked checker's counters up to date; its errors are the link's. -/
def State.countBits (s : State) (p l : Nat) : State :=
  match (s.elec p).check l with
  | none => s
  | some t =>
    let n := checkedBits t s.now
    let u := ((s.addReg (laneReg p l 0x10) n).addReg (laneReg p l 0x18) (Config.bitErrors s.freeCtr n)).draw.2
    u.setElec p { u.elec p with checks := vecPut (u.elec p).checks l (some u.now) }
/-- A checker stops or loses its lock. -/
def State.unlock (s : State) (p l : Nat) : State :=
  let t := (s.countBits p l).setRegBit (laneReg p l 8) 11 false
  t.setElec p { t.elec p with checks := vecPut (t.elec p).checks l none }
def lanes : List Nat := [0, 1, 2, 3]

/-! ### Down and start (R475 to R478, R480, R490) -/

/-- An electrical port leaves service. -/
def State.elecDown (s : State) (p : Nat) : State :=
  let t := (((s.portLost p).setElecFlag p 12 false).setElecFlag p 13 false).setElecState p 0
  let x := t.elec p
  t.setElec p { x with wait := false, checked := false, measured := false, low := Vector.replicate 4 0, auditing := false, waking := false }
/-- Lanes whose preset is absent or fails its check (R477, R599). -/
def State.lacksPreset (s : State) (p l : Nat) : Bool := s.gbBad 4 (4 * p + l) && !(s.elec p).searched.getLsbD l
/-- A link start: TEST and deep sleep hold it back. -/
def State.elecStart (s : State) (p : Nat) : State :=
  if !s.elecBit p ecEnable ∨ s.elecBit p ecTest ∨ s.elecBit p ecDeep then s
  else
    let t := (s.elecDown p).count (linkReg p lStarts)
    let miss := lanes.filter (fun l => t.lacksPreset p l)
    let x := t.elec p
    let t := t.setElec p { x with searched := miss.foldl (fun m l => m ||| BitVec.ofNat 4 (2 ^ l)) x.searched }
    (t.setElecState p 1).setElecFlag p 14 (!miss.isEmpty)
/-- A failed start counts LINK_FAILS and waits 1 ms; a failed wake from deep sleep is followed by a full start (R478, R490). -/
def State.elecFail (s : State) (p : Nat) : State :=
  if s.elecState p = 9 then s.elecStart p
  else if s.elecStarting p then
    let t := (s.count (linkReg p lFails)).setElecState p 0
    t.setElec p { t.elec p with wait := true, checked := false, measured := false }
  else s
/-- A lane's FOM register and the lowest FOM since it was cleared. -/
def State.putFom (s : State) (p l fom : Nat) : State :=
  let a := laneReg p l 0
  let t := (s.setRegF a 0 8 fom).setRegF a 8 8 (min fom (s.regF a 8 8))
  t.setElecFlag p (8 + l) (decide (fom < t.elecCtl p 24 8))
/-- Step 3 of a link start (R477, R478). -/
def State.fomCheck (s : State) (p : Nat) (foms : Vector (BitVec 8) 4) (partnerOk : Bool) : State :=
  if s.elecState p ≠ 9 ∧ !s.elecStarting p then s
  else
    let t := s.forAll lanes (fun s l => s.putFom p l (foms.toList.getD l 0).toNat)
    if partnerOk && foms.toList.all (fun x => decide (t.elecCtl p 24 8 ≤ x.toNat)) then
      (t.setElec p { t.elec p with checked := true, measured := false }).setElecState p 5
    else t.elecFail p
/-- Step 6: the port comes up, and with it the DEP-7's side (R477, R507, R531). -/
def State.elecUp (s : State) (p : Nat) : State :=
  let x := s.elec p
  if s.elecState p = 5 ∧ x.checked ∧ x.measured ∧ s.epBit p eCtl 0 then
    let t := (s.setElec p { x with checked := false, measured := false, low := Vector.replicate 4 0 }).setElecState p 6
    ((t.portRises p).setEpState p 6).setLinkUp p true
  else s

/-! ### The figure of merit (R476, R479) -/

/-- FOM of an SNR in 0.01 dB and an eye height in mV. -/
def fomOf (snr eye : Nat) : Nat := min 255 (((snr : Int) - 1500) / 10 + (eye / 2 : Nat)).toNat
/-- One 1 ms update of a lane; the port goes down after three low updates or more than 16 uncorrectable codewords. -/
def State.fomUpdate (s : State) (p l snr eye uncorr : Nat) : State :=
  let fom := fomOf snr eye
  let t := ((s.putFom p l fom).setReg (laneReg p l 0x30) (BitVec.ofNat 64 snr)).setReg (laneReg p l 0x38) (BitVec.ofNat 64 eye)
  let t := t.addReg (linkReg p lUncorr) uncorr
  let x := t.elec p
  let n := if fom < t.elecCtl p 32 8 then x.low.toList.getD l 0 + 1 else 0
  if t.elecState p ≠ 6 then t
  else if 3 ≤ n ∨ 16 < uncorr then ((t.elecDown p).raise 11).elecStart p
  else t.setElec p { x with low := vecPut x.low l n }

/-! ### TEST and the loops (R480, R481, R531) -/

/-- LOOP takes effect while TEST is 1: a far-end loop once the partner acknowledges it. -/
def State.applyLoop (s : State) (p : Nat) : State :=
  if !s.elecBit p ecTest then s
  else
    let v := s.elecCtl p 10 2
    let x := s.elec p
    let far := x.loop = 3 || x.loopAsk
    if v = 3 then (if far then s else (s.setElec p { x with loop := 0, loopAsk := true }).emit (.word p (.loop 3)))
    else
      let t := s.setElec p { x with loop := v, loopAsk := false }
      if far then t.emit (.word p (.loop 0)) else t
/-- ELEC_CTL.TEST. -/
def State.testWrite (s : State) (p : Nat) (on : Bool) : State :=
  let was := s.elecBit p ecTest
  let t := s.setElecBit p ecTest on
  if was = on then t
  else if on then
    let t := t.elecDown p
    ((t.setElecState p (if t.elecBit p ecDeep then 8 else 7)).emit (.word p (.test true))).applyLoop p
  else
    let t := t.forAll lanes (fun s l => ((s.unlock p l).setRegBit (laneReg p l 8) 15 false).setRegBit (laneReg p l 8) 7 false)
    let t := (t.setRegF (linkReg p lCtl) 10 2 0).setElec p { t.elec p with loop := 0, loopAsk := false }
    ((t.setElecState p (if t.elecBit p ecDeep then 8 else 0)).emit (.word p (.test false))).elecStart p
/-- The partner takes its port out of service, or returns it (R480, R531). -/
def State.depTest (s : State) (p : Nat) (on : Bool) : State :=
  if on then ((s.depLinkDown p).setEpState p 7)
  else
    let t := s.setDep p { s.dep p with loop := false }
    if t.epBit p eCtl 0 then t.setEpState p 1 else t

/-! ### Audit Lessons (R484) -/

/-- The active timetable reserves a slot on a port in the Lesson at an index of its run. -/
def runReserves (r : Run) (index p : Nat) : Bool := r.tt.ports.any (fun x => x.port.val = p && x.lesson = index)
def State.reservedNow (s : State) (p : Nat) : Bool :=
  match s.bell.run with
  | some r => runReserves r r.index p
  | none => false
/-- AUDIT as written: ARM asks the partner. -/
def State.auditWrite (s : State) (p : Nat) (v : Word) : State :=
  let a := linkReg p lAudit
  let kept := if v.getLsbD 62 then 0 else s.reg a &&& 0x4000000000000000
  let t := s.setReg a ((v &&& 0x83000000FFFFFFFF) ||| kept)
  let t := t.setElec p { t.elec p with acked := none }
  if v.getLsbD 63 then t.emit (.word p (.audit (fget v 0 32) (fget v 56 2))) else t
/-- Roll call DCLK 128 of the armed Lesson: the audit runs, or is skipped. -/
def State.auditStart (s : State) (p : Nat) : State :=
  let a := linkReg p lAudit
  if !s.regBit a 63 ∨ s.regF a 0 32 ≠ s.lesson.toNat % 2 ^ 32 then s
  else
    let x := s.elec p
    let t := s.setElec p { x with acked := none, auditing := s.beforeCall x.acked && s.portUp p && !s.reservedNow p }
    if (t.elec p).auditing then { t with fab := { t.fab with hold := tput (fun _ => false) t.fab.hold p true } }
    else t.setRegBit a 62 true
/-- The closing guard ends an audit: lanes realign and flits resume. -/
def State.auditEnd (s : State) (p : Nat) : State :=
  if (s.elec p).auditing then
    let t := s.forAll lanes (fun s l => s.unlock p l)
    let t := t.setElec p { t.elec p with auditing := false }
    { t with fab := { t.fab with hold := tput (fun _ => false) t.fab.hold p (t.elecFlag p 12) } }
  else s

/-! ### Sleep (R485 to R490) -/

/-- A page in one of the states given reserves a slot on a port; what an unread page reserves is a free value. -/
def State.pageReserves (s : State) (p : Nat) (states : List Nat) : Bool :=
  bothPages.any (fun q => states.contains (s.pageState q.val) && (match (s.page q).tt with
    | some tt => tt.ports.any (fun x => x.port.val = p)
    | none => (match s.bell.run with
      | some r => r.page = q && s.pageState q.val = 4 && r.tt.ports.any (fun x => x.port.val = p)
      | none => false) || (s.pageState q.val ≠ 4 && Config.unreadSlot s.freeCtr p)))
/-- The transmit direction may enter one-way sleep (R486). -/
def State.maySleep (s : State) (p : Nat) : Bool :=
  s.elecBit p ecSleep && s.elecState p = 6 && !s.elecFlag p 12 && !s.regBit (rBellTree + 8 * (p / 64)) (p % 64)
    && !(match s.bell.run with
      | some r => runReserves r r.index p || runReserves r (r.index + 1) p
      | none => false)
    && !s.pageReserves p [1, 2, 3]
/-- SLEEP_IDLE has passed without a cell (R486). -/
def State.sleepIdle (s : State) (p : Nat) : State :=
  let t := s.draw.2
  if s.maySleep p then
    let t := (t.setElecFlag p 12 true).emit (.word p (.sleep true))
    { t with fab := { t.fab with hold := tput (fun _ => false) t.fab.hold p true } }
  else t
/-- The DEP-7's own transmit direction goes to sleep (R531). -/
def State.depSleep (s : State) (p : Nat) : State :=
  if s.epBit p eStatus 11 ∧ s.epBit p eElecCtl 6 ∧ !s.epBit p eElecStatus 12 then (s.setEpBit p eElecStatus 12 true).emit (.depWord p (.sleep true)) else s
/-- A sleeping direction begins to wake (R487). -/
def State.elecWake (s : State) (p : Nat) : State :=
  if s.elecFlag p 12 ∧ !(s.elec p).waking then (s.setElec p { s.elec p with waking := true }).emit (.word p (.sleep false)) else s
/-- A reason to wake stands. -/
def State.wakeCause (s : State) (p : Nat) : WakeCause → Bool
  | .cell => s.fab.voq.any (fun q => q.out = p && !(q.vc = 0 && isVc0Control q.f))
  | .control => s.fab.voq.any (fun q => q.out = p && q.vc = 0 && isVc0Control q.f)
  | .disabled => !s.elecBit p ecSleep
  | .guardDue => s.bell.phase = .guard
/-- The wake is complete: waiting cells proceed. -/
def State.wakeDone (s : State) (p : Nat) : State :=
  if (s.elec p).waking then
    let t := (s.setElec p { s.elec p with waking := false }).setElecFlag p 12 false
    { t with fab := { t.fab with hold := tput (fun _ => false) t.fab.hold p (t.elec p).auditing } }
  else s
/-- The Lesson that follows the current one reserves a slot on a port (R487). -/
def State.followingReserves (s : State) (p : Nat) : Bool :=
  let ends := fun (r : Run) => decide (r.tt.run ≤ r.index + 1)
  match s.bell.run with
  | some r =>
    if ends r ∨ s.bell.change.isSome then
      let t := s.setReg rLesson (s.lesson + 1)
      match ({ t with bell := { t.bell with run := if ends r then none else t.bell.run } }).pendingPage with
      | some q => ((s.page q).tt.map (fun (tt : Timetable) => tt.ports.any (fun x => x.port.val = p && x.lesson = 0))).getD false
      | none => !ends r && runReserves r (r.index + 1) p
    else runReserves r (r.index + 1) p
  | none =>
    match (s.setReg rLesson (s.lesson + 1)).pendingPage with
    | some q => ((s.page q).tt.map (fun (tt : Timetable) => tt.ports.any (fun x => x.port.val = p && x.lesson = 0))).getD false
    | none => false
/-- An entry of SWC.RT_ACTIVE with VALID at 1 has the port as its first byte (R489). -/
def State.routeUses (s : State) (p : Nat) : Bool :=
  (s.regs.filter (fun e => rRtActive ≤ e.1 && e.1 < rRtActive + 0x10000 && e.1 % 16 = 8 && e.2.getLsbD 39)).any (fun e => s.regF (e.1 - 8) 0 8 = p)
/-- ELEC_CTL.DEEP = 1 (R489). -/
def State.deepEnter (s : State) (p : Nat) : State :=
  if s.elecBit p ecDeep then s
  else if !s.elecBit p ecReserve || s.regBit (rBellTree + 8 * (p / 64)) (p % 64) || s.routeUses p || s.pageReserves p [1, 2, 3, 4] then (s.elecErr p).draw.2
  else ((s.draw.2.elecDown p).setElecBit p ecDeep true).setElecState p 8
/-- ELEC_CTL.DEEP = 0 (R490). -/
def State.deepExit (s : State) (p : Nat) : State :=
  if !s.elecBit p ecDeep then s
  else
    let t := s.setElecBit p ecDeep false
    if t.elecBit p ecEnable ∧ !t.elecBit p ecTest then t.setElecState p 9 else t.setElecState p (if t.elecBit p ecTest then 7 else 0)
/-- ELEC_CTL.ENABLE. -/
def State.elecEnable (s : State) (p : Nat) (on : Bool) : State :=
  let was := s.elecBit p ecEnable
  let t := s.setElecBit p ecEnable on
  if on then (if was then t else t.elecStart p) else t.elecDown p
/-- ELEC_CTL.RESERVE (R488). -/
def State.reserveWrite (s : State) (p : Nat) (on : Bool) : State :=
  let others := ((List.range 64).filter (fun q => q ≠ p && s.elecBit q ecReserve)).length
  if on ∧ 8 ≤ others then s.elecErr p else s.setElecBit p ecReserve on
/-- ELEC_CTL.SLEEP_EN: cleared, it wakes the direction (R487). -/
def State.sleepEnWrite (s : State) (p : Nat) (on : Bool) : State :=
  let t := s.setElecBit p ecSleep on
  if on then t else t.elecWake p

/-! ### Events that ports of both kinds share -/

/-- Loss of signal on an external port (R204, R475). -/
def State.signalLost (s : State) (p : Nat) : State := if p < 64 then s.elecDown p else s.optDown (p - 64)
/-- The partner's timing markers have measured a link (R55). -/
def State.delayMeasured (s : State) (p : Nat) (l : List Nat) : State :=
  if p < 64 then
    (if s.elecState p = 5 ∧ (s.elec p).checked then (s.linkMeasured p l).setElec p { s.elec p with measured := true } else s)
  else if s.optState (p - 64) = 6 ∧ (s.opt (p - 64)).agreed then
    let t := s.linkMeasured p l
    t.setOpt (p - 64) { t.opt (p - 64) with measured := true }
  else s
/-- The 1 ms wait after a failed start has passed (R453, R478). -/
def State.waitOver (s : State) (p : Nat) : State :=
  if p < 64 then (if (s.elec p).wait then s.elecStart p else s) else if (s.opt (p - 64)).wait then s.optStart (p - 64) else s

/-! ### Meanings -/

/-- ROLL_CALL_GAP (R35, R434, R465, R466, R484). -/
def execRollCallGap (s : State) : Host.Outcome State Fault Refusal :=
  .next (if s.bell.phase = .swapped then
      let t := (s.prismGap).opticalGap.forAll (List.range 64) (fun s p => s.auditStart p)
      { t with bell := { t.bell with phase := .gapped } }
    else s)
/-- CLOSING_GUARD (R31, R484, R487). -/
def execClosingGuard (s : State) : Host.Outcome State Fault Refusal :=
  .next (if s.bell.phase = .body then
      let t := { s with bell := { s.bell with phase := .guard } }
      let t := t.forAll (t.elecs.map Prod.fst) (fun s p => s.auditEnd p)
      t.forAll ((List.range 64).filter (fun p => t.elecFlag p 12 && t.followingReserves p)) (fun s p => s.elecWake p)
    else s)
/-- PORT_DOWN (R204). -/
def execPortDown (p : Fin 128) (s : State) : Host.Outcome State Fault Refusal := .next (s.signalLost p.val)
/-- LINK_DELAY_MEASURED (R55, R182, R243). -/
def execLinkDelayMeasured (p : Fin 128) (roundTrips : List Nat) (s : State) : Host.Outcome State Fault Refusal :=
  .next (if roundTrips.length = 64 then s.delayMeasured p.val roundTrips else s)
/-- LINK_RESTART_WAIT_EXPIRY (R453, R478). -/
def execLinkRestartWaitExpiry (p : Fin 128) (s : State) : Host.Outcome State Fault Refusal := .next (s.waitOver p.val)
/-- ELECTRICAL_LINK_START (R477, R531). -/
def execElectricalLinkStart (p : Fin 64) (dep : Bool) (s : State) : Host.Outcome State Fault Refusal :=
  .next (if dep then
      (if s.epBit p.val eCtl 0 then
        ((s.depLinkDown p.val).setEpState p.val 1).setEpBit p.val eElecStatus 14
          (lanes.any (fun l => s.epF p.val (eLane + 0x40 * l) 32 8 = 0xFF))
       else s)
    else s.elecStart p.val)
/-- ELEC_FOM_CHECK (R477, R478, R490). -/
def execElecFomCheck (p : Fin 64) (foms : Vector (BitVec 8) 4) (partnerOk : Bool) (s : State) : Host.Outcome State Fault Refusal :=
  .next (s.fomCheck p.val foms partnerOk)
/-- ELEC_LINK_START_FAIL (R478, R490). -/
def execElecLinkStartFail (p : Fin 64) (s : State) : Host.Outcome State Fault Refusal := .next (s.elecFail p.val)
/-- ELEC_PORT_UP (R477). -/
def execElecPortUp (p : Fin 64) (s : State) : Host.Outcome State Fault Refusal := .next (s.elecUp p.val)
/-- LANE_FOM_UPDATE (R476, R479). -/
def execLaneFomUpdate (p : Fin 64) (lane : Fin 4) (snrCentiDb eyeMv uncorr : Nat) (s : State) : Host.Outcome State Fault Refusal :=
  .next (s.fomUpdate p.val lane.val snrCentiDb eyeMv uncorr)
/-- ELEC_CTL_TEST_WRITE (R480). -/
def execElecCtlTestWrite (p : Fin 64) (on : Bool) (s : State) : Host.Outcome State Fault Refusal := .next (s.bar0 (fun s => s.testWrite p.val on))
/-- ELEC_CTL_LOOP_WRITE (R481). -/
def execElecCtlLoopWrite (p : Fin 64) (loop : Fin 4) (s : State) : Host.Outcome State Fault Refusal :=
  .next (s.bar0 (fun s => (s.setRegF (linkReg p.val lCtl) 10 2 loop.val).applyLoop p.val))
/-- FAR_END_LOOP_ACK (R481). -/
def execFarEndLoopAck (p : Fin 64) (s : State) : Host.Outcome State Fault Refusal :=
  .next (if (s.elec p.val).loopAsk then s.setElec p.val { s.elec p.val with loop := 3, loopAsk := false } else s)
/-- FAR_END_LOOP_TIMEOUT (R481). -/
def execFarEndLoopTimeout (p : Fin 64) (s : State) : Host.Outcome State Fault Refusal :=
  .next (if (s.elec p.val).loopAsk then
      (((s.setElec p.val { s.elec p.val with loopAsk := false }).elecErr p.val).setRegF (linkReg p.val lCtl) 10 2 0)
    else s)
/-- PRBS_INJ_ONE (R482, R483). -/
def execPrbsInjOne (p : Fin 64) (lane : Fin 4) (s : State) : Host.Outcome State Fault Refusal :=
  .next (s.bar0 (fun s => if s.generatorRuns p.val lane.val then s.emit (.word p.val (.injectOne lane.val)) else s))
/-- PRBS_CHK_CLEAR (R482). -/
def execPrbsChkClear (p : Fin 64) (lane : Fin 4) (s : State) : Host.Outcome State Fault Refusal :=
  .next (s.bar0 (fun s =>
    let t := s.countBits p.val lane.val
    (t.setReg (laneReg p.val lane.val 0x10) 0).setReg (laneReg p.val lane.val 0x18) 0))
/-- PRBS_CHECKER_LOCK (R482). -/
def execPrbsCheckerLock (p : Fin 64) (lane : Fin 4) (s : State) : Host.Outcome State Fault Refusal :=
  .next (if s.checkerRuns p.val lane.val ∧ !s.regBit (laneReg p.val lane.val 8) 11 then
      (s.setRegBit (laneReg p.val lane.val 8) 11 true).setElec p.val
        { s.elec p.val with checks := vecPut (s.elec p.val).checks lane.val (some s.now) }
    else s)
/-- PRBS_CHECKER_LOCK_LOST (R482). -/
def execPrbsCheckerLockLost (p : Fin 64) (lane : Fin 4) (s : State) : Host.Outcome State Fault Refusal := .next (s.unlock p.val lane.val)
/-- AUDIT_WRITE (R484). -/
def execAuditWrite (p : Fin 64) (v : BitVec 64) (s : State) : Host.Outcome State Fault Refusal := .next (s.bar0 (fun s => s.auditWrite p.val v))
/-- AUDIT_ACK (R484). -/
def execAuditAck (p : Fin 64) (s : State) : Host.Outcome State Fault Refusal :=
  .next (if s.regBit (linkReg p.val lAudit) 63 then s.setElec p.val { s.elec p.val with acked := some s.lesson.toNat } else s)
/-- SLEEP_IDLE_EXPIRY (R486, R531). -/
def execSleepIdleExpiry (p : Fin 64) (dep : Bool) (s : State) : Host.Outcome State Fault Refusal :=
  .next (if dep then s.depSleep p.val else s.sleepIdle p.val)
/-- SLEEP_WAKE (R487). -/
def execSleepWake (p : Fin 64) (cause : WakeCause) (s : State) : Host.Outcome State Fault Refusal :=
  .next (if s.wakeCause p.val cause then s.elecWake p.val else s)
/-- SLEEP_WAKE_COMPLETE (R487). -/
def execSleepWakeComplete (p : Fin 64) (s : State) : Host.Outcome State Fault Refusal := .next (s.wakeDone p.val)
/-- SLEEP_WORD (R485, R531): `dep`, the word has reached the DEP-7; otherwise the DEP-7 has sent it. -/
def execSleepWord (p : Fin 64) (dep asleep : Bool) (s : State) : Host.Outcome State Fault Refusal :=
  .next (if dep then s.setEpBit p.val eElecStatus 13 asleep
    else (s.setElecFlag p.val 13 asleep).setEpBit p.val eElecStatus 12 asleep)
/-- ELEC_CTL_DEEP_ENTER (R489). -/
def execElecCtlDeepEnter (p : Fin 64) (s : State) : Host.Outcome State Fault Refusal := .next (s.bar0 (fun s => s.deepEnter p.val))
/-- ELEC_CTL_DEEP_EXIT (R490). -/
def execElecCtlDeepExit (p : Fin 64) (s : State) : Host.Outcome State Fault Refusal := .next (s.bar0 (fun s => s.deepExit p.val))
/-- ELEC_CTL_ENABLE_WRITE (R477). -/
def execElecCtlEnableWrite (p : Fin 64) (on : Bool) (s : State) : Host.Outcome State Fault Refusal := .next (s.bar0 (fun s => s.elecEnable p.val on))
/-- ELEC_CTL_RESTART (R477). -/
def execElecCtlRestart (p : Fin 64) (s : State) : Host.Outcome State Fault Refusal := .next (s.bar0 (fun s => s.elecStart p.val))
/-- ELEC_CTL_RESERVE_WRITE (R488). -/
def execElecCtlReserveWrite (p : Fin 64) (on : Bool) (s : State) : Host.Outcome State Fault Refusal := .next (s.bar0 (fun s => s.reserveWrite p.val on))
/-- FLIT_REPLAY (R459, R474): REPLAYS of an up port. -/
def execFlitReplay (p : Fin 128) (s : State) : Host.Outcome State Fault Refusal :=
  .next (if s.portUp p.val then s.count (linkReg p.val lReplays) else s)
/-- TEST_REQUEST (R480, R531). -/
def execTestRequest (p : Fin 64) (on : Bool) (s : State) : Host.Outcome State Fault Refusal := .next (s.depTest p.val on)
/-- LOOP_REQUEST (R481, R531). -/
def execLoopRequest (p : Fin 64) (s : State) : Host.Outcome State Fault Refusal :=
  .next ((s.setDep p.val { s.dep p.val with loop := true }).emit (.depWord p.val .loopAck))
/-- AUDIT_REQUEST (R484, R531). -/
def execAuditRequest (p : Fin 64) (_lesson : BitVec 32) (_ctrlLane : Fin 4) (s : State) : Host.Outcome State Fault Refusal :=
  .next (if s.epBit p.val eElecCtl 9 then s else s.emit (.depWord p.val .auditAck))

end Sys2Proof.Machine
end

