-- ==== Sys2Proof/Machine/HostLink.lean ====
section
/-! DEFINITION. The host link: BAR2 and BAR4, its resets, its loss and return, the gateway's relay ("Electrical Lanes and the Host
Link", R492 to R503; R130). -/

namespace Sys2Proof.Machine

/-! ### Functions and links (R492, R493) -/

/-- A function lies on link B of a bifurcated host link. -/
def State.onLinkB (s : State) (fn : Nat) : Bool := s.host.split && decide (32 ≤ fn)
/-- A function exists and its link is up. -/
def State.fnServed (s : State) (fn : Nat) : Bool :=
  if s.onLinkB fn then s.host.linkB else s.ready 0 && decide (fn < 64)

/-! ### BAR2 (R495 to R497, R130) -/

/-- Offset, length, VALID and base, function mask of an aperture. -/
def State.aperture (s : State) (i : Nat) : Nat × Nat × Word × Word :=
  let a := rAperture + 32 * i
  ((s.reg a).toNat, (s.reg (a + 8)).toNat, s.reg (a + 16), s.reg (a + 24))
/-- Bit of an aperture's mask that stands for a function. -/
def maskBit (fn : Nat) : Nat := if fn = 64 then 0 else fn
/-- FPA of a BAR2 request, by the lowest-numbered aperture that covers it (R495). -/
def State.bar2Fpa (s : State) (fn off n : Nat) : Option Nat :=
  ((List.range 64).find? (fun i =>
    let (o, l, v, m) := s.aperture i
    v.getLsbD 63 && m.getLsbD (maskBit fn) && decide (o ≤ off) && decide (off + n ≤ o + l))).map (fun i =>
      let (o, _, v, _) := s.aperture i
      (fget v 0 56 + off - o) % 2 ^ 56)
/-- Cohort of a BAR2 request; none where its PASID is named by no entry (R496). -/
def State.bar2Cohort (s : State) (fn : Nat) (pasid : Option (BitVec 20)) : Option (BitVec 10) :=
  match pasid with
  | none => some (BitVec.ofNat 10 (s.regF (rFnCohort + 8 * fn) 0 10))
  | some v =>
    ((List.range 1024).find? (fun i =>
      let e := s.reg (rPasidMap + 8 * i)
      e.getLsbD 63 && fget e 0 20 = v.toNat)).map (fun i => BitVec.ofNat 10 (s.regF (rPasidMap + 8 * i) 32 10))

/-- One frame of a BAR2 request (R497). -/
def State.bar2Frame (s : State) (b : Bar2) (off a n : Nat) : Frame :=
  { blankFrame with
    cohort := b.cohort, part := BitVec.ofNat 6 (s.cohortPart b.cohort.toNat), dst := BitVec.ofNat 12 (a / 2 ^ 44), src := s.node,
    opcode := if b.write then 2 else 1, vc := 1, length := BitVec.ofNat 12 n, fpa := BitVec.ofNat 56 a,
    payload := if b.write then (b.data.drop off).take n else [] }
/-- Replace a BAR2 request. -/
def State.putBar2 (s : State) (b : Bar2) : State :=
  { s with host := { s.host with reads := s.host.reads.map (fun (x : Bar2) => if x.id = b.id then b else x) } }
/-- Send the frames of a BAR2 request, split at 2,048-byte boundaries of the FPA (R497). -/
def State.sendBar2 (s : State) (b : Bar2) : State :=
  let ps := splitRow (b.len / 2048 + 2) 0 b.fpa b.len
  (s.putBar2 { b with sent := true, parts := ps.map (fun (x : Nat × Nat × Nat) => (x.2.1, none)) }).forAll ps (fun s x =>
    s.submit 0 (s.bar2Frame b x.1 x.2.1 x.2.2) (.host b.id))
/-- Status of a BAR2 request whose frames have all completed: OK, or that of the first failing frame. -/
def Bar2.status (b : Bar2) : BitVec 5 :=
  ((b.parts.filterMap (fun x => x.2.map Prod.fst)).find? (fun (st : BitVec 5) => decide (st ≠ stOk))).getD stOk
/-- PCIE.ERR_LOG: function in [63:56], status in [47:43], BAR2 offset in [39:0] (PRESUMED layout, log 26), and HOST_ERR (R497). -/
def State.hostError (s : State) (b : Bar2) (status : BitVec 5) : State :=
  (s.setReg rErrLog (BitVec.ofNat 64 (b.off % 2 ^ 40 + status.toNat * 2 ^ 43 + b.fn * 2 ^ 56))).raise 12
/-- A BAR2 request ends (R497, R500). -/
def State.endBar2 (s : State) (b : Bar2) : State :=
  let t := { s with host := { s.host with reads := s.host.reads.filter (fun (x : Bar2) => x.id ≠ b.id) } }
  let st := b.status
  if b.write then (if st = stOk then t else (t.emit (.aer .abort)).hostError b st)
  else if b.dead then t
  else if st = stOk then t.emit (.bar2 b.id .success (b.parts.flatMap (fun x => (x.2.map Prod.snd).getD [])))
  else (t.emit (.bar2 b.id .abort [])).hostError b st
/-- One round: requests that have ended complete; of each function, the oldest request that is left is sent (R130). -/
def State.hostRound (s : State) : State :=
  let t := s.forAll (s.host.reads.filter (fun (b : Bar2) => b.sent && b.parts.all (fun x => x.2.isSome))) State.endBar2
  let first := fun (b : Bar2) => !b.sent && (t.host.reads.find? (fun (x : Bar2) => x.fn = b.fn)).map Bar2.id = some b.id
  t.forAll (t.host.reads.filter first) State.sendBar2
def State.hostRounds (s : State) : Nat → State
  | 0 => s
  | n + 1 => s.hostRound.hostRounds n
/-- Complete and send BAR2 requests as far as they go. -/
def State.settleHost (s : State) : State := s.hostRounds (s.host.reads.length + 1)

/-- A BAR2 request arrives (R495, R496). -/
def State.bar2 (s : State) (r : Bar2Req) (data : Option (List Byte)) : State :=
  if !s.fnServed r.fn.val then s
  else
    let id := s.host.nextId
    let t := { s with host := { s.host with nextId := id + 1 } }
    match s.bar2Fpa r.fn.val r.off.toNat r.len, s.bar2Cohort r.fn.val r.pasid with
    | some a, some c =>
      let b : Bar2 := { id := id, fn := r.fn.val, off := r.off.toNat, write := data.isSome, fpa := a, len := r.len, cohort := c,
                        data := data.getD [] }
      ({ t with host := { t.host with reads := t.host.reads ++ [b] } }).settleHost
    | _, _ => if data.isSome then t.emit (.aer .unsupported) else t.emit (.bar2 id .unsupported [])

/-! ### BAR4 (R494) -/

/-- A write through the staging window: an ST from this module's node ID to PCIE.STAGE.NODE, in the order of function 0's
requests. -/
def State.stagingWrite (s : State) (off : Nat) (data : List Byte) : State :=
  if !(s.ready 0 || s.host.linkB) then s
  else
    let w := s.reg rStage
    let a := fget w 44 12 * 2 ^ 44 + (fget w 0 40 + off) % 2 ^ 44
    let b : Bar2 := { id := s.host.nextId, fn := 0, off := off, write := true, fpa := a, len := data.length,
                      cohort := BitVec.ofNat 10 (s.regF rFnCohort 0 10), data := data }
    ({ s with host := { s.host with nextId := s.host.nextId + 1, reads := s.host.reads ++ [b] } }).settleHost

/-! ### Resets, loss and return of the link (R500, R501) -/

/-- Discard the completions of the outstanding reads of some functions. -/
def State.deadReads (s : State) (p : Nat → Bool) : State :=
  { s with host := { s.host with reads := s.host.reads.map (fun (b : Bar2) => if p b.fn then { b with dead := true } else b) } }
/-- The PCI Express configuration state of some functions returns to reset. -/
def State.resetCfg (s : State) (p : Nat → Bool) : State :=
  { s with host := { s.host with cfg := s.host.cfg.filter (fun e => !p (e.1 / 1024)) } }
/-- A hot reset, a link-down, or a function-level reset of PF0: configuration state and MSI-X table, nothing else (R500). -/
def State.linkReset (s : State) : State :=
  let t := s.resetCfg (fun _ => true)
  { t with host := { t.host with msix := [] } }
/-- A link of the host goes down (R493, R501). -/
def State.hostDown (s : State) (linkB : Bool) : State :=
  if linkB then
    (if s.host.split then
       let t := (s.resetCfg (fun n => decide (32 ≤ n))).deadReads (fun n => decide (32 ≤ n))
       { t with host := { t.host with linkB := false } }
     else s)
  else
    let gone := fun n => !s.onLinkB n
    let t := ((s.resetCfg gone).deadReads gone).setRegBit rPcieStatus 2 true
    ({ t with host := { t.host with msix := [] } }).setReady 0 false
/-- The rate and width that a trained link shows in PCIE.STATUS. -/
def State.showLink (s : State) (lo : Nat) : State :=
  let (n, t) := s.draw
  t.setRegF rPcieStatus lo 8 (Config.linkShape n).toNat
/-- A link of the host comes up: what waited goes out, writes before interrupts (R493, R501). -/
def State.hostUp (s : State) (linkB : Bool) : State :=
  if linkB then
    (if s.host.split then ({ s with host := { s.host with linkB := true } }).showLink 16 else s)
  else
    let t := (s.setReady 0 true).showLink 8
    let u := { t with host := { t.host with buf := [], irqs := [] } }
    let u := u.forAll t.host.buf (fun s x => { s with hostMem := putHost s.hostMem x.1 x.2 })
    u.forAll t.host.irqs (fun s n => s.emit (.msix n))

/-! ### The gateway (R502, R503) -/

/-- Raise a vector by its number, or hold it as a pending bit (R501, R503). -/
def State.raiseVector (s : State) (n : Nat) : State :=
  if s.ready 0 then s.emit (.msix n)
  else if s.host.irqs.contains n then s
  else { s with host := { s.host with irqs := s.host.irqs ++ [n] } }
/-- Address of a word of a relay slot. -/
def relayAt (m k : Nat) : Nat := rRelay + 0x40 * m + 8 * k
/-- A write of word 5 of slot m by module `from_` performs the slot (R503). A length outside 1 to 32 writes nothing. -/
def State.relay (s : State) (m from_ : Nat) (v : Word) : State :=
  if !(s.reg rGwMembers).getLsbD from_ || decide (64 ≤ from_) then s.count rRelayRefused
  else
    let t := s.setReg (relayAt m 5) v
    let n := fget v 0 6
    if v.getLsbD 8 then t.raiseVector (32 * m + fget v 16 5)
    else if inRange 1 32 n then
      t.writeHost (t.reg (relayAt m 4)).toNat (((List.range 4).flatMap (fun k => leBytes 8 (t.reg (relayAt m k)).toNat)).take n)
    else t

/-! ### Meanings -/

/-- BAR2_READ (R495 to R497). -/
def execBar2Read (b : Bar2Req) (s : State) : Host.Outcome State Fault Refusal := .next (s.bar2 b none)
/-- BAR2_WRITE (R495 to R497). -/
def execBar2Write (b : Bar2Req) (data : List Byte) (s : State) : Host.Outcome State Fault Refusal := .next (s.bar2 b (some data))
/-- BAR4_STAGING_WRITE (R494). -/
def execBar4StagingWrite (off : BitVec 24) (data : List Byte) (s : State) : Host.Outcome State Fault Refusal :=
  .next (s.stagingWrite off.toNat data)
/-- HOST_HOT_RESET (R500). -/
def execHostHotReset (s : State) : Host.Outcome State Fault Refusal := .next s.linkReset
/-- FUNCTION_LEVEL_RESET (R500). -/
def execFunctionLevelReset (fn : Fin 65) (s : State) : Host.Outcome State Fault Refusal :=
  .next (if fn.val = 0 then s.linkReset else (s.resetCfg (fun n => n = fn.val)).deadReads (fun n => n = fn.val))
/-- HOST_LINK_DOWN (R493, R501). -/
def execHostLinkDown (linkB : Bool) (s : State) : Host.Outcome State Fault Refusal := .next (s.hostDown linkB)
/-- HOST_LINK_UP (R493, R501). -/
def execHostLinkUp (linkB : Bool) (s : State) : Host.Outcome State Fault Refusal := .next (s.hostUp linkB)
/-- RELAY_SLOT_PERFORM (R503). -/
def execRelaySlotPerform (m : Fin 64) (v : BitVec 64) (s : State) : Host.Outcome State Fault Refusal := .next (s.relay m.val m.val v)
/-- BIFURCATE_WRITE (R493): stored at once; the link takes its shape from it at the next PERST_N. -/
def execBifurcateWrite (on : Bool) (s : State) : Host.Outcome State Fault Refusal := .next (s.bar0 (fun s => s.setRegBit rPcieCtl 0 on))

end Sys2Proof.Machine
end

