-- ==== Sys2Proof/Machine/Reset.lean ====
section
/-! DEFINITION. Reset domains, fencing, watchdogs, escalation, thermal protection, power ("Bring-up, Reset and Recovery", R562 to
R588; R168, R225, R425, R590, R591, R592, R637, R642 to R644). -/

namespace Sys2Proof.Machine

/-! ### Domains -/

/-- Domain codes of RST.RESET (R588). -/
def domainCode : Domain → Nat
  | .compute => 0
  | .switchLinks => 1
  | .memory => 2
  | .module => 3
/-- Cause codes (R588). -/
def causeCode : ResetCause → Nat
  | .hostWrite => 0
  | .overrunLimit => 1
  | .routerStall => 2
  | .internalPort => 3
  | .homeWatchdog => 4
  | .thermalHold => 5
def State.fencing (s : State) (d : Nat) : Bool := s.regBit rRstStatus (5 + d)
def State.inReset (s : State) (d : Nat) : Bool := s.regBit rRstStatus (2 + d)
def State.outOfService (s : State) : Bool := s.regBit rRstStatus 15
def State.thermalHeld (s : State) : Bool := s.regBit rRstStatus 14
/-- Put a domain in or out of the fenced and the reset state, and BUSY with them (R564). -/
def State.setDomain (s : State) (d : Nat) (fence reset : Bool) : State :=
  let t := (s.setRegBit rRstStatus (5 + d) fence).setRegBit rRstStatus (2 + d) reset
  t.setRegBit rRstStatus 0 (decide (t.regF rRstStatus 2 6 ≠ 0))
/-- Ticks in a second. -/
def tickRate : Nat := 3300000000
/-- Ticks of RST.ESC.WINDOW. -/
def State.escWindow (s : State) : Nat := s.regF rRstEsc 32 16 * tickRate

/-! ### Log and escalation (R580, R588) -/

/-- Copy every non-zero CR.FAULT to the log before a compute reset. -/
def State.logFaults (s : State) (cause : Nat) : State :=
  s.forAll ((s.regs.filter (fun e => decide (rWingBlock ≤ e.1) && (e.1 - rWingBlock) % 0x1000 = crFault
      && decide ((e.1 - rWingBlock) % 0x400000 < 300 * 0x1000)))) (fun s e =>
    let o := e.1 - rWingBlock
    s.logRecord 1 0 cause (300 * (o / 0x400000) + o % 0x400000 / 0x1000) e.2)
/-- Count a compute reset toward escalation, and latch OUT_OF_SERVICE. -/
def State.escalate (s : State) (cause arg : Nat) : State :=
  let marks := s.now :: s.rst.marks.filter (fun t => decide (s.now ≤ t + s.escWindow))
  let t := { s with rst := { s.rst with marks := marks } }
  if s.regF rRstEsc 0 4 ≤ marks.length ∧ !s.outOfService then (t.setRegBit rRstStatus 15 true).logEvent 2 0 cause arg else t
/-- Count and log a reset that is performed. -/
def State.noteReset (s : State) (d cause arg : Nat) : State :=
  let t := if d = 0 then s.logFaults cause else s
  let t := (t.countWrap rRstCount (16 * d) 16).logEvent 0 d cause arg
  let t := if cause = 3 ∨ cause = 4 then { t with rst := { t.rst with wd := tput (fun _ => none) t.rst.wd d (some t.now) } } else t
  if d = 0 ∧ cause ≠ 5 then t.escalate cause arg else t

/-! ### Fencing (R564, R565, R352, R168, R225) -/

/-- Step 1. -/
def State.fence (s : State) (d : Nat) : State :=
  let t := s.setDomain d true false
  if d = 0 then t.collFenced
  else if d = 2 then
    let u := (t.collFenced).loseOverflow
    u.forAll ((List.range 64).filter (fun p => u.isMember p && !u.coh.flushes.getLsbD p)) (fun s p => s.sendFlush p)
  else t

/-- Nothing that the domain accepted is outstanding (R564). -/
def State.drained (s : State) (d : Nat) : Bool :=
  if d = 0 then s.omu.queue.isEmpty && (allPrisms.all (fun p => (s.prism p).frames.isEmpty))
  else if d = 1 then s.fab.voq.isEmpty && s.fab.mc.isEmpty && s.fab.mcWait.isEmpty
  else s.coh.trans.isEmpty && s.coh.waitq.isEmpty && decide (s.coh.flushes = 0)

/-- An answer that leaves at once by the port its request came in at. -/
def State.answerNow (s : State) (p : Nat) (f : Frame) : State :=
  let g := { responseTo s.node f stFenced 0 (failData f 0) with
             vc := 2, route := routeByte0 0xFF, hopCount := 1, hopPtr := if p < 64 then 1 else 0 }
  if p < 128 ∧ !s.melium p then s.emit (.frame p (Frame.sealed g)) else s
/-- Step 3: every request still outstanding in the domain is answered FENCED, without effect. -/
def State.answerAll (s : State) (d : Nat) : State :=
  if d = 0 then
    let vs := allPrisms.flatMap (fun p => (s.prism p).frames.flatMap (fun (x : PrismFrame) => x.vecs))
    let t := s.forAll allPrisms (fun s p => s.setPrism p { s.prism p with frames := [] })
    (t.forAll vs (fun s x => s.vecDone x stFenced [])).dropVecs (fun _ => true) stFenced
  else if d = 1 then
    let t := s.forAll s.fab.mc (fun s c => s.mcAnswer c.req stFenced (c.failed + c.pending))
    let t := t.forAll t.fab.mcWait (fun s r => s.mcAnswer r stFenced (s.mcMembers r.f.group.toNat).length)
    let t := ({ t with fab := { t.fab with mc := [], mcWait := [] } }).setRegF rMcStatus 32 11 0
    t.forAll t.fab.voq (fun s q => if q.sent = 0 ∧ isAnswerable q.f.opcode.toNat then s.answerNow q.inp q.f else s)
  else
    let work := s.coh.trans.map (fun (t : Trans) => t.work) ++ s.coh.waitq
    let t := { s with coh := { s.coh with trans := [], waitq := [] } }
    let t := t.forAll work (fun s w => match w with
      | .access r _ _ _ => s.finish r stFenced false []
      | .coherence p f => s.cohFail p f stFenced
      | .recall => s)
    t.forAll ((List.range 64).filter (fun p => t.coh.flushes.getLsbD p)) (fun s p => s.loseSatchel p)

/-! ### What each reset leaves (R563, R567 to R569, R561) -/

/-- A WING register that a compute reset keeps (R563). -/
def keptWing (a : Nat) : Bool :=
  let o := (a - rWingBlock) % 0x1000
  o = crSpill || o = crSlotArea || (decide (crBbOwner ≤ o) && decide (o < crBbOwner + 32))
/-- A request that a Desk, a stream engine or a walk of theirs issued. -/
def ownedByCompute : Owner → Bool
  | .desk _ _ _ => true
  | .stream _ _ => true
  | _ => false
/-- Completions of what the compute domain issued are discarded on arrival (R565). -/
def State.disown (s : State) : State :=
  let own := fun (r : SrcReq) => if ownedByCompute r.owner then { r with owner := .none } else r
  { s with fab := { s.fab with
      tt := s.fab.tt.filter (fun r => !ownedByCompute r.owner)
      pairs := s.fab.pairs.map (fun (x : Nat × Pair) =>
        if x.1 / 4096 = 0 then (x.1, { x.2 with sent := x.2.sent.map own, waiting := x.2.waiting.map own }) else x) } }
/-- Timetable pages at a compute reset: an ACTIVE page is DONE with reason RESET; LOADING and LOADED ones are POSTED again. -/
def State.resetPages (s : State) : State :=
  let t := s.endRun 5
  let t := t.forAll bothPages (fun s p =>
    if inRange 2 3 (s.pageState p.val) then (s.setPageState p 1 0).setPage p { s.page p with tt := none, pre := 0, stalled := 0 } else s)
  { t with bell := { t.bell with run := none, change := none, passed := none, ranged := none, empty := true, ovr := [] } }
/-- Compute (R567). -/
def State.resetComputeState (s : State) : State :=
  let t := (((s.resetStreams).resetPages).disown).forAll allPrisms (fun s p => (s.setPrism p { s.prism p with
    loading := none, plan := none, frames := [], arb := {} }).prismHold p none)
  let t := t.forAll (List.range 4) (fun s i => (s.setReady (readyWing i) false).setReady (readyPrism i) false)
  let t := t.zero 0xD0000000000 0x100000000
  { t with
    regs := t.regs.filter (fun e => decide (e.1 < rWingBlock) || keptWing e.1)
    desks := (t.desks.map (fun (e : Nat × Desk) => (e.1, ({ nextId := e.2.nextId } : Desk)))).filter (fun e => e.2 ≠ deskDefault e.1)
    rooms := []
    plan := []
    omu := { t.omu with queue := [] }
    xl := { t.xl with
      wing := [], pins := []
      walks := t.xl.walks.filter (fun (w : Walk) => match w.who with
        | .dep _ _ => true
        | _ => false) } }
/-- Switch and links (R568). -/
def State.resetSwitchState (s : State) : State :=
  let t := { s with fab := { s.fab with
    voq := [], entry := [], mc := [], mcWait := [], mcHeld := [], arb := [], wred := [], lfsr := []
    expect := s.fab.expect.filter (fun x => decide (4096 ≤ x.1))
    replies := s.fab.replies.filter (fun (r : Reply) => decide (r.eng ≠ 0))
    hold := [] } }
  let t := t.setRegF rMcStatus 32 11 0
  let t := t.dropPairs 0 (fun _ _ _ => stFenced)
  let t := match t.fab.ownMst with
    | some m => ({ t with fab := { t.fab with ownMst := none } }).tellOwner 0 m.f m.owner stFenced (failData m.f 0)
    | none => t
  let t := t.forAll (List.range 64) (fun s p => if s.elecState p = 7 ∨ s.elecState p = 8 then s else s.elecDown p)
  let t := t.forAll (List.range 64) (fun s i => s.optDown i)
  let t := { t with fab := { t.fab with voq := [], entry := [] } }
  { t with xl := { t.xl with cache := [], walks := t.xl.walks.map (fun (w : Walk) => if w.level = 0 then w else t.restartWalk w) } }
/-- Memory (R569, R561). -/
def State.resetMemoryState (s : State) : State :=
  let t := { s with
    coh := { s.coh with
      rsv := [], retries := [], lastAt := []
      slots := s.coh.slots.filter (fun e => decide (2 ^ 34 ≤ e.1) || (match e.2 with
        | some x => x.coll.isSome
        | none => false)) }
    g7m := { s.g7m with chan := s.g7m.chan.map (fun (x : Nat × Chan) => (x.1, { x.2 with rows := [], arb := {} })) } }
  let t := t.forAll (List.range 64) (fun s c => (s.setReady (readyCh c) false).setRegBit (chReg c 0) 0 false)
  t.forAll ((List.range 64).filter (fun i => (t.sealEntry i).2.2.2.2 = 2)) (fun s i => s.setSeal i 1)
/-! ### Requests (R566, R578, R579) -/

/-- A requested reset is served: its fence begins. -/
def State.serveReset (s : State) (d cause arg : Nat) : State :=
  ((({ s with rst := { s.rst with cur := some (d, cause) } }).noteReset d cause arg).fence d)
/-- With no reset in progress, the next one requested is served; one whose domain is fenced or in reset by then is merged. -/
def State.nextReset (s : State) : Nat → State
  | 0 => s
  | n + 1 =>
    match s.rst.cur, s.rst.queue with
    | none, (d, cause, arg) :: rest =>
      let t := { s with rst := { s.rst with queue := rest } }
      if t.inReset d || t.rst.held.getLsbD d then t.nextReset n else t.serveReset d cause arg
    | _, _ => s
def State.serveNext (s : State) : State := s.nextReset (s.rst.queue.length + 1)
/-- The reset in progress is held: the next one may be served. -/
def State.freeReset (s : State) : State := { s with rst := { s.rst with cur := none } }
/-- Step 4: the reset begins. -/
def State.beginReset (s : State) (d : Nat) : State :=
  let t := if d = 0 then s.resetComputeState else if d = 1 then s.resetSwitchState else s.resetMemoryState
  let t := t.setDomain d false true
  if d = 0 ∧ (t.thermalHeld ∨ t.outOfService) then t.freeReset.serveNext else t
/-- A watchdog reset of the same domain was performed within RST.ESC.WINDOW (R579). -/
def State.withheld (s : State) (d cause : Nat) : Bool :=
  (cause = 3 || cause = 4) && (match tget (fun _ => none) s.rst.wd d with
    | some t => decide (s.now ≤ t + s.escWindow)
    | none => false)
/-- Clear HELD for a domain. -/
def State.unhold (s : State) (d : Nat) : State :=
  let t := { s with rst := { s.rst with held := s.rst.held &&& ~~~(BitVec.ofNat 3 (2 ^ d)) } }
  t.setRegBit rRstStatus 12 (decide (t.rst.held ≠ 0))
/-- A reset of a domain is requested: merged, withheld, only reported, queued, or served. -/
def State.requestReset (s : State) (d cause arg : Nat) : State :=
  if d = 0 && s.outOfService then s
  else if (cause ≠ 0 && cause ≠ 5) && !s.regBit rRstCtl 0 then
    ((s.setRegBit rRstStatus (8 + d) true).logEvent 0 d cause arg).raise 14
  else if cause = 0 && s.rst.held.getLsbD d then
    let t := s.unhold d
    ({ t with rst := { t.rst with queue := t.rst.queue ++ [(d, cause, arg)] } }).serveNext
  else if s.fenced d || s.rst.queue.any (fun q => q.1 = d) then s
  else if s.withheld d cause then
    let t := ({ s with rst := { s.rst with held := s.rst.held ||| BitVec.ofNat 3 (2 ^ d) } }).setRegBit rRstStatus 12 true
    t.fence d
  else
    ({ s with rst := { s.rst with queue := s.rst.queue ++ [(d, cause, arg)] } }).serveNext

/-! ### The end of a fence and of a reset -/

/-- A fence ends: nothing is outstanding, or the drain timeout answers what is (R564). A held domain stays fenced (R579). -/
def State.endFence (s : State) (d : Nat) (expired : Bool) : State :=
  if d ≥ 3 || !s.fencing d || (s.rst.cur.map Prod.fst) ≠ some d then s
  else if expired then (s.answerAll d).beginReset d
  else if s.drained d then s.beginReset d else s
/-- The loader goes on: it begins to read a page that was POSTED while a fence held it (R37, R41, R574). -/
def State.loaderStarts (s : State) : State :=
  if s.loaderHeld then s
  else s.forAll bothPages (fun s p => if s.pageState p.val = 1 then s.setPageState p 2 0 else s)
/-- The last look at a domain whose reset has ended: bits of GLB.READY, links, the buffering of the internal ports, the loader,
and the next reset (R243, R562, R567, R568, R569). -/
def State.endReset (s : State) (d : Nat) : State :=
  let t := s.setDomain d false false
  let t := { t with rst := { t.rst with cur := if (t.rst.cur.map Prod.fst) = some d then none else t.rst.cur } }
  let t :=
    if d = 0 then
      t.forAll (List.range 4) (fun s i =>
        let u := s.setReady (readyWing i) true
        if u.regBit (rPrismStatus + 8 * i) 1 then u.setReady (readyPrism i) true else u)
    else if d = 1 then
      let t := t.forAll (List.range 12) (fun s i => s.applyBuffers (128 + i))
      (t.forAll (List.range 64) (fun s p => if s.elecState p = 0 then s.elecStart p else s)).forAll (List.range 64) (fun s i =>
        if s.optEnabled i then s.optStart i else s)
    else t.forAll ((List.range 64).filter (fun c => t.regBit (chReg c 0) 0)) (fun s c => s.setReady (readyCh c) true)
  t.loaderStarts.serveNext
/-- A memory reset ends once every channel has trained, or has FAILED, and no sealed region is being zeroed (R562, R569). -/
def State.memoryReady (s : State) : Bool :=
  (List.range 64).all (fun c => s.regF (chReg c 0) 0 2 ≠ 0) && (List.range 64).all (fun i => (s.sealEntry i).2.2.2.2 ≠ 1)
/-- RESET_COMPLETE. -/
def State.completeReset (s : State) (d : Nat) : State :=
  if d ≥ 3 || !s.inReset d || (d = 0 && (s.thermalHeld || s.outOfService)) || (d = 2 && !s.memoryReady) then s else s.endReset d

/-! ### The module domain (R570, R572, R562, R637) -/

/-- A register that lies in the Principal's flash (R493, R588). -/
def inFlash (a : Nat) : Bool := a = rPcieCtl || a = rLogHead || (decide (rRstLog ≤ a) && decide (a < rRstLog + 0x1000))
/-- What a reset of the module domain leaves: everything at reset, but for the flash, the DEP-7s, the pins and, where power was
kept, pooled memory with every sealed region zeroed (R561, R570). -/
def State.moduleReset (s : State) (keep : Bool) : State :=
  let t := s.forAll ((List.range 64).filter (fun i => (s.sealEntry i).2.2.2.2 ≠ 0)) (fun s i =>
    s.scrubRange (s.sealEntry i).1 (s.sealEntry i).2.1)
  { State.reset with
    pending := s.pending, now := s.now, freeCtr := s.freeCtr, out := s.out, hostMem := s.hostMem, deps := s.deps
    regs := s.regs.filter (fun e => inFlash e.1)
    mem := if keep then t.mem.filter (fun c => decide (c.1 < 2 ^ 40)) else []
    g7m := { bad := if keep then t.g7m.bad else [] }
    gb := { s.gb with pending := [], waits := [] }
    fab := { nextId := s.fab.nextId, pairs := s.fab.pairs.filter (fun x => decide (4096 ≤ x.1)),
             expect := s.fab.expect.filter (fun x => decide (4096 ≤ x.1)),
             replies := s.fab.replies.filter (fun (r : Reply) => decide (r.eng ≠ 0)),
             buckets := s.fab.buckets.filter (fun x => decide (16 ≤ x.1)) }
    xl := { jobs := s.xl.jobs.filter (fun (j : InvalJob) => decide (j.eng ≠ 0)), nextId := s.xl.nextId }
    bell := { pwr := s.bell.pwrPin, cool := s.bell.coolPin, pwrPin := s.bell.pwrPin, coolPin := s.bell.coolPin }
    host := { nextId := s.host.nextId }
    sec := { pairs := s.sec.pairs }
    rst := { down := true, since := s.now, tripped := s.rst.tripped, rail := s.rst.rail }
    prin := { prefer := s.prin.prefer, svn := s.prin.svn, loaded := s.prin.loaded, bank := s.prin.bank } }
/-- A rail other than VAUX stays below its tolerance while PERST_N is high (R637). -/
def State.railFault (s : State) (r : Rail) : State :=
  if s.rst.down || r = .vaux then s
  else
    let t := s.moduleReset (r ≠ .vddqG7)
    ({ t with rst := { t.rst with rail := some r } }).emit (.pin "PMB_ALERT_N" false)
/-- PERST_N is released, or power returns (R493, R572, R585, R637, R639, R644). -/
def State.startUp (s : State) (cold : Bool) : State :=
  let t := if cold then s.moduleReset false else s
  let fault := t.rst.rail.isSome
  let t := if fault then t.emit (.pin "PMB_ALERT_N" true) else t
  let trip := t.rst.tripped && cold
  let t := if trip then t.emit (.pin "THERMTRIP_N" true) else t
  let t := { t with
    rst := { since := t.now, tripped := t.rst.tripped && !trip }
    gb := { t.gb with powerOns := t.gb.powerOns + cold.toNat }
    host := { t.host with split := t.regBit rPcieCtl 0 }
    prin := { t.prin with bank := t.prin.prefer.getD Config.fwPreferred, fell := false, again := false }
    bell := { t.bell with own := t.ownCode } }
  let t := (t.setRegBit rExtStatus 0 t.bell.pwrPin).setRegBit rExtStatus 1 t.bell.coolPin
  let t := t.logEvent 0 3 (if cold || fault then 7 else 6) 0
  if trip then t.logEvent 3 3 8 0 else t

/-! ### Detectors (R577) -/

/-- Cells are queued for a port. -/
def State.queuedFor (s : State) (o : Nat) : Bool := s.fab.voq.any (fun q => q.out = o)
/-- Requests are queued at a channel. -/
def State.queuedAt (s : State) (c : Nat) : Bool :=
  let on := fun (l : Nat) => decide (l < 2 ^ 34) && channelOf (64 * l) = c
  s.coh.trans.any (fun t => t.lines.any on) || s.coh.waitq.any (fun w => (HomeWork.lines w).any on)
/-- An external port marked down by its watchdog starts its link again. -/
def State.restartPort (s : State) (p : Nat) : State :=
  let t := s.signalLost p
  if p < 64 then t.elecStart p else if t.optEnabled (p - 64) then t.optStart (p - 64) else t

/-! ### Temperature and power (R63, R425, R584, R585, R590 to R592, R642, R643) -/

/-- The hottest junction. -/
def junctionMax (t : JunctionTemps) : Nat :=
  (t.wings.toList ++ t.prisms.toList ++ t.engines.toList ++ t.gddr.toList).foldl max t.centroid
/-- THERM_WARN follows the hottest junction (R592). -/
def State.thermWarn (s : State) (hot : Nat) : State :=
  let warn := s.regF rTherm 0 8
  if warn ≤ hot ∧ !s.regBit rPrinStatus 1 then ((s.setRegBit rPrinStatus 1 true).logEvent 3 3 13 0).raise 15
  else if hot + 5 ≤ warn then s.setRegBit rPrinStatus 1 false else s
/-- A Prism above 105 °C holds no matrix until a roll call at which it reads 100 °C or less (R643). -/
def State.prismHeat (s : State) (p : Fin 4) (c : Nat) : State :=
  let x := s.prism p
  let s := s.setReg (prismReg p.val 0x28) (BitVec.ofNat 64 c)
  if 105 < c then (s.setPrism p { x with hot := true, loading := none, plan := none }).prismHold p none
  else if c ≤ 100 then s.setPrism p { x with hot := false } else s
/-- One round of the junction sensors. -/
def State.readJunctions (s : State) (t : JunctionTemps) : State :=
  let hot := junctionMax t
  let u := (s.setRegF rExtStatus 16 8 (min hot 255)).thermWarn hot
  let u := { u with rst := { u.rst with warm := BitVec.ofNat 16 ((List.range 16).foldl (fun n i => n + (if 85 ≤ t.gddr.toList.getD i 0 then 2 ^ i else 0)) 0) } }
  let u := ({ u with bell := { u.bell with hot := decide (100 ≤ hot) } }).causeChanged
  let u := (u.forAll allPrisms (fun s p => s.prismHeat p (t.prisms.toList.getD p.val 0))).dropUnserved
  if 110 ≤ hot ∧ !u.thermalHeld then
    let v := (u.setRegBit rRstStatus 14 true).requestReset 0 5 0
    if v.inReset 0 ∧ (v.rst.cur.map Prod.fst) = some 0 then v.freeReset.serveNext else v
  else u
/-- Every junction has stayed at or below 95 °C for 100 ms: the held compute reset completes (R584). -/
def State.releaseHold (s : State) : State :=
  if !s.thermalHeld || !s.inReset 0 then s
  else
    let t := s.setRegBit rRstStatus 14 false
    if t.outOfService then t else t.endReset 0
/-- THERMTRIP_N falls: every laser and transmitter goes off (R585). -/
def State.trip (s : State) : State :=
  let t := ({ s with rst := { s.rst with tripped := true } }).emit (.pin "THERMTRIP_N" false)
  let t := (t.forAll (List.range 64) (fun s p => s.elecDown p)).forAll (List.range 64) (fun s i => s.optDown i)
  t.forAll (List.range 64) (fun s i => s.setOpt i { s.opt i with waves := (s.opt i).waves.map (fun (w : Wave) => { w with lit := false }) })

/-- The mean power of a window (R590, R591, R611). While the Principal is absent the gating stays as it is (R574). -/
def State.powerWindow (s : State) (mean : Nat) : State :=
  if !s.ready 1 then s
  else
    let t := (s.setRegF rPower 0 16 mean).setRegF rPower 16 16 (max mean (s.regF rPower 16 16))
    let limit := t.regF rPcap 0 11
    let was := t.prin.capped
    let t := { t with prin := { t.prin with capped := decide (limit < mean) } }
    if limit < mean then
      let u := t.setRegBit rPrinStatus 2 true
      let u := { u with bell := { u.bell with gated := true } }
      if was ∧ !u.regBit rPrinStatus 3 then (u.setRegBit rPrinStatus 3 true).raise 15 else u
    else if mean * 100 < limit * 95 then (t.setRegBit rPrinStatus 2 false).setRegBit rPrinStatus 3 false
    else t

/-! ### The overrun limit and the router stall (R48, R577) -/

/-- The first cohort whose consecutive overruns have reached BELL.OVR_LIMIT. -/
def State.overLimit (s : State) : Option Nat := (s.bell.ovr.find? (fun e => decide (s.regF rOvrLimit 0 8 ≤ e.2))).map Prod.fst
/-- A cohort that has reached the limit at this Bell requests a compute reset. -/
def State.limitReset (s : State) : State :=
  match s.overLimit with
  | some c => s.requestReset 0 1 c
  | none => s

/-- A reset request row: one by a register write is a BAR0 access (R543, R566). -/
def State.resetRow (s : State) (d : Nat) (cause : ResetCause) : State :=
  if cause = .hostWrite then s.bar0 (fun s => s.requestReset d 0 0) else s.requestReset d (causeCode cause) 0

/-! ### Meanings -/

/-- The Bell is withheld: the frame that withholds it and the edge are spent (R52, R58, R62). -/
def State.bellWithheld (s : State) : State :=
  { s with bell := { s.bell with next := if (s.bell.next.map BellInfo.halt) = some true then none else s.bell.next, edge := false } }
/-- BELL (R30, R35, R47, R48, R58, R60 to R62). -/
def execBell (s : State) : Host.Outcome State Fault Refusal :=
  .next (if !s.bellMayRing then s
    else match s.ringing with
      | some b => (s.ring b).limitReset
      | none => s.bellWithheld)
/-- ROUTER_STALL (R276, R577): CR.FAULT.ROUTER_STALL is set, and a compute reset requested. -/
def execRouterStall (w : Fin 4) (c : Fin 300) (s : State) : Host.Outcome State Fault Refusal :=
  .next ((s.classFault (300 * w.val + c.val) 5).requestReset 0 2 (300 * w.val + c.val))
/-- PERST_N (R570): the module reset, at once. -/
def execPerstN (s : State) : Host.Outcome State Fault Refusal := .next (s.moduleReset true)
/-- LOSS_OF_POWER (R562): nothing in pooled memory survives. -/
def execLossOfPower (s : State) : Host.Outcome State Fault Refusal := .next (s.moduleReset false)
/-- POWER_ON (R572). -/
def execPowerOn (cold : Bool) (s : State) : Host.Outcome State Fault Refusal := .next (if cold || s.rst.down || s.sec.booted = 0 then s.startUp cold else s)
/-- WING_SELF_TEST_DONE (R572): the Wing's memories are zero, and it enters service. -/
def execWingSelfTestDone (w : Fin 4) (s : State) : Host.Outcome State Fault Refusal :=
  .next (if s.rst.down || s.recovery || s.fenced 0 || s.ready (readyWing w.val) then s
    else ((s.zero (bbBase (300 * w.val)) 0x8000000).zero (slateBase (300 * 256 * w.val)) 0x40000000).setReady (readyWing w.val) true)
/-- PRISM_POWER_ON_LOCK (R572, R575): the Prism locks and can take a matrix. -/
def execPrismPowerOnLock (p : Fin 4) (s : State) : Host.Outcome State Fault Refusal :=
  .next (if s.rst.down || s.recovery || s.fenced 0 then s else (s.setRegBit (prismStat p) 1 true).setReady (readyPrism p.val) true)
/-- RAIL_FAULT (R637). -/
def execRailFault (rail : Rail) (s : State) : Host.Outcome State Fault Refusal := .next (s.railFault rail)
/-- RESET_COMPUTE (R562, R564, R578). -/
def execResetCompute (cause : ResetCause) (s : State) : Host.Outcome State Fault Refusal := .next (s.resetRow 0 cause)
/-- RESET_SWITCH_LINKS (R562, R564, R578). -/
def execResetSwitchLinks (cause : ResetCause) (s : State) : Host.Outcome State Fault Refusal := .next (s.resetRow 1 cause)
/-- RESET_MEMORY (R562, R564, R578). -/
def execResetMemory (cause : ResetCause) (s : State) : Host.Outcome State Fault Refusal := .next (s.resetRow 2 cause)
/-- FENCE_DRAINED (R564). -/
def execFenceDrained (d : Domain) (s : State) : Host.Outcome State Fault Refusal := .next (s.endFence (domainCode d) false)
/-- DRAIN_TIMEOUT_EXPIRY (R564). -/
def execDrainTimeoutExpiry (d : Domain) (s : State) : Host.Outcome State Fault Refusal := .next (s.endFence (domainCode d) true)
/-- RESET_COMPLETE (R562). -/
def execResetComplete (d : Domain) (s : State) : Host.Outcome State Fault Refusal := .next (s.completeReset (domainCode d))
/-- PORT_WATCHDOG (R577): the port is marked down and starts its link; no domain is reset. -/
def execPortWatchdog (p : Fin 128) (s : State) : Host.Outcome State Fault Refusal :=
  .next (if s.portUp p.val && s.queuedFor p.val then s.restartPort p.val else s)
/-- INTERNAL_PORT_WATCHDOG (R577). -/
def execInternalPortWatchdog (p : Fin 12) (s : State) : Host.Outcome State Fault Refusal :=
  .next (if s.queuedFor (128 + p.val) then s.requestReset 1 3 (128 + p.val) else s)
/-- HOME_WATCHDOG (R577). -/
def execHomeWatchdog (ch : Fin 64) (s : State) : Host.Outcome State Fault Refusal :=
  .next (if s.queuedAt ch.val then s.requestReset 2 4 ch.val else s)
/-- PRINCIPAL_WATCHDOG (R577): the cores restart from stage 2. -/
def execPrincipalWatchdog (s : State) : Host.Outcome State Fault Refusal :=
  .next (if s.ready 1 then
      (({ s with prin := { s.prin with again := true } }).setReady 1 false).logEvent 3 3 9 0
    else s)
/-- JUNCTION_SENSOR_READ (R63, R425, R584, R592, R642, R643). -/
def execJunctionSensorRead (temps : JunctionTemps) (s : State) : Host.Outcome State Fault Refusal := .next (s.readJunctions temps)
/-- THERMAL_HOLD_RELEASE (R584). -/
def execThermalHoldRelease (s : State) : Host.Outcome State Fault Refusal := .next s.releaseHold
/-- THERMTRIP (R585). -/
def execThermtrip (s : State) : Host.Outcome State Fault Refusal := .next s.trip
/-- HEARTBEAT (R586). -/
def execHeartbeat (s : State) : Host.Outcome State Fault Refusal := .next (s.setRegBit rExtStatus 2 false)
/-- HEARTBEAT_LOST (R586). -/
def execHeartbeatLost (s : State) : Host.Outcome State Fault Refusal :=
  .next (if s.regBit rExtStatus 2 then s else ((s.setRegBit rExtStatus 2 true).logEvent 3 3 10 0).raise 15)
/-- PCAP_WINDOW (R590, R591). -/
def execPcapWindow (meanW : BitVec 16) (s : State) : Host.Outcome State Fault Refusal := .next (s.powerWindow meanW.toNat)

end Sys2Proof.Machine
end

