-- ==== Sys2Proof/Machine/Principal.lean ====
section
/-! DEFINITION. The Principal: boot, mailbox, Gradebook and firmware commands ("Principal, Gradebook and Register Reference", R593 to
R605; R446, R541 to R544, R574, R575). -/

namespace Sys2Proof.Machine

/-! ### The end of a command (R594, R605) -/

/-- What waited for a Gradebook command to end: retirements, then recalibrations of ports. -/
def State.gbFlush (s : State) : State :=
  let t := ({ s with gb := { s.gb with waits := [] } }).forAll s.gb.waits State.retireNow
  t.forAll ((List.range 64).filter (fun i => (t.opt i).recalWait)) (fun s i =>
    (s.setOpt i { s.opt i with recalWait := false }).recalStart i)
/-- PRIN.RESULT holds the outcome, BUSY reads 0 and PRIN_MAIL is raised. -/
def State.mailEnd (s : State) (code : Nat) (value : Option Nat) : State :=
  let t := s.setRegF rPrinResult 0 8 code
  let t := match value with
    | some v => t.setRegF rPrinResult 32 32 v
    | none => t
  ((t.setRegBit rPrinStatus 0 false).raise 13).gbFlush
/-- A free number of n bytes, for a RESULT.VALUE that the spec does not state. -/
def State.freeNum (s : State) (n : Nat) : Nat × State :=
  (leNat ((List.range n).map (fun i => Config.freeByte (s.freeCtr + i))), { s with freeCtr := s.freeCtr + n })
/-- End with an unstated VALUE. -/
def State.mailFail (s : State) (code : Nat) : State :=
  let (v, t) := s.freeNum 4
  t.mailEnd code (some v)
/-- PRIN.ARGk. -/
def State.arg (s : State) (k : Nat) : Word := s.reg (rPrinArg + 8 * k)

/-- A region lies in general pooled memory. -/
def State.generalRange (s : State) (a n : Nat) : Bool :=
  decide (a + n ≤ 2 ^ 40) && !meetsRegion s.ovfRegion a n && !meetsRegion s.ttRegion a n
/-- The Principal can reach pooled memory. -/
def State.poolServed (s : State) : Bool := !s.fenced 2 && s.channelsReady

/-! ### Gradebook images (R598, R599, R602) -/

/-- Number of entries of a kind. -/
def gbCount (kind : Nat) : Nat := if kind = 1 ∨ kind = 2 then 2048 else if kind = 3 then 4 else if kind = 4 then 272 else if kind = 5 then 64 else 0
/-- Every object of the Gradebook, by kind and index. -/
def gbObjects : List (Nat × Nat) := [1, 2, 3, 4, 5].flatMap (fun k => (List.range (gbCount k)).map (fun i => (k, i)))
/-- An entry as the flash holds it. -/
def State.flashEntry (s : State) (kind idx : Nat) : GbEntry :=
  (s.gbEntry kind idx).getD { origin := 0, lesson := 0, powerOn := 0, body := Config.factoryBody kind idx }
/-- A string padded to a multiple of 8 bytes. -/
def pad8 (l : List Byte) : List Byte := l ++ List.replicate ((8 - l.length % 8) % 8) 0
/-- Header and body of an entry. -/
def entryBytes (kind idx : Nat) (e : GbEntry) : List Byte :=
  let h := leBytes 2 kind ++ leBytes 2 idx ++ leBytes 1 e.origin ++ leBytes 3 0 ++ leBytes 4 e.body.length ++ leBytes 4 (crc32 e.body).toNat
    ++ leBytes 8 e.lesson.toNat ++ leBytes 4 e.powerOn
  pad8 (h ++ leBytes 4 (crc32 h).toNat ++ e.body)
/-- The exported image. -/
def State.gbImage (s : State) : List Byte :=
  let es := gbObjects.flatMap (fun x => entryBytes x.1 x.2 (s.flashEntry x.1 x.2))
  let l := leBytes 4 1 ++ leBytes 4 gbObjects.length ++ leBytes 8 Config.deviceId.toNat ++ leBytes 8 s.lesson.toNat
    ++ leBytes 8 (128 + es.length) ++ leBytes 32 0 ++ es
  l ++ Config.identitySign (Config.sha256 l)
/-- GB_EXPORT (R601, R602). -/
def State.gbExport (s : State) : State :=
  let a := (s.arg 0).toNat
  if a % 64 ≠ 0 then s.mailFail 2
  else if !s.poolServed then s.mailFail 7
  else
    let im := s.gbImage
    if (s.arg 1).toNat < im.length ∨ !s.generalRange a im.length then s.mailFail 2
    else (((s.poke a im).setRegBit rCalStatus 16 true).mailEnd 0 (some im.length))

/-- Read n entries of an image, each with its kind and index; none where one fails its check (R599, R603). -/
def readEntries : Nat → List Byte → Option (List (Nat × Nat × List Byte))
  | 0, _ => some []
  | n + 1, l =>
    let len := leAt l 8 4
    let body := (l.drop 32).take len
    let kind := leAt l 0 2
    let idx := leAt l 2 2
    if l.length < 32 + len || leAt l 28 4 ≠ (crc32 (l.take 28)).toNat || leAt l 12 4 ≠ (crc32 body).toNat || gbCount kind ≤ idx then none
    else (readEntries n (l.drop (32 + len + (8 - (32 + len) % 8) % 8))).map (fun r => (kind, idx, body) :: r)
/-- Install an imported entry (R603, R604). A RETIRED laser stays RETIRED. -/
def State.gbInstall (s : State) (kind idx : Nat) (body : List Byte) : State :=
  if kind = 1 then
    let r := tget (fun _ => false) s.gb.retired idx || Config.bodyRetired body
    let t := s.gbWrite 1 idx 3 (Config.laserBody body none r)
    { t with gb := { t.gb with
        retired := tput (fun _ => false) t.gb.retired idx r
        base := tput (fun _ => none) t.gb.base idx (some (Config.bodyBaseline body)) } }
  else s.gbWrite kind idx 3 body
/-- Checks of GB_IMPORT in their order: the code of the first that fails, or the entries (R603). -/
def State.importCheck (s : State) : Nat ⊕ List (Nat × Nat × List Byte) :=
  let a := (s.arg 0).toNat
  let n := (s.arg 1).toNat
  if a % 64 ≠ 0 || n < 128 || !s.generalRange a n then .inl 2
  else if !s.poolServed then .inl 7
  else
    let l := s.peek a n
    if leAt l 8 8 ≠ Config.deviceId.toNat then .inl 3
    else if !Config.identityVerify (Config.sha256 (l.take (n - 64))) (l.drop (n - 64)) then .inl 4
    else if s.peekBad a n || leAt l 0 4 ≠ 1 || leAt l 24 8 ≠ n then .inl 5
    else match readEntries (leAt l 4 4) ((l.take (n - 64)).drop 64) with
      | none => .inl 5
      | some es => .inr es
/-- GB_IMPORT (R603 to R605). -/
def State.gbImport (s : State) : State :=
  match s.importCheck with
  | .inl c => s.mailEnd c (some 0)
  | .inr es =>
    let sel := fun (k : Nat) => decide (1 ≤ k) && (s.arg 2).getLsbD (k - 1)
    let picked := es.filter (fun e => sel e.1)
    let t := s.forAll picked (fun s e => s.gbInstall e.1 e.2.1 e.2.2)
    let t := if sel 3 then
        ({ t with gb := { t.gb with pending := [] }, omu := { t.omu with images := [] } }).setRegBit rCalStatus 10 false
      else t
    t.mailEnd 0 (some picked.length)
/-- Commit what is pending to the flash: the entries written, and the state (R600). -/
def State.commit (s : State) : Nat × State :=
  let l := s.gb.pending.filterMap (fun e => e.2.map (fun x => (e.1, x)))
  let t := s.forAll l (fun s e => s.gbWrite 3 e.1 e.2.origin e.2.body)
  (l.length, ({ t with gb := { t.gb with pending := [] } }).setRegF rCalStatus 8 5 0)
/-- GB_COMMIT. -/
def State.gbCommit (s : State) : State :=
  let r := s.commit
  r.2.mailEnd 0 (some r.1)

/-! ### Firmware (R542 to R544, R597) -/

/-- The signature of an image verifies under a key that is not revoked. -/
def imageSignedOk (im : List Byte) : Bool :=
  !Config.keyRevoked (Config.imageKey im % 4)
    && Config.vendorVerify (Config.imageKey im % 4) (Config.sha256 (Config.imageSigned im)) (Config.imageSignature im)
/-- An image is not refused (R542). -/
def State.imageOk (s : State) (im : List Byte) : Bool := imageSignedOk im && decide (s.svn.toNat ≤ (Config.imageSvn im).toNat)
/-- Bank that the ROM boots first (R543, R611). -/
def State.preferred (s : State) : Bool := s.prin.prefer.getD Config.fwPreferred
def noByte (_ : Nat) : Option Byte := none
/-- Bytes of PRIN.BUF. -/
def State.bufByte (s : State) (i : Nat) : Byte := BitVec.ofNat 8 (s.tabF (rPrinBuf + i) 1)
/-- The image received, up to its last byte; a byte never received is what the flash held. -/
def State.received (s : State) : List Byte :=
  let n := s.prin.image.foldl (fun m e => max m (e.1 + 1)) 0
  (List.range n).map (fun i => (tget noByte s.prin.image i).getD (Config.freeByte (s.freeCtr + i)))
/-- FW_CHUNK (R597). -/
def State.fwChunk (s : State) : State :=
  let off := (s.arg 0).toNat
  let n := (s.arg 1).toNat
  if !inRange 1 32768 n then s.mailFail 2
  else
    let img := (List.range n).foldl (fun t i => tput noByte t (off + i) (some (s.bufByte i))) s.prin.image
    let t := { s with prin := { s.prin with image := img } }
    let count := some img.length
    if !(s.arg 2).getLsbD 0 then t.mailEnd 0 count
    else
      let im := t.received
      let bank := !t.prin.bank
      let ok := t.imageOk im
      let u := { t with
        freeCtr := t.freeCtr + im.length
        prin := { t.prin with
          image := [], prefer := some (if ok then bank else t.prin.bank)
          loaded := tput (fun _ => none) t.prin.loaded bank.toNat (some im) } }
      u.mailEnd (if ok then 0 else if !imageSignedOk im then 4 else 5) count
/-- FW_PREFER (R595). -/
def State.fwPrefer (s : State) : State :=
  let b := (s.arg 0).getLsbD 0
  ({ s with prin := { s.prin with prefer := some b } }).mailEnd 0 (some b.toNat)
/-- SVN_RAISE (R544, R595, R596). -/
def State.svnRaise (s : State) : State :=
  if (s.arg 0).toNat ≤ s.svn.toNat then s.mailEnd 7 (some s.svn.toNat)
  else ({ s with prin := { s.prin with svn := some (s.arg 0) } }).mailEnd 0 (some (s.arg 0).toNat)

/-! ### The mailbox (R574, R594, R595) -/

/-- Run a command that waited, or a mailbox command that has been accepted. In recovery only FW_CHUNK is accepted. -/
def State.runPrin (s : State) : PrinCmd → State
  | .attest c => s.secAttest c
  | .importGo => s.secImport
  | .lockerClear k => s.clearSlot k
  | .sealCreate i base len cohort slot => s.sealCreate i base len cohort slot
  | .teardown c => s.teardown c
  | .gbExport => if s.recovery then s.mailFail 7 else s.gbExport
  | .gbImport => if s.recovery then s.mailFail 7 else s.gbImport
  | .gbCommit => if s.recovery then s.mailFail 7 else s.gbCommit
  | .fwChunk => s.fwChunk
  | .fwPrefer => if s.recovery then s.mailFail 7 else s.fwPrefer
  | .svnRaise => if s.recovery then s.mailFail 7 else s.svnRaise
  | .unknown => s.mailEnd 7 none
/-- A write of PRIN.CMD. -/
def State.mail (s : State) (i : PrinCmd) : State :=
  if s.regBit rPrinStatus 0 then s.setRegBit rPrinStatus 7 true
  else
    let t := s.setRegBit rPrinStatus 0 true
    if t.ready 1 || t.recovery then t.runPrin i else ({ t with prin := { t.prin with waits := t.prin.waits ++ [i] } }).setRegBit rSecStatus 8 true

/-! ### Boot (R541 to R543, R572, R577) -/

/-- The Principal firmware runs: its bit is set, and what waited for it is done. -/
def State.principalUp (s : State) : State :=
  let l := s.prin.waits
  let t := ({ s with prin := { s.prin with waits := [], again := false } }).setReady 1 true
  (if l.isEmpty then t else t.setRegBit rSecStatus 8 false).forAll l State.runPrin
/-- Every port starts its link (R572). -/
def State.startLinks (s : State) : State :=
  (s.forAll (List.range 64) (fun s p => s.elecStart p)).forAll (List.range 64) (fun s i => if s.optEnabled i then s.optStart i else s)
/-- Extend a stage's measurement register, once per boot (R541). -/
def State.measure (s : State) (k : Nat) (digest : List Byte) : State :=
  let a := rMeas + 32 * k
  ({ s with sec := { s.sec with booted := s.sec.booted ||| BitVec.ofNat 5 (2 ^ k) } }).putRegs a 4 (Config.sha256 (s.regBytes a 4 ++ digest))
/-- A stage of the preferred bank is refused: the other bank is booted from stage 1; if both fail, recovery (R543). -/
def State.refuseBank (s : State) : State :=
  if s.prin.fell then s.setRegBit rRstStatus 13 true
  else
    let t := ({ s with sec := { s.sec with booted := s.sec.booted &&& 1 }, prin := { s.prin with fell := true, bank := !s.prin.bank } })
    t.forAll (List.range 12) (fun s i => s.setReg (rMeas + 32 + 8 * i) 0)
/-- The next boot stage is verified and measured before it runs. -/
def State.bootStage (s : State) (k : Nat) (im : List Byte) : State :=
  let done := fun (j : Nat) => s.sec.booted.getLsbD j
  if s.recovery then s
  else if s.prin.again && k = 2 then (if s.imageOk im then s.principalUp else s)
  else if done k || (decide (0 < k) && !done (k - 1)) then s
  else if k = 0 then s.measure 0 Config.romDigest
  else if k = 4 then s.measure 4 (Config.sha256 im)
  else if !s.imageOk im then s.refuseBank
  else
    let t := s.measure k (Config.sha256 im)
    if k = 3 then (t.startLinks).principalUp else t

/-! ### Meanings -/

/-- BOOT_STAGE_VERIFIED (R541 to R543, R572). -/
def execBootStageVerified (stage : Fin 5) (image : List Byte) (s : State) : Host.Outcome State Fault Refusal :=
  .next (s.bootStage stage.val image)
/-- GB_EXPORT (R601, R602). -/
def execGbExport (s : State) : Host.Outcome State Fault Refusal := .next (s.mail .gbExport)
/-- GB_IMPORT (R603, R604). -/
def execGbImport (s : State) : Host.Outcome State Fault Refusal := .next (s.mail .gbImport)
/-- GB_COMMIT (R600). -/
def execGbCommit (s : State) : Host.Outcome State Fault Refusal := .next (s.mail .gbCommit)
/-- FW_CHUNK (R597). -/
def execFwChunk (s : State) : Host.Outcome State Fault Refusal := .next (s.mail .fwChunk)
/-- FW_PREFER (R595). -/
def execFwPrefer (s : State) : Host.Outcome State Fault Refusal := .next (s.mail .fwPrefer)
/-- SVN_RAISE (R544). -/
def execSvnRaise (s : State) : Host.Outcome State Fault Refusal := .next (s.mail .svnRaise)
/-- PRIN_CMD_UNKNOWN (R595). -/
def execPrinCmdUnknown (_ : Byte) (s : State) : Host.Outcome State Fault Refusal := .next (s.mail .unknown)
/-- CAL_COMMIT_TIMER (R600): the Principal commits what is pending. -/
def execCalCommitTimer (s : State) : Host.Outcome State Fault Refusal :=
  .next (if s.ready 1 && !s.regBit rPrinStatus 0 then s.commit.2 else s)
/-- PRISM_RECALIBRATION (R446, R600, R605): over one whole Lesson of a Prism that the timetable does not assign, at most one
Prism per Lesson, and not while a Gradebook command runs. Its tables await the next commit. -/
def execPrismRecalibration (p : Fin 4) (s : State) : Host.Outcome State Fault Refusal :=
  .next (if (!s.strict && (s.planOf p).isSome) || s.regBit rPrinStatus 0 || s.omu.recalAt = some s.lesson then s
    else
      let x := s.prism p
      let back := s.prismDown p && !s.fenced 0
      let (n, t) := (s.setPrism p { x with unlocked := false, errors := 0 }).draw
      let e : GbEntry := { origin := 2, lesson := t.lesson, powerOn := t.gb.powerOns, body := Config.prismBody (t.gbBody 3 p.val) n }
      let t := { t with omu := { t.omu with recalAt := some s.lesson }, gb := { t.gb with pending := tput (fun _ => none) t.gb.pending p.val (some e) } }
      let t := ((t.setRegBit (prismStat p) 3 false).setRegBit (prismStat p) 2 false).setRegBit (prismStat p) 1 true
      let t := if back then t.setReady (readyPrism p.val) true else t
      (t.setRegF rCalLast (16 * p.val) 16 s.lesson.toNat).setRegBit rCalStatus 10 true)

end Sys2Proof.Machine
end

