-- ==== Sys2Proof/Machine/RegWrite.lean ====
section
/-! DEFINITION. BAR0 as one address space: what a read of each register shows, and what a write of each register does (R606 to
R626, R645, R653, R654), by the host or through the register mirror (R78). -/

namespace Sys2Proof.Machine

/-! ### Reads: registers whose content the module computes -/

/-- Four-byte table entries of one 8-byte word. -/
def pairOf (lo hi : Nat) : Word := BitVec.ofNat 64 (lo % 2 ^ 32 + hi % 2 ^ 32 * 2 ^ 32)
/-- Four two-byte table entries of one 8-byte word. -/
def quadOf (f : Nat → Nat) : Word :=
  BitVec.ofNat 64 (f 0 % 2 ^ 16 + f 1 % 2 ^ 16 * 2 ^ 16 + f 2 % 2 ^ 16 * 2 ^ 32 + f 3 % 2 ^ 16 * 2 ^ 48)
/-- BUF_USED and WRED_AVG of a port. -/
def State.readSwitch (s : State) (p off : Nat) : Word :=
  if off = swBufUsed then quadOf (s.minUsed p)
  else if off = swWredAvg then pairOf (s.wredAvg p 1 / 65536) (s.wredAvg p 2 / 65536)
  else s.reg (swReg p off)
/-- Factory kinds of CAL.STATUS (R612). -/
def State.calStatus (s : State) : Word :=
  let fact := fun k => (List.range (gbCount k)).all (fun i => (s.gbEntry k i).all (fun e => e.origin = 0))
  s.reg rCalStatus ||| BitVec.ofNat 64 ((List.range 5).foldl (fun n k => n + (fact (k + 1)).toNat * 2 ^ k) 0)
/-- A word of CAL.WINDOW (R612); how the flash lays the entries out is its own. -/
def State.calWindow (s : State) (off : Nat) : Word :=
  let es := gbObjects.flatMap (fun x => entryBytes x.1 x.2 (s.flashEntry x.1 x.2))
  BitVec.ofNat 64 (leNat ((List.range 8).map (fun i => Config.flashByte es ((s.reg rCalWinBase).toNat + off + i))))
/-- COL.ACTIVE: the context of index i, in words of 8 bytes (R355). -/
def State.collShow (s : State) (i k : Nat) : Word :=
  match s.collCtx i with
  | none => 0
  | some c =>
    let st : Nat := match c.st with
      | .reserved => 1
      | .launched => 2
      | .closed => 3
      | .done => 4
      | .failed => 5
    if k = 0 then BitVec.ofNat 64 (c.desc.id.toNat + st * 2 ^ 32 + c.status.toNat * 2 ^ 40 + c.cause.toNat * 2 ^ 48)
    else if k = 1 then BitVec.ofNat 64 c.slots else 0
/-- PCIE.STATUS: A up in bit 0, B up in bit 1, LINK_LOST in bit 2, buffer full in bit 3, and each link's shape. -/
def State.pcieStatus (s : State) : Word :=
  s.reg rPcieStatus ||| BitVec.ofNat 64 ((s.ready 0).toNat + s.host.linkB.toNat * 2 + (decide (2 ^ 20 ≤ s.bufBytes)).toNat * 8)
/-- PRIN.FW (R611). -/
def State.fwShow (s : State) : Word :=
  let v := match tget (fun _ => none) s.prin.loaded s.prin.bank.toNat with
    | some im => Config.imageVersion im
    | none => Config.fwVersion s.prin.bank
  BitVec.ofNat 64 (v.toNat * 2 ^ 32 + s.prin.bank.toNat * 2 + s.preferred.toNat)

/-- Reads of the GLB, BELL, RST and PRIN blocks. -/
def State.readCore (s : State) (a : Nat) : Word := if a = rPrinFw then s.fwShow else s.reg a
/-- Reads of the SEC block. -/
def State.readSec (s : State) (a : Nat) : Word :=
  if a = rSvn then s.svn
  else if a = rDeviceId then Config.deviceId
  else if rCert ≤ a ∧ a < rCert + 0x4000 then Config.certWord ((a - rCert) / 8)
  else s.reg a
/-- Reads of the XLT, FLT, COH and COL blocks. -/
def State.readMem (s : State) (a : Nat) : Word :=
  if a = rFltStatus then s.reg a ||| BitVec.ofNat 64 (s.faultFull).toNat
  else if a = rFltSaveUsed then BitVec.ofNat 64 (s.saveRecords.filter (fun i => s.saveState i ≠ 0)).length
  else if a = rLostCount then BitVec.ofNat 64 s.coh.lost.length
  else if a = rSlotsFree then BitVec.ofNat 64 (4096 - s.coh.slots.length)
  else if a = rSlotsColl then BitVec.ofNat 64 (s.coh.slots.filter (fun e => (e.2.map (fun (x : Slot) => x.coll.isSome)).getD false)).length
  else if a = rSlotsRed then BitVec.ofNat 64 (s.coh.slots.filter (fun e => (e.2.map (fun (x : Slot) => x.coll.isNone)).getD false)).length
  else if rColActive ≤ a ∧ a < rColActive + 0x800 then s.collShow ((a - rColActive) / 32) ((a - rColActive) / 8 % 4)
  else s.reg a
/-- Reads of the SWC block. -/
def State.readSwc (s : State) (a : Nat) : Word :=
  if a = rSharedFree then BitVec.ofNat 64 s.sharedFree
  else if a = rOvfUsed then BitVec.ofNat 64 s.ovfUsed
  else if rWinOut ≤ a ∧ a < rWinOut + 0x4000 then
    (let d := (a - rWinOut) / 4
     pairOf (s.pair 0 d).charged (s.pair 0 (d + 1)).charged)
  else if rWinSize ≤ a ∧ a < rWinSize + 0x2000 then quadOf (fun i => s.winSize 0 ((a - rWinSize) / 2 + i))
  else if rIntPort ≤ a ∧ a < rIntPort + 0x600 then s.readSwitch (128 + (a - rIntPort) / 0x80) ((a - rIntPort) % 0x80)
  else s.reg a
/-- Reads of the G7M, OMU, PCIE and CAL blocks. -/
def State.readUnits (s : State) (a : Nat) : Word :=
  if a = rImages then pairOf s.omu.images.length s.omu.decomps
  else if a = rPcieStatus then s.pcieStatus
  else if a = rCalStatus then s.calStatus
  else if rCalWindow ≤ a ∧ a < rCalWindow + 0x10000 then s.calWindow (a - rCalWindow)
  else s.reg a
/-- Reads of a PORT block (R625). -/
def State.readPort (s : State) (a : Nat) : Word :=
  let n := (a - rPortBlock) / 0x10000
  let off := (a - rPortBlock) % 0x10000
  if 0x100 ≤ off ∧ off < 0x178 then s.readSwitch n (off - 0x100)
  else if 64 ≤ n ∧ 0x200 ≤ off ∧ off < 0x600 ∧ off % 0x40 = 8 then
    (let k := (off - 0x200) / 0x40
     let b := (s.laserBase (n - 64) k (s.onSpare (n - 64) k)).getD 0
     BitVec.ofNat 64 (fget (s.reg a) 0 16 + (b % 2 ^ 16).toNat * 2 ^ 16))
  else s.reg a
/-- Reads of a WING block, which read 0 while the compute domain is in reset (R562, R626). -/
def State.readWing (s : State) (a : Nat) : Word :=
  let w := (a - rWingBlock) / 0x400000
  let off := (a - rWingBlock) % 0x400000
  let sum := fun o => (List.range 300).foldl (fun n c => n + (s.reg (crReg w c o)).toNat) 0
  if s.inReset 0 || decide (rWingBlock + 0x1000000 ≤ a) then 0
  else if off < 300 * 0x1000 then
    (let room := 300 * w + off / 0x1000
     if off % 0x1000 = crSpillUsed then BitVec.ofNat 64 (s.spillValid room).length
     else if off % 0x1000 = crPlanRange then
       (match s.activeRange with
        | some r => BitVec.ofNat 64 (r.1 + r.2 * 2 ^ 16)
        | none => 0)
     else s.reg a)
  else if 0x200000 ≤ off ∧ off < 0x200028 then
    (let c := (off - 0x200000) * 8
     BitVec.ofNat 64 ((List.range 64).foldl (fun n i => n + (decide (c + i < 300) && (s.reg (crReg w (c + i) crFault) &&& s.reg (crReg w (c + i) crFaultEn)) ≠ 0).toNat * 2 ^ i) 0))
  else if off = 0x200040 then BitVec.ofNat 64 (sum crRoleDrop)
  else if off = 0x200048 then BitVec.ofNat 64 (sum crOvrCount)
  else 0
/-- The counters of a port's pattern checkers are brought up to date before they are read (R482). -/
def State.settleRead (s : State) (a : Nat) : State :=
  if rPortBlock ≤ a ∧ a < rPortBlock + 64 * 0x10000 ∧ inRange 0x200 0x2FF ((a - rPortBlock) % 0x10000) then
    s.countBits ((a - rPortBlock) / 0x10000) (((a - rPortBlock) % 0x10000 - 0x200) / 0x40)
  else s
/-- The 8-byte register at an address, as a read shows it (R606). -/
def State.readReg (s : State) (a : Nat) : Word :=
  if a < 0x40000 then s.readCore a
  else if a < 0x50000 then s.readSec a
  else if a < 0x100000 then s.readMem a
  else if a < 0x200000 then s.readSwc a
  else if a < rPortBlock then s.readUnits a
  else if a < rWingBlock then s.readPort a
  else s.readWing a

/-! ### Writes -/

/-- What a write of `v` under the byte mask `m` presents to a register: its RW fields complete, its other fields as covered (R645). -/
def State.merged (s : State) (a : Nat) (v m : Word) : Word :=
  let sp := regSpec a
  (s.reg a &&& sp.rw &&& ~~~m) ||| (v &&& m &&& (sp.rw ||| sp.w1c ||| sp.wo))
/-- The write covers the register's low four bytes, so it starts what it may start (R645). -/
def coversLow (m : Word) : Bool := m.getLsbD 0
/-- Write a register's fields where they pass a check; otherwise do nothing but report. -/
def State.writeFields (s : State) (a : Nat) (v m : Word) (ok : Word → Bool) (report : State → State) : State :=
  if ok (s.merged a v m) then s.writePlain a v m else report s
/-- The write is ignored. -/
def ignored (s : State) : State := s
/-- Keep a value in a write-only register (R8). -/
def State.keepLatch (s : State) (a : Nat) (v m : Word) : State :=
  { s with latch := tput (fun _ => 0) s.latch a ((s.latchAt a &&& ~~~m) ||| (v &&& m)) }

/-- The GLB block (R333, R356, R357, R536 to R539, R609). -/
def State.writeGlb (s : State) (a : Nat) (v m : Word) : State :=
  let w := s.merged a v m
  if a = rGlbNode then s.writeNode w
  else if a = rGlbMode then
    (let t := if w.getLsbD 8 then s.setRegBit rGlbMode 8 false else s
     if coversLow m then { t with bell := { t.bell with strictNext := some (w.getLsbD 0) } } else t)
  else if (rPortPartStage ≤ a ∧ a < rPartSwap) ∨ a = rPartSwap then (s.writePlain a v m).partSwapFree
  else if a = rPortScrub then (if coversLow m then s.writeScrub w else s)
  else if rCohort ≤ a ∧ a % 32 = 24 then (if coversLow m then s.writeCohortState ((a - rCohort) / 32) (w.toNat % 2 ^ 16) else s)
  else s.writePlain a v m

/-- The BELL block (R31, R32, R38, R48, R53, R56, R66, R608, R613, R614). The length of a posted page is free: the loader has yet to
read it. -/
def State.writeBell (s : State) (a : Nat) (v m : Word) : State :=
  let w := s.merged a v m
  if a = rBellCtl then s.writeBellCtl v m
  else if a = rLessonLen then s.writeLessonLen w
  else if a = rGuard then s.writeGuard w
  else if a = rLead then s.writeLead w
  else if a = rOvrLimit then s.writeFields a v m (fun x => decide (1 ≤ fget x 0 8)) State.bellCfgErr
  else if a = rTtPage0 ∨ a = rTtPage0 + 8 then s.writeFields a v m (fun x => fget x 0 12 = 0) State.bellCfgErr
  else if a = rTtPost then (if coversLow m then let x := s.draw; x.2.postPage w (Config.pageLength x.1) else s)
  else if a = rStretch then s.writeFields a v m (fun x => decide (1 ≤ fget x 32 16)) State.bellCfgErr
  else if a = rBellTree + 8 then s.writePlain a (v &&& ~~~BitVec.ofNat 64 ((List.range 64).foldl (fun n i => n + (s.melium (64 + i)).toNat * 2 ^ i) 0)) m
  else s.writePlain a v m

/-- The RST block (R564, R566, R579, R580, R586); a value out of its range is ignored. -/
def State.writeRst (s : State) (a : Nat) (v m : Word) : State :=
  if a = rRstReset then (if coversLow m ∧ fget v 0 2 < 3 then s.requestReset (fget v 0 2) 0 0 else s)
  else if a = rDrainTimeout then s.writeFields a v m (fun x => inRange 10 10000 (fget x 0 14)) ignored
  else if a = rRstEsc then s.writeFields a v m (fun x => inRange 2 15 (fget x 0 4) && inRange 1 3600 (fget x 32 16)) ignored
  else if a = rRstWd then s.writeFields a v m (fun x => inRange 100 100000 (fget x 0 18) && inRange 100 100000 (fget x 32 18)) ignored
  else if a = rRstHb then s.writeFields a v m (fun x => inRange 1 60 (fget x 0 6)) ignored
  else s.writePlain a v m

/-- The command that a code of PRIN.CMD names (R595). -/
def mailCode (n : Nat) : PrinCmd :=
  if n = 1 then .gbExport else if n = 2 then .gbImport else if n = 3 then .gbCommit else if n = 0x10 then .fwChunk
  else if n = 0x11 then .fwPrefer else if n = 0x12 then .svnRaise else .unknown
/-- PRIN.STATUS.CFG_ERR (R610). -/
def State.prinErr (s : State) : State := s.setRegBit rPrinStatus 7 true
/-- The PRIN block (R590, R592, R594, R595, R608, R610, R611). -/
def State.writePrin (s : State) (a : Nat) (v m : Word) : State :=
  if a = rPrinCmd then (if coversLow m then s.mail (mailCode (fget v 0 8)) else s)
  else if a = rPcap then s.writeFields a v m (fun x => inRange 1 100 (fget x 32 7) && inRange 1200 1800 (fget x 0 11)) State.prinErr
  else if a = rTherm then s.writeFields a v m (fun x => inRange 60 99 (fget x 0 8)) State.prinErr
  else s.writePlain a v m

/-- A word of a SEC.SEAL entry: base and length may change while the entry is FREE; STATE 1 creates the region (R552). -/
def State.writeSeal (s : State) (a : Nat) (v m : Word) : State :=
  let i := (a - rSeal) / 32
  let k := (a - rSeal) % 32
  if (s.sealEntry i).2.2.2.2 ≠ 0 then s
  else if k < 16 then s.writePlain a v m
  else if k = 16 ∧ coversLow m ∧ fget (s.merged a v m) 24 2 = 1 then
    (let w := s.merged a v m
     let base := s.reg (rSeal + 32 * i)
     let len := s.reg (rSeal + 32 * i + 8)
     s.viaPrincipal (.sealCreate i base len (fget w 0 10) (fget w 16 8)) (fun s => s.sealCreate i base len (fget w 0 10) (fget w 16 8)))
  else if k = 16 then s.setReg a (s.merged a v m &&& 0xFF03FF)
  else s
/-- The SEC block (R546, R549, R551, R552, R556, R619). -/
def State.writeSec (s : State) (a : Nat) (v m : Word) : State :=
  if a = rAttest then
    (if coversLow m then s.viaPrincipal (.attest (fget v 0 10)) (fun s => s.secAttest (fget v 0 10)) else s)
  else if (rNonce ≤ a ∧ a < rNonce + 32) ∨ (rImport ≤ a ∧ a < rImport + 136) then s.keepLatch a v m
  else if a = rImportGo then (if coversLow m then s.viaPrincipal .importGo State.secImport else s)
  else if a = rLockerClear then
    (if coversLow m then s.viaPrincipal (.lockerClear (fget v 0 8)) (fun s => s.clearSlot (fget v 0 8)) else s)
  else if rSeal ≤ a ∧ a < rSeal + 2048 then s.writeSeal a v m
  else if a = rTeardown then
    (if coversLow m then s.viaPrincipal (.teardown (fget v 0 10)) (fun s => s.teardown (fget v 0 10)) else s)
  else s.writePlain a v m

/-- XLT.STATUS.CFG_ERR (R372, R620). -/
def State.xltErr (s : State) : State := s.setRegBit rXltStatus 0 true
/-- The bytes of XLT.INV. -/
def State.invBytes (s : State) : List Byte := s.regBytes rInv 4
/-- The XLT and FLT blocks (R372, R396, R397, R401, R402, R404, R608, R620, R621). -/
def State.writeXlt (s : State) (a : Nat) (v m : Word) : State :=
  if rPfd ≤ a ∧ a < rPfd + 64 then s.writeFields a v m pfdOk State.xltErr
  else if a = rXltCtl then s.writeFields a v m (fun x => decide (fget x 8 5 ≤ 16)) State.xltErr
  else if a = rInv + 24 then
    (let t := s.writePlain a v m
     let i := Inval.ofBytes t.invBytes
     if coversLow m ∧ i.kind ≤ 4 then t.startInval i.kind i.start i.count i.cohort i.part else t)
  else if a = rInvTimeout then s.writeFields a v m (fun x => inRange 10 100000 (fget x 0 17)) State.xltErr
  else if a = rFltSize then s.writeFields a v m (fun x => inRange 64 65536 (fget x 0 17) && isPow2 (fget x 0 17)) ignored
  else if a = rFltTail then (s.writeFltTail (s.merged a v m)).loaderAgain
  else if a = rFltResume then
    (if !coversLow m then s
     else if fget v 16 2 ≤ 1 then s.fltResume (fget v 0 16) (fget v 16 2 = 0)
     else s.badResume)
  else if a = rFltSave then s.writeFields a v m (fun x => decide (fget x 48 13 ≤ 4096)) ignored
  else s.writePlain a v m

/-- An entry of four bytes in each covered half of a register. -/
def halves (m : Word) : List Nat := (List.range 2).filter (fun h => m.getLsbD (32 * h))
/-- The COH and COL blocks (R163, R165 to R167, R349, R350, R608, R622, R623). -/
def State.writeCoh (s : State) (a : Nat) (v m : Word) : State :=
  if a = rCohMembers then s.writeMembers (s.merged a v m)
  else if a = rLineRelease then (if coversLow m then s.lineRelease v else s)
  else if a = rPortRelease then (if coversLow m then s.portRelease v else s)
  else if a = rRingSize then s.writeFields a v m (fun x => inRange 64 65536 (fget x 0 17)) ignored
  else if rMcOwner ≤ a ∧ a < rMcOwner + 0x4000 then
    s.forAll (halves m) (fun s h => s.writeMcOwner ((a - rMcOwner) / 4 + h) (BitVec.ofNat 32 (fget v (32 * h) 32)))
  else s.writePlain a v m

/-- Half of a SWC.MARKER entry: the limits of R189 on the fields that the half holds (R618). -/
def State.writeMarkerHalf (s : State) (a : Nat) (v m : Word) : State :=
  let w := s.merged a v m
  let k := (a - rMarker) / 16
  let old := s.fillBucket 0 k (s.reg (rMarker + 16 * k)) (s.reg (rMarker + 16 * k + 8))
  if a % 16 = 0 then
    (if fget w 0 32 ≤ fget w 32 32 then old.writePlain a v m else s.cfgErr 10 0)
  else if 2100 ≤ fget w 0 24 ∧ 2100 ≤ fget w 24 24 then
    (let t := old.writePlain a v m
     if s.regBit a 56 then t else t.freshBucket 0 k)
  else s.cfgErr 10 0
/-- The switch registers of a port. -/
def State.writeSwitch (s : State) (p off : Nat) (v m : Word) : State :=
  let a := swReg p off
  if off = swCreditAdv then s.writeCreditAdv p (s.merged a v m)
  else if off = swBufMin then s.writeBufMin p (s.merged a v m)
  else if off = swVcCfg then s.writeVcCfg p (s.merged a v m)
  else s.writePlain a v m
/-- The SWC block (R189, R198, R207 to R210, R237, R242, R608, R615 to R618, R654). -/
def State.writeSwc (s : State) (a : Nat) (v m : Word) : State :=
  let w := s.merged a v m
  if a = rOvfOn then s.writeOvfOn w
  else if a = rOvfBase then s.writeOvfRegion false w
  else if a = rOvfSize then s.writeOvfRegion true w
  else if a = rAgeLimit then s.writeAgeLimit w
  else if a = rSwcArb then s.writeSwcArb w
  else if rWredSet ≤ a ∧ a < rWredSet + 384 then
    (if a % 16 = 0 then s.writeWred a w (s.reg (a + 8)) else s.writeWred (a - 8) (s.reg (a - 8)) w)
  else if a = rRtx then s.writeRtx w
  else if a = rWinTimeout then s.writeWinTimeout w
  else if a = rWinDefault then s.writeWinDefault w
  else if a = rReplyHold then s.writeFields a v m (fun x => inRange 1 10000 (fget x 0 14)) State.cfgRange
  else if rRtHold ≤ a ∧ a < rRtHold + 512 then s.writeHold ((a - rRtHold) / 8) w
  else if rMarker ≤ a ∧ a < rMarker + 256 then s.writeMarkerHalf a v m
  else if rRtStage ≤ a ∧ a < rRtStage + 0x10000 then s.writeStage a v m
  else if rWinSize ≤ a ∧ a < rWinSize + 0x2000 then s.writeWinSize a v m
  else if rMcGroup ≤ a ∧ a < rMcGroup + 0x4000 then
    s.forAll (halves m) (fun s h => s.writeMcGroup ((a - rMcGroup) / 4 + h) (BitVec.ofNat 32 (fget v (32 * h) 32)))
  else if rIntPort ≤ a ∧ a < rIntPort + 0x600 then s.writeSwitch (128 + (a - rIntPort) / 0x80) ((a - rIntPort) % 0x80) v m
  else if rMcMember ≤ a ∧ a < rMcMember + 0x8000 then s.writeMcMember a v m
  else s.writePlain a v m

/-- OMU.STATUS.CFG_ERR. -/
def State.omuErr (s : State) : State := s.setRegBit rOmuStatus 0 true
/-- The G7M and OMU blocks (R413, R417, R420, R430, R432, R446, R615, R624, R653). -/
def State.writeUnits (s : State) (a : Nat) (v m : Word) : State :=
  let w := s.merged a v m
  if a = rTtRegion then s.writeTtRegion w
  else if a = rG7mArb then s.writeG7mArb w
  else if a = rScrub then s.writeScrubPeriod w
  else if a = rMtxDir ∨ a = rImgBase then s.writeFields a v m (fun x => fget x 0 16 = 0) State.omuErr
  else if a = rMtxInval then (if coversLow m then s.dropImage v else s)
  else if a = rOmuArb then s.writeFields a v m arbOk State.omuErr
  else if a = rOmuCal then
    s.writeFields a v m (fun x => inRange 1000 1000000 (fget x 0 20) && inRange 1 1000000 (fget x 32 20)) State.omuErr
  else s.writePlain a v m

/-- The PCIE and CAL blocks (R493, R497, R502, R503, R600, R612). -/
def State.writePcie (s : State) (from_ a : Nat) (v m : Word) : State :=
  if a = rGwNode then
    (let t := s.writePlain a v m
     { t with host := { t.host with member := true } })
  else if rRelay ≤ a ∧ a < rRelay + 0x1000 then
    (let slot := (a - rRelay) / 0x40
     if (a - rRelay) % 0x40 = 0x28 ∧ coversLow m then s.relay slot from_ (s.merged a v m) else s.writePlain a v m)
  else if a = rCalCommit then s.writeFields a v m (fun x => inRange 1 168 (fget x 0 8)) ignored
  else s.writePlain a v m

/-- ELEC_CTL: a write with a value out of range is ignored whole; else each field acts, the plain ones first (R477 to R490). -/
def State.writeElecCtl (s : State) (p : Nat) (v m : Word) : State :=
  let a := linkReg p lCtl
  let w := s.merged a v m
  if fget w 24 8 < fget w 32 8 ∨ !inRange 1 1000 (fget w 14 10) then s.elecErr p
  else
    let t := s.setReg a ((s.reg a &&& 0xFC1) ||| (w &&& 0xFFFFFFF000))
    let t := (t.setRegF a 10 2 (fget w 10 2)).reserveWrite p (w.getLsbD 8)
    let t := if w.getLsbD 6 = t.elecBit p ecSleep then t else t.sleepEnWrite p (w.getLsbD 6)
    let t := if w.getLsbD 0 = t.elecBit p ecEnable then t else t.elecEnable p (w.getLsbD 0)
    let t := if w.getLsbD 9 = t.elecBit p ecTest then t.applyLoop p else t.testWrite p (w.getLsbD 9)
    let t := if w.getLsbD 7 = t.elecBit p ecDeep then t else if w.getLsbD 7 then t.deepEnter p else t.deepExit p
    if w.getLsbD 1 ∧ coversLow m then t.elecStart p else t
/-- PRBS_CTL (R482, R483): INJ_ONE and CHK_CLEAR act while the write covers the low four bytes. -/
def State.writePrbs (s : State) (p l : Nat) (v m : Word) : State :=
  let a := laneReg p l 8
  let w := s.merged a v m
  if inRange 1 9 (fget w 34 6) then s.elecErr p
  else
    let t := (s.countBits p l).writePlain a v m
    let t := if t.checkerRuns p l then t else t.unlock p l
    let t := if w.getLsbD 33 ∧ coversLow m ∧ t.generatorRuns p l then t.emit (.word p (.injectOne l)) else t
    if w.getLsbD 32 ∧ coversLow m then (t.setReg (laneReg p l 0x10) 0).setReg (laneReg p l 0x18) 0 else t
/-- The link and lane registers of an electrical port. -/
def State.writeElec (s : State) (p off : Nat) (v m : Word) : State :=
  let a := rPortBlock + p * 0x10000 + off
  let l := (off - 0x200) / 0x40
  if off = lCtl then s.writeElecCtl p v m
  else if off = lAudit then s.auditWrite p (s.merged a v m)
  else if 0x200 ≤ off ∧ off < 0x300 ∧ off % 0x40 = 0 then (if m.getLsbD 8 then s.setRegF a 8 8 0xFF else s)
  else if 0x200 ≤ off ∧ off < 0x300 ∧ off % 0x40 = 8 then s.writePrbs p l v m
  else s.writePlain a v m
/-- OPT_CTL: a write with a value out of range is ignored whole (R452, R470, R471). -/
def State.writeOptCtl (s : State) (i : Nat) (v m : Word) : State :=
  let a := linkReg (64 + i) lCtl
  let w := s.merged a v m
  let n := fget w 16 4
  if !inRange 10 60 (fget w 24 8) ∨ !(n = 0 || decide (12 ≤ n)) then s.setRegBit (linkReg (64 + i) lStatus) 15 true
  else
    let t := s.setReg a ((s.reg a &&& 1) ||| (w &&& 0xFF0F0004))
    let t := if w.getLsbD 0 = s.optEnabled i then t else t.optEnable i (w.getLsbD 0)
    let t := if w.getLsbD 1 ∧ coversLow m then t.optStart i else t
    if w.getLsbD 3 ∧ coversLow m then t.recalWrite i else t
/-- A PORT block (R625). -/
def State.writePort (s : State) (a : Nat) (v m : Word) : State :=
  let n := (a - rPortBlock) / 0x10000
  let off := (a - rPortBlock) % 0x10000
  if 0x100 ≤ off ∧ off < 0x178 then s.writeSwitch n (off - 0x100) v m
  else if n < 64 then s.writeElec n off v m
  else if off = lCtl then s.writeOptCtl (n - 64) v m
  else s.writePlain a v m

/-- CR.SPILL fits its Blackboard (R274). -/
def spillFits (x : Word) : Bool :=
  decide (fget x 32 9 ≤ 256) && fget x 0 18 % 64 = 0 && decide (fget x 0 18 + 768 * fget x 32 9 ≤ 0x40000)
/-- CR.SLOT_AREA fits its Blackboard and stays clear of the spill area (R338). -/
def slotAreaFits (x spill : Word) : Bool :=
  let a := fget x 0 18
  let n := 4608 * fget x 32 6
  decide (fget x 32 6 ≤ 32) && a % 64 = 0 && decide (a + n ≤ 0x40000)
    && (n = 0 || fget spill 32 9 = 0 || decide (a + n ≤ fget spill 0 18) || decide (fget spill 0 18 + 768 * fget spill 32 9 ≤ a))
/-- A WING block; writes are ignored while the compute domain is in reset (R562, R626). -/
def State.writeWing (s : State) (a : Nat) (v m : Word) : State :=
  let off := (a - rWingBlock) % 0x400000 % 0x1000
  if s.inReset 0 ∨ rWingBlock + 0x1000000 ≤ a ∨ 300 * 0x1000 ≤ (a - rWingBlock) % 0x400000 then s
  else if off = crBbArb then s.writeFields a v m arbOk ignored
  else if off = crSpill then
    s.writeFields a v m (fun x => spillFits x && slotAreaFits (s.reg (a - crSpill + crSlotArea)) x) ignored
  else if off = crSlotArea then s.writeFields a v m (fun x => slotAreaFits x (s.reg (a - crSlotArea + crSpill))) ignored
  else s.writePlain a v m

/-- A write of `v` under mask `m` to the register at an 8-byte-aligned address, by module `from_` (R606, R645). -/
def State.writeReg (s : State) (from_ a : Nat) (v m : Word) : State :=
  if a < 0x10000 then s.writeGlb a v m
  else if a < 0x20000 then s.writeBell a v m
  else if a < 0x30000 then s.writeRst a v m
  else if a < 0x40000 then s.writePrin a v m
  else if a < 0x50000 then s.writeSec a v m
  else if a < 0x70000 then s.writeXlt a v m
  else if a < 0x90000 then s.writeCoh a v m
  else if a < 0x100000 then s
  else if a < 0x200000 then s.writeSwc a v m
  else if a < 0x400000 then s.writeUnits a v m
  else if a < rPortBlock then s.writePcie from_ a v m
  else if a < rWingBlock then s.writePort a v m
  else s.writeWing a v m

/-! ### Accesses (R543, R645) -/

/-- The mask of the low or the high half of a register. -/
def halfMask (high : Bool) : Word := if high then 0xFFFFFFFF00000000 else 0xFFFFFFFF
/-- A write that names a code the spec reserves, and to which it gives no effect: RST.RESET with DOMAIN 3, and the start of an
invalidation of a reserved KIND (R402). -/
def State.reservedWrite (s : State) (a : Nat) (v m : Word) : Bool :=
  coversLow m && ((a = rRstReset && fget v 0 2 = 3)
    || (a = rInv + 24 && decide (4 < (s.reg (rInv + 8)).toNat / 2 ^ 32 % 256)))
/-- The words that an access of a host writes: address, value, mask; none where its length or alignment is none of R645's. -/
def writeWords (a : Nat) (d : List Byte) : Option (List (Nat × Word × Word)) :=
  let n := d.length
  if n = 4 ∧ a % 4 = 0 then
    (let high := a % 8 = 4
     some [(a / 8 * 8, BitVec.ofNat 64 (leNat d * (if high then 2 ^ 32 else 1)), halfMask high)])
  else if n % 8 = 0 ∧ inRange 8 64 n ∧ a % 8 = 0 then
    some ((List.range (n / 8)).map (fun i => (a + 8 * i, BitVec.ofNat 64 (leAt d (8 * i) 8), allBits)))
  else none
/-- In recovery only the PRIN and SEC blocks answer (R543). -/
def State.bar0Open (s : State) (a : Nat) : Bool := !s.recovery || (decide (0x30000 ≤ a) && decide (a < 0x50000))
/-- Perform the words of a write in ascending order, up to one that names a reserved code. -/
def State.writeAll (s : State) (from_ : Nat) : List (Nat × Word × Word) → Host.Outcome State Fault Refusal
  | [] => .next s
  | x :: r => if s.reservedWrite x.1 x.2.1 x.2.2 then .fault .reservedCode else (s.writeReg from_ x.1 x.2.1 x.2.2).writeAll from_ r
/-- A write of BAR0 (R645). -/
def State.bar0Write (s : State) (from_ a : Nat) (d : List Byte) : Host.Outcome State Fault Refusal :=
  match writeWords a d with
  | some l => if s.bar0Open a then s.writeAll from_ l else .next (s.emit (.aer .unsupported))
  | none => .next (s.emit (.aer .unsupported))
/-- REGISTER_WRITE (R508, R533, R645): of BAR0, or over a DEP-7's register port CF (DESIGN CHOICE, log 81). -/
def execRegisterWrite (addr : RegAddr) (data : List Byte) (s : State) : Host.Outcome State Fault Refusal :=
  match addr with
  | .bar0 a => s.bar0Write s.node.toNat a.toNat data
  | .cf p a =>
    .next (if data.length = 8 ∧ a.toNat % 8 = 0 then s.writeEp p.val a.toNat (BitVec.ofNat 64 (leNat data)) else s)

end Sys2Proof.Machine
end

