-- ==== Sys2Proof/Machine/Requests.lean ====
section
/-! DEFINITION. The requests of R81 at their destination, the register mirror, the walks' ends, the answers that reach a source, and
the reserved slots that come round (R21, R78, R81 to R101, R105, R106, R141 to R154, R196, R375, R377, R645). -/

namespace Sys2Proof.Machine

/-! ### What follows an answer -/

/-- An answer has reached an engine's source: stream tiles, die requests and BAR2 requests that awaited it go on. -/
def State.settle (s : State) (e : Nat) : State := (s.settleStreams.settleEng e).settleHost

/-! ### The register mirror (R78, R645) -/

/-- The words of a mirror store name a reserved code. -/
def State.mirrorReserved (s : State) (off : Nat) (d : List Byte) : Bool :=
  match writeWords off d with
  | some l => s.bar0Open off && l.any (fun x => s.reservedWrite x.1 x.2.1 x.2.2)
  | none => false
/-- An admitted access to the register mirror: it acts as the host's access of the same length and alignment. In recovery it is
answered UNMAPPED. -/
def State.performMirror (s : State) (r : Req) (off : Nat) : State :=
  if !s.bar0Open off then s.finish r stUnmapped false []
  else if isLd (Req.op r) then
    let t := s.settleRead off
    t.finish r stOk false (((leBytes 8 (t.readReg (off / 8 * 8)).toNat).drop (off % 8)).take (Req.len r))
  else
    let t := match writeWords off r.f.payload with
      | some l => s.forAll l (fun s x => s.writeReg r.f.src.toNat x.1 x.2.1 x.2.2)
      | none => s
    t.finish r stOk false []
/-- A request to the register mirror: earlier requests of its source are performed first (R111). -/
def State.atMirror (s : State) (r : Req) (off : Nat) : State :=
  match s.refusal r with
  | some st => s.finish r st false []
  | none =>
    if s.behind (.access r 0 false 0) then { s with coh := { s.coh with waitq := s.coh.waitq ++ [.access r 0 false s.now] } }
    else s.performMirror r off
/-- Serve the mirror requests that no earlier request of their source holds back (R111). -/
def State.runMirrors (s : State) : State :=
  let l := s.coh.waitq
  ({ s with coh := { s.coh with waitq := [] } }).forAll l (fun s w =>
    let keep := { s with coh := { s.coh with waitq := s.coh.waitq ++ [w] } }
    match w with
    | .access r _ _ _ =>
      (match s.whereIs (Req.off r) with
       | .mirror off => if s.behind w then keep else s.performMirror r off
       | _ => keep)
    | _ => keep)
/-- Serve what waits at the home. -/
def State.homeGoes (s : State) : State := if s.coh.waitq.isEmpty then s else s.runWaiting.runMirrors

/-! ### A request (R83 to R97, R106) -/

/-- A request other than an MST at its multicast engine; one within the module lets those behind it go on (R120). -/
def State.request (s : State) (r : Req) (upset : Int) : State :=
  let t := s.checked r (fun s => match s.whereIs (Req.off r) with
    | .mirror off => s.atMirror r off
    | _ => s.atHome r upset)
  (if Req.isFrame r then t else t.homeGoes).settleStreams
/-- A row's request; one whose opcode is not of the row's family changes nothing. -/
def State.familyRequest (s : State) (fam : Bool) (r : Req) (upset : Int) : State := if fam then s.request r upset else s
/-- An accepted store to the register mirror names a reserved code: it has no effect that the spec gives. -/
def State.mirrorStops (s : State) (r : Req) : Bool :=
  Req.op r = 2 && (match s.whereIs (Req.off r) with
    | .mirror off => (s.refusal r).isNone && s.mirrorReserved off r.f.payload
        && (!Req.isFrame r || Req.timed r || (match (s.seqCheck 0 r.f).1 with
          | .accept => true
          | _ => false))
    | _ => false)

/-- An MST at the engine under the sequence check; one that is not accepted frees its ingress buffer (R192, R219). -/
def State.mstChecked (s : State) (r : Req) : State :=
  let t := s.checked r (fun s => s.mstTake r)
  if t.fab.mcWait.contains r then t else t.mstRelease r.f
/-- An MST at its entry module goes to the multicast engine; a copy of one is a store at its member (R237, R238). -/
def State.multicast (s : State) (r : Req) : State :=
  match r.via with
  | .fabric p => if p.val = 139 then (s.mstChecked r).settleStreams else s.request r 0
  | _ => (s.mstTake r).settleStreams

/-! ### The end of a walk (R375, R377, R378) -/

/-- A walk that has ended leaves the walker and is counted. -/
def State.walkGone (s : State) (w : Walk) : State :=
  let t := { s with xl := { s.xl with walks := s.xl.walks.filter (fun x => x.id ≠ w.id) } }
  let t := (t.count rWalks).addReg rWalkSclk ((t.now - w.since) / 2)
  match w.who with
  | .prefetch _ => t.count rPfWalks
  | _ => t
/-- What its requester does with a walk's result. -/
def State.walkTold (s : State) (w : Walk) : State :=
  match w.who with
  | .desk d k id => if h : k < 4 then s.deskWalked d ⟨k, h⟩ id w else s
  | .stream n e => s.streamWalked n e w
  | .prefetch n => (match w.failed, w.done with
    | none, some t => s.putWing n t
    | _, _ => s)
  | .preload p n room => s.preloadWalked p n room w
  | .dep p id => (s.depWalked p id w).settleDep p
/-- A walk that has ended, with a translation or a failure. -/
def State.walkEnd (s : State) (id : Nat) : State :=
  match s.xl.walks.find? (fun w => w.id = id && w.level = 0) with
  | none => s
  | some w => ((s.walkGone w).walkTold w).settleStreams

/-! ### Meanings: requests -/

/-- LD_REQUEST (R85). -/
def execLdRequest (r : Req) (s : State) : Host.Outcome State Fault Refusal := .next (s.familyRequest (Req.op r = 1) r 0)
/-- ST_REQUEST (R85); a store to the register mirror that names a reserved code stops. -/
def execStRequest (r : Req) (s : State) : Host.Outcome State Fault Refusal :=
  if s.mirrorStops r then .fault .reservedCode else .next (s.familyRequest (Req.op r = 2) r 0)
/-- MST_REQUEST (R237). -/
def execMstRequest (r : Req) (s : State) : Host.Outcome State Fault Refusal := .next (if Req.op r = 3 then s.multicast r else s)
/-- RED_REQUEST (R91). -/
def execRedRequest (r : Req) (upset : Int) (s : State) : Host.Outcome State Fault Refusal :=
  .next (s.familyRequest (Req.op r / 16 = 1) r upset)
/-- FADD_REQUEST (R88). -/
def execFaddRequest (r : Req) (upset : Int) (s : State) : Host.Outcome State Fault Refusal :=
  .next (s.familyRequest (Req.op r / 16 = 2) r upset)
/-- MIN_REQUEST (R88). -/
def execMinRequest (r : Req) (s : State) : Host.Outcome State Fault Refusal := .next (s.familyRequest (Req.op r / 16 = 3) r 0)
/-- MAX_REQUEST (R88). -/
def execMaxRequest (r : Req) (s : State) : Host.Outcome State Fault Refusal := .next (s.familyRequest (Req.op r / 16 = 4) r 0)
/-- SWAP32_REQUEST (R88). -/
def execSwap32Request (r : Req) (s : State) : Host.Outcome State Fault Refusal := .next (s.familyRequest (Req.op r = 0x50) r 0)
/-- SWAP64_REQUEST (R88). -/
def execSwap64Request (r : Req) (s : State) : Host.Outcome State Fault Refusal := .next (s.familyRequest (Req.op r = 0x51) r 0)
/-- CAS64_REQUEST (R88). -/
def execCas64Request (r : Req) (s : State) : Host.Outcome State Fault Refusal := .next (s.familyRequest (Req.op r = 0x52) r 0)
/-- CAS128_REQUEST (R88). -/
def execCas128Request (r : Req) (s : State) : Host.Outcome State Fault Refusal := .next (s.familyRequest (Req.op r = 0x53) r 0)
/-- AND32_REQUEST (R88). -/
def execAnd32Request (r : Req) (s : State) : Host.Outcome State Fault Refusal := .next (s.familyRequest (Req.op r = 0x54) r 0)
/-- AND64_REQUEST (R88). -/
def execAnd64Request (r : Req) (s : State) : Host.Outcome State Fault Refusal := .next (s.familyRequest (Req.op r = 0x55) r 0)
/-- OR32_REQUEST (R88). -/
def execOr32Request (r : Req) (s : State) : Host.Outcome State Fault Refusal := .next (s.familyRequest (Req.op r = 0x56) r 0)
/-- OR64_REQUEST (R88). -/
def execOr64Request (r : Req) (s : State) : Host.Outcome State Fault Refusal := .next (s.familyRequest (Req.op r = 0x57) r 0)
/-- XOR32_REQUEST (R88). -/
def execXor32Request (r : Req) (s : State) : Host.Outcome State Fault Refusal := .next (s.familyRequest (Req.op r = 0x58) r 0)
/-- XOR64_REQUEST (R88). -/
def execXor64Request (r : Req) (s : State) : Host.Outcome State Fault Refusal := .next (s.familyRequest (Req.op r = 0x59) r 0)
/-- RESERVED_OPCODE_REQUEST (R83): answered ALIGN at its destination, unless an earlier status of R106 applies. -/
def execReservedOpcodeRequest (r : Req) (s : State) : Host.Outcome State Fault Refusal :=
  .next (s.familyRequest (isMemReq (Req.op r) && !opcodeLegal (Req.op r)) r 0)

/-! ### Meanings: answers -/

/-- SYNC_RESPONSE (R196). -/
def execSyncResponse (eng : Engine) (f : Frame) (s : State) : Host.Outcome State Fault Refusal :=
  .next ((s.syncAnswer (Engine.num eng) f).settle (Engine.num eng))
/-- RTX_TIMEOUT (R196, R647). -/
def execRtxTimeout (eng : Engine) (dest : BitVec 12) (s : State) : Host.Outcome State Fault Refusal :=
  .next ((s.rtxExpired (Engine.num eng) dest).settle (Engine.num eng))
/-- WIN_TIMEOUT (R196, R197). -/
def execWinTimeout (eng : Engine) (dest : BitVec 12) (id : Nat) (s : State) : Host.Outcome State Fault Refusal :=
  .next ((s.winExpired (Engine.num eng) dest id).settle (Engine.num eng))
/-- AGED_NOTICE (R196). -/
def execAgedNotice (eng : Engine) (f : Frame) (s : State) : Host.Outcome State Fault Refusal :=
  .next ((s.agedNotice (Engine.num eng) f).settle (Engine.num eng))
/-- WINDOW_ROOM (R186). -/
def execWindowRoom (eng : Engine) (dest : BitVec 12) (s : State) : Host.Outcome State Fault Refusal :=
  .next ((s.pump (Engine.num eng) dest pumpFuel).settle (Engine.num eng))
/-- A response at the module's source engine: one that answers a timetabled request completes it (R84, R205). -/
def State.moduleResponse (s : State) (f : Frame) : State :=
  match s.ttAnswered f with
  | some r => ({ s with fab := { s.fab with tt := s.fab.tt.erase r } }).tellOwner 0 f r.owner f.status f.payload
  | none => if f.vc = 0 then s.count rRespDrop else s.takeResponse 0 f
/-- RESPONSE (R84): it completes its request with the carried status and data. -/
def execResponse (eng : Engine) (f : Frame) (s : State) : Host.Outcome State Fault Refusal :=
  .next (match eng with
    | .module => (s.moduleResponse f).settle 0
    | .dep p => s.depResponse p.val f)
/-- SNOOP_RESPONSE (R145). -/
def execSnoopResponse (p : Fin 64) (f : Frame) (s : State) : Host.Outcome State Fault Refusal :=
  .next ((s.snoopAnswered p.val f).runMirrors).settleStreams
/-- HOME_LINE_STABLE (R111, R150, R153): the requests that wait for the line, or behind one that did, are served in arrival order. -/
def execHomeLineStable (line : Nat) (s : State) : Host.Outcome State Fault Refusal :=
  .next (if s.inHs line then s else s.homeGoes.settleStreams)

/-! ### Meanings: walks and reserved slots -/

/-- WALK_COMPLETE (R375). -/
def execWalkComplete (walk : Nat) (s : State) : Host.Outcome State Fault Refusal := .next (s.walkEnd walk)
/-- RESERVED_SLOT (R21, R235): the site's timetabled work takes its slot. At a channel and at a Blackboard bank each best-effort access
has its grant within its own command, so none waits when a slot comes round: a bank's slot that no timetabled access takes is an
opportunity that none uses (DESIGN CHOICE, log 82). -/
def execReservedSlot (site : SlotSite) (s : State) : Host.Outcome State Fault Refusal :=
  .next (match site with
    | .output o => s.reservedOutput o.val
    | .channel ch => s.beginHolds ch.val
    | .bank _ _ _ => s
    | .prism p => s.prismSlot p)

end Sys2Proof.Machine
end

