-- ==== Sys2Proof/Machine/Dispatch.lean ====
section
/-! DEFINITION. One arm per row of spec/opcode_table.json: each calls the meaning of its row. -/

namespace Sys2Proof.Machine

def exec (i : Instr) (s : State) : Host.Outcome State Fault Refusal :=
  match i with
  | .bell => Sys2Proof.Machine.execBell s
  | .rollCallCheck => Sys2Proof.Machine.execRollCallCheck s
  | .rollCallActivate => Sys2Proof.Machine.execRollCallActivate s
  | .rollCallSwap => Sys2Proof.Machine.execRollCallSwap s
  | .rollCallGap => Sys2Proof.Machine.execRollCallGap s
  | .prismSettled p => Sys2Proof.Machine.execPrismSettled p s
  | .bodyStart => Sys2Proof.Machine.execBodyStart s
  | .closingGuard => Sys2Proof.Machine.execClosingGuard s
  | .bellFrameSend => Sys2Proof.Machine.execBellFrameSend s
  | .bellFrame p f => Sys2Proof.Machine.execBellFrame p f s
  | .leadErr f => Sys2Proof.Machine.execLeadErr f s
  | .bellMissed => Sys2Proof.Machine.execBellMissed s
  | .masterLost => Sys2Proof.Machine.execMasterLost s
  | .candidacy p f => Sys2Proof.Machine.execCandidacy p f s
  | .electionEnd => Sys2Proof.Machine.execElectionEnd s
  | .bellInEdge => Sys2Proof.Machine.execBellInEdge s
  | .bellInEdgeMissing => Sys2Proof.Machine.execBellInEdgeMissing s
  | .stretch f => Sys2Proof.Machine.execStretch f s
  | .stretchHoldExpiry => Sys2Proof.Machine.execStretchHoldExpiry s
  | .pwrAlertN asserted => Sys2Proof.Machine.execPwrAlertN asserted s
  | .coolantAlertN asserted => Sys2Proof.Machine.execCoolantAlertN asserted s
  | .bellLessonLenWrite v => Sys2Proof.Machine.execBellLessonLenWrite v s
  | .bellGuardWrite v => Sys2Proof.Machine.execBellGuardWrite v s
  | .bellLeadWrite v => Sys2Proof.Machine.execBellLeadWrite v s
  | .ttPost v pageLen => Sys2Proof.Machine.execTtPost v pageLen s
  | .bellCtlPartWrite part => Sys2Proof.Machine.execBellCtlPartWrite part s
  | .timetableLoaded page image => Sys2Proof.Machine.execTimetableLoaded page image s
  | .strictWrite strict => Sys2Proof.Machine.execStrictWrite strict s
  | .ldRequest r => Sys2Proof.Machine.execLdRequest r s
  | .stRequest r => Sys2Proof.Machine.execStRequest r s
  | .mstRequest r => Sys2Proof.Machine.execMstRequest r s
  | .mstContextFreed => Sys2Proof.Machine.execMstContextFreed s
  | .redRequest r upset => Sys2Proof.Machine.execRedRequest r upset s
  | .faddRequest r upset => Sys2Proof.Machine.execFaddRequest r upset s
  | .minRequest r => Sys2Proof.Machine.execMinRequest r s
  | .maxRequest r => Sys2Proof.Machine.execMaxRequest r s
  | .swap32Request r => Sys2Proof.Machine.execSwap32Request r s
  | .swap64Request r => Sys2Proof.Machine.execSwap64Request r s
  | .cas64Request r => Sys2Proof.Machine.execCas64Request r s
  | .cas128Request r => Sys2Proof.Machine.execCas128Request r s
  | .and32Request r => Sys2Proof.Machine.execAnd32Request r s
  | .and64Request r => Sys2Proof.Machine.execAnd64Request r s
  | .or32Request r => Sys2Proof.Machine.execOr32Request r s
  | .or64Request r => Sys2Proof.Machine.execOr64Request r s
  | .xor32Request r => Sys2Proof.Machine.execXor32Request r s
  | .xor64Request r => Sys2Proof.Machine.execXor64Request r s
  | .reservedOpcodeRequest r => Sys2Proof.Machine.execReservedOpcodeRequest r s
  | .response eng f => Sys2Proof.Machine.execResponse eng f s
  | .rds p f => Sys2Proof.Machine.execRds p f s
  | .rdx p f => Sys2Proof.Machine.execRdx p f s
  | .upg p f => Sys2Proof.Machine.execUpg p f s
  | .putm p f => Sys2Proof.Machine.execPutm p f s
  | .puto p f => Sys2Proof.Machine.execPuto p f s
  | .putc p f => Sys2Proof.Machine.execPutc p f s
  | .snps p f => Sys2Proof.Machine.execSnps p f s
  | .snpi p f => Sys2Proof.Machine.execSnpi p f s
  | .snpd p f => Sys2Proof.Machine.execSnpd p f s
  | .flush p f => Sys2Proof.Machine.execFlush p f s
  | .snoopResponse p f => Sys2Proof.Machine.execSnoopResponse p f s
  | .grant p f => Sys2Proof.Machine.execGrant p f s
  | .retryResponse p f => Sys2Proof.Machine.execRetryResponse p f s
  | .retryBackoffExpiry p line => Sys2Proof.Machine.execRetryBackoffExpiry p line s
  | .putAck p f => Sys2Proof.Machine.execPutAck p f s
  | .reservationExpiry line => Sys2Proof.Machine.execReservationExpiry line s
  | .homeLineStable line => Sys2Proof.Machine.execHomeLineStable line s
  | .transientWayFreed p set => Sys2Proof.Machine.execTransientWayFreed p set s
  | .cohMembersWrite v => Sys2Proof.Machine.execCohMembersWrite v s
  | .flushResponse p f => Sys2Proof.Machine.execFlushResponse p f s
  | .cohLineRelease v => Sys2Proof.Machine.execCohLineRelease v s
  | .cohPortRelease v => Sys2Proof.Machine.execCohPortRelease v s
  | .frameArrival p f => Sys2Proof.Machine.execFrameArrival p f s
  | .dep7FrameAccept p f => Sys2Proof.Machine.execDep7FrameAccept p f s
  | .creditReturn p vc cells => Sys2Proof.Machine.execCreditReturn p vc cells s
  | .sync eng f => Sys2Proof.Machine.execSync eng f s
  | .syncResponse eng f => Sys2Proof.Machine.execSyncResponse eng f s
  | .rtxTimeout eng dest => Sys2Proof.Machine.execRtxTimeout eng dest s
  | .winTimeout eng dest id => Sys2Proof.Machine.execWinTimeout eng dest id s
  | .agedNotice eng f => Sys2Proof.Machine.execAgedNotice eng f s
  | .windowRoom eng dest => Sys2Proof.Machine.execWindowRoom eng dest s
  | .replyHoldExpiry eng src seq => Sys2Proof.Machine.execReplyHoldExpiry eng src seq s
  | .swcRtStageWrite entry lo hi => Sys2Proof.Machine.execSwcRtStageWrite entry lo hi s
  | .swcRtSwapWrite v => Sys2Proof.Machine.execSwcRtSwapWrite v s
  | .swcRtHoldWrite word v => Sys2Proof.Machine.execSwcRtHoldWrite word v s
  | .swcRtxWrite v => Sys2Proof.Machine.execSwcRtxWrite v s
  | .swcWinTimeoutWrite v => Sys2Proof.Machine.execSwcWinTimeoutWrite v s
  | .portDown p => Sys2Proof.Machine.execPortDown p s
  | .overflowWrite id => Sys2Proof.Machine.execOverflowWrite id s
  | .overflowReadback id => Sys2Proof.Machine.execOverflowReadback id s
  | .wredAvgUpdate => Sys2Proof.Machine.execWredAvgUpdate s
  | .ageTick => Sys2Proof.Machine.execAgeTick s
  | .outputGrant o => Sys2Proof.Machine.execOutputGrant o s
  | .bufMinWrite p v => Sys2Proof.Machine.execBufMinWrite p v s
  | .creditAdvWrite p v => Sys2Proof.Machine.execCreditAdvWrite p v s
  | .vcCfgWrite p v => Sys2Proof.Machine.execVcCfgWrite p v s
  | .swcOvfOnWrite v => Sys2Proof.Machine.execSwcOvfOnWrite v s
  | .swcOvfRegionWrite size v => Sys2Proof.Machine.execSwcOvfRegionWrite size v s
  | .wredSetWrite set colour lo hi => Sys2Proof.Machine.execWredSetWrite set colour lo hi s
  | .swcArbWrite v => Sys2Proof.Machine.execSwcArbWrite v s
  | .swcAgeLimitWrite v => Sys2Proof.Machine.execSwcAgeLimitWrite v s
  | .swcMarkerWrite m lo hi => Sys2Proof.Machine.execSwcMarkerWrite m lo hi s
  | .swcMcGroupWrite group v => Sys2Proof.Machine.execSwcMcGroupWrite group v s
  | .colMcOwnerWrite group v => Sys2Proof.Machine.execColMcOwnerWrite group v s
  | .accessCompletion d seat id status data => Sys2Proof.Machine.execAccessCompletion d seat id status data s
  | .fetchBlockDelivery d seat block => Sys2Proof.Machine.execFetchBlockDelivery d seat block s
  | .longTallyAccept w c => Sys2Proof.Machine.execLongTallyAccept w c s
  | .longTallyComplete w c upset => Sys2Proof.Machine.execLongTallyComplete w c upset s
  | .routerStall w c => Sys2Proof.Machine.execRouterStall w c s
  | .timetabledDeparture d id => Sys2Proof.Machine.execTimetabledDeparture d id s
  | .fenceRelDrained d seat => Sys2Proof.Machine.execFenceRelDrained d seat s
  | .illegalInstruction d seat word => Sys2Proof.Machine.execIllegalInstruction d seat word s
  | .chNop idx => Sys2Proof.Machine.execChNop idx s
  | .chEnd idx => Sys2Proof.Machine.execChEnd idx s
  | .chYield idx => Sys2Proof.Machine.execChYield idx s
  | .chBr idx => Sys2Proof.Machine.execChBr idx s
  | .chLoop idx => Sys2Proof.Machine.execChLoop idx s
  | .chBrs idx => Sys2Proof.Machine.execChBrs idx s
  | .chJr idx => Sys2Proof.Machine.execChJr idx s
  | .chMfsr idx => Sys2Proof.Machine.execChMfsr idx s
  | .chMtsr idx => Sys2Proof.Machine.execChMtsr idx s
  | .chRcv idx => Sys2Proof.Machine.execChRcv idx s
  | .chPlog idx => Sys2Proof.Machine.execChPlog idx s
  | .chAdd idx => Sys2Proof.Machine.execChAdd idx s
  | .chSub idx => Sys2Proof.Machine.execChSub idx s
  | .chMul idx => Sys2Proof.Machine.execChMul idx s
  | .chMulh idx => Sys2Proof.Machine.execChMulh idx s
  | .chAnd idx => Sys2Proof.Machine.execChAnd idx s
  | .chOr idx => Sys2Proof.Machine.execChOr idx s
  | .chXor idx => Sys2Proof.Machine.execChXor idx s
  | .chShl idx => Sys2Proof.Machine.execChShl idx s
  | .chShr idx => Sys2Proof.Machine.execChShr idx s
  | .chMin idx => Sys2Proof.Machine.execChMin idx s
  | .chMax idx => Sys2Proof.Machine.execChMax idx s
  | .chCmp idx => Sys2Proof.Machine.execChCmp idx s
  | .chSel idx => Sys2Proof.Machine.execChSel idx s
  | .chMovi idx => Sys2Proof.Machine.execChMovi idx s
  | .chMovhi idx => Sys2Proof.Machine.execChMovhi idx s
  | .chAddi idx => Sys2Proof.Machine.execChAddi idx s
  | .chVadd idx => Sys2Proof.Machine.execChVadd idx s
  | .chVsub idx => Sys2Proof.Machine.execChVsub idx s
  | .chVmul idx => Sys2Proof.Machine.execChVmul idx s
  | .chVand idx => Sys2Proof.Machine.execChVand idx s
  | .chVor idx => Sys2Proof.Machine.execChVor idx s
  | .chVxor idx => Sys2Proof.Machine.execChVxor idx s
  | .chVshl idx => Sys2Proof.Machine.execChVshl idx s
  | .chVshr idx => Sys2Proof.Machine.execChVshr idx s
  | .chVmin idx => Sys2Proof.Machine.execChVmin idx s
  | .chVmax idx => Sys2Proof.Machine.execChVmax idx s
  | .chVcmp idx => Sys2Proof.Machine.execChVcmp idx s
  | .chVsel idx => Sys2Proof.Machine.execChVsel idx s
  | .chVperm idx => Sys2Proof.Machine.execChVperm idx s
  | .chVpopc idx => Sys2Proof.Machine.execChVpopc idx s
  | .chVsgn idx => Sys2Proof.Machine.execChVsgn idx s
  | .chVmov idx => Sys2Proof.Machine.execChVmov idx s
  | .chVbcast idx => Sys2Proof.Machine.execChVbcast idx s
  | .chVext idx => Sys2Proof.Machine.execChVext idx s
  | .chVins idx => Sys2Proof.Machine.execChVins idx s
  | .chVfma idx => Sys2Proof.Machine.execChVfma idx s
  | .chVfadd idx => Sys2Proof.Machine.execChVfadd idx s
  | .chVfsub idx => Sys2Proof.Machine.execChVfsub idx s
  | .chVfmul idx => Sys2Proof.Machine.execChVfmul idx s
  | .chVfmin idx => Sys2Proof.Machine.execChVfmin idx s
  | .chVfmax idx => Sys2Proof.Machine.execChVfmax idx s
  | .chVfcmp idx => Sys2Proof.Machine.execChVfcmp idx s
  | .chVcvt idx => Sys2Proof.Machine.execChVcvt idx s
  | .chVfsum idx upset => Sys2Proof.Machine.execChVfsum idx upset s
  | .chFtr idx => Sys2Proof.Machine.execChFtr idx s
  | .chRng idx => Sys2Proof.Machine.execChRng idx s
  | .chTadd idx upset => Sys2Proof.Machine.execChTadd idx upset s
  | .chTrd idx => Sys2Proof.Machine.execChTrd idx s
  | .chTclr idx => Sys2Proof.Machine.execChTclr idx s
  | .chTst idx => Sys2Proof.Machine.execChTst idx s
  | .chTlda idx upset => Sys2Proof.Machine.execChTlda idx upset s
  | .chLtadd idx => Sys2Proof.Machine.execChLtadd idx s
  | .chLtrd idx => Sys2Proof.Machine.execChLtrd idx s
  | .chLtclr idx => Sys2Proof.Machine.execChLtclr idx s
  | .chSld idx => Sys2Proof.Machine.execChSld idx s
  | .chSst idx => Sys2Proof.Machine.execChSst idx s
  | .chBbld idx => Sys2Proof.Machine.execChBbld idx s
  | .chBbst idx => Sys2Proof.Machine.execChBbst idx s
  | .chFld idx => Sys2Proof.Machine.execChFld idx s
  | .chFst idx => Sys2Proof.Machine.execChFst idx s
  | .chFat idx => Sys2Proof.Machine.execChFat idx s
  | .chRed idx => Sys2Proof.Machine.execChRed idx s
  | .chMst idx => Sys2Proof.Machine.execChMst idx s
  | .chAcq idx => Sys2Proof.Machine.execChAcq idx s
  | .chRel idx => Sys2Proof.Machine.execChRel idx s
  | .chFence idx => Sys2Proof.Machine.execChFence idx s
  | .chCvtp idx => Sys2Proof.Machine.execChCvtp idx s
  | .chOmv idx => Sys2Proof.Machine.execChOmv idx s
  | .verdictDecision id => Sys2Proof.Machine.execVerdictDecision id s
  | .walkTableRead walk entry => Sys2Proof.Machine.execWalkTableRead walk entry s
  | .walkComplete walk => Sys2Proof.Machine.execWalkComplete walk s
  | .transferStart w e => Sys2Proof.Machine.execTransferStart w e s
  | .tileTranslated w e => Sys2Proof.Machine.execTileTranslated w e s
  | .tileComplete w e => Sys2Proof.Machine.execTileComplete w e s
  | .transferPark w e => Sys2Proof.Machine.execTransferPark w e s
  | .fltTailWrite v => Sys2Proof.Machine.execFltTailWrite v s
  | .fltResumeRetry token => Sys2Proof.Machine.execFltResumeRetry token s
  | .fltResumeAbort token => Sys2Proof.Machine.execFltResumeAbort token s
  | .xltPfdWrite idx v => Sys2Proof.Machine.execXltPfdWrite idx v s
  | .invFvaRange start count cohort => Sys2Proof.Machine.execInvFvaRange start count cohort s
  | .invCohortAll cohort => Sys2Proof.Machine.execInvCohortAll cohort s
  | .invIaRange start count part => Sys2Proof.Machine.execInvIaRange start count part s
  | .invPartitionAll part => Sys2Proof.Machine.execInvPartitionAll part s
  | .invWalkCaches => Sys2Proof.Machine.execInvWalkCaches s
  | .inval eng f => Sys2Proof.Machine.execInval eng f s
  | .invalDrained eng ticket => Sys2Proof.Machine.execInvalDrained eng ticket s
  | .invalAck f => Sys2Proof.Machine.execInvalAck f s
  | .invTimeout ticket => Sys2Proof.Machine.execInvTimeout ticket s
  | .channelRefresh ch bank => Sys2Proof.Machine.execChannelRefresh ch bank s
  | .bankHoldEnd ch bank => Sys2Proof.Machine.execBankHoldEnd ch bank s
  | .patrolRead outcome => Sys2Proof.Machine.execPatrolRead outcome s
  | .channelTrainingComplete ch passed full => Sys2Proof.Machine.execChannelTrainingComplete ch passed full s
  | .g7mTtRegionWrite v => Sys2Proof.Machine.execG7mTtRegionWrite v s
  | .g7mArbWrite v => Sys2Proof.Machine.execG7mArbWrite v s
  | .g7mScrubWrite v => Sys2Proof.Machine.execG7mScrubWrite v s
  | .matrixDecompositionDone name sigma => Sys2Proof.Machine.execMatrixDecompositionDone name sigma s
  | .omuMtxInvalWrite v => Sys2Proof.Machine.execOmuMtxInvalWrite v s
  | .omuCtlWrite v => Sys2Proof.Machine.execOmuCtlWrite v s
  | .vectorFrame f v => Sys2Proof.Machine.execVectorFrame f v s
  | .prismFrameGrant p => Sys2Proof.Machine.execPrismFrameGrant p s
  | .prismResult p => Sys2Proof.Machine.execPrismResult p s
  | .prismLockLoopUpdate p maxErrUrad => Sys2Proof.Machine.execPrismLockLoopUpdate p maxErrUrad s
  | .prismRelocked p => Sys2Proof.Machine.execPrismRelocked p s
  | .prismRelockTimeout p => Sys2Proof.Machine.execPrismRelockTimeout p s
  | .prismRecalibration p => Sys2Proof.Machine.execPrismRecalibration p s
  | .calGraceExpiry p => Sys2Proof.Machine.execCalGraceExpiry p s
  | .opticalLinkStart p => Sys2Proof.Machine.execOpticalLinkStart p s
  | .ringTableSettled p k rx => Sys2Proof.Machine.execRingTableSettled p k rx s
  | .ringPeakFound p k rx => Sys2Proof.Machine.execRingPeakFound p k rx s
  | .ringAcquireTimeout p k rx => Sys2Proof.Machine.execRingAcquireTimeout p k rx s
  | .ringVerifyDone p k rx tone => Sys2Proof.Machine.execRingVerifyDone p k rx tone s
  | .ringDitherUpdate p k rx large => Sys2Proof.Machine.execRingDitherUpdate p k rx large s
  | .ringIdentityRead p k rx tone => Sys2Proof.Machine.execRingIdentityRead p k rx tone s
  | .ringSweepDone p k rx found => Sys2Proof.Machine.execRingSweepDone p k rx found s
  | .marginTestEnd p errs => Sys2Proof.Machine.execMarginTestEnd p errs s
  | .spareRetestEnd p k errs => Sys2Proof.Machine.execSpareRetestEnd p k errs s
  | .resultsExchangeEnd p partner => Sys2Proof.Machine.execResultsExchangeEnd p partner s
  | .linkDelayMeasured p roundTrips => Sys2Proof.Machine.execLinkDelayMeasured p roundTrips s
  | .opticalPortUp p => Sys2Proof.Machine.execOpticalPortUp p s
  | .opticalLinkStartFail p => Sys2Proof.Machine.execOpticalLinkStartFail p s
  | .linkRestartWaitExpiry p => Sys2Proof.Machine.execLinkRestartWaitExpiry p s
  | .laserMpdSample p k centiDbm => Sys2Proof.Machine.execLaserMpdSample p k centiDbm s
  | .fomMarginEstimate p k centiDb => Sys2Proof.Machine.execFomMarginEstimate p k centiDb s
  | .spareWarmed p k => Sys2Proof.Machine.execSpareWarmed p k s
  | .spareWarmTimeout p k => Sys2Proof.Machine.execSpareWarmTimeout p k s
  | .swapAnnounceAck p k => Sys2Proof.Machine.execSwapAnnounceAck p k s
  | .laserDriverFault p k => Sys2Proof.Machine.execLaserDriverFault p k s
  | .activeSetChange p k => Sys2Proof.Machine.execActiveSetChange p k s
  | .joinAnnounceAck p k => Sys2Proof.Machine.execJoinAnnounceAck p k s
  | .optCtlEnableWrite p on => Sys2Proof.Machine.execOptCtlEnableWrite p on s
  | .optCtlRestart p => Sys2Proof.Machine.execOptCtlRestart p s
  | .optCtlMeliumWrite p on => Sys2Proof.Machine.execOptCtlMeliumWrite p on s
  | .optCtlRecal p => Sys2Proof.Machine.execOptCtlRecal p s
  | .recalComplete p offsets => Sys2Proof.Machine.execRecalComplete p offsets s
  | .electricalLinkStart p dep => Sys2Proof.Machine.execElectricalLinkStart p dep s
  | .elecFomCheck p foms partnerOk => Sys2Proof.Machine.execElecFomCheck p foms partnerOk s
  | .elecLinkStartFail p => Sys2Proof.Machine.execElecLinkStartFail p s
  | .elecPortUp p => Sys2Proof.Machine.execElecPortUp p s
  | .laneFomUpdate p lane snrCentiDb eyeMv uncorr => Sys2Proof.Machine.execLaneFomUpdate p lane snrCentiDb eyeMv uncorr s
  | .elecCtlTestWrite p on => Sys2Proof.Machine.execElecCtlTestWrite p on s
  | .elecCtlLoopWrite p loop => Sys2Proof.Machine.execElecCtlLoopWrite p loop s
  | .farEndLoopAck p => Sys2Proof.Machine.execFarEndLoopAck p s
  | .farEndLoopTimeout p => Sys2Proof.Machine.execFarEndLoopTimeout p s
  | .prbsInjOne p lane => Sys2Proof.Machine.execPrbsInjOne p lane s
  | .prbsChkClear p lane => Sys2Proof.Machine.execPrbsChkClear p lane s
  | .auditWrite p v => Sys2Proof.Machine.execAuditWrite p v s
  | .auditAck p => Sys2Proof.Machine.execAuditAck p s
  | .sleepIdleExpiry p dep => Sys2Proof.Machine.execSleepIdleExpiry p dep s
  | .sleepWake p cause => Sys2Proof.Machine.execSleepWake p cause s
  | .sleepWakeComplete p => Sys2Proof.Machine.execSleepWakeComplete p s
  | .sleepWord p dep asleep => Sys2Proof.Machine.execSleepWord p dep asleep s
  | .elecCtlDeepEnter p => Sys2Proof.Machine.execElecCtlDeepEnter p s
  | .elecCtlDeepExit p => Sys2Proof.Machine.execElecCtlDeepExit p s
  | .elecCtlEnableWrite p on => Sys2Proof.Machine.execElecCtlEnableWrite p on s
  | .elecCtlRestart p => Sys2Proof.Machine.execElecCtlRestart p s
  | .elecCtlReserveWrite p on => Sys2Proof.Machine.execElecCtlReserveWrite p on s
  | .bar2Read b => Sys2Proof.Machine.execBar2Read b s
  | .bar2Write b data => Sys2Proof.Machine.execBar2Write b data s
  | .bar4StagingWrite off data => Sys2Proof.Machine.execBar4StagingWrite off data s
  | .perstN => Sys2Proof.Machine.execPerstN s
  | .hostHotReset => Sys2Proof.Machine.execHostHotReset s
  | .functionLevelReset fn => Sys2Proof.Machine.execFunctionLevelReset fn s
  | .hostLinkDown linkB => Sys2Proof.Machine.execHostLinkDown linkB s
  | .hostLinkUp linkB => Sys2Proof.Machine.execHostLinkUp linkB s
  | .relaySlotPerform m v => Sys2Proof.Machine.execRelaySlotPerform m v s
  | .bifurcateWrite on => Sys2Proof.Machine.execBifurcateWrite on s
  | .epRstN p => Sys2Proof.Machine.execEpRstN p s
  | .epCtlEnableWrite p on => Sys2Proof.Machine.execEpCtlEnableWrite p on s
  | .epRtWrite p entry lo hi => Sys2Proof.Machine.execEpRtWrite p entry lo hi s
  | .epNodeWrite p v => Sys2Proof.Machine.execEpNodeWrite p v s
  | .rqLd p b => Sys2Proof.Machine.execRqLd p b s
  | .rqSt p b => Sys2Proof.Machine.execRqSt p b s
  | .rqMst p b => Sys2Proof.Machine.execRqMst p b s
  | .rqRed p b => Sys2Proof.Machine.execRqRed p b s
  | .rqFadd p b => Sys2Proof.Machine.execRqFadd p b s
  | .rqMin p b => Sys2Proof.Machine.execRqMin p b s
  | .rqMax p b => Sys2Proof.Machine.execRqMax p b s
  | .rqSwap p b => Sys2Proof.Machine.execRqSwap p b s
  | .rqCas p b => Sys2Proof.Machine.execRqCas p b s
  | .rqAnd p b => Sys2Proof.Machine.execRqAnd p b s
  | .rqOr p b => Sys2Proof.Machine.execRqOr p b s
  | .rqXor p b => Sys2Proof.Machine.execRqXor p b s
  | .rqFence p b => Sys2Proof.Machine.execRqFence p b s
  | .rqTld p b => Sys2Proof.Machine.execRqTld p b s
  | .rqTst p b => Sys2Proof.Machine.execRqTst p b s
  | .rqTred p b => Sys2Proof.Machine.execRqTred p b s
  | .wdBeat p data => Sys2Proof.Machine.execWdBeat p data s
  | .isResponse p itag status data => Sys2Proof.Machine.execIsResponse p itag status data s
  | .inTimeoutExpiry p itag => Sys2Proof.Machine.execInTimeoutExpiry p itag s
  | .strictLinkWord p strict predFar => Sys2Proof.Machine.execStrictLinkWord p strict predFar s
  | .epLinkDown p => Sys2Proof.Machine.execEpLinkDown p s
  | .glbPortPartStageWrite p v => Sys2Proof.Machine.execGlbPortPartStageWrite p v s
  | .glbPartSwapWrite v => Sys2Proof.Machine.execGlbPartSwapWrite v s
  | .glbPortScrub v => Sys2Proof.Machine.execGlbPortScrub v s
  | .portScrubDone p => Sys2Proof.Machine.execPortScrubDone p s
  | .glbCohortWrite c part v => Sys2Proof.Machine.execGlbCohortWrite c part v s
  | .glbNodeWrite v => Sys2Proof.Machine.execGlbNodeWrite v s
  | .secAttest v => Sys2Proof.Machine.execSecAttest v s
  | .attestationReportReady => Sys2Proof.Machine.execAttestationReportReady s
  | .ephemeralKeyExpiry c => Sys2Proof.Machine.execEphemeralKeyExpiry c s
  | .secImportGo => Sys2Proof.Machine.execSecImportGo s
  | .secLockerClear v => Sys2Proof.Machine.execSecLockerClear v s
  | .secSealCreate idx base len cohort slot => Sys2Proof.Machine.execSecSealCreate idx base len cohort slot s
  | .sealZeroingDone idx => Sys2Proof.Machine.execSealZeroingDone idx s
  | .secTeardown v => Sys2Proof.Machine.execSecTeardown v s
  | .teardownComplete c writeErr => Sys2Proof.Machine.execTeardownComplete c writeErr s
  | .bootStageVerified stage image => Sys2Proof.Machine.execBootStageVerified stage image s
  | .powerOn cold => Sys2Proof.Machine.execPowerOn cold s
  | .wingSelfTestDone w => Sys2Proof.Machine.execWingSelfTestDone w s
  | .railFault rail => Sys2Proof.Machine.execRailFault rail s
  | .resetCompute cause => Sys2Proof.Machine.execResetCompute cause s
  | .resetSwitchLinks cause => Sys2Proof.Machine.execResetSwitchLinks cause s
  | .resetMemory cause => Sys2Proof.Machine.execResetMemory cause s
  | .fenceDrained d => Sys2Proof.Machine.execFenceDrained d s
  | .drainTimeoutExpiry d => Sys2Proof.Machine.execDrainTimeoutExpiry d s
  | .resetComplete d => Sys2Proof.Machine.execResetComplete d s
  | .portWatchdog p => Sys2Proof.Machine.execPortWatchdog p s
  | .internalPortWatchdog p => Sys2Proof.Machine.execInternalPortWatchdog p s
  | .homeWatchdog ch => Sys2Proof.Machine.execHomeWatchdog ch s
  | .principalWatchdog => Sys2Proof.Machine.execPrincipalWatchdog s
  | .junctionSensorRead temps => Sys2Proof.Machine.execJunctionSensorRead temps s
  | .thermalHoldRelease => Sys2Proof.Machine.execThermalHoldRelease s
  | .thermtrip => Sys2Proof.Machine.execThermtrip s
  | .heartbeat => Sys2Proof.Machine.execHeartbeat s
  | .heartbeatLost => Sys2Proof.Machine.execHeartbeatLost s
  | .pcapWindow meanW => Sys2Proof.Machine.execPcapWindow meanW s
  | .calCommitTimer => Sys2Proof.Machine.execCalCommitTimer s
  | .gbExport => Sys2Proof.Machine.execGbExport s
  | .gbImport => Sys2Proof.Machine.execGbImport s
  | .gbCommit => Sys2Proof.Machine.execGbCommit s
  | .fwChunk => Sys2Proof.Machine.execFwChunk s
  | .fwPrefer => Sys2Proof.Machine.execFwPrefer s
  | .svnRaise => Sys2Proof.Machine.execSvnRaise s
  | .prinCmdUnknown code => Sys2Proof.Machine.execPrinCmdUnknown code s
  | .registerWrite addr data => Sys2Proof.Machine.execRegisterWrite addr data s
  | .reservedSlot site => Sys2Proof.Machine.execReservedSlot site s
  | .flitReplay p => Sys2Proof.Machine.execFlitReplay p s
  | .prbsCheckerLock p lane => Sys2Proof.Machine.execPrbsCheckerLock p lane s
  | .prbsCheckerLockLost p lane => Sys2Proof.Machine.execPrbsCheckerLockLost p lane s
  | .lossOfPower => Sys2Proof.Machine.execLossOfPower s
  | .epRtHoldWrite p word v => Sys2Proof.Machine.execEpRtHoldWrite p word v s
  | .epRtxWrite p v => Sys2Proof.Machine.execEpRtxWrite p v s
  | .epWinTimeoutWrite p v => Sys2Proof.Machine.execEpWinTimeoutWrite p v s
  | .swapAnnouncement p k => Sys2Proof.Machine.execSwapAnnouncement p k s
  | .joinAnnouncement p k => Sys2Proof.Machine.execJoinAnnouncement p k s
  | .testRequest p on => Sys2Proof.Machine.execTestRequest p on s
  | .loopRequest p => Sys2Proof.Machine.execLoopRequest p s
  | .auditRequest p lesson ctrlLane => Sys2Proof.Machine.execAuditRequest p lesson ctrlLane s
  | .prismPowerOnLock p => Sys2Proof.Machine.execPrismPowerOnLock p s

end Sys2Proof.Machine
end

