-- ==== Sys2Proof/WellFormed.lean ====
section
/-! DEFINITION. Which commands are well formed: what a row's operands must satisfy before the row names one command at all.
A frame row's opcode is the row's, a request's opcode lies in the row's family, a list has a length that its row can carry. -/

namespace Sys2Proof

/-- A frame with a payload that R172 allows. -/
def frameOk (f : Frame) : Bool := f.payload.length ≤ 2048
/-- A frame whose opcode lies in a range (R81, R181). -/
def opFrom (lo hi : Nat) (f : Frame) : Bool := frameOk f && lo ≤ f.opcode.toNat && f.opcode.toNat ≤ hi
/-- A frame of one opcode. -/
def opIs (op : Nat) (f : Frame) : Bool := opFrom op op f
/-- A request whose opcode lies in a range (R81). -/
def reqFrom (lo hi : Nat) (r : Req) : Bool := opFrom lo hi r.f
/-- A die's request beat whose OP R510 assigns to nothing: any of the rows may carry it, and it is answered ALIGN. -/
def beatReserved (b : RqBeat) : Bool :=
  let n := b.op.toNat
  n = 0 || (4 ≤ n && n ≤ 7) || (0x0C ≤ n && n ≤ 0x0F) || 0x5A ≤ n
/-- A die's request beat whose OP lies in a range (R510), or is reserved. -/
def beatFrom (lo hi : Nat) (b : RqBeat) : Bool :=
  (lo ≤ b.op.toNat && b.op.toNat ≤ hi) || beatReserved b
/-- A role entry's tag is one of 1 to 255 (R264). -/
def roleOk (r : RoleImage) : Bool := r.entry.extractLsb' 16 8 ≠ 0
/-- A collective descriptor keeps the bounds of R335. -/
def collOk (x : CollImage) : Bool :=
  let f := fun (b n : Nat) => (x.desc.extractLsb' (8 * b) (8 * n)).toNat
  decide (f 4 1 ≤ 2) && decide (1 ≤ f 6 1) && decide (f 6 1 ≤ 64) && decide (f 7 1 < f 6 1) && decide (f 12 4 < f 16 4)
    && decide (f 16 4 ≤ f 20 4) && f 24 6 % 64 = 0 && decide (f 30 2 ≤ 4096) && decide (f 33 1 ≤ 64) && x.watch.length = f 33 1
/-- A page keeps the bounds of its tables: a run of 1 to 2^32 Lessons and a plan range inside the store (R36), role tags (R264), at
most 64 descriptors (R335), 0 to 1,024 step entries (R365). -/
def pageOk (i : PageImage) : Bool :=
  decide (1 ≤ i.run) && decide (i.run ≤ 2 ^ 32) && decide (i.planFirst ≤ 4095) && decide (i.planFirst + i.planCount ≤ 4096)
    && i.roles.all roleOk && decide (i.colls.length ≤ 64) && i.colls.all collOk && decide (i.steps.length ≤ 1024)

/-- A command is well formed. -/
def Instr.wellFormed : Instr → Bool
  | .bell => true
  | .rollCallCheck => true
  | .rollCallActivate => true
  | .rollCallSwap => true
  | .rollCallGap => true
  | .prismSettled _ => true
  | .bodyStart => true
  | .closingGuard => true
  | .bellFrameSend => true
  | .bellFrame _ f => opIs 0x70 f
  | .leadErr f => opIs 0x75 f
  | .bellMissed => true
  | .masterLost => true
  | .candidacy _ f => opIs 0x71 f
  | .electionEnd => true
  | .bellInEdge => true
  | .bellInEdgeMissing => true
  | .stretch f => opIs 0x74 f
  | .stretchHoldExpiry => true
  | .pwrAlertN _ => true
  | .coolantAlertN _ => true
  | .bellLessonLenWrite _ => true
  | .bellGuardWrite _ => true
  | .bellLeadWrite _ => true
  | .ttPost _ _ => true
  | .bellCtlPartWrite _ => true
  | .timetableLoaded _ i => pageOk i
  | .strictWrite _ => true
  | .ldRequest r => reqFrom 0x01 0x01 r
  | .stRequest r => reqFrom 0x02 0x02 r
  | .mstRequest r => reqFrom 0x03 0x03 r
  | .mstContextFreed => true
  | .redRequest r _ => reqFrom 0x10 0x1F r
  | .faddRequest r _ => reqFrom 0x20 0x2F r
  | .minRequest r => reqFrom 0x30 0x3F r
  | .maxRequest r => reqFrom 0x40 0x4F r
  | .swap32Request r => reqFrom 0x50 0x50 r
  | .swap64Request r => reqFrom 0x51 0x51 r
  | .cas64Request r => reqFrom 0x52 0x52 r
  | .cas128Request r => reqFrom 0x53 0x53 r
  | .and32Request r => reqFrom 0x54 0x54 r
  | .and64Request r => reqFrom 0x55 0x55 r
  | .or32Request r => reqFrom 0x56 0x56 r
  | .or64Request r => reqFrom 0x57 0x57 r
  | .xor32Request r => reqFrom 0x58 0x58 r
  | .xor64Request r => reqFrom 0x59 0x59 r
  | .reservedOpcodeRequest r => reqFrom 0x01 0x5F r
  | .response _ f => opFrom 0x80 0xFF f
  | .rds _ f => opIs 0x60 f
  | .rdx _ f => opIs 0x61 f
  | .upg _ f => opIs 0x62 f
  | .putm _ f => opIs 0x63 f
  | .puto _ f => opIs 0x64 f
  | .putc _ f => opIs 0x65 f
  | .snps _ f => opIs 0x68 f
  | .snpi _ f => opIs 0x69 f
  | .snpd _ f => opIs 0x6A f
  | .flush _ f => opIs 0x6B f
  | .snoopResponse _ f => opFrom 0xE8 0xEA f
  | .grant _ f => opFrom 0xE0 0xE2 f
  | .retryResponse _ f => opFrom 0xE0 0xE5 f
  | .retryBackoffExpiry _ _ => true
  | .putAck _ f => opFrom 0xE3 0xE5 f
  | .reservationExpiry _ => true
  | .homeLineStable _ => true
  | .transientWayFreed _ _ => true
  | .cohMembersWrite _ => true
  | .flushResponse _ f => opIs 0xEB f
  | .cohLineRelease _ => true
  | .cohPortRelease _ => true
  | .frameArrival _ f => frameOk f
  | .dep7FrameAccept _ f => frameOk f
  | .creditReturn _ _ _ => true
  | .sync _ f => opIs 0x76 f
  | .syncResponse _ f => opIs 0xF6 f
  | .rtxTimeout _ _ => true
  | .winTimeout _ _ _ => true
  | .agedNotice _ f => opFrom 0x80 0xFF f
  | .windowRoom _ _ => true
  | .replyHoldExpiry _ _ _ => true
  | .swcRtStageWrite _ _ _ => true
  | .swcRtSwapWrite _ => true
  | .swcRtHoldWrite _ _ => true
  | .swcRtxWrite _ => true
  | .swcWinTimeoutWrite _ => true
  | .portDown _ => true
  | .overflowWrite _ => true
  | .overflowReadback _ => true
  | .wredAvgUpdate => true
  | .ageTick => true
  | .outputGrant _ => true
  | .bufMinWrite _ _ => true
  | .creditAdvWrite _ _ => true
  | .vcCfgWrite _ _ => true
  | .swcOvfOnWrite _ => true
  | .swcOvfRegionWrite _ _ => true
  | .wredSetWrite _ _ _ _ => true
  | .swcArbWrite _ => true
  | .swcAgeLimitWrite _ => true
  | .swcMarkerWrite _ _ _ => true
  | .swcMcGroupWrite _ _ => true
  | .colMcOwnerWrite _ _ => true
  | .accessCompletion _ _ _ _ _ => true
  | .fetchBlockDelivery _ _ _ => true
  | .longTallyAccept _ _ => true
  | .longTallyComplete _ _ _ => true
  | .routerStall _ _ => true
  | .timetabledDeparture _ _ => true
  | .fenceRelDrained _ _ => true
  | .illegalInstruction _ _ _ => true
  | .chNop _ => true
  | .chEnd _ => true
  | .chYield _ => true
  | .chBr _ => true
  | .chLoop _ => true
  | .chBrs _ => true
  | .chJr _ => true
  | .chMfsr _ => true
  | .chMtsr _ => true
  | .chRcv _ => true
  | .chPlog _ => true
  | .chAdd _ => true
  | .chSub _ => true
  | .chMul _ => true
  | .chMulh _ => true
  | .chAnd _ => true
  | .chOr _ => true
  | .chXor _ => true
  | .chShl _ => true
  | .chShr _ => true
  | .chMin _ => true
  | .chMax _ => true
  | .chCmp _ => true
  | .chSel _ => true
  | .chMovi _ => true
  | .chMovhi _ => true
  | .chAddi _ => true
  | .chVadd _ => true
  | .chVsub _ => true
  | .chVmul _ => true
  | .chVand _ => true
  | .chVor _ => true
  | .chVxor _ => true
  | .chVshl _ => true
  | .chVshr _ => true
  | .chVmin _ => true
  | .chVmax _ => true
  | .chVcmp _ => true
  | .chVsel _ => true
  | .chVperm _ => true
  | .chVpopc _ => true
  | .chVsgn _ => true
  | .chVmov _ => true
  | .chVbcast _ => true
  | .chVext _ => true
  | .chVins _ => true
  | .chVfma _ => true
  | .chVfadd _ => true
  | .chVfsub _ => true
  | .chVfmul _ => true
  | .chVfmin _ => true
  | .chVfmax _ => true
  | .chVfcmp _ => true
  | .chVcvt _ => true
  | .chVfsum _ _ => true
  | .chFtr _ => true
  | .chRng _ => true
  | .chTadd _ _ => true
  | .chTrd _ => true
  | .chTclr _ => true
  | .chTst _ => true
  | .chTlda _ _ => true
  | .chLtadd _ => true
  | .chLtrd _ => true
  | .chLtclr _ => true
  | .chSld _ => true
  | .chSst _ => true
  | .chBbld _ => true
  | .chBbst _ => true
  | .chFld _ => true
  | .chFst _ => true
  | .chFat _ => true
  | .chRed _ => true
  | .chMst _ => true
  | .chAcq _ => true
  | .chRel _ => true
  | .chFence _ => true
  | .chCvtp _ => true
  | .chOmv _ => true
  | .verdictDecision _ => true
  | .walkTableRead _ _ => true
  | .walkComplete _ => true
  | .transferStart _ _ => true
  | .tileTranslated _ _ => true
  | .tileComplete _ _ => true
  | .transferPark _ _ => true
  | .fltTailWrite _ => true
  | .fltResumeRetry _ => true
  | .fltResumeAbort _ => true
  | .xltPfdWrite _ _ => true
  | .invFvaRange _ _ _ => true
  | .invCohortAll _ => true
  | .invIaRange _ _ _ => true
  | .invPartitionAll _ => true
  | .invWalkCaches => true
  | .inval _ f => opIs 0x72 f
  | .invalDrained _ _ => true
  | .invalAck f => opIs 0x73 f
  | .invTimeout _ => true
  | .channelRefresh _ _ => true
  | .bankHoldEnd _ _ => true
  | .patrolRead _ => true
  | .channelTrainingComplete _ _ _ => true
  | .g7mTtRegionWrite _ => true
  | .g7mArbWrite _ => true
  | .g7mScrubWrite _ => true
  | .matrixDecompositionDone _ _ => true
  | .omuMtxInvalWrite _ => true
  | .omuCtlWrite _ => true
  | .vectorFrame f _ => frameOk f
  | .prismFrameGrant _ => true
  | .prismResult _ => true
  | .prismLockLoopUpdate _ _ => true
  | .prismRelocked _ => true
  | .prismRelockTimeout _ => true
  | .prismRecalibration _ => true
  | .calGraceExpiry _ => true
  | .opticalLinkStart _ => true
  | .ringTableSettled _ _ _ => true
  | .ringPeakFound _ _ _ => true
  | .ringAcquireTimeout _ _ _ => true
  | .ringVerifyDone _ _ _ _ => true
  | .ringDitherUpdate _ _ _ _ => true
  | .ringIdentityRead _ _ _ _ => true
  | .ringSweepDone _ _ _ _ => true
  | .marginTestEnd _ _ => true
  | .spareRetestEnd _ _ _ => true
  | .resultsExchangeEnd _ _ => true
  | .linkDelayMeasured _ roundTrips => roundTrips.length = 64
  | .opticalPortUp _ => true
  | .opticalLinkStartFail _ => true
  | .linkRestartWaitExpiry _ => true
  | .laserMpdSample _ _ _ => true
  | .fomMarginEstimate _ _ _ => true
  | .spareWarmed _ _ => true
  | .spareWarmTimeout _ _ => true
  | .swapAnnounceAck _ _ => true
  | .laserDriverFault _ _ => true
  | .activeSetChange _ _ => true
  | .joinAnnounceAck _ _ => true
  | .optCtlEnableWrite _ _ => true
  | .optCtlRestart _ => true
  | .optCtlMeliumWrite _ _ => true
  | .optCtlRecal _ => true
  | .recalComplete _ offsets => offsets.length = 32
  | .electricalLinkStart _ _ => true
  | .elecFomCheck _ _ _ => true
  | .elecLinkStartFail _ => true
  | .elecPortUp _ => true
  | .laneFomUpdate _ _ _ _ _ => true
  | .elecCtlTestWrite _ _ => true
  | .elecCtlLoopWrite _ _ => true
  | .farEndLoopAck _ => true
  | .farEndLoopTimeout _ => true
  | .prbsInjOne _ _ => true
  | .prbsChkClear _ _ => true
  | .auditWrite _ _ => true
  | .auditAck _ => true
  | .sleepIdleExpiry _ _ => true
  | .sleepWake _ _ => true
  | .sleepWakeComplete _ => true
  | .sleepWord _ _ _ => true
  | .elecCtlDeepEnter _ => true
  | .elecCtlDeepExit _ => true
  | .elecCtlEnableWrite _ _ => true
  | .elecCtlRestart _ => true
  | .elecCtlReserveWrite _ _ => true
  | .bar2Read b => b.len ≥ 1 && b.len ≤ 4096
  | .bar2Write b data => b.len ≥ 1 && b.len ≤ 4096 && data.length = b.len
  | .bar4StagingWrite _ data => data.length ≥ 1
  | .perstN => true
  | .hostHotReset => true
  | .functionLevelReset _ => true
  | .hostLinkDown _ => true
  | .hostLinkUp _ => true
  | .relaySlotPerform _ _ => true
  | .bifurcateWrite _ => true
  | .epRstN _ => true
  | .epCtlEnableWrite _ _ => true
  | .epRtWrite _ _ _ _ => true
  | .epNodeWrite _ _ => true
  | .rqLd _ b => beatFrom 0x01 0x01 b
  | .rqSt _ b => beatFrom 0x02 0x02 b
  | .rqMst _ b => beatFrom 0x03 0x03 b
  | .rqRed _ b => beatFrom 0x10 0x1F b
  | .rqFadd _ b => beatFrom 0x20 0x2F b
  | .rqMin _ b => beatFrom 0x30 0x3F b
  | .rqMax _ b => beatFrom 0x40 0x4F b
  | .rqSwap _ b => beatFrom 0x50 0x51 b
  | .rqCas _ b => beatFrom 0x52 0x53 b
  | .rqAnd _ b => beatFrom 0x54 0x55 b
  | .rqOr _ b => beatFrom 0x56 0x57 b
  | .rqXor _ b => beatFrom 0x58 0x59 b
  | .rqFence _ b => beatFrom 0x08 0x08 b
  | .rqTld _ b => beatFrom 0x09 0x09 b
  | .rqTst _ b => beatFrom 0x0A 0x0A b
  | .rqTred _ b => beatFrom 0x0B 0x0B b
  | .wdBeat _ data => 1 ≤ data.length && data.length ≤ 64
  | .isResponse _ _ _ data => data.length ≤ 2048
  | .inTimeoutExpiry _ _ => true
  | .strictLinkWord _ _ _ => true
  | .epLinkDown _ => true
  | .glbPortPartStageWrite _ _ => true
  | .glbPartSwapWrite _ => true
  | .glbPortScrub _ => true
  | .portScrubDone _ => true
  | .glbCohortWrite _ _ _ => true
  | .glbNodeWrite _ => true
  | .secAttest _ => true
  | .attestationReportReady => true
  | .ephemeralKeyExpiry _ => true
  | .secImportGo => true
  | .secLockerClear _ => true
  | .secSealCreate _ _ _ _ _ => true
  | .sealZeroingDone _ => true
  | .secTeardown _ => true
  | .teardownComplete _ _ => true
  | .bootStageVerified _ _ => true
  | .powerOn _ => true
  | .wingSelfTestDone _ => true
  | .railFault _ => true
  | .resetCompute _ => true
  | .resetSwitchLinks _ => true
  | .resetMemory _ => true
  | .fenceDrained _ => true
  | .drainTimeoutExpiry _ => true
  | .resetComplete _ => true
  | .portWatchdog _ => true
  | .internalPortWatchdog _ => true
  | .homeWatchdog _ => true
  | .principalWatchdog => true
  | .junctionSensorRead _ => true
  | .thermalHoldRelease => true
  | .thermtrip => true
  | .heartbeat => true
  | .heartbeatLost => true
  | .pcapWindow _ => true
  | .calCommitTimer => true
  | .gbExport => true
  | .gbImport => true
  | .gbCommit => true
  | .fwChunk => true
  | .fwPrefer => true
  | .svnRaise => true
  | .prinCmdUnknown _ => true
  | .registerWrite (.bar0 _) data => data.length ≥ 1
  | .registerWrite (.cf _ addr) data => data.length = 8 && addr.toNat % 8 = 0
  | .reservedSlot _ => true
  | .flitReplay _ => true
  | .prbsCheckerLock _ _ => true
  | .prbsCheckerLockLost _ _ => true
  | .lossOfPower => true
  | .epRtHoldWrite _ _ _ => true
  | .epRtxWrite _ _ => true
  | .epWinTimeoutWrite _ _ => true
  | .swapAnnouncement _ _ => true
  | .joinAnnouncement _ _ => true
  | .testRequest _ _ => true
  | .loopRequest _ => true
  | .auditRequest _ _ _ => true
  | .prismPowerOnLock _ => true

end Sys2Proof
end

