-- ==== Sys2Proof/Safety.lean ====
section
/-! DEFINITION. What counts as a good state and a good run, and the forms in which the statements speak of a command: that
it completes, what its next state holds, and what it leaves alone. -/

namespace Sys2Proof.Machine

/-! ### Good states -/

/-- A memory in its canonical form: addresses strictly rising, and no entry equal to what an unlisted address reads as. -/
def Memory.wf (m : List Host.Cell) : Bool := tableOk memDefault m
/-- The module's memory and what it has written of the host's are in canonical form. -/
def State.memOk (s : State) : Bool := Memory.wf s.mem && Memory.wf s.hostMem
/-- Every command that waits is well formed. -/
def State.queueOk (s : State) : Bool := s.pending.all Instr.wellFormed
/-- A step runs on: it answers a next state. -/
def runsOn (s : State) : Prop := ∃ t, step s = .next t

/-! ### Completion -/

/-- A command completes: it answers a next state, of which P holds. -/
def Does (c : Instr) (s : State) (P : State → Prop) : Prop := ∃ t, exec c s = .next t ∧ P t

/-! ### Frames -/

/-- Nothing but BAR0 registers differs, and of these only the listed ones. -/
def OnlyRegs (s t : State) (l : List Nat) : Prop := { t with regs := s.regs } = s ∧ ∀ a, a ∉ l → t.reg a = s.reg a
/-- Nothing but BAR0 registers and outputs differs, and of the registers only the listed ones. -/
def OnlyRegsOut (s t : State) (l : List Nat) : Prop :=
  { t with regs := s.regs, out := s.out } = s ∧ ∀ a, a ∉ l → t.reg a = s.reg a
/-- Every byte of the module's memory reads as before. -/
def SameMemory (s t : State) : Prop := ∀ a, t.byte a = s.byte a
/-- Every byte outside `n` bytes from `lo` reads as before. -/
def SameMemoryBut (s t : State) (lo n : Nat) : Prop := ∀ a, a < lo ∨ lo + n ≤ a → t.byte a = s.byte a
/-- Every BAR0 register reads as before. -/
def SameRegs (s t : State) : Prop := ∀ a, t.reg a = s.reg a

/-! ### Register commands -/

/-- A write of the field `lo`, `len` of the register `a`: outside the recovery state a value that `ok` admits is taken and no
other register changes; any other value leaves the register as it was and sets the error bit `bit` of `err`. -/
def FieldWrite (c : BitVec 64 → Instr) (a lo len : Nat) (ok : State → BitVec 64 → Prop) (err bit : Nat) : Prop :=
  ∀ (v : BitVec 64) (s : State), s.recovery = false →
    (ok s v → Does (c v) s (fun t => t.regF a lo len = fget v lo len ∧ OnlyRegs s t [a])) ∧
    (¬ ok s v → Does (c v) s (fun t => t.regBit err bit = true ∧ t.reg a = s.reg a ∧ OnlyRegs s t [err]))
/-- Commands that in the recovery state change nothing, and are answered with an Unsupported Request. -/
def RefusedInRecovery (c : Instr) : Prop := ∀ s : State, s.recovery = true → exec c s = .next (s.emit (.aer .unsupported))
/-- The rows that stand for one write of a BAR0 register outside the PRIN and SEC blocks. -/
def bar0Row : Instr → Bool
  | .bellLessonLenWrite _ | .bellGuardWrite _ | .bellLeadWrite _ | .ttPost _ _ | .bellCtlPartWrite _ | .strictWrite _
  | .cohMembersWrite _ | .cohLineRelease _ | .cohPortRelease _ | .swcRtStageWrite _ _ _ | .swcRtSwapWrite _
  | .swcRtHoldWrite _ _ | .swcRtxWrite _ | .swcWinTimeoutWrite _ | .bufMinWrite _ _ | .creditAdvWrite _ _ | .vcCfgWrite _ _
  | .swcOvfOnWrite _ | .swcOvfRegionWrite _ _ | .wredSetWrite _ _ _ _ | .swcArbWrite _ | .swcAgeLimitWrite _
  | .swcMarkerWrite _ _ _ | .swcMcGroupWrite _ _ | .colMcOwnerWrite _ _ | .fltTailWrite _ | .fltResumeRetry _
  | .fltResumeAbort _ | .xltPfdWrite _ _ | .invFvaRange _ _ _ | .invCohortAll _ | .invIaRange _ _ _ | .invPartitionAll _
  | .invWalkCaches | .g7mTtRegionWrite _ | .g7mArbWrite _ | .g7mScrubWrite _ | .omuMtxInvalWrite _ | .omuCtlWrite _
  | .optCtlEnableWrite _ _ | .optCtlRestart _ | .optCtlMeliumWrite _ _ | .optCtlRecal _ | .elecCtlTestWrite _ _
  | .elecCtlLoopWrite _ _ | .prbsInjOne _ _ | .prbsChkClear _ _ | .auditWrite _ _ | .elecCtlDeepEnter _ | .elecCtlDeepExit _
  | .elecCtlEnableWrite _ _ | .elecCtlRestart _ | .elecCtlReserveWrite _ _ | .bifurcateWrite _ | .glbPortPartStageWrite _ _
  | .glbPartSwapWrite _ | .glbPortScrub _ | .glbCohortWrite _ _ _ | .glbNodeWrite _ => true
  | .resetCompute c | .resetSwitchLinks c | .resetMemory c => decide (c = .hostWrite)
  | _ => false
/-- Nothing but the Bell's own state differs. -/
def OnlyBell (s t : State) : Prop := { t with bell := s.bell } = s
/-- Nothing but the Bell's own state, BAR0 registers and outputs differs, and of the registers only the listed ones. -/
def OnlyBellRegs (s t : State) (l : List Nat) : Prop :=
  { t with bell := s.bell, regs := s.regs, out := s.out } = s ∧ ∀ a, a ∉ l → t.reg a = s.reg a

/-! ### Memory requests -/

/-- A request of one of the module's own engines that its home performs at once: no status of orders 2 to 11 of R106 applies, none of
its lines is owned, shared or in transit, and no earlier request holds it back. -/
def AtOnce (s : State) (r : Req) : Prop :=
  Req.isFrame r = false ∧ (∀ off, s.whereIs (Req.off r) ≠ .mirror off) ∧ s.refusal r = none ∧ s.mustWait r = false ∧
  s.lateRefusal r = none ∧ (Req.off r < 2 ^ 40 → ∀ l ∈ Req.lines r, s.dirOf l = {})
/-- A Seat's access makes the request, while nothing waits at the home and no stream engine is at work. -/
def Alone (s : State) (r : Req) (d : DeskId) (k : Fin 4) (id : Nat) : Prop :=
  r.via = .desk d k id ∧ s.coh.waitq = [] ∧ s.strms = []
/-- The request is carried out on memory itself: no tally slot (R90, R92) and no inbox, and no line of it in error. -/
def OnBytes (s : State) (r : Req) : Prop :=
  s.slotted (Req.op r) = false ∧ (∀ d o, s.whereIs (Req.off r) ≠ .inbox d o) ∧ ∀ l ∈ Req.lines r, s.lineBad l = false
/-- A Seat's access has its result. -/
def Answered (t : State) (d : DeskId) (k : Fin 4) (id : Nat) (st : BitVec 5) (data : List Byte) : Prop :=
  ∀ a ∈ (t.seat (DeskId.idx d) k).acc, a.id = id → a.result = some (st, data)
/-- The data a performed request returns: what an LD reads, and the old value for an atomic (R85, R88). -/
def Req.answer (s : State) (r : Req) : List Byte :=
  if Req.op r = 1 then s.bytes (Req.off r) (Req.len r)
  else if 2 ≤ Req.op r / 16 then s.bytes (Req.off r) (operandSize (Req.op r)) else []
/-- What a performed request leaves in memory: an LD nothing, an ST its bytes, a RED the sum of each element, an atomic its new
value; every other byte as it was (R85, R88, R91). -/
def Performed (s t : State) (r : Req) : Prop :=
  let a := Req.off r
  let op := Req.op r
  let z := typeSize (op % 16)
  (op = 1 → SameMemory s t) ∧
  (op = 2 → t.bytes a (Req.len r) = r.f.payload ∧ SameMemoryBut s t a (Req.len r)) ∧
  (op / 16 = 1 → SameMemoryBut s t a (Req.len r) ∧
    ∀ i, i * z < Req.len r → t.num (a + i * z) z = (s.num (a + i * z) z + leAt r.f.payload (i * z) z) % 2 ^ (8 * z)) ∧
  (2 ≤ op / 16 → SameMemoryBut s t a (operandSize op) ∧ t.bytes a (operandSize op) =
    leBytes (operandSize op) (atomicNew op (leNat (s.bytes a (operandSize op))) r.f.payload))
/-- A family of memory requests: one that its home performs at once is performed and answered, one that a status refuses is
answered with it, and one of another family changes nothing. -/
def RequestFamily (c : Req → Instr) (fam : Nat → Prop) (u : Int) : Prop :=
  ∀ (r : Req) (s : State),
    (fam (Req.op r) → AtOnce s r → exec (c r) s = .next (((s.performAnswer r u false [] []).homeGoes).settleStreams)) ∧
    (∀ d k id, fam (Req.op r) → AtOnce s r → Alone s r d k id → OnBytes s r →
      Does (c r) s (fun t => Answered t d k id stOk (Req.answer s r) ∧ Performed s t r)) ∧
    (∀ st, fam (Req.op r) → Req.isFrame r = false → (∀ off, s.whereIs (Req.off r) ≠ .mirror off) → s.refusal r = some st →
      exec (c r) s = .next (((s.finish r st false []).homeGoes).settleStreams)) ∧
    (∀ d k id st, fam (Req.op r) → Alone s r d k id → (∀ off, s.whereIs (Req.off r) ≠ .mirror off) → s.refusal r = some st →
      Does (c r) s (fun t => Answered t d k id st [] ∧ SameMemory s t)) ∧
    (¬ fam (Req.op r) → exec (c r) s = .next s)

/-! ### Die requests -/

/-- Nothing of a state differs but DEP-7s and outputs. -/
def OnlyDeps (s t : State) : Prop := { t with deps := s.deps, out := s.out } = s
/-- A DEP-7 has no request, no line in its Satchel and no FLUSH to answer. -/
def DieIdle (d : Dep) : Prop := d.reqs = [] ∧ d.sat = [] ∧ d.flush = none
/-- What the block makes of a request: its number, what it still needs, and ALIGN where its fields are not legal. -/
def dieReqOf (d : Dep) (ok : Bool) (b : RqBeat) : DieReq :=
  { id := d.nextId, b := b, need := wdBytes b, early := if ok then none else some (stAlign, 0) }
/-- A die request of one family on RQ (R510, R511): with its tag free and room in the block it is taken, one whose fields are not
legal to be answered ALIGN, and the block goes on as far as it can; with its tag in use or no room it does not transfer. In an
idle block one with write data to come waits for them; of those without, one that is not legal is answered ALIGN at once, one of a block
whose node ID is not VALID NO_ROUTE, and a fence OK; any other whose first page is not in the TLB has a walk for that page. -/
def BeatFamily (c : Fin 64 → RqBeat → Instr) (fam : RqBeat → Bool) : Prop :=
  ∀ (p : Fin 64) (b : RqBeat) (s : State),
    let ok := fam b && beatLegal b
    let rs := fun (st : BitVec 5) => Out.rs p.val b.thread.toNat b.tag.toNat st.toNat 0 true 0 []
    ((∀ r ∈ (s.dep p.val).reqs, r.b.tag ≠ b.tag) → (s.dep p.val).reqs.length < 2048 →
      ((s.dep p.val).reqs.filter (fun r => r.b.thread = b.thread)).length < 256 →
      exec (c p b) s = .next ((s.setDep p.val { s.dep p.val with
        reqs := (s.dep p.val).reqs ++ [dieReqOf (s.dep p.val) ok b], nextId := (s.dep p.val).nextId + 1 }).settleDep p.val)) ∧
    (((∃ r ∈ (s.dep p.val).reqs, r.b.tag = b.tag) ∨ 2048 ≤ (s.dep p.val).reqs.length ∨
      256 ≤ ((s.dep p.val).reqs.filter (fun r => r.b.thread = b.thread)).length) → exec (c p b) s = .next s) ∧
    (DieIdle (s.dep p.val) → 0 < wdBytes b → Does (c p b) s (fun t => OnlyDeps s t ∧ t.out = s.out ∧
      t.dep p.val = { s.dep p.val with reqs := [dieReqOf (s.dep p.val) ok b], nextId := (s.dep p.val).nextId + 1 })) ∧
    (DieIdle (s.dep p.val) → wdBytes b = 0 → ok = false ∨ s.epBit p.val eNode 63 = false ∨ b.op = 8 → Does (c p b) s (fun t => OnlyDeps s t ∧
      t.out = rs (if !ok then stAlign else if !s.epBit p.val eNode 63 then stNoRoute else stOk) :: s.out ∧
      t.dep p.val = { s.dep p.val with nextId := (s.dep p.val).nextId + 1 })) ∧
    (DieIdle (s.dep p.val) → wdBytes b = 0 → ok = true → s.epBit p.val eNode 63 = true → b.op ≠ 8 → (s.dep p.val).tlb = [] →
      s.depWalks p.val = [] → s.epBit p.val eStatus 11 = true → Does (c p b) s (fun t => t.out = s.out ∧ SameMemory s t ∧
        (t.dep p.val).reqs = [dieReqOf (s.dep p.val) ok b] ∧ ∃ w ∈ t.xl.walks, w.who = .dep p.val (s.dep p.val).nextId ∧
          w.fva = b.fva.toNat / 4096 * 4096 ∧ w.cohort = s.threadCohort p.val b))

/-! ### Chalk instructions -/

/-- An instruction issues: its Seat may issue it, its word is legal and its guard lets it take effect (R281, R283). -/
def ChalkReady (s : State) (op : Nat) (i : ChalkOp) : Prop :=
  s.mayIssue op i = true ∧ legal op i.w = true ∧ guardOn (s.me i) i.w = true
/-- The state in which an issued instruction takes its effect. -/
def State.issuedBy (s : State) (i : ChalkOp) : State :=
  (s.setDesk (deskOf i) { s.desk (deskOf i) with cur := i.seat.val }).putMe i (s.me i).advance
/-- Nothing differs but the Desk of an instruction, and of the Desk only the Seat that is current, which holds `x`. -/
def SeatOnly (s t : State) (i : ChalkOp) (x : Seat) : Prop :=
  { t with desks := s.desks } = s ∧ (∀ j, j ≠ deskOf i → t.desk j = s.desk j) ∧
    t.desk (deskOf i) = { s.desk (deskOf i) with cur := i.seat.val, seats := (s.desk (deskOf i)).seats.set i.seat x }
/-- An instruction whose whole effect is on its Seat: `f` gives the Seat after it from the Seat past it. -/
def SeatStep (c : ChalkOp → Instr) (op : Nat) (f : State → ChalkOp → Seat → Seat) : Prop :=
  ∀ (i : ChalkOp) (s : State), ChalkReady s op i → Does (c i) s (fun t => SeatOnly s t i (f s i (s.me i).advance))
/-- An instruction whose effect reaches beyond its Seat: `f` gives the state after it from the state it issues in. -/
def IssueStep (c : ChalkOp → Instr) (op : Nat) (f : ChalkOp → State → State) : Prop :=
  ∀ (i : ChalkOp) (s : State), ChalkReady s op i → exec (c i) s = .next (f i (s.issuedBy i))

end Sys2Proof.Machine
end

