-- ==== Sys2Proof/Certificates/Slice0/Obligations.lean ====
section
/-! DEFINITION. The statements for the provers. -/

open Sys2Proof Sys2Proof.Machine

/-- Scalar arithmetic and logic of a Seat (R299): each instruction that issues writes S[D] alone, and its program counter
moves on by one. -/
def Sys2Proof.Machine.rulesScalarArithmetic : Prop :=
  SeatStep .chAdd 0x10 (fun _ i x => x.setS (fD i.w) (x.sr (fA i.w) + x.sr (fB i.w))) ∧
  SeatStep .chSub 0x11 (fun _ i x => x.setS (fD i.w) (x.sr (fA i.w) - x.sr (fB i.w))) ∧
  SeatStep .chMul 0x12 (fun _ i x => x.setS (fD i.w) (x.sr (fA i.w) * x.sr (fB i.w))) ∧
  SeatStep .chMulh 0x13 (fun _ i x => x.setS (fD i.w) (mulHigh (modBit i.w 0) (x.sr (fA i.w)) (x.sr (fB i.w)))) ∧
  SeatStep .chAnd 0x14 (fun _ i x => x.setS (fD i.w) (x.sr (fA i.w) &&& x.sr (fB i.w))) ∧
  SeatStep .chOr 0x15 (fun _ i x => x.setS (fD i.w) (x.sr (fA i.w) ||| x.sr (fB i.w))) ∧
  SeatStep .chXor 0x16 (fun _ i x => x.setS (fD i.w) (x.sr (fA i.w) ^^^ x.sr (fB i.w))) ∧
  SeatStep .chShl 0x17 (fun _ i x => x.setS (fD i.w) (x.sr (fA i.w) <<< shiftCount i.w x)) ∧
  SeatStep .chShr 0x18 (fun _ i x => x.setS (fD i.w)
    (if modBit i.w 7 then (x.sr (fA i.w)).sshiftRight (shiftCount i.w x) else x.sr (fA i.w) >>> shiftCount i.w x)) ∧
  SeatStep .chMin 0x19 (fun _ i x => x.setS (fD i.w)
    (if lessW (modBit i.w 0) 64 (x.sr (fB i.w)).toNat (x.sr (fA i.w)).toNat then x.sr (fB i.w) else x.sr (fA i.w))) ∧
  SeatStep .chMax 0x1A (fun _ i x => x.setS (fD i.w)
    (if lessW (modBit i.w 0) 64 (x.sr (fA i.w)).toNat (x.sr (fB i.w)).toNat then x.sr (fB i.w) else x.sr (fA i.w))) ∧
  SeatStep .chSel 0x1C (fun _ i x => x.setS (fD i.w) (if x.pr (fC i.w) then x.sr (fA i.w) else x.sr (fB i.w))) ∧
  SeatStep .chMovi 0x1D (fun _ i x => x.setS (fD i.w) ((fImm i.w).signExtend 64)) ∧
  SeatStep .chMovhi 0x1E (fun _ i x =>
    x.setS (fD i.w) (BitVec.ofNat 64 ((x.sr (fD i.w)).toNat % 2 ^ 41 + bits i.w 0 23 * 2 ^ 41))) ∧
  SeatStep .chAddi 0x1F (fun _ i x => x.setS (fD i.w) (x.sr (fA i.w) + (fImm i.w).signExtend 64))

/-- Control, predicates and special registers (R278, R299): whole effect on the issuing Seat. -/
def Sys2Proof.Machine.rulesControlAndPredicates : Prop :=
  SeatStep .chNop 0x01 (fun _ _ x => x) ∧
  SeatStep .chBr 0x04 (fun _ i x => x.goto (bits i.w 0 12)) ∧
  SeatStep .chLoop 0x05 (fun _ i x =>
    let y := x.setS (fA i.w) (x.sr (fA i.w) - 1);
    if x.sr (fA i.w) - 1 ≠ 0 then y.goto (bits i.w 0 12) else y) ∧
  SeatStep .chBrs 0x06 (fun _ i x =>
    if (statLast x.stat == bits i.w 12 5) != i.w.getLsbD 17 then x.goto (bits i.w 0 12) else x) ∧
  SeatStep .chJr 0x07 (fun _ i x => x.goto (x.sr (fA i.w)).toNat) ∧
  SeatStep .chMfsr 0x08 (fun s i x => x.setS (fD i.w) (s.special i (s.me i).pc (bits i.w 0 6))) ∧
  SeatStep .chMtsr 0x09 (fun _ i x =>
    if bits i.w 0 6 = 1 then { x with stat := x.sr (fA i.w) &&& statMask }
    else if bits i.w 0 6 = 2 then { x with rtag := BitVec.ofNat 8 (x.sr (fA i.w)).toNat }
    else if bits i.w 0 6 = 3 then { x with srStream := BitVec.ofNat 32 (x.sr (fA i.w)).toNat }
    else { x with srElem := BitVec.ofNat 32 (x.sr (fA i.w)).toNat }) ∧
  SeatStep .chPlog 0x0B (fun _ i x => x.setP (fD i.w) (plog (bits i.w 0 3) (x.pr (fA i.w)) (x.pr (fB i.w)))) ∧
  SeatStep .chCmp 0x1B (fun _ i x =>
    x.setP (fD i.w) (cmpCond (bits i.w 0 3) 64 (x.sr (fA i.w)).toNat (x.sr (fB i.w)).toNat))

/-- Scalar, control and predicate instructions of a Seat (R278, R299). -/
def Obligations.ScalarInstructions : Prop :=
  rulesScalarArithmetic ∧ rulesControlAndPredicates

/-- The lane-wise integer instructions (R301): lane k of V[D] comes from lane k of V[A] and V[B]. -/
def Sys2Proof.Machine.rulesVectorLanes : Prop :=
  let lanes : (Nat → Nat → Nat → Nat) → BitVec 56 → Seat → Seat := fun f w x =>
    x.setV (fD w) (ofLanes (laneW (fFmt w)) (fun k =>
      f (laneW (fFmt w)) (lane (x.vr (fA w)) (laneW (fFmt w)) k) (lane (x.vr (fB w)) (laneW (fFmt w)) k)))
  SeatStep .chVadd 0x20 (fun _ i x => lanes (fun w a b => (a + b) % 2 ^ w) i.w x) ∧
  SeatStep .chVsub 0x21 (fun _ i x => lanes (fun w a b => (a + 2 ^ w - b) % 2 ^ w) i.w x) ∧
  SeatStep .chVmul 0x22 (fun _ i x => lanes (fun w a b => a * b % 2 ^ w) i.w x) ∧
  SeatStep .chVshl 0x26 (fun _ i x => lanes (fun w a _ => a * 2 ^ bits i.w 0 6 % 2 ^ w) i.w x) ∧
  SeatStep .chVshr 0x27 (fun _ i x => lanes (fun w a _ =>
    if modBit i.w 7 then (sgn w a / 2 ^ bits i.w 0 6 % (2 ^ w : Int)).toNat else a / 2 ^ bits i.w 0 6) i.w x) ∧
  SeatStep .chVmin 0x28 (fun _ i x => lanes (fun w a b => if lessW (modBit i.w 0) w b a then b else a) i.w x) ∧
  SeatStep .chVmax 0x29 (fun _ i x => lanes (fun w a b => if lessW (modBit i.w 0) w a b then b else a) i.w x) ∧
  SeatStep .chVcmp 0x2A (fun _ i x => lanes (fun w a b => if cmpCond (bits i.w 0 3) w a b then 2 ^ w - 1 else 0) i.w x) ∧
  SeatStep .chVpopc 0x2D (fun _ i x => lanes (fun w a _ => popCount w a) i.w x) ∧
  SeatStep .chVfmin 0x44 (fun _ i x => lanes (fun _ a b => laneMinMax (fFmt i.w) false a b) i.w x) ∧
  SeatStep .chVfmax 0x45 (fun _ i x => lanes (fun _ a b => laneMinMax (fFmt i.w) true a b) i.w x) ∧
  SeatStep .chVfcmp 0x46 (fun _ i x => lanes (fun w a b =>
    if fcmpCond (bits i.w 0 2) (decodeLane (fFmt i.w) a) (decodeLane (fFmt i.w) b) then 2 ^ w - 1 else 0) i.w x)

/-- The vector instructions on whole registers, and the moves between V and S (R300, R301). -/
def Sys2Proof.Machine.rulesVectorMoves : Prop :=
  SeatStep .chVand 0x23 (fun _ i x => x.setV (fD i.w) (x.vr (fA i.w) &&& x.vr (fB i.w))) ∧
  SeatStep .chVor 0x24 (fun _ i x => x.setV (fD i.w) (x.vr (fA i.w) ||| x.vr (fB i.w))) ∧
  SeatStep .chVxor 0x25 (fun _ i x => x.setV (fD i.w) (x.vr (fA i.w) ^^^ x.vr (fB i.w))) ∧
  SeatStep .chVsel 0x2B (fun _ i x =>
    x.setV (fD i.w) ((x.vr (fC i.w) &&& x.vr (fA i.w)) ||| (~~~(x.vr (fC i.w)) &&& x.vr (fB i.w)))) ∧
  SeatStep .chVperm 0x2C (fun _ i x => x.setV (fD i.w) (ofLanes 8 (fun j =>
    if lane (x.vr (fB i.w)) 8 j < 16 then lane (x.vr (fA i.w)) 8 (lane (x.vr (fB i.w)) 8 j) else 0))) ∧
  SeatStep .chVsgn 0x2E (fun _ i x => x.setS (fD i.w) (BitVec.ofNat 64 ((List.range (128 / laneW (fFmt i.w))).foldl
    (fun n k => n + lane (x.vr (fA i.w)) (laneW (fFmt i.w)) k / 2 ^ (laneW (fFmt i.w) - 1) * 2 ^ k) 0))) ∧
  SeatStep .chVmov 0x30 (fun _ i x => x.setV (fD i.w) (x.vr (fA i.w))) ∧
  SeatStep .chVbcast 0x31 (fun _ i x => x.setV (fD i.w) (ofLanes (laneW (fFmt i.w)) (fun _ => (x.sr (fA i.w)).toNat))) ∧
  SeatStep .chVext 0x32 (fun _ i x =>
    x.setS (fD i.w) (BitVec.ofNat 64 (lane (x.vr (fA i.w)) (laneW (fFmt i.w)) (fLA i.w)))) ∧
  SeatStep .chVins 0x33 (fun _ i x =>
    x.setV (fD i.w) (setLane (x.vr (fD i.w)) (laneW (fFmt i.w)) (fLD i.w) (x.sr (fA i.w)).toNat))

/-- Integer vector instructions and moves (R300, R301). -/
def Obligations.VectorIntegers : Prop :=
  rulesVectorLanes ∧ rulesVectorMoves

/-- Rounded vector arithmetic (R286, R302): every lane is computed exactly and rounded once by RND; with stochastic rounding
SR_ELEM moves on by the lanes rounded. It rests in part on choices of the model: log 7, log 17, log 75, log 86. -/
def Obligations.VectorArithmetic : Prop :=
  let rnd : State → ChalkOp → Seat → Nat → Rnd := fun s i x k => roundingOf s (s.cohortOf (deskOf i)) x (fRnd i.w) k
  let fma : (Rnd → FVal → FVal → FVal → FVal) → State → ChalkOp → Seat → Seat := fun f s i x =>
    (x.setV (fD i.w) (ofLanes (laneW (fFmt i.w)) (fun k =>
      encodeLane (fFmt i.w) (rnd s i x k) (f (rnd s i x k)
        (decodeLane (fFmt i.w) (lane (x.vr (fA i.w)) (laneW (fFmt i.w)) k))
        (decodeLane (fFmt i.w) (lane (x.vr (fB i.w)) (laneW (fFmt i.w)) k))
        (decodeLane (fFmt i.w) (lane (x.vr (fC i.w)) (laneW (fFmt i.w)) k)))))).rounded (fRnd i.w) (128 / laneW (fFmt i.w))
  SeatStep .chVfma 0x40 (fma (fun r a b c => FVal.add r (FVal.mul a b) c)) ∧
  SeatStep .chVfadd 0x41 (fma (fun r a b _ => FVal.add r a b)) ∧
  SeatStep .chVfsub 0x42 (fma (fun r a b _ => FVal.add r a (FVal.neg b))) ∧
  SeatStep .chVfmul 0x43 (fma (fun _ a b _ => FVal.mul a b)) ∧
  SeatStep .chVcvt 0x47 (fun s i x =>
    let n := 128 / max (laneW (fFmt i.w)) (laneW (bits i.w 0 4));
    (x.setV (fD i.w) ((List.range n).foldl (fun v k => setLane v (laneW (bits i.w 0 4)) (fLD i.w * n + k)
      (encodeLane (bits i.w 0 4) (rnd s i x k)
        (decodeLane (fFmt i.w) (lane (x.vr (fA i.w)) (laneW (fFmt i.w)) (fLA i.w * n + k))))) (x.vr (fD i.w)))).rounded (fRnd i.w) n) ∧
  (∀ u : Int, SeatStep (fun i => .chVfsum i u) 0x48 (fun s i x =>
    let f := (fmtOf (fFmt i.w)).getD .fp32;
    let l := (List.range (128 / laneW (fFmt i.w))).map (lane (x.vr (fA i.w)) (laneW (fFmt i.w)));
    let r := rnd s i x 0;
    let v := if s.strict then exactSum f r l u else treeSum f (if fRnd i.w = 5 then .nearest else r) r 4 l;
    (x.setV (fD i.w) (setLane (x.vr (fD i.w)) (laneW (fFmt i.w)) (fLD i.w) v)).rounded (fRnd i.w) 1)) ∧
  IssueStep .chFtr 0x49 (fun i t =>
    let x := t.me i;
    let n := 128 / laneW (fFmt i.w);
    let v := ofLanes (laneW (fFmt i.w)) (fun k => ftr ((fmtOf (fFmt i.w)).getD .fp32) (bits i.w 0 4) (rnd t i x k) t.strict
      (t.freeCtr + k) (lane (x.vr (fA i.w)) (laneW (fFmt i.w)) k));
    { t.putMe i ((x.setV (fD i.w) v).rounded (fRnd i.w) n) with freeCtr := t.freeCtr + n }) ∧
  (∀ (i : ChalkOp) (s : State), ChalkReady s 0x4A i → modBit i.w 0 = false → Does (.chRng i) s (fun t => SeatOnly s t i
    (((s.me i).advance.setV (fD i.w) (generator (s.seed (s.cohortOf (deskOf i))) (s.step_ (s.cohortOf (deskOf i)))
      (BitVec.ofNat 32 ((s.me i).sr (fA i.w)).toNat) (BitVec.ofNat 32 ((s.me i).sr (fB i.w)).toNat))).record 0 true (s.me i).pc))) ∧
  (∀ (i : ChalkOp) (s : State), ChalkReady s 0x4A i → modBit i.w 0 = true → s.strict = true → Does (.chRng i) s (fun t =>
    SeatOnly s t i ((s.me i).advance.record stStrict true (s.me i).pc)))

/-- Tallies and the Long Tally queue (R305, R262, R320). It rests in part on choices of the model: log 17. -/
def Obligations.TallyInstructions : Prop :=
  let tally : ChalkOp → Nat → (State → Acc → Acc) → State → State := fun i k f t =>
    t.setDesk (deskOf i) ((t.desk (deskOf i)).setTally k (f t ((t.desk (deskOf i)).tally k)))
  let long : ChalkOp → (State → LtOp) → Bool → State → State := fun i f reads t =>
    if ltOffOk ((t.me i).sr (fA i.w)).toNat then
      (t.putMe i (if reads then (t.me i).rounded (fRnd i.w) 1 else t.me i)).ltQueue i
        { desk := deskOf i, seat := i.seat.val, off := ((t.me i).sr (fA i.w)).toNat, pc := (t.me i).pc - 1, op := f t }
    else t.putMe i ((t.me i).record stAlign reads ((t.me i).pc - 1))
  (∀ u : Int, IssueStep (fun i => .chTadd i u) 0x50 (fun i => tally i (fD i.w) (fun t a => Acc.addVal tallyW tallyQ a
    (addend (fFmt i.w) i.w (fLA i.w) (fLB i.w) ((t.me i).vr (fA i.w)) ((t.me i).vr (fB i.w))) u))) ∧
  (∀ (i : ChalkOp) (s : State) (v : Nat), ChalkReady s 0x51 i →
    Acc.readout tallyQ ((s.desk (deskOf i)).tally (fA i.w)) ((fmtOf (fFmt i.w)).getD .fp32)
      (roundingOf s (s.cohortOf (deskOf i)) (s.me i) (fRnd i.w) 0) = some v →
    Does (.chTrd i) s (fun t =>
      t.me i = ((((s.me i).advance).putReadout (modBit i.w 2) (laneW (fFmt i.w)) (fD i.w) (fLD i.w) v).rounded (fRnd i.w) 1).record
        stOk true (s.me i).pc ∧
      (modBit i.w 0 = true → (t.desk (deskOf i)).tally (fA i.w) = Acc.unpack tallyW (Acc.pack tallyW {})) ∧
      { t with desks := s.desks } = s)) ∧
  IssueStep .chTclr 0x52 (fun i => tally i (fD i.w) (fun _ _ => {})) ∧
  IssueStep .chTst 0x53 (fun i t => t.setBytes (slateBase (deskOf i) + 16 * fSoff i.w)
    (leBytes 80 (if fD i.w = 0 then (t.desk (deskOf i)).t0 else (t.desk (deskOf i)).t1).toNat)) ∧
  (∀ u : Int, IssueStep (fun i => .chTlda i u) 0x54 (fun i => tally i (fD i.w) (fun t a => Acc.addImage tallyW a
    (Acc.unpack tallyW (t.num (slateBase (deskOf i) + 16 * fSoff i.w) 80)) u))) ∧
  IssueStep .chLtadd 0x55 (fun i => long i (fun t =>
    .add (addend 0 i.w (fLB i.w) (fLA i.w) ((t.me i).vr (fB i.w)) ((t.me i).vr (fC i.w))) false) false) ∧
  IssueStep .chLtrd 0x56 (fun i => long i (fun t => .read ((fmtOf (fFmt i.w)).getD .fp64)
    (roundingOf t (t.cohortOf (deskOf i)) (t.me i) (fRnd i.w) 0) (fD i.w) (fLD i.w) (modBit i.w 2) (modBit i.w 0)) true) ∧
  IssueStep .chLtclr 0x57 (fun i => long i (fun _ => .clear) false)

/-- Desk memory and synchronisation (R246, R251, R268, R306, R308, R310, R384): Slate loads and stores within the Slate, the
Blackboard accesses, receive, fence, END, YIELD and CVTP. It rests in part on choices of the model: log 82. -/
def Obligations.DeskMemory : Prop :=
  (∀ (i : ChalkOp) (s : State), ChalkReady s 0x70 i → slateBad i.w (localOff i.w (s.me i)) = false →
    Does (.chSld i) s (fun t => SeatOnly s t i (((s.me i).advance.load (fSZ i.w) (fD i.w)
      (s.bytes (slateBase (deskOf i) + localOff i.w (s.me i)) (sizeOf_ i.w))).record stOk true (s.me i).pc))) ∧
  (∀ (i : ChalkOp) (s : State), ChalkReady s 0x70 i → slateBad i.w (localOff i.w (s.me i)) = true →
    Does (.chSld i) s (fun t => SeatOnly s t i ((s.me i).advance.record stAlign true (s.me i).pc))) ∧
  (∀ (i : ChalkOp) (s : State), ChalkReady s 0x71 i → slateBad i.w (localOff i.w (s.me i)) = false →
    Does (.chSst i) s (fun t => t.me i = (s.me i).advance.record stOk true (s.me i).pc ∧ SameRegs s t ∧
      SameMemoryBut s t (slateBase (deskOf i) + localOff i.w (s.me i)) ((s.me i).data (fSZ i.w) (fD i.w)).length ∧
      t.bytes (slateBase (deskOf i) + localOff i.w (s.me i)) ((s.me i).data (fSZ i.w) (fD i.w)).length
        = (s.me i).data (fSZ i.w) (fD i.w))) ∧
  (∀ (i : ChalkOp) (s : State), ChalkReady s 0x72 i → fT i.w = false → boardBad i.w (localOff i.w (s.me i)) = false → fSZ i.w < 7 →
    (s.me i).acc = [] → (s.desk (deskOf i)).left = [] → Does (.chBbld i) s (fun t =>
      t.me i = ((s.me i).advance.load (fSZ i.w) (fD i.w)
        (s.bytes (bbBase (roomOf (deskOf i)) + localOff i.w (s.me i)) (sizeOf_ i.w))).record stOk true (s.me i).pc ∧
      SameRegs s t ∧ SameMemory s t ∧ ∀ j, j ≠ deskOf i → t.desk j = s.desk j)) ∧
  (∀ (i : ChalkOp) (s : State), ChalkReady s 0x73 i → fT i.w = false → boardBad i.w (localOff i.w (s.me i)) = false → fSZ i.w < 7 →
    (s.me i).acc = [] → (s.desk (deskOf i)).left = [] →
    (∀ l ∈ linesOf (bbBase (roomOf (deskOf i)) + localOff i.w (s.me i)) (sizeOf_ i.w), s.collAt l = none) →
    Does (.chBbst i) s (fun t => t.me i = (s.me i).advance.record stOk true (s.me i).pc ∧
      t.bytes (bbBase (roomOf (deskOf i)) + localOff i.w (s.me i)) (sizeOf_ i.w) = (s.me i).data (fSZ i.w) (fD i.w) ∧
      SameMemoryBut s t (bbBase (roomOf (deskOf i)) + localOff i.w (s.me i)) (sizeOf_ i.w))) ∧
  (∀ (i : ChalkOp) (s : State), ChalkReady s 0x73 i → fT i.w = false → boardBad i.w (localOff i.w (s.me i)) = false → fSZ i.w < 7 →
    (s.me i).acc = [] → (s.desk (deskOf i)).left = [] →
    (∃ l ∈ linesOf (bbBase (roomOf (deskOf i)) + localOff i.w (s.me i)) (sizeOf_ i.w), (s.collAt l).isSome = true) →
    Does (.chBbst i) s (fun t => statLast (t.me i).stat = stPerm.toNat ∧ SameMemory s t)) ∧
  (∀ (i : ChalkOp) (s : State), ChalkReady s 0x72 i → fT i.w = false → boardBad i.w (localOff i.w (s.me i)) = true →
    Does (.chBbld i) s (fun t => SeatOnly s t i ((s.me i).advance.record stAlign true (s.me i).pc))) ∧
  (∀ (i : ChalkOp) (s : State), ChalkReady s 0x73 i → fT i.w = false → boardBad i.w (localOff i.w (s.me i)) = true →
    Does (.chBbst i) s (fun t => SeatOnly s t i ((s.me i).advance.record stAlign true (s.me i).pc))) ∧
  SeatStep .chFence 0x67 (fun _ _ x => if x.acc.isEmpty then x else ({ x with fence := true } : Seat).settle) ∧
  SeatStep .chCvtp 0x68 (fun s i x =>
    match convert ((((s.room (roomOf (deskOf i))).cvt.find? (fun e => e.1.toNat = s.cohortOf (deskOf i))).map Prod.snd).getD [])
        (modBit i.w 0) (x.sr (fA i.w)).toNat with
    | some v => (x.setS (fD i.w) (BitVec.ofNat 64 v)).setP (fC i.w) true
    | none => x.setP (fC i.w) false) ∧
  (∀ (i : ChalkOp) (s : State), ChalkReady s 0x0A i → (s.desk (deskOf i)).wordsFull (BitVec.ofNat 8 (bits i.w 0 8)) = false →
    Does (.chRcv i) s (fun t =>
      SeatOnly s t i { (s.me i).advance with st := .inbox, rcv := some (fD i.w, BitVec.ofNat 8 (bits i.w 0 8)) })) ∧
  IssueStep .chRcv 0x0A (fun i t =>
    if (t.desk (deskOf i)).wordsFull (BitVec.ofNat 8 (bits i.w 0 8)) then t.rcvTake (deskOf i) i.seat (fD i.w) (BitVec.ofNat 8 (bits i.w 0 8))
    else t.putMe i { t.me i with st := .inbox, rcv := some (fD i.w, BitVec.ofNat 8 (bits i.w 0 8)) }) ∧
  (∀ (i : ChalkOp) (s : State), ChalkReady s 0x02 i → Does (.chEnd i) s (fun t =>
    t.me i = { (s.me i).advance with st := .idle } ∧ { t with desks := s.desks } = s ∧
    (t.desk (deskOf i)).ended = (s.desk (deskOf i)).ended ||| BitVec.ofNat 4 (2 ^ i.seat.val))) ∧
  (∀ (i : ChalkOp) (s : State), ChalkReady s 0x03 i → Does (.chYield i) s (fun t =>
    t.me i = (s.me i).advance ∧ { t with desks := s.desks } = s ∧
    (∀ k : Fin 4, k ≠ i.seat → t.seat (deskOf i) k = s.seat (deskOf i) k)))

/-- Fabric accesses of a Seat (R307, R652, R358): an untimed one in STRICT completes at issue with STRICT, and sends nothing; a
misshapen one completes with ALIGN; every other becomes an outstanding access of its Seat, best-effort or in its slot; an
OMV reads its vector from the Slate word by word, and its results go to S[B] where that is a place in the Slate. It rests in
part on choices of the model: log 47, log 83, log 84. -/
def Obligations.FabricAccesses : Prop :=
  let form : (ChalkOp → Instr) → Nat → Prop := fun c op => ∀ (i : ChalkOp) (s : State), ChalkReady s op i →
    (fT i.w = false → s.strict = true → Does (c i) s (fun t =>
      SeatOnly s t i ((s.me i).advance.record stStrict (accKind op).isLoad (s.me i).pc))) ∧
    ((fT i.w = true ∨ s.strict = false) → alignBad op i.w ((s.issuedBy i).fabricAccess op i (s.me i).pc).f = true →
      exec (c i) s = .next ((s.issuedBy i).refuse i op stAlign (s.me i).pc)) ∧
    (fT i.w = false → s.strict = false → alignBad op i.w ((s.issuedBy i).fabricAccess op i (s.me i).pc).f = false →
      exec (c i) s = .next (((s.issuedBy i).fabricLoose i ((s.issuedBy i).fabricAccess op i (s.me i).pc)
        ((s.issuedBy i).fabricAccess op i (s.me i).pc).f.cohort).giveWay i (s.me i).advance)) ∧
    (fT i.w = true → alignBad op i.w ((s.issuedBy i).fabricAccess op i (s.me i).pc).f = false →
      exec (c i) s = .next (((s.issuedBy i).fabricTimed op i ((s.issuedBy i).fabricAccess op i (s.me i).pc)
        ((s.issuedBy i).fabricAccess op i (s.me i).pc).f.cohort).giveWay i (s.me i).advance))
  form .chFld 0x60 ∧ form .chFst 0x61 ∧ form .chFat 0x62 ∧ form .chRed 0x63 ∧ form .chMst 0x64 ∧ form .chAcq 0x65 ∧
  form .chRel 0x66 ∧
  (∀ (i : ChalkOp) (s : State), ChalkReady s 0x69 i → s.strict = true →
    exec (.chOmv i) s = .next ((s.issuedBy i).refuse i 0x69 stStrict (s.me i).pc)) ∧
  (∀ (i : ChalkOp) (s : State), ChalkReady s 0x69 i → s.strict = false → fT i.w = false → (s.me i).acc = [] →
    (s.desk (deskOf i)).left = [] → Does (.chOmv i) s (fun t => ∃ a ∈ (t.me i).acc, (t.me i).acc = [a] ∧ a.kind = .omv ∧ a.pc = (s.me i).pc ∧
      a.d = omvDest ((s.me i).sr (fB i.w)).toNat ∧ a.f.payload = s.bytes (slateBase (deskOf i) + 16 * fSoff i.w) 16 ∧
      a.since = some s.now ∧ SameRegs s t ∧ SameMemory s t)) ∧
  (∀ b : Nat, b % 16 = 0 → b + 256 ≤ 6144 → omvDest b = b)

/-- The Bell (R34, R35, R47, R58, R62, R357): it rings with what its Bell frame carries; the Lesson number, N, G, LEAD, the
stretch and STRICT are then in force, the roll call begins, and every Seat is idle with nothing outstanding. A Bell that is
withheld spends its edge; where no Bell may ring, nothing changes. It rests in part on choices of the model: log 33, log 76. -/
def Obligations.BellRings : Prop :=
  (∀ (s : State) (b : BellInfo), s.bellMayRing = true → s.ringing = some b → exec .bell s = .next ((s.ring b).limitReset)) ∧
  (∀ (s : State) (b : BellInfo), s.bellMayRing = true → s.ringing = some b → tableOk deskDefault s.desks = true → Does .bell s (fun t =>
    t.lesson = b.lesson ∧ t.strict = s.strictAt b ∧ t.bell.phase = .rung ∧ t.bell.n = b.n ∧ t.bell.guard = b.guard ∧
    t.bell.lead = b.lead ∧ t.bell.stretch = stretchFactor b.stretch ∧ t.bell.next = none ∧ t.bell.edge = false ∧
    ∀ (i : Nat) (k : Fin 4), (t.seat i k).acc = [] ∧ (t.seat i k).st = .idle)) ∧
  (∀ s : State, s.bellMayRing = true → s.ringing = none → Does .bell s (fun t => OnlyBell s t ∧ t.bell.phase = s.bell.phase ∧
    t.bell.edge = false ∧ t.bell.rungAt = s.bell.rungAt)) ∧
  (∀ s : State, s.bellMayRing = false → exec .bell s = .next s) ∧
  (∀ (s : State) (b : BellInfo), let t := s.bellTakes b;
    t.lesson = b.lesson ∧ t.regF rStretch 0 2 = b.stretch % 4 ∧ t.strict = s.strictAt b ∧ t.bell.n = b.n ∧ t.bell.guard = b.guard ∧
    t.bell.lead = b.lead ∧ t.bell.stretch = stretchFactor b.stretch ∧ t.bell.phase = .rung ∧ t.bell.rungAt = s.now ∧
    t.bell.next = none ∧ OnlyBellRegs s t [rLesson, rStretch, rGlbMode])

/-- The roll call runs its steps in order (R31, R35, R43, R44, R209, R360, R361, R434, R536), each in its turn alone. At DCLK 32
a run that N, G or the mode no longer suit ends and BELL_OUT falls; at 64 the page that passed becomes the active run, and
without one no Desk has a role; at 96 armed route tables and port maps take effect; at 128 OMU.CTL.EN does, and under STRICT
no Prism holds a matrix; at the body's start pages posted in the roll call count as posted. Where a command comes in a state
for which the spec gives it no effect, nothing changes: the model's choice (log 2). It rests in part on choices of the
model: log 33, log 76. -/
def Obligations.RollCallPhases : Prop :=
  let moves : Instr → Phase → Phase → Prop := fun c a b =>
    (∀ s : State, s.bell.phase = a → Does c s (fun t => t.bell.phase = b)) ∧ (∀ s : State, s.bell.phase ≠ a → exec c s = .next s)
  moves .rollCallCheck .rung .checked ∧ moves .rollCallActivate .checked .activated ∧ moves .rollCallSwap .activated .swapped ∧
  moves .rollCallGap .swapped .gapped ∧ moves .bodyStart .gapped .body ∧ moves .closingGuard .body .guard ∧
  (∀ s : State, s.bell.phase = .rung → s.pendingPage = none → s.bell.run = none → s.modeDiffers = false → s.bell.pinOut = false →
    Does .rollCallCheck s (fun t => t.bell.phase = .checked ∧ OnlyBell s t ∧ SameRegs s t)) ∧
  (∀ s : State, s.bell.phase = .rung → s.modeDiffers = true → Does .rollCallCheck s (fun t => t.bell.phase = .checked ∧
    t.regBit rGlbMode 8 = true ∧ t.bell.run = none)) ∧
  (∀ (s : State) (r : Run) (reason : Nat), s.bell.phase = .rung → s.pendingPage = none → s.modeDiffers = false → s.bell.run = some r →
    s.lengthFault r.tt = some reason → Does .rollCallCheck s (fun t => t.bell.phase = .checked ∧ t.bell.run = none ∧
      t.pageState r.page.val = 5 ∧ t.regF rTtState (16 * r.page.val + 4) 3 = reason)) ∧
  (∀ s : State, s.bell.phase = .rung → s.bell.pinOut = true → Does .rollCallCheck s (fun t => t.bell.pinOut = false ∧
    t.out.head? = some (.pin "BELL_OUT" false))) ∧
  (∀ (s : State) (p : Fin 2) (x : Timetable), s.bell.phase = .checked → s.bell.passed = some p → (s.page p).tt = some x →
    s.bell.run = none → s.bell.ranged = none → Does .rollCallActivate s (fun t => t.bell.phase = .activated ∧
      t.bell.run = some { page := p, tt := x, index := 0 } ∧ t.pageState p.val = 4 ∧ t.bell.passed = none)) ∧
  (∀ s : State, s.bell.phase = .checked → s.bell.passed = none → s.bell.run = none → tableOk deskDefault s.desks = true →
    Does .rollCallActivate s (fun t => t.bell.phase = .activated ∧ t.bell.run = none ∧
      ∀ i : Nat, (t.desk i).cohort = none ∧ (t.desk i).started = 0 ∧ (t.desk i).full = 0)) ∧
  (∀ s : State, s.bell.phase = .activated → s.partArmed = false → s.regBit rRtSwap 63 = false →
    Does .rollCallSwap s (fun t => t.bell.phase = .swapped ∧ OnlyBell s t)) ∧
  (∀ s : State, s.bell.phase = .activated → s.partArmed = false → s.regBit rRtSwap 63 = true → s.regF rRtSwap 0 32 = s.lesson.toNat % 2 ^ 32 →
    s.regBit rRtStatus 2 = false → tableOk regReset s.regs = true → Does .rollCallSwap s (fun t => t.bell.phase = .swapped ∧
      t.regBit rRtSwap 63 = false ∧ t.regBit rRtStatus 1 = true ∧ SameMemory s t ∧
      ∀ d : BitVec 12, t.reg (rRtActive + 16 * d.toNat) = s.reg (rRtStage + 16 * d.toNat) ∧
        t.reg (rRtActive + 16 * d.toNat + 8) = s.reg (rRtStage + 16 * d.toNat + 8))) ∧
  (∀ s : State, s.bell.phase = .activated → s.partArmed = true → s.regF rPartSwap 0 32 = s.lesson.toNat % 2 ^ 32 →
    s.regBit rRtSwap 63 = false → (∀ p : Fin 128, s.swapOffends p.val = false) → Does .rollCallSwap s (fun t => t.bell.phase = .swapped ∧
      t.partArmed = false ∧ t.regBit rPartStatus 0 = true ∧
      ∀ p : Fin 128, t.tabF (rPortPart + p.val) 1 = s.tabF (rPortPartStage + p.val) 1)) ∧
  (∀ s : State, s.bell.phase = .swapped → Does .rollCallGap s (fun t => t.bell.phase = .gapped ∧ t.omu.en = s.regBit rOmuCtl 0 ∧
    (s.strict = true → ∀ p : Fin 4, (t.prism p).held = none ∧ (t.prism p).loading = none))) ∧
  (∀ s : State, s.bell.phase = .gapped → Does .bodyStart s (fun t => t.bell.phase = .body ∧ OnlyBell s t ∧
    ∀ p : Fin 2, t.page p = { s.page p with fresh := false }))

/-- A pending page that fails a row of R43 at roll call DCLK 32 is REFUSED with that row's reason; one that is not LOADED stays
as it is, and the page is not passed. -/
def Sys2Proof.Machine.rulesPageCheck : Prop :=
  (∀ (s : State) (p : Fin 2) (tt : Timetable) (r : Nat), s.pageState p.val = 3 → (s.page p).tt = some tt → s.pageRefusal tt = some r →
    let t := s.checkPage p;
    t.pageState p.val = 6 ∧ t.regF rTtState (16 * p.val + 4) 3 = r ∧ t.bell.change = none ∧ OnlyBellRegs s t [rTtState]) ∧
  (∀ (s : State) (p : Fin 2) (tt : Timetable), s.pageState p.val = 3 → (s.page p).tt = some tt → s.pageRefusal tt = none →
    (s.checkPage p).bell.passed = some p ∧ OnlyBellRegs s (s.checkPage p) []) ∧
  (∀ (s : State) (p : Fin 2), s.pageState p.val ≠ 3 → OnlyRegs s (s.checkPage p) [rBellStatus]) ∧
  (∀ (s : State) (tt : Timetable), s.formatOk tt = false → s.pageRefusal tt = some 1) ∧
  (∀ (s : State) (tt : Timetable), s.formatOk tt = true → s.strict ≠ s.bell.frameStrict → s.pageRefusal tt = some 2) ∧
  (∀ (s : State) (tt : Timetable), s.formatOk tt = true → s.strict = s.bell.frameStrict → tt.strict = s.strict →
    tt.dclk ≠ 33 * s.bell.n → s.pageRefusal tt = some 3) ∧
  (∀ (s : State) (tt : Timetable), s.formatOk tt = true → s.strict = s.bell.frameStrict → tt.strict = s.strict →
    tt.dclk = 33 * s.bell.n → s.bell.guard < tt.minGuard → s.pageRefusal tt = some 4)

/-- Posting a timetable and its loading (R36 to R39, R41, R45, R264, R417): the loader begins at once to read a free page inside the
timetable region, unless a fence holds it; any other post is ignored and sets CFG_ERR; a page that the loader has read, with no
preload entries and every image it names in the cache, becomes LOADED, and while it is held a page stays as it is. A role entry's
fields are those of R264's 16 bytes. -/
def Sys2Proof.Machine.rulesPostAndLoad : Prop :=
  let unread : State → Fin 2 → Prop := fun s p => s.pageState p.val = 1 ∨ s.pageState p.val = 2 ∧ (s.page p).tt = none
  (∀ (v : BitVec 64) (len : Nat) (s : State), s.recovery = false → s.pageBusy (Fin.ofNat 2 v.toNat) = false →
    s.pageInside (Fin.ofNat 2 v.toNat) len = true → Does (.ttPost v len) s (fun t =>
      t.pageState (Fin.ofNat 2 v.toNat).val = (if s.loaderHeld then 1 else 2) ∧ (t.page (Fin.ofNat 2 v.toNat)).at_ = v.toNat / 2 ∧
      (t.page (Fin.ofNat 2 v.toNat)).fresh = s.inRollCall ∧ SameMemory s t ∧ ∀ a, a ≠ rTtState → t.reg a = s.reg a)) ∧
  (∀ (v : BitVec 64) (len : Nat) (s : State), s.recovery = false →
    s.pageBusy (Fin.ofNat 2 v.toNat) = true ∨ s.pageInside (Fin.ofNat 2 v.toNat) len = false →
    Does (.ttPost v len) s (fun t => t.regBit rBellStatus 1 = true ∧ OnlyRegs s t [rBellStatus])) ∧
  (∀ (p : Fin 2) (im : PageImage) (s : State), s.loaderHeld = false → unread s p → im.preloads = [] →
    s.imagesReady (PageImage.timetable im) = true → Does (.timetableLoaded p im) s (fun t =>
      t.pageState p.val = 3 ∧ (t.page p).tt = some (PageImage.timetable im) ∧ SameMemory s t ∧ t.bell.run = s.bell.run)) ∧
  (∀ (p : Fin 2) (im : PageImage) (s : State), s.loaderHeld = false → unread s p →
    (im.preloads ≠ [] ∨ s.imagesReady (PageImage.timetable im) = false) → Does (.timetableLoaded p im) s (fun t =>
      t.pageState p.val = 2 ∧ (t.page p).tt = some (PageImage.timetable im) ∧ SameMemory s t ∧ t.bell.run = s.bell.run)) ∧
  (∀ (p : Fin 2) (im : PageImage) (s : State), s.loaderHeld = true → exec (.timetableLoaded p im) s = .next s) ∧
  (∀ r : RoleImage, (RoleImage.role r).cohort = BitVec.ofNat 10 (r.entry.toNat % 2 ^ 10) ∧
    (RoleImage.role r).tag.toNat = r.entry.toNat / 2 ^ 16 % 2 ^ 8 ∧ (RoleImage.role r).mask.toNat = r.entry.toNat / 2 ^ 28 % 2 ^ 4 ∧
    ∀ k : Fin 4, (RoleImage.role r).entries[k].toNat = r.entry.toNat / 2 ^ (32 + 16 * k.val) % 2 ^ 12)

/-- Timetable pages: posted, loaded and checked (the rules of the two parts). Where a command comes in a state for which the
spec gives it no effect, nothing changes: the model's choice (log 2). It rests in part on choices of the model: log 9, log
24. -/
def Obligations.TimetablePages : Prop :=
  rulesPageCheck ∧ rulesPostAndLoad

/-- Bell frames (R53, R56, R57, R58): only the master sends; what it sends carries the next Lesson number, its registers and
itself; a member takes one that comes on a tree port of its partition, with the ingress port's delay added, and any other sets
TREE_ERR; a LEAD_ERR frame sets HALT at the master. -/
def Sys2Proof.Machine.rulesBellFrames : Prop :=
  (∀ s : State, s.isMaster = false → exec .bellFrameSend s = .next s) ∧
  (∀ s : State, s.isMaster = true → Does .bellFrameSend s (fun t => ∃ b : BellInfo, t.bell.next = some b ∧ b.lesson = s.lesson + 1 ∧
    b.n = s.regF rLessonLen 0 17 ∧ b.guard = s.regF rGuard 0 17 ∧ b.lead = s.regF rLead 0 10 ∧ b.master = s.node ∧ b.delay = 0 ∧
    b.strict = s.strictToSend ∧ t.bell.governed = true ∧ t.bell.strictNext = (if b.halt then s.bell.strictNext else none) ∧ t.bell.due = s.bellDue b.lead 0)) ∧
  (∀ (p : Fin 128) (f : Frame) (s : State), s.portPart p.val ≠ some s.bellPart ∨ s.treePort p.val = false ∨ s.isMaster = true →
    Does (.bellFrame p f) s (fun t => t.regBit rBellStatus 4 = true ∧ OnlyRegs s t [rBellStatus])) ∧
  (∀ (p : Fin 128) (f : Frame) (s : State), s.portPart p.val = some s.bellPart → s.treePort p.val = true → s.isMaster = false →
    Does (.bellFrame p f) s (fun t =>
      ∃ b : BellInfo, t.bell.next = some b ∧ b.lesson = (BellInfo.ofBytes f.payload).lesson ∧ b.n = (BellInfo.ofBytes f.payload).n ∧
        b.delay = (BellInfo.ofBytes f.payload).delay + s.linkDelay p.val ∧ t.bell.due = s.bellDue b.lead b.delay ∧
        (b.lead * 640 < b.delay + 12800 → b.halt = true))) ∧
  (∀ (f : Frame) (s : State), s.isMaster = true → s.bell.halt = none →
    Does (.leadErr f) s (fun t => t.bell.halt = some (s.regF rLead 0 10) ∧ OnlyBell s t)) ∧
  (∀ (f : Frame) (s : State), s.isMaster = false → exec (.leadErr f) s = .next s)

/-- A missing Bell and the election (R50, R51, R52, R60): a member that misses its Bell waits with MISSED set; past two Lesson
lengths it starts an election; a better candidacy replaces the best heard; at the end the best becomes master, and with none
NO_MASTER is set; a module that is no longer eligible does not become master of its own candidacy. Where a command comes in
a state for which the spec gives it no effect, nothing changes: the model's choice (log 2). It rests in part on choices of
the model: log 37, log 76. -/
def Obligations.Election : Prop :=
  let only : State → State → Prop := fun s t => { t with bell := s.bell, regs := s.regs, fab := s.fab, out := s.out } = s
  (∀ s : State, s.isMaster = false → s.electing = false → s.bell.phase ≠ .idle → s.bell.next = none → s.bell.elected = false →
    s.bell.waiting = false → s.edgeStands = false →
    Does .bellMissed s (fun t => t.bell.waiting = true ∧ t.regBit rBellStatus 2 = true ∧ OnlyBellRegs s t [rBellStatus])) ∧
  (∀ s : State, (s.isMaster = true ∨ s.electing = true ∨ s.bell.phase = .idle ∨ s.bell.next.isSome = true) → exec .bellMissed s = .next s) ∧
  (∀ s : State, (s.bell.waiting = true ∨ s.bell.elected = true) → s.electing = false →
    Does .masterLost s (fun t => t.electing = true ∧ t.bell.lost = true ∧ t.bell.waiting = false ∧
      t.bell.best = (if s.regBit rBellCtl 0 then some (s.regF rPrio 0 8, s.node.toNat) else none) ∧ t.bell.next = none ∧ only s t ∧
      (s.bellPorts = [] → OnlyBellRegs s t [rBellStatus]))) ∧
  (∀ (p : Fin 128) (f : Frame) (s : State), s.portPart p.val ≠ some s.bellPart →
    Does (.candidacy p f) s (fun t => t.regBit rBellStatus 4 = true ∧ OnlyRegs s t [rBellStatus])) ∧
  (∀ (p : Fin 128) (f : Frame) (s : State), s.portPart p.val = some s.bellPart → s.electing = true →
    Does (.candidacy p f) s (fun t => only s t ∧
      t.bell.best = some (match s.bell.best with
        | some b => if better (leAt f.payload 0 1, leAt f.payload 2 2 % 4096) b then (leAt f.payload 0 1, leAt f.payload 2 2 % 4096) else b
        | none => (leAt f.payload 0 1, leAt f.payload 2 2 % 4096)))) ∧
  (∀ s : State, s.electing = false → exec .electionEnd s = .next s) ∧
  (∀ s : State, s.electing = true → s.bell.best = none →
    Does .electionEnd s (fun t => t.electing = false ∧ t.regBit rBellStatus 3 = true ∧ t.isMaster = false ∧ OnlyRegs s t [rBellStatus])) ∧
  (∀ (s : State) (pr : Nat), s.electing = true → s.bell.best = some (pr, s.node.toNat) → s.regBit rBellCtl 0 = false →
    Does .electionEnd s (fun t => t.electing = false ∧ t.regBit rBellStatus 3 = true ∧ t.isMaster = false ∧ OnlyRegs s t [rBellStatus])) ∧
  (∀ (s : State) (pr : Nat), s.electing = true → s.bell.best = some (pr, s.node.toNat) → s.regBit rBellCtl 0 = true →
    Does .electionEnd s (fun t => t.electing = false ∧ t.regBit rBellStatus 3 = false ∧ t.isMaster = true ∧ t.masterNode = s.node ∧
      t.bell.elected = true ∧ t.bell.led = true ∧ t.bell.best = none ∧ OnlyBellRegs s t [rBellStatus]))

/-- Pins and stretches (R61, R62, R63, R66, R651): the wired edge counts in pin mode only; an alert pin's change is kept; the
master keeps each member's latest request, and lowers the factor after HOLD Lessons. -/
def Sys2Proof.Machine.rulesPinsAndStretches : Prop :=
  (∀ s : State, s.regBit rBellCtl 1 = true → Does .bellInEdge s (fun t => t.bell.edge = true ∧ OnlyBell s t)) ∧
  (∀ s : State, s.regBit rBellCtl 1 = false → exec .bellInEdge s = .next s ∧ exec .bellInEdgeMissing s = .next s) ∧
  (∀ s : State, s.regBit rBellCtl 1 = true → s.bell.next.isSome = true → s.bell.edge = false →
    Does .bellInEdgeMissing s (fun t => t.bell.next = none ∧ t.bell.waiting = true ∧ t.regBit rBellStatus 2 = true ∧
      OnlyBellRegs s t [rBellStatus])) ∧
  (∀ s : State, s.bell.pwrPin = false → Does (.pwrAlertN true) s (fun t => t.bell.pwrPin = true ∧ t.bell.pwr = true ∧
    t.bell.pwrAt = some s.lesson ∧ SameMemory s t)) ∧
  (∀ s : State, s.bell.coolPin = false → Does (.coolantAlertN true) s (fun t => t.bell.coolPin = true ∧ t.bell.cool = true ∧
    t.bell.coolAt = some s.lesson ∧ SameMemory s t)) ∧
  (∀ (s : State) (on : Bool), s.bell.pwrPin = on → exec (.pwrAlertN on) s = .next s) ∧
  (∀ (f : Frame) (s : State), s.isMaster = true → Does (.stretch f) s (fun t => OnlyBell s t ∧
    tget (fun _ => 0) t.bell.requests f.src.toNat = requestCode (leAt f.payload 0 4) ∧
    ∀ n, n ≠ f.src.toNat → tget (fun _ => 0) t.bell.requests n = tget (fun _ => 0) s.bell.requests n)) ∧
  (∀ s : State, s.isMaster = true → s.wantedCode < s.bell.placed → s.regF rStretch 32 16 ≤ s.bell.held →
    Does .stretchHoldExpiry s (fun t => t.bell.placed = s.wantedCode ∧ t.bell.held = 0 ∧ OnlyBell s t)) ∧
  (∀ s : State, s.isMaster = true → s.bell.held < s.regF rStretch 32 16 → exec .stretchHoldExpiry s = .next s)

/-- Bell frames, pins and stretches (the rules of the two parts). Where a command comes in a state for which the spec gives it
no effect, nothing changes: the model's choice (log 2). It rests in part on choices of the model: log 42, log 76. -/
def Obligations.BellFramesAndPins : Prop :=
  rulesBellFrames ∧ rulesPinsAndStretches

/-- Writes of the Bell's registers (R31, R32, R56, R357, R608, R650): what each admits, and what a refused value leaves. -/
def Obligations.BellRegisters : Prop :=
  FieldWrite .bellLessonLenWrite rLessonLen 0 17 (fun s v => 200 ≤ fget v 0 17 ∧ fget v 0 17 ≤ 100000 ∧
    512 + s.regF rGuard 0 17 + 1024 ≤ 33 * fget v 0 17 ∧ s.regF rLead 0 10 < fget v 0 17) rBellStatus 1 ∧
  FieldWrite .bellGuardWrite rGuard 0 17 (fun s v => 256 ≤ fget v 0 17 ∧ fget v 0 17 ≤ 65536 ∧ fget v 0 17 % 64 = 0 ∧
    512 + fget v 0 17 + 1024 ≤ 33 * s.regF rLessonLen 0 17) rBellStatus 1 ∧
  FieldWrite .bellLeadWrite rLead 0 10 (fun s v => 100 ≤ fget v 0 10 ∧ fget v 0 10 ≤ 1000 ∧ fget v 0 10 < s.regF rLessonLen 0 17) rBellStatus 1 ∧
  (∀ (part : BitVec 6) (s : State), s.recovery = false → part.toNat ≠ s.bellPart →
    (∀ p, p < 2 → s.pageState p ≠ 3 ∧ s.pageState p ≠ 4) → Does (.bellCtlPartWrite part) s (fun t =>
      t.bellPart = part.toNat ∧ t.isMaster = false ∧ t.bell.next = none ∧ t.bell.edge = false ∧ SameMemory s t ∧
      (s.bell.mapped = false → t.electing = false ∧ OnlyBellRegs s t [rBellCtl, rBellStatus]))) ∧
  (∀ (part : BitVec 6) (s : State) (p : Nat), s.recovery = false → p < 2 → (s.pageState p = 3 ∨ s.pageState p = 4) →
    Does (.bellCtlPartWrite part) s (fun t => t.regBit rBellStatus 1 = true ∧ t.bellPart = s.bellPart ∧ OnlyRegs s t [rBellStatus])) ∧
  (∀ (strict : Bool) (s : State), s.recovery = false →
    Does (.strictWrite strict) s (fun t => t.bell.strictNext = some strict ∧ OnlyBell s t ∧ t.strict = s.strict)) ∧
  (∀ v : BitVec 64, RefusedInRecovery (.bellLessonLenWrite v) ∧ RefusedInRecovery (.bellGuardWrite v) ∧ RefusedInRecovery (.bellLeadWrite v)) ∧
  (∀ part : BitVec 6, RefusedInRecovery (.bellCtlPartWrite part)) ∧ (∀ b : Bool, RefusedInRecovery (.strictWrite b)) ∧
  (∀ (v : BitVec 64) (n : Nat), RefusedInRecovery (.ttPost v n))

/-- Writes of the port buffering registers and the overflow region (R242, R243): what each admits; a refused value leaves the
register and reports its row of R242. -/
def Sys2Proof.Machine.rulesBufferRegisters : Prop :=
  (∀ (p : Fin 140) (v : BitVec 64) (s : State), s.recovery = false →
    (∀ i, i < 4 → ((s.regF (swReg p.val swVcCfg) 0 4).testBit i = true → 18 ≤ vcField v i) ∧
      vcField (s.reg (swReg p.val swCreditAdv)) i ≤ vcField v i) → s.sumMin p.val v ≤ 327680 →
    Does (.bufMinWrite p v) s (fun t => t.reg (swReg p.val swBufMin) = v ∧ OnlyRegs s t [swReg p.val swBufMin])) ∧
  (∀ (p : Fin 140) (v : BitVec 64) (s : State) (i : Nat), s.recovery = false → i < 4 →
    vcField v i < vcField (s.reg (swReg p.val swCreditAdv)) i →
    Does (.bufMinWrite p v) s (fun t => t.regBit rCfgStatus 15 = true ∧ t.regF rCfgStatus 8 4 = 1 ∧ t.regF rCfgStatus 0 8 = p.val ∧
      OnlyRegs s t [rCfgStatus])) ∧
  (∀ (p : Fin 140) (v : BitVec 64) (s : State), s.recovery = false →
    (∀ i, i < 4 → ((s.regF (swReg p.val swVcCfg) 0 4).testBit i = true → 18 ≤ vcField v i) ∧
      vcField v i ≤ vcField (s.reg (swReg p.val swBufMin)) i) →
    Does (.creditAdvWrite p v) s (fun t => t.reg (swReg p.val swCreditAdv) = v ∧ OnlyRegs s t [swReg p.val swCreditAdv])) ∧
  (∀ (p : Fin 140) (v : BitVec 64) (s : State) (i : Nat), s.recovery = false → i < 4 →
    vcField (s.reg (swReg p.val swBufMin)) i < vcField v i →
    Does (.creditAdvWrite p v) s (fun t => t.regBit rCfgStatus 15 = true ∧ t.regF rCfgStatus 8 4 = 3 ∧ t.regF rCfgStatus 0 8 = p.val ∧
      OnlyRegs s t [rCfgStatus])) ∧
  (∀ (p : Fin 140) (v : BitVec 64) (s : State), s.recovery = false →
    (∀ i, i < 4 → v.getLsbD i = true → (s.regF (swReg p.val swVcCfg) 0 4).testBit i = false →
      18 ≤ vcField (s.reg (swReg p.val swBufMin)) i ∧ 18 ≤ vcField (s.reg (swReg p.val swCreditAdv)) i) →
    Does (.vcCfgWrite p v) s (fun t => t.regF (swReg p.val swVcCfg) 0 4 = fget v 0 4 ∧ OnlyRegs s t [swReg p.val swVcCfg])) ∧
  FieldWrite .swcOvfOnWrite rOvfOn 0 19 (fun s v => 18 ≤ fget v 0 19 ∧ 2 * fget v 0 19 ≤ s.regF rSharedTotal 0 64) rCfgStatus 15 ∧
  FieldWrite (.swcOvfRegionWrite true) rOvfSize 0 7 (fun s v => s.ovfUsed = 0 ∧ s.regF rOvfBase 0 40 % 2 ^ 30 = 0 ∧ fget v 0 7 ≤ 64 ∧
    s.regF rOvfBase 0 40 + fget v 0 7 * 2 ^ 30 ≤ 2 ^ 40) rCfgStatus 15 ∧
  FieldWrite (.swcOvfRegionWrite false) rOvfBase 0 40 (fun s v => s.ovfUsed = 0 ∧ fget v 0 40 % 2 ^ 30 = 0 ∧ s.regF rOvfSize 0 7 ≤ 64 ∧
    fget v 0 40 + s.regF rOvfSize 0 7 * 2 ^ 30 ≤ 2 ^ 40) rCfgStatus 15

/-- Writes of the switch's other checked registers (R189, R198, R209, R210, R227, R229, R237, R350, R657). -/
def Sys2Proof.Machine.rulesSwitchRegisters : Prop :=
  FieldWrite .swcAgeLimitWrite rAgeLimit 0 17 (fun _ v => 10 ≤ fget v 0 17 ∧ fget v 0 17 ≤ 100000) rCfgStatus 15 ∧
  FieldWrite .swcArbWrite rSwcArb 0 9 (fun _ v => (arbCfg v).quota ≤ (arbCfg v).window ∧ 16 ≤ (arbCfg v).window ∧
    (arbCfg v).window ≤ 256 ∧ 1 ≤ (arbCfg v).burst ∧ (arbCfg v).burst ≤ 64) rCfgStatus 15 ∧
  (∀ (v : BitVec 64) (s : State), s.recovery = false → 1 ≤ fget v 0 10 → fget v 0 10 ≤ 1000 →
    (fget v 32 3 + 1) * fget v 0 10 ≤ s.regF rWinTimeout 0 14 →
    Does (.swcRtxWrite v) s (fun t => t.regF rRtx 0 10 = fget v 0 10 ∧ t.regF rRtx 32 3 = fget v 32 3 ∧ OnlyRegs s t [rRtx])) ∧
  (∀ (v : BitVec 64) (s : State), s.recovery = false → 1 ≤ fget v 0 10 → fget v 0 10 ≤ 1000 →
    s.regF rWinTimeout 0 14 < (fget v 32 3 + 1) * fget v 0 10 →
    Does (.swcRtxWrite v) s (fun t => t.regBit rRtStatus 3 = true ∧ OnlyRegs s t [rRtStatus])) ∧
  (∀ (v : BitVec 64) (s : State), s.recovery = false → 10 ≤ fget v 0 14 → fget v 0 14 ≤ 10000 →
    (s.regF rRtx 32 3 + 1) * s.regF rRtx 0 10 ≤ fget v 0 14 →
    Does (.swcWinTimeoutWrite v) s (fun t => t.regF rWinTimeout 0 14 = fget v 0 14 ∧ OnlyRegs s t [rWinTimeout])) ∧
  (∀ (v : BitVec 64) (s : State), s.recovery = false → (fget v 0 14 < 10 ∨ 10000 < fget v 0 14) →
    Does (.swcWinTimeoutWrite v) s (fun t => t.regBit rCfgStatus 15 = true ∧ t.reg rWinTimeout = s.reg rWinTimeout ∧
      OnlyRegs s t [rCfgStatus, rRtStatus])) ∧
  (∀ (v : BitVec 64) (s : State), s.recovery = false → Does (.swcRtSwapWrite v) s (fun t =>
    t.regF rRtSwap 0 32 = fget v 0 32 ∧ t.regBit rRtSwap 63 = v.getLsbD 63 ∧ OnlyRegs s t [rRtSwap])) ∧
  (∀ (word : Fin 64) (v : BitVec 64) (s : State), s.recovery = false → s.reg (rRtHold + 8 * word.val) &&& ~~~v = 0 →
    Does (.swcRtHoldWrite word v) s (fun t => t.reg (rRtHold + 8 * word.val) = v ∧ OnlyRegs s t [rRtHold + 8 * word.val])) ∧
  (∀ (set : Fin 8) (colour : Fin 3) (lo hi : BitVec 64) (s : State), s.recovery = false → fget hi 32 9 ≤ 256 →
    (hi.getLsbD 63 = true → fget lo 0 28 < fget hi 0 28) → Does (.wredSetWrite set colour lo hi) s (fun t =>
      t.regF (rWredSet + 48 * set.val + 16 * colour.val) 0 28 = fget lo 0 28 ∧
      t.regF (rWredSet + 48 * set.val + 16 * colour.val + 8) 0 28 = fget hi 0 28 ∧
      OnlyRegs s t [rWredSet + 48 * set.val + 16 * colour.val, rWredSet + 48 * set.val + 16 * colour.val + 8])) ∧
  (∀ (m : Fin 16) (lo hi : BitVec 64) (s : State), s.recovery = false →
    (fget lo 32 32 < fget lo 0 32 ∨ fget hi 0 24 < 2100 ∨ fget hi 24 24 < 2100) →
    Does (.swcMarkerWrite m lo hi) s (fun t => t.regBit rCfgStatus 15 = true ∧ t.regF rCfgStatus 8 4 = 10 ∧ OnlyRegs s t [rCfgStatus])) ∧
  (∀ (m : Fin 16) (lo hi : BitVec 64) (s : State), s.recovery = false → fget lo 0 32 ≤ fget lo 32 32 → 2100 ≤ fget hi 0 24 →
    2100 ≤ fget hi 24 24 → Does (.swcMarkerWrite m lo hi) s (fun t => t.reg (rMarker + 16 * m.val) = lo ∧
      ∀ a, a ≠ rMarker + 16 * m.val → a ≠ rMarker + 16 * m.val + 8 → t.reg a = s.reg a)) ∧
  (∀ (g : BitVec 12) (v : BitVec 32) (s : State), s.recovery = false → s.groupBusy g.toNat = true →
    Does (.swcMcGroupWrite g v) s (fun t => t.regBit rColStatus 0 = true ∧ OnlyRegs s t [rColStatus]) ∧
    Does (.colMcOwnerWrite g v) s (fun t => t.regBit rColStatus 0 = true ∧ OnlyRegs s t [rColStatus])) ∧
  (∀ (g : BitVec 12) (v : BitVec 32) (s : State), s.recovery = false → s.groupBusy g.toNat = false →
    Does (.colMcOwnerWrite g v) s (fun t => t.tabF (rMcOwner + 4 * g.toNat) 4 = (v &&& 0x803F03FF).toNat) ∧
    (v.toNat < 2 ^ 31 → Does (.swcMcGroupWrite g v) s (fun t => t.tabF (rMcGroup + 4 * g.toNat) 4 = (v &&& 0x9FFF3FFF).toNat)))

/-- Registers of the switch: buffering, arbitration, windows, markers and groups (the rules of the two parts). It rests in part
on choices of the model: log 21, log 22, log 79. -/
def Obligations.SwitchSettings : Prop :=
  rulesBufferRegisters ∧ rulesSwitchRegisters

/-- Staging a route (R208, R616): after the write, STAGE_ERR says whether some entry of the staged table fails a check. -/
def Sys2Proof.Machine.rulesStagedRoutes : Prop :=
  ∀ (d : BitVec 12) (lo hi : BitVec 64) (s : State), s.recovery = false → Does (.swcRtStageWrite d lo hi) s (fun t =>
    t.reg (rRtStage + 16 * d.toNat) = lo ∧ t.regF (rRtStage + 16 * d.toNat + 8) 0 36 = fget hi 0 36 ∧
    t.regBit (rRtStage + 16 * d.toNat + 8) 39 = hi.getLsbD 39 ∧
    (t.regBit rRtStatus 2 = true ↔ ∃ e, e < 4096 ∧ t.stageBad e = true) ∧
    OnlyRegs s t [rRtStage + 16 * d.toNat, rRtStage + 16 * d.toNat + 8, rRtStatus])

/-- The memory requests (R81, R83, R85, R88, R91, R106): each family's command performs the requests of its own opcodes; a
request of a Seat that its home performs at once is answered OK with the data it reads, and leaves in memory what its opcode
says; one that a status refuses is answered with it, and a reserved opcode with ALIGN at the latest. Where a command comes
in a state for which the spec gives it no effect, nothing changes: the model's choice (log 2). It rests in part on choices
of the model: log 82. -/
def Obligations.MemoryRequests : Prop :=
  RequestFamily .ldRequest (· = 1) 0 ∧ RequestFamily .stRequest (· = 2) 0 ∧
  (∀ u : Int, RequestFamily (fun r => .redRequest r u) (· / 16 = 1) u) ∧ (∀ u : Int, RequestFamily (fun r => .faddRequest r u) (· / 16 = 2) u) ∧
  RequestFamily .minRequest (· / 16 = 3) 0 ∧ RequestFamily .maxRequest (· / 16 = 4) 0 ∧
  RequestFamily .swap32Request (· = 0x50) 0 ∧ RequestFamily .swap64Request (· = 0x51) 0 ∧
  RequestFamily .cas64Request (· = 0x52) 0 ∧ RequestFamily .cas128Request (· = 0x53) 0 ∧
  RequestFamily .and32Request (· = 0x54) 0 ∧ RequestFamily .and64Request (· = 0x55) 0 ∧
  RequestFamily .or32Request (· = 0x56) 0 ∧ RequestFamily .or64Request (· = 0x57) 0 ∧
  RequestFamily .xor32Request (· = 0x58) 0 ∧ RequestFamily .xor64Request (· = 0x59) 0 ∧
  RequestFamily .reservedOpcodeRequest (fun op => isMemReq op = true ∧ opcodeLegal op = false) 0 ∧
  (∀ (r : Req) (s : State) (d : DeskId) (k : Fin 4) (id : Nat), isMemReq (Req.op r) = true → opcodeLegal (Req.op r) = false → Alone s r d k id →
    (∀ off, s.whereIs (Req.off r) ≠ .mirror off) → s.isFenced (s.whereIs (Req.off r)) (Req.off r) (Req.len r) = false →
    s.whereIs (Req.off r) ≠ .hole → Does (.reservedOpcodeRequest r) s (fun t => Answered t d k id stAlign [] ∧ SameMemory s t)) ∧
  (∀ (r : Req) (s : State), isMemReq (Req.op r) = true → opcodeLegal (Req.op r) = false → s.refusal r ≠ none)

/-- What a performed request does to memory (R85 to R91, R110), with no line in error: a load returns the bytes and changes
none; a store leaves its bytes and changes no other; an atomic returns the old value and leaves the new one; an integer RED
changes nothing outside its range. It rests in part on choices of the model: log 17. -/
def Obligations.MemoryEffects : Prop :=
  (∀ (s : State) (r : Req) (u : Int), isLd (Req.op r) = true → (∀ l ∈ Req.lines r, s.lineBad l = false) →
    (s.performMem r u []).1 = stOk ∧ (s.performMem r u []).2.1 = s.bytes (Req.off r) (Req.len r) ∧
    SameMemory s (s.performMem r u []).2.2) ∧
  (∀ (s : State) (a : Nat) (data : List Byte), (∀ l ∈ linesOf a data.length, s.lineBad l = false) →
    (s.storeMem a data).1 = stOk ∧ (s.storeMem a data).2.bytes a data.length = data ∧ SameMemoryBut s (s.storeMem a data).2 a data.length) ∧
  (∀ (s : State) (a : Nat) (data : List Byte), SameMemoryBut s (s.storeMem a data).2 a data.length) ∧
  (∀ (s : State) (r : Req) (u : Int), 2 ≤ Req.op r / 16 → s.isRecord r = false → s.slotted (Req.op r) = false →
    (∀ l ∈ Req.lines r, s.lineBad l = false) →
    (s.performMem r u []).1 = stOk ∧ (s.performMem r u []).2.1 = s.bytes (Req.off r) (operandSize (Req.op r)) ∧
    SameMemoryBut s (s.performMem r u []).2.2 (Req.off r) (operandSize (Req.op r)) ∧
    (s.performMem r u []).2.2.bytes (Req.off r) (operandSize (Req.op r)) =
      leBytes (operandSize (Req.op r)) (atomicNew (Req.op r) (leNat (s.bytes (Req.off r) (operandSize (Req.op r)))) r.f.payload)) ∧
  (∀ (s : State) (z a : Nat) (pay : List Byte), 0 < z → SameMemoryBut s (s.addInts z a pay).2 a pay.length) ∧
  (∀ (s : State) (t : Nat) (fmt : Fmt) (a : Nat) (pay : List Byte) (u : Int), (s.addSlots t fmt a pay u).1 ≠ stOk →
    (s.addSlots t fmt a pay u).1 = stDataErr)

/-- The new values of the atomic operations (R88, R89): two's complement sums modulo the operand's size, the lesser or the
greater by the type's order, the operand of a SWAP, a CAS's new value where the compare value matches, and the bitwise ones. -/
def Obligations.AtomicValues : Prop :=
  (∀ (t old : Nat) (arg : List Byte), t < 4 → atomicNew (0x20 + t) old arg =
    (old + leAt arg 0 (operandSize (0x20 + t))) % 2 ^ (8 * operandSize (0x20 + t))) ∧
  (∀ (old : Nat) (arg : List Byte), atomicNew 0x30 old arg = min old (leAt arg 0 4) ∧ atomicNew 0x40 old arg = max old (leAt arg 0 4) ∧
    atomicNew 0x32 old arg = min old (leAt arg 0 8) ∧ atomicNew 0x42 old arg = max old (leAt arg 0 8)) ∧
  (∀ (old : Nat) (arg : List Byte), old < 2 ^ 32 →
    sgn 32 (atomicNew 0x31 old arg) = min (sgn 32 old) (sgn 32 (leAt arg 0 4)) ∧
    sgn 32 (atomicNew 0x41 old arg) = max (sgn 32 old) (sgn 32 (leAt arg 0 4))) ∧
  (∀ (old : Nat) (arg : List Byte), atomicNew 0x50 old arg = leAt arg 0 4 ∧ atomicNew 0x51 old arg = leAt arg 0 8 ∧
    atomicNew 0x52 old arg = (if leAt arg 0 8 = old then leAt arg 8 8 else old) ∧
    atomicNew 0x53 old arg = (if leAt arg 0 16 = old then leAt arg 16 16 else old) ∧
    atomicNew 0x54 old arg = old &&& leAt arg 0 4 ∧ atomicNew 0x55 old arg = old &&& leAt arg 0 8 ∧
    atomicNew 0x56 old arg = old ||| leAt arg 0 4 ∧ atomicNew 0x57 old arg = old ||| leAt arg 0 8 ∧
    atomicNew 0x58 old arg = old ^^^ leAt arg 0 4 ∧ atomicNew 0x59 old arg = old ^^^ leAt arg 0 8)

/-- The precedence of statuses (R106): FENCED before UNMAPPED before ALIGN before PERM before SEALED before ROLE. -/
def Obligations.StatusPrecedence : Prop :=
  ∀ (s : State) (r : Req), let w := s.whereIs (Req.off r);
    (s.isFenced w (Req.off r) (Req.len r) = true → s.refusal r = some stFenced) ∧
    (s.isFenced w (Req.off r) (Req.len r) = false → w = .hole → s.refusal r = some stUnmapped) ∧
    (s.isFenced w (Req.off r) (Req.len r) = false → w ≠ .hole → shapeOk w r.f = false → s.refusal r = some stAlign) ∧
    (s.refusal r = some stPerm → shapeOk w r.f = true) ∧
    (s.refusal r = some stSealed → admitted w r = true ∧ shapeOk w r.f = true) ∧
    (s.refusal r = some stRole → s.sealRefuses r = false ∧ admitted w r = true ∧ shapeOk w r.f = true ∧ ∃ d, Where.deskOf w = some d) ∧
    (s.refusal r = none → s.roleRefuses w r.f = false ∧ s.sealRefuses r = false ∧ admitted w r = true ∧ shapeOk w r.f = true)

/-- Multicast stores (R237 to R241, R349): the engine refuses a group that is not VALID with NO_ROUTE and one of another owner
with PERM, and answers one whose group has no members OK; with every context in use, or another waiting, the MST waits and is counted; a
context that is free is taken by the first that waits. -/
def Sys2Proof.Machine.rulesMulticast : Prop :=
  let answered : State → State → Req → BitVec 5 → Prop := fun s t r st => t.fab.mc = s.fab.mc ∧ SameMemory s t ∧
    ∀ d k id, r.via = .desk d k id → Answered t d k id st (leBytes 2 0)
  let free : State → Prop := fun s => s.fab.mcWait = [] ∧ s.fab.mc.length < 1024
  let calm : State → Prop := fun s => s.strms = [] ∧ s.fab.pairs = []
  (∀ (r : Req) (s : State), Req.op r = 3 → Req.isFrame r = false → free s → calm s → s.tabF (rMcGroup + 4 * r.f.group.toNat) 4 < 2 ^ 31 →
    Does (.mstRequest r) s (fun t => answered s t r stNoRoute)) ∧
  (∀ (r : Req) (s : State), Req.op r = 3 → Req.isFrame r = false → free s → calm s → 2 ^ 31 ≤ s.tabF (rMcGroup + 4 * r.f.group.toNat) 4 →
    2 ^ 31 ≤ s.tabF (rMcOwner + 4 * r.f.group.toNat) 4 → (s.tabF (rMcOwner + 4 * r.f.group.toNat) 4 % 1024 ≠ r.f.cohort.toNat ∨
      s.tabF (rMcOwner + 4 * r.f.group.toNat) 4 / 2 ^ 16 % 64 ≠ r.f.part.toNat) →
    Does (.mstRequest r) s (fun t => answered s t r stPerm)) ∧
  (∀ (r : Req) (s : State), Req.op r = 3 → Req.isFrame r = false → free s → calm s → s.mstRefusal r.f = none → s.mcMembers r.f.group.toNat = [] →
    Does (.mstRequest r) s (fun t => answered s t r stOk)) ∧
  (∀ (r : Req) (s : State), Req.op r = 3 → Req.isFrame r = false → free s → s.mstRefusal r.f = none →
    exec (.mstRequest r) s = .next (((s.mstRelease r.f).mstStart r).settleStreams)) ∧
  (∀ (r : Req) (s : State), Req.op r = 3 → Req.isFrame r = false → s.strms = [] → s.mstRefusal r.f = none → ¬ free s →
    Does (.mstRequest r) s (fun t => t.fab.mcWait = s.fab.mcWait ++ [r] ∧ t.fab.mc = s.fab.mc ∧
      t.regF rMcStatus 0 32 = (s.regF rMcStatus 0 32 + 1) % 2 ^ 32 ∧ ∀ a, a ≠ rMcStatus → t.reg a = s.reg a)) ∧
  (∀ (r : Req) (s : State), Req.op r ≠ 3 → exec (.mstRequest r) s = .next s) ∧
  (∀ s : State, (s.fab.mcWait = [] ∨ 1024 ≤ s.fab.mc.length) → exec .mstContextFreed s = .next s) ∧
  (∀ (s : State) (r : Req) (l : List Req), s.fab.mcWait = r :: l → s.fab.mc.length < 1024 → (s.mstRefusal r.f).isSome = true →
    s.fab.pairs = [] → s.fab.mcHeld = [] → Req.isFrame r = false → Does .mstContextFreed s (fun t => t.fab.mcWait = l ∧ t.fab.mc = s.fab.mc ∧
      ∀ d k id, r.via = .desk d k id → Answered t d k id ((s.mstRefusal r.f).getD 0) (leBytes 2 0))) ∧
  (∀ (s : State) (r : Req) (l : List Req), s.fab.mcWait = r :: l → s.fab.mc.length < 1024 →
    exec .mstContextFreed s = .next (({ s with fab := { s.fab with mcWait := l } }).mstGo r)) ∧
  (∀ (s : State) (r : Req), s.mstRefusal r.f = none → (s.mcMembers r.f.group.toNat).length = (s.mcGroup r.f.group.toNat).2)

/-- Staged routes and multicast (the rules of the two parts). Where a command comes in a state for which the spec gives it no
effect, nothing changes: the model's choice (log 2). It rests in part on choices of the model: log 20, log 78, log 79. -/
def Obligations.RoutesAndMulticast : Prop :=
  rulesStagedRoutes ∧ rulesMulticast

/-- Coherence requests at the home (R148, R150, R154, R155, R191): each is served under the sequence check as its own opcode; a
line in HS answers RETRY and is counted; a line in U is granted, and the directory then lists the requester as its owner; one
that DEP-7s share gains RDS's requester as a sharer; a write-back of a line in HS waits. -/
def Sys2Proof.Machine.rulesCoherenceRequests : Prop :=
  let row : (Fin 64 → Frame → Instr) → BitVec 8 → (State → Nat → Frame → State) → Prop := fun c op k =>
    ∀ (p : Fin 64) (f : Frame) (s : State),
      (∀ t, s.seqCheck 0 { f with opcode := op } = (.accept, t) → exec (c p f) s = .next (k t p.val { f with opcode := op })) ∧
      (∀ t, s.seqCheck 0 { f with opcode := op } = (.drop, t) → exec (c p f) s = .next t)
  let ready : State → Nat → Frame → Prop := fun s p f => s.cohRefusal p f = none ∧ s.lostFrom (lineOf f) = 0 ∧
    s.behind (.coherence p f) = false
  let stable : State → Frame → Prop := fun s f => s.inHs (lineOf f) = false ∧ s.rsvBlocks (lineOf f) f.src = false ∧
    s.noCache (64 * lineOf f) = false ∧ s.lineBad (lineOf f) = false
  row .rds 0x60 State.cohRequest ∧ row .rdx 0x61 State.cohRequest ∧ row .upg 0x62 State.cohRequest ∧
  row .putm 0x63 State.cohPut ∧ row .puto 0x64 State.cohPut ∧ row .putc 0x65 State.cohPut ∧
  (∀ (s : State) (p : Nat) (f : Frame), ready s p f → s.inHs (lineOf f) = true →
    (s.cohRequest p f).reg rRetryCount = s.reg rRetryCount + 1 ∧ (s.cohRequest p f).coh.dir = s.coh.dir ∧
    tget (fun _ => 0) (s.cohRequest p f).coh.retries (64 * lineOf f + p) = tget (fun _ => 0) s.coh.retries (64 * lineOf f + p) + 1) ∧
  (∀ (s : State) (p : Nat) (f : Frame), ready s p f → stable s f → (s.dirOf (lineOf f)).kind = .u →
    (s.cohRequest p f).dirOf (lineOf f) = { kind := .ex, owner := p } ∧ SameMemory s (s.cohRequest p f) ∧
    ∀ l, l ≠ lineOf f → (s.cohRequest p f).dirOf l = s.dirOf l) ∧
  (∀ (s : State) (p : Nat) (f : Frame), f.opcode = 0x60 → ready s p f → stable s f → (s.dirOf (lineOf f)).kind = .sh →
    (s.cohRequest p f).dirOf (lineOf f) = Dir.share (s.dirOf (lineOf f)) p) ∧
  (∀ (s : State) (p : Nat) (f : Frame), s.cohRefusal p f = none → s.inHs (lineOf f) = true →
    s.cohPut p f = { s with coh := { s.coh with waitq := s.coh.waitq ++ [.coherence p f] } })

/-- Members, lost lines, reservations and transactions of the home (R111, R133, R145, R148, R150, R155, R164, R167): a bit set joins,
and one cleared starts an orderly leave that the member's FLUSH response ends; a release returns lost lines to U; a reservation that
has expired goes and is counted; a line that is stable lets what waits for it be served; a snoop response is taken by the transaction
that awaits it, and the last one, with the line's data, completes an RDS: owner and requester then share the line. -/
def Sys2Proof.Machine.rulesCoherenceMembers : Prop :=
  (∀ (v : BitVec 64) (s : State), s.recovery = false → s.reg rCohMembers &&& ~~~v = 0 →
    Does (.cohMembersWrite v) s (fun t => t.reg rCohMembers = v ∧ ∀ a, a ≠ rCohMembers → t.reg a = s.reg a)) ∧
  (∀ (v : BitVec 64) (s : State) (p : Fin 64), s.recovery = false → (s.reg rCohMembers).getLsbD p.val = true → v.getLsbD p.val = false →
    Does (.cohMembersWrite v) s (fun t => t.coh.leaving.getLsbD p.val = true ∧ t.coh.flushes.getLsbD p.val = true ∧
      t.isMember p.val = true ∧ t.regBit rCohStatus 0 = true)) ∧
  (∀ (p : Fin 64) (f : Frame) (s : State), s.coh.leaving.getLsbD p.val = true → s.fenced 2 = false →
    Does (.flushResponse p f) s (fun t => t.isMember p.val = false ∧ t.coh.leaving.getLsbD p.val = false ∧
      t.coh.flushes.getLsbD p.val = false ∧ t.coh.dir = s.coh.dir)) ∧
  (∀ (v : BitVec 64) (s : State), s.recovery = false → v.toNat / 2 ^ 44 % 2 ^ 12 = s.node.toNat →
    Does (.cohLineRelease v) s (fun t => t.lostFrom (v.toNat % 2 ^ 44 / 64) = 0 ∧ t.regs = s.regs ∧ t.mem = s.mem ∧
      ∀ l, l ≠ v.toNat % 2 ^ 44 / 64 → t.lostFrom l = s.lostFrom l)) ∧
  (∀ (v : BitVec 64) (s : State), s.recovery = false → tableOk (fun _ => 0) s.coh.lost = true →
    Does (.cohPortRelease v) s (fun t => ∀ l, t.lostFrom l = if s.lostFrom l = v.toNat % 64 + 1 then 0 else s.lostFrom l)) ∧
  (∀ (line : Nat) (s : State), let ripe : Rsv → Bool := fun r => r.line = line && r.armed.isSome && decide (r.armed = s.rsvOldest line)
    Does (.reservationExpiry line) s (fun t => (∀ r, r ∈ t.coh.rsv ↔ r ∈ s.coh.rsv ∧ ripe r = false) ∧
      t.reg rRsvExpired = s.reg rRsvExpired + BitVec.ofNat 64 (s.coh.rsv.filter ripe).length ∧
      ∀ a, a ≠ rRsvExpired → t.reg a = s.reg a)) ∧
  (∀ (line : Nat) (s : State), (s.inHs line = true ∨ (s.coh.waitq = [] ∧ s.strms = [])) → exec (.homeLineStable line) s = .next s) ∧
  (∀ (line p : Nat) (f : Frame) (s : State), s.coh.waitq = [.coherence p f] → s.coh.trans = [] → s.strms = [] → f.opcode = 0x65 →
    s.lostFrom (lineOf f) = 0 → (s.dirOf (lineOf f)).kind ≠ .ow → Dir.lists (s.dirOf (lineOf f)) p = true →
    Does (.homeLineStable line) s (fun t => t.coh.waitq = [] ∧ t.dirOf (lineOf f) = Dir.without (s.dirOf (lineOf f)) p ∧ SameMemory s t)) ∧
  (∀ (p : Fin 64) (f : Frame) (s : State), (∀ x ∈ s.coh.trans, (lineOf f, p.val) ∉ x.pend) → s.coh.waitq = [] → s.strms = [] →
    exec (.snoopResponse p f) s = .next s) ∧
  (∀ (p : Fin 64) (f : Frame) (x : Trans) (s : State), s.coh.trans = [x] → (lineOf f, p.val) ∈ x.pend →
    (∃ y ∈ x.pend, y ≠ (lineOf f, p.val)) → f.status = stOk → f.opcode = 0xE8 → s.coh.waitq = [] → s.strms = [] →
    Does (.snoopResponse p f) s (fun t => { t with coh := s.coh } = s ∧ t.coh.trans = [{ x with
      pend := x.pend.filter (· ≠ (lineOf f, p.val))
      data := x.data ++ (if f.flags.getLsbD 2 = true ∧ f.payload.length = 64 then [(lineOf f, f.payload)] else [])
      kept := x.kept ++ [(p.val, f.flags.toNat % 4)] }])) ∧
  (∀ (p : Fin 64) (f g : Frame) (q : Nat) (x : Trans) (s : State), s.coh.trans = [x] → x.pend = [(lineOf f, p.val)] →
    x.work = .coherence q g → lineOf g = lineOf f → g.opcode = 0x60 → x.data = [] → x.errs = [] → x.lost = false → x.orphan = false →
    s.dirOf (lineOf f) = { kind := .ex, owner := p.val } → s.noCache (64 * lineOf f) = false → f.status = stOk → f.opcode = 0xE8 →
    f.flags.getLsbD 2 = true → f.payload.length = 64 → s.coh.waitq = [] → s.strms = [] →
    Does (.snoopResponse p f) s (fun t => t.coh.trans = [] ∧ SameMemory s t ∧
      t.dirOf (lineOf f) = { kind := .ow, owner := p.val, sharers := BitVec.ofNat 64 (2 ^ q) }))

/-- Coherence requests, members and snoops at the home (the rules of the two parts). Where a command comes in a state for which
the spec gives it no effect, nothing changes: the model's choice (log 2). It rests in part on choices of the model: log 77. -/
def Obligations.HomeroomCoherence : Prop :=
  rulesCoherenceRequests ∧ rulesCoherenceMembers

/-- Sequences at a destination (R192, R193, R194, R199): the expected frame is accepted and the next one expected; an earlier
one is replayed from the reply cache, or dropped; a later one is discarded; a SYNC sets the expected sequence; an entry
whose hold has ended goes. It rests in part on choices of the model: log 84. -/
def Obligations.Sequences : Prop :=
  (∀ (s : State) (f : Frame), tget (fun _ => none) s.fab.expect f.src.toNat = some f.seq → s.fab.replies = [] →
    (s.seqCheck 0 f).1 = .accept ∧ tget (fun _ => none) (s.seqCheck 0 f).2.fab.expect f.src.toNat = some (f.seq + 1) ∧
    SameRegs s (s.seqCheck 0 f).2) ∧
  (∀ (s : State) (f : Frame) (q : BitVec 24), tget (fun _ => none) s.fab.expect f.src.toNat = some q → f.seq ≠ q →
    seqEarlier f.seq q = false → (s.seqCheck 0 f).1 = .drop ∧ (s.seqCheck 0 f).2.reg rOooDiscard = s.reg rOooDiscard + 1 ∧
    (s.seqCheck 0 f).2.fab.expect = s.fab.expect) ∧
  (∀ (s : State) (f : Frame) (q : BitVec 24), tget (fun _ => none) s.fab.expect f.src.toNat = some q → f.seq ≠ q →
    seqEarlier f.seq q = true → (s.seqCheck 0 f).1 ≠ .accept ∧ (s.seqCheck 0 f).2.fab.expect = s.fab.expect) ∧
  (∀ (f : Frame) (s : State), tget (fun _ => none) s.fab.expect f.src.toNat = none →
    Does (.sync .module f) s (fun t => tget (fun _ => none) t.fab.expect f.src.toNat = some f.seq ∧ SameMemory s t)) ∧
  (∀ (p : Fin 64) (f : Frame) (s : State) (q : BitVec 24), tget (fun _ => none) s.fab.expect (4096 * (p.val + 1) + f.src.toNat) = some q →
    Does (.sync (.dep p) f) s (fun t => tget (fun _ => none) t.fab.expect (4096 * (p.val + 1) + f.src.toNat) =
      some (if seqEarlier f.seq q then q else f.seq) ∧ SameMemory s t ∧ SameRegs s t)) ∧
  (∀ (e : Engine) (src : BitVec 12) (seq : BitVec 24) (s : State), Does (.replyHoldExpiry e src seq) s (fun t =>
    (∀ r, r ∈ t.fab.replies ↔ r ∈ s.fab.replies ∧ ¬ (r.eng = Engine.num e ∧ r.src = src ∧ r.seq = seq)) ∧
    { t with fab := s.fab } = s))

/-- The source engines' events (R84, R186, R196, R197, R206): each event is taken at its pair, and what its completion sets free
goes on. An OK answer to its SYNC opens a pair and any other is remembered; a retransmission timeout sends what is outstanding again;
a request whose window time is out leaves its pair; an AGED notice marks its request; a response completes the request it answers
with its status and data, and one that answers none is counted. -/
def Sys2Proof.Machine.rulesSourceEvents : Prop :=
  let calm : State → Prop := fun s => s.strms = [] ∧ s.host.reads = []
  (∀ (e : Engine) (f : Frame) (s : State), exec (.syncResponse e f) s = .next ((s.syncAnswer (Engine.num e) f).settle (Engine.num e))) ∧
  (∀ (f : Frame) (s : State), calm s → f.status = stOk → (s.pair 0 f.src.toNat).st = .syncing → (s.pair 0 f.src.toNat).waiting = [] →
    Does (.syncResponse .module f) s (fun t => { t with fab := s.fab } = s ∧
      t.pair 0 f.src.toNat = { s.pair 0 f.src.toNat with st := .opened, answer := none })) ∧
  (∀ (f : Frame) (s : State), calm s → f.status ≠ stOk → (s.pair 0 (f.fpa.toNat / 2 ^ 44)).st = .syncing →
    Does (.syncResponse .module f) s (fun t => { t with fab := s.fab } = s ∧
      t.pair 0 (f.fpa.toNat / 2 ^ 44) = { s.pair 0 (f.fpa.toNat / 2 ^ 44) with answer := some f.status })) ∧
  (∀ (f : Frame) (s : State), calm s → f.status = stOk → (s.pair 0 f.src.toNat).st ≠ .syncing → exec (.syncResponse .module f) s = .next s) ∧
  (∀ (e : Engine) (d : BitVec 12) (s : State), exec (.rtxTimeout e d) s = .next ((s.rtxExpired (Engine.num e) d).settle (Engine.num e))) ∧
  (∀ (d : BitVec 12) (s : State), calm s → s.engRoute 0 d = none → exec (.rtxTimeout .module d) s = .next s) ∧
  (∀ (d : BitVec 12) (r : SrcReq) (s : State), calm s → (s.engRoute 0 d).isSome = true → (s.pair 0 d.toNat).st = .opened →
    (s.pair 0 d.toNat).sent = [r] → r.tx ≤ s.rtxLimit 0 → Does (.rtxTimeout .module d) s (fun t =>
      (t.pair 0 d.toNat).sent = [{ r with tx := r.tx + 1 }] ∧ t.reg rRtxCount = s.reg rRtxCount + 1 ∧ SameMemory s t)) ∧
  (∀ (e : Engine) (d : BitVec 12) (id : Nat) (s : State),
    exec (.winTimeout e d id) s = .next ((s.winExpired (Engine.num e) d id).settle (Engine.num e))) ∧
  (∀ (d : BitVec 12) (id : Nat) (s : State), calm s → (∀ r ∈ (s.pair 0 d.toNat).sent, r.id ≠ id) →
    (∀ r ∈ (s.pair 0 d.toNat).waiting, r.id ≠ id) → exec (.winTimeout .module d id) s = .next s) ∧
  (∀ (d : BitVec 12) (id : Nat) (r : SrcReq) (w : DeskId) (k : Fin 4) (n : Nat) (s : State), calm s → (s.pair 0 d.toNat).sent = [r] → r.id = id →
    (s.pair 0 d.toNat).st = .opened → (s.pair 0 d.toNat).waiting = [] → r.owner = .desk (DeskId.idx w) k.val n →
    r.f.opcode ≠ 3 → s.pairsOf 0 = [(d.toNat, s.pair 0 d.toNat)] →
    Does (.winTimeout .module d id) s (fun t => t.pair 0 d.toNat = { s.pair 0 d.toNat with sent := [], st := .syncPending } ∧
      Answered t w k n (if r.aged then stAged else stWindow) [])) ∧
  (∀ (e : Engine) (f : Frame) (s : State), exec (.agedNotice e f) s = .next ((s.agedNotice (Engine.num e) f).settle (Engine.num e))) ∧
  (∀ (f : Frame) (s : State), calm s → s.answeredPair 0 f = none → (s.pair 0 f.src.toNat).st ≠ .opened →
    Does (.agedNotice .module f) s (fun t => { t with fab := s.fab } = s ∧ t.pair 0 f.src.toNat = { s.pair 0 f.src.toNat with
      sent := (s.pair 0 f.src.toNat).sent.map (fun (r : SrcReq) => if r.f.seq = f.seq then { r with aged := true } else r) })) ∧
  (∀ (e : Engine) (d : BitVec 12) (s : State),
    exec (.windowRoom e d) s = .next ((s.pump (Engine.num e) d pumpFuel).settle (Engine.num e))) ∧
  (∀ (d : BitVec 12) (s : State), calm s → ((s.pair 0 d.toNat).waiting = [] ∨ s.isHeld 0 d.toNat = true) →
    exec (.windowRoom .module d) s = .next s) ∧
  (∀ (d : BitVec 12) (r : SrcReq) (s : State), calm s → (s.pair 0 d.toNat).waiting = [r] → (s.pair 0 d.toNat).st = .opened →
    (s.engRoute 0 d).isSome = true → s.isHeld 0 d.toNat = false → s.isOwnMst 0 r = false → s.mstAllows 0 r = true →
    s.windowFits 0 d.toNat r = true → Does (.windowRoom .module d) s (fun t => (t.pair 0 d.toNat).waiting = [] ∧
      (t.pair 0 d.toNat).nextSeq = (s.pair 0 d.toNat).nextSeq + 1 ∧ ∃ q ∈ (t.pair 0 d.toNat).sent, (t.pair 0 d.toNat).sent = (s.pair 0 d.toNat).sent ++ [q] ∧
        q.id = r.id ∧ q.f.seq = (s.pair 0 d.toNat).nextSeq ∧ q.f.payload = r.f.payload)) ∧
  (∀ (f : Frame) (s : State), calm s → f.vc = 0 → (∀ r ∈ s.fab.tt, ¬ (r.dest = f.src ∧ r.index = f.seq)) →
    Does (.response .module f) s (fun t => t.reg rRespDrop = s.reg rRespDrop + 1 ∧ OnlyRegs s t [rRespDrop])) ∧
  (∀ (f : Frame) (s : State), calm s → f.vc ≠ 0 → mayBeGenerated f = false → (∀ r ∈ (s.pair 0 f.src.toNat).sent, r.f.seq ≠ f.seq) →
    Does (.response .module f) s (fun t => t.reg rRespDrop = s.reg rRespDrop + 1 ∧ OnlyRegs s t [rRespDrop])) ∧
  (∀ (f : Frame) (r : TtReq) (w : DeskId) (k : Fin 4) (n : Nat) (s : State), calm s → f.vc = 0 →
    s.fab.tt.find? (fun r => r.dest = f.src ∧ r.index = f.seq) = some r → r.owner = .desk (DeskId.idx w) k.val n →
    Does (.response .module f) s (fun t => t.fab.tt = s.fab.tt.erase r ∧ Answered t w k n f.status f.payload ∧ SameMemory s t ∧ SameRegs s t)) ∧
  (∀ (f : Frame) (r : SrcReq) (w : DeskId) (k : Fin 4) (n : Nat) (s : State), calm s → f.vc ≠ 0 → f.status = stOk →
    s.pairsOf 0 = [(f.src.toNat, s.pair 0 f.src.toNat)] → (s.pair 0 f.src.toNat).sent = [r] → (s.pair 0 f.src.toNat).waiting = [] →
    r.f.seq = f.seq → r.owner = .desk (DeskId.idx w) k.val n → Does (.response .module f) s (fun t =>
      (t.pair 0 f.src.toNat).sent = [] ∧ Answered t w k n stOk f.payload ∧ SameMemory s t ∧ SameRegs s t)) ∧
  (∀ (p : Fin 64) (f : Frame) (s : State), exec (.response (.dep p) f) s = .next (s.depResponse p.val f))

/-- Frames at the Centroid (R178, R182, R203, R223, R228, R229, R649): a frame with a bad header is counted and its credits go
back; a port's frame of another partition is counted at it; credits add; an overflow frame moves on; the averages move by R228
and the age clock by one; a Bell frame that passes ingress goes to the Bell logic. A credit that goes back on an electrical port may
let its DEP-7 send. -/
def Sys2Proof.Machine.rulesCentroidEvents : Prop :=
  let only : State → State → List Nat → Prop := fun s t l => OnlyRegsOut s { t with deps := s.deps } l
  (∀ (p : Fin 140) (f : Frame) (s : State), f.opcode ≠ 0x70 → f.opcode ≠ 0x71 → Frame.headerOk f = false →
    Does (.frameArrival p f) s (fun t => t.reg (swReg p.val swHdrErr) = s.reg (swReg p.val swHdrErr) + 1 ∧
      only s t [swReg p.val swHdrErr])) ∧
  (∀ (p : Fin 140) (f : Frame) (s : State), (f.opcode = 0x70 ∨ f.opcode = 0x71) → s.portPart p.val = some f.part.toNat →
    Frame.headerOk f = true → f.crc = Frame.goodCrc f →
    Does (.frameArrival p f) s (fun t => t.out.head? = some (.deliver .bell f) ∧ only s t [])) ∧
  (∀ (p : Fin 140) (f : Frame) (s : State), (f.opcode = 0x70 ∨ f.opcode = 0x71) → s.portPart p.val ≠ some f.part.toNat →
    Does (.frameArrival p f) s (fun t => t.reg (swReg p.val swPartDrop) = s.reg (swReg p.val swPartDrop) + 1 ∧
      only s t [swReg p.val swPartDrop])) ∧
  (∀ (p : Fin 128) (v : Fin 4) (n : Nat) (s : State), Does (.creditReturn p v n) s (fun t =>
    t.credit p.val v.val = s.credit p.val v.val + n ∧ { t with fab := s.fab } = s ∧
    ∀ (q w : Nat), w < 4 → (q ≠ p.val ∨ w ≠ v.val) → t.credit q w = s.credit q w)) ∧
  (∀ (id : Nat) (q : QFrame) (s : State), s.fab.voq.find? (fun q => q.id = id) = some q → q.place = .waitOverflow → q.sent = 0 →
    s.ovfRoom q.cells = true → s.fab.entry = [] → Does (.overflowWrite id) s (fun t =>
      t.fab.voq.find? (fun q => q.id = id) = some { q with place := .overflow } ∧
      t.reg (swReg q.out swOvfFrames) = s.reg (swReg q.out swOvfFrames) + 1 ∧ only s { t with fab := s.fab } [swReg q.out swOvfFrames])) ∧
  (∀ (id : Nat) (q : QFrame) (s : State), s.fab.voq.find? (fun q => q.id = id) = some q → q.place = .overflow →
    s.head q.inp q.out q.vc = some q → q.cells ≤ s.sharedFree → Does (.overflowReadback id) s (fun t =>
      t.fab.voq.find? (fun q => q.id = id) = some { q with place := .shared } ∧ { t with fab := s.fab } = s)) ∧
  (∀ (id : Nat) (q : QFrame) (s : State), s.fab.voq.find? (fun q => q.id = id) = some q → s.sharedFree < q.cells →
    exec (.overflowReadback id) s = .next s) ∧
  (∀ s : State, Does .wredAvgUpdate s (fun t => (∀ o v, o < 140 → v = 1 ∨ v = 2 → t.wredAvg o v =
      wredUpdate (s.wredAvg o v) (s.cellsOf (fun q => q.out = o && q.vc = v)) (s.regF (s.wredAt o v 0 + 8) 48 4)) ∧
    { t with fab := s.fab } = s)) ∧
  (∀ s : State, Does .ageTick s (fun t => t.regF rAgeTick 0 18 = (s.regF rAgeTick 0 18 + 1) % 2 ^ 18 ∧ OnlyRegs s t [rAgeTick]))

/-- Events of the source engine and of the Centroid (the rules of the two parts). Where a command comes in a state for which the
spec gives it no effect, nothing changes: the model's choice (log 2). It rests in part on choices of the model: log 11, log
78, log 80. -/
def Obligations.FabricEvents : Prop :=
  rulesSourceEvents ∧ rulesCentroidEvents

/-- Opportunities of an output and reserved slots (R21, R54, R226, R230, R234, R235): a sendable VC0 control frame goes ahead of
any other cell; a reserved slot takes the timetabled frame that is next; sending a frame's first cell takes credit for all
its cells, and its last cell puts the frame on the output; an output with nothing to send sends nothing. Where a command
comes in a state for which the spec gives it no effect, nothing changes: the model's choice (log 2). It rests in part on
choices of the model: log 46, log 82. -/
def Obligations.OutputSlots : Prop :=
  (∀ (o : Fin 140) (q : QFrame) (s : State), s.vc0Control o.val = some q → exec (.outputGrant o) s = .next ((s.sendCell q).enter)) ∧
  (∀ (o : Fin 140) (s : State), s.vc0Control o.val = none → exec (.outputGrant o) s = .next ((s.arbitrate o.val).enter)) ∧
  (∀ (o : Fin 140) (s : State), s.fab.voq = [] → s.fab.entry = [] → (tget arbDefault s.fab.arb o.val).owner = none →
    Does (.outputGrant o) s (fun t => { t with fab := s.fab } = s ∧ t.fab.voq = [] ∧ t.fab.credits = s.fab.credits)) ∧
  (∀ (o : Fin 140) (q : QFrame) (s : State), s.vc0Control o.val = some q → q.sent + 1 = q.cells → q.out < 128 → s.melium q.out = false →
    s.fab.entry = [] → Does (.outputGrant o) s (fun t => t.out.head? = some (.frame q.out q.f) ∧ (∀ x ∈ t.fab.voq, x.id ≠ q.id) ∧
      SameMemory s t)) ∧
  (∀ (o : Fin 140) (q : QFrame) (s : State), s.vc0Control o.val = none → s.vc0Timed o.val = some q →
    exec (.reservedSlot (.output o)) s = .next ((s.sendCell q).enter)) ∧
  (∀ (o : Fin 140) (q : QFrame) (s : State), s.vc0Control o.val = none → s.vc0Timed o.val = some q → q.sent + 1 = q.cells → 128 ≤ q.out →
    s.fab.entry = [] → Does (.reservedSlot (.output o)) s (fun t => t.out.head? = some (.deliver (.port q.out) q.f) ∧
      (∀ x ∈ t.fab.voq, x.id ≠ q.id) ∧ SameMemory s t)) ∧
  (∀ (o : Fin 140) (s : State), (s.vc0Control o.val).isSome = true ∨ s.vc0Timed o.val = none →
    exec (.reservedSlot (.output o)) s = .next (s.opportunity o.val)) ∧
  (∀ (w : Fin 4) (c : Fin 300) (b : Fin 16) (s : State), exec (.reservedSlot (.bank w c b)) s = .next s) ∧
  (∀ (ch : Fin 64) (s : State), exec (.reservedSlot (.channel ch)) s = .next (s.beginHolds ch.val)) ∧
  (∀ (p : Fin 4) (s : State), exec (.reservedSlot (.prism p)) s = .next (s.prismSlot p)) ∧
  (∀ (s : State) (q : QFrame), q.sent = 0 → q.out < 128 → s.melium q.out = false → q.vc < 4 →
    (s.sendCell q).credit q.out q.vc = s.credit q.out q.vc - q.cells ∧ SameMemory s (s.sendCell q)) ∧
  (∀ (s : State) (q : QFrame), q.sent + 1 = q.cells → ∀ x ∈ (s.sendCell q).fab.voq, x.id ≠ q.id) ∧
  (∀ (n : Nat) (c : ArbCfg) (req high mid : Nat → Bool) (a : Arb) (g : Nat), (arbStep n c req high mid a).2 = some g →
    req g = true ∧ (arbStep n c req high mid a).1.owner = some g) ∧
  (∀ (n : Nat) (c : ArbCfg) (req high mid : Nat → Bool) (a : Arb) (o : Nat), a.owner = some o → req o = true → mid o = true →
    (arbStep n c req high mid a).2 = some o)

/-- How a Seat issues (R245, R246, R281, R283): an instruction that may not issue changes nothing; an illegal word makes its
Seat idle without END and names its address; a guard that holds it back moves only the program counter; a legal word is no
illegal instruction. Where a command comes in a state for which the spec gives it no effect, nothing changes: the model's
choice (log 2). It rests in part on choices of the model: log 10, log 84. -/
def Obligations.ChalkIssue : Prop :=
  (∀ (s : State) (op : Nat) (i : ChalkOp) (body : State → BitVec 12 → State), s.mayIssue op i = false → s.issue op i body = s) ∧
  (∀ (s : State) (op : Nat) (i : ChalkOp) (body : State → BitVec 12 → State), s.mayIssue op i = true → legal op i.w = true →
    guardOn (s.me i) i.w = false → isTimed op i.w = false → SeatOnly s (s.issue op i body) i (s.me i).advance) ∧
  (∀ (s : State) (op : Nat) (i : ChalkOp) (body : State → BitVec 12 → State), s.mayIssue op i = true → legal op i.w = true →
    guardOn (s.me i) i.w = true → s.issue op i body = body (s.issuedBy i) (s.me i).pc) ∧
  (∀ (d : DeskId) (k : Fin 4) (word : BitVec 64) (s : State), legal (word.toNat / 2 ^ 56) (word.setWidth 56) = true →
    exec (.illegalInstruction d k word) s = .next s) ∧
  (∀ (d : DeskId) (k : Fin 4) (word : BitVec 64) (s : State),
    s.mayIssue (word.toNat / 2 ^ 56) { desk := d, seat := k, w := word.setWidth 56 } = true →
    legal (word.toNat / 2 ^ 56) (word.setWidth 56) = false →
    Does (.illegalInstruction d k word) s (fun t => t.seat (DeskId.idx d) k = { s.seat (DeskId.idx d) k with st := .idle } ∧
      (t.desk (DeskId.idx d)).illegal = some (s.seat (DeskId.idx d) k).pc ∧ (t.desk (DeskId.idx d)).ended = (s.desk (DeskId.idx d)).ended ∧
      { t with desks := s.desks } = s ∧ ∀ j, j ≠ DeskId.idx d → t.desk j = s.desk j)) ∧
  (∀ (d : DeskId) (k : Fin 4) (b : Fin 256) (s : State), let x := s.seat (DeskId.idx d) k
    Does (.fetchBlockDelivery d k b) s (fun t => let y := t.seat (DeskId.idx d) k
      { y with blocks := x.blocks, wants := x.wants } = x ∧ { t with desks := s.desks } = s ∧ (∀ j, j ≠ DeskId.idx d → t.desk j = s.desk j) ∧
      (x.wants.contains b.val = false → y = x) ∧
      (x.wants.contains b.val = true → b.val ∈ y.blocks ∧ b.val ∉ y.wants ∧ y.blocks.length ≤ 2 ∧ (x.fetched = true → y.fetched = true))))

/-- Outstanding accesses of a Seat (R249, R293, R308): one whose target has given its result completes with it, its registers
and STAT written, and is outstanding no longer; one without a result does not complete; a timetabled one departs in the body
alone; a fence completes once nothing is outstanding. Where a command comes in a state for which the spec gives it no
effect, nothing changes: the model's choice (log 2). It rests in part on choices of the model: log 46, log 82, log 84, log
87. -/
def Obligations.AccessEvents : Prop :=
  (∀ (d : DeskId) (k : Fin 4) (id : Nat) (st : BitVec 5) (data : List Byte) (s : State),
    (s.access (DeskId.idx d) k id = none ∨ ∃ a, s.access (DeskId.idx d) k id = some a ∧ a.result = none) →
    exec (.accessCompletion d k id st data) s = .next s) ∧
  (∀ (d : DeskId) (k : Fin 4) (id : Nat) (st : BitVec 5) (data : List Byte) (a : Access) (r : BitVec 5 × List Byte) (s : State),
    s.access (DeskId.idx d) k id = some a → a.result = some r →
    exec (.accessCompletion d k id st data) s = .next (((s.complete (DeskId.idx d) k a r.1 r.2).pumpSeat (DeskId.idx d) k).homesGo)) ∧
  (∀ (d : DeskId) (k : Fin 4) (id : Nat) (st : BitVec 5) (data : List Byte) (a : Access) (r : BitVec 5 × List Byte) (s : State),
    (s.seat (DeskId.idx d) k).acc = [a] → (s.desk (DeskId.idx d)).left = [] → a.id = id → a.result = some r → a.kind.last = true →
    (a.kind.isLoad = true → a.kind ≠ .omv ∧ a.sz < 7) → abortStatus r.1 = false → s.coh.waitq = [] →
    Does (.accessCompletion d k id st data) s (fun t => SameRegs s t ∧ SameMemory s t ∧ (∀ j, j ≠ DeskId.idx d → t.desk j = s.desk j) ∧
      let x : Seat := { s.seat (DeskId.idx d) k with acc := [] }
      t.seat (DeskId.idx d) k = ((if a.kind.isLoad = true ∧ r.1 = stOk then x.load a.sz a.d r.2 else x).record r.1 true a.pc).settle)) ∧
  (∀ (s : State) (desk : Nat) (k : Fin 4) (a : Access) (st : BitVec 5) (data : List Byte), abortStatus st = false →
    (s.desk desk).left = [] → (s.complete desk k a st data).access desk k a.id = none ∧ SameRegs s (s.complete desk k a st data) ∧
    (st ≠ stOk → SameMemory s (s.complete desk k a st data)) ∧
    ∀ j, j ≠ desk → (s.complete desk k a st data).desk j = s.desk j) ∧
  (∀ (d : DeskId) (id : Nat) (s : State), (s.bell.phase ≠ .body ∨ (∀ k, s.access (DeskId.idx d) k id = none) ∧ s.coh.waitq = []) →
    exec (.timetabledDeparture d id) s = .next s) ∧
  (∀ (d : DeskId) (id : Nat) (a : Access) (s : State), s.bell.phase = .body → s.access (DeskId.idx d) 0 id = some a → a.stage = .slot →
    exec (.timetabledDeparture d id) s = .next (((s.depart (DeskId.idx d) 0 a).forAll [(1 : Fin 4), 2, 3]
      (fun s k => s.departAccess (DeskId.idx d) id k)).homesGo)) ∧
  (∀ (d : DeskId) (id : Nat) (a : Access) (s : State), s.bell.phase = .body → s.coh.waitq = [] → (s.desk (DeskId.idx d)).left = [] →
    (s.seat (DeskId.idx d) 0).acc = [a] → (∀ k : Fin 4, k ≠ 0 → (s.seat (DeskId.idx d) k).acc = []) → a.id = id → a.stage = .slot →
    a.kind = .bbLoad → a.sz < 7 → a.since = none → a.timed = true → Does (.timetabledDeparture d id) s (fun t => SameMemory s t ∧ SameRegs s t ∧
      t.seat (DeskId.idx d) 0 = ((({ s.seat (DeskId.idx d) 0 with acc := [] } : Seat).load a.sz a.d
        (s.bytes (bbBase (roomOf (DeskId.idx d)) + a.f.fpa.toNat) a.f.length.toNat)).record stOk true a.pc).settle)) ∧
  (∀ (d : DeskId) (k : Fin 4) (s : State), (s.seat (DeskId.idx d) k).acc = [] → (s.seat (DeskId.idx d) k).fence = true →
    Does (.fenceRelDrained d k) s (fun t => (t.seat (DeskId.idx d) k).fence = false ∧ { t with desks := s.desks } = s ∧
      ∀ j, j ≠ DeskId.idx d → t.desk j = s.desk j)) ∧
  (∀ (d : DeskId) (k : Fin 4) (s : State), 2 ≤ (s.seat (DeskId.idx d) k).acc.length → exec (.fenceRelDrained d k) s = .next s)

/-- The Long Tally unit and a stalled router (R262, R263, R276): the oldest queued operation is accepted, and a waiting one takes
its place; an accepted one is performed, and one that would change a line which a collective holds completes with PERM; an add that
finds a residue mismatch is counted; a stalled router sets its Classroom's fault bit and requests a compute reset. -/
def Sys2Proof.Machine.rulesLongTallyUnit : Prop :=
  let free : State → Nat → LtReq → Prop := fun s room q => ∀ l ∈ ltLines room q.off, s.collAt l = none
  (∀ (w : Fin 4) (c : Fin 300) (q : LtReq) (l : List LtReq) (s : State), (s.room (300 * w.val + c.val)).lt = q :: l →
    (s.room (300 * w.val + c.val)).ltWait = [] → Does (.longTallyAccept w c) s (fun t =>
      t.room (300 * w.val + c.val) = { s.room (300 * w.val + c.val) with lt := l, ltBusy := (s.room (300 * w.val + c.val)).ltBusy ++ [q] } ∧
      { t with rooms := s.rooms } = s ∧ ∀ j, j ≠ 300 * w.val + c.val → t.room j = s.room j)) ∧
  (∀ (w : Fin 4) (c : Fin 300) (s : State), (s.room (300 * w.val + c.val)).lt = [] → exec (.longTallyAccept w c) s = .next s) ∧
  (∀ (w : Fin 4) (c : Fin 300) (u : Int) (s : State), (s.room (300 * w.val + c.val)).ltBusy = [] →
    exec (.longTallyComplete w c u) s = .next s) ∧
  (∀ (w : Fin 4) (c : Fin 300) (u : Int) (q : LtReq) (l : List LtReq) (s : State), (s.room (300 * w.val + c.val)).ltBusy = q :: l →
    exec (.longTallyComplete w c u) s =
      .next ((s.setRoom (300 * w.val + c.val) { s.room (300 * w.val + c.val) with ltBusy := l }).ltPerform (300 * w.val + c.val) q u)) ∧
  (∀ (w : Fin 4) (c : Fin 300) (u : Int) (q : LtReq) (l : List LtReq) (s : State), let room := 300 * w.val + c.val
    (s.room room).ltBusy = q :: l → q.op = .clear → free s room q → Does (.longTallyComplete w c u) s (fun t =>
      t.bytes (bbBase room + q.off) 576 = List.replicate 576 0 ∧ SameMemoryBut s t (bbBase room + q.off) 576 ∧ SameRegs s t ∧
      t.desks = s.desks ∧ (t.room room).ltBusy = l)) ∧
  (∀ (w : Fin 4) (c : Fin 300) (u : Int) (q : LtReq) (l : List LtReq) (s : State), let room := 300 * w.val + c.val
    (s.room room).ltBusy = q :: l → (match q.op with | .read .. => false | _ => true) = true → ¬ free s room q → q.told = true →
    Does (.longTallyComplete w c u) s (fun t => SameMemory s t ∧ SameRegs s t ∧
      statLast (t.seat q.desk (Fin.ofNat 4 q.seat)).stat = stPerm.toNat)) ∧
  (∀ (s : State) (room : Nat) (q : LtReq) (u : Int) (x : FVal) (neg : Bool), q.op = .add x neg → free s room q →
    (s.longTally room q.off).res ≠ residue (s.longTally room q.off).val →
    s.regBit (roomReg room crFault) 3 = true →
    (s.ltPerform room q u).reg (roomReg room crLtErr) = s.reg (roomReg room crLtErr) + 1 ∧
    (s.ltPerform room q u).desks = s.desks) ∧
  (∀ (w : Fin 4) (c : Fin 300) (s : State), exec (.routerStall w c) s =
    .next ((s.classFault (300 * w.val + c.val) 5).requestReset 0 2 (300 * w.val + c.val))) ∧
  (∀ (w : Fin 4) (c : Fin 300) (s : State), s.outOfService = false → s.regBit rRstCtl 0 = false → Does (.routerStall w c) s (fun t =>
    t.regBit (roomReg (300 * w.val + c.val) crFault) 5 = true ∧ t.regBit rRstStatus 8 = true ∧ t.fenced 0 = s.fenced 0 ∧ SameMemory s t)) ∧
  (∀ (s : State) (room : Nat), s.regBit (roomReg room crFaultEn) 5 = false →
    (s.classFault room 5).regBit (roomReg room crFault) 5 = true ∧ OnlyRegs s (s.classFault room 5) [roomReg room crFault])

/-- A Tally's arithmetic (R320, R322, R328, R329): an image holds the accumulator it was made from; an add in range is exact and
RES holds the residue of the new VALUE, so adds may be made in any order; an add out of range changes neither and sets ERR and
RANGE; an adder error that the residue can show leaves VALUE and sets ERR. -/
def Sys2Proof.Machine.rulesTallyArithmetic : Prop :=
  let fits : Nat → Int → Prop := fun w v => -(2 ^ (w - 1) : Int) ≤ v ∧ v < 2 ^ (w - 1)
  (∀ (w : Nat) (a : Acc), 1 ≤ w → fits w a.val → a.res < 256 → Acc.unpack w (Acc.pack w a) = a) ∧
  (∀ (w : Nat) (a : Acc) (k : Int), 1 ≤ w → a.res = residue a.val → fits w (a.val + k) →
    Acc.addUnits w a k 0 = { a with val := a.val + k, res := residue (a.val + k) }) ∧
  (∀ (w : Nat) (a : Acc) (k u : Int), ¬ fits w (a.val + k) → Acc.addUnits w a k u = { a with err := true, range := true }) ∧
  (∀ (w : Nat) (a : Acc) (k u : Int), 1 ≤ w → a.res = residue a.val → fits w (a.val + k) → fits w (a.val + k + u) → u % 255 ≠ 0 →
    Acc.addUnits w a k u = { a with err := true }) ∧
  (∀ (w : Nat) (a : Acc) (j k : Int), 1 ≤ w → a.res = residue a.val → fits w (a.val + j) → fits w (a.val + k) → fits w (a.val + j + k) →
    Acc.addUnits w (Acc.addUnits w a j 0) k 0 = Acc.addUnits w (Acc.addUnits w a k 0) j 0) ∧
  (∀ (q : Nat) (a : Acc) (f : Fmt) (r : Rnd), a.err = true → Acc.readout q a f r = none) ∧
  (∀ (q : Nat) (a : Acc) (f : Fmt) (r : Rnd), a.err = false → (a.nan = true ∨ (a.pinf = true ∧ a.ninf = true)) →
    Acc.readout q a f r = some f.nan)

/-- The long tally unit and the arithmetic of tallies (the rules of the two parts). Where a command comes in a state for which
the spec gives it no effect, nothing changes: the model's choice (log 2). It rests in part on choices of the model: log 17. -/
def Obligations.LongTallies : Prop :=
  rulesLongTallyUnit ∧ rulesTallyArithmetic

/-- The verdict (R343): where every member's vote is 1 the root, once, writes GO with status OK to its verdict line (R342), and
else NO with the highest code among the failing votes, a byte still 0 counting as NO_ROUTE, and as the cause the member of
the lowest index among those that give that code; a root that holds no undecided reservation of that collective decides
nothing. -/
def Obligations.Verdicts : Prop :=
  let code : Byte → Nat := fun b => if b = 0 then 0x0D else (statusByte b.toNat).toNat
  let found : State → BitVec 32 → Nat → CollCtx → Prop := fun s id i c =>
    s.colls.find? (fun e => e.2.desc.id = id && e.2.st = .reserved && e.2.desc.index = 0 && !e.2.decided) = some (i, c)
  (∀ (id : BitVec 32) (i : Nat) (c : CollCtx) (s : State), found s id i c →
    (∀ b ∈ s.peek c.desc.vote c.desc.members, b = 1) →
    exec (.verdictDecision id) s =
      .next ((s.putColl i (some { c with decided := true })).poke c.desc.verdict (verdictLine id 1 0 0))) ∧
  (∀ (id : BitVec 32) (i k : Nat) (b : Byte) (c : CollCtx) (s : State), found s id i c →
    (s.peek c.desc.vote c.desc.members)[k]? = some b → b ≠ 1 →
    (∀ x ∈ s.peek c.desc.vote c.desc.members, x ≠ 1 → code x ≤ code b) →
    (∀ j x, j < k → (s.peek c.desc.vote c.desc.members)[j]? = some x → x ≠ 1 → code x < code b) →
    exec (.verdictDecision id) s = .next ((s.putColl i (some { c with decided := true })).poke c.desc.verdict
      (verdictLine id 2 (BitVec.ofNat 8 (code b)) (s.memberNode c.desc k)))) ∧
  (∀ (id : BitVec 32) (i : Nat) (c : CollCtx) (s : State), found s id i c → c.desc.verdict + 64 ≤ 2 ^ 40 → s.coh.trans = [] →
    (∀ b ∈ s.peek c.desc.vote c.desc.members, b = 1) → Does (.verdictDecision id) s (fun t =>
      t.collCtx i = some { c with decided := true } ∧ t.bytes c.desc.verdict 64 = verdictLine id 1 0 0 ∧
      SameMemoryBut s t c.desc.verdict 64)) ∧
  (∀ (id : BitVec 32) (s : State), (∀ e ∈ s.colls, ¬ (e.2.desc.id = id ∧ e.2.st = .reserved ∧ e.2.desc.index = 0 ∧ e.2.decided = false)) →
    exec (.verdictDecision id) s = .next s)

/-- Walks and faults (R372, R374, R375, R377, R380, R381, R396, R397): a table read outside the table window fails its walk, as does
an entry that is not present; a walk that does not run reads nothing; a walk's end removes it and counts it, and a prefetch walk's
translation enters its Wing's TLB; a page-format descriptor that fails R372 sets CFG_ERR; a resume of a record that does not wait for
one is refused. -/
def Sys2Proof.Machine.rulesWalks : Prop :=
  let runs : State → Nat → Walk → Prop := fun s id w => s.xl.walks.find? (fun w => w.id = id) = some w ∧ w.level ≠ 0 ∧ s.walkRuns w = true
  let run : Walk → Walk := fun w => { w with running := true }
  (∀ (id : Nat) (e : Option (BitVec 64)) (s : State), (∀ w ∈ s.xl.walks, w.id ≠ id) → exec (.walkTableRead id e) s = .next s) ∧
  (∀ (id : Nat) (e : Option (BitVec 64)) (w : Walk) (s : State), s.xl.walks.find? (fun w => w.id = id) = some w → s.walkRuns w = false →
    exec (.walkTableRead id e) s = .next s) ∧
  (∀ (id : Nat) (e : Option (BitVec 64)) (w : Walk) (s : State), runs s id w → s.xl.cache = [] → w.entryAddr < (s.reg rTblHbase).toNat →
    Does (.walkTableRead id e) s (fun t => t = s.setWalk ((run w).fail stUnmapped 4 w.level) ∧ SameRegs s t ∧ SameMemory s t)) ∧
  (∀ (id : Nat) (e : Option (BitVec 64)) (w : Walk) (k : WalkEntry) (s : State), runs s id w →
    s.xl.cache.find? (fun k => k.stage2 = w.stage2 && k.owner = s.cacheOwner w && k.addr = w.entryAddr) = some k →
    exec (.walkTableRead id e) s = .next ((s.setWalk (run w)).useEntry (run w) k.entry)) ∧
  (∀ (id : Nat) (e : Option (BitVec 64)) (w : Walk) (s : State), runs s id w → s.xl.cache = [] → s.fenced 2 = false →
    (s.reg rTblHbase).toNat ≤ w.entryAddr → w.entryAddr < (s.reg rTblHbase).toNat + (s.reg rTblLen).toNat →
    let fpa := s.regF rTblFpa 0 56 + (w.entryAddr - (s.reg rTblHbase).toNat)
    fpa / 2 ^ 44 = s.node.toNat → s.peekBad (fpa % 2 ^ 44) 8 = false → s.isFenced (s.whereIs (fpa % 2 ^ 44)) (fpa % 2 ^ 44) 8 = false →
    (BitVec.ofNat 64 (s.peekNum (fpa % 2 ^ 44) 8)).getLsbD (pfdOf (if w.stage2 then w.pfd2 else w.pfd1)).pPos = false →
    Does (.walkTableRead id e) s (fun t => SameMemory s t ∧
      t.xl.walks.find? (fun w => w.id = id) = some ((run w).fail stUnmapped 0 w.level))) ∧
  (∀ (id : Nat) (s : State), (∀ w ∈ s.xl.walks, ¬ (w.id = id ∧ w.level = 0)) → exec (.walkComplete id) s = .next s) ∧
  (∀ (id : Nat) (w : Walk) (s : State), s.xl.walks.find? (fun w => w.id = id && w.level = 0) = some w →
    exec (.walkComplete id) s = .next (((s.walkGone w).walkTold w).settleStreams) ∧
    (∀ x ∈ (s.walkGone w).xl.walks, x.id ≠ id) ∧ (s.walkGone w).reg rWalks = s.reg rWalks + 1) ∧
  (∀ (id n : Nat) (w : Walk) (k : Tlb) (s : State), s.xl.walks.find? (fun w => w.id = id && w.level = 0) = some w → w.who = .prefetch n →
    w.failed = none → w.done = some k → s.wingTlb n = [] → s.strms = [] → Does (.walkComplete id) s (fun t => t.wingTlb n = [k] ∧
      (∀ x ∈ t.xl.walks, x.id ≠ id) ∧ t.reg rWalks = s.reg rWalks + 1 ∧ t.reg rPfWalks = s.reg rPfWalks + 1 ∧ SameMemory s t)) ∧
  (∀ (i : Fin 8) (v : BitVec 64) (s : State), s.recovery = false → pfdOk v = true →
    Does (.xltPfdWrite i v) s (fun t => t.reg (rPfd + 8 * i.val) = v &&& 0x0FFFFFFFFFFFF101 ∧ OnlyRegs s t [rPfd + 8 * i.val])) ∧
  (∀ (i : Fin 8) (v : BitVec 64) (s : State), s.recovery = false → pfdOk v = false →
    Does (.xltPfdWrite i v) s (fun t => t.regBit rXltStatus 0 = true ∧ OnlyRegs s t [rXltStatus])) ∧
  (∀ (v : BitVec 64) (s : State), s.recovery = false → exec (.fltTailWrite v) s = .next ((s.writeFltTail v).loaderAgain)) ∧
  (∀ (v : BitVec 64) (s : State), s.recovery = false → s.strms = [] → (∀ p : Fin 2, (s.page p).stalled ≠ 2) →
    Does (.fltTailWrite v) s (fun t => t.reg rFltTail = v ∧ OnlyRegs s t [rFltTail])) ∧
  (∀ (token : BitVec 16) (s : State), s.recovery = false → token ≠ 0xFFFF →
    exec (.fltResumeRetry token) s = .next (s.resumeRecord token.toNat true) ∧
    exec (.fltResumeAbort token) s = .next (s.resumeRecord token.toNat false)) ∧
  (∀ (token : BitVec 16) (s : State), s.recovery = false → token ≠ 0xFFFF → s.saveState token.toNat ≠ 1 →
    Does (.fltResumeRetry token) s (fun t => t.regBit rFltStatus 3 = true ∧ OnlyRegs s t [rFltStatus]) ∧
    Does (.fltResumeAbort token) s (fun t => t.regBit rFltStatus 3 = true ∧ OnlyRegs s t [rFltStatus])) ∧
  (∀ (token : BitVec 16) (s : State), s.recovery = false → token ≠ 0xFFFF → s.saveState token.toNat = 1 → token.toNat < min s.saveCount 4096 →
    s.strict = false → Does (.fltResumeRetry token) s (fun t => t = s.setSaveState token.toNat 2 ∧ t.desks = s.desks ∧ t.strms = s.strms)) ∧
  (∀ s : State, s.recovery = false → (∀ p, s.loaderStalled p = false) →
    Does (.fltResumeRetry 0xFFFF) s (fun t => t.regBit rFltStatus 3 = true ∧ OnlyRegs s t [rFltStatus]) ∧
    Does (.fltResumeAbort 0xFFFF) s (fun t => t.regBit rFltStatus 3 = true ∧ OnlyRegs s t [rFltStatus]))

/-- Invalidations (R381, R402, R403, R404): a start with sixteen tickets outstanding sets the overflow bit and starts none; any
other takes the next ticket number; an INVAL leaves no covered entry in the caches of its engine; an acknowledgement or a
timeout of a ticket that is not outstanding changes nothing. -/
def Sys2Proof.Machine.rulesInvalidations : Prop :=
  let full : Instr → Prop := fun c => ∀ s : State, s.recovery = false → 16 ≤ s.xl.tickets.length →
    Does c s (fun t => t.regBit rInvStatus 16 = true ∧ OnlyRegs s t [rInvStatus])
  let starts : Instr → (State → State) → Prop := fun c f => ∀ s : State, s.recovery = false → exec c s = .next (f s)
  (∀ (a : BitVec 64) (n : BitVec 32) (c : BitVec 10), full (.invFvaRange a n c) ∧
    starts (.invFvaRange a n c) (fun s => s.startInval 0 a.toNat n.toNat c 0)) ∧
  (∀ c : BitVec 10, full (.invCohortAll c) ∧ starts (.invCohortAll c) (fun s => s.startInval 1 0 0 c 0)) ∧
  (∀ (a : BitVec 64) (n : BitVec 32) (p : BitVec 6), full (.invIaRange a n p) ∧
    starts (.invIaRange a n p) (fun s => s.startInval 2 a.toNat n.toNat 0 p.toNat)) ∧
  (∀ p : BitVec 6, full (.invPartitionAll p) ∧ starts (.invPartitionAll p) (fun s => s.startInval 3 0 0 0 p.toNat)) ∧
  full .invWalkCaches ∧ starts .invWalkCaches (fun s => s.startInval 4 0 0 0 0) ∧
  (∀ (s : State) (k a n : Nat) (c : BitVec 10) (p : Nat), s.xl.tickets.length < 16 →
    (s.startInval k a n c p).xl.tickets.length = s.xl.tickets.length + 1 ∧
    (s.startInval k a n c p).regF rInvStatus 0 16 = (s.regF rInvStatus 0 16 + 1) % 2 ^ 16) ∧
  (∀ (f : Frame) (s : State), Does (.inval .module f) s (fun t =>
    (∀ k ∈ t.xl.cache, s.coversCache (Inval.ofBytes f.payload) k = false) ∧
    (∀ e ∈ t.xl.wing, ∀ x ∈ e.2, s.covers (Inval.ofBytes f.payload) x = false) ∧
    (∀ x ∈ t.xl.pins, s.covers (Inval.ofBytes f.payload) x.2.2.2 = false) ∧
    t.xl.jobs.length = s.xl.jobs.length + 1 ∧ SameRegs s t ∧ SameMemory s t)) ∧
  (∀ (p : Fin 64) (f : Frame) (s : State), Does (.inval (.dep p) f) s (fun t =>
    (∀ x ∈ (t.dep p.val).tlb, s.covers (Inval.ofBytes f.payload) x = false) ∧ SameRegs s t ∧ SameMemory s t)) ∧
  (∀ (e : Engine) (k : BitVec 32) (s : State), (∀ j ∈ s.xl.jobs, ¬ (j.eng = Engine.num e ∧ j.ticket = k)) →
    exec (.invalDrained e k) s = .next s) ∧
  (∀ (e : Engine) (k : BitVec 32) (s : State), exec (.invalDrained e k) s = .next (s.invalDone (Engine.num e) k)) ∧
  (∀ (e : Engine) (j : InvalJob) (s : State), s.xl.jobs = [j] → j.eng = Engine.num e → Does (.invalDrained e j.ticket) s (fun t => t.xl.jobs = [] ∧
    SameMemory s t)) ∧
  (∀ (f : Frame) (s : State), (∀ t ∈ s.xl.tickets, t.id ≠ BitVec.ofNat 32 (leAt f.payload 0 4)) → exec (.invalAck f) s = .next s) ∧
  (∀ (f : Frame) (t : Ticket) (s : State), s.xl.tickets.find? (fun x => x.id = BitVec.ofNat 32 (leAt f.payload 0 4)) = some t →
    (∃ n ∈ t.waits, n ≠ f.src) → Does (.invalAck f) s (fun u => u.xl.tickets.length = s.xl.tickets.length ∧ SameRegs s u)) ∧
  (∀ (k : BitVec 32) (s : State), (∀ t ∈ s.xl.tickets, t.id ≠ k) → exec (.invTimeout k) s = .next s) ∧
  (∀ (k : BitVec 32) (t : Ticket) (s : State), s.xl.tickets.find? (fun x => x.id = k) = some t →
    Does (.invTimeout k) s (fun u => ∀ x ∈ u.xl.tickets, x.id ≠ k))

/-- Walks, faults and invalidations (the rules of the two parts). Where a command comes in a state for which the spec gives it
no effect, nothing changes: the model's choice (log 2). It rests in part on choices of the model: log 23, log 74, log 85. -/
def Obligations.Translation : Prop :=
  rulesWalks ∧ rulesInvalidations

/-- Stream engines (R31, R388, R389, R390, R399, R400): an engine that has a transfer takes up no other, and one starts none in
the roll call; an idle engine that takes up a transfer has its first tile to translate; an idle engine translates, sends and
completes nothing; a tile whose frames have all succeeded is followed by the next; a transfer parks only where it is told
to, into a save record. Where a command comes in a state for which the spec gives it no effect, nothing changes: the model's
choice (log 2). It rests in part on choices of the model: log 43, log 45. -/
def Obligations.StreamEngines : Prop :=
  let quiet : State → Fin 4 → Fin 64 → Prop := fun s w e => (s.strm w.val e.val).ends = []
  (∀ (w : Fin 4) (e : Fin 64) (s : State), quiet s w e → ((s.strm w.val e.val).cur ≠ none ∨ s.streamsRun = false) →
    exec (.transferStart w e) s = .next s) ∧
  (∀ (w : Fin 4) (e : Fin 64) (d : StreamDesc) (n : Nat) (loose : Bool) (l : List (StreamDesc × Nat × Bool)) (s : State), quiet s w e →
    (s.strm w.val e.val).cur = none → (s.strm w.val e.val).queue = (d, n, loose) :: l → s.streamsRun = true → descResume d = false →
    s.startRefusal d = none → exec (.transferStart w e) s =
      .next ((s.setStrm w.val e.val { s.strm w.val e.val with queue := l, cur := some (freshXfer d n loose) }).seek w.val e.val)) ∧
  (∀ (w : Fin 4) (e : Fin 64) (d : StreamDesc) (n : Nat) (loose : Bool) (l : List (StreamDesc × Nat × Bool)) (s : State), quiet s w e →
    (s.strm w.val e.val).cur = none → (s.strm w.val e.val).queue = (d, n, loose) :: l → s.streamsRun = true → descResume d = false →
    s.startRefusal d = none → s.strict = false → (tilePages d n).length ≤ 512 → Does (.transferStart w e) s (fun t =>
      (t.strm w.val e.val).queue = l ∧ SameMemory s t ∧ SameRegs s t ∧ ∃ c, (t.strm w.val e.val).cur = some c ∧ c.d = d ∧ c.tile = n ∧
        c.stage = .translating)) ∧
  (∀ (w : Fin 4) (e : Fin 64) (s : State), quiet s w e → (s.strm w.val e.val).cur = none →
    exec (.tileTranslated w e) s = .next s ∧ exec (.tileComplete w e) s = .next s ∧ exec (.transferPark w e) s = .next s) ∧
  (∀ (w : Fin 4) (e : Fin 64) (s : State), exec (.tileTranslated w e) s =
    .next (((s.seek w.val e.val).beginTile w.val e.val).sendTile w.val e.val)) ∧
  (∀ (w : Fin 4) (e : Fin 64) (c : Xfer) (s : State), (s.strm w.val e.val).cur = some c → c.stage = .translating → c.walks ≠ [] →
    exec (.tileTranslated w e) s = .next s) ∧
  (∀ (w : Fin 4) (e : Fin 64) (c : Xfer) (s : State), quiet s w e → (s.strm w.val e.val).cur = some c → c.stage = .translating →
    exec (.tileComplete w e) s = .next s) ∧
  (∀ (w : Fin 4) (e : Fin 64) (s : State), exec (.tileComplete w e) s =
    .next (((s.sendTile w.val e.val).endsGo w.val e.val).tileDone w.val e.val)) ∧
  (∀ (w : Fin 4) (e : Fin 64) (c : Xfer) (s : State), quiet s w e → (s.strm w.val e.val).cur = some c → c.stage = .sending →
    (∀ x ∈ c.frames, x.sent = true ∧ ∃ d, x.done = some (stOk, d)) → c.tile + 1 < c.d.tiles.toNat → c.parking = false → s.strict = false →
    (tilePages c.d (c.tile + 1)).length ≤ 512 → c.walks = [] → Does (.tileComplete w e) s (fun t => SameMemory s t ∧
      ∃ y, (t.strm w.val e.val).cur = some y ∧ y.d = c.d ∧ y.tile = c.tile + 1 ∧ y.stage = .translating)) ∧
  (∀ (w : Fin 4) (e : Fin 64) (c : Xfer) (s : State), (s.strm w.val e.val).cur = some c → c.parking = false →
    exec (.transferPark w e) s = .next s) ∧
  (∀ (w : Fin 4) (e : Fin 64) (c : Xfer) (s : State), (s.strm w.val e.val).cur = some c → c.parking = true → c.stage ≠ .sending →
    exec (.transferPark w e) s = .next (s.parkAt w.val e.val c c.tile)) ∧
  (∀ (w : Fin 4) (e : Fin 64) (c : Xfer) (i : Nat) (s : State), (s.strm w.val e.val).cur = some c → c.parking = true → c.stage ≠ .sending →
    s.freeSave = some i → Does (.transferPark w e) s (fun t => (t.strm w.val e.val).cur = none ∧
      (t.strm w.val e.val).queue = (s.strm w.val e.val).queue)) ∧
  (∀ (fs : List TileFrame), (∀ x ∈ fs, ∃ d, x.done = some (stOk, d)) → tileStatus fs = some stOk) ∧
  (∀ (fs : List TileFrame) (x : TileFrame), x ∈ fs → x.done = none → x.sent = true → tileStatus fs = none)

/-- Pooled memory on its own (R408, R413, R417, R420, R422, R423, R646): a refresh of a bank that a hold keeps is postponed to
the hold's end; a patrol read of a line found clean moves the patrol on; a corrected line is written back; a training that
passes sets TRAINED, and the third failure FAILED; its registers refuse values outside their ranges. Where a command comes
in a state for which the spec gives it no effect, nothing changes: the model's choice (log 2). It rests in part on choices
of the model: log 49. -/
def Obligations.PooledMemory : Prop :=
  (∀ (c : Fin 64) (b : Fin 32) (s : State), s.bankHeld c.val b.val = false → Does (.channelRefresh c b) s (fun t =>
    tget (fun _ => none) (t.chan c.val).rows b.val = none ∧ SameRegs s t ∧ SameMemory s t ∧ ∀ j, j ≠ c.val → t.chan j = s.chan j)) ∧
  (∀ (c : Fin 64) (b : Fin 32) (s : State), s.bankHeld c.val b.val = true → Does (.channelRefresh c b) s (fun t =>
    b.val ∈ (t.chan c.val).due ∧ (t.chan c.val).rows = (s.chan c.val).rows ∧ SameRegs s t ∧ ∀ j, j ≠ c.val → t.chan j = s.chan j)) ∧
  (∀ (c : Fin 64) (b : Fin 32) (s : State), Does (.bankHoldEnd c b) s (fun t =>
    t.bankHeld c.val b.val = false ∧ b.val ∉ (t.chan c.val).due ∧
    (b.val ∈ (s.chan c.val).due → tget (fun _ => none) (t.chan c.val).rows b.val = none) ∧ SameRegs s t ∧ SameMemory s t)) ∧
  (∀ (o : PatrolOutcome) (s : State), s.patrolMay = false → exec (.patrolRead o) s = .next s) ∧
  (∀ s : State, s.patrolMay = true → Does (.patrolRead .clean) s (fun t =>
    t.g7m.patrol = (s.g7m.patrol + 1) % 2 ^ 34 ∧ t.g7m.bad = s.g7m.bad ∧ SameMemory s t)) ∧
  (∀ (d : Vector Byte 64) (s : State), s.patrolMay = true → Does (.patrolRead (.corrected d)) s (fun t =>
    t.bytes (64 * s.g7m.patrol) 64 = d.toList ∧ SameMemoryBut s t (64 * s.g7m.patrol) 64 ∧
    t.g7m.patrol = (s.g7m.patrol + 1) % 2 ^ 34)) ∧
  (∀ s : State, s.patrolMay = true → s.g7m.patrol < 2 ^ 34 → Does (.patrolRead .uncorrectable) s (fun t =>
    t.lineBad s.g7m.patrol = true ∧ SameMemory s t)) ∧
  (∀ (c : Fin 64) (full : Bool) (s : State), s.regBit (chReg c.val 0) 1 = false → s.regBit rRstStatus 4 = false →
    Does (.channelTrainingComplete c true full) s (fun t => t.regBit (chReg c.val 0) 0 = true ∧ t.ready (readyCh c.val) = true ∧
      (t.chan c.val).fails = 0 ∧ SameMemory s t)) ∧
  (∀ (c : Fin 64) (full : Bool) (s : State), s.regBit (chReg c.val 0) 1 = false → 2 ≤ (s.chan c.val).fails →
    Does (.channelTrainingComplete c false full) s (fun t => t.regBit (chReg c.val 0) 1 = true ∧ t.ready (readyCh c.val) = s.ready (readyCh c.val))) ∧
  (∀ (c : Fin 64) (passed full : Bool) (s : State), s.regBit (chReg c.val 0) 1 = true →
    exec (.channelTrainingComplete c passed full) s = .next s) ∧
  FieldWrite .g7mTtRegionWrite rTtRegion 30 10 (fun s v => 1 ≤ fget v 48 5 ∧ fget v 48 5 ≤ 16 ∧
    fget v 30 10 * 2 ^ 30 + fget v 48 5 * 2 ^ 30 ≤ 2 ^ 40 ∧
    rangesMeet (fget v 30 10 * 2 ^ 30, fget v 48 5 * 2 ^ 30) (s.ovfRegion.1, s.ovfRegion.2 - s.ovfRegion.1) = false ∧
    s.pageBusy 0 = false ∧ s.pageBusy 1 = false) rG7mStatus 0 ∧
  FieldWrite .g7mArbWrite rG7mArb 0 9 (fun _ v => arbOk v = true) rG7mStatus 0 ∧
  FieldWrite .g7mScrubWrite rScrub 0 8 (fun _ v => 1 ≤ fget v 0 8 ∧ fget v 0 8 ≤ 168) rG7mStatus 0

/-- The optical matrix unit (R430, R433, R436, R442, R445, R446, R572): in STRICT a vector is answered STRICT at once; one that
no Prism serves NO_ROUTE; one that is served waits; the third error above the lock limit unlocks its Prism, and a Prism that
locks again is LOCKED. Where a command comes in a state for which the spec gives it no effect, nothing changes: the model's
choice (log 2). -/
def Obligations.Prisms : Prop :=
  (∀ (f : Frame) (v : PrismVector) (s : State), s.strict = true →
    exec (.vectorFrame f v) s = .next (s.vecDone { v := { v with requester := 0 }, owner := .frame f, timed := f.vc = 0 } stStrict [])) ∧
  (∀ (f : Frame) (v : PrismVector) (s : State), s.strict = false → s.fenced 0 = false → s.served_ { v with requester := 0 } = false →
    exec (.vectorFrame f v) s = .next (s.vecDone { v := { v with requester := 0 }, owner := .frame f, timed := f.vc = 0 } stNoRoute [])) ∧
  (∀ (f : Frame) (v : PrismVector) (s : State), s.strict = false → s.fenced 0 = false → s.served_ { v with requester := 0 } = true →
    Does (.vectorFrame f v) s (fun t => t.omu.queue = s.omu.queue ++ [{ v := { v with requester := 0 }, owner := .frame f, timed := f.vc = 0 }] ∧
      { t with omu := s.omu } = s)) ∧
  (∀ (p : Fin 4) (s : State), exec (.prismFrameGrant p) s = .next (s.prismOpportunity p)) ∧
  (∀ (p : Fin 4) (s : State), (s.freeBank = none ∨ (s.prism p).loading.isSome = true) → exec (.prismFrameGrant p) s = .next s) ∧
  (∀ (p : Fin 4) (s : State), s.omu.queue = [] → Does (.prismFrameGrant p) s (fun t => (t.prism p).frames = (s.prism p).frames ∧
    (t.prism p).held = (s.prism p).held ∧ { t with omu := s.omu } = s)) ∧
  (∀ (p : Fin 4) (s : State), (s.prism p).frames = [] → exec (.prismResult p) s = .next s) ∧
  (∀ (p : Fin 4) (f : PrismFrame) (l : List PrismFrame) (s : State), (s.prism p).frames = f :: l → f.bad = true →
    exec (.prismResult p) s = .next ((((s.setPrism p { s.prism p with frames := l }).addReg (prismReg p.val 0x20) f.vecs.length)).forAll f.vecs
      (fun s v => s.vecDone v stDataErr []))) ∧
  (∀ (p : Fin 4) (f : PrismFrame) (l : List PrismFrame) (v : OmuVec) (d : DeskId) (k : Fin 4) (id : Nat) (s : State),
    (s.prism p).frames = f :: l → f.bad = true → f.vecs = [v] → v.owner = .desk (DeskId.idx d) k.val id →
    Does (.prismResult p) s (fun t => (t.prism p).frames = l ∧ Answered t d k id stDataErr [] ∧ SameMemory s t)) ∧
  (∀ (p : Fin 4) (s : State), (s.prism p).loading = none → exec (.prismSettled p) s = .next s) ∧
  (∀ (p : Fin 4) (m : OmuImage) (s : State), (s.prism p).loading = some m → Does (.prismSettled p) s (fun t =>
    (t.prism p).held = some m ∧ (t.prism p).loading = none ∧ t.regBit (prismStat p) 0 = true ∧ t.regF (prismStat p) 16 12 = m.name.toNat ∧
    t.regF (prismStat p) 32 10 = m.cohort.toNat ∧ OnlyRegs s { t with omu := s.omu } [prismStat p])) ∧
  (∀ (p : Fin 4) (e : Nat) (s : State), (s.prism p).unlocked = false → e ≤ 30000 → Does (.prismLockLoopUpdate p e) s (fun t =>
    (t.prism p).errors = 0 ∧ (t.prism p).unlocked = false ∧ { t with omu := s.omu } = s)) ∧
  (∀ (p : Fin 4) (e : Nat) (s : State), (s.prism p).unlocked = false → 30000 < e → (s.prism p).errors = 2 →
    Does (.prismLockLoopUpdate p e) s (fun t => (t.prism p).unlocked = true ∧ t.regBit (prismStat p) 1 = false ∧
      (∀ f ∈ (t.prism p).frames, f.bad = true) ∧ SameMemory s t)) ∧
  (∀ (p : Fin 4) (s : State), (s.prism p).unlocked = true → s.prismDown p = false → Does (.prismRelocked p) s (fun t =>
    (t.prism p).unlocked = false ∧ t.regBit (prismStat p) 1 = true ∧ OnlyRegs s { t with omu := s.omu } [prismStat p])) ∧
  (∀ (p : Fin 4) (s : State), (s.prism p).unlocked = false →
    exec (.prismRelocked p) s = .next s ∧ exec (.prismRelockTimeout p) s = .next s) ∧
  (∀ (p : Fin 4) (s : State), (s.prism p).unlocked = true →
    ∃ u : State, exec (.prismRelockTimeout p) s = .next u.dropUnserved ∧ (u.prism p).held = none ∧ u.prismDown p = true ∧
      u.ready (readyPrism p.val) = false ∧ OnlyRegs s { u with omu := s.omu } [prismStat p, rGlbReady + 8 * (readyPrism p.val / 64)]) ∧
  (∀ (p : Fin 4) (s : State), s.rst.down = false → s.recovery = false → s.fenced 0 = false → Does (.prismPowerOnLock p) s (fun t =>
    t.regBit (prismStat p) 1 = true ∧ t.ready (readyPrism p.val) = true ∧
    OnlyRegs s t [prismStat p, rGlbReady + 8 * (readyPrism p.val / 64)])) ∧
  (∀ (p : Fin 4) (s : State), s.regBit (prismStat p) 3 = true → exec (.calGraceExpiry p) s = .next s) ∧
  (∀ (p : Fin 4) (s : State), s.regBit (prismStat p) 3 = false → s.regBit rOmuCtl 1 = false → Does (.calGraceExpiry p) s (fun t =>
    t.regBit (prismStat p) 3 = true ∧ OnlyRegs s t [prismStat p])) ∧
  (∀ (v : BitVec 64) (s : State), s.recovery = false → Does (.omuMtxInvalWrite v) s (fun t =>
    (∀ i, i ∈ t.omu.images ↔ i ∈ s.omu.images ∧ i.name.toNat ≠ v.toNat % 4096) ∧ { t with omu := s.omu } = s)) ∧
  (∀ (v : BitVec 64) (s : State), s.recovery = false → Does (.omuCtlWrite v) s (fun t =>
    t.regF rOmuCtl 0 2 = fget v 0 2 ∧ OnlyRegs s t [rOmuCtl])) ∧
  (∀ (n : BitVec 12) (sigma : BitVec 32) (s : State), s.pagesNaming n = [] → exec (.matrixDecompositionDone n sigma) s = .next s) ∧
  (∀ (n : BitVec 12) (sigma : BitVec 32) (s : State), exec (.matrixDecompositionDone n sigma) s = .next (s.decomposed n sigma)) ∧
  (∀ (n : BitVec 12) (sigma : BitVec 32) (p : Fin 2) (s : State), s.pagesNaming n = [p] → s.mtxValid n = false →
    Does (.matrixDecompositionDone n sigma) s (fun t => t.pageState p.val = 6 ∧ t.regF rTtState (16 * p.val + 4) 3 = 1 ∧
      t.omu.images = s.omu.images))

/-- Requests of the die (R510, R511, R512, R515): one family of OP codes for each command; write data goes to the first request
still short of its own. Where a command comes in a state for which the spec gives it no effect, nothing changes: the model's
choice (log 2). It rests in part on choices of the model: log 62. -/
def Obligations.DieRequests : Prop :=
  BeatFamily .rqLd (fun b => b.op = 1) ∧ BeatFamily .rqSt (fun b => b.op = 2) ∧ BeatFamily .rqMst (fun b => b.op = 3) ∧
  BeatFamily .rqRed (fun b => b.op.toNat / 16 = 1) ∧ BeatFamily .rqFadd (fun b => b.op.toNat / 16 = 2) ∧
  BeatFamily .rqMin (fun b => b.op.toNat / 16 = 3) ∧ BeatFamily .rqMax (fun b => b.op.toNat / 16 = 4) ∧
  BeatFamily .rqSwap (fun b => b.op = 0x50 || b.op = 0x51) ∧ BeatFamily .rqCas (fun b => b.op = 0x52 || b.op = 0x53) ∧
  BeatFamily .rqAnd (fun b => b.op = 0x54 || b.op = 0x55) ∧ BeatFamily .rqOr (fun b => b.op = 0x56 || b.op = 0x57) ∧
  BeatFamily .rqXor (fun b => b.op = 0x58 || b.op = 0x59) ∧ BeatFamily .rqFence (fun b => b.op = 8) ∧
  BeatFamily .rqTld (fun b => b.op = 9) ∧ BeatFamily .rqTst (fun b => b.op = 10) ∧ BeatFamily .rqTred (fun b => b.op = 11) ∧
  (∀ (p : Fin 64) (data : List Byte) (s : State), (∀ r ∈ (s.dep p.val).reqs, r.need = 0) → exec (.wdBeat p data) s = .next s) ∧
  (∀ (p : Fin 64) (data : List Byte) (r : DieReq) (s : State), (s.dep p.val).reqs.find? (fun r => 0 < r.need) = some r →
    exec (.wdBeat p data) s = .next ((s.setReq p.val r.id (fun (q : DieReq) =>
      { q with data := q.data ++ data.take r.need, need := q.need - (data.take r.need).length })).settleDep p.val))

/-- Snoops at the Satchel (R146, R147): SNPI takes a held line away; SNPS leaves M in O and E in S; SNPD leaves the line as it
is; a line that waits for its grant holds the snoop; no other line of the Satchel changes. -/
def Obligations.SatchelSnoops : Prop :=
  let row : (Fin 64 → Frame → Instr) → BitVec 8 → Prop := fun c op => ∀ (p : Fin 64) (f : Frame) (s : State),
    exec (c p f) s = .next ((s.takeSnoop p.val { f with opcode := op }).settleDep p.val)
  let after : (Fin 64 → Frame → Instr) → SatState → SatState → Prop := fun c a b => ∀ (p : Fin 64) (f : Frame) (s : State),
    (s.sat p.val (lineOf f)).st = a → (s.sat p.val (lineOf f)).ue = false → (s.dep p.val).reqs = [] → (s.dep p.val).flush = none →
    (∀ e ∈ (s.dep p.val).sat, e.2.fail = none) →
    Does (c p f) s (fun t => (t.sat p.val (lineOf f)).st = b ∧ OnlyDeps s t ∧ ∀ l, l ≠ lineOf f → t.sat p.val l = s.sat p.val l)
  row .snps 0x68 ∧ row .snpi 0x69 ∧ row .snpd 0x6A ∧
  after .snpi .s .i ∧ after .snpi .e .i ∧ after .snpi .o .i ∧ after .snpi .m .i ∧ after .snpi .sm .im ∧ after .snpi .om .im ∧
  after .snps .s .s ∧ after .snps .e .s ∧ after .snps .o .o ∧ after .snps .m .o ∧ after .snps .wb .wb ∧
  after .snpd .s .s ∧ after .snpd .e .e ∧ after .snpd .o .o ∧ after .snpd .m .m ∧
  (∀ (s : State) (p : Nat) (f : Frame), ((s.sat p (lineOf f)).st = .is ∨ (s.sat p (lineOf f)).st = .im) →
    (s.takeSnoop p f).sat p (lineOf f) = { s.sat p (lineOf f) with held := some f } ∧ OnlyDeps s (s.takeSnoop p f))

/-- Responses at the Satchel (R137, R146, R154, R156, R167, R168): one that answers no outstanding request changes nothing; a
grant completes its line in the state granted, RETRY backs it off, and after the backoff it is asked for again; an
acknowledged write-back frees its entry; a FLUSH is taken up whatever the Satchel holds, and an empty Satchel has answered
it. Where a command comes in a state for which the spec gives it no effect, nothing changes: the model's choice (log 2). It
rests in part on choices of the model: log 61. -/
def Obligations.SatchelResponses : Prop :=
  let quiet : State → Fin 64 → Prop := fun s p => (s.dep p.val).reqs = [] ∧ (s.dep p.val).flush = none ∧
    ∀ e ∈ (s.dep p.val).sat, e.2.fail = none
  let lone : State → Fin 64 → Frame → SrcReq → Prop := fun s p f r => (s.pair (p.val + 1) f.src.toNat).sent = [r] ∧ r.f.seq = f.seq ∧
    (s.pair (p.val + 1) f.src.toNat).waiting = [] ∧ r.owner = .satchel (lineOf r.f) ∧
    s.pairsOf (p.val + 1) = [(4096 * (p.val + 1) + f.src.toNat, s.pair (p.val + 1) f.src.toNat)]
  (∀ (p : Fin 64) (f : Frame) (s : State), (∀ r ∈ (s.pair (p.val + 1) f.src.toNat).sent, r.f.seq ≠ f.seq) →
    exec (.grant p f) s = .next s ∧ exec (.retryResponse p f) s = .next s ∧ exec (.putAck p f) s = .next s) ∧
  (∀ (p : Fin 64) (f : Frame) (r : SrcReq) (s : State), quiet s p → lone s p f r → r.f.opcode.toNat < 0x63 →
    (s.sat p.val (lineOf r.f)).st.waits = true → (s.sat p.val (lineOf r.f)).held = none → f.flags.toNat % 4 ≠ 0 →
    Does (.grant p f) s (fun t => (t.pair (p.val + 1) f.src.toNat).sent = [] ∧ SameMemory s t ∧ SameRegs s t ∧
      (t.sat p.val (lineOf r.f)).st = (if f.flags.toNat % 4 = 1 then .s else if f.flags.toNat % 4 = 2 then .e else .m) ∧
      (f.payload.length = 64 → (t.sat p.val (lineOf r.f)).data = f.payload))) ∧
  (∀ (p : Fin 64) (f : Frame) (r : SrcReq) (s : State), quiet s p → lone s p f r → r.f.opcode.toNat < 0x63 →
    (s.sat p.val (lineOf r.f)).st.waits = true → (s.sat p.val (lineOf r.f)).near = false →
    (s.sat p.val (lineOf r.f)).tries + 1 < s.epF p.val eRetryLimit 0 8 →
    Does (.retryResponse p f) s (fun t => (t.pair (p.val + 1) f.src.toNat).sent = [] ∧ SameMemory s t ∧ SameRegs s t ∧
      t.sat p.val (lineOf r.f) = { s.sat p.val (lineOf r.f) with tries := (s.sat p.val (lineOf r.f)).tries + 1, backing := true })) ∧
  (∀ (p : Fin 64) (f : Frame) (r : SrcReq) (s : State), quiet s p → lone s p f r → 0x63 ≤ r.f.opcode.toNat →
    (s.sat p.val (lineOf r.f)).st.leaves = true →
    Does (.putAck p f) s (fun t => t.sat p.val (lineOf r.f) = {} ∧ (t.pair (p.val + 1) f.src.toNat).sent = [] ∧ SameMemory s t ∧ SameRegs s t)) ∧
  (∀ (p : Fin 64) (l : Nat) (s : State), (s.sat p.val l).backing = false → exec (.retryBackoffExpiry p l) s = .next (s.settleDep p.val)) ∧
  (∀ (p : Fin 64) (l : Nat) (s : State), quiet s p → (s.sat p.val l).backing = true → (s.sat p.val l).st.waits = true →
    s.isHeld (p.val + 1) s.node.toNat = true → Does (.retryBackoffExpiry p l) s (fun t =>
      t.sat p.val l = { s.sat p.val l with backing := false } ∧ SameMemory s t ∧ SameRegs s t ∧
      ∃ r ∈ (t.pair (p.val + 1) s.node.toNat).waiting, (t.pair (p.val + 1) s.node.toNat).waiting = (s.pair (p.val + 1) s.node.toNat).waiting ++ [r] ∧ r.owner = .satchel l ∧
        r.f.opcode = (if (s.sat p.val l).st = .is then 0x60 else if (s.sat p.val l).st = .im then 0x61 else 0x62))) ∧
  (∀ (p : Fin 64) (set : Fin 2048) (s : State), (s.waysOf p.val set.val).length < 16 →
    exec (.transientWayFreed p set) s = .next (s.settleDep p.val)) ∧
  (∀ (p : Fin 64) (set : Fin 2048) (s : State),
    (quiet s p ∨ (∀ e ∈ s.waysOf p.val set.val, e.2.st.busy = true) ∧ 16 ≤ (s.waysOf p.val set.val).length) →
    exec (.transientWayFreed p set) s = .next s) ∧
  (∀ (p : Fin 64) (f : Frame) (s : State), s.fenced 2 = false →
    exec (.flush p f) s = .next ((s.setDep p.val { s.dep p.val with flush := some { f with opcode := 0x6B } }).settleDep p.val)) ∧
  (∀ (p : Fin 64) (f : Frame) (s : State), (s.dep p.val).reqs = [] → (s.dep p.val).sat = [] → s.fenced 2 = false →
    Does (.flush p f) s (fun t => (t.dep p.val).flush = none ∧ (t.dep p.val).sat = [] ∧ OnlyDeps s t)) ∧
  (∀ (p : Fin 64) (f : Frame) (s : State), (s.dep p.val).reqs = [] → (s.dep p.val).flush = none → s.fenced 2 = true →
    Does (.flush p f) s (fun t => (t.dep p.val).sat = [] ∧ SameMemory s t ∧ SameRegs s t))

/-- Inbound requests (R106, R179, R516, R517, R518, R519): with its link down the block takes no frame; one for another node is
answered NO_ROUTE; a request outside the exposed ranges, or of another partition, never reaches the die; the die's answer
frees its ITAG, and one that does not come in time sets the timeout bit and leaves a dead entry until a late answer. Where a
command comes in a state for which the spec gives it no effect, nothing changes: the model's choice (log 2). It rests in
part on choices of the model: log 62, log 63, log 78. -/
def Obligations.InboundRequests : Prop :=
  (∀ (p : Fin 64) (f : Frame) (s : State), s.epBit p.val eStatus 11 = false → exec (.dep7FrameAccept p f) s = .next s) ∧
  (∀ (p : Fin 64) (f : Frame) (s : State), s.epBit p.val eStatus 11 = true → s.epBit p.val eNode 63 = true → f.hopPtr = f.hopCount →
    Frame.headerOk f = true → f.crc = Frame.goodCrc f → f.dst = s.engNode (p.val + 1) → isMemReq f.opcode.toNat = true →
    exec (.dep7FrameAccept p f) s = .next (s.inbound p.val f)) ∧
  (∀ (p : Fin 64) (f : Frame) (s : State), s.epBit p.val eStatus 11 = true → s.epBit p.val eNode 63 = true → f.hopPtr = f.hopCount →
    Frame.headerOk f = true → f.crc = Frame.goodCrc f → f.dst ≠ s.engNode (p.val + 1) → isAnswerable f.opcode.toNat = true →
    Does (.dep7FrameAccept p f) s (fun t => t = s.depAnswer p.val f stNoRoute 0 (failData f 1) ∧ OnlyDeps s t)) ∧
  (∀ (p : Fin 64) (f : Frame) (s : State), s.epBit p.val eStatus 11 = true → s.epBit p.val eNode 63 = true → f.hopPtr = f.hopCount →
    Frame.headerOk f = true → f.crc = Frame.goodCrc f → f.dst = s.engNode (p.val + 1) → isMemReq f.opcode.toNat = false →
    exec (.dep7FrameAccept p f) s = .next (s.emit (.depDeliver p.val f))) ∧
  (∀ (p : Fin 64) (f : Frame) (s : State), s.epBit p.val eStatus 11 = true → Frame.headerOk f = false ∨ f.hopPtr ≠ f.hopCount →
    Does (.dep7FrameAccept p f) s (fun t => (t.dep p.val).discards = (s.dep p.val).discards + 1 ∧ OnlyDeps s t ∧ t.out = s.out)) ∧
  (∀ (p : Fin 64) (f : Frame) (s : State), s.epBit p.val eStatus 11 = true → s.epBit p.val eNode 63 = true → f.hopPtr = f.hopCount →
    Frame.headerOk f = true → f.crc = Frame.goodCrc f → f.dst = s.engNode (p.val + 1) → isMemReq f.opcode.toNat = true → f.vc = 0 →
    s.inboundStatus p.val f = stOk → (s.dep p.val).iqWait = [] → (s.dep p.val).inb = [] → Does (.dep7FrameAccept p f) s (fun t =>
      OnlyDeps s t ∧ (t.dep p.val).inb = [{ itag := 0, f := f, dead := false }] ∧ (t.dep p.val).iqWait = [] ∧
      t.out.head? = some (.iq p.val 0 (if f.opcode = 3 then 2 else f.opcode.toNat)
        ((s.exposed p.val (f.fpa.toNat % 2 ^ 44) (max 1 f.length.toNat)).getD 0) f.length.toNat f.payload))) ∧
  (∀ (s : State) (p : Nat) (f : Frame), s.inboundStatus p f ≠ stOk → ((s.serveInbound p f).dep p).inb = (s.dep p).inb ∧
    ((s.serveInbound p f).dep p).iqWait = (s.dep p).iqWait ∧ ((s.serveInbound p f).dep p).reqs = (s.dep p).reqs) ∧
  (∀ (s : State) (p : Nat) (f : Frame), f.part ≠ s.epPart p → s.inboundStatus p f = stPartition) ∧
  (∀ (s : State) (p : Nat) (f : Frame), f.part = s.epPart p → s.epF p eExpose 0 45 ≤ f.fpa.toNat % 2 ^ 44 →
    s.inboundStatus p f = stUnmapped) ∧
  (∀ (s : State) (p : Nat) (f : Frame), s.inboundStatus p f = stOk → isRed f.opcode.toNat = false ∧ isFpFadd f.opcode.toNat = false ∧
    (s.exposed p (f.fpa.toNat % 2 ^ 44) (max 1 f.length.toNat)).isSome = true) ∧
  (∀ (p : Fin 64) (k : BitVec 8) (st : BitVec 5) (data : List Byte) (s : State), (∀ x ∈ (s.dep p.val).inb, x.itag ≠ k.toNat) →
    exec (.isResponse p k st data) s = .next s) ∧
  (∀ (p : Fin 64) (k : BitVec 8) (st : BitVec 5) (data : List Byte) (x : Inbound) (s : State), (s.dep p.val).iqWait = [] →
    (s.dep p.val).inb.find? (fun x => x.itag = k.toNat) = some x → Does (.isResponse p k st data) s (fun t =>
      (t.dep p.val).inb = (s.dep p.val).inb.filter (fun y => y.itag ≠ k.toNat) ∧ SameMemory s t ∧ SameRegs s t)) ∧
  (∀ (p : Fin 64) (k : BitVec 8) (x : Inbound) (s : State), (s.dep p.val).inb.find? (fun x => x.itag = k.toNat && !x.dead) = some x →
    Does (.inTimeoutExpiry p k) s (fun t => t.epBit p.val eStatus 13 = true ∧ SameMemory s t ∧ SameRegs s t ∧
      ∀ y ∈ (t.dep p.val).inb, y.itag = k.toNat → y.dead = true)) ∧
  (∀ (p : Fin 64) (k : BitVec 8) (s : State), (∀ x ∈ (s.dep p.val).inb, x.itag = k.toNat → x.dead = true) →
    exec (.inTimeoutExpiry p k) s = .next s)

/-- A DEP-7's registers and link (R198, R210, R507, R525, R526, R527, R530, R533): the module's STRICT and PRED_FAR; the link's
end; the reset pin, which leaves nothing of the block's state; EP.NODE only while ENABLE is 0; checked routes and timers.
Where a command comes in a state for which the spec gives it no effect, nothing changes: the model's choice (log 2). It
rests in part on choices of the model: log 81. -/
def Obligations.EndPointRegisters : Prop :=
  (∀ (p : Fin 64) (a b : Bool) (s : State), Does (.strictLinkWord p a b) s (fun t =>
    t.epBit p.val eMode 0 = a ∧ t.epBit p.val eStatus 12 = a ∧ (t.dep p.val).predFar = b ∧ OnlyDeps s t)) ∧
  (∀ (p : Fin 64) (s : State), s.epBit p.val eStatus 11 = false → exec (.epLinkDown p) s = .next (s.setEpState p.val 0)) ∧
  (∀ (p : Fin 64) (s : State), Does (.epLinkDown p) s (fun t => t.epF p.val eElecStatus 0 4 = 0 ∧ t = (s.depLinkDown p.val).setEpState p.val 0)) ∧
  (∀ (p : Fin 64) (s : State), Does (.epRstN p) s (fun t => t.dep p.val = {} ∧ SameMemory s t ∧ SameRegs s t ∧
    (∀ q, q ≠ p.val → t.dep q = s.dep q) ∧ (∀ x ∈ t.fab.pairs, x.1 / 4096 ≠ p.val + 1) ∧ t.coh = s.coh ∧ t.desks = s.desks)) ∧
  (∀ (p : Fin 64) (s : State), s.epBit p.val eCtl 0 = false → Does (.epCtlEnableWrite p true) s (fun t =>
    t.epBit p.val eCtl 0 = true ∧ t.epF p.val eElecStatus 0 4 = 1 ∧ OnlyDeps s t)) ∧
  (∀ (p : Fin 64) (s : State), Does (.epCtlEnableWrite p false) s (fun t => t.epF p.val eElecStatus 0 4 = 0)) ∧
  (∀ (p : Fin 64) (d : BitVec 12) (lo hi : BitVec 64) (s : State),
    (s.isHeld (p.val + 1) d.toNat = false ∨ 0 < Pair.charged (s.pair (p.val + 1) d.toNat) ∨ epRouteBad d.toNat lo hi = true) →
    Does (.epRtWrite p d lo hi) s (fun t => t.epBit p.val eStatus 14 = true ∧ t.epF p.val eStatus 16 12 = d.toNat ∧
      t.depRoute p.val d = s.depRoute p.val d ∧ OnlyDeps s t)) ∧
  (∀ (p : Fin 64) (d : BitVec 12) (lo hi : BitVec 64) (s : State), s.isHeld (p.val + 1) d.toNat = true →
    Pair.charged (s.pair (p.val + 1) d.toNat) = 0 → epRouteBad d.toNat lo hi = false →
    Does (.epRtWrite p d lo hi) s (fun t => t.ep p.val (eRt + 16 * d.toNat) = lo ∧
      t.ep p.val (eRt + 16 * d.toNat + 8) = hi &&& 0x0000008FFFFFFFFF ∧ OnlyDeps s t)) ∧
  (∀ (p : Fin 64) (v : BitVec 64) (s : State), s.epBit p.val eCtl 0 = true → exec (.epNodeWrite p v) s = .next s) ∧
  (∀ (p : Fin 64) (v : BitVec 64) (s : State), s.epBit p.val eCtl 0 = false →
    exec (.epNodeWrite p v) s = .next ((s.setEp p.val eNode (v &&& 0x80000000003F0FFF)).settleDep p.val)) ∧
  (∀ (p : Fin 64) (v : BitVec 64) (s : State), s.epBit p.val eCtl 0 = false → DieIdle (s.dep p.val) → Does (.epNodeWrite p v) s (fun t =>
    t.ep p.val eNode = v &&& 0x80000000003F0FFF ∧ OnlyDeps s t ∧ ∀ a, a ≠ eNode → t.ep p.val a = s.ep p.val a)) ∧
  (∀ (p word : Fin 64) (v : BitVec 64) (s : State), s.ep p.val (eRtHold + 8 * word.val) &&& ~~~v = 0 →
    exec (.epRtHoldWrite p word v) s = .next ((s.setEp p.val (eRtHold + 8 * word.val) v).settleDep p.val)) ∧
  (∀ (p word : Fin 64) (v : BitVec 64) (s : State), s.ep p.val (eRtHold + 8 * word.val) &&& ~~~v = 0 → DieIdle (s.dep p.val) →
    Does (.epRtHoldWrite p word v) s (fun t => t.ep p.val (eRtHold + 8 * word.val) = v ∧ OnlyDeps s t ∧
      ∀ a, a ≠ eRtHold + 8 * word.val → t.ep p.val a = s.ep p.val a)) ∧
  (∀ (p : Fin 64) (v : BitVec 64) (s : State), 1 ≤ fget v 0 10 → fget v 0 10 ≤ 1000 →
    (fget v 32 3 + 1) * fget v 0 10 ≤ s.epF p.val eWinTimeout 0 14 →
    Does (.epRtxWrite p v) s (fun t => t.ep p.val eRtx = v &&& 0x7000003FF ∧ OnlyDeps s t)) ∧
  (∀ (p : Fin 64) (v : BitVec 64) (s : State), s.epF p.val eWinTimeout 0 14 < (fget v 32 3 + 1) * fget v 0 10 →
    Does (.epRtxWrite p v) s (fun t => t.epBit p.val eStatus 15 = true ∧ t.ep p.val eRtx = s.ep p.val eRtx ∧ OnlyDeps s t)) ∧
  (∀ (p : Fin 64) (v : BitVec 64) (s : State), 10 ≤ fget v 0 14 → fget v 0 14 ≤ 10000 →
    (s.epF p.val eRtx 32 3 + 1) * s.epF p.val eRtx 0 10 ≤ fget v 0 14 →
    Does (.epWinTimeoutWrite p v) s (fun t => t.ep p.val eWinTimeout = v &&& 0x3FFF ∧ OnlyDeps s t)) ∧
  (∀ (p : Fin 64) (v : BitVec 64) (s : State), (fget v 0 14 < 10 ∨ 10000 < fget v 0 14) →
    Does (.epWinTimeoutWrite p v) s (fun t => t.epBit p.val eStatus 15 = true ∧ t.ep p.val eWinTimeout = s.ep p.val eWinTimeout ∧
      OnlyDeps s t))

/-- Link starts and recalibration of an optical port (R452, R453, R470, R471, R605): a start of an enabled port that is not up
counts, runs with the Melium mode as written and begins at state 1; a failed one counts LINK_FAILS and waits; ENABLE 0 turns
rings and lasers off; a recalibration sweeps every ring and ends with its tables in the Gradebook. Where a command comes in
a state for which the spec gives it no effect, nothing changes: the model's choice (log 2). It rests in part on choices of
the model: log 51, log 53. -/
def Obligations.OpticalStarts : Prop :=
  let n : OptPort → Nat := fun p => 64 + p.val
  (∀ (p : OptPort) (s : State), (s.optEnabled p.val = false ∨ s.optState p.val = 8) → exec (.opticalLinkStart p) s = .next s) ∧
  (∀ (p : OptPort) (s : State), s.optEnabled p.val = true → s.optState p.val ≠ 8 → s.optState p.val ≠ 7 →
    Does (.opticalLinkStart p) s (fun t => t.optState p.val = 1 ∧ t.reg (linkReg (n p) lStarts) = s.reg (linkReg (n p) lStarts) + 1 ∧
      (t.opt p.val).melium = s.regBit (linkReg (n p) lCtl) 2 ∧ (t.opt p.val).wait = false ∧ (t.opt p.val).agreed = false ∧
      (t.opt p.val).measured = false ∧ { t with regs := s.regs, opts := s.opts } = s)) ∧
  (∀ (p : OptPort) (s : State), s.recovery = false → s.optEnabled p.val = true → s.optState p.val ≠ 8 →
    exec (.optCtlRestart p) s = .next (s.optStart p.val) ∧ exec (.opticalLinkStart p) s = .next (s.optStart p.val)) ∧
  (∀ (p : OptPort) (s : State), s.recovery = false → s.optEnabled p.val = false → s.optState p.val ≠ 7 → s.optState p.val ≠ 8 →
    Does (.optCtlEnableWrite p true) s (fun t => t.optEnabled p.val = true ∧ t.optState p.val = 1 ∧
      { t with regs := s.regs, opts := s.opts } = s)) ∧
  (∀ (p : OptPort) (s : State), s.recovery = false → s.optState p.val ≠ 7 →
    Does (.optCtlEnableWrite p false) s (fun t => t.optEnabled p.val = false ∧ t.optState p.val = 0 ∧
      (∀ k : Fin 16, t.ringSt p.val k.val false = 0 ∧ t.ringSt p.val k.val true = 0 ∧ (t.wave p.val k.val).lit = false) ∧
      { t with regs := s.regs, opts := s.opts } = s)) ∧
  (∀ (p : OptPort) (on : Bool) (s : State), s.recovery = false → Does (.optCtlMeliumWrite p on) s (fun t =>
    t.regBit (linkReg (n p) lCtl) 2 = on ∧ t.optEnabled p.val = s.optEnabled p.val ∧ OnlyRegs s t [linkReg (n p) lCtl])) ∧
  (∀ (p : OptPort) (s : State), 1 ≤ s.optState p.val → s.optState p.val ≤ 6 → Does (.opticalLinkStartFail p) s (fun t =>
    t.optState p.val = 0 ∧ (t.opt p.val).wait = true ∧ t.reg (linkReg (n p) lFails) = s.reg (linkReg (n p) lFails) + 1 ∧
    { t with regs := s.regs, opts := s.opts } = s)) ∧
  (∀ (p : OptPort) (s : State), (s.optState p.val = 0 ∨ 6 < s.optState p.val) → exec (.opticalLinkStartFail p) s = .next s) ∧
  (∀ (p : OptPort) (q : Fin 128) (s : State), q.val = 64 + p.val → (s.opt p.val).wait = true →
    exec (.linkRestartWaitExpiry q) s = .next (s.optStart p.val)) ∧
  (∀ (p : Fin 64) (q : Fin 128) (s : State), q.val = p.val → (s.elec p.val).wait = true →
    exec (.linkRestartWaitExpiry q) s = .next (s.elecStart p.val)) ∧
  (∀ (p : OptPort) (s : State), s.recovery = false → s.optState p.val = 8 → exec (.optCtlRecal p) s = .next s) ∧
  (∀ (p : OptPort) (s : State), s.recovery = false → s.optState p.val ≠ 8 → s.regBit rPrinStatus 0 = true →
    Does (.optCtlRecal p) s (fun t => (t.opt p.val).recalWait = true ∧ { t with opts := s.opts } = s)) ∧
  (∀ (p : OptPort) (s : State), s.recovery = false → s.optState p.val ≠ 8 → s.optState p.val ≠ 7 → s.regBit rPrinStatus 0 = false →
    Does (.optCtlRecal p) s (fun t => t.optState p.val = 8 ∧ (∀ k : Fin 16, t.ringSt p.val k.val false = 6 ∧ t.ringSt p.val k.val true = 6) ∧
      { t with regs := s.regs, opts := s.opts } = s)) ∧
  (∀ (p : OptPort) (offs : List Int) (s : State), s.optState p.val ≠ 8 → exec (.recalComplete p offs) s = .next s) ∧
  (∀ (p : OptPort) (offs : List Int) (s : State), s.optState p.val = 8 → s.optEnabled p.val = false →
    Does (.recalComplete p offs) s (fun t => t.optState p.val = 0 ∧ { t with regs := s.regs, opts := s.opts, gb := s.gb } = s ∧
      (∀ (k : Fin 16) (rx : Bool), ∃ e, t.gbEntry 2 (ringIdx p.val k.val rx) = some e ∧ e.origin = 1 ∧ e.lesson = s.lesson) ∧
      (∀ k : Fin 16, t.excluded p.val k.val = true → t.regF (wlStat p.val k.val) 4 2 ≠ 2)))

/-- Rings (R457): the states of one ring, with the counters of lost locks and wrong identities; the OPT_STATUS of the port
follows, and no other register. Where a command comes in a state for which the spec gives it no effect, nothing changes: the
model's choice (log 2). It rests in part on choices of the model: log 51, log 52. -/
def Obligations.Rings : Prop :=
  let okRegs : State → State → OptPort → Fin 16 → Prop := fun s t p k =>
    { t with regs := s.regs, opts := s.opts } = s ∧
    ∀ a, a ∉ [wlStat p.val k.val, linkReg (64 + p.val) lStatus, wlReg (64 + p.val) k.val 0x20, wlReg (64 + p.val) k.val 0x28] → t.reg a = s.reg a
  let ring : State → OptPort → Fin 16 → Bool → Ring := fun s p k rx => (s.wave p.val k.val).ring rx
  let lost : State → State → OptPort → Fin 16 → Bool → Nat → Prop := fun s t p k rx off =>
    t.ringSt p.val k.val rx = 1 ∧ t.reg (wlReg (64 + p.val) k.val off) = s.reg (wlReg (64 + p.val) k.val off) + 1 ∧
    (ring t p k rx).since = none ∧ (ring t p k rx).errs = 0 ∧ okRegs s t p k
  let few : State → OptPort → Fin 16 → Bool → Prop := fun s p k rx =>
    (s.activeSet p.val rx).getLsbD k.val = false ∧ (s.heldLesson (ring s p k rx) = true ∨ (ring s p k rx).wrong < 2)
  (∀ (p : OptPort) (k : Fin 16) (rx : Bool) (s : State), s.ringSt p.val k.val rx = 1 →
    Does (.ringTableSettled p k rx) s (fun t => t.ringSt p.val k.val rx = 2 ∧ okRegs s t p k)) ∧
  (∀ (p : OptPort) (k : Fin 16) (rx : Bool) (s : State), s.ringSt p.val k.val rx ≠ 1 → exec (.ringTableSettled p k rx) s = .next s) ∧
  (∀ (p : OptPort) (k : Fin 16) (rx : Bool) (s : State), s.ringSt p.val k.val rx = 2 → (s.opt p.val).melium = false →
    Does (.ringPeakFound p k rx) s (fun t => t.ringSt p.val k.val rx = 3 ∧ okRegs s t p k)) ∧
  (∀ (p : OptPort) (k : Fin 16) (rx : Bool) (s : State), s.ringSt p.val k.val rx = 2 → (s.opt p.val).melium = true →
    Does (.ringPeakFound p k rx) s (fun t => t.ringSt p.val k.val rx = 4 ∧ (ring t p k rx).since = some s.lesson.toNat ∧ okRegs s t p k)) ∧
  (∀ (p : OptPort) (k : Fin 16) (rx : Bool) (s : State), s.ringSt p.val k.val rx = 2 → (s.activeSet p.val rx).getLsbD k.val = false →
    Does (.ringAcquireTimeout p k rx) s (fun t => lost s t p k rx 0x28)) ∧
  (∀ (p : OptPort) (k : Fin 16) (rx : Bool) (s : State), s.ringSt p.val k.val rx = 3 → (s.optState p.val ≠ 7) →
    Does (.ringVerifyDone p k rx (some k)) s (fun t => t.ringSt p.val k.val rx = 4 ∧ (ring t p k rx).since = some s.lesson.toNat ∧
      (ring t p k rx).errs = 0 ∧ okRegs s t p k)) ∧
  (∀ (p : OptPort) (k : Fin 16) (rx : Bool) (tone : Option (Fin 16)) (s : State), s.ringSt p.val k.val rx = 3 → tone ≠ some k →
    few s p k rx → Does (.ringVerifyDone p k rx tone) s (fun t => lost s t p k rx 0x20 ∧
      (ring t p k rx).wrong = (if s.heldLesson (ring s p k rx) then 0 else (ring s p k rx).wrong) + 1)) ∧
  (∀ (p : OptPort) (k : Fin 16) (rx : Bool) (s : State), s.ringSt p.val k.val rx = 4 →
    Does (.ringDitherUpdate p k rx false) s (fun t => (ring t p k rx).errs = 0 ∧ { t with opts := s.opts } = s)) ∧
  (∀ (p : OptPort) (k : Fin 16) (rx : Bool) (s : State), s.ringSt p.val k.val rx = 4 → (ring s p k rx).errs < 2 →
    Does (.ringDitherUpdate p k rx true) s (fun t => (ring t p k rx).errs = (ring s p k rx).errs + 1 ∧ { t with opts := s.opts } = s)) ∧
  (∀ (p : OptPort) (k : Fin 16) (rx : Bool) (s : State), s.ringSt p.val k.val rx = 4 → 2 ≤ (ring s p k rx).errs →
    (s.activeSet p.val rx).getLsbD k.val = false → Does (.ringDitherUpdate p k rx true) s (fun t => lost s t p k rx 0x28)) ∧
  (∀ (p : OptPort) (k : Fin 16) (rx : Bool) (s : State), exec (.ringIdentityRead p k rx (some k)) s = .next s) ∧
  (∀ (p : OptPort) (k : Fin 16) (rx : Bool) (tone : Option (Fin 16)) (s : State), s.ringSt p.val k.val rx = 4 → tone ≠ some k →
    (s.opt p.val).melium = false → few s p k rx → Does (.ringIdentityRead p k rx tone) s (fun t => lost s t p k rx 0x20)) ∧
  (∀ (p : OptPort) (k : Fin 16) (rx : Bool) (d : Int) (s : State), s.ringSt p.val k.val rx = 6 → s.optState p.val ≠ 8 →
    Does (.ringSweepDone p k rx (some d)) s (fun t => t.ringSt p.val k.val rx = 3 ∧ (ring t p k rx).off = d ∧ okRegs s t p k)) ∧
  (∀ (p : OptPort) (k : Fin 16) (rx : Bool) (s : State), s.ringSt p.val k.val rx = 6 → s.optState p.val ≠ 8 → s.behindGateway = false →
    (s.activeSet p.val false).getLsbD k.val = false → (s.activeSet p.val true).getLsbD k.val = false →
    Does (.ringSweepDone p k rx none) s (fun t => t.excluded p.val k.val = true ∧ t.regF (wlStat p.val k.val) 4 2 = 2 ∧
      t.ringSt p.val k.val false = 7 ∧ t.ringSt p.val k.val true = 7 ∧ (t.wave p.val k.val).lit = false))

/-- Margin test, spare retest, exchanged results, delay and port up (R55, R452, R453, R454, R462, R463, R466): the steps by
which a link start ends. Where a command comes in a state for which the spec gives it no effect, nothing changes: the
model's choice (log 2). It rests in part on choices of the model: log 11, log 51, log 53. -/
def Obligations.OpticalLinkTests : Prop :=
  (∀ (p : OptPort) (errs : Vector Nat 16) (s : State), 1 ≤ s.optState p.val → s.optState p.val ≤ 4 →
    (∀ k : Fin 16, (s.wave p.val k.val).lit = true → errs[k] < 26880 ∨ s.spareLeft p.val k.val = true) →
    Does (.marginTestEnd p errs) s (fun t =>
      (∀ k : Fin 16, (s.wave p.val k.val).lit = true → t.reg (wlReg (64 + p.val) k.val 0x18) = BitVec.ofNat 64 errs[k] ∧
        (errs[k] < 26880 → (t.wave p.val k.val).pass = true) ∧ (26880 ≤ errs[k] → t.laser p.val k.val = 1)) ∧
      ((∃ k : Fin 16, t.laser p.val k.val = 1) → t.optState p.val = 5) ∧
      ((∀ k : Fin 16, t.laser p.val k.val ≠ 1) → t.optState p.val = 6) ∧ { t with regs := s.regs, opts := s.opts } = s)) ∧
  (∀ (p : OptPort) (k : Fin 16) (errs : Nat) (s : State), (s.optState p.val ≠ 5 ∨ s.laser p.val k.val ≠ 1) →
    exec (.spareRetestEnd p k errs) s = .next s) ∧
  (∀ (p : OptPort) (k : Fin 16) (errs : Nat) (s : State), s.optState p.val = 5 → s.laser p.val k.val = 1 → errs < 26880 →
    Does (.spareRetestEnd p k errs) s (fun t => t.laser p.val k.val = 3 ∧ t.onSpare p.val k.val = true ∧ (t.wave p.val k.val).pass = true ∧
      t.reg (wlReg (64 + p.val) k.val 0x18) = BitVec.ofNat 64 errs ∧
      (s.regBit rPrinStatus 0 = false → t.retired p.val k.val = true) ∧ { t with regs := s.regs, opts := s.opts, gb := s.gb } = s)) ∧
  (∀ (p : OptPort) (k : Fin 16) (errs : Nat) (s : State), s.optState p.val = 5 → s.laser p.val k.val = 1 → 26880 ≤ errs →
    s.behindGateway = false → (s.activeSet p.val false).getLsbD k.val = false → (s.activeSet p.val true).getLsbD k.val = false →
    Does (.spareRetestEnd p k errs) s (fun t => t.laser p.val k.val = 5 ∧ t.excluded p.val k.val = true ∧
      t.regF (wlStat p.val k.val) 4 2 = 1 ∧ (t.wave p.val k.val).lit = false)) ∧
  (∀ (p : OptPort) (s : State), s.optState p.val = 6 → (s.opt p.val).agreed = false →
    Does (.resultsExchangeEnd p none) s (fun t => t.optState p.val = 0 ∧ (t.opt p.val).wait = true ∧
      t.reg (linkReg (64 + p.val) lFails) = s.reg (linkReg (64 + p.val) lFails) + 1)) ∧
  (∀ (p : OptPort) (m : BitVec 16) (s : State), s.optState p.val = 6 → (s.opt p.val).agreed = false →
    s.optMin p.val ≤ setCount (s.passSet p.val) → s.optMin p.val ≤ setCount m →
    Does (.resultsExchangeEnd p (some m)) s (fun t => t.opt p.val = { s.opt p.val with rxSet := m, agreed := true } ∧
      { t with opts := s.opts } = s)) ∧
  (∀ (p : OptPort) (m : BitVec 16) (s : State), s.optState p.val = 6 → (s.opt p.val).agreed = false →
    (setCount (s.passSet p.val) < s.optMin p.val ∨ setCount m < s.optMin p.val) →
    exec (.resultsExchangeEnd p (some m)) s = exec (.opticalLinkStartFail p) s) ∧
  (∀ (p : OptPort) (q : Fin 128) (l : List Nat) (s : State), q.val = 64 + p.val → s.optState p.val = 6 → (s.opt p.val).agreed = true →
    l.length = 64 → Does (.linkDelayMeasured q l) s (fun t => t.reg (linkReg q.val lDelay) = BitVec.ofNat 64 (oneWay l) ∧
      (t.opt p.val).measured = true ∧ t.credAdv q.val = s.reg (swReg q.val swCreditAdv) ∧ t.bufMin q.val = s.reg (swReg q.val swBufMin) ∧
      t.out = .word q.val (.creditStart (s.reg (swReg q.val swCreditAdv))) :: s.out)) ∧
  (∀ (p : Fin 64) (q : Fin 128) (l : List Nat) (s : State), q.val = p.val → s.elecState p.val = 5 → (s.elec p.val).checked = true →
    l.length = 64 → Does (.linkDelayMeasured q l) s (fun t => t.reg (linkReg q.val lDelay) = BitVec.ofNat 64 (oneWay l) ∧
      (t.elec p.val).measured = true ∧ t.credAdv q.val = s.reg (swReg q.val swCreditAdv) ∧
      t.out = .word q.val (.creditStart (s.reg (swReg q.val swCreditAdv))) :: s.out)) ∧
  (∀ (p : OptPort) (s : State), (s.optState p.val ≠ 6 ∨ (s.opt p.val).agreed = false ∨ (s.opt p.val).measured = false) →
    exec (.opticalPortUp p) s = .next s) ∧
  (∀ (p : OptPort) (s : State), s.optState p.val = 6 → (s.opt p.val).agreed = true → (s.opt p.val).measured = true →
    s.behindGateway = false → Does (.opticalPortUp p) s (fun t => t.optState p.val = 7 ∧ t.portUp (64 + p.val) = true ∧
      t.activeSet p.val false = s.passSet p.val ∧ t.activeSet p.val true = (s.opt p.val).rxSet))

/-- Lasers, spares and the active set (R459, R460, R464, R465, R466, R468): monitor samples and FOM estimates, fading and failed
lasers, announcements and their acknowledgements. Where a command comes in a state for which the spec gives it no effect,
nothing changes: the model's choice (log 2). It rests in part on choices of the model: log 17, log 52. -/
def Obligations.Lasers : Prop :=
  let only : State → State → Prop := fun s t => { t with opts := s.opts } = s
  (∀ (p : OptPort) (k : Fin 16) (v : Int) (s : State), (s.wave p.val k.val).lit = false → exec (.laserMpdSample p k v) s = .next s) ∧
  (∀ (p : OptPort) (k : Fin 16) (v : Int) (s : State), (s.wave p.val k.val).lit = true → s.behindGateway = false →
    (∀ x ∈ (s.wave p.val k.val).samples.head?, x - v ≤ 600) → Does (.laserMpdSample p k v) s (fun t =>
      (t.wave p.val k.val).samples = (v :: (s.wave p.val k.val).samples).take 16 ∧
      t.regF (wlReg (64 + p.val) k.val 8) 0 16 = (BitVec.ofInt 16 (meanOf ((v :: (s.wave p.val k.val).samples).take 16))).toNat)) ∧
  (∀ (p : OptPort) (k : Fin 16) (v x : Int) (s : State), (s.wave p.val k.val).lit = true → (s.wave p.val k.val).samples.head? = some x →
    600 < x - v → s.laser p.val k.val < 3 → (s.opt p.val).melium = false → (s.activeSet p.val false).getLsbD k.val = false →
    Does (.laserMpdSample p k v) s (fun t => t.laser p.val k.val = 1 ∧ (t.wave p.val k.val).failed = true ∧ (t.wave p.val k.val).lit = false)) ∧
  (∀ (p : OptPort) (k : Fin 16) (s : State), (s.wave p.val k.val).lit = true → s.laser p.val k.val < 3 → (s.opt p.val).melium = false →
    (s.activeSet p.val false).getLsbD k.val = false → Does (.laserDriverFault p k) s (fun t => t.laser p.val k.val = 1 ∧
      (t.wave p.val k.val).failed = true ∧ (t.wave p.val k.val).lit = false ∧ { t with regs := s.regs, opts := s.opts } = s)) ∧
  (∀ (p : OptPort) (k : Fin 16) (v : Int) (s : State), 150 ≤ v → (s.wave p.val k.val).lit = true → Does (.fomMarginEstimate p k v) s (fun t =>
    t.reg (wlReg (64 + p.val) k.val 0x10) = BitVec.ofInt 64 v ∧ (t.wave p.val k.val).badWin = false ∧
    { t with regs := s.regs, opts := s.opts } = s ∧ ∀ a, a ≠ wlReg (64 + p.val) k.val 0x10 → t.reg a = s.reg a)) ∧
  (∀ (p : OptPort) (k : Fin 16) (v : Int) (s : State), 0 ≤ v → v < 150 → (s.wave p.val k.val).lit = true → s.laser p.val k.val = 0 →
    (s.opt p.val).melium = false → Does (.fomMarginEstimate p k v) s (fun t => t.laser p.val k.val = 1 ∧ (t.wave p.val k.val).badWin = false)) ∧
  (∀ (p : OptPort) (k : Fin 16) (v : Int) (s : State), v < 0 → (s.wave p.val k.val).lit = true → (s.wave p.val k.val).badWin = true →
    s.excluded p.val k.val = false → s.behindGateway = false → (s.activeSet p.val false).getLsbD k.val = false →
    (s.activeSet p.val true).getLsbD k.val = false → Does (.fomMarginEstimate p k v) s (fun t => t.excluded p.val k.val = true ∧
      t.regF (wlStat p.val k.val) 4 2 = 3 ∧ (t.wave p.val k.val).lit = false)) ∧
  (∀ (p : OptPort) (k : Fin 16) (s : State), s.laser p.val k.val ≠ 1 →
    exec (.spareWarmed p k) s = .next s ∧ exec (.spareWarmTimeout p k) s = .next s) ∧
  (∀ (p : OptPort) (k : Fin 16) (s : State), s.laser p.val k.val = 1 → (s.wave p.val k.val).failed = false → Does (.spareWarmed p k) s (fun t =>
    t.laser p.val k.val = 2 ∧ (t.wave p.val k.val).swapAck = false ∧ t.out = .word (64 + p.val) (.swap k.val) :: s.out)) ∧
  (∀ (p : OptPort) (k : Fin 16) (s : State), s.laser p.val k.val = 1 → (s.wave p.val k.val).failed = true → Does (.spareWarmed p k) s (fun t =>
    t.laser p.val k.val = 3 ∧ t.onSpare p.val k.val = true ∧ t.ringSt p.val k.val false = 1 ∧ (t.wave p.val k.val).lit = true ∧
    (t.wave p.val k.val).failed = false)) ∧
  (∀ (p : OptPort) (k : Fin 16) (s : State), s.laser p.val k.val = 1 → (s.wave p.val k.val).failed = false → s.behindGateway = false →
    Does (.spareWarmTimeout p k) s (fun t => t.laser p.val k.val = 4 ∧ t.regBit (wlStat p.val k.val) 11 = true)) ∧
  (∀ (p : OptPort) (k : Fin 16) (s : State), s.laser p.val k.val = 2 → Does (.swapAnnounceAck p k) s (fun t =>
    t.wave p.val k.val = { s.wave p.val k.val with swapAck := true } ∧ only s t)) ∧
  (∀ (p : OptPort) (k : Fin 16) (s : State), s.laser p.val k.val ≠ 2 → exec (.swapAnnounceAck p k) s = .next s) ∧
  (∀ (p : OptPort) (k : Fin 16) (s : State), (s.activeSet p.val false).getLsbD k.val = false → exec (.activeSetChange p k) s = .next s) ∧
  (∀ (p : OptPort) (k : Fin 16) (s : State), (s.activeSet p.val false).getLsbD k.val = true → s.behindGateway = false →
    (s.optState p.val = 7 → s.optMin p.val ≤ setCount (s.activeSet p.val false &&& ~~~(BitVec.ofNat 16 (2 ^ k.val)))) →
    Does (.activeSetChange p k) s (fun t => t.activeSet p.val false = s.activeSet p.val false &&& ~~~(BitVec.ofNat 16 (2 ^ k.val)) ∧
      t.activeSet p.val true = s.activeSet p.val true)) ∧
  (∀ (p : OptPort) (k : Fin 16) (s : State), (s.wave p.val k.val).join = true → Does (.joinAnnounceAck p k) s (fun t =>
    t.wave p.val k.val = { s.wave p.val k.val with joinAck := some s.lesson.toNat } ∧ only s t)) ∧
  (∀ (p : OptPort) (k : Fin 16) (s : State), (s.wave p.val k.val).join = false → exec (.joinAnnounceAck p k) s = .next s) ∧
  (∀ (p : OptPort) (k : Fin 16) (s : State), s.optState p.val = 7 →
    Does (.swapAnnouncement p k) s (fun t => t.wave p.val k.val = { s.wave p.val k.val with rxSwap := true } ∧
      t.out = .word (64 + p.val) (.swapAck k.val) :: s.out ∧ { t with opts := s.opts, out := s.out } = s) ∧
    Does (.joinAnnouncement p k) s (fun t => t.wave p.val k.val = { s.wave p.val k.val with rxJoin := some s.lesson.toNat } ∧
      t.out = .word (64 + p.val) (.joinAck k.val) :: s.out ∧ { t with opts := s.opts, out := s.out } = s)) ∧
  (∀ (p : OptPort) (k : Fin 16) (s : State), s.optState p.val ≠ 7 →
    exec (.swapAnnouncement p k) s = .next s ∧ exec (.joinAnnouncement p k) s = .next s)

/-- Electrical link starts and the figure of merit (R204, R459, R474 to R479, R490, R531): the steps of a start, a failed start,
the port up at both ends, the 1 ms updates of a lane, and replays. Where a command comes in a state for which the spec gives
it no effect, nothing changes: the model's choice (log 2). It rests in part on choices of the model: log 17, log 54. -/
def Obligations.ElectricalStarts : Prop :=
  let only : State → State → Prop := fun s t => { t with regs := s.regs, elecs := s.elecs } = s
  (∀ (p : Fin 64) (s : State), (s.elecBit p.val ecEnable = false ∨ s.elecBit p.val ecTest = true ∨ s.elecBit p.val ecDeep = true) →
    exec (.electricalLinkStart p false) s = .next s) ∧
  (∀ (p : Fin 64) (s : State), s.elecBit p.val ecEnable = true → s.elecBit p.val ecTest = false → s.elecBit p.val ecDeep = false →
    s.ready (readyPort p.val) = false → Does (.electricalLinkStart p false) s (fun t => t.elecState p.val = 1 ∧
      t.reg (linkReg p.val lStarts) = s.reg (linkReg p.val lStarts) + 1 ∧ t.elecFlag p.val 14 = lanes.any (fun l => s.lacksPreset p.val l) ∧
      (t.elec p.val).wait = false ∧ (t.elec p.val).checked = false ∧ (t.elec p.val).measured = false ∧ only s t)) ∧
  (∀ (p : Fin 64) (s : State), s.epBit p.val eCtl 0 = false → exec (.electricalLinkStart p true) s = .next s) ∧
  (∀ (p : Fin 64) (s : State), s.epBit p.val eCtl 0 = true → Does (.electricalLinkStart p true) s (fun t => t.epF p.val eElecStatus 0 4 = 1)) ∧
  (∀ (p : Fin 64) (s : State), s.recovery = false → s.elecBit p.val ecEnable = true → s.elecBit p.val ecTest = false →
    s.elecBit p.val ecDeep = false → exec (.elecCtlRestart p) s = .next (s.elecStart p.val)) ∧
  (∀ (p : Fin 64) (s : State), s.recovery = false → s.elecBit p.val ecEnable = false → s.elecBit p.val ecTest = false →
    s.elecBit p.val ecDeep = false → s.ready (readyPort p.val) = false → Does (.elecCtlEnableWrite p true) s (fun t =>
      t.elecBit p.val ecEnable = true ∧ t.elecState p.val = 1 ∧ only s t)) ∧
  (∀ (p : Fin 64) (s : State), s.recovery = false → s.ready (readyPort p.val) = false → Does (.elecCtlEnableWrite p false) s (fun t =>
    t.elecBit p.val ecEnable = false ∧ t.elecState p.val = 0 ∧ only s t)) ∧
  (∀ (p : Fin 64) (foms : Vector (BitVec 8) 4) (s : State), (1 ≤ s.elecState p.val ∧ s.elecState p.val ≤ 5 ∨ s.elecState p.val = 9) →
    (∀ l : Fin 4, s.elecCtl p.val 24 8 ≤ foms[l].toNat) → Does (.elecFomCheck p foms true) s (fun t => t.elecState p.val = 5 ∧
      (t.elec p.val).checked = true ∧ (t.elec p.val).measured = false ∧
      (∀ l : Fin 4, t.regF (laneReg p.val l.val 0) 0 8 = foms[l].toNat ∧ t.elecFlag p.val (8 + l.val) = false) ∧ only s t)) ∧
  (∀ (p : Fin 64) (foms : Vector (BitVec 8) 4) (s : State), 1 ≤ s.elecState p.val → s.elecState p.val ≤ 5 →
    Does (.elecFomCheck p foms false) s (fun t => t.elecState p.val = 0 ∧ (t.elec p.val).wait = true ∧
      t.reg (linkReg p.val lFails) = s.reg (linkReg p.val lFails) + 1 ∧ only s t)) ∧
  (∀ (p : Fin 64) (s : State), 1 ≤ s.elecState p.val → s.elecState p.val ≤ 5 → Does (.elecLinkStartFail p) s (fun t =>
    t.elecState p.val = 0 ∧ (t.elec p.val).wait = true ∧ t.reg (linkReg p.val lFails) = s.reg (linkReg p.val lFails) + 1 ∧ only s t)) ∧
  (∀ (p : Fin 64) (s : State), s.elecState p.val = 9 → exec (.elecLinkStartFail p) s = .next (s.elecStart p.val)) ∧
  (∀ (p : Fin 64) (s : State), (s.elecState p.val ≠ 5 ∨ (s.elec p.val).checked = false ∨ (s.elec p.val).measured = false) →
    exec (.elecPortUp p) s = .next s) ∧
  (∀ (p : Fin 64) (s : State), s.elecState p.val = 5 → (s.elec p.val).checked = true → (s.elec p.val).measured = true →
    s.epBit p.val eCtl 0 = true → Does (.elecPortUp p) s (fun t => t.elecState p.val = 6 ∧ t.portUp p.val = true ∧
      t.epF p.val eElecStatus 0 4 = 6 ∧ t.epBit p.val eStatus 11 = true ∧ t.fab.scrubbed.getLsbD p.val = false)) ∧
  (∀ (p : Fin 64) (l : Fin 4) (snr eye uncorr : Nat) (s : State), s.elecState p.val ≠ 6 → Does (.laneFomUpdate p l snr eye uncorr) s (fun t =>
    t.regF (laneReg p.val l.val 0) 0 8 = fomOf snr eye ∧
    t.regF (laneReg p.val l.val 0) 8 8 = min (fomOf snr eye) (s.regF (laneReg p.val l.val 0) 8 8) ∧
    t.reg (laneReg p.val l.val 0x30) = BitVec.ofNat 64 snr ∧ t.reg (laneReg p.val l.val 0x38) = BitVec.ofNat 64 eye ∧
    t.reg (linkReg p.val lUncorr) = s.reg (linkReg p.val lUncorr) + BitVec.ofNat 64 uncorr ∧
    OnlyRegs s t [laneReg p.val l.val 0, laneReg p.val l.val 0x30, laneReg p.val l.val 0x38, linkReg p.val lUncorr, linkReg p.val lStatus])) ∧
  (∀ (p : Fin 64) (l : Fin 4) (snr eye uncorr : Nat) (s : State), s.elecState p.val = 6 → uncorr ≤ 16 →
    fomOf snr eye < s.elecCtl p.val 32 8 → (s.elec p.val).low[l] < 2 → Does (.laneFomUpdate p l snr eye uncorr) s (fun t =>
      (t.elec p.val).low[l] = (s.elec p.val).low[l] + 1 ∧ t.elecState p.val = 6 ∧ only s t)) ∧
  (∀ (p : Fin 64) (l : Fin 4) (snr eye uncorr : Nat) (s : State), s.elecState p.val = 6 → uncorr ≤ 16 →
    s.elecCtl p.val 32 8 ≤ fomOf snr eye → Does (.laneFomUpdate p l snr eye uncorr) s (fun t =>
      (t.elec p.val).low[l] = 0 ∧ t.elecState p.val = 6 ∧ only s t)) ∧
  (∀ (p : Fin 128) (s : State), s.portUp p.val = true → Does (.flitReplay p) s (fun t =>
    t.reg (linkReg p.val lReplays) = s.reg (linkReg p.val lReplays) + 1 ∧ OnlyRegs s t [linkReg p.val lReplays])) ∧
  (∀ (p : Fin 128) (s : State), s.portUp p.val = false → exec (.flitReplay p) s = .next s) ∧
  (∀ (q : Fin 128) (s : State), q.val < 64 → Does (.portDown q) s (fun t => t = s.elecDown q.val ∧ t.elecState q.val = 0)) ∧
  (∀ (q : Fin 128) (p : OptPort) (s : State), q.val = 64 + p.val → exec (.portDown q) s = .next (s.optDown p.val))

/-- TEST, loops, patterns and audits (R480 to R484, R531): what the control fields, the acknowledgements and the partner's words
do, and the pattern checkers' counters. Where a command comes in a state for which the spec gives it no effect, nothing
changes: the model's choice (log 2). It rests in part on choices of the model: log 55, log 56. -/
def Obligations.TestAndAudit : Prop :=
  let only : State → State → Prop := fun s t => { t with elecs := s.elecs } = s
  (∀ (p : Fin 64) (s : State), s.recovery = false → s.elecBit p.val ecTest = false → s.elecBit p.val ecDeep = false →
    s.ready (readyPort p.val) = false → Does (.elecCtlTestWrite p true) s (fun t => t.elecBit p.val ecTest = true ∧ t.elecState p.val = 7 ∧
      Out.word p.val (.test true) ∈ t.out)) ∧
  (∀ (p : Fin 64) (s : State), s.recovery = false → s.elecBit p.val ecTest = true → s.elecBit p.val ecEnable = false →
    s.elecBit p.val ecDeep = false → Does (.elecCtlTestWrite p false) s (fun t => t.elecBit p.val ecTest = false ∧ t.elecState p.val = 0 ∧
      t.elecCtl p.val 10 2 = 0 ∧ (t.elec p.val).loop = 0 ∧ (t.elec p.val).loopAsk = false ∧ Out.word p.val (.test false) ∈ t.out ∧
      ∀ l : Fin 4, t.regBit (laneReg p.val l.val 8) 15 = false ∧ t.regBit (laneReg p.val l.val 8) 7 = false ∧
        t.regBit (laneReg p.val l.val 8) 11 = false)) ∧
  (∀ (p : Fin 64) (v : Fin 4) (s : State), s.recovery = false → s.elecBit p.val ecTest = false → Does (.elecCtlLoopWrite p v) s (fun t =>
    t.elecCtl p.val 10 2 = v.val ∧ OnlyRegs s t [linkReg p.val lCtl])) ∧
  (∀ (p : Fin 64) (v : Fin 4) (s : State), s.recovery = false → s.elecBit p.val ecTest = true → v.val ≠ 3 → (s.elec p.val).loop ≠ 3 →
    (s.elec p.val).loopAsk = false → Does (.elecCtlLoopWrite p v) s (fun t => t.elecCtl p.val 10 2 = v.val ∧
      (t.elec p.val).loop = v.val ∧ (t.elec p.val).loopAsk = false ∧ t.out = s.out)) ∧
  (∀ (p : Fin 64) (s : State), s.recovery = false → s.elecBit p.val ecTest = true → (s.elec p.val).loop ≠ 3 → (s.elec p.val).loopAsk = false →
    Does (.elecCtlLoopWrite p 3) s (fun t => t.elecCtl p.val 10 2 = 3 ∧ (t.elec p.val).loop = 0 ∧ (t.elec p.val).loopAsk = true ∧
      t.out = .word p.val (.loop 3) :: s.out)) ∧
  (∀ (p : Fin 64) (s : State), (s.elec p.val).loopAsk = true →
    Does (.farEndLoopAck p) s (fun t => t.elec p.val = { s.elec p.val with loop := 3, loopAsk := false } ∧ only s t) ∧
    Does (.farEndLoopTimeout p) s (fun t => t.elec p.val = { s.elec p.val with loopAsk := false } ∧ t.elecFlag p.val 15 = true ∧
      t.elecCtl p.val 10 2 = 0 ∧ t.out = s.out)) ∧
  (∀ (p : Fin 64) (s : State), (s.elec p.val).loopAsk = false →
    exec (.farEndLoopAck p) s = .next s ∧ exec (.farEndLoopTimeout p) s = .next s) ∧
  (∀ (p : Fin 64) (l : Fin 4) (s : State), s.recovery = false → s.generatorRuns p.val l.val = true →
    exec (.prbsInjOne p l) s = .next (s.emit (.word p.val (.injectOne l.val)))) ∧
  (∀ (p : Fin 64) (l : Fin 4) (s : State), s.recovery = false → s.generatorRuns p.val l.val = false → exec (.prbsInjOne p l) s = .next s) ∧
  (∀ (p : Fin 64) (l : Fin 4) (s : State), s.recovery = false → Does (.prbsChkClear p l) s (fun t =>
    t.reg (laneReg p.val l.val 0x10) = 0 ∧ t.reg (laneReg p.val l.val 0x18) = 0 ∧
    (∀ a, a ≠ laneReg p.val l.val 0x10 → a ≠ laneReg p.val l.val 0x18 → t.reg a = s.reg a) ∧
    { t with regs := s.regs, elecs := s.elecs, freeCtr := s.freeCtr } = s)) ∧
  (∀ (p : Fin 64) (l : Fin 4) (s : State), s.checkerRuns p.val l.val = true → s.regBit (laneReg p.val l.val 8) 11 = false →
    Does (.prbsCheckerLock p l) s (fun t => t.regBit (laneReg p.val l.val 8) 11 = true ∧ (t.elec p.val).checks[l] = some s.now ∧
      ∀ a, a ≠ laneReg p.val l.val 8 → t.reg a = s.reg a)) ∧
  (∀ (p : Fin 64) (l : Fin 4) (s : State), s.checkerRuns p.val l.val = false → exec (.prbsCheckerLock p l) s = .next s) ∧
  (∀ (p : Fin 64) (l : Fin 4) (s : State), Does (.prbsCheckerLockLost p l) s (fun t => t.regBit (laneReg p.val l.val 8) 11 = false ∧
    (t.elec p.val).checks[l] = none ∧
    (∀ since, (s.elec p.val).checks[l] = some since →
      t.reg (laneReg p.val l.val 0x10) = s.reg (laneReg p.val l.val 0x10) + BitVec.ofNat 64 (checkedBits since s.now)) ∧
    ((s.elec p.val).checks[l] = none → t.reg (laneReg p.val l.val 0x10) = s.reg (laneReg p.val l.val 0x10)))) ∧
  (∀ (p : Fin 64) (s : State), Does (.testRequest p true) s (fun t => t.epF p.val eElecStatus 0 4 = 7)) ∧
  (∀ (p : Fin 64) (s : State), s.epBit p.val eCtl 0 = true → Does (.testRequest p false) s (fun t =>
    t.epF p.val eElecStatus 0 4 = 1 ∧ (t.dep p.val).loop = false ∧ OnlyDeps s t)) ∧
  (∀ (p : Fin 64) (s : State), Does (.loopRequest p) s (fun t => t.dep p.val = { s.dep p.val with loop := true } ∧
    t.out = .depWord p.val .loopAck :: s.out ∧ OnlyDeps s t)) ∧
  (∀ (p : Fin 64) (v : BitVec 64) (s : State), s.recovery = false → Does (.auditWrite p v) s (fun t =>
    t.regBit (linkReg p.val lAudit) 63 = v.getLsbD 63 ∧ t.regF (linkReg p.val lAudit) 0 32 = fget v 0 32 ∧
    t.regF (linkReg p.val lAudit) 56 2 = fget v 56 2 ∧
    t.regBit (linkReg p.val lAudit) 62 = (!v.getLsbD 62 && s.regBit (linkReg p.val lAudit) 62) ∧ (t.elec p.val).acked = none ∧
    t.out = (if v.getLsbD 63 then [Out.word p.val (.audit (fget v 0 32) (fget v 56 2))] else []) ++ s.out)) ∧
  (∀ (p : Fin 64) (s : State), s.regBit (linkReg p.val lAudit) 63 = true → Does (.auditAck p) s (fun t =>
    t.elec p.val = { s.elec p.val with acked := some s.lesson.toNat } ∧ only s t)) ∧
  (∀ (p : Fin 64) (s : State), s.regBit (linkReg p.val lAudit) 63 = false → exec (.auditAck p) s = .next s) ∧
  (∀ (p : Fin 64) (n : BitVec 32) (l : Fin 4) (s : State), exec (.auditRequest p n l) s =
    .next (if s.epBit p.val eElecCtl 9 then s else s.emit (.depWord p.val .auditAck)))

/-- Sleep (R485 to R490, R531): one-way sleep and its wake, deep sleep, and the eight reserve lanes. Where a command comes in a
state for which the spec gives it no effect, nothing changes: the model's choice (log 2). It rests in part on choices of the
model: log 57. -/
def Obligations.Sleep : Prop :=
  (∀ (p : Fin 64) (s : State), s.maySleep p.val = true → Does (.sleepIdleExpiry p false) s (fun t => t.elecFlag p.val 12 = true ∧
    t.out = .word p.val (.sleep true) :: s.out ∧ tget (fun _ => false) t.fab.hold p.val = true)) ∧
  (∀ (p : Fin 64) (s : State), s.maySleep p.val = false → exec (.sleepIdleExpiry p false) s = .next s.draw.2) ∧
  (∀ (p : Fin 64) (s : State), (s.elecBit p.val ecSleep = false ∨ s.elecState p.val ≠ 6 ∨ s.regBit (rBellTree + 8 * (p.val / 64)) (p.val % 64) = true) →
    s.maySleep p.val = false) ∧
  (∀ (p : Fin 64) (s : State), s.epBit p.val eStatus 11 = true → s.epBit p.val eElecCtl 6 = true → s.epBit p.val eElecStatus 12 = false →
    Does (.sleepIdleExpiry p true) s (fun t => t.epBit p.val eElecStatus 12 = true ∧ t.out = .depWord p.val (.sleep true) :: s.out ∧ OnlyDeps s t)) ∧
  (∀ (p : Fin 64) (c : WakeCause) (s : State), s.wakeCause p.val c = true → s.elecFlag p.val 12 = true → (s.elec p.val).waking = false →
    Does (.sleepWake p c) s (fun t => t.elec p.val = { s.elec p.val with waking := true } ∧ t.out = .word p.val (.sleep false) :: s.out ∧
      { t with elecs := s.elecs, out := s.out } = s)) ∧
  (∀ (p : Fin 64) (c : WakeCause) (s : State), (s.wakeCause p.val c = false ∨ s.elecFlag p.val 12 = false) → exec (.sleepWake p c) s = .next s) ∧
  (∀ (p : Fin 64) (s : State), (s.elec p.val).waking = true → Does (.sleepWakeComplete p) s (fun t => (t.elec p.val).waking = false ∧
    t.elecFlag p.val 12 = false ∧ tget (fun _ => false) t.fab.hold p.val = (s.elec p.val).auditing ∧
    { t with regs := s.regs, elecs := s.elecs, fab := s.fab } = s ∧ { t.fab with hold := s.fab.hold } = s.fab)) ∧
  (∀ (p : Fin 64) (s : State), (s.elec p.val).waking = false → exec (.sleepWakeComplete p) s = .next s) ∧
  (∀ (p : Fin 64) (b : Bool) (s : State), Does (.sleepWord p true b) s (fun t => t.epBit p.val eElecStatus 13 = b ∧ OnlyDeps s t) ∧
    Does (.sleepWord p false b) s (fun t => t.elecFlag p.val 13 = b ∧ t.epBit p.val eElecStatus 12 = b ∧
      { t with regs := s.regs, deps := s.deps } = s)) ∧
  (∀ (p : Fin 64) (s : State), s.recovery = false → s.elecBit p.val ecDeep = false → s.elecBit p.val ecReserve = true →
    s.regBit (rBellTree + 8 * (p.val / 64)) (p.val % 64) = false → s.routeUses p.val = false → s.pageReserves p.val [1, 2, 3, 4] = false →
    Does (.elecCtlDeepEnter p) s (fun t => t.elecBit p.val ecDeep = true ∧ t.elecState p.val = 8)) ∧
  (∀ (p : Fin 64) (s : State), s.recovery = false → s.elecBit p.val ecDeep = false →
    (s.elecBit p.val ecReserve = false ∨ s.regBit (rBellTree + 8 * (p.val / 64)) (p.val % 64) = true ∨ s.routeUses p.val = true) →
    Does (.elecCtlDeepEnter p) s (fun t => t.elecFlag p.val 15 = true ∧ t.elecBit p.val ecDeep = false ∧ t.elecState p.val = s.elecState p.val ∧
      OnlyRegs s { t with freeCtr := s.freeCtr } [linkReg p.val lStatus])) ∧
  (∀ (p : Fin 64) (s : State), s.recovery = false → s.elecBit p.val ecDeep = true → Does (.elecCtlDeepExit p) s (fun t =>
    t.elecBit p.val ecDeep = false ∧ t.elecState p.val = (if s.elecBit p.val ecTest then 7 else if s.elecBit p.val ecEnable then 9 else 0) ∧
    OnlyRegs s t [linkReg p.val lCtl, linkReg p.val lStatus])) ∧
  (∀ (p : Fin 64) (s : State), s.recovery = false → s.elecBit p.val ecDeep = false → exec (.elecCtlDeepExit p) s = .next s) ∧
  (∀ (p : Fin 64) (on : Bool) (s : State), s.recovery = false →
    (on = false ∨ ((List.range 64).filter (fun q => q ≠ p.val && s.elecBit q ecReserve)).length < 8) →
    Does (.elecCtlReserveWrite p on) s (fun t => t.elecBit p.val ecReserve = on ∧ OnlyRegs s t [linkReg p.val lCtl])) ∧
  (∀ (p : Fin 64) (s : State), s.recovery = false → 8 ≤ ((List.range 64).filter (fun q => q ≠ p.val && s.elecBit q ecReserve)).length →
    Does (.elecCtlReserveWrite p true) s (fun t => t.elecFlag p.val 15 = true ∧ t.elecBit p.val ecReserve = s.elecBit p.val ecReserve ∧
      OnlyRegs s t [linkReg p.val lStatus]))

/-- The host link (R493, R494 to R497, R500, R501, R503): BAR2 and staging requests, its resets, its loss and return, the relay
slots of the gateway, and the stored BIFURCATE. Where a command comes in a state for which the spec gives it no effect,
nothing changes: the model's choice (log 2). It rests in part on choices of the model: log 58, log 59. -/
def Obligations.HostLink : Prop :=
  (∀ (r : Bar2Req) (d : List Byte) (s : State), s.fnServed r.fn.val = false → exec (.bar2Read r) s = .next s ∧ exec (.bar2Write r d) s = .next s) ∧
  (∀ (r : Bar2Req) (d : List Byte) (s : State), s.fnServed r.fn.val = true →
    (s.bar2Fpa r.fn.val r.off.toNat r.len = none ∨ s.bar2Cohort r.fn.val r.pasid = none) →
    Does (.bar2Read r) s (fun t => t.out = .bar2 s.host.nextId .unsupported [] :: s.out ∧
      t.host = { s.host with nextId := s.host.nextId + 1 } ∧ { t with out := s.out, host := s.host } = s) ∧
    Does (.bar2Write r d) s (fun t => t.out = .aer .unsupported :: s.out ∧
      t.host = { s.host with nextId := s.host.nextId + 1 } ∧ { t with out := s.out, host := s.host } = s)) ∧
  (∀ (r : Bar2Req) (d : List Byte) (a : Nat) (c : BitVec 10) (s : State), s.fnServed r.fn.val = true →
    s.bar2Fpa r.fn.val r.off.toNat r.len = some a → s.bar2Cohort r.fn.val r.pasid = some c →
    let b : Bar2 := { id := s.host.nextId, fn := r.fn.val, off := r.off.toNat, write := false, fpa := a, len := r.len, cohort := c, data := [] };
    let put : Bar2 → State := fun b => { s with host := { s.host with nextId := s.host.nextId + 1, reads := s.host.reads ++ [b] } };
    exec (.bar2Read r) s = .next (put b).settleHost ∧
    exec (.bar2Write r d) s = .next (put { b with write := true, data := d }).settleHost) ∧
  (∀ (off : BitVec 24) (d : List Byte) (s : State), s.ready 0 = false → s.host.linkB = false → exec (.bar4StagingWrite off d) s = .next s) ∧
  (∀ (off : BitVec 24) (d : List Byte) (s : State), (s.ready 0 = true ∨ s.host.linkB = true) →
    exec (.bar4StagingWrite off d) s = .next ({ s with host := { s.host with nextId := s.host.nextId + 1, reads := s.host.reads ++
      [({ id := s.host.nextId, fn := 0, off := off.toNat, write := true,
          fpa := fget (s.reg rStage) 44 12 * 2 ^ 44 + (fget (s.reg rStage) 0 40 + off.toNat) % 2 ^ 44, len := d.length,
          cohort := BitVec.ofNat 10 (s.regF rFnCohort 0 10), data := d } : Bar2)] } }).settleHost) ∧
  (∀ s : State, exec .hostHotReset s = .next { s with host := { s.host with cfg := [], msix := [] } } ∧
    exec (.functionLevelReset 0) s = .next { s with host := { s.host with cfg := [], msix := [] } }) ∧
  (∀ (fn : Fin 65) (s : State), fn ≠ 0 → Does (.functionLevelReset fn) s (fun t => (∀ e ∈ t.host.cfg, e.1 / 1024 ≠ fn.val) ∧
    (∀ e ∈ s.host.cfg, e.1 / 1024 ≠ fn.val → e ∈ t.host.cfg) ∧ (∀ b ∈ t.host.reads, b.fn = fn.val → b.dead = true) ∧
    t.host.msix = s.host.msix ∧ { t with host := s.host } = s)) ∧
  (∀ s : State, Does (.hostLinkDown false) s (fun t => t.ready 0 = false ∧ t.regBit rPcieStatus 2 = true ∧ t.host.msix = [] ∧
    t.host.buf = s.host.buf ∧ t.host.irqs = s.host.irqs ∧ { t with regs := s.regs, host := s.host } = s)) ∧
  (∀ s : State, s.host.split = true → Does (.hostLinkDown true) s (fun t => t.host.linkB = false ∧ t.ready 0 = s.ready 0 ∧
    { t with host := s.host } = s)) ∧
  (∀ s : State, s.host.split = false → exec (.hostLinkDown true) s = .next s ∧ exec (.hostLinkUp true) s = .next s) ∧
  (∀ s : State, Does (.hostLinkUp false) s (fun t => t.ready 0 = true ∧ t.host.buf = [] ∧ t.host.irqs = [] ∧
    t.out = (s.host.irqs.map Out.msix).reverse ++ s.out ∧
    t.hostMem = s.host.buf.foldl (fun m x => putHost m x.1 x.2) s.hostMem ∧ SameMemory s t)) ∧
  (∀ s : State, s.host.split = true → Does (.hostLinkUp true) s (fun t => t.host.linkB = true ∧ t.out = s.out ∧ SameMemory s t)) ∧
  (∀ (m : Fin 64) (v : BitVec 64) (s : State), (s.reg rGwMembers).getLsbD m.val = false → Does (.relaySlotPerform m v) s (fun t =>
    t.reg rRelayRefused = s.reg rRelayRefused + 1 ∧ OnlyRegs s t [rRelayRefused])) ∧
  (∀ (m : Fin 64) (v : BitVec 64) (s : State), (s.reg rGwMembers).getLsbD m.val = true → v.getLsbD 8 = true → s.ready 0 = true →
    Does (.relaySlotPerform m v) s (fun t => t.out = .msix (32 * m.val + fget v 16 5) :: s.out ∧ t.reg (relayAt m.val 5) = v ∧
      OnlyRegsOut s t [relayAt m.val 5])) ∧
  (∀ (m : Fin 64) (v : BitVec 64) (s : State), (s.reg rGwMembers).getLsbD m.val = true → v.getLsbD 8 = false → 1 ≤ fget v 0 6 → fget v 0 6 ≤ 32 →
    s.ready 0 = true → s.behindGateway = false → Does (.relaySlotPerform m v) s (fun t =>
      t.hostMem = putHost s.hostMem (s.reg (relayAt m.val 4)).toNat
        (((List.range 4).flatMap (fun k => leBytes 8 (s.reg (relayAt m.val k)).toNat)).take (fget v 0 6)) ∧
      t.reg (relayAt m.val 5) = v ∧ { t with regs := s.regs, hostMem := s.hostMem } = s)) ∧
  (∀ (on : Bool) (s : State), s.recovery = false → Does (.bifurcateWrite on) s (fun t => t.regBit rPcieCtl 0 = on ∧ OnlyRegs s t [rPcieCtl]))

/-- Identity, partitions and cohorts (R333, R536 to R539, R609): what a write of each register takes, and when it is refused.
Where a command comes in a state for which the spec gives it no effect, nothing changes: the model's choice (log 2). It
rests in part on choices of the model: log 26, log 27. -/
def Obligations.IdentityAndPartitions : Prop :=
  (∀ (p : Fin 128) (v : BitVec 8) (s : State), s.recovery = false → (s.partArmed = false ∨ s.bell.governed = true) →
    Does (.glbPortPartStageWrite p v) s (fun t => t.tabF (rPortPartStage + p.val) 1 = (v &&& 0xBF).toNat ∧
      (∀ q : Fin 128, q ≠ p → t.tabF (rPortPartStage + q.val) 1 = s.tabF (rPortPartStage + q.val) 1) ∧
      OnlyRegs s t [(rPortPartStage + p.val) / 8 * 8])) ∧
  (∀ (v : BitVec 64) (s : State), s.recovery = false → (v.getLsbD 63 = false ∨ s.bell.governed = true) → Does (.glbPartSwapWrite v) s (fun t =>
    t.partArmed = v.getLsbD 63 ∧ t.regF rPartSwap 0 32 = fget v 0 32 ∧ OnlyRegs s t [rPartSwap])) ∧
  (∀ (v : BitVec 64) (s : State), s.recovery = false → v.getLsbD 63 = true → s.bell.governed = false → s.bell.mapped = true →
    (∀ p : Fin 128, s.swapOffends p.val = false) → Does (.glbPartSwapWrite v) s (fun t => t.partArmed = false ∧
      t.regBit rPartStatus 0 = true ∧ (∀ p : Fin 128, t.tabF (rPortPart + p.val) 1 = s.tabF (rPortPartStage + p.val) 1) ∧
      { t with regs := s.regs } = s)) ∧
  (∀ (v : BitVec 64) (p : Fin 128) (s : State), s.recovery = false → v.getLsbD 63 = true → s.bell.governed = false →
    s.swapOffends p.val = true → (∀ q : Fin 128, q < p → s.swapOffends q.val = false) → Does (.glbPartSwapWrite v) s (fun t =>
      t.partArmed = true ∧ t.regBit rPartStatus 1 = true ∧ t.regF rPartStatus 8 7 = p.val ∧ OnlyRegs s t [rPartSwap, rPartStatus])) ∧
  (∀ (v : BitVec 64) (s : State), s.recovery = false → s.portUp (v.toNat % 128) = true → Does (.glbPortScrub v) s (fun t =>
    t.regBit rPartStatus 1 = true ∧ OnlyRegs s t [rPartStatus])) ∧
  (∀ (v : BitVec 64) (s : State), s.recovery = false → s.portUp (v.toNat % 128) = false → Does (.glbPortScrub v) s (fun t =>
    t.fab.scrubbing.getLsbD (v.toNat % 128) = true ∧ { t with fab := s.fab } = s)) ∧
  (∀ (p : Fin 128) (s : State), s.fab.scrubbing.getLsbD p.val = true → Does (.portScrubDone p) s (fun t =>
    t.fab.scrubbed.getLsbD p.val = true ∧ t.fab.scrubbing.getLsbD p.val = false)) ∧
  (∀ (p : Fin 128) (s : State), s.fab.scrubbing.getLsbD p.val = false → exec (.portScrubDone p) s = .next s) ∧
  (∀ (c : BitVec 10) (v : BitVec 128) (s : State), s.recovery = false → Does (.glbCohortWrite c .seed v) s (fun t =>
    t.reg (cohortAt c.toNat) = v.setWidth 64 ∧ t.reg (cohortAt c.toNat + 8) = (v >>> 64).setWidth 64 ∧
    OnlyRegs s t [cohortAt c.toNat, cohortAt c.toNat + 8])) ∧
  (∀ (c : BitVec 10) (v : BitVec 128) (s : State), s.recovery = false → v.toNat / 2 ^ 12 % 8 = 1 → s.cohortState c.toNat = 0 →
    Does (.glbCohortWrite c .state v) s (fun t => t.cohortState c.toNat = 1 ∧ t.cohortPart c.toNat = v.toNat % 64 ∧ c.toNat ∉ t.sec.torn ∧
      (∀ a, a ≠ cohortAt c.toNat + 24 → t.reg a = s.reg a) ∧ { t with regs := s.regs, sec := s.sec } = s)) ∧
  (∀ (c : BitVec 10) (v : BitVec 128) (s : State), s.recovery = false → (v.toNat / 2 ^ 12 % 8 ≠ 1 ∨ s.cohortState c.toNat ≠ 0) →
    exec (.glbCohortWrite c .state v) s = .next s) ∧
  (∀ (v : BitVec 64) (s : State), s.recovery = false → (∀ p : Fin 128, s.portPart p.val = none) → Does (.glbNodeWrite v) s (fun t =>
    t.node = BitVec.ofNat 12 (fget v 0 12) ∧ OnlyRegs s t [rGlbNode])) ∧
  (∀ (v : BitVec 64) (p : Fin 128) (s : State), s.recovery = false → s.portPart p.val ≠ none → exec (.glbNodeWrite v) s = .next s)

/-- Security services (R546 to R552, R556 to R560, R574): attestation, the Locker, sealed regions and teardown; a command that
finds the Principal absent waits. Where a command comes in a state for which the spec gives it no effect, nothing changes:
the model's choice (log 2). It rests in part on choices of the model: log 47, log 72, log 73. -/
def Obligations.SecurityServices : Prop :=
  let waits : Instr → PrinCmd → Prop := fun c k => ∀ s : State, s.ready 1 = false → Does c s (fun t =>
    t.prin.waits = s.prin.waits ++ [k] ∧ t.regBit rSecStatus 8 = true ∧ OnlyRegs s { t with prin := s.prin } [rSecStatus])
  let ends : Nat → State → Prop := fun code t => t.regF rSecStatus 0 4 = code ∧ t.regBit rSecStatus 8 = false
  let eph : State → BitVec 10 → Option (Nat × List Byte) := fun s c => tget (fun _ => none) s.sec.eph c.toNat
  let up : State → Prop := fun s => s.ready 1 = true ∧ s.behindGateway = false
  let loud : State → State → State := fun s t => { t with out := s.out, host := s.host }
  (∀ v : BitVec 64, waits (.secAttest v) (.attest (fget v 0 10)) ∧ waits (.secLockerClear v) (.lockerClear (fget v 0 8)) ∧
    waits (.secTeardown v) (.teardown (fget v 0 10))) ∧ waits .secImportGo .importGo ∧
  (∀ (i : Fin 64) (a n : BitVec 64) (c : BitVec 10) (k : BitVec 8), waits (.secSealCreate i a n c k) (.sealCreate i.val a n c.toNat k.toNat)) ∧
  (∀ (v : BitVec 64) (s : State), up s → s.cohortState (fget v 0 10) = 1 → Does (.secAttest v) s (fun t =>
    t.sec.attest = some (BitVec.ofNat 10 (fget v 0 10), s.latchBytes rNonce 4) ∧ t.regBit rSecStatus 8 = true ∧
    { t with regs := s.regs, sec := s.sec } = s)) ∧
  (∀ (v : BitVec 64) (s : State), up s → s.cohortState (fget v 0 10) ≠ 1 → Does (.secAttest v) s (fun t => ends 5 t ∧ OnlyRegs s (loud s t) [rSecStatus] ∧
    (s.ready 0 = true → t.out = (if s.regBit rSecCtl 0 then [Out.msix (32 * (s.node.toNat % 64) + 13)] else []) ++ s.out))) ∧
  (∀ s : State, s.sec.attest = none → exec .attestationReportReady s = .next s) ∧
  (∀ (c : BitVec 10) (n : List Byte) (s : State), s.sec.attest = some (c, n) → s.behindGateway = false →
    Does .attestationReportReady s (fun t => t.sec.attest = none ∧ eph t c = some (s.sec.pairs, n) ∧ t.sec.pairs = s.sec.pairs + 1 ∧ ends 0 t ∧
      { loud s t with regs := s.regs, sec := s.sec } = s)) ∧
  (∀ (c : BitVec 10) (s : State), Does (.ephemeralKeyExpiry c) s (fun t => eph t c = none ∧ (∀ d, d ≠ c → eph t d = eph s d) ∧
    { t with sec := { t.sec with eph := s.sec.eph } } = s)) ∧
  (∀ s : State, up s → eph s (BitVec.ofNat 10 (leAt (s.latchBytes rImport 17) 76 2 % 1024)) = none →
    Does .secImportGo s (fun t => ends (if s.cohortState (leAt (s.latchBytes rImport 17) 76 2 % 1024) ≠ 1 then 5 else 2) t ∧ t.sec = s.sec)) ∧
  (∀ (c : BitVec 10) (k : Nat) (nonce : List Byte) (s : State), up s → c.toNat = leAt (s.latchBytes rImport 17) 76 2 % 1024 →
    eph s c = some (k, nonce) → Does .secImportGo s (fun t => eph t c = none ∧
      let slot := leAt (s.latchBytes rImport 17) 78 1;
      if s.cohortState c.toNat ≠ 1 then ends 5 t
      else if (s.reg (rLocker + 8 * slot)).getLsbD 63 then ends 4 t
      else ∃ o : Option (List Byte), o = Config.gcmOpen (Config.hkdf nonce (Config.ecdhX k ((s.latchBytes rImport 17).take 64))
          (lockerInfo ++ ((s.latchBytes rImport 17).drop 76).take 8)) (((s.latchBytes rImport 17).drop 64).take 12)
          (((s.latchBytes rImport 17).drop 76).take 12) (((s.latchBytes rImport 17).drop 88).take 32) ((s.latchBytes rImport 17).drop 120) ∧
        (o = none → ends 3 t) ∧
        (∀ key, o = some key → ends 0 t ∧ tget (fun _ => []) t.sec.keys slot = key ∧ (t.reg (rLocker + 8 * slot)).getLsbD 63 = true))) ∧
  (∀ (v : BitVec 64) (s : State), s.ready 1 = true → Does (.secLockerClear v) s (fun t => t.reg (rLocker + 8 * fget v 0 8) = 0 ∧
    tget (fun _ => []) t.sec.keys (fget v 0 8) = [] ∧ OnlyRegs s { t with sec := s.sec } [rLocker + 8 * fget v 0 8])) ∧
  (∀ (i : Fin 64) (a n : BitVec 64) (c : BitVec 10) (k : BitVec 8) (s : State), s.ready 1 = true → (s.sealEntry i.val).2.2.2.2 ≠ 0 →
    exec (.secSealCreate i a n c k) s = .next s) ∧
  (∀ (i : Fin 64) (a n : BitVec 64) (c : BitVec 10) (k : BitVec 8) (s : State), up s → (s.sealEntry i.val).2.2.2.2 = 0 →
    s.sealOver a.toNat n.toNat ≠ none → Does (.secSealCreate i a n c k) s (fun t => ends 6 t ∧ OnlyRegs s (loud s t) [rSecStatus])) ∧
  (∀ (i : Fin 64) (a n : BitVec 64) (c : BitVec 10) (k : BitVec 8) (s : State), up s → (s.sealEntry i.val).2.2.2.2 = 0 →
    s.sealOver a.toNat n.toNat = none → meetsRegion s.ovfRegion a.toNat n.toNat = false →
    meetsRegion s.ttRegion a.toNat n.toNat = false → a.toNat + n.toNat ≤ 2 ^ 40 → n ≠ 0 → a.toNat % 2 ^ 21 = 0 →
    n.toNat % 2 ^ 21 = 0 → s.cohortState c.toNat = 1 → s.coh.dir = [] → Does (.secSealCreate i a n c k) s (fun t => ends 0 t ∧
      t.sealEntry i.val = (a.toNat, n.toNat, c.toNat, k.toNat, 1) ∧ SameMemory s t ∧ { loud s t with regs := s.regs } = s)) ∧
  (∀ (i : Fin 64) (s : State), (s.sealEntry i.val).2.2.2.2 ≠ 1 → exec (.sealZeroingDone i) s = .next s) ∧
  (∀ (i : Fin 64) (s : State), (s.sealEntry i.val).2.2.2.2 = 1 → Does (.sealZeroingDone i) s (fun t => (t.sealEntry i.val).2.2.2.2 = 2 ∧
    (∀ x, (s.sealEntry i.val).1 ≤ x → x < (s.sealEntry i.val).1 + (s.sealEntry i.val).2.1 → t.byte x = 0) ∧
    SameMemoryBut s t (s.sealEntry i.val).1 (s.sealEntry i.val).2.1)) ∧
  (∀ (v : BitVec 64) (s : State), up s → (∀ p : Fin 2, s.bell.pages[p].tt = none) → s.cohortState (fget v 0 10) ≠ 1 →
    Does (.secTeardown v) s (fun t => ends 5 t ∧ OnlyRegs s (loud s t) [rSecStatus])) ∧
  (∀ (v : BitVec 64) (s : State), up s → (∀ p : Fin 2, s.bell.pages[p].tt = none) → s.cohortState (fget v 0 10) = 1 →
    Does (.secTeardown v) s (fun t => t.cohortState (fget v 0 10) = 2 ∧ t.regBit rSecStatus 8 = true ∧ fget v 0 10 ∈ t.sec.torn ∧
      (∃ x ∈ t.sec.tears, x.cohort = fget v 0 10 ∧ x.start = s.lesson ∧ x.nonce = s.latchBytes rNonce 4) ∧
      { t with regs := s.regs, sec := s.sec } = s)) ∧
  (∀ (c : BitVec 10) (b : Bool) (s : State), (s.fenced 0 = true ∨ s.fenced 2 = true ∨ ∀ x ∈ s.sec.tears, x.cohort = c.toNat → x.scrub = false) →
    exec (.teardownComplete c b) s = .next s) ∧
  (∀ (c : BitVec 10) (b : Bool) (x : Tear) (s : State), s.fenced 0 = false → s.fenced 2 = false → s.behindGateway = false →
    s.sec.tears.find? (fun t => t.cohort = c.toNat && t.scrub) = some x → Does (.teardownComplete c b) s (fun t => ends 0 t ∧
      t.cohortState c.toNat = 0 ∧ (∀ y ∈ t.sec.tears, y.cohort ≠ c.toNat) ∧
      ∀ r ∈ x.areas, ∀ a, r.1 ≤ a → a < r.1 + r.2 → t.byte a = 0))

/-- The module domain (R493, R561, R562, R570, R572, R637): what PERST_N, a loss of power and a rail fault leave, and power-on.
Where a command comes in a state for which the spec gives it no effect, nothing changes: the model's choice (log 2). It
rests in part on choices of the model: log 67. -/
def Obligations.ModuleReset : Prop :=
  let fresh : State → State → Prop := fun s t => t.rst.down = true ∧ t.desks = [] ∧ t.strms = [] ∧ t.opts = [] ∧ t.elecs = [] ∧ t.coh = {} ∧
    t.deps = s.deps ∧ t.hostMem = s.hostMem ∧ t.now = s.now ∧ t.gb.entries = s.gb.entries ∧
    (∀ a, inFlash a = true → t.reg a = s.reg a) ∧ (∀ a, inFlash a = false → t.reg a = regReset a)
  let sealed : State → Nat → Prop := fun s a => ∃ i : Fin 64, (s.sealEntry i.val).2.2.2.2 ≠ 0 ∧
    (s.sealEntry i.val).1 ≤ a ∧ a < (s.sealEntry i.val).1 + (s.sealEntry i.val).2.1
  (∀ s : State, Does .perstN s (fun t => fresh s t ∧ (∀ a, a < 2 ^ 40 → ¬ sealed s a → t.byte a = s.byte a) ∧
    (∀ a, a < 2 ^ 40 → sealed s a → t.byte a = 0) ∧ ∀ a, 2 ^ 40 ≤ a → t.byte a = 0)) ∧
  (∀ s : State, Does .lossOfPower s (fun t => fresh s t ∧ ∀ a, t.byte a = 0)) ∧
  (∀ (r : Rail) (s : State), (s.rst.down = true ∨ r = .vaux) → exec (.railFault r) s = .next s) ∧
  (∀ (r : Rail) (s : State), s.rst.down = false → r ≠ .vaux → Does (.railFault r) s (fun t => t.rst.rail = some r ∧ t.rst.down = true ∧
    t.out = .pin "PMB_ALERT_N" false :: s.out ∧ ∀ a, inFlash a = false → t.reg a = regReset a)) ∧
  (∀ s : State, s.rst.down = false → s.sec.booted ≠ 0 → exec (.powerOn false) s = .next s) ∧
  (∀ s : State, s.rst.down = true → Does (.powerOn false) s (fun t => t.rst.down = false ∧ t.rst.rail = none ∧ t.rst.since = s.now ∧
    t.host.split = s.regBit rPcieCtl 0 ∧ t.gb.powerOns = s.gb.powerOns ∧ t.regF rLogHead 0 7 = (s.regF rLogHead 0 7 + 1) % 128 ∧ SameMemory s t)) ∧
  (∀ s : State, s.rst.tripped = false → Does (.powerOn true) s (fun t => t.rst.down = false ∧ t.rst.rail = none ∧
    t.host.split = s.regBit rPcieCtl 0 ∧ t.gb.powerOns = s.gb.powerOns + 1 ∧ t.regF rLogHead 0 7 = (s.regF rLogHead 0 7 + 1) % 128 ∧
    ∀ a, t.byte a = 0))

/-- Boot (R541, R542, R543, R544, R572): stages in order, each measured; a refused image turns to the other bank, and when both
are refused the module recovers; a Wing's self-test leaves its memories zero. Where a command comes in a state for which the
spec gives it no effect, nothing changes: the model's choice (log 2). It rests in part on choices of the model: log 68, log
72. -/
def Obligations.Boot : Prop :=
  let measured : State → State → Nat → List Byte → Prop := fun s t k d => t.sec.booted = s.sec.booted ||| BitVec.ofNat 5 (2 ^ k) ∧
    ∀ i : Fin 4, t.reg (rMeas + 32 * k + 8 * i.val) = BitVec.ofNat 64 (leAt (Config.sha256 (s.regBytes (rMeas + 32 * k) 4 ++ d)) (8 * i.val) 8)
  let runs : State → Prop := fun s => s.recovery = false ∧ s.prin.again = false
  (∀ (k : Fin 5) (im : List Byte) (s : State), runs s → (s.sec.booted.getLsbD k.val = true ∨ 0 < k.val ∧ s.sec.booted.getLsbD (k.val - 1) = false) →
    exec (.bootStageVerified k im) s = .next s) ∧
  (∀ (im : List Byte) (s : State), runs s → s.sec.booted.getLsbD 0 = false → Does (.bootStageVerified 0 im) s (fun t =>
    measured s t 0 Config.romDigest ∧ { t with regs := s.regs, sec := s.sec } = s)) ∧
  (∀ (k : Fin 5) (im : List Byte) (s : State), runs s → 1 ≤ k.val → k.val ≤ 3 → s.sec.booted.getLsbD k.val = false →
    s.sec.booted.getLsbD (k.val - 1) = true → Does (.bootStageVerified k im) s (fun t =>
      if s.imageOk im then
        (k.val < 3 → measured s t k.val (Config.sha256 im) ∧ { t with regs := s.regs, sec := s.sec } = s) ∧
        (k.val = 3 → t = (s.measure 3 (Config.sha256 im)).startLinks.principalUp)
      else
        (s.prin.fell = false → t.prin.fell = true ∧ (t.prin.bank = !s.prin.bank) ∧ t.sec.booted = s.sec.booted &&& 1 ∧ t.recovery = false) ∧
        (s.prin.fell = true → t.recovery = true ∧ OnlyRegs s t [rRstStatus]))) ∧
  (∀ (im : List Byte) (s : State), runs s → s.sec.booted.getLsbD 4 = false → s.sec.booted.getLsbD 3 = true →
    Does (.bootStageVerified 4 im) s (fun t => measured s t 4 (Config.sha256 im) ∧ { t with regs := s.regs, sec := s.sec } = s)) ∧
  (∀ (im : List Byte) (s : State), (s.imageOk im && decide ((Config.imageSvn im).toNat < s.svn.toNat)) = false ∧
    (s.imageOk im && Config.keyRevoked (Config.imageKey im % 4)) = false) ∧
  (∀ (w : Fin 4) (s : State), s.rst.down = false → s.recovery = false → s.fenced 0 = false → s.ready (readyWing w.val) = false →
    Does (.wingSelfTestDone w) s (fun t => t.ready (readyWing w.val) = true ∧
      (∀ a, bbBase (300 * w.val) ≤ a → a < bbBase (300 * w.val) + 0x8000000 → t.byte a = 0) ∧
      (∀ a, slateBase (300 * 256 * w.val) ≤ a → a < slateBase (300 * 256 * w.val) + 0x40000000 → t.byte a = 0) ∧
      (∀ a, a < 2 ^ 40 → t.byte a = s.byte a))) ∧
  (∀ (w : Fin 4) (s : State), (s.rst.down = true ∨ s.recovery = true ∨ s.fenced 0 = true ∨ s.ready (readyWing w.val) = true) →
    exec (.wingSelfTestDone w) s = .next s)

/-- Reset requests (R564, R566, R578, R580): one served at once fences its domain; one of a fenced domain is merged; with AUTO 0
one that hardware asks for is only reported; OUT_OF_SERVICE refuses a compute reset. Where a command comes in a state for
which the spec gives it no effect, nothing changes: the model's choice (log 2). It rests in part on choices of the model:
log 64, log 65. -/
def Obligations.ResetRequests : Prop :=
  let free : State → Nat → Prop := fun s d => s.rst.cur = none ∧ s.rst.queue = [] ∧ s.fenced d = false ∧ s.rst.held.getLsbD d = false
  (∀ s : State, s.recovery = false → s.outOfService = false → free s 0 → exec (.resetCompute .hostWrite) s = .next (s.serveReset 0 0 0)) ∧
  (∀ s : State, s.recovery = false → free s 1 → Does (.resetSwitchLinks .hostWrite) s (fun t => t = s.serveReset 1 0 0 ∧ t.fenced 1 = true ∧
    t.inReset 1 = false ∧ t.regBit rRstStatus 0 = true ∧ t.rst.cur = some (1, 0) ∧
    t.regF rRstCount 16 16 = (s.regF rRstCount 16 16 + 1) % 2 ^ 16 ∧ t.regF rLogHead 0 7 = (s.regF rLogHead 0 7 + 1) % 128 ∧
    { t with regs := s.regs, rst := s.rst } = s)) ∧
  (∀ s : State, s.recovery = false → free s 2 → exec (.resetMemory .hostWrite) s = .next (s.serveReset 2 0 0)) ∧
  (∀ s : State, s.outOfService = true → s.recovery = false → ∀ c : ResetCause, exec (.resetCompute c) s = .next s) ∧
  (∀ s : State, s.recovery = false → s.rst.held = 0 →
    (s.outOfService = false → s.fenced 0 = true → exec (.resetCompute .hostWrite) s = .next s) ∧
    (s.fenced 1 = true → exec (.resetSwitchLinks .hostWrite) s = .next s) ∧ (s.fenced 2 = true → exec (.resetMemory .hostWrite) s = .next s)) ∧
  (∀ (c : ResetCause) (s : State), c ≠ .hostWrite → c ≠ .thermalHold → s.regBit rRstCtl 0 = false → s.behindGateway = false →
    (s.outOfService = false → Does (.resetCompute c) s (fun t => t.regBit rRstStatus 8 = true ∧ t.fenced 0 = s.fenced 0 ∧ t.rst = s.rst)) ∧
    Does (.resetSwitchLinks c) s (fun t => t.regBit rRstStatus 9 = true ∧ t.fenced 1 = s.fenced 1 ∧ t.rst = s.rst) ∧
    Does (.resetMemory c) s (fun t => t.regBit rRstStatus 10 = true ∧ t.fenced 2 = s.fenced 2 ∧ t.rst = s.rst)) ∧
  (∀ (p : Fin 12) (s : State), s.queuedFor (128 + p.val) = true → exec (.internalPortWatchdog p) s = .next (s.requestReset 1 3 (128 + p.val))) ∧
  (∀ (p : Fin 12) (s : State), s.queuedFor (128 + p.val) = false → exec (.internalPortWatchdog p) s = .next s) ∧
  (∀ (c : Fin 64) (s : State), s.queuedAt c.val = true → exec (.homeWatchdog c) s = .next (s.requestReset 2 4 c.val)) ∧
  (∀ (c : Fin 64) (s : State), s.queuedAt c.val = false → exec (.homeWatchdog c) s = .next s) ∧
  (∀ (d arg : Nat) (s : State), s.regBit rRstCtl 0 = true → s.rst.cur = none → s.rst.queue = [] → s.fenced d = false →
    s.rst.held.getLsbD d = false → s.withheld d 3 = false → (d = 0 → s.outOfService = false) → s.requestReset d 3 arg = s.serveReset d 3 arg) ∧
  (∀ (p : Fin 128) (s : State), s.portUp p.val = true → s.queuedFor p.val = true → exec (.portWatchdog p) s = .next (s.restartPort p.val)) ∧
  (∀ (p : Fin 128) (s : State), (s.portUp p.val = false ∨ s.queuedFor p.val = false) → exec (.portWatchdog p) s = .next s) ∧
  (∀ s : State, s.ready 1 = true → s.behindGateway = false → Does .principalWatchdog s (fun t => t.ready 1 = false ∧ t.prin.again = true)) ∧
  (∀ s : State, s.ready 1 = false → exec .principalWatchdog s = .next s)

/-- Fences and the end of a reset (R562, R564, R567, R568, R569, R584): a fence of the domain being reset ends when nothing is
outstanding, or at the drain timeout; the domain is then in reset until its completion, and a held compute reset waits.
Where a command comes in a state for which the spec gives it no effect, nothing changes: the model's choice (log 2). It
rests in part on choices of the model: log 64, log 65, log 66. -/
def Obligations.FencesAndResets : Prop :=
  let serving : State → Nat → Prop := fun s d => s.fencing d = true ∧ (s.rst.cur.map Prod.fst) = some d
  (∀ s : State, exec (.fenceDrained .module) s = .next s ∧ exec (.drainTimeoutExpiry .module) s = .next s ∧
    exec (.resetComplete .module) s = .next s) ∧
  (∀ (d : Domain) (s : State), s.fencing (domainCode d) = false →
    exec (.fenceDrained d) s = .next s ∧ exec (.drainTimeoutExpiry d) s = .next s) ∧
  (∀ (d : Domain) (s : State), d = .switchLinks ∨ d = .memory → serving s (domainCode d) → s.drained (domainCode d) = true →
    Does (.fenceDrained d) s (fun t => t = s.beginReset (domainCode d) ∧ t.inReset (domainCode d) = true ∧ t.fencing (domainCode d) = false)) ∧
  (∀ s : State, serving s 0 → s.drained 0 = true → exec (.fenceDrained .compute) s = .next (s.beginReset 0)) ∧
  (∀ (d : Domain) (s : State), d ≠ .module → serving s (domainCode d) → s.drained (domainCode d) = false → exec (.fenceDrained d) s = .next s) ∧
  (∀ (d : Domain) (s : State), d = .switchLinks ∨ d = .memory → serving s (domainCode d) → Does (.drainTimeoutExpiry d) s (fun t =>
    t = (s.answerAll (domainCode d)).beginReset (domainCode d) ∧ t.inReset (domainCode d) = true ∧ t.fencing (domainCode d) = false)) ∧
  (∀ s : State, serving s 0 → exec (.drainTimeoutExpiry .compute) s = .next ((s.answerAll 0).beginReset 0)) ∧
  (∀ (d : Domain) (s : State), s.inReset (domainCode d) = false → exec (.resetComplete d) s = .next s) ∧
  (∀ s : State, (s.thermalHeld = true ∨ s.outOfService = true) → exec (.resetComplete .compute) s = .next s) ∧
  (∀ s : State, s.memoryReady = false → exec (.resetComplete .memory) s = .next s) ∧
  (∀ s : State, s.inReset 0 = true → s.thermalHeld = false → s.outOfService = false → s.rst.queue = [] → Does (.resetComplete .compute) s (fun t =>
    t.fenced 0 = false ∧ (∀ w : Fin 4, t.ready (readyWing w.val) = true) ∧ { t with regs := s.regs, rst := s.rst } = s)) ∧
  (∀ s : State, s.inReset 1 = true → s.rst.queue = [] → Does (.resetComplete .switchLinks) s (fun t => t = s.endReset 1)) ∧
  (∀ s : State, s.inReset 2 = true → s.memoryReady = true → s.rst.queue = [] → Does (.resetComplete .memory) s (fun t => t.fenced 2 = false ∧
    (∀ c : Fin 64, s.regBit (chReg c.val 0) 0 = true → t.ready (readyCh c.val) = true) ∧ { t with regs := s.regs, rst := s.rst } = s)) ∧
  (∀ s : State, (s.thermalHeld = false ∨ s.inReset 0 = false) → exec .thermalHoldRelease s = .next s) ∧
  (∀ s : State, s.thermalHeld = true → s.inReset 0 = true → s.outOfService = false → s.rst.queue = [] → Does .thermalHoldRelease s (fun t =>
    t.thermalHeld = false ∧ t.fenced 0 = false ∧ (∀ w : Fin 4, t.ready (readyWing w.val) = true) ∧ { t with regs := s.regs, rst := s.rst } = s)) ∧
  (∀ s : State, s.thermalHeld = true → s.inReset 0 = true → s.outOfService = true → Does .thermalHoldRelease s (fun t =>
    t.thermalHeld = false ∧ t.inReset 0 = true ∧ OnlyRegs s t [rRstStatus]))

/-- Temperature, the heartbeat and power (R584, R585, R586, R590, R591, R592, R643): a cool reading, a trip, the host's
heartbeat, and the mean power of a window against PCAP. Where a command comes in a state for which the spec gives it no
effect, nothing changes: the model's choice (log 2). It rests in part on choices of the model: log 17, log 67, log 69. -/
def Obligations.TemperatureAndPower : Prop :=
  (∀ (j : JunctionTemps) (s : State), junctionMax j < 100 → junctionMax j + 5 ≤ s.regF rTherm 0 8 → s.bell.hot = false →
    s.ownCode = s.bell.own → s.omu.queue = [] → Does (.junctionSensorRead j) s (fun t => t.regF rExtStatus 16 8 = junctionMax j ∧
      t.regBit rPrinStatus 1 = false ∧ t.thermalHeld = s.thermalHeld ∧ t.bell = s.bell ∧
      (∀ i : Fin 16, t.rst.warm.getLsbD i.val = decide (85 ≤ j.gddr[i])) ∧
      (∀ p : Fin 4, t.reg (prismReg p.val 0x28) = BitVec.ofNat 64 j.prisms[p] ∧ (t.prism p).hot = false) ∧
      { t with regs := s.regs, rst := s.rst, omu := s.omu } = s)) ∧
  (∀ s : State, Does .thermtrip s (fun t => ∀ (p : OptPort) (k : Fin 16), (t.wave p.val k.val).lit = false)) ∧
  (∀ s : State, (∀ n : Fin 128, s.ready (readyPort n.val) = false) → (∀ p : OptPort, s.optState p.val ≠ 7) → Does .thermtrip s (fun t =>
    t.rst.tripped = true ∧ t.out = .pin "THERMTRIP_N" false :: s.out ∧
    (∀ p : Fin 64, t.elecState p.val = 0) ∧ (∀ p : OptPort, t.optState p.val = 0) ∧
    { t with regs := s.regs, rst := s.rst, out := s.out, elecs := s.elecs, opts := s.opts } = s)) ∧
  (∀ s : State, Does .heartbeat s (fun t => t.regBit rExtStatus 2 = false ∧ OnlyRegs s t [rExtStatus])) ∧
  (∀ s : State, s.regBit rExtStatus 2 = true → exec .heartbeatLost s = .next s) ∧
  (∀ s : State, s.regBit rExtStatus 2 = false → s.behindGateway = false → Does .heartbeatLost s (fun t =>
    t.regBit rExtStatus 2 = true ∧ t.regF rLogHead 0 7 = (s.regF rLogHead 0 7 + 1) % 128)) ∧
  (∀ (w : BitVec 16) (s : State), s.ready 1 = false → exec (.pcapWindow w) s = .next s) ∧
  (∀ (w : BitVec 16) (s : State), s.ready 1 = true → s.behindGateway = false → s.regF rPcap 0 11 < w.toNat → Does (.pcapWindow w) s (fun t =>
    t.regF rPower 0 16 = w.toNat ∧ t.regF rPower 16 16 = max w.toNat (s.regF rPower 16 16) ∧ t.regBit rPrinStatus 2 = true ∧
    t.bell.gated = true ∧ t.prin.capped = true ∧ (s.prin.capped = true → t.regBit rPrinStatus 3 = true))) ∧
  (∀ (w : BitVec 16) (s : State), s.ready 1 = true → w.toNat ≤ s.regF rPcap 0 11 → Does (.pcapWindow w) s (fun t =>
    t.regF rPower 0 16 = w.toNat ∧ t.prin.capped = false ∧
    (w.toNat * 100 < s.regF rPcap 0 11 * 95 → t.regBit rPrinStatus 2 = false ∧ t.regBit rPrinStatus 3 = false) ∧
    (s.regF rPcap 0 11 * 95 ≤ w.toNat * 100 → t.regBit rPrinStatus 2 = s.regBit rPrinStatus 2 ∧ t.regBit rPrinStatus 3 = s.regBit rPrinStatus 3) ∧
    OnlyRegs s { t with prin := s.prin } [rPower, rPrinStatus]))

/-- The mailbox and the Gradebook (R446, R594 to R597, R600 to R604, R544): a command while one runs, one that waits for the
Principal, and the result of each. Where a command comes in a state for which the spec gives it no effect, nothing changes:
the model's choice (log 2). It rests in part on choices of the model: log 70, log 71, log 72. -/
def Obligations.PrincipalMailbox : Prop :=
  let quiet : State → Prop := fun s => s.recovery = false ∧ s.ready 1 = true ∧ s.regBit rPrinStatus 0 = false ∧ s.behindGateway = false ∧
    s.gb.waits = [] ∧ ∀ p : OptPort, (s.opt p.val).recalWait = false
  let ends : Nat → State → Prop := fun code t => t.regF rPrinResult 0 8 = code ∧ t.regBit rPrinStatus 0 = false
  let all : List (Instr × PrinCmd) := [(.gbExport, .gbExport), (.gbImport, .gbImport), (.gbCommit, .gbCommit), (.fwChunk, .fwChunk),
    (.fwPrefer, .fwPrefer), (.svnRaise, .svnRaise)]
  (∀ c ∈ all, ∀ s : State, s.regBit rPrinStatus 0 = true → Does c.1 s (fun t => t.regBit rPrinStatus 7 = true ∧ OnlyRegs s t [rPrinStatus])) ∧
  (∀ c ∈ all, ∀ s : State, s.regBit rPrinStatus 0 = false → s.ready 1 = false → s.recovery = false → Does c.1 s (fun t =>
    t.prin.waits = s.prin.waits ++ [c.2] ∧ t.regBit rPrinStatus 0 = true ∧ t.regBit rSecStatus 8 = true ∧
    OnlyRegs s { t with prin := s.prin } [rPrinStatus, rSecStatus])) ∧
  (∀ s : State, quiet s → (s.arg 0).toNat ≤ s.svn.toNat → Does .svnRaise s (fun t => ends 7 t ∧ t.svn = s.svn ∧
    t.regF rPrinResult 32 32 = s.svn.toNat % 2 ^ 32)) ∧
  (∀ s : State, quiet s → s.svn.toNat < (s.arg 0).toNat → Does .svnRaise s (fun t => ends 0 t ∧ t.svn = s.arg 0)) ∧
  (∀ s : State, quiet s → Does .fwPrefer s (fun t => ends 0 t ∧ t.prin.prefer = some ((s.arg 0).getLsbD 0) ∧
    t.regF rPrinResult 32 32 = ((s.arg 0).getLsbD 0).toNat)) ∧
  (∀ s : State, quiet s → ((s.arg 1).toNat = 0 ∨ 32768 < (s.arg 1).toNat) → Does .fwChunk s (fun t => ends 2 t ∧ t.prin.image = s.prin.image)) ∧
  (∀ s : State, quiet s → 1 ≤ (s.arg 1).toNat → (s.arg 1).toNat ≤ 32768 → (s.arg 2).getLsbD 0 = false → Does .fwChunk s (fun t => ends 0 t ∧
    ∀ i, i < (s.arg 1).toNat → tget noByte t.prin.image ((s.arg 0).toNat + i) = some (s.bufByte i))) ∧
  (∀ s : State, quiet s → 1 ≤ (s.arg 1).toNat → (s.arg 1).toNat ≤ 32768 → (s.arg 2).getLsbD 0 = true → Does .fwChunk s (fun t =>
    t.prin.image = [] ∧ t.regBit rPrinStatus 0 = false ∧ ∃ im, tget (fun _ => none) t.prin.loaded (!s.prin.bank).toNat = some im ∧
      t.regF rPrinResult 0 8 = (if s.imageOk im then 0 else if imageSignedOk im then 5 else 4) ∧
      t.prin.prefer = some (if s.imageOk im then !s.prin.bank else s.prin.bank))) ∧
  (∀ s : State, quiet s → Does .gbCommit s (fun t => ends 0 t ∧ t.gb.pending = [] ∧ t.regF rCalStatus 8 5 = 0 ∧
    t.regF rPrinResult 32 32 = (s.gb.pending.filterMap (fun e => e.2.map (fun x => (e.1, x)))).length % 2 ^ 32)) ∧
  (∀ s : State, quiet s → (s.arg 0).toNat % 64 ≠ 0 → Does .gbExport s (fun t => ends 2 t ∧ SameMemory s t)) ∧
  (∀ s : State, quiet s → (s.arg 0).toNat % 64 = 0 → s.poolServed = true → exec .gbExport s = .next (
    if s.gbImage.length ≤ (s.arg 1).toNat ∧ s.generalRange (s.arg 0).toNat s.gbImage.length = true then
      (((s.setRegBit rPrinStatus 0 true).poke (s.arg 0).toNat s.gbImage).setRegBit rCalStatus 16 true).mailEnd 0 (some s.gbImage.length)
    else (s.setRegBit rPrinStatus 0 true).mailFail 2)) ∧
  (∀ s : State, quiet s → Does .gbImport s (fun t => ∃ o, o = s.importCheck ∧
    (∀ c, o = .inl c → ends c t ∧ t.regF rPrinResult 32 32 = 0 ∧ t.gb = s.gb) ∧
    (∀ es, o = .inr es → ends 0 t ∧ t.regF rPrinResult 32 32 =
        (es.filter (fun e => decide (1 ≤ e.1) && (s.arg 2).getLsbD (e.1 - 1))).length % 2 ^ 32))) ∧
  (∀ s : State, quiet s → ((s.arg 0).toNat % 64 ≠ 0 ∨ (s.arg 1).toNat < 128) → s.importCheck = .inl 2) ∧
  (∀ s : State, (s.arg 0).toNat % 64 = 0 → 128 ≤ (s.arg 1).toNat → s.generalRange (s.arg 0).toNat (s.arg 1).toNat = true →
    s.poolServed = false → s.importCheck = .inl 7) ∧
  (∀ (b : Byte) (s : State), quiet s → Does (.prinCmdUnknown b) s (fun t => ends 7 t ∧ t.regF rPrinResult 32 32 = s.regF rPrinResult 32 32)) ∧
  (∀ s : State, s.ready 1 = true → s.regBit rPrinStatus 0 = false → Does .calCommitTimer s (fun t => t.gb.pending = [] ∧
    t.regF rCalStatus 8 5 = 0 ∧ OnlyRegs s { t with gb := s.gb } [rCalStatus])) ∧
  (∀ s : State, (s.ready 1 = false ∨ s.regBit rPrinStatus 0 = true) → exec .calCommitTimer s = .next s) ∧
  (∀ (p : Fin 4) (s : State), ((s.strict = false ∧ s.planOf p ≠ none) ∨ s.regBit rPrinStatus 0 = true ∨ s.omu.recalAt = some s.lesson) →
    exec (.prismRecalibration p) s = .next s) ∧
  (∀ (p : Fin 4) (s : State), (s.strict = true ∨ s.planOf p = none) → s.regBit rPrinStatus 0 = false → s.omu.recalAt ≠ some s.lesson →
    Does (.prismRecalibration p) s (fun t => t.omu.recalAt = some s.lesson ∧ (t.prism p).unlocked = false ∧
      (∃ e, tget (fun _ => none) t.gb.pending p.val = some e ∧ e.origin = 2 ∧ e.lesson = s.lesson) ∧
      t.regF rCalLast (16 * p.val) 16 = s.lesson.toNat % 2 ^ 16 ∧ t.regBit rCalStatus 10 = true ∧ t.regBit (prismStat p) 1 = true))

/-- A short body (R32): such a write of BELL.LESSON_LEN or BELL.GUARD is ignored, and BELL.STATUS.CFG_ERR is set. -/
def Obligations.ShortBodies : Prop :=
  ∀ (v : BitVec 64) (s : State), s.recovery = false →
    (33 * fget v 0 17 < 512 + s.regF rGuard 0 17 + 1024 → Does (.bellLessonLenWrite v) s (fun t =>
      t.reg rLessonLen = s.reg rLessonLen ∧ t.reg rGuard = s.reg rGuard ∧ t.regBit rBellStatus 1 = true ∧ OnlyRegs s t [rBellStatus])) ∧
    (33 * s.regF rLessonLen 0 17 < 512 + fget v 0 17 + 1024 → Does (.bellGuardWrite v) s (fun t =>
      t.reg rLessonLen = s.reg rLessonLen ∧ t.reg rGuard = s.reg rGuard ∧ t.regBit rBellStatus 1 = true ∧ OnlyRegs s t [rBellStatus]))

/-- Reserve ports (R488): a write that would give more than 8 of ports 0 to 63 RESERVE = 1 is ignored and sets CFG_ERR, and only
a reserve port enters deep sleep. -/
def Obligations.ReservePorts : Prop :=
  let reserves : State → Nat := fun s => ((List.range 64).filter (fun q => s.elecBit q ecReserve)).length
  (∀ (p : Fin 64) (s : State), s.recovery = false → s.elecBit p.val ecReserve = false → 8 ≤ reserves s →
    Does (.elecCtlReserveWrite p true) s (fun t => reserves t = reserves s ∧ t.elecFlag p.val 15 = true ∧
      OnlyRegs s t [linkReg p.val lStatus])) ∧
  (∀ (p : Fin 64) (s : State), s.recovery = false → s.elecBit p.val ecReserve = false → reserves s < 8 →
    Does (.elecCtlReserveWrite p true) s (fun t => reserves t = reserves s + 1 ∧ t.elecBit p.val ecReserve = true)) ∧
  (∀ (p : Fin 64) (s : State), s.recovery = false → s.elecBit p.val ecReserve = false → s.elecBit p.val ecDeep = false →
    Does (.elecCtlDeepEnter p) s (fun t => t.elecBit p.val ecDeep = false ∧ t.elecState p.val = s.elecState p.val))

/-- R198: a write that would make SWC.WIN_TIMEOUT less than (LIMIT + 1) × RTX_TIMEOUT, whichever of the two registers it is to,
is ignored, and SWC.RT_STATUS.CFG_ERR is set. -/
def Obligations.WindowTimeout : Prop :=
  ∀ (v : BitVec 64) (s : State), s.recovery = false →
    (fget v 0 14 < (s.regF rRtx 32 3 + 1) * s.regF rRtx 0 10 → Does (.swcWinTimeoutWrite v) s (fun t =>
      t.reg rWinTimeout = s.reg rWinTimeout ∧ t.regBit rRtStatus 3 = true ∧ OnlyRegs s t [rRtStatus, rCfgStatus])) ∧
    (s.regF rWinTimeout 0 14 < (fget v 32 3 + 1) * fget v 0 10 → Does (.swcRtxWrite v) s (fun t =>
      t.reg rRtx = s.reg rRtx ∧ t.regBit rRtStatus 3 = true ∧ OnlyRegs s t [rRtStatus, rCfgStatus]))

/-- A step runs the command at the front of the queue on the state with the queue's rest; on an empty queue one tick of time
passes (the model's choice, log 1): Desks read Slate words and routers admit what waits, and where no Desk has an access
nothing else changes. It rests in part on choices of the model: log 1, log 82. -/
def Obligations.StepRunsFront : Prop :=
  (∀ (c : Instr) (rest : List Instr) (s : State), s.pending = c :: rest → step s = exec c { s with pending := rest }) ∧
  (∀ s : State, s.pending = [] → step s = .next s.idle) ∧
  (∀ s : State, s.pending = [] → (∀ e ∈ s.desks, (s.desk e.1).left = [] ∧ ∀ x ∈ (s.desk e.1).seats.toList, x.acc = []) →
    step s = .next { s with now := s.now + 1 }) ∧
  (∀ s t : State, s.pending = [] → step s = .next t → t.now = s.now + 1 ∧ t.pending = [])

/-- The state after reset: both memories in canonical form, nothing waiting and nothing sent, and registers at the values their
chapters give (R9, R31, R50, R56, R60, R217, R223, R564, R580). It rests in part on choices of the model: log 5, log 14, log
15. -/
def Obligations.ResetState : Prop :=
  State.reset.memOk = true ∧ State.reset.queueOk = true ∧ State.reset.pending = [] ∧ State.reset.out = [] ∧
  (∀ a, State.reset.byte a = 0) ∧ (∀ a, State.reset.reg a = regReset a) ∧
  State.reset.regF rLessonLen 0 17 = 1000 ∧ State.reset.regF rGuard 0 17 = 1024 ∧ State.reset.regF rLead 0 10 = 400 ∧
  State.reset.regBit rBellCtl 0 = true ∧ State.reset.regF rOvrLimit 0 8 = 3 ∧ State.reset.regF rOvfOn 0 19 = 32768 ∧
  State.reset.regF rAgeLimit 0 17 = 2000 ∧ State.reset.regF rWinTimeout 0 14 = 200 ∧ State.reset.regF rRtx 0 10 = 40 ∧
  State.reset.regF rDrainTimeout 0 14 = 200 ∧ State.reset.regF rRstEsc 0 4 = 4 ∧ State.reset.regF rPcap 0 11 = 1800 ∧
  State.reset.regF rTherm 0 8 = 95 ∧ State.reset.strict = false ∧ State.reset.recovery = false ∧
  (∀ d : Fin 3, State.reset.fenced d.val = false)

/-- Register writes (R543, R608, R645): one that fits is performed on its word, one that does not is an Unsupported Request, one
that names a reserved code stops; in the recovery state every write outside the PRIN and SEC blocks is an Unsupported
Request; a write over a DEP-7's port CF is of one register of its window (log 81). Where a command comes in a state for
which the spec gives it no effect, nothing changes: the model's choice (log 2). It rests in part on choices of the model:
log 16, log 30, log 32, log 81. -/
def Obligations.RegisterWrites : Prop :=
  (∀ (a : BitVec 26) (d : List Byte) (s : State), writeWords a.toNat d = none → exec (.registerWrite (.bar0 a) d) s = .next (s.emit (.aer .unsupported))) ∧
  (∀ (a : BitVec 26) (d : List Byte) (s : State), s.bar0Open a.toNat = false → exec (.registerWrite (.bar0 a) d) s = .next (s.emit (.aer .unsupported))) ∧
  (∀ (a : BitVec 26) (d : List Byte) (s : State), d.length = 8 → a.toNat % 8 = 0 → s.bar0Open a.toNat = true →
    s.reservedWrite a.toNat (BitVec.ofNat 64 (leNat d)) allBits = false →
    exec (.registerWrite (.bar0 a) d) s = .next (s.writeReg s.node.toNat a.toNat (BitVec.ofNat 64 (leNat d)) allBits)) ∧
  (∀ (a : BitVec 26) (d : List Byte) (s : State), d.length = 8 → a.toNat % 8 = 0 → s.bar0Open a.toNat = true →
    s.reservedWrite a.toNat (BitVec.ofNat 64 (leNat d)) allBits = true → exec (.registerWrite (.bar0 a) d) s = .fault .reservedCode) ∧
  (∀ (a : BitVec 26) (d : List Byte), d.length % 4 ≠ 0 ∨ 64 < d.length ∨ a.toNat % 4 ≠ 0 → writeWords a.toNat d = none) ∧
  (∀ (p : Fin 64) (a : BitVec 18) (d : List Byte) (s : State), (d.length ≠ 8 ∨ a.toNat % 8 ≠ 0) →
    exec (.registerWrite (.cf p a) d) s = .next s) ∧
  (∀ (p : Fin 64) (a : BitVec 18) (d : List Byte) (s : State), d.length = 8 → a.toNat % 8 = 0 →
    exec (.registerWrite (.cf p a) d) s = .next (s.writeEp p.val a.toNat (BitVec.ofNat 64 (leNat d)))) ∧
  (∀ (p : Fin 64) (v : BitVec 64) (s : State), Does (.registerWrite (.cf p (BitVec.ofNat 18 eExpose)) (leBytes 8 v.toNat)) s (fun t =>
    t.ep p.val eExpose = (if v.toNat % 2 ^ 21 = 0 ∧ v.toNat ≤ 2 ^ 44 then v else s.ep p.val eExpose) ∧ OnlyDeps s t)) ∧
  (∀ (p : Fin 64) (v : BitVec 64) (s : State), Does (.registerWrite (.cf p (BitVec.ofNat 18 eIntStatus)) (leBytes 8 v.toNat)) s (fun t =>
    t.ep p.val eIntStatus = s.ep p.val eIntStatus &&& ~~~(v &&& (epSpec eIntStatus).w1c) ∧ OnlyDeps s t)) ∧
  (∀ c : Instr, bar0Row c = true → RefusedInRecovery c) ∧
  (∀ (c : Instr) (s : State), (∀ a d, c ≠ .registerWrite a d) → (∀ r, c ≠ .stRequest r) → ∃ t, exec c s = .next t)

/-- Both memories stay in canonical form: every step from every state keeps them so. It rests in part on choices of the model:
log 5, log 6. -/
def Obligations.MemoryStaysCanonical : Prop :=
  ∀ s t : State, s.memOk = true → step s = .next t → t.memOk = true

/-- The fused security version never falls (R544): no step of any state lowers it, so an image refused for its version stays
refused. It rests in part on choices of the model: log 7. -/
def Obligations.SecurityVersionNeverFalls : Prop :=
  ∀ s t : State, step s = .next t → s.svn.toNat ≤ t.svn.toNat ∧
    ∀ im : List Byte, (t.imageOk im && decide ((Config.imageSvn im).toNat < s.svn.toNat)) = false

/-- What the block has sent stays sent, no command touches the queue or the time, and the draw counter of free values never goes
back. It rests in part on choices of the model: log 1, log 3, log 7. -/
def Obligations.OutputsOnlyGrow : Prop :=
  ∀ (c : Instr) (s t : State), exec c s = .next t → (∃ l, t.out = l ++ s.out) ∧ t.pending = s.pending ∧ t.now = s.now ∧ s.freeCtr ≤ t.freeCtr
end

