-- ==== Sys2Proof/Laws/Tab.lean ====
section
/-! SUPPORT. Laws of the sparse tables and of register fields: reading after writing, the canonical form. -/

namespace Sys2Proof.Machine

variable {α : Type}

theorem tget_terase_ne (d : Nat → α) (t : Tab α) (k j : Nat) (h : j ≠ k) : tget d (terase t k) j = tget d t j := by
  induction t with
  | nil => rfl
  | cons e r ih =>
    obtain ⟨k', v'⟩ := e
    by_cases hk : k' = k
    · subst hk; simp [terase, tget, ih, Ne.symm h]
    · simp [terase, tget, hk, ih]

theorem tget_terase_self (d : Nat → α) (t : Tab α) (k : Nat) : tget d (terase t k) k = d k := by
  induction t with
  | nil => rfl
  | cons e r ih =>
    obtain ⟨k', v'⟩ := e
    by_cases hk : k' = k
    · simp [terase, hk, ih]
    · simp [terase, tget, hk, ih]

/-- Reading a table after a write of one key. -/
@[simp] theorem tget_tput [DecidableEq α] (d : Nat → α) (t : Tab α) (k : Nat) (v : α) (j : Nat) :
    tget d (tput d t k v) j = if k = j then v else tget d t j := by
  induction t with
  | nil => by_cases hv : v = d k <;> by_cases hj : k = j <;> simp_all [tput, tget]
  | cons e r ih =>
    obtain ⟨k', v'⟩ := e
    simp only [tput]
    by_cases hj : k = j
    · subst hj
      by_cases h1 : k < k'
      · have h2 : k' ≠ k := by omega
        by_cases hv : v = d k <;> simp [h1, hv, h2, tget, tget_terase_self]
      · by_cases h2 : k' = k
        · simp [h2, ih]
        · simp [h1, h2, tget, ih]
    · by_cases h1 : k < k'
      · by_cases hv : v = d k <;> simp [h1, hv, hj, tget, tget_terase_ne d r k j (Ne.symm hj)]
      · by_cases h2 : k' = k
        · subst h2; simp [tget, ih, hj]
        · simp [h1, h2, tget, ih, hj]

/-- Reading a table after a range has gone back to its default. -/
@[simp] theorem tget_tclear (d : Nat → α) (t : Tab α) (lo hi j : Nat) :
    tget d (tclear t lo hi) j = if lo ≤ j ∧ j < hi then d j else tget d t j := by
  unfold tclear
  induction t with
  | nil => simp [tget]
  | cons e r ih =>
    obtain ⟨k', v'⟩ := e
    by_cases hk : lo ≤ k' ∧ k' < hi
    · have : (decide (k' < lo) || decide (hi ≤ k')) = false := by simp; omega
      simp only [List.filter_cons, this, Bool.false_eq_true, if_false, ih, tget]
      by_cases hj : lo ≤ j ∧ j < hi
      · simp [hj]
      · have : k' ≠ j := by rintro rfl; exact hj hk
        simp [hj, this]
    · have : (decide (k' < lo) || decide (hi ≤ k')) = true := by simp; omega
      simp only [List.filter_cons, this, if_true, ih, tget]
      by_cases hj : k' = j
      · subst hj; simp [hk]
      · simp [hj]

/-- The canonical form in one line: keys rise, and no entry equals its default. -/
theorem tableOk_cons [DecidableEq α] (d : Nat → α) (k : Nat) (v : α) (r : Tab α) :
    tableOk d ((k, v) :: r) = true ↔ v ≠ d k ∧ (∀ e ∈ r, k < e.1) ∧ tableOk d r = true := by
  simp [tableOk, and_assoc]

theorem tableOk_filter [DecidableEq α] (d : Nat → α) (p : Nat × α → Bool) (t : Tab α) (h : tableOk d t = true) :
    tableOk d (t.filter p) = true := by
  induction t with
  | nil => rfl
  | cons e r ih =>
    obtain ⟨k, v⟩ := e
    obtain ⟨hv, hk, hr⟩ := (tableOk_cons d k v r).mp h
    rw [List.filter_cons]
    split
    · exact (tableOk_cons d k v _).mpr ⟨hv, fun e he => hk e (List.mem_filter.mp he).1, ih hr⟩
    · exact ih hr

theorem mem_terase (t : Tab α) (k : Nat) (e : Nat × α) (h : e ∈ terase t k) : e ∈ t := by
  induction t with
  | nil => exact h
  | cons x r ih =>
    obtain ⟨k', v'⟩ := x
    simp only [terase] at h
    split at h
    · exact List.mem_cons_of_mem _ (ih h)
    · rcases List.mem_cons.mp h with rfl | h
      · exact List.mem_cons_self ..
      · exact List.mem_cons_of_mem _ (ih h)

theorem tableOk_terase [DecidableEq α] (d : Nat → α) (t : Tab α) (k : Nat) (h : tableOk d t = true) :
    tableOk d (terase t k) = true := by
  induction t with
  | nil => rfl
  | cons x r ih =>
    obtain ⟨k', v'⟩ := x
    obtain ⟨hv, hk, hr⟩ := (tableOk_cons d k' v' r).mp h
    simp only [terase]
    split
    · exact ih hr
    · exact (tableOk_cons d k' v' _).mpr ⟨hv, fun e he => hk e (mem_terase r k e he), ih hr⟩

theorem mem_tput [DecidableEq α] (d : Nat → α) (t : Tab α) (k : Nat) (v : α) (e : Nat × α) (h : e ∈ tput d t k v) :
    e = (k, v) ∨ e ∈ t := by
  induction t with
  | nil => simp only [tput] at h; split at h <;> simp_all
  | cons x r ih =>
    obtain ⟨k', v'⟩ := x
    simp only [tput] at h
    split at h
    · split at h
      · rcases List.mem_cons.mp h with rfl | h
        · exact .inr (List.mem_cons_self ..)
        · exact .inr (List.mem_cons_of_mem _ (mem_terase r k e h))
      · rcases List.mem_cons.mp h with rfl | h
        · exact .inl rfl
        · rcases List.mem_cons.mp h with rfl | h
          · exact .inr (List.mem_cons_self ..)
          · exact .inr (List.mem_cons_of_mem _ (mem_terase r k e h))
    · split at h
      · rcases ih h with h | h
        · exact .inl h
        · exact .inr (List.mem_cons_of_mem _ h)
      · rcases List.mem_cons.mp h with rfl | h
        · exact .inr (List.mem_cons_self ..)
        · rcases ih h with h | h
          · exact .inl h
          · exact .inr (List.mem_cons_of_mem _ h)

/-- A write keeps the canonical form. -/
theorem tableOk_tput [DecidableEq α] (d : Nat → α) (t : Tab α) (k : Nat) (v : α) (h : tableOk d t = true) :
    tableOk d (tput d t k v) = true := by
  induction t with
  | nil => simp only [tput]; split <;> simp_all [tableOk]
  | cons x r ih =>
    obtain ⟨k', v'⟩ := x
    obtain ⟨hv', hk', hr⟩ := (tableOk_cons d k' v' r).mp h
    have he : tableOk d ((k', v') :: terase r k) = true :=
      (tableOk_cons d k' v' _).mpr ⟨hv', fun e he => hk' e (mem_terase r k e he), tableOk_terase d r k hr⟩
    simp only [tput]
    split
    · rename_i hlt
      split
      · exact he
      · rename_i hv
        refine (tableOk_cons d k v _).mpr ⟨hv, ?_, he⟩
        intro e hm
        rcases List.mem_cons.mp hm with rfl | hm
        · exact hlt
        · exact lt_trans hlt (hk' e (mem_terase r k e hm))
    · split
      · exact ih hr
      · refine (tableOk_cons d k' v' _).mpr ⟨hv', ?_, ih hr⟩
        intro e hm
        rcases mem_tput d r k v e hm with rfl | hm
        · show k' < k; omega
        · exact hk' e hm

/-- Clearing a range keeps the canonical form. -/
theorem tableOk_tclear [DecidableEq α] (d : Nat → α) (t : Tab α) (lo hi : Nat) (h : tableOk d t = true) :
    tableOk d (tclear t lo hi) = true := tableOk_filter d _ t h

/-! ### Register fields -/

/-- The later of two writes of one key stands. -/
theorem tput_tput [DecidableEq α] (d : Nat → α) (t : Tab α) (k : Nat) (u v : α) :
    tput d (tput d t k u) k v = tput d t k v := by
  have key : ∀ t : Tab α, tput d (terase t k) k v = tput d t k v := by
    intro t; induction t with
    | nil => rfl
    | cons e r ih =>
      obtain ⟨k', v'⟩ := e
      by_cases h2 : k' = k
      · subst h2; simp [terase, tput, ih]
      · simp only [terase, h2, if_false, tput]
        have ee : ∀ r : Tab α, terase (terase r k) k = terase r k := by
          intro r; induction r with
          | nil => rfl
          | cons e r ih => obtain ⟨a, b⟩ := e; by_cases h : a = k <;> simp [terase, h, ih]
        simp [ee, ih]
  have ee : ∀ r : Tab α, terase (terase r k) k = terase r k := by
    intro r; induction r with
    | nil => rfl
    | cons e r ih => obtain ⟨a, b⟩ := e; by_cases h : a = k <;> simp [terase, h, ih]
  induction t with
  | nil => by_cases h : u = d k <;> by_cases h' : v = d k <;> simp [tput, h, h']
  | cons e r ih =>
    obtain ⟨k', v'⟩ := e
    simp only [tput]
    by_cases h1 : k < k'
    · have h2 : k' ≠ k := by omega
      by_cases h : u = d k <;> by_cases h' : v = d k <;> simp [h1, h, h', tput, ee]
    · by_cases h2 : k' = k
      · simp [h2, ih]
      · simp [h1, h2, tput, ih]

/-- The number that a register holds after a field of it is written. -/
theorem fset_toNat (w : Word) (lo len v : Nat) (h : lo + len ≤ 64) :
    (fset w lo len v).toNat = w.toNat % 2 ^ lo + (v % 2 ^ len) * 2 ^ lo + w.toNat / 2 ^ (lo + len) * 2 ^ (lo + len)
      ∧ w.toNat % 2 ^ lo + (v % 2 ^ len) * 2 ^ lo < 2 ^ (lo + len) := by
  have hw := w.isLt
  have e1 : (2:Nat) ^ (lo + len) = 2 ^ lo * 2 ^ len := by rw [Nat.pow_add]
  have h64 : (2:Nat) ^ 64 = 2 ^ (lo + len) * 2 ^ (64 - (lo + len)) := by rw [← Nat.pow_add]; congr 1; omega
  have hA' : w.toNat % 2 ^ lo < 2 ^ lo := Nat.mod_lt _ (Nat.two_pow_pos lo)
  have hB' : v % 2 ^ len < 2 ^ len := Nat.mod_lt _ (Nat.two_pow_pos len)
  have hC' : w.toNat / 2 ^ (lo + len) < 2 ^ (64 - (lo + len)) := by
    rw [Nat.div_lt_iff_lt_mul (Nat.two_pow_pos _), Nat.mul_comm, ← h64]; exact hw
  unfold fset
  generalize w.toNat % 2 ^ lo = A at *
  generalize v % 2 ^ len = B at *
  generalize w.toNat / 2 ^ (lo + len) = C at *
  have hlow : A + B * 2 ^ lo < 2 ^ (lo + len) := by
    have h1 : A + B * 2 ^ lo < (B + 1) * 2 ^ lo := by rw [Nat.add_mul]; omega
    have h2 : (B + 1) * 2 ^ lo ≤ 2 ^ len * 2 ^ lo := Nat.mul_le_mul_right _ hB'
    rw [e1, Nat.mul_comm (2 ^ lo)]; omega
  refine ⟨?_, hlow⟩
  have h2 : (C + 1) * 2 ^ (lo + len) ≤ 2 ^ (64 - (lo + len)) * 2 ^ (lo + len) := Nat.mul_le_mul_right _ hC'
  rw [Nat.mul_comm (2 ^ (64 - (lo + len))), ← h64, Nat.add_mul] at h2
  rw [BitVec.toNat_ofNat, Nat.mod_eq_of_lt (by omega)]

theorem fget_eq (w : Word) (lo len : Nat) : fget w lo len = w.toNat % 2 ^ (lo + len) / 2 ^ lo := by
  rw [fget, Nat.pow_add, Nat.mod_mul_right_div_self]

/-- A field reads as what was written to it. -/
theorem fget_fset_same (w : Word) (lo len v : Nat) (h : lo + len ≤ 64) : fget (fset w lo len v) lo len = v % 2 ^ len := by
  obtain ⟨e, hl⟩ := fset_toNat w lo len v h
  have hA' : w.toNat % 2 ^ lo < 2 ^ lo := Nat.mod_lt _ (Nat.two_pow_pos lo)
  rw [fget_eq, e, Nat.add_mul_mod_self_right, Nat.mod_eq_of_lt hl, Nat.add_mul_div_right _ _ (Nat.two_pow_pos lo),
    Nat.div_eq_of_lt hA', Nat.zero_add]

/-- A field below one that is written keeps its value. -/
theorem fget_fset_below (w : Word) (lo len v lo' len' : Nat) (h : lo + len ≤ 64) (hb : lo' + len' ≤ lo) :
    fget (fset w lo len v) lo' len' = fget w lo' len' := by
  obtain ⟨e, -⟩ := fset_toNat w lo len v h
  have hd : (2:Nat) ^ (lo' + len') ∣ 2 ^ lo := Nat.pow_dvd_pow 2 hb
  have hm : (fset w lo len v).toNat % 2 ^ lo = w.toNat % 2 ^ lo := by
    rw [e, Nat.pow_add]
    have : w.toNat % 2 ^ lo + v % 2 ^ len * 2 ^ lo + w.toNat / (2 ^ lo * 2 ^ len) * (2 ^ lo * 2 ^ len)
        = w.toNat % 2 ^ lo + 2 ^ lo * (v % 2 ^ len + w.toNat / (2 ^ lo * 2 ^ len) * 2 ^ len) := by ring
    rw [this, Nat.add_mul_mod_self_left, Nat.mod_mod]
  rw [fget_eq, fget_eq, ← Nat.mod_mod_of_dvd _ hd, hm, Nat.mod_mod_of_dvd _ hd]

/-- A field above one that is written keeps its value. -/
theorem fget_fset_above (w : Word) (lo len v lo' len' : Nat) (h : lo + len ≤ 64) (hb : lo + len ≤ lo') :
    fget (fset w lo len v) lo' len' = fget w lo' len' := by
  obtain ⟨e, hl⟩ := fset_toNat w lo len v h
  have hm : (fset w lo len v).toNat / 2 ^ (lo + len) = w.toNat / 2 ^ (lo + len) := by
    rw [e, Nat.add_mul_div_right _ _ (Nat.two_pow_pos _), Nat.div_eq_of_lt hl, Nat.zero_add]
  have hp : (2:Nat) ^ lo' = 2 ^ (lo + len) * 2 ^ (lo' - (lo + len)) := by rw [← Nat.pow_add]; congr 1; omega
  rw [fget, fget, hp, ← Nat.div_div_eq_div_mul, ← Nat.div_div_eq_div_mul, hm]

end Sys2Proof.Machine
end

