-- ==== Sys2Proof/Laws/Keeps.lean ====
section
/-! SUPPORT. What no operation of the block undoes: the relation Keeps between the state before an operation and the state
after it, and the rules by which it goes through the constructs of the model. -/

namespace Sys2Proof.Machine

/-- What every operation keeps: the queue of commands and the time stand, both memories stay in canonical form, the fused
security version does not fall (R595), what the block has sent stays sent, and no free value is drawn twice. -/
structure Keeps (s t : State) : Prop where
  queue : t.pending = s.pending
  now   : t.now = s.now
  mem   : Memory.wf s.mem = true → Memory.wf t.mem = true
  host  : Memory.wf s.hostMem = true → Memory.wf t.hostMem = true
  svn   : s.svn.toNat ≤ t.svn.toNat
  out   : s.out <:+ t.out
  draws : s.freeCtr ≤ t.freeCtr

theorem putHost_wf (m : List Host.Cell) (x : Nat) (l : List Byte) (h : Memory.wf m = true) : Memory.wf (putHost m x l) = true := by
  induction l generalizing m x with
  | nil => exact h
  | cons b r ih => exact ih _ _ (tableOk_tput memDefault m x b h)

namespace Keeps

theorem refl (s : State) : Keeps s s :=
  ⟨rfl, rfl, id, id, Nat.le_refl _, List.suffix_refl _, Nat.le_refl _⟩

theorem trans {a b c : State} (h : Keeps a b) (k : Keeps b c) : Keeps a c :=
  ⟨k.queue.trans h.queue, k.now.trans h.now, fun x => k.mem (h.mem x), fun x => k.host (h.host x),
    Nat.le_trans h.svn k.svn, h.out.trans k.out, Nat.le_trans h.draws k.draws⟩

/-- A record update that leaves alone the seven fields Keeps speaks of. -/
theorem upd {a s t : State} (h : Keeps a s) (h1 : t.pending = s.pending) (h2 : t.now = s.now) (h3 : t.mem = s.mem)
    (h4 : t.hostMem = s.hostMem) (h5 : t.prin.svn = s.prin.svn) (h6 : t.out = s.out) (h7 : t.freeCtr = s.freeCtr) :
    Keeps a t :=
  h.trans ⟨h1, h2, fun x => h3 ▸ x, fun x => h4 ▸ x, by simp [State.svn, h5], h6 ▸ List.suffix_refl _, h7 ▸ Nat.le_refl _⟩

/-- The same, in the form in which a record update appears. -/
theorem lit {a s : State} (h : Keeps a s) {regs latch bell fab coh coll desks rooms plan xl strms g7m deps sec host seeds omu opts gb elecs rst prin}
    (e : (prin : Prin).svn = s.prin.svn) :
    Keeps a (State.mk s.pending s.now s.freeCtr regs latch s.mem s.hostMem s.out bell fab coh coll desks rooms plan xl strms
      g7m deps sec host seeds omu opts gb elecs rst prin) :=
  upd h rfl rfl rfl rfl e rfl rfl

/-- The same with free values drawn. -/
theorem litDraw {a s : State} (h : Keeps a s) {n : Nat} {regs latch bell fab coh coll desks rooms plan xl strms g7m deps sec host seeds omu opts gb elecs rst prin}
    (e : (prin : Prin).svn = s.prin.svn) :
    Keeps a (State.mk s.pending s.now (s.freeCtr + n) regs latch s.mem s.hostMem s.out bell fab coh coll desks rooms plan xl strms
      g7m deps sec host seeds omu opts gb elecs rst prin) :=
  h.trans { queue := rfl, now := rfl, mem := id, host := id, svn := by simp [State.svn, e], out := List.suffix_refl _, draws := Nat.le_add_right _ _ }

/-- The same with a write to host memory. -/
theorem litHost {a s : State} (h : Keeps a s) {x : Nat} {l : List Byte} {regs latch bell fab coh coll desks rooms plan xl strms g7m deps sec host seeds omu opts gb elecs rst prin}
    (e : (prin : Prin).svn = s.prin.svn) :
    Keeps a (State.mk s.pending s.now s.freeCtr regs latch s.mem (putHost s.hostMem x l) s.out bell fab coh coll desks rooms plan xl
      strms g7m deps sec host seeds omu opts gb elecs rst prin) :=
  h.trans { queue := rfl, now := rfl, mem := id, host := putHost_wf _ _ _, svn := by simp [State.svn, e],
            out := List.suffix_refl _, draws := Nat.le_refl _ }

theorem ite {a s t : State} {c : Prop} [Decidable c] (h : Keeps a s) (k : Keeps a t) : Keeps a (if c then s else t) := by
  split <;> assumption

theorem dite {a : State} {c : Prop} [Decidable c] {s : c → State} {t : ¬ c → State} (h : ∀ x, Keeps a (s x))
    (k : ∀ x, Keeps a (t x)) : Keeps a (if x : c then s x else t x) := by
  split
  · exact h _
  · exact k _

theorem getD {a d : State} {o : Option State} (ho : ∀ t, o = some t → Keeps a t) (hd : Keeps a d) : Keeps a (o.getD d) := by
  cases o with
  | none => exact hd
  | some t => exact ho t rfl

theorem foldl {α : Type} {a : State} {op : State → α → State} (l : List α) {s : State} (h : Keeps a s)
    (hop : ∀ t x, Keeps a t → Keeps a (op t x)) : Keeps a (l.foldl op s) := by
  induction l generalizing s with
  | nil => exact h
  | cons x r ih => exact ih (hop s x h)

end Keeps

theorem State.forAll_keeps {α : Type} {a s : State} {l : List α} {op : State → α → State} (h : Keeps a s)
    (hop : ∀ t x, Keeps a t → Keeps a (op t x)) : Keeps a (s.forAll l op) := Keeps.foldl l h hop

theorem State.setByte_keeps {a s : State} (h : Keeps a s) (x : Nat) (b : Byte) : Keeps a (s.setByte x b) :=
  h.trans { Keeps.refl s with mem := fun k => tableOk_tput memDefault s.mem x b k }

theorem State.setBytes_keeps {a s : State} (h : Keeps a s) (x : Nat) (l : List Byte) : Keeps a (s.setBytes x l) := by
  induction l generalizing s x with
  | nil => exact h
  | cons b r ih => exact ih (State.setByte_keeps h x b) (x + 1)

theorem State.zero_keeps {a s : State} (h : Keeps a s) (x n : Nat) : Keeps a (s.zero x n) :=
  h.trans { Keeps.refl s with mem := fun k => tableOk_tclear memDefault s.mem x (x + n) k }

theorem State.emit_keeps {a s : State} (h : Keeps a s) (o : Out) : Keeps a (s.emit o) :=
  h.trans { Keeps.refl s with out := List.suffix_cons o s.out }

theorem State.draw_snd_keeps {a s : State} (h : Keeps a s) : Keeps a s.draw.2 :=
  h.trans { Keeps.refl s with draws := Nat.le_succ _ }

theorem State.draw_eq_keeps {a s t : State} {n : Nat} (h : Keeps a s) (e : s.draw = (n, t)) : Keeps a t := by
  obtain ⟨-, rfl⟩ := Prod.mk.inj e
  exact h.trans { Keeps.refl s with draws := Nat.le_succ _ }

theorem State.bar0_keeps {a s : State} {k : State → State} (h : Keeps a s) (hk : ∀ t, Keeps a t → Keeps a (k t)) :
    Keeps a (s.bar0 k) := by
  unfold State.bar0
  split
  · exact State.emit_keeps h _
  · exact hk s h

end Sys2Proof.Machine
end

