-- ==== Sys2Proof/Laws/KeepsOps.lean ====
section
/-! SUPPORT. What each operation of Machine/Ops.lean keeps. -/

namespace Sys2Proof.Machine

set_option linter.unusedTactic false
set_option linter.unreachableTactic false

theorem State.setReg_keeps {a s : State} (h : Keeps a s) : ∀ x1 x2, Keeps a (State.setReg s x1 x2) := by
  intros
  unfold State.setReg
  try dsimp only
  repeat' first
    | with_reducible assumption
    | intro _
    | with_reducible apply Keeps.ite
    | with_reducible apply Keeps.foldl
    | split
    | dsimp only
    | fail_if_no_progress with_reducible refine Keeps.lit ?_ rfl
    | with_reducible refine Keeps.litDraw ?_ rfl
    | with_reducible refine Keeps.litHost ?_ rfl

theorem State.setRegF_keeps {a s : State} (h : Keeps a s) : ∀ x1 x2 x3 x4, Keeps a (State.setRegF s x1 x2 x3 x4) := by
  intros
  unfold State.setRegF
  try dsimp only
  repeat' first
    | with_reducible assumption
    | intro _
    | with_reducible apply State.setReg_keeps
    | with_reducible apply Keeps.ite
    | with_reducible apply Keeps.foldl
    | split
    | dsimp only
    | fail_if_no_progress with_reducible refine Keeps.lit ?_ rfl
    | with_reducible refine Keeps.litDraw ?_ rfl
    | with_reducible refine Keeps.litHost ?_ rfl

theorem State.setRegBit_keeps {a s : State} (h : Keeps a s) : ∀ x1 x2 x3, Keeps a (State.setRegBit s x1 x2 x3) := by
  intros
  unfold State.setRegBit
  try dsimp only
  repeat' first
    | with_reducible assumption
    | intro _
    | with_reducible apply State.setRegF_keeps
    | with_reducible apply Keeps.ite
    | with_reducible apply Keeps.foldl
    | split
    | dsimp only
    | fail_if_no_progress with_reducible refine Keeps.lit ?_ rfl
    | with_reducible refine Keeps.litDraw ?_ rfl
    | with_reducible refine Keeps.litHost ?_ rfl

theorem State.addReg_keeps {a s : State} (h : Keeps a s) : ∀ x1 x2, Keeps a (State.addReg s x1 x2) := by
  intros
  unfold State.addReg
  try dsimp only
  repeat' first
    | with_reducible assumption
    | intro _
    | with_reducible apply State.setReg_keeps
    | with_reducible apply Keeps.ite
    | with_reducible apply Keeps.foldl
    | split
    | dsimp only
    | fail_if_no_progress with_reducible refine Keeps.lit ?_ rfl
    | with_reducible refine Keeps.litDraw ?_ rfl
    | with_reducible refine Keeps.litHost ?_ rfl

theorem State.count_keeps {a s : State} (h : Keeps a s) : ∀ x1, Keeps a (State.count s x1) := by
  intros
  unfold State.count
  try dsimp only
  repeat' first
    | with_reducible assumption
    | intro _
    | with_reducible apply State.addReg_keeps
    | with_reducible apply Keeps.ite
    | with_reducible apply Keeps.foldl
    | split
    | dsimp only
    | fail_if_no_progress with_reducible refine Keeps.lit ?_ rfl
    | with_reducible refine Keeps.litDraw ?_ rfl
    | with_reducible refine Keeps.litHost ?_ rfl

theorem State.countSat_keeps {a s : State} (h : Keeps a s) : ∀ x1 x2 x3, Keeps a (State.countSat s x1 x2 x3) := by
  intros
  unfold State.countSat
  try dsimp only
  repeat' first
    | with_reducible assumption
    | intro _
    | with_reducible apply State.setRegF_keeps
    | with_reducible apply Keeps.ite
    | with_reducible apply Keeps.foldl
    | split
    | dsimp only
    | fail_if_no_progress with_reducible refine Keeps.lit ?_ rfl
    | with_reducible refine Keeps.litDraw ?_ rfl
    | with_reducible refine Keeps.litHost ?_ rfl

theorem State.countWrap_keeps {a s : State} (h : Keeps a s) : ∀ x1 x2 x3, Keeps a (State.countWrap s x1 x2 x3) := by
  intros
  unfold State.countWrap
  try dsimp only
  repeat' first
    | with_reducible assumption
    | intro _
    | with_reducible apply State.setRegF_keeps
    | with_reducible apply Keeps.ite
    | with_reducible apply Keeps.foldl
    | split
    | dsimp only
    | fail_if_no_progress with_reducible refine Keeps.lit ?_ rfl
    | with_reducible refine Keeps.litDraw ?_ rfl
    | with_reducible refine Keeps.litHost ?_ rfl

theorem State.setTabF_keeps {a s : State} (h : Keeps a s) : ∀ x1 x2 x3, Keeps a (State.setTabF s x1 x2 x3) := by
  intros
  unfold State.setTabF
  try dsimp only
  repeat' first
    | with_reducible assumption
    | intro _
    | with_reducible apply State.setRegF_keeps
    | with_reducible apply Keeps.ite
    | with_reducible apply Keeps.foldl
    | split
    | dsimp only
    | fail_if_no_progress with_reducible refine Keeps.lit ?_ rfl
    | with_reducible refine Keeps.litDraw ?_ rfl
    | with_reducible refine Keeps.litHost ?_ rfl

theorem State.setReady_keeps {a s : State} (h : Keeps a s) : ∀ x1 x2, Keeps a (State.setReady s x1 x2) := by
  intros
  unfold State.setReady
  try dsimp only
  repeat' first
    | with_reducible assumption
    | intro _
    | with_reducible apply State.setRegBit_keeps
    | with_reducible apply Keeps.ite
    | with_reducible apply Keeps.foldl
    | split
    | dsimp only
    | fail_if_no_progress with_reducible refine Keeps.lit ?_ rfl
    | with_reducible refine Keeps.litDraw ?_ rfl
    | with_reducible refine Keeps.litHost ?_ rfl

theorem State.setDesk_keeps {a s : State} (h : Keeps a s) : ∀ x1 x2, Keeps a (State.setDesk s x1 x2) := by
  intros
  unfold State.setDesk
  try dsimp only
  repeat' first
    | with_reducible assumption
    | intro _
    | with_reducible apply Keeps.ite
    | with_reducible apply Keeps.foldl
    | split
    | dsimp only
    | fail_if_no_progress with_reducible refine Keeps.lit ?_ rfl
    | with_reducible refine Keeps.litDraw ?_ rfl
    | with_reducible refine Keeps.litHost ?_ rfl

theorem State.setRoom_keeps {a s : State} (h : Keeps a s) : ∀ x1 x2, Keeps a (State.setRoom s x1 x2) := by
  intros
  unfold State.setRoom
  try dsimp only
  repeat' first
    | with_reducible assumption
    | intro _
    | with_reducible apply Keeps.ite
    | with_reducible apply Keeps.foldl
    | split
    | dsimp only
    | fail_if_no_progress with_reducible refine Keeps.lit ?_ rfl
    | with_reducible refine Keeps.litDraw ?_ rfl
    | with_reducible refine Keeps.litHost ?_ rfl

theorem State.setSeat_keeps {a s : State} (h : Keeps a s) : ∀ x1 x2 x3, Keeps a (State.setSeat s x1 x2 x3) := by
  intros
  unfold State.setSeat
  try dsimp only
  repeat' first
    | with_reducible assumption
    | intro _
    | with_reducible apply State.setDesk_keeps
    | with_reducible apply Keeps.ite
    | with_reducible apply Keeps.foldl
    | split
    | dsimp only
    | fail_if_no_progress with_reducible refine Keeps.lit ?_ rfl
    | with_reducible refine Keeps.litDraw ?_ rfl
    | with_reducible refine Keeps.litHost ?_ rfl

theorem State.setDep_keeps {a s : State} (h : Keeps a s) : ∀ x1 x2, Keeps a (State.setDep s x1 x2) := by
  intros
  unfold State.setDep
  try dsimp only
  repeat' first
    | with_reducible assumption
    | intro _
    | with_reducible apply Keeps.ite
    | with_reducible apply Keeps.foldl
    | split
    | dsimp only
    | fail_if_no_progress with_reducible refine Keeps.lit ?_ rfl
    | with_reducible refine Keeps.litDraw ?_ rfl
    | with_reducible refine Keeps.litHost ?_ rfl

theorem State.setEp_keeps {a s : State} (h : Keeps a s) : ∀ x1 x2 x3, Keeps a (State.setEp s x1 x2 x3) := by
  intros
  unfold State.setEp
  try dsimp only
  repeat' first
    | with_reducible assumption
    | intro _
    | with_reducible apply State.setDep_keeps
    | with_reducible apply Keeps.ite
    | with_reducible apply Keeps.foldl
    | split
    | dsimp only
    | fail_if_no_progress with_reducible refine Keeps.lit ?_ rfl
    | with_reducible refine Keeps.litDraw ?_ rfl
    | with_reducible refine Keeps.litHost ?_ rfl

theorem State.setEpF_keeps {a s : State} (h : Keeps a s) : ∀ x1 x2 x3 x4 x5, Keeps a (State.setEpF s x1 x2 x3 x4 x5) := by
  intros
  unfold State.setEpF
  try dsimp only
  repeat' first
    | with_reducible assumption
    | intro _
    | with_reducible apply State.setEp_keeps
    | with_reducible apply Keeps.ite
    | with_reducible apply Keeps.foldl
    | split
    | dsimp only
    | fail_if_no_progress with_reducible refine Keeps.lit ?_ rfl
    | with_reducible refine Keeps.litDraw ?_ rfl
    | with_reducible refine Keeps.litHost ?_ rfl

theorem State.setEpBit_keeps {a s : State} (h : Keeps a s) : ∀ x1 x2 x3 x4, Keeps a (State.setEpBit s x1 x2 x3 x4) := by
  intros
  unfold State.setEpBit
  try dsimp only
  repeat' first
    | with_reducible assumption
    | intro _
    | with_reducible apply State.setEpF_keeps
    | with_reducible apply Keeps.ite
    | with_reducible apply Keeps.foldl
    | split
    | dsimp only
    | fail_if_no_progress with_reducible refine Keeps.lit ?_ rfl
    | with_reducible refine Keeps.litDraw ?_ rfl
    | with_reducible refine Keeps.litHost ?_ rfl

theorem State.countEp_keeps {a s : State} (h : Keeps a s) : ∀ x1 x2, Keeps a (State.countEp s x1 x2) := by
  intros
  unfold State.countEp
  try dsimp only
  repeat' first
    | with_reducible assumption
    | intro _
    | with_reducible apply State.setEp_keeps
    | with_reducible apply Keeps.ite
    | with_reducible apply Keeps.foldl
    | split
    | dsimp only
    | fail_if_no_progress with_reducible refine Keeps.lit ?_ rfl
    | with_reducible refine Keeps.litDraw ?_ rfl
    | with_reducible refine Keeps.litHost ?_ rfl

theorem State.epIrq_keeps {a s : State} (h : Keeps a s) : ∀ x1 x2, Keeps a (State.epIrq s x1 x2) := by
  intros
  unfold State.epIrq
  try dsimp only
  repeat' first
    | with_reducible assumption
    | intro _
    | with_reducible apply State.setEpBit_keeps
    | with_reducible apply State.emit_keeps
    | with_reducible apply Keeps.ite
    | with_reducible apply Keeps.foldl
    | split
    | dsimp only
    | fail_if_no_progress with_reducible refine Keeps.lit ?_ rfl
    | with_reducible refine Keeps.litDraw ?_ rfl
    | with_reducible refine Keeps.litHost ?_ rfl

end Sys2Proof.Machine
end

