-- ==== Sys2Proof/Laws/KeepsOperands.lean ====
section
/-! SUPPORT. What each operation of Machine/Operands.lean keeps. -/

namespace Sys2Proof.Machine

set_option linter.unusedTactic false
set_option linter.unreachableTactic false

theorem State.putMe_keeps {a s : State} (h : Keeps a s) : ∀ x1 x2, Keeps a (State.putMe s x1 x2) := by
  intros
  unfold State.putMe
  try dsimp only
  repeat' first
    | with_reducible assumption
    | intro _
    | with_reducible apply State.setSeat_keeps
    | with_reducible apply Keeps.ite
    | with_reducible apply Keeps.foldl
    | split
    | dsimp only
    | fail_if_no_progress with_reducible refine Keeps.lit ?_ rfl
    | with_reducible refine Keeps.litDraw ?_ rfl
    | with_reducible refine Keeps.litHost ?_ rfl

theorem State.rcvTake_keeps {a s : State} (h : Keeps a s) : ∀ x1 x2 x3 x4, Keeps a (State.rcvTake s x1 x2 x3 x4) := by
  intros
  unfold State.rcvTake
  try dsimp only
  repeat' first
    | with_reducible assumption
    | intro _
    | with_reducible apply State.setDesk_keeps
    | with_reducible apply Keeps.ite
    | with_reducible apply Keeps.foldl
    | split
    | dsimp only
    | fail_if_no_progress with_reducible refine Keeps.lit ?_ rfl
    | with_reducible refine Keeps.litDraw ?_ rfl
    | with_reducible refine Keeps.litHost ?_ rfl

theorem State.rcvWake_keeps {a s : State} (h : Keeps a s) : ∀ x1, Keeps a (State.rcvWake s x1) := by
  intros
  unfold State.rcvWake
  try dsimp only
  repeat' first
    | with_reducible assumption
    | intro _
    | with_reducible apply State.forAll_keeps
    | with_reducible apply State.rcvTake_keeps
    | with_reducible apply Keeps.ite
    | with_reducible apply Keeps.foldl
    | split
    | dsimp only
    | fail_if_no_progress with_reducible refine Keeps.lit ?_ rfl
    | with_reducible refine Keeps.litDraw ?_ rfl
    | with_reducible refine Keeps.litHost ?_ rfl

end Sys2Proof.Machine
end

