-- ==== Sys2Proof/Laws/KeepsSwitch.lean ====
section
/-! SUPPORT. What each operation of Machine/Switch.lean keeps. -/

namespace Sys2Proof.Machine

set_option linter.unusedTactic false
set_option linter.unreachableTactic false

theorem State.setCredit_keeps {a s : State} (h : Keeps a s) : ∀ x1 x2 x3, Keeps a (State.setCredit s x1 x2 x3) := by
  intros
  unfold State.setCredit
  try dsimp only
  repeat' first
    | with_reducible assumption
    | intro _
    | with_reducible apply Keeps.ite
    | with_reducible apply Keeps.foldl
    | split
    | dsimp only
    | fail_if_no_progress with_reducible refine Keeps.lit ?_ rfl
    | with_reducible refine Keeps.litDraw ?_ rfl
    | with_reducible refine Keeps.litHost ?_ rfl

theorem State.depSend_keeps {a s : State} (h : Keeps a s) : ∀ x1 x2, Keeps a (State.depSend s x1 x2) := by
  intros
  unfold State.depSend
  try dsimp only
  repeat' first
    | with_reducible assumption
    | intro _
    | with_reducible apply State.emit_keeps
    | with_reducible apply State.setDep_keeps
    | with_reducible apply Keeps.ite
    | with_reducible apply Keeps.foldl
    | split
    | dsimp only
    | fail_if_no_progress with_reducible refine Keeps.lit ?_ rfl
    | with_reducible refine Keeps.litDraw ?_ rfl
    | with_reducible refine Keeps.litHost ?_ rfl

theorem State.depLaunch_keeps {a s : State} (h : Keeps a s) : ∀ x1 x2, Keeps a (State.depLaunch s x1 x2) := by
  intros
  unfold State.depLaunch
  try dsimp only
  repeat' first
    | with_reducible assumption
    | intro _
    | with_reducible apply State.setDep_keeps
    | with_reducible apply State.depSend_keeps
    | with_reducible apply Keeps.ite
    | with_reducible apply Keeps.foldl
    | split
    | dsimp only
    | fail_if_no_progress with_reducible refine Keeps.lit ?_ rfl
    | with_reducible refine Keeps.litDraw ?_ rfl
    | with_reducible refine Keeps.litHost ?_ rfl

theorem State.depCredit_keeps {a s : State} (h : Keeps a s) : ∀ x1 x2 x3, Keeps a (State.depCredit s x1 x2 x3) := by
  intros
  unfold State.depCredit
  try dsimp only
  repeat' first
    | with_reducible assumption
    | intro _
    | with_reducible apply State.setDep_keeps
    | with_reducible apply State.forAll_keeps
    | with_reducible apply State.depLaunch_keeps
    | with_reducible apply Keeps.ite
    | with_reducible apply Keeps.foldl
    | split
    | dsimp only
    | fail_if_no_progress with_reducible refine Keeps.lit ?_ rfl
    | with_reducible refine Keeps.litDraw ?_ rfl
    | with_reducible refine Keeps.litHost ?_ rfl

theorem State.depForget_keeps {a s : State} (h : Keeps a s) : ∀ x1, Keeps a (State.depForget s x1) := by
  intros
  unfold State.depForget
  try dsimp only
  repeat' first
    | with_reducible assumption
    | intro _
    | with_reducible apply State.setDep_keeps
    | with_reducible apply Keeps.ite
    | with_reducible apply Keeps.foldl
    | split
    | dsimp only
    | fail_if_no_progress with_reducible refine Keeps.lit ?_ rfl
    | with_reducible refine Keeps.litDraw ?_ rfl
    | with_reducible refine Keeps.litHost ?_ rfl

theorem State.returnCredit_keeps {a s : State} (h : Keeps a s) : ∀ x1 x2 x3, Keeps a (State.returnCredit s x1 x2 x3) := by
  intros
  unfold State.returnCredit
  try dsimp only
  repeat' first
    | with_reducible assumption
    | intro _
    | with_reducible apply State.emit_keeps
    | with_reducible apply State.depCredit_keeps
    | with_reducible apply Keeps.ite
    | with_reducible apply Keeps.foldl
    | split
    | dsimp only
    | fail_if_no_progress with_reducible refine Keeps.lit ?_ rfl
    | with_reducible refine Keeps.litDraw ?_ rfl
    | with_reducible refine Keeps.litHost ?_ rfl

theorem State.wredDrop_snd_keeps {a s : State} (h : Keeps a s) : ∀ x1 x2 x3, Keeps a (State.wredDrop s x1 x2 x3).2 := by
  intros
  unfold State.wredDrop
  try dsimp only
  repeat' first
    | with_reducible assumption
    | intro _
    | with_reducible apply Keeps.ite
    | with_reducible apply Keeps.foldl
    | split
    | dsimp only
    | fail_if_no_progress with_reducible refine Keeps.lit ?_ rfl
    | with_reducible refine Keeps.litDraw ?_ rfl
    | with_reducible refine Keeps.litHost ?_ rfl

theorem State.wredDrop_eq_keeps {a s t : State} (h : Keeps a s) {x1 x2 x3 y0} (e : State.wredDrop s x1 x2 x3 = (y0, t)) : Keeps a t := by
  have k := State.wredDrop_snd_keeps h x1 x2 x3
  rw [e] at k; exact k

theorem State.enqueue_keeps {a s : State} (h : Keeps a s) : ∀ x1 x2 x3 x4, Keeps a (State.enqueue s x1 x2 x3 x4) := by
  intros
  unfold State.enqueue
  try dsimp only
  repeat' first
    | with_reducible assumption
    | intro _
    | with_reducible apply Keeps.ite
    | with_reducible apply Keeps.foldl
    | split
    | dsimp only
    | fail_if_no_progress with_reducible refine Keeps.lit ?_ rfl
    | with_reducible refine Keeps.litDraw ?_ rfl
    | with_reducible refine Keeps.litHost ?_ rfl

theorem State.admitNow_keeps {a s : State} (h : Keeps a s) : ∀ x1 x2 x3, Keeps a (State.admitNow s x1 x2 x3) := by
  intros
  unfold State.admitNow
  try dsimp only
  repeat' first
    | with_reducible assumption
    | intro _
    | refine State.wredDrop_eq_keeps ?_ (by with_reducible assumption)
    | with_reducible apply State.wredDrop_snd_keeps
    | with_reducible apply State.returnCredit_keeps
    | with_reducible apply State.count_keeps
    | with_reducible apply State.enqueue_keeps
    | with_reducible apply Keeps.ite
    | with_reducible apply Keeps.foldl
    | split
    | dsimp only
    | fail_if_no_progress with_reducible refine Keeps.lit ?_ rfl
    | with_reducible refine Keeps.litDraw ?_ rfl
    | with_reducible refine Keeps.litHost ?_ rfl

theorem State.admitFrame_keeps {a s : State} (h : Keeps a s) : ∀ x1 x2 x3, Keeps a (State.admitFrame s x1 x2 x3) := by
  intros
  unfold State.admitFrame
  try dsimp only
  repeat' first
    | with_reducible assumption
    | intro _
    | with_reducible apply State.admitNow_keeps
    | with_reducible apply Keeps.ite
    | with_reducible apply Keeps.foldl
    | split
    | dsimp only
    | fail_if_no_progress with_reducible refine Keeps.lit ?_ rfl
    | with_reducible refine Keeps.litDraw ?_ rfl
    | with_reducible refine Keeps.litHost ?_ rfl

theorem State.enter_keeps {a s : State} (h : Keeps a s) : Keeps a (State.enter s) := by
  unfold State.enter
  try dsimp only
  repeat' first
    | with_reducible assumption
    | intro _
    | with_reducible apply State.forAll_keeps
    | with_reducible apply State.admitFrame_keeps
    | with_reducible apply Keeps.ite
    | with_reducible apply Keeps.foldl
    | split
    | dsimp only
    | fail_if_no_progress with_reducible refine Keeps.lit ?_ rfl
    | with_reducible refine Keeps.litDraw ?_ rfl
    | with_reducible refine Keeps.litHost ?_ rfl

theorem State.discard_keeps {a s : State} (h : Keeps a s) : ∀ x1 x2 x3, Keeps a (State.discard s x1 x2 x3) := by
  intros
  unfold State.discard
  try dsimp only
  repeat' first
    | with_reducible assumption
    | intro _
    | with_reducible apply State.count_keeps
    | with_reducible apply Keeps.ite
    | with_reducible apply Keeps.foldl
    | split
    | dsimp only
    | fail_if_no_progress with_reducible refine Keeps.lit ?_ rfl
    | with_reducible refine Keeps.litDraw ?_ rfl
    | with_reducible refine Keeps.litHost ?_ rfl

theorem State.ejectTo_keeps {a s : State} (h : Keeps a s) : ∀ x1 x2 x3 x4 x5, Keeps a (State.ejectTo s x1 x2 x3 x4 x5) := by
  intros
  unfold State.ejectTo
  try dsimp only
  repeat' first
    | with_reducible assumption
    | intro _
    | with_reducible apply State.returnCredit_keeps
    | with_reducible apply State.admitFrame_keeps
    | with_reducible apply State.emit_keeps
    | with_reducible apply State.discard_keeps
    | with_reducible apply Keeps.ite
    | with_reducible apply Keeps.foldl
    | split
    | dsimp only
    | fail_if_no_progress with_reducible refine Keeps.lit ?_ rfl
    | with_reducible refine Keeps.litDraw ?_ rfl
    | with_reducible refine Keeps.litHost ?_ rfl

theorem State.mstRelease_keeps {a s : State} (h : Keeps a s) : ∀ x1, Keeps a (State.mstRelease s x1) := by
  intros
  unfold State.mstRelease
  try dsimp only
  repeat' first
    | with_reducible assumption
    | intro _
    | with_reducible apply State.returnCredit_keeps
    | with_reducible apply Keeps.ite
    | with_reducible apply Keeps.foldl
    | split
    | dsimp only
    | fail_if_no_progress with_reducible refine Keeps.lit ?_ rfl
    | with_reducible refine Keeps.litDraw ?_ rfl
    | with_reducible refine Keeps.litHost ?_ rfl

theorem State.sendOwn_keeps {a s : State} (h : Keeps a s) : ∀ x1 x2 x3, Keeps a (State.sendOwn s x1 x2 x3) := by
  intros
  unfold State.sendOwn
  try dsimp only
  repeat' first
    | with_reducible assumption
    | intro _
    | with_reducible apply State.discard_keeps
    | with_reducible apply State.admitFrame_keeps
    | with_reducible apply State.count_keeps
    | with_reducible apply State.ejectTo_keeps
    | with_reducible apply Keeps.ite
    | with_reducible apply Keeps.foldl
    | split
    | dsimp only
    | fail_if_no_progress with_reducible refine Keeps.lit ?_ rfl
    | with_reducible refine Keeps.litDraw ?_ rfl
    | with_reducible refine Keeps.litHost ?_ rfl

theorem State.sendRouted_keeps {a s : State} (h : Keeps a s) : ∀ x1 x2 x3, Keeps a (State.sendRouted s x1 x2 x3) := by
  intros
  unfold State.sendRouted
  try dsimp only
  repeat' first
    | with_reducible assumption
    | intro _
    | with_reducible apply State.sendOwn_keeps
    | with_reducible apply State.discard_keeps
    | with_reducible apply Keeps.ite
    | with_reducible apply Keeps.foldl
    | split
    | dsimp only
    | fail_if_no_progress with_reducible refine Keeps.lit ?_ rfl
    | with_reducible refine Keeps.litDraw ?_ rfl
    | with_reducible refine Keeps.litHost ?_ rfl

theorem State.answerGen_keeps {a s : State} (h : Keeps a s) : ∀ x1 x2, Keeps a (State.answerGen s x1 x2) := by
  intros
  unfold State.answerGen
  try dsimp only
  repeat' first
    | with_reducible assumption
    | intro _
    | with_reducible apply State.count_keeps
    | with_reducible apply State.sendRouted_keeps
    | with_reducible apply Keeps.ite
    | with_reducible apply Keeps.foldl
    | split
    | dsimp only
    | fail_if_no_progress with_reducible refine Keeps.lit ?_ rfl
    | with_reducible refine Keeps.litDraw ?_ rfl
    | with_reducible refine Keeps.litHost ?_ rfl

theorem State.answerPort_keeps {a s : State} (h : Keeps a s) : ∀ x1 x2 x3, Keeps a (State.answerPort s x1 x2 x3) := by
  intros
  unfold State.answerPort
  try dsimp only
  repeat' first
    | with_reducible assumption
    | intro _
    | with_reducible apply State.admitFrame_keeps
    | with_reducible apply State.count_keeps
    | with_reducible apply Keeps.ite
    | with_reducible apply Keeps.foldl
    | split
    | dsimp only
    | fail_if_no_progress with_reducible refine Keeps.lit ?_ rfl
    | with_reducible refine Keeps.litDraw ?_ rfl
    | with_reducible refine Keeps.litHost ?_ rfl

theorem State.answerOrDrop_keeps {a s : State} (h : Keeps a s) : ∀ x1 x2 x3, Keeps a (State.answerOrDrop s x1 x2 x3) := by
  intros
  unfold State.answerOrDrop
  try dsimp only
  repeat' first
    | with_reducible assumption
    | intro _
    | with_reducible apply State.answerGen_keeps
    | with_reducible apply State.discard_keeps
    | with_reducible apply Keeps.ite
    | with_reducible apply Keeps.foldl
    | split
    | dsimp only
    | fail_if_no_progress with_reducible refine Keeps.lit ?_ rfl
    | with_reducible refine Keeps.litDraw ?_ rfl
    | with_reducible refine Keeps.litHost ?_ rfl

theorem State.arrive_keeps {a s : State} (h : Keeps a s) : ∀ x1 x2, Keeps a (State.arrive s x1 x2) := by
  intros
  unfold State.arrive
  try dsimp only
  repeat' first
    | with_reducible assumption
    | intro _
    | with_reducible apply State.returnCredit_keeps
    | with_reducible apply State.count_keeps
    | with_reducible apply State.answerPort_keeps
    | with_reducible apply State.discard_keeps
    | with_reducible apply State.answerOrDrop_keeps
    | with_reducible apply State.admitFrame_keeps
    | with_reducible apply State.ejectTo_keeps
    | with_reducible apply Keeps.ite
    | with_reducible apply Keeps.foldl
    | split
    | dsimp only
    | fail_if_no_progress with_reducible refine Keeps.lit ?_ rfl
    | with_reducible refine Keeps.litDraw ?_ rfl
    | with_reducible refine Keeps.litHost ?_ rfl

theorem State.bellIngress_snd_keeps {a s : State} (h : Keeps a s) : ∀ x1 x2, Keeps a (State.bellIngress s x1 x2).2 := by
  intros
  unfold State.bellIngress
  try dsimp only
  repeat' first
    | with_reducible assumption
    | intro _
    | with_reducible apply State.count_keeps
    | with_reducible apply Keeps.ite
    | with_reducible apply Keeps.foldl
    | split
    | dsimp only
    | fail_if_no_progress with_reducible refine Keeps.lit ?_ rfl
    | with_reducible refine Keeps.litDraw ?_ rfl
    | with_reducible refine Keeps.litHost ?_ rfl

theorem State.bellIngress_eq_keeps {a s t : State} (h : Keeps a s) {x1 x2 y0} (e : State.bellIngress s x1 x2 = (y0, t)) : Keeps a t := by
  have k := State.bellIngress_snd_keeps h x1 x2
  rw [e] at k; exact k

theorem State.dequeue_keeps {a s : State} (h : Keeps a s) : ∀ x1, Keeps a (State.dequeue s x1) := by
  intros
  unfold State.dequeue
  try dsimp only
  repeat' first
    | with_reducible assumption
    | intro _
    | with_reducible apply Keeps.ite
    | with_reducible apply Keeps.foldl
    | split
    | dsimp only
    | fail_if_no_progress with_reducible refine Keeps.lit ?_ rfl
    | with_reducible refine Keeps.litDraw ?_ rfl
    | with_reducible refine Keeps.litHost ?_ rfl

theorem State.dropQueued_keeps {a s : State} (h : Keeps a s) : ∀ x1, Keeps a (State.dropQueued s x1) := by
  intros
  unfold State.dropQueued
  try dsimp only
  repeat' first
    | with_reducible assumption
    | intro _
    | with_reducible apply State.returnCredit_keeps
    | with_reducible apply State.dequeue_keeps
    | with_reducible apply Keeps.ite
    | with_reducible apply Keeps.foldl
    | split
    | dsimp only
    | fail_if_no_progress with_reducible refine Keeps.lit ?_ rfl
    | with_reducible refine Keeps.litDraw ?_ rfl
    | with_reducible refine Keeps.litHost ?_ rfl

theorem State.sendCell_keeps {a s : State} (h : Keeps a s) : ∀ x1, Keeps a (State.sendCell s x1) := by
  intros
  unfold State.sendCell
  try dsimp only
  repeat' first
    | with_reducible assumption
    | intro _
    | with_reducible apply State.setCredit_keeps
    | with_reducible apply State.count_keeps
    | with_reducible apply State.addReg_keeps
    | with_reducible apply State.returnCredit_keeps
    | with_reducible apply State.emit_keeps
    | with_reducible apply State.dequeue_keeps
    | with_reducible apply Keeps.ite
    | with_reducible apply Keeps.foldl
    | split
    | dsimp only
    | fail_if_no_progress with_reducible refine Keeps.lit ?_ rfl
    | with_reducible refine Keeps.litDraw ?_ rfl
    | with_reducible refine Keeps.litHost ?_ rfl

theorem State.dropAged_keeps {a s : State} (h : Keeps a s) : ∀ x1 x2 x3 k, Keeps a (State.dropAged s x1 x2 x3 k) := by
  intro x1 x2 x3 k
  induction k generalizing s with
  | zero => exact h
  | succ k ih =>
    unfold State.dropAged
    try dsimp only
    repeat' first
      | with_reducible assumption
      | with_reducible apply ih
      | intro _
      | with_reducible apply State.count_keeps
      | with_reducible apply State.dropQueued_keeps
      | with_reducible apply State.answerGen_keeps
      | with_reducible apply State.count_keeps
      | with_reducible apply State.dropQueued_keeps
      | with_reducible apply State.answerGen_keeps
      | with_reducible apply Keeps.ite
      | with_reducible apply Keeps.foldl
      | split
      | dsimp only
      | fail_if_no_progress with_reducible refine Keeps.lit ?_ rfl
      | with_reducible refine Keeps.litDraw ?_ rfl
      | with_reducible refine Keeps.litHost ?_ rfl

theorem State.arbitrate_keeps {a s : State} (h : Keeps a s) : ∀ x1, Keeps a (State.arbitrate s x1) := by
  intros
  unfold State.arbitrate
  try dsimp only
  repeat' first
    | with_reducible assumption
    | intro _
    | with_reducible apply State.dropAged_keeps
    | with_reducible apply State.sendCell_keeps
    | with_reducible apply Keeps.ite
    | with_reducible apply Keeps.foldl
    | split
    | dsimp only
    | fail_if_no_progress with_reducible refine Keeps.lit ?_ rfl
    | with_reducible refine Keeps.litDraw ?_ rfl
    | with_reducible refine Keeps.litHost ?_ rfl

theorem State.opportunity_keeps {a s : State} (h : Keeps a s) : ∀ x1, Keeps a (State.opportunity s x1) := by
  intros
  unfold State.opportunity
  try dsimp only
  repeat' first
    | with_reducible assumption
    | intro _
    | with_reducible apply State.enter_keeps
    | with_reducible apply State.sendCell_keeps
    | with_reducible apply State.arbitrate_keeps
    | with_reducible apply Keeps.ite
    | with_reducible apply Keeps.foldl
    | split
    | dsimp only
    | fail_if_no_progress with_reducible refine Keeps.lit ?_ rfl
    | with_reducible refine Keeps.litDraw ?_ rfl
    | with_reducible refine Keeps.litHost ?_ rfl

theorem State.reservedOutput_keeps {a s : State} (h : Keeps a s) : ∀ x1, Keeps a (State.reservedOutput s x1) := by
  intros
  unfold State.reservedOutput
  try dsimp only
  repeat' first
    | with_reducible assumption
    | intro _
    | with_reducible apply State.enter_keeps
    | with_reducible apply State.sendCell_keeps
    | with_reducible apply State.opportunity_keeps
    | with_reducible apply Keeps.ite
    | with_reducible apply Keeps.foldl
    | split
    | dsimp only
    | fail_if_no_progress with_reducible refine Keeps.lit ?_ rfl
    | with_reducible refine Keeps.litDraw ?_ rfl
    | with_reducible refine Keeps.litHost ?_ rfl

theorem State.flushOutput_keeps {a s : State} (h : Keeps a s) : ∀ x1, Keeps a (State.flushOutput s x1) := by
  intros
  unfold State.flushOutput
  try dsimp only
  repeat' first
    | with_reducible assumption
    | intro _
    | with_reducible apply State.answerGen_keeps
    | with_reducible apply State.count_keeps
    | with_reducible apply State.forAll_keeps
    | with_reducible apply State.dropQueued_keeps
    | with_reducible apply State.enter_keeps
    | with_reducible apply Keeps.ite
    | with_reducible apply Keeps.foldl
    | split
    | dsimp only
    | fail_if_no_progress with_reducible refine Keeps.lit ?_ rfl
    | with_reducible refine Keeps.litDraw ?_ rfl
    | with_reducible refine Keeps.litHost ?_ rfl

theorem State.loseOverflow_keeps {a s : State} (h : Keeps a s) : Keeps a (State.loseOverflow s) := by
  unfold State.loseOverflow
  try dsimp only
  repeat' first
    | with_reducible assumption
    | intro _
    | with_reducible apply State.forAll_keeps
    | with_reducible apply State.count_keeps
    | with_reducible apply State.dequeue_keeps
    | with_reducible apply State.answerGen_keeps
    | with_reducible apply Keeps.ite
    | with_reducible apply Keeps.foldl
    | split
    | dsimp only
    | fail_if_no_progress with_reducible refine Keeps.lit ?_ rfl
    | with_reducible refine Keeps.litDraw ?_ rfl
    | with_reducible refine Keeps.litHost ?_ rfl

theorem State.applyBuffers_keeps {a s : State} (h : Keeps a s) : ∀ x1, Keeps a (State.applyBuffers s x1) := by
  intros
  unfold State.applyBuffers
  try dsimp only
  repeat' first
    | with_reducible assumption
    | intro _
    | with_reducible apply State.setReg_keeps
    | with_reducible apply Keeps.ite
    | with_reducible apply Keeps.foldl
    | split
    | dsimp only
    | fail_if_no_progress with_reducible refine Keeps.lit ?_ rfl
    | with_reducible refine Keeps.litDraw ?_ rfl
    | with_reducible refine Keeps.litHost ?_ rfl

theorem State.wredMove_keeps {a s : State} (h : Keeps a s) : ∀ x1, Keeps a (State.wredMove s x1) := by
  intros
  unfold State.wredMove
  try dsimp only
  repeat' first
    | with_reducible assumption
    | intro _
    | with_reducible apply Keeps.ite
    | with_reducible apply Keeps.foldl
    | split
    | dsimp only
    | fail_if_no_progress with_reducible refine Keeps.lit ?_ rfl
    | with_reducible refine Keeps.litDraw ?_ rfl
    | with_reducible refine Keeps.litHost ?_ rfl

end Sys2Proof.Machine
end

