-- ==== Sys2Proof/Laws/KeepsSource.lean ====
section
/-! SUPPORT. What each operation of Machine/Source.lean keeps. -/

namespace Sys2Proof.Machine

set_option linter.unusedTactic false
set_option linter.unreachableTactic false

theorem State.setPair_keeps {a s : State} (h : Keeps a s) : ∀ x1 x2 x3, Keeps a (State.setPair s x1 x2 x3) := by
  intros
  unfold State.setPair
  try dsimp only
  repeat' first
    | with_reducible assumption
    | intro _
    | with_reducible apply Keeps.ite
    | with_reducible apply Keeps.foldl
    | split
    | dsimp only
    | fail_if_no_progress with_reducible refine Keeps.lit ?_ rfl
    | with_reducible refine Keeps.litDraw ?_ rfl
    | with_reducible refine Keeps.litHost ?_ rfl

theorem State.colourOf_snd_keeps {a s : State} (h : Keeps a s) : ∀ x1 x2 x3, Keeps a (State.colourOf s x1 x2 x3).2 := by
  intros
  unfold State.colourOf
  try dsimp only
  repeat' first
    | with_reducible assumption
    | intro _
    | with_reducible apply Keeps.ite
    | with_reducible apply Keeps.foldl
    | split
    | dsimp only
    | fail_if_no_progress with_reducible refine Keeps.lit ?_ rfl
    | with_reducible refine Keeps.litDraw ?_ rfl
    | with_reducible refine Keeps.litHost ?_ rfl

theorem State.colourOf_eq_keeps {a s t : State} (h : Keeps a s) {x1 x2 x3 y0} (e : State.colourOf s x1 x2 x3 = (y0, t)) : Keeps a t := by
  have k := State.colourOf_snd_keeps h x1 x2 x3
  rw [e] at k; exact k

theorem State.resultDesk_keeps {a s : State} (h : Keeps a s) : ∀ x1 x2 x3 x4 x5, Keeps a (State.resultDesk s x1 x2 x3 x4 x5) := by
  intros
  unfold State.resultDesk
  try dsimp only
  repeat' first
    | with_reducible assumption
    | intro _
    | with_reducible apply State.setSeat_keeps
    | with_reducible apply State.setDesk_keeps
    | with_reducible apply Keeps.ite
    | with_reducible apply Keeps.foldl
    | split
    | dsimp only
    | fail_if_no_progress with_reducible refine Keeps.lit ?_ rfl
    | with_reducible refine Keeps.litDraw ?_ rfl
    | with_reducible refine Keeps.litHost ?_ rfl

theorem State.setStrm_keeps {a s : State} (h : Keeps a s) : ∀ x1 x2 x3, Keeps a (State.setStrm s x1 x2 x3) := by
  intros
  unfold State.setStrm
  try dsimp only
  repeat' first
    | with_reducible assumption
    | intro _
    | with_reducible apply Keeps.ite
    | with_reducible apply Keeps.foldl
    | split
    | dsimp only
    | fail_if_no_progress with_reducible refine Keeps.lit ?_ rfl
    | with_reducible refine Keeps.litDraw ?_ rfl
    | with_reducible refine Keeps.litHost ?_ rfl

theorem State.endOwnMst_keeps {a s : State} (h : Keeps a s) : ∀ x1, Keeps a (State.endOwnMst s x1) := by
  intros
  unfold State.endOwnMst
  try dsimp only
  repeat' first
    | with_reducible assumption
    | intro _
    | with_reducible apply Keeps.ite
    | with_reducible apply Keeps.foldl
    | split
    | dsimp only
    | fail_if_no_progress with_reducible refine Keeps.lit ?_ rfl
    | with_reducible refine Keeps.litDraw ?_ rfl
    | with_reducible refine Keeps.litHost ?_ rfl

theorem State.answerVia_keeps {a s : State} (h : Keeps a s) : ∀ x1 x2 x3 x4, Keeps a (State.answerVia s x1 x2 x3 x4) := by
  intros
  unfold State.answerVia
  try dsimp only
  repeat' first
    | with_reducible assumption
    | intro _
    | with_reducible apply State.sendRouted_keeps
    | with_reducible apply State.resultDesk_keeps
    | with_reducible apply State.endOwnMst_keeps
    | with_reducible apply State.setStrm_keeps
    | with_reducible apply Keeps.ite
    | with_reducible apply Keeps.foldl
    | split
    | dsimp only
    | fail_if_no_progress with_reducible refine Keeps.lit ?_ rfl
    | with_reducible refine Keeps.litDraw ?_ rfl
    | with_reducible refine Keeps.litHost ?_ rfl

theorem State.remember_keeps {a s : State} (h : Keeps a s) : ∀ x1 x2 x3 x4, Keeps a (State.remember s x1 x2 x3 x4) := by
  intros
  unfold State.remember
  try dsimp only
  repeat' first
    | with_reducible assumption
    | intro _
    | with_reducible apply Keeps.ite
    | with_reducible apply Keeps.foldl
    | split
    | dsimp only
    | fail_if_no_progress with_reducible refine Keeps.lit ?_ rfl
    | with_reducible refine Keeps.litDraw ?_ rfl
    | with_reducible refine Keeps.litHost ?_ rfl

theorem State.mcAnswer_keeps {a s : State} (h : Keeps a s) : ∀ x1 x2 x3, Keeps a (State.mcAnswer s x1 x2 x3) := by
  intros
  unfold State.mcAnswer
  try dsimp only
  repeat' first
    | with_reducible assumption
    | intro _
    | with_reducible apply State.answerVia_keeps
    | with_reducible apply State.remember_keeps
    | with_reducible apply Keeps.ite
    | with_reducible apply Keeps.foldl
    | split
    | dsimp only
    | fail_if_no_progress with_reducible refine Keeps.lit ?_ rfl
    | with_reducible refine Keeps.litDraw ?_ rfl
    | with_reducible refine Keeps.litHost ?_ rfl

theorem State.copyDone_keeps {a s : State} (h : Keeps a s) : ∀ x1 x2, Keeps a (State.copyDone s x1 x2) := by
  intros
  unfold State.copyDone
  try dsimp only
  repeat' first
    | with_reducible assumption
    | intro _
    | with_reducible apply State.setRegF_keeps
    | with_reducible apply State.mcAnswer_keeps
    | with_reducible apply Keeps.ite
    | with_reducible apply Keeps.foldl
    | split
    | dsimp only
    | fail_if_no_progress with_reducible refine Keeps.lit ?_ rfl
    | with_reducible refine Keeps.litDraw ?_ rfl
    | with_reducible refine Keeps.litHost ?_ rfl

theorem State.tellOwner_keeps {a s : State} (h : Keeps a s) : ∀ x1 x2 x3 x4 x5, Keeps a (State.tellOwner s x1 x2 x3 x4 x5) := by
  intros
  unfold State.tellOwner
  try dsimp only
  repeat' first
    | with_reducible assumption
    | intro _
    | with_reducible apply State.resultDesk_keeps
    | with_reducible apply State.setStrm_keeps
    | with_reducible apply State.copyDone_keeps
    | with_reducible apply State.setDep_keeps
    | with_reducible apply Keeps.ite
    | with_reducible apply Keeps.foldl
    | split
    | dsimp only
    | fail_if_no_progress with_reducible refine Keeps.lit ?_ rfl
    | with_reducible refine Keeps.litDraw ?_ rfl
    | with_reducible refine Keeps.litHost ?_ rfl

theorem State.launch_keeps {a s : State} (h : Keeps a s) : ∀ x1 x2 x3, Keeps a (State.launch s x1 x2 x3) := by
  intros
  unfold State.launch
  try dsimp only
  repeat' first
    | with_reducible assumption
    | intro _
    | with_reducible apply State.sendOwn_keeps
    | with_reducible apply State.depLaunch_keeps
    | with_reducible apply Keeps.ite
    | with_reducible apply Keeps.foldl
    | split
    | dsimp only
    | fail_if_no_progress with_reducible refine Keeps.lit ?_ rfl
    | with_reducible refine Keeps.litDraw ?_ rfl
    | with_reducible refine Keeps.litHost ?_ rfl

theorem State.launchOwn_keeps {a s : State} (h : Keeps a s) : ∀ x1, Keeps a (State.launchOwn s x1) := by
  intros
  unfold State.launchOwn
  try dsimp only
  repeat' first
    | with_reducible assumption
    | intro _
    | with_reducible apply State.emit_keeps
    | with_reducible apply Keeps.ite
    | with_reducible apply Keeps.foldl
    | split
    | dsimp only
    | fail_if_no_progress with_reducible refine Keeps.lit ?_ rfl
    | with_reducible refine Keeps.litDraw ?_ rfl
    | with_reducible refine Keeps.litHost ?_ rfl

theorem State.sendSync_keeps {a s : State} (h : Keeps a s) : ∀ x1 x2 x3, Keeps a (State.sendSync s x1 x2 x3) := by
  intros
  unfold State.sendSync
  try dsimp only
  repeat' first
    | with_reducible assumption
    | intro _
    | with_reducible apply State.launch_keeps
    | with_reducible apply State.setPair_keeps
    | with_reducible apply Keeps.ite
    | with_reducible apply Keeps.foldl
    | split
    | dsimp only
    | fail_if_no_progress with_reducible refine Keeps.lit ?_ rfl
    | with_reducible refine Keeps.litDraw ?_ rfl
    | with_reducible refine Keeps.litHost ?_ rfl

theorem State.sendFirst_eq_keeps {a s t : State} (h : Keeps a s) {x1 x2 x3} (e : State.sendFirst s x1 x2 x3 = some t) :
    Keeps a t := by
  unfold State.sendFirst at e
  dsimp only at e
  split at e
  · cases e
  · split at e
    · cases e
    · split at e
      · cases e
        exact State.launchOwn_keeps (State.setPair_keeps h _ _ _) _
      · cases e
        apply State.launch_keeps
        apply State.setPair_keeps
        split
        · exact h
        · split
          · exact h
          · exact State.colourOf_eq_keeps h rfl

theorem State.failWaiting_keeps {a s : State} (h : Keeps a s) : ∀ x1 x2 x3, Keeps a (State.failWaiting s x1 x2 x3) := by
  intros
  unfold State.failWaiting
  try dsimp only
  repeat' first
    | with_reducible assumption
    | intro _
    | with_reducible apply State.forAll_keeps
    | with_reducible apply State.setPair_keeps
    | with_reducible apply State.tellOwner_keeps
    | with_reducible apply Keeps.ite
    | with_reducible apply Keeps.foldl
    | split
    | dsimp only
    | fail_if_no_progress with_reducible refine Keeps.lit ?_ rfl
    | with_reducible refine Keeps.litDraw ?_ rfl
    | with_reducible refine Keeps.litHost ?_ rfl

theorem State.pump_keeps {a s : State} (h : Keeps a s) : ∀ x1 x2 k, Keeps a (State.pump s x1 x2 k) := by
  intro x1 x2 k
  induction k generalizing s with
  | zero => exact h
  | succ k ih =>
    unfold State.pump
    try dsimp only
    repeat' first
      | with_reducible assumption
      | with_reducible apply ih
      | intro _
      | refine State.sendFirst_eq_keeps ?_ (by with_reducible assumption)
      | with_reducible apply State.failWaiting_keeps
      | with_reducible apply State.sendSync_keeps
      | refine State.sendFirst_eq_keeps ?_ (by with_reducible assumption)
      | with_reducible apply State.failWaiting_keeps
      | with_reducible apply State.sendSync_keeps
      | with_reducible apply Keeps.ite
      | with_reducible apply Keeps.foldl
      | split
      | dsimp only
      | fail_if_no_progress with_reducible refine Keeps.lit ?_ rfl
      | with_reducible refine Keeps.litDraw ?_ rfl
      | with_reducible refine Keeps.litHost ?_ rfl

theorem State.pumpAll_keeps {a s : State} (h : Keeps a s) : ∀ x1, Keeps a (State.pumpAll s x1) := by
  intros
  unfold State.pumpAll
  try dsimp only
  repeat' first
    | with_reducible assumption
    | intro _
    | with_reducible apply State.forAll_keeps
    | with_reducible apply State.pump_keeps
    | with_reducible apply Keeps.ite
    | with_reducible apply Keeps.foldl
    | split
    | dsimp only
    | fail_if_no_progress with_reducible refine Keeps.lit ?_ rfl
    | with_reducible refine Keeps.litDraw ?_ rfl
    | with_reducible refine Keeps.litHost ?_ rfl

theorem State.submit_keeps {a s : State} (h : Keeps a s) : ∀ x1 x2 x3, Keeps a (State.submit s x1 x2 x3) := by
  intros
  unfold State.submit
  try dsimp only
  repeat' first
    | with_reducible assumption
    | intro _
    | with_reducible apply State.pump_keeps
    | with_reducible apply State.setPair_keeps
    | with_reducible apply Keeps.ite
    | with_reducible apply Keeps.foldl
    | split
    | dsimp only
    | fail_if_no_progress with_reducible refine Keeps.lit ?_ rfl
    | with_reducible refine Keeps.litDraw ?_ rfl
    | with_reducible refine Keeps.litHost ?_ rfl

theorem State.sendTimed_keeps {a s : State} (h : Keeps a s) : ∀ x1 x2, Keeps a (State.sendTimed s x1 x2) := by
  intros
  unfold State.sendTimed
  try dsimp only
  repeat' first
    | with_reducible assumption
    | intro _
    | with_reducible apply State.tellOwner_keeps
    | with_reducible apply State.launch_keeps
    | with_reducible apply Keeps.ite
    | with_reducible apply Keeps.foldl
    | split
    | dsimp only
    | fail_if_no_progress with_reducible refine Keeps.lit ?_ rfl
    | with_reducible refine Keeps.litDraw ?_ rfl
    | with_reducible refine Keeps.litHost ?_ rfl

theorem State.takeResponse_keeps {a s : State} (h : Keeps a s) : ∀ x1 x2, Keeps a (State.takeResponse s x1 x2) := by
  intros
  unfold State.takeResponse
  try dsimp only
  repeat' first
    | with_reducible assumption
    | intro _
    | with_reducible apply State.count_keeps
    | with_reducible apply State.setPair_keeps
    | with_reducible apply State.forAll_keeps
    | with_reducible apply State.tellOwner_keeps
    | with_reducible apply State.pumpAll_keeps
    | with_reducible apply Keeps.ite
    | with_reducible apply Keeps.foldl
    | split
    | dsimp only
    | fail_if_no_progress with_reducible refine Keeps.lit ?_ rfl
    | with_reducible refine Keeps.litDraw ?_ rfl
    | with_reducible refine Keeps.litHost ?_ rfl

theorem State.resend_keeps {a s : State} (h : Keeps a s) : ∀ x1 x2 x3 x4, Keeps a (State.resend s x1 x2 x3 x4) := by
  intros
  unfold State.resend
  try dsimp only
  repeat' first
    | with_reducible assumption
    | intro _
    | with_reducible apply State.setPair_keeps
    | with_reducible apply State.forAll_keeps
    | with_reducible apply State.launch_keeps
    | with_reducible apply State.count_keeps
    | with_reducible apply State.countEp_keeps
    | with_reducible apply Keeps.ite
    | with_reducible apply Keeps.foldl
    | split
    | dsimp only
    | fail_if_no_progress with_reducible refine Keeps.lit ?_ rfl
    | with_reducible refine Keeps.litDraw ?_ rfl
    | with_reducible refine Keeps.litHost ?_ rfl

theorem State.syncAnswer_keeps {a s : State} (h : Keeps a s) : ∀ x1 x2, Keeps a (State.syncAnswer s x1 x2) := by
  intros
  unfold State.syncAnswer
  try dsimp only
  repeat' first
    | with_reducible assumption
    | intro _
    | with_reducible apply State.setPair_keeps
    | with_reducible apply State.pump_keeps
    | with_reducible apply Keeps.ite
    | with_reducible apply Keeps.foldl
    | split
    | dsimp only
    | fail_if_no_progress with_reducible refine Keeps.lit ?_ rfl
    | with_reducible refine Keeps.litDraw ?_ rfl
    | with_reducible refine Keeps.litHost ?_ rfl

theorem State.agedNotice_keeps {a s : State} (h : Keeps a s) : ∀ x1 x2, Keeps a (State.agedNotice s x1 x2) := by
  intros
  unfold State.agedNotice
  try dsimp only
  repeat' first
    | with_reducible assumption
    | intro _
    | with_reducible apply State.setPair_keeps
    | with_reducible apply State.resend_keeps
    | with_reducible apply Keeps.ite
    | with_reducible apply Keeps.foldl
    | split
    | dsimp only
    | fail_if_no_progress with_reducible refine Keeps.lit ?_ rfl
    | with_reducible refine Keeps.litDraw ?_ rfl
    | with_reducible refine Keeps.litHost ?_ rfl

theorem State.rtxExpired_keeps {a s : State} (h : Keeps a s) : ∀ x1 x2, Keeps a (State.rtxExpired s x1 x2) := by
  intros
  unfold State.rtxExpired
  try dsimp only
  repeat' first
    | with_reducible assumption
    | intro _
    | with_reducible apply State.resend_keeps
    | with_reducible apply State.sendSync_keeps
    | with_reducible apply Keeps.ite
    | with_reducible apply Keeps.foldl
    | split
    | dsimp only
    | fail_if_no_progress with_reducible refine Keeps.lit ?_ rfl
    | with_reducible refine Keeps.litDraw ?_ rfl
    | with_reducible refine Keeps.litHost ?_ rfl

theorem State.winExpired_keeps {a s : State} (h : Keeps a s) : ∀ x1 x2 x3, Keeps a (State.winExpired s x1 x2 x3) := by
  intros
  unfold State.winExpired
  try dsimp only
  repeat' first
    | with_reducible assumption
    | intro _
    | with_reducible apply State.setPair_keeps
    | with_reducible apply State.pumpAll_keeps
    | with_reducible apply State.tellOwner_keeps
    | with_reducible apply Keeps.ite
    | with_reducible apply Keeps.foldl
    | split
    | dsimp only
    | fail_if_no_progress with_reducible refine Keeps.lit ?_ rfl
    | with_reducible refine Keeps.litDraw ?_ rfl
    | with_reducible refine Keeps.litHost ?_ rfl

theorem State.dropPairs_keeps {a s : State} (h : Keeps a s) : ∀ x1 x2, Keeps a (State.dropPairs s x1 x2) := by
  intros
  unfold State.dropPairs
  try dsimp only
  repeat' first
    | with_reducible assumption
    | intro _
    | with_reducible apply State.forAll_keeps
    | with_reducible apply State.setPair_keeps
    | with_reducible apply State.tellOwner_keeps
    | with_reducible apply Keeps.ite
    | with_reducible apply Keeps.foldl
    | split
    | dsimp only
    | fail_if_no_progress with_reducible refine Keeps.lit ?_ rfl
    | with_reducible refine Keeps.litDraw ?_ rfl
    | with_reducible refine Keeps.litHost ?_ rfl

theorem State.timedOut_keeps {a s : State} (h : Keeps a s) : Keeps a (State.timedOut s) := by
  unfold State.timedOut
  try dsimp only
  repeat' first
    | with_reducible assumption
    | intro _
    | with_reducible apply State.forAll_keeps
    | with_reducible apply State.tellOwner_keeps
    | with_reducible apply Keeps.ite
    | with_reducible apply Keeps.foldl
    | split
    | dsimp only
    | fail_if_no_progress with_reducible refine Keeps.lit ?_ rfl
    | with_reducible refine Keeps.litDraw ?_ rfl
    | with_reducible refine Keeps.litHost ?_ rfl

theorem State.seqCheck_snd_keeps {a s : State} (h : Keeps a s) : ∀ x1 x2, Keeps a (State.seqCheck s x1 x2).2 := by
  intros
  unfold State.seqCheck
  try dsimp only
  repeat' first
    | with_reducible assumption
    | intro _
    | with_reducible apply State.count_keeps
    | with_reducible apply State.countEp_keeps
    | with_reducible apply Keeps.ite
    | with_reducible apply Keeps.foldl
    | split
    | dsimp only
    | fail_if_no_progress with_reducible refine Keeps.lit ?_ rfl
    | with_reducible refine Keeps.litDraw ?_ rfl
    | with_reducible refine Keeps.litHost ?_ rfl

theorem State.seqCheck_eq_keeps {a s t : State} (h : Keeps a s) {x1 x2 y0} (e : State.seqCheck s x1 x2 = (y0, t)) : Keeps a t := by
  have k := State.seqCheck_snd_keeps h x1 x2
  rw [e] at k; exact k

end Sys2Proof.Machine
end

