-- ==== Sys2Proof/Laws/KeepsRecord.lean ====
section
/-! SUPPORT. What each operation of Machine/Record.lean keeps. -/

namespace Sys2Proof.Machine

set_option linter.unusedTactic false
set_option linter.unreachableTactic false

theorem State.logRecord_keeps {a s : State} (h : Keeps a s) : ∀ x1 x2 x3 x4 x5, Keeps a (State.logRecord s x1 x2 x3 x4 x5) := by
  intros
  unfold State.logRecord
  try dsimp only
  repeat' first
    | with_reducible assumption
    | intro _
    | with_reducible apply State.setReg_keeps
    | with_reducible apply State.setRegF_keeps
    | with_reducible apply Keeps.ite
    | with_reducible apply Keeps.foldl
    | split
    | dsimp only
    | fail_if_no_progress with_reducible refine Keeps.lit ?_ rfl
    | with_reducible refine Keeps.litDraw ?_ rfl
    | with_reducible refine Keeps.litHost ?_ rfl

theorem State.logEvent_keeps {a s : State} (h : Keeps a s) : ∀ x1 x2 x3 x4, Keeps a (State.logEvent s x1 x2 x3 x4) := by
  intros
  unfold State.logEvent
  try dsimp only
  repeat' first
    | with_reducible assumption
    | intro _
    | with_reducible apply State.logRecord_keeps
    | with_reducible apply Keeps.ite
    | with_reducible apply Keeps.foldl
    | split
    | dsimp only
    | fail_if_no_progress with_reducible refine Keeps.lit ?_ rfl
    | with_reducible refine Keeps.litDraw ?_ rfl
    | with_reducible refine Keeps.litHost ?_ rfl

theorem State.relayWord_keeps {a s : State} (h : Keeps a s) : ∀ x1 x2, Keeps a (State.relayWord s x1 x2) := by
  intros
  unfold State.relayWord
  try dsimp only
  repeat' first
    | with_reducible assumption
    | intro _
    | with_reducible apply State.submit_keeps
    | with_reducible apply Keeps.ite
    | with_reducible apply Keeps.foldl
    | split
    | dsimp only
    | fail_if_no_progress with_reducible refine Keeps.lit ?_ rfl
    | with_reducible refine Keeps.litDraw ?_ rfl
    | with_reducible refine Keeps.litHost ?_ rfl

theorem State.relayWrite_keeps {a s : State} (h : Keeps a s) : ∀ x1 x2, Keeps a (State.relayWrite s x1 x2) := by
  intros
  unfold State.relayWrite
  try dsimp only
  repeat' first
    | with_reducible assumption
    | intro _
    | with_reducible apply State.forAll_keeps
    | with_reducible apply State.relayWord_keeps
    | with_reducible apply Keeps.ite
    | with_reducible apply Keeps.foldl
    | split
    | dsimp only
    | fail_if_no_progress with_reducible refine Keeps.lit ?_ rfl
    | with_reducible refine Keeps.litDraw ?_ rfl
    | with_reducible refine Keeps.litHost ?_ rfl

theorem State.writeHost_keeps {a s : State} (h : Keeps a s) : ∀ x1 x2, Keeps a (State.writeHost s x1 x2) := by
  intros x d
  unfold State.writeHost
  repeat' first
    | assumption
    | with_reducible apply State.relayWrite_keeps
    | with_reducible apply Keeps.ite
    | with_reducible apply State.forAll_keeps
    | intro _
    | exact h.trans { Keeps.refl s with host := fun k => putHost_wf s.hostMem x d k }
    | with_reducible refine Keeps.lit ?_ rfl

theorem State.raise_keeps {a s : State} (h : Keeps a s) : ∀ x1, Keeps a (State.raise s x1) := by
  intros
  unfold State.raise
  try dsimp only
  repeat' first
    | with_reducible assumption
    | intro _
    | with_reducible apply State.relayWord_keeps
    | with_reducible apply State.emit_keeps
    | with_reducible apply Keeps.ite
    | with_reducible apply Keeps.foldl
    | split
    | dsimp only
    | fail_if_no_progress with_reducible refine Keeps.lit ?_ rfl
    | with_reducible refine Keeps.litDraw ?_ rfl
    | with_reducible refine Keeps.litHost ?_ rfl

theorem State.ringPut_eq_keeps {a s t : State} (h : Keeps a s) {x1 x2 x3 x4} (e : State.ringPut s x1 x2 x3 x4 = some t) :
    Keeps a t := by
  unfold State.ringPut at e
  dsimp only at e
  split at e
  · cases e
  · cases e; exact State.setRegF_keeps (State.writeHost_keeps h _ _) _ _ _ _

theorem State.classFault_keeps {a s : State} (h : Keeps a s) : ∀ x1 x2, Keeps a (State.classFault s x1 x2) := by
  intros
  unfold State.classFault
  try dsimp only
  repeat' first
    | with_reducible assumption
    | intro _
    | with_reducible apply State.setRegBit_keeps
    | with_reducible apply State.raise_keeps
    | with_reducible apply Keeps.ite
    | with_reducible apply Keeps.foldl
    | split
    | dsimp only
    | fail_if_no_progress with_reducible refine Keeps.lit ?_ rfl
    | with_reducible refine Keeps.litDraw ?_ rfl
    | with_reducible refine Keeps.litHost ?_ rfl

end Sys2Proof.Machine
end

