-- ==== Sys2Proof/Laws/KeepsChalk.lean ====
section
/-! SUPPORT. What each operation of Machine/Chalk.lean keeps. -/

namespace Sys2Proof.Machine

set_option linter.unusedTactic false
set_option linter.unreachableTactic false

theorem State.switchSeat_keeps {a s : State} (h : Keeps a s) : ∀ x1 x2, Keeps a (State.switchSeat s x1 x2) := by
  intros
  unfold State.switchSeat
  try dsimp only
  repeat' first
    | with_reducible assumption
    | intro _
    | with_reducible apply State.setDesk_keeps
    | with_reducible apply Keeps.ite
    | with_reducible apply Keeps.foldl
    | split
    | dsimp only
    | fail_if_no_progress with_reducible refine Keeps.lit ?_ rfl
    | with_reducible refine Keeps.litDraw ?_ rfl
    | with_reducible refine Keeps.litHost ?_ rfl

theorem State.useLane_keeps {a s : State} (h : Keeps a s) : ∀ x1, Keeps a (State.useLane s x1) := by
  intros
  unfold State.useLane
  try dsimp only
  repeat' first
    | with_reducible assumption
    | intro _
    | with_reducible apply State.setDesk_keeps
    | with_reducible apply Keeps.ite
    | with_reducible apply Keeps.foldl
    | split
    | dsimp only
    | fail_if_no_progress with_reducible refine Keeps.lit ?_ rfl
    | with_reducible refine Keeps.litDraw ?_ rfl
    | with_reducible refine Keeps.litHost ?_ rfl

theorem State.illegalAt_keeps {a s : State} (h : Keeps a s) : ∀ x1 x2, Keeps a (State.illegalAt s x1 x2) := by
  intros
  unfold State.illegalAt
  try dsimp only
  repeat' first
    | with_reducible assumption
    | intro _
    | with_reducible apply State.setSeat_keeps
    | with_reducible apply State.setDesk_keeps
    | with_reducible apply Keeps.ite
    | with_reducible apply Keeps.foldl
    | split
    | dsimp only
    | fail_if_no_progress with_reducible refine Keeps.lit ?_ rfl
    | with_reducible refine Keeps.litDraw ?_ rfl
    | with_reducible refine Keeps.litHost ?_ rfl

theorem State.issue_keeps {a s : State} {body : State → BitVec 12 → State} (h : Keeps a s)
    (hb : ∀ t x, Keeps a t → Keeps a (body t x)) : ∀ op i, Keeps a (State.issue s op i body) := by
  intro op i
  unfold State.issue
  dsimp only
  repeat' first
    | assumption
    | apply hb
    | with_reducible apply State.illegalAt_keeps
    | with_reducible apply State.useLane_keeps
    | with_reducible apply State.putMe_keeps
    | with_reducible apply State.setDesk_keeps
    | with_reducible apply Keeps.ite

theorem State.issueSeat_keeps {a s : State} (h : Keeps a s) : ∀ op i f, Keeps a (State.issueSeat s op i f) := by
  intro op i f
  exact State.issue_keeps h (fun t _ ht => State.putMe_keeps ht _ _) op i

theorem State.issueS_keeps {a s : State} (h : Keeps a s) : ∀ x1 x2 x3, Keeps a (State.issueS s x1 x2 x3) := by
  intros
  unfold State.issueS
  try dsimp only
  repeat' first
    | with_reducible assumption
    | intro _
    | with_reducible apply State.issueSeat_keeps
    | with_reducible apply Keeps.ite
    | with_reducible apply Keeps.foldl
    | split
    | dsimp only
    | fail_if_no_progress with_reducible refine Keeps.lit ?_ rfl
    | with_reducible refine Keeps.litDraw ?_ rfl
    | with_reducible refine Keeps.litHost ?_ rfl

end Sys2Proof.Machine
end

