-- ==== Sys2Proof/Laws/KeepsChalkVec.lean ====
section
/-! SUPPORT. What each operation of Machine/ChalkVec.lean keeps. -/

namespace Sys2Proof.Machine

set_option linter.unusedTactic false
set_option linter.unreachableTactic false

theorem State.issueV_keeps {a s : State} (h : Keeps a s) : ∀ x1 x2 x3, Keeps a (State.issueV s x1 x2 x3) := by
  intros
  unfold State.issueV
  try dsimp only
  repeat' first
    | with_reducible assumption
    | intro _
    | with_reducible apply State.issueSeat_keeps
    | with_reducible apply Keeps.ite
    | with_reducible apply Keeps.foldl
    | split
    | dsimp only
    | fail_if_no_progress with_reducible refine Keeps.lit ?_ rfl
    | with_reducible refine Keeps.litDraw ?_ rfl
    | with_reducible refine Keeps.litHost ?_ rfl

theorem State.issueLanes_keeps {a s : State} (h : Keeps a s) : ∀ x1 x2 x3, Keeps a (State.issueLanes s x1 x2 x3) := by
  intros
  unfold State.issueLanes
  try dsimp only
  repeat' first
    | with_reducible assumption
    | intro _
    | with_reducible apply State.issueV_keeps
    | with_reducible apply Keeps.ite
    | with_reducible apply Keeps.foldl
    | split
    | dsimp only
    | fail_if_no_progress with_reducible refine Keeps.lit ?_ rfl
    | with_reducible refine Keeps.litDraw ?_ rfl
    | with_reducible refine Keeps.litHost ?_ rfl

theorem State.issueFma_keeps {a s : State} (h : Keeps a s) : ∀ x1 x2 x3, Keeps a (State.issueFma s x1 x2 x3) := by
  intros
  unfold State.issueFma
  try dsimp only
  repeat' first
    | with_reducible assumption
    | intro _
    | with_reducible apply State.issueSeat_keeps
    | with_reducible apply Keeps.ite
    | with_reducible apply Keeps.foldl
    | split
    | dsimp only
    | fail_if_no_progress with_reducible refine Keeps.lit ?_ rfl
    | with_reducible refine Keeps.litDraw ?_ rfl
    | with_reducible refine Keeps.litHost ?_ rfl

end Sys2Proof.Machine
end

