-- ==== Sys2Proof/Laws/KeepsHome.lean ====
section
/-! SUPPORT. What each operation of Machine/Home.lean keeps. -/

namespace Sys2Proof.Machine

set_option linter.unusedTactic false
set_option linter.unreachableTactic false

theorem State.markBad_keeps {a s : State} (h : Keeps a s) : ∀ x1, Keeps a (State.markBad s x1) := by
  intros
  unfold State.markBad
  try dsimp only
  repeat' first
    | with_reducible assumption
    | intro _
    | with_reducible apply State.countWrap_keeps
    | with_reducible apply State.setReg_keeps
    | with_reducible apply State.setRegBit_keeps
    | with_reducible apply Keeps.ite
    | with_reducible apply Keeps.foldl
    | split
    | dsimp only
    | fail_if_no_progress with_reducible refine Keeps.lit ?_ rfl
    | with_reducible refine Keeps.litDraw ?_ rfl
    | with_reducible refine Keeps.litHost ?_ rfl

theorem State.heal_keeps {a s : State} (h : Keeps a s) : ∀ x1, Keeps a (State.heal s x1) := by
  intros
  unfold State.heal
  try dsimp only
  repeat' first
    | with_reducible assumption
    | intro _
    | with_reducible apply State.setRegF_keeps
    | with_reducible apply State.setReg_keeps
    | with_reducible apply Keeps.ite
    | with_reducible apply Keeps.foldl
    | split
    | dsimp only
    | fail_if_no_progress with_reducible refine Keeps.lit ?_ rfl
    | with_reducible refine Keeps.litDraw ?_ rfl
    | with_reducible refine Keeps.litHost ?_ rfl

theorem State.countBad_keeps {a s : State} (h : Keeps a s) : ∀ x1, Keeps a (State.countBad s x1) := by
  intros
  unfold State.countBad
  try dsimp only
  repeat' first
    | with_reducible assumption
    | intro _
    | with_reducible apply State.forAll_keeps
    | with_reducible apply State.count_keeps
    | with_reducible apply Keeps.ite
    | with_reducible apply Keeps.foldl
    | split
    | dsimp only
    | fail_if_no_progress with_reducible refine Keeps.lit ?_ rfl
    | with_reducible refine Keeps.litDraw ?_ rfl
    | with_reducible refine Keeps.litHost ?_ rfl

theorem State.setChan_keeps {a s : State} (h : Keeps a s) : ∀ x1 x2, Keeps a (State.setChan s x1 x2) := by
  intros
  unfold State.setChan
  try dsimp only
  repeat' first
    | with_reducible assumption
    | intro _
    | with_reducible apply Keeps.ite
    | with_reducible apply Keeps.foldl
    | split
    | dsimp only
    | fail_if_no_progress with_reducible refine Keeps.lit ?_ rfl
    | with_reducible refine Keeps.litDraw ?_ rfl
    | with_reducible refine Keeps.litHost ?_ rfl

theorem State.burst_keeps {a s : State} (h : Keeps a s) : ∀ x1 x2 x3, Keeps a (State.burst s x1 x2 x3) := by
  intros
  unfold State.burst
  try dsimp only
  repeat' first
    | with_reducible assumption
    | intro _
    | with_reducible apply State.count_keeps
    | with_reducible apply State.setChan_keeps
    | with_reducible apply Keeps.ite
    | with_reducible apply Keeps.foldl
    | split
    | dsimp only
    | fail_if_no_progress with_reducible refine Keeps.lit ?_ rfl
    | with_reducible refine Keeps.litDraw ?_ rfl
    | with_reducible refine Keeps.litHost ?_ rfl

theorem State.chanTake_keeps {a s : State} (h : Keeps a s) : ∀ x1 x2, Keeps a (State.chanTake s x1 x2) := by
  intros
  unfold State.chanTake
  try dsimp only
  repeat' first
    | with_reducible assumption
    | intro _
    | with_reducible apply State.setChan_keeps
    | with_reducible apply Keeps.ite
    | with_reducible apply Keeps.foldl
    | split
    | dsimp only
    | fail_if_no_progress with_reducible refine Keeps.lit ?_ rfl
    | with_reducible refine Keeps.litDraw ?_ rfl
    | with_reducible refine Keeps.litHost ?_ rfl

theorem State.bankTake_keeps {a s : State} (h : Keeps a s) : ∀ x1 x2, Keeps a (State.bankTake s x1 x2) := by
  intros
  unfold State.bankTake
  try dsimp only
  repeat' first
    | with_reducible assumption
    | intro _
    | with_reducible apply State.setRoom_keeps
    | with_reducible apply Keeps.ite
    | with_reducible apply Keeps.foldl
    | split
    | dsimp only
    | fail_if_no_progress with_reducible refine Keeps.lit ?_ rfl
    | with_reducible refine Keeps.litDraw ?_ rfl
    | with_reducible refine Keeps.litHost ?_ rfl

theorem State.siteTake_keeps {a s : State} (h : Keeps a s) : ∀ x1, Keeps a (State.siteTake s x1) := by
  intros
  unfold State.siteTake
  try dsimp only
  repeat' first
    | with_reducible assumption
    | intro _
    | with_reducible apply State.forAll_keeps
    | with_reducible apply State.bankTake_keeps
    | with_reducible apply State.chanTake_keeps
    | with_reducible apply Keeps.ite
    | with_reducible apply Keeps.foldl
    | split
    | dsimp only
    | fail_if_no_progress with_reducible refine Keeps.lit ?_ rfl
    | with_reducible refine Keeps.litDraw ?_ rfl
    | with_reducible refine Keeps.litHost ?_ rfl

theorem State.setSlot_keeps {a s : State} (h : Keeps a s) : ∀ x1 x2, Keeps a (State.setSlot s x1 x2) := by
  intros
  unfold State.setSlot
  try dsimp only
  repeat' first
    | with_reducible assumption
    | intro _
    | with_reducible apply Keeps.ite
    | with_reducible apply Keeps.foldl
    | split
    | dsimp only
    | fail_if_no_progress with_reducible refine Keeps.lit ?_ rfl
    | with_reducible refine Keeps.litDraw ?_ rfl
    | with_reducible refine Keeps.litHost ?_ rfl

theorem State.dropSlot_keeps {a s : State} (h : Keeps a s) : ∀ x1, Keeps a (State.dropSlot s x1) := by
  intros
  unfold State.dropSlot
  try dsimp only
  repeat' first
    | with_reducible assumption
    | intro _
    | with_reducible apply State.setSlot_keeps
    | with_reducible apply Keeps.ite
    | with_reducible apply Keeps.foldl
    | split
    | dsimp only
    | fail_if_no_progress with_reducible refine Keeps.lit ?_ rfl
    | with_reducible refine Keeps.litDraw ?_ rfl
    | with_reducible refine Keeps.litHost ?_ rfl

theorem State.storeLine_keeps {a s : State} (h : Keeps a s) : ∀ x1 x2 x3, Keeps a (State.storeLine s x1 x2 x3) := by
  intros
  unfold State.storeLine
  try dsimp only
  repeat' first
    | with_reducible assumption
    | intro _
    | with_reducible apply State.setBytes_keeps
    | with_reducible apply State.dropSlot_keeps
    | with_reducible apply State.heal_keeps
    | with_reducible apply Keeps.ite
    | with_reducible apply Keeps.foldl
    | split
    | dsimp only
    | fail_if_no_progress with_reducible refine Keeps.lit ?_ rfl
    | with_reducible refine Keeps.litDraw ?_ rfl
    | with_reducible refine Keeps.litHost ?_ rfl

theorem State.storeMem_snd_keeps {a s : State} (h : Keeps a s) : ∀ x1 x2, Keeps a (State.storeMem s x1 x2).2 := by
  intros
  unfold State.storeMem
  try dsimp only
  repeat' first
    | with_reducible assumption
    | intro _
    | with_reducible apply State.forAll_keeps
    | with_reducible apply State.burst_keeps
    | with_reducible apply State.storeLine_keeps
    | with_reducible apply State.countBad_keeps
    | with_reducible apply Keeps.ite
    | with_reducible apply Keeps.foldl
    | split
    | dsimp only
    | fail_if_no_progress with_reducible refine Keeps.lit ?_ rfl
    | with_reducible refine Keeps.litDraw ?_ rfl
    | with_reducible refine Keeps.litHost ?_ rfl

theorem State.storeMem_eq_keeps {a s t : State} (h : Keeps a s) {x1 x2 y0} (e : State.storeMem s x1 x2 = (y0, t)) : Keeps a t := by
  have k := State.storeMem_snd_keeps h x1 x2
  rw [e] at k; exact k

theorem State.addSlots_snd_keeps {a s : State} (h : Keeps a s) : ∀ x1 x2 x3 x4 x5, Keeps a (State.addSlots s x1 x2 x3 x4 x5).2 := by
  intros
  unfold State.addSlots
  try dsimp only
  repeat' first
    | with_reducible assumption
    | intro _
    | with_reducible apply State.forAll_keeps
    | with_reducible apply State.burst_keeps
    | with_reducible apply State.setBytes_keeps
    | with_reducible apply State.setSlot_keeps
    | with_reducible apply State.countBad_keeps
    | with_reducible apply State.count_keeps
    | with_reducible apply Keeps.ite
    | with_reducible apply Keeps.foldl
    | split
    | dsimp only
    | fail_if_no_progress with_reducible refine Keeps.lit ?_ rfl
    | with_reducible refine Keeps.litDraw ?_ rfl
    | with_reducible refine Keeps.litHost ?_ rfl

theorem State.addSlots_eq_keeps {a s t : State} (h : Keeps a s) {x1 x2 x3 x4 x5 y0} (e : State.addSlots s x1 x2 x3 x4 x5 = (y0, t)) : Keeps a t := by
  have k := State.addSlots_snd_keeps h x1 x2 x3 x4 x5
  rw [e] at k; exact k

theorem State.addInts_snd_keeps {a s : State} (h : Keeps a s) : ∀ x1 x2 x3, Keeps a (State.addInts s x1 x2 x3).2 := by
  intros
  unfold State.addInts
  try dsimp only
  repeat' first
    | with_reducible assumption
    | intro _
    | with_reducible apply State.forAll_keeps
    | with_reducible apply State.burst_keeps
    | with_reducible apply State.setBytes_keeps
    | with_reducible apply State.dropSlot_keeps
    | with_reducible apply State.countBad_keeps
    | with_reducible apply Keeps.ite
    | with_reducible apply Keeps.foldl
    | split
    | dsimp only
    | fail_if_no_progress with_reducible refine Keeps.lit ?_ rfl
    | with_reducible refine Keeps.litDraw ?_ rfl
    | with_reducible refine Keeps.litHost ?_ rfl

theorem State.addInts_eq_keeps {a s t : State} (h : Keeps a s) {x1 x2 x3 y0} (e : State.addInts s x1 x2 x3 = (y0, t)) : Keeps a t := by
  have k := State.addInts_snd_keeps h x1 x2 x3
  rw [e] at k; exact k

theorem State.storeInbox_keeps {a s : State} (h : Keeps a s) : ∀ x1 x2 x3, Keeps a (State.storeInbox s x1 x2 x3) := by
  intros
  unfold State.storeInbox
  try dsimp only
  repeat' first
    | with_reducible assumption
    | intro _
    | with_reducible apply State.addReg_keeps
    | with_reducible apply State.rcvWake_keeps
    | with_reducible apply State.setBytes_keeps
    | with_reducible apply State.setDesk_keeps
    | with_reducible apply Keeps.ite
    | with_reducible apply Keeps.foldl
    | split
    | dsimp only
    | fail_if_no_progress with_reducible refine Keeps.lit ?_ rfl
    | with_reducible refine Keeps.litDraw ?_ rfl
    | with_reducible refine Keeps.litHost ?_ rfl

theorem State.storeRecord_snd_keeps {a s : State} (h : Keeps a s) : ∀ x1 x2, Keeps a (State.storeRecord s x1 x2).2 := by
  intros
  unfold State.storeRecord
  try dsimp only
  repeat' first
    | with_reducible assumption
    | intro _
    | refine State.storeMem_eq_keeps ?_ (by with_reducible assumption)
    | with_reducible apply State.storeMem_snd_keeps
    | with_reducible apply State.count_keeps
    | with_reducible apply Keeps.ite
    | with_reducible apply Keeps.foldl
    | split
    | dsimp only
    | fail_if_no_progress with_reducible refine Keeps.lit ?_ rfl
    | with_reducible refine Keeps.litDraw ?_ rfl
    | with_reducible refine Keeps.litHost ?_ rfl

theorem State.storeRecord_eq_keeps {a s t : State} (h : Keeps a s) {x1 x2 y0} (e : State.storeRecord s x1 x2 = (y0, t)) : Keeps a t := by
  have k := State.storeRecord_snd_keeps h x1 x2
  rw [e] at k; exact k

theorem State.performMem_snd_keeps {a s : State} (h : Keeps a s) : ∀ x1 x2 x3, Keeps a (State.performMem s x1 x2 x3).2.2 := by
  intros
  unfold State.performMem
  try dsimp only
  repeat' first
    | with_reducible assumption
    | intro _
    | with_reducible apply State.forAll_keeps
    | with_reducible apply State.burst_keeps
    | with_reducible apply State.countBad_keeps
    | refine State.storeRecord_eq_keeps ?_ (by with_reducible assumption)
    | with_reducible apply State.storeRecord_snd_keeps
    | with_reducible apply State.storeInbox_keeps
    | refine State.storeMem_eq_keeps ?_ (by with_reducible assumption)
    | with_reducible apply State.storeMem_snd_keeps
    | refine State.addSlots_eq_keeps ?_ (by with_reducible assumption)
    | with_reducible apply State.addSlots_snd_keeps
    | refine State.addInts_eq_keeps ?_ (by with_reducible assumption)
    | with_reducible apply State.addInts_snd_keeps
    | with_reducible apply State.setBytes_keeps
    | with_reducible apply State.dropSlot_keeps
    | with_reducible apply Keeps.ite
    | with_reducible apply Keeps.foldl
    | split
    | dsimp only
    | fail_if_no_progress with_reducible refine Keeps.lit ?_ rfl
    | with_reducible refine Keeps.litDraw ?_ rfl
    | with_reducible refine Keeps.litHost ?_ rfl

theorem State.performMem_eq_keeps {a s t : State} (h : Keeps a s) {x1 x2 x3 y0 y1} (e : State.performMem s x1 x2 x3 = (y0, y1, t)) : Keeps a t := by
  have k := State.performMem_snd_keeps h x1 x2 x3
  rw [e] at k; exact k

theorem State.setDir_keeps {a s : State} (h : Keeps a s) : ∀ x1 x2, Keeps a (State.setDir s x1 x2) := by
  intros
  unfold State.setDir
  try dsimp only
  repeat' first
    | with_reducible assumption
    | intro _
    | with_reducible apply Keeps.ite
    | with_reducible apply Keeps.foldl
    | split
    | dsimp only
    | fail_if_no_progress with_reducible refine Keeps.lit ?_ rfl
    | with_reducible refine Keeps.litDraw ?_ rfl
    | with_reducible refine Keeps.litHost ?_ rfl

theorem State.sendSnoop_keeps {a s : State} (h : Keeps a s) : ∀ x1 x2 x3, Keeps a (State.sendSnoop s x1 x2 x3) := by
  intros
  unfold State.sendSnoop
  try dsimp only
  repeat' first
    | with_reducible assumption
    | intro _
    | with_reducible apply State.admitFrame_keeps
    | with_reducible apply Keeps.ite
    | with_reducible apply Keeps.foldl
    | split
    | dsimp only
    | fail_if_no_progress with_reducible refine Keeps.lit ?_ rfl
    | with_reducible refine Keeps.litDraw ?_ rfl
    | with_reducible refine Keeps.litHost ?_ rfl

theorem State.beginTrans_keeps {a s : State} (h : Keeps a s) : ∀ x1 x2 x3, Keeps a (State.beginTrans s x1 x2 x3) := by
  intros
  unfold State.beginTrans
  try dsimp only
  repeat' first
    | with_reducible assumption
    | intro _
    | with_reducible apply State.forAll_keeps
    | with_reducible apply State.sendSnoop_keeps
    | with_reducible apply Keeps.ite
    | with_reducible apply Keeps.foldl
    | split
    | dsimp only
    | fail_if_no_progress with_reducible refine Keeps.lit ?_ rfl
    | with_reducible refine Keeps.litDraw ?_ rfl
    | with_reducible refine Keeps.litHost ?_ rfl

theorem State.finish_keeps {a s : State} (h : Keeps a s) : ∀ x1 x2 x3 x4, Keeps a (State.finish s x1 x2 x3 x4) := by
  intros
  unfold State.finish
  try dsimp only
  repeat' first
    | with_reducible assumption
    | intro _
    | with_reducible apply State.remember_keeps
    | with_reducible apply State.classFault_keeps
    | with_reducible apply State.count_keeps
    | with_reducible apply State.answerVia_keeps
    | with_reducible apply Keeps.ite
    | with_reducible apply Keeps.foldl
    | split
    | dsimp only
    | fail_if_no_progress with_reducible refine Keeps.lit ?_ rfl
    | with_reducible refine Keeps.litDraw ?_ rfl
    | with_reducible refine Keeps.litHost ?_ rfl

theorem State.seenAt_keeps {a s : State} (h : Keeps a s) : ∀ x1 x2, Keeps a (State.seenAt s x1 x2) := by
  intros
  unfold State.seenAt
  try dsimp only
  repeat' first
    | with_reducible assumption
    | intro _
    | with_reducible apply Keeps.ite
    | with_reducible apply Keeps.foldl
    | split
    | dsimp only
    | fail_if_no_progress with_reducible refine Keeps.lit ?_ rfl
    | with_reducible refine Keeps.litDraw ?_ rfl
    | with_reducible refine Keeps.litHost ?_ rfl

theorem State.setBad_keeps {a s : State} (h : Keeps a s) : ∀ x1 x2, Keeps a (State.setBad s x1 x2) := by
  intros
  unfold State.setBad
  try dsimp only
  repeat' first
    | with_reducible assumption
    | intro _
    | with_reducible apply Keeps.ite
    | with_reducible apply Keeps.foldl
    | split
    | dsimp only
    | fail_if_no_progress with_reducible refine Keeps.lit ?_ rfl
    | with_reducible refine Keeps.litDraw ?_ rfl
    | with_reducible refine Keeps.litHost ?_ rfl

theorem State.performAnswer_keeps {a s : State} (h : Keeps a s) : ∀ x1 x2 x3 x4 x5, Keeps a (State.performAnswer s x1 x2 x3 x4 x5) := by
  intros
  unfold State.performAnswer
  try dsimp only
  repeat' first
    | with_reducible assumption
    | intro _
    | refine State.performMem_eq_keeps ?_ (by with_reducible assumption)
    | with_reducible apply State.performMem_snd_keeps
    | with_reducible apply State.forAll_keeps
    | with_reducible apply State.setBad_keeps
    | with_reducible apply State.siteTake_keeps
    | with_reducible apply State.seenAt_keeps
    | with_reducible apply State.finish_keeps
    | with_reducible apply Keeps.ite
    | with_reducible apply Keeps.foldl
    | split
    | dsimp only
    | fail_if_no_progress with_reducible refine Keeps.lit ?_ rfl
    | with_reducible refine Keeps.litDraw ?_ rfl
    | with_reducible refine Keeps.litHost ?_ rfl

theorem State.snoopWaited_keeps {a s : State} (h : Keeps a s) : ∀ x1 x2, Keeps a (State.snoopWaited s x1 x2) := by
  intros
  unfold State.snoopWaited
  try dsimp only
  repeat' first
    | with_reducible assumption
    | intro _
    | with_reducible apply State.addReg_keeps
    | with_reducible apply Keeps.ite
    | with_reducible apply Keeps.foldl
    | split
    | dsimp only
    | fail_if_no_progress with_reducible refine Keeps.lit ?_ rfl
    | with_reducible refine Keeps.litDraw ?_ rfl
    | with_reducible refine Keeps.litHost ?_ rfl

theorem State.performLate_keeps {a s : State} (h : Keeps a s) : ∀ x1 x2 x3 x4 x5, Keeps a (State.performLate s x1 x2 x3 x4 x5) := by
  intros
  unfold State.performLate
  try dsimp only
  repeat' first
    | with_reducible assumption
    | intro _
    | with_reducible apply State.finish_keeps
    | with_reducible apply State.count_keeps
    | with_reducible apply State.performAnswer_keeps
    | with_reducible apply Keeps.ite
    | with_reducible apply Keeps.foldl
    | split
    | dsimp only
    | fail_if_no_progress with_reducible refine Keeps.lit ?_ rfl
    | with_reducible refine Keeps.litDraw ?_ rfl
    | with_reducible refine Keeps.litHost ?_ rfl

theorem State.serveAccess_keeps {a s : State} (h : Keeps a s) : ∀ x1 x2 x3 x4, Keeps a (State.serveAccess s x1 x2 x3 x4) := by
  intros
  unfold State.serveAccess
  try dsimp only
  repeat' first
    | with_reducible assumption
    | intro _
    | with_reducible apply State.performLate_keeps
    | with_reducible apply State.snoopWaited_keeps
    | with_reducible apply State.beginTrans_keeps
    | with_reducible apply Keeps.ite
    | with_reducible apply Keeps.foldl
    | split
    | dsimp only
    | fail_if_no_progress with_reducible refine Keeps.lit ?_ rfl
    | with_reducible refine Keeps.litDraw ?_ rfl
    | with_reducible refine Keeps.litHost ?_ rfl

theorem State.arriveHome_keeps {a s : State} (h : Keeps a s) : ∀ x1 x2, Keeps a (State.arriveHome s x1 x2) := by
  intros
  unfold State.arriveHome
  try dsimp only
  repeat' first
    | with_reducible assumption
    | intro _
    | with_reducible apply State.serveAccess_keeps
    | with_reducible apply Keeps.ite
    | with_reducible apply Keeps.foldl
    | split
    | dsimp only
    | fail_if_no_progress with_reducible refine Keeps.lit ?_ rfl
    | with_reducible refine Keeps.litDraw ?_ rfl
    | with_reducible refine Keeps.litHost ?_ rfl

theorem State.atHome_keeps {a s : State} (h : Keeps a s) : ∀ x1 x2, Keeps a (State.atHome s x1 x2) := by
  intros
  unfold State.atHome
  try dsimp only
  repeat' first
    | with_reducible assumption
    | intro _
    | with_reducible apply State.finish_keeps
    | with_reducible apply State.arriveHome_keeps
    | with_reducible apply Keeps.ite
    | with_reducible apply Keeps.foldl
    | split
    | dsimp only
    | fail_if_no_progress with_reducible refine Keeps.lit ?_ rfl
    | with_reducible refine Keeps.litDraw ?_ rfl
    | with_reducible refine Keeps.litHost ?_ rfl

theorem State.checked_keeps {a s : State} {k : State → State} (h : Keeps a s) (hk : ∀ t, Keeps a t → Keeps a (k t)) :
    ∀ x, Keeps a (State.checked s x k) := by
  intro x
  unfold State.checked
  split
  · split
    · rename_i e; exact State.seqCheck_eq_keeps h e
    · rename_i e; exact hk _ (State.seqCheck_eq_keeps h e)
    · rename_i e
      have h' := State.seqCheck_eq_keeps h e
      split
      · apply hk; with_reducible refine Keeps.lit ?_ rfl; exact h'
      · exact State.answerVia_keeps h' _ _ _ _
  · exact hk s h

end Sys2Proof.Machine
end

