-- ==== Sys2Proof/Laws/KeepsCoherence.lean ====
section
/-! SUPPORT. What each operation of Machine/Coherence.lean keeps. -/

namespace Sys2Proof.Machine

set_option linter.unusedTactic false
set_option linter.unreachableTactic false

theorem State.cohAnswer_keeps {a s : State} (h : Keeps a s) : ∀ x1 x2 x3 x4, Keeps a (State.cohAnswer s x1 x2 x3 x4) := by
  intros
  unfold State.cohAnswer
  try dsimp only
  repeat' first
    | with_reducible assumption
    | intro _
    | with_reducible apply State.sendRouted_keeps
    | with_reducible apply State.remember_keeps
    | with_reducible apply Keeps.ite
    | with_reducible apply Keeps.foldl
    | split
    | dsimp only
    | fail_if_no_progress with_reducible refine Keeps.lit ?_ rfl
    | with_reducible refine Keeps.litDraw ?_ rfl
    | with_reducible refine Keeps.litHost ?_ rfl

theorem State.answerRetry_keeps {a s : State} (h : Keeps a s) : ∀ x1 x2, Keeps a (State.answerRetry s x1 x2) := by
  intros
  unfold State.answerRetry
  try dsimp only
  repeat' first
    | with_reducible assumption
    | intro _
    | with_reducible apply State.count_keeps
    | with_reducible apply State.cohAnswer_keeps
    | with_reducible apply Keeps.ite
    | with_reducible apply Keeps.foldl
    | split
    | dsimp only
    | fail_if_no_progress with_reducible refine Keeps.lit ?_ rfl
    | with_reducible refine Keeps.litDraw ?_ rfl
    | with_reducible refine Keeps.litHost ?_ rfl

theorem State.clearRetries_keeps {a s : State} (h : Keeps a s) : ∀ x1 x2, Keeps a (State.clearRetries s x1 x2) := by
  intros
  unfold State.clearRetries
  try dsimp only
  repeat' first
    | with_reducible assumption
    | intro _
    | with_reducible apply Keeps.ite
    | with_reducible apply Keeps.foldl
    | split
    | dsimp only
    | fail_if_no_progress with_reducible refine Keeps.lit ?_ rfl
    | with_reducible refine Keeps.litDraw ?_ rfl
    | with_reducible refine Keeps.litHost ?_ rfl

theorem State.served_keeps {a s : State} (h : Keeps a s) : ∀ x1 x2, Keeps a (State.served s x1 x2) := by
  intros
  unfold State.served
  try dsimp only
  repeat' first
    | with_reducible assumption
    | intro _
    | with_reducible apply State.clearRetries_keeps
    | with_reducible apply Keeps.ite
    | with_reducible apply Keeps.foldl
    | split
    | dsimp only
    | fail_if_no_progress with_reducible refine Keeps.lit ?_ rfl
    | with_reducible refine Keeps.litDraw ?_ rfl
    | with_reducible refine Keeps.litHost ?_ rfl

theorem State.cohFail_keeps {a s : State} (h : Keeps a s) : ∀ x1 x2 x3, Keeps a (State.cohFail s x1 x2 x3) := by
  intros
  unfold State.cohFail
  try dsimp only
  repeat' first
    | with_reducible assumption
    | intro _
    | with_reducible apply State.cohAnswer_keeps
    | with_reducible apply State.clearRetries_keeps
    | with_reducible apply Keeps.ite
    | with_reducible apply Keeps.foldl
    | split
    | dsimp only
    | fail_if_no_progress with_reducible refine Keeps.lit ?_ rfl
    | with_reducible refine Keeps.litDraw ?_ rfl
    | with_reducible refine Keeps.litHost ?_ rfl

theorem State.grantMem_keeps {a s : State} (h : Keeps a s) : ∀ x1 x2 x3 x4 x5, Keeps a (State.grantMem s x1 x2 x3 x4 x5) := by
  intros
  unfold State.grantMem
  try dsimp only
  repeat' first
    | with_reducible assumption
    | intro _
    | with_reducible apply State.chanTake_keeps
    | with_reducible apply State.burst_keeps
    | with_reducible apply State.served_keeps
    | with_reducible apply State.cohAnswer_keeps
    | with_reducible apply State.setDir_keeps
    | with_reducible apply State.countBad_keeps
    | with_reducible apply Keeps.ite
    | with_reducible apply Keeps.foldl
    | split
    | dsimp only
    | fail_if_no_progress with_reducible refine Keeps.lit ?_ rfl
    | with_reducible refine Keeps.litDraw ?_ rfl
    | with_reducible refine Keeps.litHost ?_ rfl

theorem State.grantData_keeps {a s : State} (h : Keeps a s) : ∀ x1 x2 x3 x4 x5, Keeps a (State.grantData s x1 x2 x3 x4 x5) := by
  intros
  unfold State.grantData
  try dsimp only
  repeat' first
    | with_reducible assumption
    | intro _
    | with_reducible apply State.cohAnswer_keeps
    | with_reducible apply State.setDir_keeps
    | with_reducible apply State.served_keeps
    | with_reducible apply Keeps.ite
    | with_reducible apply Keeps.foldl
    | split
    | dsimp only
    | fail_if_no_progress with_reducible refine Keeps.lit ?_ rfl
    | with_reducible refine Keeps.litDraw ?_ rfl
    | with_reducible refine Keeps.litHost ?_ rfl

theorem State.grantBare_keeps {a s : State} (h : Keeps a s) : ∀ x1 x2, Keeps a (State.grantBare s x1 x2) := by
  intros
  unfold State.grantBare
  try dsimp only
  repeat' first
    | with_reducible assumption
    | intro _
    | with_reducible apply State.cohAnswer_keeps
    | with_reducible apply State.setDir_keeps
    | with_reducible apply State.served_keeps
    | with_reducible apply Keeps.ite
    | with_reducible apply Keeps.foldl
    | split
    | dsimp only
    | fail_if_no_progress with_reducible refine Keeps.lit ?_ rfl
    | with_reducible refine Keeps.litDraw ?_ rfl
    | with_reducible refine Keeps.litHost ?_ rfl

theorem State.grantCoh_keeps {a s : State} (h : Keeps a s) : ∀ x1 x2 x3, Keeps a (State.grantCoh s x1 x2 x3) := by
  intros
  unfold State.grantCoh
  try dsimp only
  repeat' first
    | with_reducible assumption
    | intro _
    | with_reducible apply State.grantData_keeps
    | with_reducible apply State.grantMem_keeps
    | with_reducible apply State.grantBare_keeps
    | with_reducible apply Keeps.ite
    | with_reducible apply Keeps.foldl
    | split
    | dsimp only
    | fail_if_no_progress with_reducible refine Keeps.lit ?_ rfl
    | with_reducible refine Keeps.litDraw ?_ rfl
    | with_reducible refine Keeps.litHost ?_ rfl

theorem State.cohRequest_keeps {a s : State} (h : Keeps a s) : ∀ x1 x2, Keeps a (State.cohRequest s x1 x2) := by
  intros
  unfold State.cohRequest
  try dsimp only
  repeat' first
    | with_reducible assumption
    | intro _
    | with_reducible apply State.cohFail_keeps
    | with_reducible apply State.answerRetry_keeps
    | with_reducible apply State.grantCoh_keeps
    | with_reducible apply State.beginTrans_keeps
    | with_reducible apply Keeps.ite
    | with_reducible apply Keeps.foldl
    | split
    | dsimp only
    | fail_if_no_progress with_reducible refine Keeps.lit ?_ rfl
    | with_reducible refine Keeps.litDraw ?_ rfl
    | with_reducible refine Keeps.litHost ?_ rfl

theorem State.writeBack_keeps {a s : State} (h : Keeps a s) : ∀ x1 x2, Keeps a (State.writeBack s x1 x2) := by
  intros
  unfold State.writeBack
  try dsimp only
  repeat' first
    | with_reducible assumption
    | intro _
    | with_reducible apply State.burst_keeps
    | with_reducible apply State.storeLine_keeps
    | with_reducible apply Keeps.ite
    | with_reducible apply Keeps.foldl
    | split
    | dsimp only
    | fail_if_no_progress with_reducible refine Keeps.lit ?_ rfl
    | with_reducible refine Keeps.litDraw ?_ rfl
    | with_reducible refine Keeps.litHost ?_ rfl

theorem State.servePut_keeps {a s : State} (h : Keeps a s) : ∀ x1 x2, Keeps a (State.servePut s x1 x2) := by
  intros
  unfold State.servePut
  try dsimp only
  repeat' first
    | with_reducible assumption
    | intro _
    | with_reducible apply State.cohAnswer_keeps
    | with_reducible apply State.setDir_keeps
    | with_reducible apply State.writeBack_keeps
    | with_reducible apply Keeps.ite
    | with_reducible apply Keeps.foldl
    | split
    | dsimp only
    | fail_if_no_progress with_reducible refine Keeps.lit ?_ rfl
    | with_reducible refine Keeps.litDraw ?_ rfl
    | with_reducible refine Keeps.litHost ?_ rfl

theorem State.cohPut_keeps {a s : State} (h : Keeps a s) : ∀ x1 x2, Keeps a (State.cohPut s x1 x2) := by
  intros
  unfold State.cohPut
  try dsimp only
  repeat' first
    | with_reducible assumption
    | intro _
    | with_reducible apply State.cohAnswer_keeps
    | with_reducible apply State.servePut_keeps
    | with_reducible apply Keeps.ite
    | with_reducible apply Keeps.foldl
    | split
    | dsimp only
    | fail_if_no_progress with_reducible refine Keeps.lit ?_ rfl
    | with_reducible refine Keeps.litDraw ?_ rfl
    | with_reducible refine Keeps.litHost ?_ rfl

theorem State.stableNow_keeps {a s : State} (h : Keeps a s) : ∀ x1, Keeps a (State.stableNow s x1) := by
  intros
  unfold State.stableNow
  try dsimp only
  repeat' first
    | with_reducible assumption
    | intro _
    | with_reducible apply Keeps.ite
    | with_reducible apply Keeps.foldl
    | split
    | dsimp only
    | fail_if_no_progress with_reducible refine Keeps.lit ?_ rfl
    | with_reducible refine Keeps.litDraw ?_ rfl
    | with_reducible refine Keeps.litHost ?_ rfl

theorem State.writeBacks_keeps {a s : State} (h : Keeps a s) : ∀ x1, Keeps a (State.writeBacks s x1) := by
  intros
  unfold State.writeBacks
  try dsimp only
  repeat' first
    | with_reducible assumption
    | intro _
    | with_reducible apply State.forAll_keeps
    | with_reducible apply State.writeBack_keeps
    | with_reducible apply Keeps.ite
    | with_reducible apply Keeps.foldl
    | split
    | dsimp only
    | fail_if_no_progress with_reducible refine Keeps.lit ?_ rfl
    | with_reducible refine Keeps.litDraw ?_ rfl
    | with_reducible refine Keeps.litHost ?_ rfl

theorem State.grantLost_keeps {a s : State} (h : Keeps a s) : ∀ x1 x2 x3, Keeps a (State.grantLost s x1 x2 x3) := by
  intros
  unfold State.grantLost
  try dsimp only
  repeat' first
    | with_reducible assumption
    | intro _
    | with_reducible apply State.grantCoh_keeps
    | with_reducible apply State.setDir_keeps
    | with_reducible apply State.writeBack_keeps
    | with_reducible apply Keeps.ite
    | with_reducible apply Keeps.foldl
    | split
    | dsimp only
    | fail_if_no_progress with_reducible refine Keeps.lit ?_ rfl
    | with_reducible refine Keeps.litDraw ?_ rfl
    | with_reducible refine Keeps.litHost ?_ rfl

theorem State.endTrans_keeps {a s : State} (h : Keeps a s) : ∀ x1, Keeps a (State.endTrans s x1) := by
  intros
  unfold State.endTrans
  try dsimp only
  repeat' first
    | with_reducible assumption
    | intro _
    | with_reducible apply State.stableNow_keeps
    | with_reducible apply State.writeBacks_keeps
    | with_reducible apply State.cohFail_keeps
    | with_reducible apply State.grantLost_keeps
    | with_reducible apply State.grantCoh_keeps
    | with_reducible apply State.snoopWaited_keeps
    | with_reducible apply State.finish_keeps
    | with_reducible apply State.performLate_keeps
    | with_reducible apply State.forAll_keeps
    | with_reducible apply State.setDir_keeps
    | with_reducible apply Keeps.ite
    | with_reducible apply Keeps.foldl
    | split
    | dsimp only
    | fail_if_no_progress with_reducible refine Keeps.lit ?_ rfl
    | with_reducible refine Keeps.litDraw ?_ rfl
    | with_reducible refine Keeps.litHost ?_ rfl

theorem State.snoopAnswered_keeps {a s : State} (h : Keeps a s) : ∀ x1 x2, Keeps a (State.snoopAnswered s x1 x2) := by
  intros
  unfold State.snoopAnswered
  try dsimp only
  repeat' first
    | with_reducible assumption
    | intro _
    | with_reducible apply State.markBad_keeps
    | with_reducible apply State.setDir_keeps
    | with_reducible apply State.endTrans_keeps
    | with_reducible apply Keeps.ite
    | with_reducible apply Keeps.foldl
    | split
    | dsimp only
    | fail_if_no_progress with_reducible refine Keeps.lit ?_ rfl
    | with_reducible refine Keeps.litDraw ?_ rfl
    | with_reducible refine Keeps.litHost ?_ rfl

theorem State.runWaiting_keeps {a s : State} (h : Keeps a s) : Keeps a (State.runWaiting s) := by
  unfold State.runWaiting
  try dsimp only
  repeat' first
    | with_reducible assumption
    | intro _
    | with_reducible apply State.forAll_keeps
    | with_reducible apply State.cohRequest_keeps
    | with_reducible apply State.servePut_keeps
    | with_reducible apply State.serveAccess_keeps
    | with_reducible apply Keeps.ite
    | with_reducible apply Keeps.foldl
    | split
    | dsimp only
    | fail_if_no_progress with_reducible refine Keeps.lit ?_ rfl
    | with_reducible refine Keeps.litDraw ?_ rfl
    | with_reducible refine Keeps.litHost ?_ rfl

theorem State.logLost_keeps {a s : State} (h : Keeps a s) : ∀ x1, Keeps a (State.logLost s x1) := by
  intro line
  unfold State.logLost
  exact Keeps.getD (fun _ e => State.ringPut_eq_keeps h e) (State.setRegBit_keeps h _ _ _)

theorem State.markLost_keeps {a s : State} (h : Keeps a s) : ∀ x1 x2, Keeps a (State.markLost s x1 x2) := by
  intros
  unfold State.markLost
  try dsimp only
  repeat' first
    | with_reducible assumption
    | intro _
    | with_reducible apply State.logLost_keeps
    | with_reducible apply Keeps.ite
    | with_reducible apply Keeps.foldl
    | split
    | dsimp only
    | fail_if_no_progress with_reducible refine Keeps.lit ?_ rfl
    | with_reducible refine Keeps.litDraw ?_ rfl
    | with_reducible refine Keeps.litHost ?_ rfl

theorem State.loseSatchel_keeps {a s : State} (h : Keeps a s) : ∀ x1, Keeps a (State.loseSatchel s x1) := by
  intros
  unfold State.loseSatchel
  try dsimp only
  repeat' first
    | with_reducible assumption
    | intro _
    | with_reducible apply State.forAll_keeps
    | with_reducible apply State.setDir_keeps
    | with_reducible apply State.markLost_keeps
    | with_reducible apply State.raise_keeps
    | with_reducible apply State.setRegBit_keeps
    | with_reducible apply State.endTrans_keeps
    | with_reducible apply Keeps.ite
    | with_reducible apply Keeps.foldl
    | split
    | dsimp only
    | fail_if_no_progress with_reducible refine Keeps.lit ?_ rfl
    | with_reducible refine Keeps.litDraw ?_ rfl
    | with_reducible refine Keeps.litHost ?_ rfl

theorem State.releaseLine_keeps {a s : State} (h : Keeps a s) : ∀ x1, Keeps a (State.releaseLine s x1) := by
  intros
  unfold State.releaseLine
  try dsimp only
  repeat' first
    | with_reducible assumption
    | intro _
    | with_reducible apply Keeps.ite
    | with_reducible apply Keeps.foldl
    | split
    | dsimp only
    | fail_if_no_progress with_reducible refine Keeps.lit ?_ rfl
    | with_reducible refine Keeps.litDraw ?_ rfl
    | with_reducible refine Keeps.litHost ?_ rfl

theorem State.leaveDone_keeps {a s : State} (h : Keeps a s) : ∀ x1, Keeps a (State.leaveDone s x1) := by
  intros
  unfold State.leaveDone
  try dsimp only
  repeat' first
    | with_reducible assumption
    | intro _
    | with_reducible apply State.setRegBit_keeps
    | with_reducible apply Keeps.ite
    | with_reducible apply Keeps.foldl
    | split
    | dsimp only
    | fail_if_no_progress with_reducible refine Keeps.lit ?_ rfl
    | with_reducible refine Keeps.litDraw ?_ rfl
    | with_reducible refine Keeps.litHost ?_ rfl

theorem State.sendFlush_keeps {a s : State} (h : Keeps a s) : ∀ x1, Keeps a (State.sendFlush s x1) := by
  intros
  unfold State.sendFlush
  try dsimp only
  repeat' first
    | with_reducible assumption
    | intro _
    | with_reducible apply State.sendSnoop_keeps
    | with_reducible apply Keeps.ite
    | with_reducible apply Keeps.foldl
    | split
    | dsimp only
    | fail_if_no_progress with_reducible refine Keeps.lit ?_ rfl
    | with_reducible refine Keeps.litDraw ?_ rfl
    | with_reducible refine Keeps.litHost ?_ rfl

theorem State.writeMembers_keeps {a s : State} (h : Keeps a s) : ∀ x1, Keeps a (State.writeMembers s x1) := by
  intros
  unfold State.writeMembers
  try dsimp only
  repeat' first
    | with_reducible assumption
    | intro _
    | with_reducible apply State.setReg_keeps
    | with_reducible apply State.setRegBit_keeps
    | with_reducible apply State.forAll_keeps
    | with_reducible apply State.sendFlush_keeps
    | with_reducible apply Keeps.ite
    | with_reducible apply Keeps.foldl
    | split
    | dsimp only
    | fail_if_no_progress with_reducible refine Keeps.lit ?_ rfl
    | with_reducible refine Keeps.litDraw ?_ rfl
    | with_reducible refine Keeps.litHost ?_ rfl

theorem State.cohChecked_keeps {a s : State} {k : State → State} (h : Keeps a s) (hk : ∀ t, Keeps a t → Keeps a (k t)) :
    ∀ x, Keeps a (State.cohChecked s x k) := by
  intro x
  unfold State.cohChecked
  split
  · rename_i e; exact State.seqCheck_eq_keeps h e
  · rename_i e; exact hk _ (State.seqCheck_eq_keeps h e)
  · rename_i e; exact State.sendRouted_keeps (State.seqCheck_eq_keeps h e) _ _ _

theorem State.lineRelease_keeps {a s : State} (h : Keeps a s) : ∀ x1, Keeps a (State.lineRelease s x1) := by
  intros
  unfold State.lineRelease
  try dsimp only
  repeat' first
    | with_reducible assumption
    | intro _
    | with_reducible apply State.releaseLine_keeps
    | with_reducible apply Keeps.ite
    | with_reducible apply Keeps.foldl
    | split
    | dsimp only
    | fail_if_no_progress with_reducible refine Keeps.lit ?_ rfl
    | with_reducible refine Keeps.litDraw ?_ rfl
    | with_reducible refine Keeps.litHost ?_ rfl

theorem State.portRelease_keeps {a s : State} (h : Keeps a s) : ∀ x1, Keeps a (State.portRelease s x1) := by
  intros
  unfold State.portRelease
  try dsimp only
  repeat' first
    | with_reducible assumption
    | intro _
    | with_reducible apply Keeps.ite
    | with_reducible apply Keeps.foldl
    | split
    | dsimp only
    | fail_if_no_progress with_reducible refine Keeps.lit ?_ rfl
    | with_reducible refine Keeps.litDraw ?_ rfl
    | with_reducible refine Keeps.litHost ?_ rfl

end Sys2Proof.Machine
end

