-- ==== Sys2Proof/Laws/KeepsXlate.lean ====
section
/-! SUPPORT. What each operation of Machine/Xlate.lean keeps. -/

namespace Sys2Proof.Machine

set_option linter.unusedTactic false
set_option linter.unreachableTactic false

theorem State.takeLine_keeps {a s : State} (h : Keeps a s) : ∀ x1, Keeps a (State.takeLine s x1) := by
  intros
  unfold State.takeLine
  try dsimp only
  repeat' first
    | with_reducible assumption
    | intro _
    | with_reducible apply State.writeBack_keeps
    | with_reducible apply State.setDir_keeps
    | with_reducible apply State.forAll_keeps
    | with_reducible apply State.setDep_keeps
    | with_reducible apply Keeps.ite
    | with_reducible apply Keeps.foldl
    | split
    | dsimp only
    | fail_if_no_progress with_reducible refine Keeps.lit ?_ rfl
    | with_reducible refine Keeps.litDraw ?_ rfl
    | with_reducible refine Keeps.litHost ?_ rfl

theorem State.tellTrans_keeps {a s : State} (h : Keeps a s) : ∀ x1 x2, Keeps a (State.tellTrans s x1 x2) := by
  intros
  unfold State.tellTrans
  try dsimp only
  repeat' first
    | with_reducible assumption
    | intro _
    | with_reducible apply Keeps.ite
    | with_reducible apply Keeps.foldl
    | split
    | dsimp only
    | fail_if_no_progress with_reducible refine Keeps.lit ?_ rfl
    | with_reducible refine Keeps.litDraw ?_ rfl
    | with_reducible refine Keeps.litHost ?_ rfl

theorem State.poke_keeps {a s : State} (h : Keeps a s) : ∀ x1 x2, Keeps a (State.poke s x1 x2) := by
  intros
  unfold State.poke
  try dsimp only
  repeat' first
    | with_reducible assumption
    | intro _
    | refine State.storeMem_eq_keeps ?_ (by with_reducible assumption)
    | with_reducible apply State.storeMem_snd_keeps
    | with_reducible apply State.tellTrans_keeps
    | with_reducible apply State.forAll_keeps
    | with_reducible apply State.takeLine_keeps
    | with_reducible apply Keeps.ite
    | with_reducible apply Keeps.foldl
    | split
    | dsimp only
    | fail_if_no_progress with_reducible refine Keeps.lit ?_ rfl
    | with_reducible refine Keeps.litDraw ?_ rfl
    | with_reducible refine Keeps.litHost ?_ rfl

theorem State.startWalk_snd_keeps {a s : State} (h : Keeps a s) : ∀ x1 x2 x3 x4 x5, Keeps a (State.startWalk s x1 x2 x3 x4 x5).2 := by
  intros
  unfold State.startWalk
  try dsimp only
  repeat' first
    | with_reducible assumption
    | intro _
    | with_reducible apply Keeps.ite
    | with_reducible apply Keeps.foldl
    | split
    | dsimp only
    | fail_if_no_progress with_reducible refine Keeps.lit ?_ rfl
    | with_reducible refine Keeps.litDraw ?_ rfl
    | with_reducible refine Keeps.litHost ?_ rfl

theorem State.startWalk_eq_keeps {a s t : State} (h : Keeps a s) {x1 x2 x3 x4 x5 y0} (e : State.startWalk s x1 x2 x3 x4 x5 = (y0, t)) : Keeps a t := by
  have k := State.startWalk_snd_keeps h x1 x2 x3 x4 x5
  rw [e] at k; exact k

theorem State.setWalk_keeps {a s : State} (h : Keeps a s) : ∀ x1, Keeps a (State.setWalk s x1) := by
  intros
  unfold State.setWalk
  try dsimp only
  repeat' first
    | with_reducible assumption
    | intro _
    | with_reducible apply Keeps.ite
    | with_reducible apply Keeps.foldl
    | split
    | dsimp only
    | fail_if_no_progress with_reducible refine Keeps.lit ?_ rfl
    | with_reducible refine Keeps.litDraw ?_ rfl
    | with_reducible refine Keeps.litHost ?_ rfl

theorem State.useEntry_keeps {a s : State} (h : Keeps a s) : ∀ x1 x2, Keeps a (State.useEntry s x1 x2) := by
  intros
  unfold State.useEntry
  try dsimp only
  repeat' first
    | with_reducible assumption
    | intro _
    | with_reducible apply State.setWalk_keeps
    | with_reducible apply Keeps.ite
    | with_reducible apply Keeps.foldl
    | split
    | dsimp only
    | fail_if_no_progress with_reducible refine Keeps.lit ?_ rfl
    | with_reducible refine Keeps.litDraw ?_ rfl
    | with_reducible refine Keeps.litHost ?_ rfl

theorem State.walkRead_keeps {a s : State} (h : Keeps a s) : ∀ x1 x2, Keeps a (State.walkRead s x1 x2) := by
  intros
  unfold State.walkRead
  try dsimp only
  repeat' first
    | with_reducible assumption
    | intro _
    | with_reducible apply State.setWalk_keeps
    | with_reducible apply State.useEntry_keeps
    | with_reducible apply State.chanTake_keeps
    | with_reducible apply State.burst_keeps
    | with_reducible apply State.countBad_keeps
    | with_reducible apply State.submit_keeps
    | with_reducible apply Keeps.ite
    | with_reducible apply Keeps.foldl
    | split
    | dsimp only
    | fail_if_no_progress with_reducible refine Keeps.lit ?_ rfl
    | with_reducible refine Keeps.litDraw ?_ rfl
    | with_reducible refine Keeps.litHost ?_ rfl

theorem State.putWing_keeps {a s : State} (h : Keeps a s) : ∀ x1 x2, Keeps a (State.putWing s x1 x2) := by
  intros
  unfold State.putWing
  try dsimp only
  repeat' first
    | with_reducible assumption
    | intro _
    | with_reducible apply Keeps.ite
    | with_reducible apply Keeps.foldl
    | split
    | dsimp only
    | fail_if_no_progress with_reducible refine Keeps.lit ?_ rfl
    | with_reducible refine Keeps.litDraw ?_ rfl
    | with_reducible refine Keeps.litHost ?_ rfl

theorem State.putMicro_keeps {a s : State} (h : Keeps a s) : ∀ x1 x2, Keeps a (State.putMicro s x1 x2) := by
  intros
  unfold State.putMicro
  try dsimp only
  repeat' first
    | with_reducible assumption
    | intro _
    | with_reducible apply State.setRoom_keeps
    | with_reducible apply Keeps.ite
    | with_reducible apply Keeps.foldl
    | split
    | dsimp only
    | fail_if_no_progress with_reducible refine Keeps.lit ?_ rfl
    | with_reducible refine Keeps.litDraw ?_ rfl
    | with_reducible refine Keeps.litHost ?_ rfl

theorem State.postFault_keeps {a s : State} (h : Keeps a s) : ∀ x1, Keeps a (State.postFault s x1) := by
  intros
  unfold State.postFault
  try dsimp only
  repeat' first
    | with_reducible assumption
    | intro _
    | with_reducible apply State.writeHost_keeps
    | with_reducible apply State.raise_keeps
    | with_reducible apply State.setReg_keeps
    | with_reducible apply Keeps.ite
    | with_reducible apply Keeps.foldl
    | split
    | dsimp only
    | fail_if_no_progress with_reducible refine Keeps.lit ?_ rfl
    | with_reducible refine Keeps.litDraw ?_ rfl
    | with_reducible refine Keeps.litHost ?_ rfl

theorem State.applyInval_keeps {a s : State} (h : Keeps a s) : ∀ x1, Keeps a (State.applyInval s x1) := by
  intros
  unfold State.applyInval
  try dsimp only
  repeat' first
    | with_reducible assumption
    | intro _
    | with_reducible apply Keeps.ite
    | with_reducible apply Keeps.foldl
    | split
    | dsimp only
    | fail_if_no_progress with_reducible refine Keeps.lit ?_ rfl
    | with_reducible refine Keeps.litDraw ?_ rfl
    | with_reducible refine Keeps.litHost ?_ rfl

theorem State.applyInvalDep_keeps {a s : State} (h : Keeps a s) : ∀ x1 x2, Keeps a (State.applyInvalDep s x1 x2) := by
  intros
  unfold State.applyInvalDep
  try dsimp only
  repeat' first
    | with_reducible assumption
    | intro _
    | with_reducible apply State.setDep_keeps
    | with_reducible apply Keeps.ite
    | with_reducible apply Keeps.foldl
    | split
    | dsimp only
    | fail_if_no_progress with_reducible refine Keeps.lit ?_ rfl
    | with_reducible refine Keeps.litDraw ?_ rfl
    | with_reducible refine Keeps.litHost ?_ rfl

theorem State.startInval_keeps {a s : State} (h : Keeps a s) : ∀ x1 x2 x3 x4 x5, Keeps a (State.startInval s x1 x2 x3 x4 x5) := by
  intros
  unfold State.startInval
  try dsimp only
  repeat' first
    | with_reducible assumption
    | intro _
    | with_reducible apply State.setRegBit_keeps
    | with_reducible apply State.setRegF_keeps
    | with_reducible apply State.forAll_keeps
    | with_reducible apply State.sendRouted_keeps
    | with_reducible apply State.applyInval_keeps
    | with_reducible apply Keeps.ite
    | with_reducible apply Keeps.foldl
    | split
    | dsimp only
    | fail_if_no_progress with_reducible refine Keeps.lit ?_ rfl
    | with_reducible refine Keeps.litDraw ?_ rfl
    | with_reducible refine Keeps.litHost ?_ rfl

theorem State.endTicket_keeps {a s : State} (h : Keeps a s) : ∀ x1 x2 x3, Keeps a (State.endTicket s x1 x2 x3) := by
  intros
  unfold State.endTicket
  try dsimp only
  repeat' first
    | with_reducible assumption
    | intro _
    | with_reducible apply State.setRegF_keeps
    | with_reducible apply State.raise_keeps
    | with_reducible apply Keeps.ite
    | with_reducible apply Keeps.foldl
    | split
    | dsimp only
    | fail_if_no_progress with_reducible refine Keeps.lit ?_ rfl
    | with_reducible refine Keeps.litDraw ?_ rfl
    | with_reducible refine Keeps.litHost ?_ rfl

theorem State.ackTicket_keeps {a s : State} (h : Keeps a s) : ∀ x1 x2 x3, Keeps a (State.ackTicket s x1 x2 x3) := by
  intros
  unfold State.ackTicket
  try dsimp only
  repeat' first
    | with_reducible assumption
    | intro _
    | with_reducible apply State.endTicket_keeps
    | with_reducible apply Keeps.ite
    | with_reducible apply Keeps.foldl
    | split
    | dsimp only
    | fail_if_no_progress with_reducible refine Keeps.lit ?_ rfl
    | with_reducible refine Keeps.litDraw ?_ rfl
    | with_reducible refine Keeps.litHost ?_ rfl

theorem State.ticketTimeout_keeps {a s : State} (h : Keeps a s) : ∀ x1, Keeps a (State.ticketTimeout s x1) := by
  intros
  unfold State.ticketTimeout
  try dsimp only
  repeat' first
    | with_reducible assumption
    | intro _
    | with_reducible apply State.endTicket_keeps
    | with_reducible apply Keeps.ite
    | with_reducible apply Keeps.foldl
    | split
    | dsimp only
    | fail_if_no_progress with_reducible refine Keeps.lit ?_ rfl
    | with_reducible refine Keeps.litDraw ?_ rfl
    | with_reducible refine Keeps.litHost ?_ rfl

theorem State.takeInval_keeps {a s : State} (h : Keeps a s) : ∀ x1 x2, Keeps a (State.takeInval s x1 x2) := by
  intros
  unfold State.takeInval
  try dsimp only
  repeat' first
    | with_reducible assumption
    | intro _
    | with_reducible apply State.applyInval_keeps
    | with_reducible apply State.applyInvalDep_keeps
    | with_reducible apply Keeps.ite
    | with_reducible apply Keeps.foldl
    | split
    | dsimp only
    | fail_if_no_progress with_reducible refine Keeps.lit ?_ rfl
    | with_reducible refine Keeps.litDraw ?_ rfl
    | with_reducible refine Keeps.litHost ?_ rfl

theorem State.invalDone_keeps {a s : State} (h : Keeps a s) : ∀ x1 x2, Keeps a (State.invalDone s x1 x2) := by
  intros
  unfold State.invalDone
  try dsimp only
  repeat' first
    | with_reducible assumption
    | intro _
    | with_reducible apply State.ackTicket_keeps
    | with_reducible apply State.sendRouted_keeps
    | with_reducible apply State.launch_keeps
    | with_reducible apply Keeps.ite
    | with_reducible apply Keeps.foldl
    | split
    | dsimp only
    | fail_if_no_progress with_reducible refine Keeps.lit ?_ rfl
    | with_reducible refine Keeps.litDraw ?_ rfl
    | with_reducible refine Keeps.litHost ?_ rfl

end Sys2Proof.Machine
end

