-- ==== Sys2Proof/Laws/KeepsSwitchRegs.lean ====
section
/-! SUPPORT. What each operation of Machine/SwitchRegs.lean keeps. -/

namespace Sys2Proof.Machine

set_option linter.unusedTactic false
set_option linter.unreachableTactic false

theorem State.writePlain_keeps {a s : State} (h : Keeps a s) : ∀ x1 x2 x3, Keeps a (State.writePlain s x1 x2 x3) := by
  intros
  unfold State.writePlain
  try dsimp only
  repeat' first
    | with_reducible assumption
    | intro _
    | with_reducible apply State.setReg_keeps
    | with_reducible apply Keeps.ite
    | with_reducible apply Keeps.foldl
    | split
    | dsimp only
    | fail_if_no_progress with_reducible refine Keeps.lit ?_ rfl
    | with_reducible refine Keeps.litDraw ?_ rfl
    | with_reducible refine Keeps.litHost ?_ rfl

theorem State.writeIf_keeps {a s : State} {report : State → State} (h : Keeps a s) (hr : ∀ t, Keeps a t → Keeps a (report t)) :
    ∀ x v ok, Keeps a (State.writeIf s x v ok report) := by
  intro x v ok
  unfold State.writeIf
  split
  · exact State.writePlain_keeps h _ _ _
  · exact hr s h

theorem State.cfgErr_keeps {a s : State} (h : Keeps a s) : ∀ x1 x2, Keeps a (State.cfgErr s x1 x2) := by
  intros
  unfold State.cfgErr
  try dsimp only
  repeat' first
    | with_reducible assumption
    | intro _
    | with_reducible apply State.setRegF_keeps
    | with_reducible apply State.setRegBit_keeps
    | with_reducible apply Keeps.ite
    | with_reducible apply Keeps.foldl
    | split
    | dsimp only
    | fail_if_no_progress with_reducible refine Keeps.lit ?_ rfl
    | with_reducible refine Keeps.litDraw ?_ rfl
    | with_reducible refine Keeps.litHost ?_ rfl

theorem State.cfgRange_keeps {a s : State} (h : Keeps a s) : Keeps a (State.cfgRange s) := by
  unfold State.cfgRange
  try dsimp only
  repeat' first
    | with_reducible assumption
    | intro _
    | with_reducible apply State.setRegBit_keeps
    | with_reducible apply Keeps.ite
    | with_reducible apply Keeps.foldl
    | split
    | dsimp only
    | fail_if_no_progress with_reducible refine Keeps.lit ?_ rfl
    | with_reducible refine Keeps.litDraw ?_ rfl
    | with_reducible refine Keeps.litHost ?_ rfl

theorem State.rtErr_keeps {a s : State} (h : Keeps a s) : Keeps a (State.rtErr s) := by
  unfold State.rtErr
  try dsimp only
  repeat' first
    | with_reducible assumption
    | intro _
    | with_reducible apply State.setRegBit_keeps
    | with_reducible apply Keeps.ite
    | with_reducible apply Keeps.foldl
    | split
    | dsimp only
    | fail_if_no_progress with_reducible refine Keeps.lit ?_ rfl
    | with_reducible refine Keeps.litDraw ?_ rfl
    | with_reducible refine Keeps.litHost ?_ rfl

theorem State.writeBufMin_keeps {a s : State} (h : Keeps a s) : ∀ x1 x2, Keeps a (State.writeBufMin s x1 x2) := by
  intros
  unfold State.writeBufMin
  try dsimp only
  repeat' first
    | with_reducible assumption
    | intro _
    | with_reducible apply State.cfgErr_keeps
    | with_reducible apply State.writePlain_keeps
    | with_reducible apply Keeps.ite
    | with_reducible apply Keeps.foldl
    | split
    | dsimp only
    | fail_if_no_progress with_reducible refine Keeps.lit ?_ rfl
    | with_reducible refine Keeps.litDraw ?_ rfl
    | with_reducible refine Keeps.litHost ?_ rfl

theorem State.writeCreditAdv_keeps {a s : State} (h : Keeps a s) : ∀ x1 x2, Keeps a (State.writeCreditAdv s x1 x2) := by
  intros
  unfold State.writeCreditAdv
  try dsimp only
  repeat' first
    | with_reducible assumption
    | intro _
    | with_reducible apply State.writeIf_keeps
    | with_reducible apply State.cfgErr_keeps
    | with_reducible apply Keeps.ite
    | with_reducible apply Keeps.foldl
    | split
    | dsimp only
    | fail_if_no_progress with_reducible refine Keeps.lit ?_ rfl
    | with_reducible refine Keeps.litDraw ?_ rfl
    | with_reducible refine Keeps.litHost ?_ rfl

theorem State.writeVcCfg_keeps {a s : State} (h : Keeps a s) : ∀ x1 x2, Keeps a (State.writeVcCfg s x1 x2) := by
  intros
  unfold State.writeVcCfg
  try dsimp only
  repeat' first
    | with_reducible assumption
    | intro _
    | with_reducible apply State.writeIf_keeps
    | with_reducible apply State.cfgErr_keeps
    | with_reducible apply Keeps.ite
    | with_reducible apply Keeps.foldl
    | split
    | dsimp only
    | fail_if_no_progress with_reducible refine Keeps.lit ?_ rfl
    | with_reducible refine Keeps.litDraw ?_ rfl
    | with_reducible refine Keeps.litHost ?_ rfl

theorem State.writeOvfOn_keeps {a s : State} (h : Keeps a s) : ∀ x1, Keeps a (State.writeOvfOn s x1) := by
  intros
  unfold State.writeOvfOn
  try dsimp only
  repeat' first
    | with_reducible assumption
    | intro _
    | with_reducible apply State.writeIf_keeps
    | with_reducible apply State.cfgErr_keeps
    | with_reducible apply Keeps.ite
    | with_reducible apply Keeps.foldl
    | split
    | dsimp only
    | fail_if_no_progress with_reducible refine Keeps.lit ?_ rfl
    | with_reducible refine Keeps.litDraw ?_ rfl
    | with_reducible refine Keeps.litHost ?_ rfl

theorem State.writeOvfRegion_keeps {a s : State} (h : Keeps a s) : ∀ x1 x2, Keeps a (State.writeOvfRegion s x1 x2) := by
  intros
  unfold State.writeOvfRegion
  try dsimp only
  repeat' first
    | with_reducible assumption
    | intro _
    | with_reducible apply State.writeIf_keeps
    | with_reducible apply State.cfgErr_keeps
    | with_reducible apply Keeps.ite
    | with_reducible apply Keeps.foldl
    | split
    | dsimp only
    | fail_if_no_progress with_reducible refine Keeps.lit ?_ rfl
    | with_reducible refine Keeps.litDraw ?_ rfl
    | with_reducible refine Keeps.litHost ?_ rfl

theorem State.writeWred_keeps {a s : State} (h : Keeps a s) : ∀ x1 x2 x3, Keeps a (State.writeWred s x1 x2 x3) := by
  intros
  unfold State.writeWred
  try dsimp only
  repeat' first
    | with_reducible assumption
    | intro _
    | with_reducible apply State.writePlain_keeps
    | with_reducible apply State.cfgErr_keeps
    | with_reducible apply Keeps.ite
    | with_reducible apply Keeps.foldl
    | split
    | dsimp only
    | fail_if_no_progress with_reducible refine Keeps.lit ?_ rfl
    | with_reducible refine Keeps.litDraw ?_ rfl
    | with_reducible refine Keeps.litHost ?_ rfl

theorem State.writeSwcArb_keeps {a s : State} (h : Keeps a s) : ∀ x1, Keeps a (State.writeSwcArb s x1) := by
  intros
  unfold State.writeSwcArb
  try dsimp only
  repeat' first
    | with_reducible assumption
    | intro _
    | with_reducible apply State.writeIf_keeps
    | with_reducible apply State.cfgErr_keeps
    | with_reducible apply Keeps.ite
    | with_reducible apply Keeps.foldl
    | split
    | dsimp only
    | fail_if_no_progress with_reducible refine Keeps.lit ?_ rfl
    | with_reducible refine Keeps.litDraw ?_ rfl
    | with_reducible refine Keeps.litHost ?_ rfl

theorem State.writeAgeLimit_keeps {a s : State} (h : Keeps a s) : ∀ x1, Keeps a (State.writeAgeLimit s x1) := by
  intros
  unfold State.writeAgeLimit
  try dsimp only
  repeat' first
    | with_reducible assumption
    | intro _
    | with_reducible apply State.writeIf_keeps
    | with_reducible apply State.cfgErr_keeps
    | with_reducible apply Keeps.ite
    | with_reducible apply Keeps.foldl
    | split
    | dsimp only
    | fail_if_no_progress with_reducible refine Keeps.lit ?_ rfl
    | with_reducible refine Keeps.litDraw ?_ rfl
    | with_reducible refine Keeps.litHost ?_ rfl

theorem State.freshBucket_keeps {a s : State} (h : Keeps a s) : ∀ x1 x2, Keeps a (State.freshBucket s x1 x2) := by
  intros
  unfold State.freshBucket
  try dsimp only
  repeat' first
    | with_reducible assumption
    | intro _
    | with_reducible apply Keeps.ite
    | with_reducible apply Keeps.foldl
    | split
    | dsimp only
    | fail_if_no_progress with_reducible refine Keeps.lit ?_ rfl
    | with_reducible refine Keeps.litDraw ?_ rfl
    | with_reducible refine Keeps.litHost ?_ rfl

theorem State.fillBucket_keeps {a s : State} (h : Keeps a s) : ∀ x1 x2 x3 x4, Keeps a (State.fillBucket s x1 x2 x3 x4) := by
  intros
  unfold State.fillBucket
  try dsimp only
  repeat' first
    | with_reducible assumption
    | intro _
    | with_reducible apply Keeps.ite
    | with_reducible apply Keeps.foldl
    | split
    | dsimp only
    | fail_if_no_progress with_reducible refine Keeps.lit ?_ rfl
    | with_reducible refine Keeps.litDraw ?_ rfl
    | with_reducible refine Keeps.litHost ?_ rfl

theorem State.writeMarker_keeps {a s : State} (h : Keeps a s) : ∀ x1 x2 x3, Keeps a (State.writeMarker s x1 x2 x3) := by
  intros
  unfold State.writeMarker
  try dsimp only
  repeat' first
    | with_reducible assumption
    | intro _
    | with_reducible apply State.writePlain_keeps
    | with_reducible apply State.fillBucket_keeps
    | with_reducible apply State.freshBucket_keeps
    | with_reducible apply State.cfgErr_keeps
    | with_reducible apply Keeps.ite
    | with_reducible apply Keeps.foldl
    | split
    | dsimp only
    | fail_if_no_progress with_reducible refine Keeps.lit ?_ rfl
    | with_reducible refine Keeps.litDraw ?_ rfl
    | with_reducible refine Keeps.litHost ?_ rfl

theorem State.stageCheck_keeps {a s : State} (h : Keeps a s) : Keeps a (State.stageCheck s) := by
  unfold State.stageCheck
  try dsimp only
  repeat' first
    | with_reducible assumption
    | intro _
    | with_reducible apply State.setRegF_keeps
    | with_reducible apply State.setRegBit_keeps
    | with_reducible apply Keeps.ite
    | with_reducible apply Keeps.foldl
    | split
    | dsimp only
    | fail_if_no_progress with_reducible refine Keeps.lit ?_ rfl
    | with_reducible refine Keeps.litDraw ?_ rfl
    | with_reducible refine Keeps.litHost ?_ rfl

theorem State.writeStage_keeps {a s : State} (h : Keeps a s) : ∀ x1 x2 x3, Keeps a (State.writeStage s x1 x2 x3) := by
  intros
  unfold State.writeStage
  try dsimp only
  repeat' first
    | with_reducible assumption
    | intro _
    | with_reducible apply State.stageCheck_keeps
    | with_reducible apply State.writePlain_keeps
    | with_reducible apply Keeps.ite
    | with_reducible apply Keeps.foldl
    | split
    | dsimp only
    | fail_if_no_progress with_reducible refine Keeps.lit ?_ rfl
    | with_reducible refine Keeps.litDraw ?_ rfl
    | with_reducible refine Keeps.litHost ?_ rfl

theorem State.writeHold_keeps {a s : State} (h : Keeps a s) : ∀ x1 x2, Keeps a (State.writeHold s x1 x2) := by
  intros
  unfold State.writeHold
  try dsimp only
  repeat' first
    | with_reducible assumption
    | intro _
    | with_reducible apply State.setReg_keeps
    | with_reducible apply State.forAll_keeps
    | with_reducible apply State.pump_keeps
    | with_reducible apply Keeps.ite
    | with_reducible apply Keeps.foldl
    | split
    | dsimp only
    | fail_if_no_progress with_reducible refine Keeps.lit ?_ rfl
    | with_reducible refine Keeps.litDraw ?_ rfl
    | with_reducible refine Keeps.litHost ?_ rfl

theorem State.writeTimer_keeps {a s : State} (h : Keeps a s) : ∀ x1 x2 x3 x4, Keeps a (State.writeTimer s x1 x2 x3 x4) := by
  intros
  unfold State.writeTimer
  try dsimp only
  repeat' first
    | with_reducible assumption
    | intro _
    | with_reducible apply State.writePlain_keeps
    | with_reducible apply State.rtErr_keeps
    | with_reducible apply State.cfgRange_keeps
    | with_reducible apply Keeps.ite
    | with_reducible apply Keeps.foldl
    | split
    | dsimp only
    | fail_if_no_progress with_reducible refine Keeps.lit ?_ rfl
    | with_reducible refine Keeps.litDraw ?_ rfl
    | with_reducible refine Keeps.litHost ?_ rfl

theorem State.writeRtx_keeps {a s : State} (h : Keeps a s) : ∀ x1, Keeps a (State.writeRtx s x1) := by
  intros
  unfold State.writeRtx
  try dsimp only
  repeat' first
    | with_reducible assumption
    | intro _
    | with_reducible apply State.writeTimer_keeps
    | with_reducible apply Keeps.ite
    | with_reducible apply Keeps.foldl
    | split
    | dsimp only
    | fail_if_no_progress with_reducible refine Keeps.lit ?_ rfl
    | with_reducible refine Keeps.litDraw ?_ rfl
    | with_reducible refine Keeps.litHost ?_ rfl

theorem State.writeWinTimeout_keeps {a s : State} (h : Keeps a s) : ∀ x1, Keeps a (State.writeWinTimeout s x1) := by
  intros
  unfold State.writeWinTimeout
  try dsimp only
  repeat' first
    | with_reducible assumption
    | intro _
    | with_reducible apply State.writeTimer_keeps
    | with_reducible apply Keeps.ite
    | with_reducible apply Keeps.foldl
    | split
    | dsimp only
    | fail_if_no_progress with_reducible refine Keeps.lit ?_ rfl
    | with_reducible refine Keeps.litDraw ?_ rfl
    | with_reducible refine Keeps.litHost ?_ rfl

theorem State.writeWinDefault_keeps {a s : State} (h : Keeps a s) : ∀ x1, Keeps a (State.writeWinDefault s x1) := by
  intros
  unfold State.writeWinDefault
  try dsimp only
  repeat' first
    | with_reducible assumption
    | intro _
    | with_reducible apply State.pumpAll_keeps
    | with_reducible apply State.writePlain_keeps
    | with_reducible apply State.cfgRange_keeps
    | with_reducible apply Keeps.ite
    | with_reducible apply Keeps.foldl
    | split
    | dsimp only
    | fail_if_no_progress with_reducible refine Keeps.lit ?_ rfl
    | with_reducible refine Keeps.litDraw ?_ rfl
    | with_reducible refine Keeps.litHost ?_ rfl

theorem State.writeWinSize_keeps {a s : State} (h : Keeps a s) : ∀ x1 x2 x3, Keeps a (State.writeWinSize s x1 x2 x3) := by
  intros
  unfold State.writeWinSize
  try dsimp only
  repeat' first
    | with_reducible assumption
    | intro _
    | with_reducible apply State.pumpAll_keeps
    | with_reducible apply State.writePlain_keeps
    | with_reducible apply State.cfgRange_keeps
    | with_reducible apply Keeps.ite
    | with_reducible apply Keeps.foldl
    | split
    | dsimp only
    | fail_if_no_progress with_reducible refine Keeps.lit ?_ rfl
    | with_reducible refine Keeps.litDraw ?_ rfl
    | with_reducible refine Keeps.litHost ?_ rfl

theorem State.mcBusy_keeps {a s : State} (h : Keeps a s) : Keeps a (State.mcBusy s) := by
  unfold State.mcBusy
  try dsimp only
  repeat' first
    | with_reducible assumption
    | intro _
    | with_reducible apply State.setRegBit_keeps
    | with_reducible apply Keeps.ite
    | with_reducible apply Keeps.foldl
    | split
    | dsimp only
    | fail_if_no_progress with_reducible refine Keeps.lit ?_ rfl
    | with_reducible refine Keeps.litDraw ?_ rfl
    | with_reducible refine Keeps.litHost ?_ rfl

theorem State.writeMcGroup_keeps {a s : State} (h : Keeps a s) : ∀ x1 x2, Keeps a (State.writeMcGroup s x1 x2) := by
  intros
  unfold State.writeMcGroup
  try dsimp only
  repeat' first
    | with_reducible assumption
    | intro _
    | with_reducible apply State.mcBusy_keeps
    | with_reducible apply State.cfgErr_keeps
    | with_reducible apply State.setTabF_keeps
    | with_reducible apply Keeps.ite
    | with_reducible apply Keeps.foldl
    | split
    | dsimp only
    | fail_if_no_progress with_reducible refine Keeps.lit ?_ rfl
    | with_reducible refine Keeps.litDraw ?_ rfl
    | with_reducible refine Keeps.litHost ?_ rfl

theorem State.writeMcMember_keeps {a s : State} (h : Keeps a s) : ∀ x1 x2 x3, Keeps a (State.writeMcMember s x1 x2 x3) := by
  intros
  unfold State.writeMcMember
  try dsimp only
  repeat' first
    | with_reducible assumption
    | intro _
    | with_reducible apply State.mcBusy_keeps
    | with_reducible apply State.writePlain_keeps
    | with_reducible apply Keeps.ite
    | with_reducible apply Keeps.foldl
    | split
    | dsimp only
    | fail_if_no_progress with_reducible refine Keeps.lit ?_ rfl
    | with_reducible refine Keeps.litDraw ?_ rfl
    | with_reducible refine Keeps.litHost ?_ rfl

theorem State.writeMcOwner_keeps {a s : State} (h : Keeps a s) : ∀ x1 x2, Keeps a (State.writeMcOwner s x1 x2) := by
  intros
  unfold State.writeMcOwner
  try dsimp only
  repeat' first
    | with_reducible assumption
    | intro _
    | with_reducible apply State.mcBusy_keeps
    | with_reducible apply State.setTabF_keeps
    | with_reducible apply Keeps.ite
    | with_reducible apply Keeps.foldl
    | split
    | dsimp only
    | fail_if_no_progress with_reducible refine Keeps.lit ?_ rfl
    | with_reducible refine Keeps.litDraw ?_ rfl
    | with_reducible refine Keeps.litHost ?_ rfl

end Sys2Proof.Machine
end

