-- ==== Sys2Proof/Laws/KeepsMst.lean ====
section
/-! SUPPORT. What each operation of Machine/Mst.lean keeps. -/

namespace Sys2Proof.Machine

set_option linter.unusedTactic false
set_option linter.unreachableTactic false

theorem State.mstStart_keeps {a s : State} (h : Keeps a s) : ∀ x1, Keeps a (State.mstStart s x1) := by
  intros
  unfold State.mstStart
  try dsimp only
  repeat' first
    | with_reducible assumption
    | intro _
    | with_reducible apply State.pumpAll_keeps
    | with_reducible apply State.mcAnswer_keeps
    | with_reducible apply State.setRegF_keeps
    | with_reducible apply State.forAll_keeps
    | with_reducible apply State.sendTimed_keeps
    | with_reducible apply State.submit_keeps
    | with_reducible apply Keeps.ite
    | with_reducible apply Keeps.foldl
    | split
    | dsimp only
    | fail_if_no_progress with_reducible refine Keeps.lit ?_ rfl
    | with_reducible refine Keeps.litDraw ?_ rfl
    | with_reducible refine Keeps.litHost ?_ rfl

theorem State.mstGo_keeps {a s : State} (h : Keeps a s) : ∀ x1, Keeps a (State.mstGo s x1) := by
  intros
  unfold State.mstGo
  try dsimp only
  repeat' first
    | with_reducible assumption
    | intro _
    | with_reducible apply State.mstRelease_keeps
    | with_reducible apply State.pumpAll_keeps
    | with_reducible apply State.mcAnswer_keeps
    | with_reducible apply State.mstStart_keeps
    | with_reducible apply Keeps.ite
    | with_reducible apply Keeps.foldl
    | split
    | dsimp only
    | fail_if_no_progress with_reducible refine Keeps.lit ?_ rfl
    | with_reducible refine Keeps.litDraw ?_ rfl
    | with_reducible refine Keeps.litHost ?_ rfl

theorem State.mstTake_keeps {a s : State} (h : Keeps a s) : ∀ x1, Keeps a (State.mstTake s x1) := by
  intros
  unfold State.mstTake
  try dsimp only
  repeat' first
    | with_reducible assumption
    | intro _
    | with_reducible apply State.mstGo_keeps
    | with_reducible apply State.countWrap_keeps
    | with_reducible apply Keeps.ite
    | with_reducible apply Keeps.foldl
    | split
    | dsimp only
    | fail_if_no_progress with_reducible refine Keeps.lit ?_ rfl
    | with_reducible refine Keeps.litDraw ?_ rfl
    | with_reducible refine Keeps.litHost ?_ rfl

end Sys2Proof.Machine
end

