-- ==== Sys2Proof/Laws/KeepsCollective.lean ====
section
/-! SUPPORT. What each operation of Machine/Collective.lean keeps. -/

namespace Sys2Proof.Machine

set_option linter.unusedTactic false
set_option linter.unreachableTactic false

theorem State.putColl_keeps {a s : State} (h : Keeps a s) : ∀ x1 x2, Keeps a (State.putColl s x1 x2) := by
  intros
  unfold State.putColl
  try dsimp only
  repeat' first
    | with_reducible assumption
    | intro _
    | with_reducible apply Keeps.ite
    | with_reducible apply Keeps.foldl
    | split
    | dsimp only
    | fail_if_no_progress with_reducible refine Keeps.lit ?_ rfl
    | with_reducible refine Keeps.litDraw ?_ rfl
    | with_reducible refine Keeps.litHost ?_ rfl

theorem State.freeCollSlots_keeps {a s : State} (h : Keeps a s) : ∀ x1 x2, Keeps a (State.freeCollSlots s x1 x2) := by
  intros
  unfold State.freeCollSlots
  try dsimp only
  repeat' first
    | with_reducible assumption
    | intro _
    | with_reducible apply State.forAll_keeps
    | with_reducible apply State.setSlot_keeps
    | with_reducible apply State.putColl_keeps
    | with_reducible apply Keeps.ite
    | with_reducible apply Keeps.foldl
    | split
    | dsimp only
    | fail_if_no_progress with_reducible refine Keeps.lit ?_ rfl
    | with_reducible refine Keeps.litDraw ?_ rfl
    | with_reducible refine Keeps.litHost ?_ rfl

theorem State.collNotice_keeps {a s : State} (h : Keeps a s) : ∀ x1 x2, Keeps a (State.collNotice s x1 x2) := by
  intros
  unfold State.collNotice
  try dsimp only
  repeat' first
    | with_reducible assumption
    | intro _
    | with_reducible apply State.poke_keeps
    | with_reducible apply State.submit_keeps
    | with_reducible apply State.mstTake_keeps
    | with_reducible apply Keeps.ite
    | with_reducible apply Keeps.foldl
    | split
    | dsimp only
    | fail_if_no_progress with_reducible refine Keeps.lit ?_ rfl
    | with_reducible refine Keeps.litDraw ?_ rfl
    | with_reducible refine Keeps.litHost ?_ rfl

theorem State.collAbort_keeps {a s : State} (h : Keeps a s) : ∀ x1 x2 x3, Keeps a (State.collAbort s x1 x2 x3) := by
  intros
  unfold State.collAbort
  try dsimp only
  repeat' first
    | with_reducible assumption
    | intro _
    | with_reducible apply State.collNotice_keeps
    | with_reducible apply State.putColl_keeps
    | with_reducible apply Keeps.ite
    | with_reducible apply Keeps.foldl
    | split
    | dsimp only
    | fail_if_no_progress with_reducible refine Keeps.lit ?_ rfl
    | with_reducible refine Keeps.litDraw ?_ rfl
    | with_reducible refine Keeps.litHost ?_ rfl

theorem State.collAbortAll_keeps {a s : State} (h : Keeps a s) : ∀ x1 x2, Keeps a (State.collAbortAll s x1 x2) := by
  intros
  unfold State.collAbortAll
  try dsimp only
  repeat' first
    | with_reducible assumption
    | intro _
    | with_reducible apply State.forAll_keeps
    | with_reducible apply State.collAbort_keeps
    | with_reducible apply Keeps.ite
    | with_reducible apply Keeps.foldl
    | split
    | dsimp only
    | fail_if_no_progress with_reducible refine Keeps.lit ?_ rfl
    | with_reducible refine Keeps.litDraw ?_ rfl
    | with_reducible refine Keeps.litHost ?_ rfl

theorem State.collDesk_keeps {a s : State} (h : Keeps a s) : ∀ x1 x2, Keeps a (State.collDesk s x1 x2) := by
  intros
  unfold State.collDesk
  try dsimp only
  repeat' first
    | with_reducible assumption
    | intro _
    | with_reducible apply State.collAbortAll_keeps
    | with_reducible apply Keeps.ite
    | with_reducible apply Keeps.foldl
    | split
    | dsimp only
    | fail_if_no_progress with_reducible refine Keeps.lit ?_ rfl
    | with_reducible refine Keeps.litDraw ?_ rfl
    | with_reducible refine Keeps.litHost ?_ rfl

theorem State.collTransfer_keeps {a s : State} (h : Keeps a s) : ∀ x1 x2, Keeps a (State.collTransfer s x1 x2) := by
  intros
  unfold State.collTransfer
  try dsimp only
  repeat' first
    | with_reducible assumption
    | intro _
    | with_reducible apply State.collAbortAll_keeps
    | with_reducible apply Keeps.ite
    | with_reducible apply Keeps.foldl
    | split
    | dsimp only
    | fail_if_no_progress with_reducible refine Keeps.lit ?_ rfl
    | with_reducible refine Keeps.litDraw ?_ rfl
    | with_reducible refine Keeps.litHost ?_ rfl

theorem State.collPortDown_keeps {a s : State} (h : Keeps a s) : ∀ x1, Keeps a (State.collPortDown s x1) := by
  intros
  unfold State.collPortDown
  try dsimp only
  repeat' first
    | with_reducible assumption
    | intro _
    | with_reducible apply State.collAbortAll_keeps
    | with_reducible apply Keeps.ite
    | with_reducible apply Keeps.foldl
    | split
    | dsimp only
    | fail_if_no_progress with_reducible refine Keeps.lit ?_ rfl
    | with_reducible refine Keeps.litDraw ?_ rfl
    | with_reducible refine Keeps.litHost ?_ rfl

theorem State.collFenced_keeps {a s : State} (h : Keeps a s) : Keeps a (State.collFenced s) := by
  unfold State.collFenced
  try dsimp only
  repeat' first
    | with_reducible assumption
    | intro _
    | with_reducible apply State.collAbortAll_keeps
    | with_reducible apply Keeps.ite
    | with_reducible apply Keeps.foldl
    | split
    | dsimp only
    | fail_if_no_progress with_reducible refine Keeps.lit ?_ rfl
    | with_reducible refine Keeps.litDraw ?_ rfl
    | with_reducible refine Keeps.litHost ?_ rfl

theorem State.collRecord_keeps {a s : State} (h : Keeps a s) : ∀ x1 x2, Keeps a (State.collRecord s x1 x2) := by
  intros
  unfold State.collRecord
  try dsimp only
  repeat' first
    | with_reducible assumption
    | intro _
    | with_reducible apply State.putColl_keeps
    | refine State.ringPut_eq_keeps ?_ (by with_reducible assumption)
    | with_reducible apply State.raise_keeps
    | with_reducible apply State.setRegBit_keeps
    | with_reducible apply Keeps.ite
    | with_reducible apply Keeps.foldl
    | split
    | dsimp only
    | fail_if_no_progress with_reducible refine Keeps.lit ?_ rfl
    | with_reducible refine Keeps.litDraw ?_ rfl
    | with_reducible refine Keeps.litHost ?_ rfl

theorem State.collFail_keeps {a s : State} (h : Keeps a s) : ∀ x1 x2 x3 x4 x5, Keeps a (State.collFail s x1 x2 x3 x4 x5) := by
  intros
  unfold State.collFail
  try dsimp only
  repeat' first
    | with_reducible assumption
    | intro _
    | with_reducible apply State.count_keeps
    | with_reducible apply State.freeCollSlots_keeps
    | with_reducible apply State.collRecord_keeps
    | with_reducible apply State.putColl_keeps
    | with_reducible apply Keeps.ite
    | with_reducible apply Keeps.foldl
    | split
    | dsimp only
    | fail_if_no_progress with_reducible refine Keeps.lit ?_ rfl
    | with_reducible refine Keeps.litDraw ?_ rfl
    | with_reducible refine Keeps.litHost ?_ rfl

theorem State.collBell_keeps {a s : State} (h : Keeps a s) : ∀ x1, Keeps a (State.collBell s x1) := by
  intros
  unfold State.collBell
  try dsimp only
  repeat' first
    | with_reducible assumption
    | intro _
    | with_reducible apply State.forAll_keeps
    | with_reducible apply State.putColl_keeps
    | with_reducible apply Keeps.ite
    | with_reducible apply Keeps.foldl
    | split
    | dsimp only
    | fail_if_no_progress with_reducible refine Keeps.lit ?_ rfl
    | with_reducible refine Keeps.litDraw ?_ rfl
    | with_reducible refine Keeps.litHost ?_ rfl

theorem State.collReleaseDone_keeps {a s : State} (h : Keeps a s) : Keeps a (State.collReleaseDone s) := by
  unfold State.collReleaseDone
  try dsimp only
  repeat' first
    | with_reducible assumption
    | intro _
    | with_reducible apply State.forAll_keeps
    | with_reducible apply State.collRecord_keeps
    | with_reducible apply State.freeCollSlots_keeps
    | with_reducible apply Keeps.ite
    | with_reducible apply Keeps.foldl
    | split
    | dsimp only
    | fail_if_no_progress with_reducible refine Keeps.lit ?_ rfl
    | with_reducible refine Keeps.litDraw ?_ rfl
    | with_reducible refine Keeps.litHost ?_ rfl

theorem State.collLaunch_keeps {a s : State} (h : Keeps a s) : ∀ x1 x2, Keeps a (State.collLaunch s x1 x2) := by
  intros
  unfold State.collLaunch
  try dsimp only
  repeat' first
    | with_reducible assumption
    | intro _
    | with_reducible apply State.poke_keeps
    | with_reducible apply State.forAll_keeps
    | with_reducible apply State.setSlot_keeps
    | with_reducible apply State.putColl_keeps
    | with_reducible apply Keeps.ite
    | with_reducible apply Keeps.foldl
    | split
    | dsimp only
    | fail_if_no_progress with_reducible refine Keeps.lit ?_ rfl
    | with_reducible refine Keeps.litDraw ?_ rfl
    | with_reducible refine Keeps.litHost ?_ rfl

theorem State.collVerdict_keeps {a s : State} (h : Keeps a s) : ∀ x1 x2, Keeps a (State.collVerdict s x1 x2) := by
  intros
  unfold State.collVerdict
  try dsimp only
  repeat' first
    | with_reducible assumption
    | intro _
    | with_reducible apply State.collLaunch_keeps
    | with_reducible apply State.collFail_keeps
    | with_reducible apply State.collNotice_keeps
    | with_reducible apply Keeps.ite
    | with_reducible apply Keeps.foldl
    | split
    | dsimp only
    | fail_if_no_progress with_reducible refine Keeps.lit ?_ rfl
    | with_reducible refine Keeps.litDraw ?_ rfl
    | with_reducible refine Keeps.litHost ?_ rfl

theorem State.collAdvance_keeps {a s : State} (h : Keeps a s) : Keeps a (State.collAdvance s) := by
  unfold State.collAdvance
  try dsimp only
  repeat' first
    | with_reducible assumption
    | intro _
    | with_reducible apply State.forAll_keeps
    | with_reducible apply State.collFail_keeps
    | with_reducible apply State.collVerdict_keeps
    | with_reducible apply State.putColl_keeps
    | with_reducible apply Keeps.ite
    | with_reducible apply Keeps.foldl
    | split
    | dsimp only
    | fail_if_no_progress with_reducible refine Keeps.lit ?_ rfl
    | with_reducible refine Keeps.litDraw ?_ rfl
    | with_reducible refine Keeps.litHost ?_ rfl

theorem State.collReserve_keeps {a s : State} (h : Keeps a s) : ∀ x1 x2 x3, Keeps a (State.collReserve s x1 x2 x3) := by
  intros
  unfold State.collReserve
  try dsimp only
  repeat' first
    | with_reducible assumption
    | intro _
    | with_reducible apply State.putColl_keeps
    | with_reducible apply State.forAll_keeps
    | with_reducible apply State.setSlot_keeps
    | with_reducible apply State.poke_keeps
    | with_reducible apply Keeps.ite
    | with_reducible apply Keeps.foldl
    | split
    | dsimp only
    | fail_if_no_progress with_reducible refine Keeps.lit ?_ rfl
    | with_reducible refine Keeps.litDraw ?_ rfl
    | with_reducible refine Keeps.litHost ?_ rfl

theorem State.collReserveAll_keeps {a s : State} (h : Keeps a s) : ∀ x1 x2, Keeps a (State.collReserveAll s x1 x2) := by
  intros
  unfold State.collReserveAll
  try dsimp only
  repeat' first
    | with_reducible assumption
    | intro _
    | with_reducible apply State.forAll_keeps
    | with_reducible apply State.collReserve_keeps
    | with_reducible apply Keeps.ite
    | with_reducible apply Keeps.foldl
    | split
    | dsimp only
    | fail_if_no_progress with_reducible refine Keeps.lit ?_ rfl
    | with_reducible refine Keeps.litDraw ?_ rfl
    | with_reducible refine Keeps.litHost ?_ rfl

end Sys2Proof.Machine
end

