-- ==== Sys2Proof/Laws/KeepsChalkTally.lean ====
section
/-! SUPPORT. What each operation of Machine/ChalkTally.lean keeps. -/

namespace Sys2Proof.Machine

set_option linter.unusedTactic false
set_option linter.unreachableTactic false

theorem State.issueTally_keeps {a s : State} (h : Keeps a s) : ∀ op i k f, Keeps a (State.issueTally s op i k f) := by
  intro op i k f
  exact State.issue_keeps h (fun t _ ht => State.setDesk_keeps ht _ _) op i

theorem State.ltQueue_keeps {a s : State} (h : Keeps a s) : ∀ x1 x2, Keeps a (State.ltQueue s x1 x2) := by
  intros
  unfold State.ltQueue
  try dsimp only
  repeat' first
    | with_reducible assumption
    | intro _
    | with_reducible apply State.setRoom_keeps
    | with_reducible apply State.putMe_keeps
    | with_reducible apply Keeps.ite
    | with_reducible apply Keeps.foldl
    | split
    | dsimp only
    | fail_if_no_progress with_reducible refine Keeps.lit ?_ rfl
    | with_reducible refine Keeps.litDraw ?_ rfl
    | with_reducible refine Keeps.litHost ?_ rfl

theorem State.issueLt_keeps {a s : State} (h : Keeps a s) : ∀ op i f g, Keeps a (State.issueLt s op i f g) := by
  intro op i f g
  refine State.issue_keeps h (fun t x ht => ?_) op i
  dsimp only
  split
  · exact State.ltQueue_keeps (State.putMe_keeps ht _ _) _ _
  · exact State.putMe_keeps ht _ _

theorem State.setLongTally_keeps {a s : State} (h : Keeps a s) : ∀ x1 x2 x3, Keeps a (State.setLongTally s x1 x2 x3) := by
  intros
  unfold State.setLongTally
  try dsimp only
  repeat' first
    | with_reducible assumption
    | intro _
    | with_reducible apply State.setBytes_keeps
    | with_reducible apply State.forAll_keeps
    | with_reducible apply State.dropSlot_keeps
    | with_reducible apply Keeps.ite
    | with_reducible apply Keeps.foldl
    | split
    | dsimp only
    | fail_if_no_progress with_reducible refine Keeps.lit ?_ rfl
    | with_reducible refine Keeps.litDraw ?_ rfl
    | with_reducible refine Keeps.litHost ?_ rfl

theorem State.ltError_keeps {a s : State} (h : Keeps a s) : ∀ x1, Keeps a (State.ltError s x1) := by
  intros
  unfold State.ltError
  try dsimp only
  repeat' first
    | with_reducible assumption
    | intro _
    | with_reducible apply State.classFault_keeps
    | with_reducible apply State.count_keeps
    | with_reducible apply Keeps.ite
    | with_reducible apply Keeps.foldl
    | split
    | dsimp only
    | fail_if_no_progress with_reducible refine Keeps.lit ?_ rfl
    | with_reducible refine Keeps.litDraw ?_ rfl
    | with_reducible refine Keeps.litHost ?_ rfl

theorem State.ltRefuse_keeps {a s : State} (h : Keeps a s) : ∀ x1, Keeps a (State.ltRefuse s x1) := by
  intros
  unfold State.ltRefuse
  try dsimp only
  repeat' first
    | with_reducible assumption
    | intro _
    | with_reducible apply State.setSeat_keeps
    | with_reducible apply Keeps.ite
    | with_reducible apply Keeps.foldl
    | split
    | dsimp only
    | fail_if_no_progress with_reducible refine Keeps.lit ?_ rfl
    | with_reducible refine Keeps.litDraw ?_ rfl
    | with_reducible refine Keeps.litHost ?_ rfl

theorem State.ltApply_keeps {a s : State} (h : Keeps a s) : ∀ x1 x2 x3 x4 x5, Keeps a (State.ltApply s x1 x2 x3 x4 x5) := by
  intros
  unfold State.ltApply
  try dsimp only
  repeat' first
    | with_reducible assumption
    | intro _
    | with_reducible apply State.ltRefuse_keeps
    | with_reducible apply State.setLongTally_keeps
    | with_reducible apply State.ltError_keeps
    | with_reducible apply State.collDesk_keeps
    | with_reducible apply State.setSeat_keeps
    | with_reducible apply Keeps.ite
    | with_reducible apply Keeps.foldl
    | split
    | dsimp only
    | fail_if_no_progress with_reducible refine Keeps.lit ?_ rfl
    | with_reducible refine Keeps.litDraw ?_ rfl
    | with_reducible refine Keeps.litHost ?_ rfl

theorem State.ltPerform_keeps {a s : State} (h : Keeps a s) : ∀ x1 x2 x3, Keeps a (State.ltPerform s x1 x2 x3) := by
  intros
  unfold State.ltPerform
  try dsimp only
  repeat' first
    | with_reducible assumption
    | intro _
    | with_reducible apply State.ltApply_keeps
    | with_reducible apply State.forAll_keeps
    | with_reducible apply State.bankTake_keeps
    | with_reducible apply Keeps.ite
    | with_reducible apply Keeps.foldl
    | split
    | dsimp only
    | fail_if_no_progress with_reducible refine Keeps.lit ?_ rfl
    | with_reducible refine Keeps.litDraw ?_ rfl
    | with_reducible refine Keeps.litHost ?_ rfl

end Sys2Proof.Machine
end

