-- ==== Sys2Proof/Laws/KeepsOmu.lean ====
section
/-! SUPPORT. What each operation of Machine/Omu.lean keeps. -/

namespace Sys2Proof.Machine

set_option linter.unusedTactic false
set_option linter.unreachableTactic false

theorem State.setPrism_keeps {a s : State} (h : Keeps a s) : ∀ x1 x2, Keeps a (State.setPrism s x1 x2) := by
  intros
  unfold State.setPrism
  try dsimp only
  repeat' first
    | with_reducible assumption
    | intro _
    | with_reducible apply Keeps.ite
    | with_reducible apply Keeps.foldl
    | split
    | dsimp only
    | fail_if_no_progress with_reducible refine Keeps.lit ?_ rfl
    | with_reducible refine Keeps.litDraw ?_ rfl
    | with_reducible refine Keeps.litHost ?_ rfl

theorem State.prismShow_keeps {a s : State} (h : Keeps a s) : ∀ x1, Keeps a (State.prismShow s x1) := by
  intros
  unfold State.prismShow
  try dsimp only
  repeat' first
    | with_reducible assumption
    | intro _
    | with_reducible apply State.setRegBit_keeps
    | with_reducible apply State.setRegF_keeps
    | with_reducible apply Keeps.ite
    | with_reducible apply Keeps.foldl
    | split
    | dsimp only
    | fail_if_no_progress with_reducible refine Keeps.lit ?_ rfl
    | with_reducible refine Keeps.litDraw ?_ rfl
    | with_reducible refine Keeps.litHost ?_ rfl

theorem State.prismHold_keeps {a s : State} (h : Keeps a s) : ∀ x1 x2, Keeps a (State.prismHold s x1 x2) := by
  intros
  unfold State.prismHold
  try dsimp only
  repeat' first
    | with_reducible assumption
    | intro _
    | with_reducible apply State.prismShow_keeps
    | with_reducible apply State.setPrism_keeps
    | with_reducible apply Keeps.ite
    | with_reducible apply Keeps.foldl
    | split
    | dsimp only
    | fail_if_no_progress with_reducible refine Keeps.lit ?_ rfl
    | with_reducible refine Keeps.litDraw ?_ rfl
    | with_reducible refine Keeps.litHost ?_ rfl

theorem State.omuUnlock_keeps {a s : State} (h : Keeps a s) : Keeps a (State.omuUnlock s) := by
  unfold State.omuUnlock
  try dsimp only
  repeat' first
    | with_reducible assumption
    | intro _
    | with_reducible apply State.raise_keeps
    | with_reducible apply Keeps.ite
    | with_reducible apply Keeps.foldl
    | split
    | dsimp only
    | fail_if_no_progress with_reducible refine Keeps.lit ?_ rfl
    | with_reducible refine Keeps.litDraw ?_ rfl
    | with_reducible refine Keeps.litHost ?_ rfl

theorem State.prismCompute_snd_keeps {a s : State} (h : Keeps a s) : ∀ x1 x2, Keeps a (State.prismCompute s x1 x2).2.2 := by
  intros
  unfold State.prismCompute
  try dsimp only
  repeat' first
    | with_reducible assumption
    | intro _
    | with_reducible apply Keeps.ite
    | with_reducible apply Keeps.foldl
    | split
    | dsimp only
    | fail_if_no_progress with_reducible refine Keeps.lit ?_ rfl
    | with_reducible refine Keeps.litDraw ?_ rfl
    | with_reducible refine Keeps.litHost ?_ rfl

theorem State.prismCompute_eq_keeps {a s t : State} (h : Keeps a s) {x1 x2 y0 y1} (e : State.prismCompute s x1 x2 = (y0, y1, t)) : Keeps a t := by
  have k := State.prismCompute_snd_keeps h x1 x2
  rw [e] at k; exact k

theorem State.streamResult_keeps {a s : State} (h : Keeps a s) : ∀ x1 x2 x3 x4 x5, Keeps a (State.streamResult s x1 x2 x3 x4 x5) := by
  intros
  unfold State.streamResult
  try dsimp only
  repeat' first
    | with_reducible assumption
    | intro _
    | with_reducible apply State.setStrm_keeps
    | with_reducible apply State.atHome_keeps
    | with_reducible apply Keeps.ite
    | with_reducible apply Keeps.foldl
    | split
    | dsimp only
    | fail_if_no_progress with_reducible refine Keeps.lit ?_ rfl
    | with_reducible refine Keeps.litDraw ?_ rfl
    | with_reducible refine Keeps.litHost ?_ rfl

theorem State.vecDone_keeps {a s : State} (h : Keeps a s) : ∀ x1 x2 x3, Keeps a (State.vecDone s x1 x2 x3) := by
  intros
  unfold State.vecDone
  try dsimp only
  repeat' first
    | with_reducible assumption
    | intro _
    | with_reducible apply State.resultDesk_keeps
    | with_reducible apply State.classFault_keeps
    | with_reducible apply State.count_keeps
    | with_reducible apply State.streamResult_keeps
    | with_reducible apply State.sendRouted_keeps
    | with_reducible apply Keeps.ite
    | with_reducible apply Keeps.foldl
    | split
    | dsimp only
    | fail_if_no_progress with_reducible refine Keeps.lit ?_ rfl
    | with_reducible refine Keeps.litDraw ?_ rfl
    | with_reducible refine Keeps.litHost ?_ rfl

theorem State.dropVecs_keeps {a s : State} (h : Keeps a s) : ∀ x1 x2, Keeps a (State.dropVecs s x1 x2) := by
  intros
  unfold State.dropVecs
  try dsimp only
  repeat' first
    | with_reducible assumption
    | intro _
    | with_reducible apply State.forAll_keeps
    | with_reducible apply State.vecDone_keeps
    | with_reducible apply Keeps.ite
    | with_reducible apply Keeps.foldl
    | split
    | dsimp only
    | fail_if_no_progress with_reducible refine Keeps.lit ?_ rfl
    | with_reducible refine Keeps.litDraw ?_ rfl
    | with_reducible refine Keeps.litHost ?_ rfl

theorem State.dropUnserved_keeps {a s : State} (h : Keeps a s) : Keeps a (State.dropUnserved s) := by
  unfold State.dropUnserved
  try dsimp only
  repeat' first
    | with_reducible assumption
    | intro _
    | with_reducible apply State.dropVecs_keeps
    | with_reducible apply Keeps.ite
    | with_reducible apply Keeps.foldl
    | split
    | dsimp only
    | fail_if_no_progress with_reducible refine Keeps.lit ?_ rfl
    | with_reducible refine Keeps.litDraw ?_ rfl
    | with_reducible refine Keeps.litHost ?_ rfl

theorem State.offer_keeps {a s : State} (h : Keeps a s) : ∀ x1, Keeps a (State.offer s x1) := by
  intros
  unfold State.offer
  try dsimp only
  repeat' first
    | with_reducible assumption
    | intro _
    | with_reducible apply State.vecDone_keeps
    | with_reducible apply Keeps.ite
    | with_reducible apply Keeps.foldl
    | split
    | dsimp only
    | fail_if_no_progress with_reducible refine Keeps.lit ?_ rfl
    | with_reducible refine Keeps.litDraw ?_ rfl
    | with_reducible refine Keeps.litHost ?_ rfl

theorem State.grantFrame_keeps {a s : State} (h : Keeps a s) : ∀ x1 x2 x3 x4, Keeps a (State.grantFrame s x1 x2 x3 x4) := by
  intros
  unfold State.grantFrame
  try dsimp only
  repeat' first
    | with_reducible assumption
    | intro _
    | with_reducible apply State.setPrism_keeps
    | with_reducible apply State.count_keeps
    | with_reducible apply State.addReg_keeps
    | with_reducible apply Keeps.ite
    | with_reducible apply Keeps.foldl
    | split
    | dsimp only
    | fail_if_no_progress with_reducible refine Keeps.lit ?_ rfl
    | with_reducible refine Keeps.litDraw ?_ rfl
    | with_reducible refine Keeps.litHost ?_ rfl

theorem State.prismOpportunity_keeps {a s : State} (h : Keeps a s) : ∀ x1, Keeps a (State.prismOpportunity s x1) := by
  intros
  unfold State.prismOpportunity
  try dsimp only
  repeat' first
    | with_reducible assumption
    | intro _
    | with_reducible apply State.setPrism_keeps
    | with_reducible apply State.grantFrame_keeps
    | with_reducible apply Keeps.ite
    | with_reducible apply Keeps.foldl
    | split
    | dsimp only
    | fail_if_no_progress with_reducible refine Keeps.lit ?_ rfl
    | with_reducible refine Keeps.litDraw ?_ rfl
    | with_reducible refine Keeps.litHost ?_ rfl

theorem State.prismSlot_keeps {a s : State} (h : Keeps a s) : ∀ x1, Keeps a (State.prismSlot s x1) := by
  intros
  unfold State.prismSlot
  try dsimp only
  repeat' first
    | with_reducible assumption
    | intro _
    | with_reducible apply State.grantFrame_keeps
    | with_reducible apply State.prismOpportunity_keeps
    | with_reducible apply Keeps.ite
    | with_reducible apply Keeps.foldl
    | split
    | dsimp only
    | fail_if_no_progress with_reducible refine Keeps.lit ?_ rfl
    | with_reducible refine Keeps.litDraw ?_ rfl
    | with_reducible refine Keeps.litHost ?_ rfl

theorem State.prismDrop_keeps {a s : State} (h : Keeps a s) : ∀ x1, Keeps a (State.prismDrop s x1) := by
  intros
  unfold State.prismDrop
  try dsimp only
  repeat' first
    | with_reducible assumption
    | intro _
    | with_reducible apply State.prismHold_keeps
    | with_reducible apply State.setPrism_keeps
    | with_reducible apply Keeps.ite
    | with_reducible apply Keeps.foldl
    | split
    | dsimp only
    | fail_if_no_progress with_reducible refine Keeps.lit ?_ rfl
    | with_reducible refine Keeps.litDraw ?_ rfl
    | with_reducible refine Keeps.litHost ?_ rfl

theorem State.prismsDrop_keeps {a s : State} (h : Keeps a s) : Keeps a (State.prismsDrop s) := by
  unfold State.prismsDrop
  try dsimp only
  repeat' first
    | with_reducible assumption
    | intro _
    | with_reducible apply State.dropUnserved_keeps
    | with_reducible apply State.forAll_keeps
    | with_reducible apply State.prismDrop_keeps
    | with_reducible apply Keeps.ite
    | with_reducible apply Keeps.foldl
    | split
    | dsimp only
    | fail_if_no_progress with_reducible refine Keeps.lit ?_ rfl
    | with_reducible refine Keeps.litDraw ?_ rfl
    | with_reducible refine Keeps.litHost ?_ rfl

theorem State.prismGapOne_keeps {a s : State} (h : Keeps a s) : ∀ x1, Keeps a (State.prismGapOne s x1) := by
  intros
  unfold State.prismGapOne
  try dsimp only
  repeat' first
    | with_reducible assumption
    | intro _
    | with_reducible apply State.prismDrop_keeps
    | with_reducible apply State.prismHold_keeps
    | with_reducible apply State.setPrism_keeps
    | with_reducible apply Keeps.ite
    | with_reducible apply Keeps.foldl
    | split
    | dsimp only
    | fail_if_no_progress with_reducible refine Keeps.lit ?_ rfl
    | with_reducible refine Keeps.litDraw ?_ rfl
    | with_reducible refine Keeps.litHost ?_ rfl

theorem State.prismGap_keeps {a s : State} (h : Keeps a s) : Keeps a (State.prismGap s) := by
  unfold State.prismGap
  try dsimp only
  repeat' first
    | with_reducible assumption
    | intro _
    | with_reducible apply State.dropUnserved_keeps
    | with_reducible apply State.forAll_keeps
    | with_reducible apply State.prismGapOne_keeps
    | with_reducible apply Keeps.ite
    | with_reducible apply Keeps.foldl
    | split
    | dsimp only
    | fail_if_no_progress with_reducible refine Keeps.lit ?_ rfl
    | with_reducible refine Keeps.litDraw ?_ rfl
    | with_reducible refine Keeps.litHost ?_ rfl

theorem State.dropImage_keeps {a s : State} (h : Keeps a s) : ∀ x1, Keeps a (State.dropImage s x1) := by
  intros
  unfold State.dropImage
  try dsimp only
  repeat' first
    | with_reducible assumption
    | intro _
    | with_reducible apply Keeps.ite
    | with_reducible apply Keeps.foldl
    | split
    | dsimp only
    | fail_if_no_progress with_reducible refine Keeps.lit ?_ rfl
    | with_reducible refine Keeps.litDraw ?_ rfl
    | with_reducible refine Keeps.litHost ?_ rfl

end Sys2Proof.Machine
end

