-- ==== Sys2Proof/Laws/KeepsChalkMem.lean ====
section
/-! SUPPORT. What each operation of Machine/ChalkMem.lean keeps. -/

namespace Sys2Proof.Machine

set_option linter.unusedTactic false
set_option linter.unreachableTactic false

theorem State.setAccess_keeps {a s : State} (h : Keeps a s) : ∀ x1 x2 x3, Keeps a (State.setAccess s x1 x2 x3) := by
  intros
  unfold State.setAccess
  try dsimp only
  repeat' first
    | with_reducible assumption
    | intro _
    | with_reducible apply State.setDesk_keeps
    | with_reducible apply Keeps.ite
    | with_reducible apply Keeps.foldl
    | split
    | dsimp only
    | fail_if_no_progress with_reducible refine Keeps.lit ?_ rfl
    | with_reducible refine Keeps.litDraw ?_ rfl
    | with_reducible refine Keeps.litHost ?_ rfl

theorem State.settleSeat_keeps {a s : State} (h : Keeps a s) : ∀ x1 x2, Keeps a (State.settleSeat s x1 x2) := by
  intros
  unfold State.settleSeat
  try dsimp only
  repeat' first
    | with_reducible assumption
    | intro _
    | with_reducible apply State.setSeat_keeps
    | with_reducible apply Keeps.ite
    | with_reducible apply Keeps.foldl
    | split
    | dsimp only
    | fail_if_no_progress with_reducible refine Keeps.lit ?_ rfl
    | with_reducible refine Keeps.litDraw ?_ rfl
    | with_reducible refine Keeps.litHost ?_ rfl

theorem State.complete_keeps {a s : State} (h : Keeps a s) : ∀ x1 x2 x3 x4 x5, Keeps a (State.complete s x1 x2 x3 x4 x5) := by
  intros
  unfold State.complete
  try dsimp only
  repeat' first
    | with_reducible assumption
    | intro _
    | with_reducible apply State.setDesk_keeps
    | with_reducible apply State.collDesk_keeps
    | with_reducible apply State.setSeat_keeps
    | with_reducible apply State.setBytes_keeps
    | with_reducible apply Keeps.ite
    | with_reducible apply Keeps.foldl
    | split
    | dsimp only
    | fail_if_no_progress with_reducible refine Keeps.lit ?_ rfl
    | with_reducible refine Keeps.litDraw ?_ rfl
    | with_reducible refine Keeps.litHost ?_ rfl

theorem State.performBb_keeps {a s : State} (h : Keeps a s) : ∀ x1 x2 x3, Keeps a (State.performBb s x1 x2 x3) := by
  intros
  unfold State.performBb
  try dsimp only
  repeat' first
    | with_reducible assumption
    | intro _
    | with_reducible apply State.forAll_keeps
    | with_reducible apply State.bankTake_keeps
    | with_reducible apply State.complete_keeps
    | refine State.storeMem_eq_keeps ?_ (by with_reducible assumption)
    | with_reducible apply State.storeMem_snd_keeps
    | with_reducible apply Keeps.ite
    | with_reducible apply Keeps.foldl
    | split
    | dsimp only
    | fail_if_no_progress with_reducible refine Keeps.lit ?_ rfl
    | with_reducible refine Keeps.litDraw ?_ rfl
    | with_reducible refine Keeps.litHost ?_ rfl

theorem State.sendAccess_keeps {a s : State} (h : Keeps a s) : ∀ x1 x2 x3, Keeps a (State.sendAccess s x1 x2 x3) := by
  intros
  unfold State.sendAccess
  try dsimp only
  repeat' first
    | with_reducible assumption
    | intro _
    | with_reducible apply State.performBb_keeps
    | with_reducible apply State.setAccess_keeps
    | with_reducible apply State.setRoom_keeps
    | with_reducible apply State.offer_keeps
    | with_reducible apply State.emit_keeps
    | with_reducible apply State.sendTimed_keeps
    | with_reducible apply State.submit_keeps
    | with_reducible apply Keeps.ite
    | with_reducible apply Keeps.foldl
    | split
    | dsimp only
    | fail_if_no_progress with_reducible refine Keeps.lit ?_ rfl
    | with_reducible refine Keeps.litDraw ?_ rfl
    | with_reducible refine Keeps.litHost ?_ rfl

theorem State.pumpSeat_keeps {a s : State} (h : Keeps a s) : ∀ x1 x2, Keeps a (State.pumpSeat s x1 x2) := by
  intros
  unfold State.pumpSeat
  try dsimp only
  repeat' first
    | with_reducible assumption
    | intro _
    | with_reducible apply State.settleSeat_keeps
    | with_reducible apply State.forAll_keeps
    | with_reducible apply State.sendAccess_keeps
    | with_reducible apply Keeps.ite
    | with_reducible apply Keeps.foldl
    | split
    | dsimp only
    | fail_if_no_progress with_reducible refine Keeps.lit ?_ rfl
    | with_reducible refine Keeps.litDraw ?_ rfl
    | with_reducible refine Keeps.litHost ?_ rfl

theorem State.tickDesk_keeps {a s : State} (h : Keeps a s) : ∀ x1, Keeps a (State.tickDesk s x1) := by
  intros
  unfold State.tickDesk
  try dsimp only
  repeat' first
    | with_reducible assumption
    | intro _
    | with_reducible apply State.forAll_keeps
    | with_reducible apply State.pumpSeat_keeps
    | with_reducible apply State.setAccess_keeps
    | with_reducible apply Keeps.ite
    | with_reducible apply Keeps.foldl
    | split
    | dsimp only
    | fail_if_no_progress with_reducible refine Keeps.lit ?_ rfl
    | with_reducible refine Keeps.litDraw ?_ rfl
    | with_reducible refine Keeps.litHost ?_ rfl

theorem State.refuse_keeps {a s : State} (h : Keeps a s) : ∀ x1 x2 x3 x4, Keeps a (State.refuse s x1 x2 x3 x4) := by
  intros
  unfold State.refuse
  try dsimp only
  repeat' first
    | with_reducible assumption
    | intro _
    | with_reducible apply State.useLane_keeps
    | with_reducible apply State.putMe_keeps
    | with_reducible apply Keeps.ite
    | with_reducible apply Keeps.foldl
    | split
    | dsimp only
    | fail_if_no_progress with_reducible refine Keeps.lit ?_ rfl
    | with_reducible refine Keeps.litDraw ?_ rfl
    | with_reducible refine Keeps.litHost ?_ rfl

theorem State.newAccess_snd_keeps {a s : State} (h : Keeps a s) : ∀ x1 x2, Keeps a (State.newAccess s x1 x2).2 := by
  intros
  unfold State.newAccess
  try dsimp only
  repeat' first
    | with_reducible assumption
    | intro _
    | with_reducible apply State.setDesk_keeps
    | with_reducible apply State.putMe_keeps
    | with_reducible apply Keeps.ite
    | with_reducible apply Keeps.foldl
    | split
    | dsimp only
    | fail_if_no_progress with_reducible refine Keeps.lit ?_ rfl
    | with_reducible refine Keeps.litDraw ?_ rfl
    | with_reducible refine Keeps.litHost ?_ rfl

theorem State.newAccess_eq_keeps {a s t : State} (h : Keeps a s) {x1 x2 y0} (e : State.newAccess s x1 x2 = (y0, t)) : Keeps a t := by
  have k := State.newAccess_snd_keeps h x1 x2
  rw [e] at k; exact k

theorem State.lookup_snd_keeps {a s : State} (h : Keeps a s) : ∀ x1 x2 x3 x4 x5, Keeps a (State.lookup s x1 x2 x3 x4 x5).2 := by
  intros
  unfold State.lookup
  try dsimp only
  repeat' first
    | with_reducible assumption
    | intro _
    | with_reducible apply State.putMicro_keeps
    | with_reducible apply Keeps.ite
    | with_reducible apply Keeps.foldl
    | split
    | dsimp only
    | fail_if_no_progress with_reducible refine Keeps.lit ?_ rfl
    | with_reducible refine Keeps.litDraw ?_ rfl
    | with_reducible refine Keeps.litHost ?_ rfl

theorem State.lookup_eq_keeps {a s t : State} (h : Keeps a s) {x1 x2 x3 x4 x5 y0} (e : State.lookup s x1 x2 x3 x4 x5 = (y0, t)) : Keeps a t := by
  have k := State.lookup_snd_keeps h x1 x2 x3 x4 x5
  rw [e] at k; exact k

theorem State.goLoose_keeps {a s : State} (h : Keeps a s) : ∀ x1 x2 x3 x4 x5, Keeps a (State.goLoose s x1 x2 x3 x4 x5) := by
  intros
  unfold State.goLoose
  try dsimp only
  repeat' first
    | with_reducible assumption
    | intro _
    | with_reducible apply State.pumpSeat_keeps
    | with_reducible apply State.complete_keeps
    | with_reducible apply State.setAccess_keeps
    | with_reducible apply Keeps.ite
    | with_reducible apply Keeps.foldl
    | split
    | dsimp only
    | fail_if_no_progress with_reducible refine Keeps.lit ?_ rfl
    | with_reducible refine Keeps.litDraw ?_ rfl
    | with_reducible refine Keeps.litHost ?_ rfl

theorem State.startLoose_keeps {a s : State} (h : Keeps a s) : ∀ x1 x2 x3 x4 x5, Keeps a (State.startLoose s x1 x2 x3 x4 x5) := by
  intros
  unfold State.startLoose
  try dsimp only
  repeat' first
    | with_reducible assumption
    | intro _
    | refine State.lookup_eq_keeps ?_ (by with_reducible assumption)
    | with_reducible apply State.lookup_snd_keeps
    | with_reducible apply State.goLoose_keeps
    | refine State.startWalk_eq_keeps ?_ (by with_reducible assumption)
    | with_reducible apply State.startWalk_snd_keeps
    | with_reducible apply State.settleSeat_keeps
    | with_reducible apply State.setAccess_keeps
    | with_reducible apply Keeps.ite
    | with_reducible apply Keeps.foldl
    | split
    | dsimp only
    | fail_if_no_progress with_reducible refine Keeps.lit ?_ rfl
    | with_reducible refine Keeps.litDraw ?_ rfl
    | with_reducible refine Keeps.litHost ?_ rfl

theorem State.deskWalked_keeps {a s : State} (h : Keeps a s) : ∀ x1 x2 x3 x4, Keeps a (State.deskWalked s x1 x2 x3 x4) := by
  intros
  unfold State.deskWalked
  try dsimp only
  repeat' first
    | with_reducible assumption
    | intro _
    | with_reducible apply State.pumpSeat_keeps
    | with_reducible apply State.complete_keeps
    | with_reducible apply State.count_keeps
    | with_reducible apply State.goLoose_keeps
    | with_reducible apply State.putMicro_keeps
    | with_reducible apply State.putWing_keeps
    | with_reducible apply Keeps.ite
    | with_reducible apply Keeps.foldl
    | split
    | dsimp only
    | fail_if_no_progress with_reducible refine Keeps.lit ?_ rfl
    | with_reducible refine Keeps.litDraw ?_ rfl
    | with_reducible refine Keeps.litHost ?_ rfl

theorem State.goLate_keeps {a s : State} (h : Keeps a s) : ∀ x1 x2 x3 x4 x5, Keeps a (State.goLate s x1 x2 x3 x4 x5) := by
  intros
  unfold State.goLate
  try dsimp only
  repeat' first
    | with_reducible assumption
    | intro _
    | with_reducible apply State.pumpSeat_keeps
    | with_reducible apply State.complete_keeps
    | with_reducible apply State.startLoose_keeps
    | with_reducible apply Keeps.ite
    | with_reducible apply Keeps.foldl
    | split
    | dsimp only
    | fail_if_no_progress with_reducible refine Keeps.lit ?_ rfl
    | with_reducible refine Keeps.litDraw ?_ rfl
    | with_reducible refine Keeps.litHost ?_ rfl

theorem State.giveWay_keeps {a s : State} (h : Keeps a s) : ∀ x1 x2, Keeps a (State.giveWay s x1 x2) := by
  intros
  unfold State.giveWay
  try dsimp only
  repeat' first
    | with_reducible assumption
    | intro _
    | with_reducible apply State.switchSeat_keeps
    | with_reducible apply Keeps.ite
    | with_reducible apply Keeps.foldl
    | split
    | dsimp only
    | fail_if_no_progress with_reducible refine Keeps.lit ?_ rfl
    | with_reducible refine Keeps.litDraw ?_ rfl
    | with_reducible refine Keeps.litHost ?_ rfl

theorem State.fabricLoose_keeps {a s : State} (h : Keeps a s) : ∀ x1 x2 x3, Keeps a (State.fabricLoose s x1 x2 x3) := by
  intros
  unfold State.fabricLoose
  try dsimp only
  repeat' first
    | with_reducible assumption
    | intro _
    | refine State.newAccess_eq_keeps ?_ (by with_reducible assumption)
    | with_reducible apply State.newAccess_snd_keeps
    | with_reducible apply State.settleSeat_keeps
    | with_reducible apply State.startLoose_keeps
    | with_reducible apply Keeps.ite
    | with_reducible apply Keeps.foldl
    | split
    | dsimp only
    | fail_if_no_progress with_reducible refine Keeps.lit ?_ rfl
    | with_reducible refine Keeps.litDraw ?_ rfl
    | with_reducible refine Keeps.litHost ?_ rfl

theorem State.fabricLate_keeps {a s : State} (h : Keeps a s) : ∀ x1 x2 x3, Keeps a (State.fabricLate s x1 x2 x3) := by
  intros
  unfold State.fabricLate
  try dsimp only
  repeat' first
    | with_reducible assumption
    | intro _
    | with_reducible apply State.useLane_keeps
    | refine State.newAccess_eq_keeps ?_ (by with_reducible assumption)
    | with_reducible apply State.newAccess_snd_keeps
    | with_reducible apply State.complete_keeps
    | with_reducible apply State.fabricLoose_keeps
    | with_reducible apply Keeps.ite
    | with_reducible apply Keeps.foldl
    | split
    | dsimp only
    | fail_if_no_progress with_reducible refine Keeps.lit ?_ rfl
    | with_reducible refine Keeps.litDraw ?_ rfl
    | with_reducible refine Keeps.litHost ?_ rfl

theorem State.fabricTimed_keeps {a s : State} (h : Keeps a s) : ∀ x1 x2 x3 x4, Keeps a (State.fabricTimed s x1 x2 x3 x4) := by
  intros
  unfold State.fabricTimed
  try dsimp only
  repeat' first
    | with_reducible assumption
    | intro _
    | refine State.lookup_eq_keeps ?_ (by with_reducible assumption)
    | with_reducible apply State.lookup_snd_keeps
    | with_reducible apply State.fabricLate_keeps
    | with_reducible apply State.refuse_keeps
    | with_reducible apply State.settleSeat_keeps
    | refine State.newAccess_eq_keeps ?_ (by with_reducible assumption)
    | with_reducible apply State.newAccess_snd_keeps
    | with_reducible apply State.useLane_keeps
    | with_reducible apply Keeps.ite
    | with_reducible apply Keeps.foldl
    | split
    | dsimp only
    | fail_if_no_progress with_reducible refine Keeps.lit ?_ rfl
    | with_reducible refine Keeps.litDraw ?_ rfl
    | with_reducible refine Keeps.litHost ?_ rfl

theorem State.fabric_keeps {a s : State} (h : Keeps a s) : ∀ x1 x2, Keeps a (State.fabric s x1 x2) := by
  intros
  unfold State.fabric
  try dsimp only
  repeat' first
    | with_reducible assumption
    | intro _
    | with_reducible apply State.issue_keeps
    | with_reducible apply State.refuse_keeps
    | with_reducible apply State.giveWay_keeps
    | with_reducible apply State.fabricLoose_keeps
    | with_reducible apply State.fabricTimed_keeps
    | with_reducible apply Keeps.ite
    | with_reducible apply Keeps.foldl
    | split
    | dsimp only
    | fail_if_no_progress with_reducible refine Keeps.lit ?_ rfl
    | with_reducible refine Keeps.litDraw ?_ rfl
    | with_reducible refine Keeps.litHost ?_ rfl

theorem State.omvLoose_keeps {a s : State} (h : Keeps a s) : ∀ x1 x2, Keeps a (State.omvLoose s x1 x2) := by
  intros
  unfold State.omvLoose
  try dsimp only
  repeat' first
    | with_reducible assumption
    | intro _
    | with_reducible apply State.pumpSeat_keeps
    | refine State.newAccess_eq_keeps ?_ (by with_reducible assumption)
    | with_reducible apply State.newAccess_snd_keeps
    | with_reducible apply Keeps.ite
    | with_reducible apply Keeps.foldl
    | split
    | dsimp only
    | fail_if_no_progress with_reducible refine Keeps.lit ?_ rfl
    | with_reducible refine Keeps.litDraw ?_ rfl
    | with_reducible refine Keeps.litHost ?_ rfl

theorem State.board_keeps {a s : State} (h : Keeps a s) : ∀ x1 x2, Keeps a (State.board s x1 x2) := by
  intros
  unfold State.board
  try dsimp only
  repeat' first
    | with_reducible assumption
    | intro _
    | with_reducible apply State.issue_keeps
    | with_reducible apply State.putMe_keeps
    | with_reducible apply State.useLane_keeps
    | with_reducible apply State.pumpSeat_keeps
    | refine State.newAccess_eq_keeps ?_ (by with_reducible assumption)
    | with_reducible apply State.newAccess_snd_keeps
    | with_reducible apply Keeps.ite
    | with_reducible apply Keeps.foldl
    | split
    | dsimp only
    | fail_if_no_progress with_reducible refine Keeps.lit ?_ rfl
    | with_reducible refine Keeps.litDraw ?_ rfl
    | with_reducible refine Keeps.litHost ?_ rfl

theorem State.depart_keeps {a s : State} (h : Keeps a s) : ∀ x1 x2 x3, Keeps a (State.depart s x1 x2 x3) := by
  intros
  unfold State.depart
  try dsimp only
  repeat' first
    | with_reducible assumption
    | intro _
    | refine State.lookup_eq_keeps ?_ (by with_reducible assumption)
    | with_reducible apply State.lookup_snd_keeps
    | with_reducible apply State.pumpSeat_keeps
    | with_reducible apply State.setAccess_keeps
    | with_reducible apply State.goLate_keeps
    | with_reducible apply Keeps.ite
    | with_reducible apply Keeps.foldl
    | split
    | dsimp only
    | fail_if_no_progress with_reducible refine Keeps.lit ?_ rfl
    | with_reducible refine Keeps.litDraw ?_ rfl
    | with_reducible refine Keeps.litHost ?_ rfl

theorem State.departAccess_keeps {a s : State} (h : Keeps a s) : ∀ x1 x2 x3, Keeps a (State.departAccess s x1 x2 x3) := by
  intros
  unfold State.departAccess
  try dsimp only
  repeat' first
    | with_reducible assumption
    | intro _
    | with_reducible apply State.depart_keeps
    | with_reducible apply Keeps.ite
    | with_reducible apply Keeps.foldl
    | split
    | dsimp only
    | fail_if_no_progress with_reducible refine Keeps.lit ?_ rfl
    | with_reducible refine Keeps.litDraw ?_ rfl
    | with_reducible refine Keeps.litHost ?_ rfl

theorem State.homesGo_keeps {a s : State} (h : Keeps a s) : Keeps a (State.homesGo s) := by
  unfold State.homesGo
  try dsimp only
  repeat' first
    | with_reducible assumption
    | intro _
    | with_reducible apply State.runWaiting_keeps
    | with_reducible apply Keeps.ite
    | with_reducible apply Keeps.foldl
    | split
    | dsimp only
    | fail_if_no_progress with_reducible refine Keeps.lit ?_ rfl
    | with_reducible refine Keeps.litDraw ?_ rfl
    | with_reducible refine Keeps.litHost ?_ rfl

end Sys2Proof.Machine
end

