-- ==== Sys2Proof/Laws/KeepsStream.lean ====
section
/-! SUPPORT. What each operation of Machine/Stream.lean keeps. -/

namespace Sys2Proof.Machine

set_option linter.unusedTactic false
set_option linter.unreachableTactic false

theorem State.streamSend_keeps {a s : State} (h : Keeps a s) : ∀ x1 x2 x3, Keeps a (State.streamSend s x1 x2 x3) := by
  intros
  unfold State.streamSend
  try dsimp only
  repeat' first
    | with_reducible assumption
    | intro _
    | with_reducible apply State.emit_keeps
    | with_reducible apply State.setStrm_keeps
    | with_reducible apply State.sendTimed_keeps
    | with_reducible apply State.submit_keeps
    | with_reducible apply Keeps.ite
    | with_reducible apply Keeps.foldl
    | split
    | dsimp only
    | fail_if_no_progress with_reducible refine Keeps.lit ?_ rfl
    | with_reducible refine Keeps.litDraw ?_ rfl
    | with_reducible refine Keeps.litHost ?_ rfl

theorem State.writeDone_keeps {a s : State} (h : Keeps a s) : ∀ x1 x2 x3 x4 x5, Keeps a (State.writeDone s x1 x2 x3 x4 x5) := by
  intros
  unfold State.writeDone
  try dsimp only
  repeat' first
    | with_reducible assumption
    | intro _
    | with_reducible apply State.streamSend_keeps
    | with_reducible apply Keeps.ite
    | with_reducible apply Keeps.foldl
    | split
    | dsimp only
    | fail_if_no_progress with_reducible refine Keeps.lit ?_ rfl
    | with_reducible refine Keeps.litDraw ?_ rfl
    | with_reducible refine Keeps.litHost ?_ rfl

theorem State.goEnds_keeps {a s : State} (h : Keeps a s) : ∀ x1 x2 k, Keeps a (State.goEnds s x1 x2 k) := by
  intro x1 x2 k
  induction k generalizing s with
  | zero => exact h
  | succ k ih =>
    unfold State.goEnds
    try dsimp only
    repeat' first
      | with_reducible assumption
      | with_reducible apply ih
      | intro _
      | refine State.startWalk_eq_keeps ?_ (by with_reducible assumption)
      | with_reducible apply State.startWalk_snd_keeps
      | with_reducible apply State.setStrm_keeps
      | with_reducible apply State.writeDone_keeps
      | refine State.startWalk_eq_keeps ?_ (by with_reducible assumption)
      | with_reducible apply State.startWalk_snd_keeps
      | with_reducible apply State.setStrm_keeps
      | with_reducible apply State.writeDone_keeps
      | with_reducible apply Keeps.ite
      | with_reducible apply Keeps.foldl
      | split
      | dsimp only
      | fail_if_no_progress with_reducible refine Keeps.lit ?_ rfl
      | with_reducible refine Keeps.litDraw ?_ rfl
      | with_reducible refine Keeps.litHost ?_ rfl

theorem State.endsGo_keeps {a s : State} (h : Keeps a s) : ∀ x1 x2, Keeps a (State.endsGo s x1 x2) := by
  intros
  unfold State.endsGo
  try dsimp only
  repeat' first
    | with_reducible assumption
    | intro _
    | with_reducible apply State.goEnds_keeps
    | with_reducible apply Keeps.ite
    | with_reducible apply Keeps.foldl
    | split
    | dsimp only
    | fail_if_no_progress with_reducible refine Keeps.lit ?_ rfl
    | with_reducible refine Keeps.litDraw ?_ rfl
    | with_reducible refine Keeps.litHost ?_ rfl

theorem State.endXfer_keeps {a s : State} (h : Keeps a s) : ∀ x1 x2 x3 x4 x5, Keeps a (State.endXfer s x1 x2 x3 x4 x5) := by
  intros
  unfold State.endXfer
  try dsimp only
  repeat' first
    | with_reducible assumption
    | intro _
    | with_reducible apply State.endsGo_keeps
    | with_reducible apply State.setStrm_keeps
    | with_reducible apply Keeps.ite
    | with_reducible apply Keeps.foldl
    | split
    | dsimp only
    | fail_if_no_progress with_reducible refine Keeps.lit ?_ rfl
    | with_reducible refine Keeps.litDraw ?_ rfl
    | with_reducible refine Keeps.litHost ?_ rfl

theorem State.finishXfer_keeps {a s : State} (h : Keeps a s) : ∀ x1 x2 x3, Keeps a (State.finishXfer s x1 x2 x3) := by
  intros
  unfold State.finishXfer
  try dsimp only
  repeat' first
    | with_reducible assumption
    | intro _
    | with_reducible apply State.endXfer_keeps
    | with_reducible apply State.collTransfer_keeps
    | with_reducible apply State.setStrm_keeps
    | with_reducible apply Keeps.ite
    | with_reducible apply Keeps.foldl
    | split
    | dsimp only
    | fail_if_no_progress with_reducible refine Keeps.lit ?_ rfl
    | with_reducible refine Keeps.litDraw ?_ rfl
    | with_reducible refine Keeps.litHost ?_ rfl

theorem State.putSave_keeps {a s : State} (h : Keeps a s) : ∀ x1 x2 x3 x4 x5, Keeps a (State.putSave s x1 x2 x3 x4 x5) := by
  intros
  unfold State.putSave
  try dsimp only
  repeat' first
    | with_reducible assumption
    | intro _
    | with_reducible apply State.poke_keeps
    | with_reducible apply Keeps.ite
    | with_reducible apply Keeps.foldl
    | split
    | dsimp only
    | fail_if_no_progress with_reducible refine Keeps.lit ?_ rfl
    | with_reducible refine Keeps.litDraw ?_ rfl
    | with_reducible refine Keeps.litHost ?_ rfl

theorem State.setSaveState_keeps {a s : State} (h : Keeps a s) : ∀ x1 x2, Keeps a (State.setSaveState s x1 x2) := by
  intros
  unfold State.setSaveState
  try dsimp only
  repeat' first
    | with_reducible assumption
    | intro _
    | with_reducible apply State.poke_keeps
    | with_reducible apply Keeps.ite
    | with_reducible apply Keeps.foldl
    | split
    | dsimp only
    | fail_if_no_progress with_reducible refine Keeps.lit ?_ rfl
    | with_reducible refine Keeps.litDraw ?_ rfl
    | with_reducible refine Keeps.litHost ?_ rfl

theorem State.tileFault_keeps {a s : State} (h : Keeps a s) : ∀ x1 x2 x3 x4 x5 x6, Keeps a (State.tileFault s x1 x2 x3 x4 x5 x6) := by
  intros
  unfold State.tileFault
  try dsimp only
  repeat' first
    | with_reducible assumption
    | intro _
    | with_reducible apply State.setStrm_keeps
    | with_reducible apply State.count_keeps
    | with_reducible apply State.countWrap_keeps
    | with_reducible apply State.putSave_keeps
    | with_reducible apply State.postFault_keeps
    | with_reducible apply Keeps.ite
    | with_reducible apply Keeps.foldl
    | split
    | dsimp only
    | fail_if_no_progress with_reducible refine Keeps.lit ?_ rfl
    | with_reducible refine Keeps.litDraw ?_ rfl
    | with_reducible refine Keeps.litHost ?_ rfl

theorem State.seek_keeps {a s : State} (h : Keeps a s) : ∀ x1 x2, Keeps a (State.seek s x1 x2) := by
  intros
  unfold State.seek
  try dsimp only
  repeat' first
    | with_reducible assumption
    | intro _
    | with_reducible apply State.finishXfer_keeps
    | with_reducible apply State.setStrm_keeps
    | refine State.startWalk_eq_keeps ?_ (by with_reducible assumption)
    | with_reducible apply State.startWalk_snd_keeps
    | with_reducible apply Keeps.ite
    | with_reducible apply Keeps.foldl
    | split
    | dsimp only
    | fail_if_no_progress with_reducible refine Keeps.lit ?_ rfl
    | with_reducible refine Keeps.litDraw ?_ rfl
    | with_reducible refine Keeps.litHost ?_ rfl

theorem State.streamWalked_keeps {a s : State} (h : Keeps a s) : ∀ x1 x2 x3, Keeps a (State.streamWalked s x1 x2 x3) := by
  intros
  unfold State.streamWalked
  try dsimp only
  repeat' first
    | with_reducible assumption
    | intro _
    | with_reducible apply State.putWing_keeps
    | with_reducible apply State.endsGo_keeps
    | with_reducible apply State.setStrm_keeps
    | with_reducible apply State.tileFault_keeps
    | with_reducible apply State.seek_keeps
    | with_reducible apply Keeps.ite
    | with_reducible apply Keeps.foldl
    | split
    | dsimp only
    | fail_if_no_progress with_reducible refine Keeps.lit ?_ rfl
    | with_reducible refine Keeps.litDraw ?_ rfl
    | with_reducible refine Keeps.litHost ?_ rfl

theorem State.sendTileFrame_keeps {a s : State} (h : Keeps a s) : ∀ x1 x2 x3, Keeps a (State.sendTileFrame s x1 x2 x3) := by
  intros
  unfold State.sendTileFrame
  try dsimp only
  repeat' first
    | with_reducible assumption
    | intro _
    | with_reducible apply State.streamSend_keeps
    | with_reducible apply State.setStrm_keeps
    | with_reducible apply State.offer_keeps
    | with_reducible apply Keeps.ite
    | with_reducible apply Keeps.foldl
    | split
    | dsimp only
    | fail_if_no_progress with_reducible refine Keeps.lit ?_ rfl
    | with_reducible refine Keeps.litDraw ?_ rfl
    | with_reducible refine Keeps.litHost ?_ rfl

theorem State.sendTile_keeps {a s : State} (h : Keeps a s) : ∀ x1 x2, Keeps a (State.sendTile s x1 x2) := by
  intros
  unfold State.sendTile
  try dsimp only
  repeat' first
    | with_reducible assumption
    | intro _
    | with_reducible apply State.forAll_keeps
    | with_reducible apply State.sendTileFrame_keeps
    | with_reducible apply Keeps.ite
    | with_reducible apply Keeps.foldl
    | split
    | dsimp only
    | fail_if_no_progress with_reducible refine Keeps.lit ?_ rfl
    | with_reducible refine Keeps.litDraw ?_ rfl
    | with_reducible refine Keeps.litHost ?_ rfl

theorem State.settleStreams_keeps {a s : State} (h : Keeps a s) : Keeps a (State.settleStreams s) := by
  unfold State.settleStreams
  try dsimp only
  repeat' first
    | with_reducible assumption
    | intro _
    | with_reducible apply State.forAll_keeps
    | with_reducible apply State.endsGo_keeps
    | with_reducible apply State.sendTile_keeps
    | with_reducible apply Keeps.ite
    | with_reducible apply Keeps.foldl
    | split
    | dsimp only
    | fail_if_no_progress with_reducible refine Keeps.lit ?_ rfl
    | with_reducible refine Keeps.litDraw ?_ rfl
    | with_reducible refine Keeps.litHost ?_ rfl

theorem State.prefetch_keeps {a s : State} (h : Keeps a s) : ∀ x1 x2, Keeps a (State.prefetch s x1 x2) := by
  intros
  unfold State.prefetch
  try dsimp only
  repeat' first
    | with_reducible assumption
    | intro _
    | with_reducible apply State.forAll_keeps
    | refine State.startWalk_eq_keeps ?_ (by with_reducible assumption)
    | with_reducible apply State.startWalk_snd_keeps
    | with_reducible apply Keeps.ite
    | with_reducible apply Keeps.foldl
    | split
    | dsimp only
    | fail_if_no_progress with_reducible refine Keeps.lit ?_ rfl
    | with_reducible refine Keeps.litDraw ?_ rfl
    | with_reducible refine Keeps.litHost ?_ rfl

theorem State.beginTile_keeps {a s : State} (h : Keeps a s) : ∀ x1 x2, Keeps a (State.beginTile s x1 x2) := by
  intros
  unfold State.beginTile
  try dsimp only
  repeat' first
    | with_reducible assumption
    | intro _
    | with_reducible apply State.finishXfer_keeps
    | with_reducible apply State.prefetch_keeps
    | with_reducible apply State.sendTile_keeps
    | with_reducible apply State.setStrm_keeps
    | with_reducible apply Keeps.ite
    | with_reducible apply Keeps.foldl
    | split
    | dsimp only
    | fail_if_no_progress with_reducible refine Keeps.lit ?_ rfl
    | with_reducible refine Keeps.litDraw ?_ rfl
    | with_reducible refine Keeps.litHost ?_ rfl

theorem State.startXfer_keeps {a s : State} (h : Keeps a s) : ∀ x1 x2, Keeps a (State.startXfer s x1 x2) := by
  intros
  unfold State.startXfer
  try dsimp only
  repeat' first
    | with_reducible assumption
    | intro _
    | with_reducible apply State.setStrm_keeps
    | with_reducible apply State.endXfer_keeps
    | with_reducible apply State.seek_keeps
    | with_reducible apply State.setSaveState_keeps
    | with_reducible apply State.setRegBit_keeps
    | with_reducible apply Keeps.ite
    | with_reducible apply Keeps.foldl
    | split
    | dsimp only
    | fail_if_no_progress with_reducible refine Keeps.lit ?_ rfl
    | with_reducible refine Keeps.litDraw ?_ rfl
    | with_reducible refine Keeps.litHost ?_ rfl

theorem State.parkAt_keeps {a s : State} (h : Keeps a s) : ∀ x1 x2 x3 x4, Keeps a (State.parkAt s x1 x2 x3 x4) := by
  intros
  unfold State.parkAt
  try dsimp only
  repeat' first
    | with_reducible assumption
    | intro _
    | with_reducible apply State.setStrm_keeps
    | with_reducible apply State.putSave_keeps
    | with_reducible apply Keeps.ite
    | with_reducible apply Keeps.foldl
    | split
    | dsimp only
    | fail_if_no_progress with_reducible refine Keeps.lit ?_ rfl
    | with_reducible refine Keeps.litDraw ?_ rfl
    | with_reducible refine Keeps.litHost ?_ rfl

theorem State.tileDone_keeps {a s : State} (h : Keeps a s) : ∀ x1 x2, Keeps a (State.tileDone s x1 x2) := by
  intros
  unfold State.tileDone
  try dsimp only
  repeat' first
    | with_reducible assumption
    | intro _
    | with_reducible apply State.finishXfer_keeps
    | with_reducible apply State.parkAt_keeps
    | with_reducible apply State.seek_keeps
    | with_reducible apply State.setStrm_keeps
    | with_reducible apply Keeps.ite
    | with_reducible apply Keeps.foldl
    | split
    | dsimp only
    | fail_if_no_progress with_reducible refine Keeps.lit ?_ rfl
    | with_reducible refine Keeps.litDraw ?_ rfl
    | with_reducible refine Keeps.litHost ?_ rfl

theorem State.parkXfer_keeps {a s : State} (h : Keeps a s) : ∀ x1 x2, Keeps a (State.parkXfer s x1 x2) := by
  intros
  unfold State.parkXfer
  try dsimp only
  repeat' first
    | with_reducible assumption
    | intro _
    | with_reducible apply State.parkAt_keeps
    | with_reducible apply Keeps.ite
    | with_reducible apply Keeps.foldl
    | split
    | dsimp only
    | fail_if_no_progress with_reducible refine Keeps.lit ?_ rfl
    | with_reducible refine Keeps.litDraw ?_ rfl
    | with_reducible refine Keeps.litHost ?_ rfl

theorem State.engineLesson_keeps {a s : State} (h : Keeps a s) : ∀ x1 x2, Keeps a (State.engineLesson s x1 x2) := by
  intros
  unfold State.engineLesson
  try dsimp only
  repeat' first
    | with_reducible assumption
    | intro _
    | with_reducible apply State.setStrm_keeps
    | with_reducible apply State.parkXfer_keeps
    | with_reducible apply Keeps.ite
    | with_reducible apply Keeps.foldl
    | split
    | dsimp only
    | fail_if_no_progress with_reducible refine Keeps.lit ?_ rfl
    | with_reducible refine Keeps.litDraw ?_ rfl
    | with_reducible refine Keeps.litHost ?_ rfl

theorem State.requeueReady_keeps {a s : State} (h : Keeps a s) : Keeps a (State.requeueReady s) := by
  unfold State.requeueReady
  try dsimp only
  repeat' first
    | with_reducible assumption
    | intro _
    | with_reducible apply State.forAll_keeps
    | with_reducible apply State.setSaveState_keeps
    | with_reducible apply State.setStrm_keeps
    | with_reducible apply Keeps.ite
    | with_reducible apply Keeps.foldl
    | split
    | dsimp only
    | fail_if_no_progress with_reducible refine Keeps.lit ?_ rfl
    | with_reducible refine Keeps.litDraw ?_ rfl
    | with_reducible refine Keeps.litHost ?_ rfl

theorem State.streamsLesson_keeps {a s : State} (h : Keeps a s) : Keeps a (State.streamsLesson s) := by
  unfold State.streamsLesson
  try dsimp only
  repeat' first
    | with_reducible assumption
    | intro _
    | with_reducible apply State.requeueReady_keeps
    | with_reducible apply State.forAll_keeps
    | with_reducible apply State.engineLesson_keeps
    | with_reducible apply Keeps.ite
    | with_reducible apply Keeps.foldl
    | split
    | dsimp only
    | fail_if_no_progress with_reducible refine Keeps.lit ?_ rfl
    | with_reducible refine Keeps.litDraw ?_ rfl
    | with_reducible refine Keeps.litHost ?_ rfl

theorem State.streamsTimedOut_keeps {a s : State} (h : Keeps a s) : Keeps a (State.streamsTimedOut s) := by
  unfold State.streamsTimedOut
  try dsimp only
  repeat' first
    | with_reducible assumption
    | intro _
    | with_reducible apply Keeps.ite
    | with_reducible apply Keeps.foldl
    | split
    | dsimp only
    | fail_if_no_progress with_reducible refine Keeps.lit ?_ rfl
    | with_reducible refine Keeps.litDraw ?_ rfl
    | with_reducible refine Keeps.litHost ?_ rfl

theorem State.resetStreams_keeps {a s : State} (h : Keeps a s) : Keeps a (State.resetStreams s) := by
  unfold State.resetStreams
  try dsimp only
  repeat' first
    | with_reducible assumption
    | intro _
    | with_reducible apply State.forAll_keeps
    | with_reducible apply State.setSaveState_keeps
    | with_reducible apply Keeps.ite
    | with_reducible apply Keeps.foldl
    | split
    | dsimp only
    | fail_if_no_progress with_reducible refine Keeps.lit ?_ rfl
    | with_reducible refine Keeps.litDraw ?_ rfl
    | with_reducible refine Keeps.litHost ?_ rfl

theorem State.badResume_keeps {a s : State} (h : Keeps a s) : Keeps a (State.badResume s) := by
  unfold State.badResume
  try dsimp only
  repeat' first
    | with_reducible assumption
    | intro _
    | with_reducible apply State.setRegBit_keeps
    | with_reducible apply Keeps.ite
    | with_reducible apply Keeps.foldl
    | split
    | dsimp only
    | fail_if_no_progress with_reducible refine Keeps.lit ?_ rfl
    | with_reducible refine Keeps.litDraw ?_ rfl
    | with_reducible refine Keeps.litHost ?_ rfl

theorem State.abortRecord_keeps {a s : State} (h : Keeps a s) : ∀ x1, Keeps a (State.abortRecord s x1) := by
  intros
  unfold State.abortRecord
  try dsimp only
  repeat' first
    | with_reducible assumption
    | intro _
    | with_reducible apply State.setSaveState_keeps
    | with_reducible apply State.endXfer_keeps
    | with_reducible apply State.collTransfer_keeps
    | with_reducible apply Keeps.ite
    | with_reducible apply Keeps.foldl
    | split
    | dsimp only
    | fail_if_no_progress with_reducible refine Keeps.lit ?_ rfl
    | with_reducible refine Keeps.litDraw ?_ rfl
    | with_reducible refine Keeps.litHost ?_ rfl

theorem State.resumeRecord_keeps {a s : State} (h : Keeps a s) : ∀ x1 x2, Keeps a (State.resumeRecord s x1 x2) := by
  intros
  unfold State.resumeRecord
  try dsimp only
  repeat' first
    | with_reducible assumption
    | intro _
    | with_reducible apply State.badResume_keeps
    | with_reducible apply State.abortRecord_keeps
    | with_reducible apply State.setSaveState_keeps
    | with_reducible apply Keeps.ite
    | with_reducible apply Keeps.foldl
    | split
    | dsimp only
    | fail_if_no_progress with_reducible refine Keeps.lit ?_ rfl
    | with_reducible refine Keeps.litDraw ?_ rfl
    | with_reducible refine Keeps.litHost ?_ rfl

theorem State.writeFltTail_keeps {a s : State} (h : Keeps a s) : ∀ x1, Keeps a (State.writeFltTail s x1) := by
  intros
  unfold State.writeFltTail
  try dsimp only
  repeat' first
    | with_reducible assumption
    | intro _
    | with_reducible apply State.setReg_keeps
    | with_reducible apply State.forAll_keeps
    | with_reducible apply State.seek_keeps
    | with_reducible apply State.setStrm_keeps
    | with_reducible apply Keeps.ite
    | with_reducible apply Keeps.foldl
    | split
    | dsimp only
    | fail_if_no_progress with_reducible refine Keeps.lit ?_ rfl
    | with_reducible refine Keeps.litDraw ?_ rfl
    | with_reducible refine Keeps.litHost ?_ rfl

end Sys2Proof.Machine
end

