-- ==== Sys2Proof/Laws/KeepsSecurity.lean ====
section
/-! SUPPORT. What each operation of Machine/Security.lean keeps. -/

namespace Sys2Proof.Machine

set_option linter.unusedTactic false
set_option linter.unreachableTactic false

theorem State.swapErr_keeps {a s : State} (h : Keeps a s) : ∀ x1, Keeps a (State.swapErr s x1) := by
  intros
  unfold State.swapErr
  try dsimp only
  repeat' first
    | with_reducible assumption
    | intro _
    | with_reducible apply State.setRegBit_keeps
    | with_reducible apply State.setRegF_keeps
    | with_reducible apply Keeps.ite
    | with_reducible apply Keeps.foldl
    | split
    | dsimp only
    | fail_if_no_progress with_reducible refine Keeps.lit ?_ rfl
    | with_reducible refine Keeps.litDraw ?_ rfl
    | with_reducible refine Keeps.litHost ?_ rfl

theorem State.partSwap_keeps {a s : State} (h : Keeps a s) : Keeps a (State.partSwap s) := by
  unfold State.partSwap
  try dsimp only
  repeat' first
    | with_reducible assumption
    | intro _
    | with_reducible apply State.swapErr_keeps
    | with_reducible apply State.forAll_keeps
    | with_reducible apply State.setReg_keeps
    | with_reducible apply State.setRegBit_keeps
    | with_reducible apply State.mapApplied_keeps
    | with_reducible apply Keeps.ite
    | with_reducible apply Keeps.foldl
    | split
    | dsimp only
    | fail_if_no_progress with_reducible refine Keeps.lit ?_ rfl
    | with_reducible refine Keeps.litDraw ?_ rfl
    | with_reducible refine Keeps.litHost ?_ rfl

theorem State.partSwapFree_keeps {a s : State} (h : Keeps a s) : Keeps a (State.partSwapFree s) := by
  unfold State.partSwapFree
  try dsimp only
  repeat' first
    | with_reducible assumption
    | intro _
    | with_reducible apply State.partSwap_keeps
    | with_reducible apply Keeps.ite
    | with_reducible apply Keeps.foldl
    | split
    | dsimp only
    | fail_if_no_progress with_reducible refine Keeps.lit ?_ rfl
    | with_reducible refine Keeps.litDraw ?_ rfl
    | with_reducible refine Keeps.litHost ?_ rfl

theorem State.partSwapLesson_keeps {a s : State} (h : Keeps a s) : Keeps a (State.partSwapLesson s) := by
  unfold State.partSwapLesson
  try dsimp only
  repeat' first
    | with_reducible assumption
    | intro _
    | with_reducible apply State.partSwap_keeps
    | with_reducible apply Keeps.ite
    | with_reducible apply Keeps.foldl
    | split
    | dsimp only
    | fail_if_no_progress with_reducible refine Keeps.lit ?_ rfl
    | with_reducible refine Keeps.litDraw ?_ rfl
    | with_reducible refine Keeps.litHost ?_ rfl

theorem State.routeSwap_keeps {a s : State} (h : Keeps a s) : Keeps a (State.routeSwap s) := by
  unfold State.routeSwap
  try dsimp only
  repeat' first
    | with_reducible assumption
    | intro _
    | with_reducible apply State.forAll_keeps
    | with_reducible apply State.setReg_keeps
    | with_reducible apply State.setRegBit_keeps
    | with_reducible apply Keeps.ite
    | with_reducible apply Keeps.foldl
    | split
    | dsimp only
    | fail_if_no_progress with_reducible refine Keeps.lit ?_ rfl
    | with_reducible refine Keeps.litDraw ?_ rfl
    | with_reducible refine Keeps.litHost ?_ rfl

theorem State.writeScrub_keeps {a s : State} (h : Keeps a s) : ∀ x1, Keeps a (State.writeScrub s x1) := by
  intros
  unfold State.writeScrub
  try dsimp only
  repeat' first
    | with_reducible assumption
    | intro _
    | with_reducible apply State.swapErr_keeps
    | with_reducible apply Keeps.ite
    | with_reducible apply Keeps.foldl
    | split
    | dsimp only
    | fail_if_no_progress with_reducible refine Keeps.lit ?_ rfl
    | with_reducible refine Keeps.litDraw ?_ rfl
    | with_reducible refine Keeps.litHost ?_ rfl

theorem State.scrubDone_keeps {a s : State} (h : Keeps a s) : ∀ x1, Keeps a (State.scrubDone s x1) := by
  intros
  unfold State.scrubDone
  try dsimp only
  repeat' first
    | with_reducible assumption
    | intro _
    | with_reducible apply State.forAll_keeps
    | with_reducible apply State.dequeue_keeps
    | with_reducible apply Keeps.ite
    | with_reducible apply Keeps.foldl
    | split
    | dsimp only
    | fail_if_no_progress with_reducible refine Keeps.lit ?_ rfl
    | with_reducible refine Keeps.litDraw ?_ rfl
    | with_reducible refine Keeps.litHost ?_ rfl

theorem State.writeNode_keeps {a s : State} (h : Keeps a s) : ∀ x1, Keeps a (State.writeNode s x1) := by
  intros
  unfold State.writeNode
  try dsimp only
  repeat' first
    | with_reducible assumption
    | intro _
    | with_reducible apply State.writePlain_keeps
    | with_reducible apply Keeps.ite
    | with_reducible apply Keeps.foldl
    | split
    | dsimp only
    | fail_if_no_progress with_reducible refine Keeps.lit ?_ rfl
    | with_reducible refine Keeps.litDraw ?_ rfl
    | with_reducible refine Keeps.litHost ?_ rfl

theorem State.writeCohortState_keeps {a s : State} (h : Keeps a s) : ∀ x1 x2, Keeps a (State.writeCohortState s x1 x2) := by
  intros
  unfold State.writeCohortState
  try dsimp only
  repeat' first
    | with_reducible assumption
    | intro _
    | with_reducible apply State.setRegF_keeps
    | with_reducible apply Keeps.ite
    | with_reducible apply Keeps.foldl
    | split
    | dsimp only
    | fail_if_no_progress with_reducible refine Keeps.lit ?_ rfl
    | with_reducible refine Keeps.litDraw ?_ rfl
    | with_reducible refine Keeps.litHost ?_ rfl

theorem State.secEnd_keeps {a s : State} (h : Keeps a s) : ∀ x1, Keeps a (State.secEnd s x1) := by
  intros
  unfold State.secEnd
  try dsimp only
  repeat' first
    | with_reducible assumption
    | intro _
    | with_reducible apply State.setRegBit_keeps
    | with_reducible apply State.setRegF_keeps
    | with_reducible apply State.raise_keeps
    | with_reducible apply Keeps.ite
    | with_reducible apply Keeps.foldl
    | split
    | dsimp only
    | fail_if_no_progress with_reducible refine Keeps.lit ?_ rfl
    | with_reducible refine Keeps.litDraw ?_ rfl
    | with_reducible refine Keeps.litHost ?_ rfl

theorem State.putRegs_keeps {a s : State} (h : Keeps a s) : ∀ x1 x2 x3, Keeps a (State.putRegs s x1 x2 x3) := by
  intros
  unfold State.putRegs
  try dsimp only
  repeat' first
    | with_reducible assumption
    | intro _
    | with_reducible apply State.forAll_keeps
    | with_reducible apply State.setReg_keeps
    | with_reducible apply Keeps.ite
    | with_reducible apply Keeps.foldl
    | split
    | dsimp only
    | fail_if_no_progress with_reducible refine Keeps.lit ?_ rfl
    | with_reducible refine Keeps.litDraw ?_ rfl
    | with_reducible refine Keeps.litHost ?_ rfl

theorem State.viaPrincipal_keeps {a s : State} {k : State → State} (h : Keeps a s) (hk : ∀ t, Keeps a t → Keeps a (k t)) :
    ∀ x, Keeps a (State.viaPrincipal s x k) := by
  intro x
  unfold State.viaPrincipal
  split
  · exact hk s h
  · apply State.setRegBit_keeps
    with_reducible refine Keeps.lit ?_ rfl
    exact h

theorem State.secAttest_keeps {a s : State} (h : Keeps a s) : ∀ x1, Keeps a (State.secAttest s x1) := by
  intros
  unfold State.secAttest
  try dsimp only
  repeat' first
    | with_reducible assumption
    | intro _
    | with_reducible apply State.secEnd_keeps
    | with_reducible apply State.setRegBit_keeps
    | with_reducible apply Keeps.ite
    | with_reducible apply Keeps.foldl
    | split
    | dsimp only
    | fail_if_no_progress with_reducible refine Keeps.lit ?_ rfl
    | with_reducible refine Keeps.litDraw ?_ rfl
    | with_reducible refine Keeps.litHost ?_ rfl

theorem State.reportReady_keeps {a s : State} (h : Keeps a s) : Keeps a (State.reportReady s) := by
  unfold State.reportReady
  try dsimp only
  repeat' first
    | with_reducible assumption
    | intro _
    | with_reducible apply State.secEnd_keeps
    | with_reducible apply State.putRegs_keeps
    | with_reducible apply Keeps.ite
    | with_reducible apply Keeps.foldl
    | split
    | dsimp only
    | fail_if_no_progress with_reducible refine Keeps.lit ?_ rfl
    | with_reducible refine Keeps.litDraw ?_ rfl
    | with_reducible refine Keeps.litHost ?_ rfl

theorem State.secImport_keeps {a s : State} (h : Keeps a s) : Keeps a (State.secImport s) := by
  unfold State.secImport
  try dsimp only
  repeat' first
    | with_reducible assumption
    | intro _
    | with_reducible apply State.secEnd_keeps
    | with_reducible apply State.setReg_keeps
    | with_reducible apply Keeps.ite
    | with_reducible apply Keeps.foldl
    | split
    | dsimp only
    | fail_if_no_progress with_reducible refine Keeps.lit ?_ rfl
    | with_reducible refine Keeps.litDraw ?_ rfl
    | with_reducible refine Keeps.litHost ?_ rfl

theorem State.clearSlot_keeps {a s : State} (h : Keeps a s) : ∀ x1, Keeps a (State.clearSlot s x1) := by
  intros
  unfold State.clearSlot
  try dsimp only
  repeat' first
    | with_reducible assumption
    | intro _
    | with_reducible apply State.setReg_keeps
    | with_reducible apply Keeps.ite
    | with_reducible apply Keeps.foldl
    | split
    | dsimp only
    | fail_if_no_progress with_reducible refine Keeps.lit ?_ rfl
    | with_reducible refine Keeps.litDraw ?_ rfl
    | with_reducible refine Keeps.litHost ?_ rfl

theorem State.scrubRange_keeps {a s : State} (h : Keeps a s) : ∀ x1 x2, Keeps a (State.scrubRange s x1 x2) := by
  intros
  unfold State.scrubRange
  try dsimp only
  repeat' first
    | with_reducible assumption
    | intro _
    | with_reducible apply State.zero_keeps
    | with_reducible apply State.forAll_keeps
    | with_reducible apply State.heal_keeps
    | with_reducible apply Keeps.ite
    | with_reducible apply Keeps.foldl
    | split
    | dsimp only
    | fail_if_no_progress with_reducible refine Keeps.lit ?_ rfl
    | with_reducible refine Keeps.litDraw ?_ rfl
    | with_reducible refine Keeps.litHost ?_ rfl

theorem State.setSeal_keeps {a s : State} (h : Keeps a s) : ∀ x1 x2, Keeps a (State.setSeal s x1 x2) := by
  intros
  unfold State.setSeal
  try dsimp only
  repeat' first
    | with_reducible assumption
    | intro _
    | with_reducible apply State.setRegF_keeps
    | with_reducible apply Keeps.ite
    | with_reducible apply Keeps.foldl
    | split
    | dsimp only
    | fail_if_no_progress with_reducible refine Keeps.lit ?_ rfl
    | with_reducible refine Keeps.litDraw ?_ rfl
    | with_reducible refine Keeps.litHost ?_ rfl

theorem State.recallRange_keeps {a s : State} (h : Keeps a s) : ∀ x1 x2, Keeps a (State.recallRange s x1 x2) := by
  intros
  unfold State.recallRange
  try dsimp only
  repeat' first
    | with_reducible assumption
    | intro _
    | with_reducible apply State.forAll_keeps
    | with_reducible apply State.beginTrans_keeps
    | with_reducible apply Keeps.ite
    | with_reducible apply Keeps.foldl
    | split
    | dsimp only
    | fail_if_no_progress with_reducible refine Keeps.lit ?_ rfl
    | with_reducible refine Keeps.litDraw ?_ rfl
    | with_reducible refine Keeps.litHost ?_ rfl

theorem State.sealCreate_keeps {a s : State} (h : Keeps a s) : ∀ x1 x2 x3 x4 x5, Keeps a (State.sealCreate s x1 x2 x3 x4 x5) := by
  intros
  unfold State.sealCreate
  try dsimp only
  repeat' first
    | with_reducible assumption
    | intro _
    | with_reducible apply State.secEnd_keeps
    | with_reducible apply State.setReg_keeps
    | with_reducible apply State.recallRange_keeps
    | with_reducible apply Keeps.ite
    | with_reducible apply Keeps.foldl
    | split
    | dsimp only
    | fail_if_no_progress with_reducible refine Keeps.lit ?_ rfl
    | with_reducible refine Keeps.litDraw ?_ rfl
    | with_reducible refine Keeps.litHost ?_ rfl

theorem State.sealZeroed_keeps {a s : State} (h : Keeps a s) : ∀ x1, Keeps a (State.sealZeroed s x1) := by
  intros
  unfold State.sealZeroed
  try dsimp only
  repeat' first
    | with_reducible assumption
    | intro _
    | with_reducible apply State.setSeal_keeps
    | with_reducible apply State.scrubRange_keeps
    | with_reducible apply Keeps.ite
    | with_reducible apply Keeps.foldl
    | split
    | dsimp only
    | fail_if_no_progress with_reducible refine Keeps.lit ?_ rfl
    | with_reducible refine Keeps.litDraw ?_ rfl
    | with_reducible refine Keeps.litHost ?_ rfl

theorem State.teardown_keeps {a s : State} (h : Keeps a s) : ∀ x1, Keeps a (State.teardown s x1) := by
  intros
  unfold State.teardown
  try dsimp only
  repeat' first
    | with_reducible assumption
    | intro _
    | with_reducible apply State.secEnd_keeps
    | with_reducible apply State.setRegBit_keeps
    | with_reducible apply State.setRegF_keeps
    | with_reducible apply Keeps.ite
    | with_reducible apply Keeps.foldl
    | split
    | dsimp only
    | fail_if_no_progress with_reducible refine Keeps.lit ?_ rfl
    | with_reducible refine Keeps.litDraw ?_ rfl
    | with_reducible refine Keeps.litHost ?_ rfl

theorem State.scrubStart_keeps {a s : State} (h : Keeps a s) : ∀ x1, Keeps a (State.scrubStart s x1) := by
  intros
  unfold State.scrubStart
  try dsimp only
  repeat' first
    | with_reducible assumption
    | intro _
    | with_reducible apply State.setRegF_keeps
    | with_reducible apply State.forAll_keeps
    | with_reducible apply State.setSeal_keeps
    | with_reducible apply State.clearSlot_keeps
    | with_reducible apply State.poke_keeps
    | with_reducible apply State.setDesk_keeps
    | with_reducible apply State.setReg_keeps
    | with_reducible apply Keeps.ite
    | with_reducible apply Keeps.foldl
    | split
    | dsimp only
    | fail_if_no_progress with_reducible refine Keeps.lit ?_ rfl
    | with_reducible refine Keeps.litDraw ?_ rfl
    | with_reducible refine Keeps.litHost ?_ rfl

theorem State.teardownDone_keeps {a s : State} (h : Keeps a s) : ∀ x1 x2, Keeps a (State.teardownDone s x1 x2) := by
  intros
  unfold State.teardownDone
  try dsimp only
  repeat' first
    | with_reducible assumption
    | intro _
    | with_reducible apply State.forAll_keeps
    | with_reducible apply State.scrubRange_keeps
    | with_reducible apply State.setSeal_keeps
    | with_reducible apply State.setReg_keeps
    | with_reducible apply State.setRegF_keeps
    | with_reducible apply State.secEnd_keeps
    | with_reducible apply State.putRegs_keeps
    | with_reducible apply Keeps.ite
    | with_reducible apply Keeps.foldl
    | split
    | dsimp only
    | fail_if_no_progress with_reducible refine Keeps.lit ?_ rfl
    | with_reducible refine Keeps.litDraw ?_ rfl
    | with_reducible refine Keeps.litHost ?_ rfl

end Sys2Proof.Machine
end

