-- ==== Sys2Proof/Laws/KeepsRollCall.lean ====
section
/-! SUPPORT. What each operation of Machine/RollCall.lean keeps. -/

namespace Sys2Proof.Machine

set_option linter.unusedTactic false
set_option linter.unreachableTactic false

theorem State.setPage_keeps {a s : State} (h : Keeps a s) : ∀ x1 x2, Keeps a (State.setPage s x1 x2) := by
  intros
  unfold State.setPage
  try dsimp only
  repeat' first
    | with_reducible assumption
    | intro _
    | with_reducible apply Keeps.ite
    | with_reducible apply Keeps.foldl
    | split
    | dsimp only
    | fail_if_no_progress with_reducible refine Keeps.lit ?_ rfl
    | with_reducible refine Keeps.litDraw ?_ rfl
    | with_reducible refine Keeps.litHost ?_ rfl

theorem State.setPageState_keeps {a s : State} (h : Keeps a s) : ∀ x1 x2 x3, Keeps a (State.setPageState s x1 x2 x3) := by
  intros
  unfold State.setPageState
  try dsimp only
  repeat' first
    | with_reducible assumption
    | intro _
    | with_reducible apply State.setRegF_keeps
    | with_reducible apply Keeps.ite
    | with_reducible apply Keeps.foldl
    | split
    | dsimp only
    | fail_if_no_progress with_reducible refine Keeps.lit ?_ rfl
    | with_reducible refine Keeps.litDraw ?_ rfl
    | with_reducible refine Keeps.litHost ?_ rfl

theorem State.postPage_keeps {a s : State} (h : Keeps a s) : ∀ x1 x2, Keeps a (State.postPage s x1 x2) := by
  intros
  unfold State.postPage
  try dsimp only
  repeat' first
    | with_reducible assumption
    | intro _
    | with_reducible apply State.bellCfgErr_keeps
    | with_reducible apply State.setPage_keeps
    | with_reducible apply State.setPageState_keeps
    | with_reducible apply Keeps.ite
    | with_reducible apply Keeps.foldl
    | split
    | dsimp only
    | fail_if_no_progress with_reducible refine Keeps.lit ?_ rfl
    | with_reducible refine Keeps.litDraw ?_ rfl
    | with_reducible refine Keeps.litHost ?_ rfl

theorem State.writePlan_keeps {a s : State} (h : Keeps a s) : ∀ x1 x2, Keeps a (State.writePlan s x1 x2) := by
  intros
  unfold State.writePlan
  try dsimp only
  repeat' first
    | with_reducible assumption
    | intro _
    | with_reducible apply Keeps.ite
    | with_reducible apply Keeps.foldl
    | split
    | dsimp only
    | fail_if_no_progress with_reducible refine Keeps.lit ?_ rfl
    | with_reducible refine Keeps.litDraw ?_ rfl
    | with_reducible refine Keeps.litHost ?_ rfl

theorem State.tryLoaded_keeps {a s : State} (h : Keeps a s) : ∀ x1, Keeps a (State.tryLoaded s x1) := by
  intros
  unfold State.tryLoaded
  try dsimp only
  repeat' first
    | with_reducible assumption
    | intro _
    | with_reducible apply State.raise_keeps
    | with_reducible apply State.setPageState_keeps
    | with_reducible apply Keeps.ite
    | with_reducible apply Keeps.foldl
    | split
    | dsimp only
    | fail_if_no_progress with_reducible refine Keeps.lit ?_ rfl
    | with_reducible refine Keeps.litDraw ?_ rfl
    | with_reducible refine Keeps.litHost ?_ rfl

theorem State.preloadNext_keeps {a s : State} (h : Keeps a s) : ∀ x1, Keeps a (State.preloadNext s x1) := by
  intros
  unfold State.preloadNext
  try dsimp only
  repeat' first
    | with_reducible assumption
    | intro _
    | with_reducible apply State.tryLoaded_keeps
    | refine State.startWalk_eq_keeps ?_ (by with_reducible assumption)
    | with_reducible apply State.startWalk_snd_keeps
    | with_reducible apply Keeps.ite
    | with_reducible apply Keeps.foldl
    | split
    | dsimp only
    | fail_if_no_progress with_reducible refine Keeps.lit ?_ rfl
    | with_reducible refine Keeps.litDraw ?_ rfl
    | with_reducible refine Keeps.litHost ?_ rfl

theorem State.loaded_keeps {a s : State} (h : Keeps a s) : ∀ x1 x2, Keeps a (State.loaded s x1 x2) := by
  intros
  unfold State.loaded
  try dsimp only
  repeat' first
    | with_reducible assumption
    | intro _
    | with_reducible apply State.setPage_keeps
    | with_reducible apply State.setPageState_keeps
    | with_reducible apply State.writePlan_keeps
    | with_reducible apply State.preloadNext_keeps
    | with_reducible apply State.tryLoaded_keeps
    | with_reducible apply Keeps.ite
    | with_reducible apply Keeps.foldl
    | split
    | dsimp only
    | fail_if_no_progress with_reducible refine Keeps.lit ?_ rfl
    | with_reducible refine Keeps.litDraw ?_ rfl
    | with_reducible refine Keeps.litHost ?_ rfl

theorem State.refusePage_keeps {a s : State} (h : Keeps a s) : ∀ x1 x2, Keeps a (State.refusePage s x1 x2) := by
  intros
  unfold State.refusePage
  try dsimp only
  repeat' first
    | with_reducible assumption
    | intro _
    | with_reducible apply State.setPageState_keeps
    | with_reducible apply Keeps.ite
    | with_reducible apply Keeps.foldl
    | split
    | dsimp only
    | fail_if_no_progress with_reducible refine Keeps.lit ?_ rfl
    | with_reducible refine Keeps.litDraw ?_ rfl
    | with_reducible refine Keeps.litHost ?_ rfl

theorem State.preloadFault_keeps {a s : State} (h : Keeps a s) : ∀ x1 x2 x3 x4, Keeps a (State.preloadFault s x1 x2 x3 x4) := by
  intros
  unfold State.preloadFault
  try dsimp only
  repeat' first
    | with_reducible assumption
    | intro _
    | with_reducible apply State.count_keeps
    | with_reducible apply State.setPage_keeps
    | with_reducible apply State.postFault_keeps
    | with_reducible apply Keeps.ite
    | with_reducible apply Keeps.foldl
    | split
    | dsimp only
    | fail_if_no_progress with_reducible refine Keeps.lit ?_ rfl
    | with_reducible refine Keeps.litDraw ?_ rfl
    | with_reducible refine Keeps.litHost ?_ rfl

theorem State.preloadWalked_keeps {a s : State} (h : Keeps a s) : ∀ x1 x2 x3 x4, Keeps a (State.preloadWalked s x1 x2 x3 x4) := by
  intros
  unfold State.preloadWalked
  try dsimp only
  repeat' first
    | with_reducible assumption
    | intro _
    | with_reducible apply State.preloadFault_keeps
    | with_reducible apply State.setPage_keeps
    | with_reducible apply State.preloadNext_keeps
    | with_reducible apply Keeps.ite
    | with_reducible apply Keeps.foldl
    | split
    | dsimp only
    | fail_if_no_progress with_reducible refine Keeps.lit ?_ rfl
    | with_reducible refine Keeps.litDraw ?_ rfl
    | with_reducible refine Keeps.litHost ?_ rfl

theorem State.resumeLoader_keeps {a s : State} (h : Keeps a s) : ∀ x1, Keeps a (State.resumeLoader s x1) := by
  intros
  unfold State.resumeLoader
  try dsimp only
  repeat' first
    | with_reducible assumption
    | intro _
    | with_reducible apply State.badResume_keeps
    | with_reducible apply State.preloadNext_keeps
    | with_reducible apply State.setPage_keeps
    | with_reducible apply State.refusePage_keeps
    | with_reducible apply Keeps.ite
    | with_reducible apply Keeps.foldl
    | split
    | dsimp only
    | fail_if_no_progress with_reducible refine Keeps.lit ?_ rfl
    | with_reducible refine Keeps.litDraw ?_ rfl
    | with_reducible refine Keeps.litHost ?_ rfl

theorem State.fltResume_keeps {a s : State} (h : Keeps a s) : ∀ x1 x2, Keeps a (State.fltResume s x1 x2) := by
  intros
  unfold State.fltResume
  try dsimp only
  repeat' first
    | with_reducible assumption
    | intro _
    | with_reducible apply State.resumeLoader_keeps
    | with_reducible apply State.resumeRecord_keeps
    | with_reducible apply Keeps.ite
    | with_reducible apply Keeps.foldl
    | split
    | dsimp only
    | fail_if_no_progress with_reducible refine Keeps.lit ?_ rfl
    | with_reducible refine Keeps.litDraw ?_ rfl
    | with_reducible refine Keeps.litHost ?_ rfl

theorem State.loaderAgain_keeps {a s : State} (h : Keeps a s) : Keeps a (State.loaderAgain s) := by
  unfold State.loaderAgain
  try dsimp only
  repeat' first
    | with_reducible assumption
    | intro _
    | with_reducible apply State.forAll_keeps
    | with_reducible apply State.preloadNext_keeps
    | with_reducible apply State.setPage_keeps
    | with_reducible apply Keeps.ite
    | with_reducible apply Keeps.foldl
    | split
    | dsimp only
    | fail_if_no_progress with_reducible refine Keeps.lit ?_ rfl
    | with_reducible refine Keeps.litDraw ?_ rfl
    | with_reducible refine Keeps.litHost ?_ rfl

theorem State.decomposed_keeps {a s : State} (h : Keeps a s) : ∀ x1 x2, Keeps a (State.decomposed s x1 x2) := by
  intros
  unfold State.decomposed
  try dsimp only
  repeat' first
    | with_reducible assumption
    | intro _
    | with_reducible apply State.poke_keeps
    | with_reducible apply State.forAll_keeps
    | with_reducible apply State.refusePage_keeps
    | with_reducible apply State.tryLoaded_keeps
    | with_reducible apply Keeps.ite
    | with_reducible apply Keeps.foldl
    | split
    | dsimp only
    | fail_if_no_progress with_reducible refine Keeps.lit ?_ rfl
    | with_reducible refine Keeps.litDraw ?_ rfl
    | with_reducible refine Keeps.litHost ?_ rfl

theorem State.countOverrun_keeps {a s : State} (h : Keeps a s) : ∀ x1 x2, Keeps a (State.countOverrun s x1 x2) := by
  intros
  unfold State.countOverrun
  try dsimp only
  repeat' first
    | with_reducible assumption
    | intro _
    | with_reducible apply State.setReg_keeps
    | with_reducible apply State.classFault_keeps
    | with_reducible apply State.count_keeps
    | with_reducible apply Keeps.ite
    | with_reducible apply Keeps.foldl
    | split
    | dsimp only
    | fail_if_no_progress with_reducible refine Keeps.lit ?_ rfl
    | with_reducible refine Keeps.litDraw ?_ rfl
    | with_reducible refine Keeps.litHost ?_ rfl

theorem State.abortDesks_keeps {a s : State} (h : Keeps a s) : Keeps a (State.abortDesks s) := by
  unfold State.abortDesks
  try dsimp only
  repeat' first
    | with_reducible assumption
    | intro _
    | with_reducible apply State.forAll_keeps
    | with_reducible apply State.countOverrun_keeps
    | with_reducible apply State.setDesk_keeps
    | with_reducible apply State.setRoom_keeps
    | with_reducible apply Keeps.ite
    | with_reducible apply Keeps.foldl
    | split
    | dsimp only
    | fail_if_no_progress with_reducible refine Keeps.lit ?_ rfl
    | with_reducible refine Keeps.litDraw ?_ rfl
    | with_reducible refine Keeps.litHost ?_ rfl

theorem State.dropPins_keeps {a s : State} (h : Keeps a s) : Keeps a (State.dropPins s) := by
  unfold State.dropPins
  try dsimp only
  repeat' first
    | with_reducible assumption
    | intro _
    | with_reducible apply Keeps.ite
    | with_reducible apply Keeps.foldl
    | split
    | dsimp only
    | fail_if_no_progress with_reducible refine Keeps.lit ?_ rfl
    | with_reducible refine Keeps.litDraw ?_ rfl
    | with_reducible refine Keeps.litHost ?_ rfl

theorem State.endRun_keeps {a s : State} (h : Keeps a s) : ∀ x1, Keeps a (State.endRun s x1) := by
  intros
  unfold State.endRun
  try dsimp only
  repeat' first
    | with_reducible assumption
    | intro _
    | with_reducible apply State.dropPins_keeps
    | with_reducible apply State.setPageState_keeps
    | with_reducible apply Keeps.ite
    | with_reducible apply Keeps.foldl
    | split
    | dsimp only
    | fail_if_no_progress with_reducible refine Keeps.lit ?_ rfl
    | with_reducible refine Keeps.litDraw ?_ rfl
    | with_reducible refine Keeps.litHost ?_ rfl

theorem State.runOn_keeps {a s : State} (h : Keeps a s) : Keeps a (State.runOn s) := by
  unfold State.runOn
  try dsimp only
  repeat' first
    | with_reducible assumption
    | intro _
    | with_reducible apply State.endRun_keeps
    | with_reducible apply Keeps.ite
    | with_reducible apply Keeps.foldl
    | split
    | dsimp only
    | fail_if_no_progress with_reducible refine Keeps.lit ?_ rfl
    | with_reducible refine Keeps.litDraw ?_ rfl
    | with_reducible refine Keeps.litHost ?_ rfl

theorem State.strictWords_keeps {a s : State} (h : Keeps a s) : Keeps a (State.strictWords s) := by
  unfold State.strictWords
  try dsimp only
  repeat' first
    | with_reducible assumption
    | intro _
    | with_reducible apply State.forAll_keeps
    | with_reducible apply State.emit_keeps
    | with_reducible apply Keeps.ite
    | with_reducible apply Keeps.foldl
    | split
    | dsimp only
    | fail_if_no_progress with_reducible refine Keeps.lit ?_ rfl
    | with_reducible refine Keeps.litDraw ?_ rfl
    | with_reducible refine Keeps.litHost ?_ rfl

theorem State.bellTakes_keeps {a s : State} (h : Keeps a s) : ∀ x1, Keeps a (State.bellTakes s x1) := by
  intros
  unfold State.bellTakes
  try dsimp only
  repeat' first
    | with_reducible assumption
    | intro _
    | with_reducible apply State.setRegF_keeps
    | with_reducible apply State.setReg_keeps
    | with_reducible apply State.setRegBit_keeps
    | with_reducible apply Keeps.ite
    | with_reducible apply Keeps.foldl
    | split
    | dsimp only
    | fail_if_no_progress with_reducible refine Keeps.lit ?_ rfl
    | with_reducible refine Keeps.litDraw ?_ rfl
    | with_reducible refine Keeps.litHost ?_ rfl

theorem State.ring_keeps {a s : State} (h : Keeps a s) : ∀ x1, Keeps a (State.ring s x1) := by
  intros
  unfold State.ring
  try dsimp only
  repeat' first
    | with_reducible assumption
    | intro _
    | with_reducible apply State.collBell_keeps
    | with_reducible apply State.streamsTimedOut_keeps
    | with_reducible apply State.abortDesks_keeps
    | with_reducible apply State.timedOut_keeps
    | with_reducible apply State.bellTakes_keeps
    | with_reducible apply State.runOn_keeps
    | with_reducible apply State.countSat_keeps
    | with_reducible apply State.emit_keeps
    | with_reducible apply State.alertsLapse_keeps
    | with_reducible apply State.strictWords_keeps
    | with_reducible apply State.prismsDrop_keeps
    | with_reducible apply State.causeChanged_keeps
    | with_reducible apply State.sendRequest_keeps
    | with_reducible apply Keeps.ite
    | with_reducible apply Keeps.foldl
    | split
    | dsimp only
    | fail_if_no_progress with_reducible refine Keeps.lit ?_ rfl
    | with_reducible refine Keeps.litDraw ?_ rfl
    | with_reducible refine Keeps.litHost ?_ rfl

theorem State.checkPage_keeps {a s : State} (h : Keeps a s) : ∀ x1, Keeps a (State.checkPage s x1) := by
  intros
  unfold State.checkPage
  try dsimp only
  repeat' first
    | with_reducible assumption
    | intro _
    | with_reducible apply State.refusePage_keeps
    | with_reducible apply State.forAll_keeps
    | with_reducible apply State.setPage_keeps
    | with_reducible apply State.countSat_keeps
    | with_reducible apply Keeps.ite
    | with_reducible apply Keeps.foldl
    | split
    | dsimp only
    | fail_if_no_progress with_reducible refine Keeps.lit ?_ rfl
    | with_reducible refine Keeps.litDraw ?_ rfl
    | with_reducible refine Keeps.litHost ?_ rfl

theorem State.rollCheck_keeps {a s : State} (h : Keeps a s) : Keeps a (State.rollCheck s) := by
  unfold State.rollCheck
  try dsimp only
  repeat' first
    | with_reducible assumption
    | intro _
    | with_reducible apply State.endRun_keeps
    | with_reducible apply State.setRegBit_keeps
    | with_reducible apply State.checkPage_keeps
    | with_reducible apply State.emit_keeps
    | with_reducible apply Keeps.ite
    | with_reducible apply Keeps.foldl
    | split
    | dsimp only
    | fail_if_no_progress with_reducible refine Keeps.lit ?_ rfl
    | with_reducible refine Keeps.litDraw ?_ rfl
    | with_reducible refine Keeps.litHost ?_ rfl

theorem State.installPins_keeps {a s : State} (h : Keeps a s) : ∀ x1, Keeps a (State.installPins s x1) := by
  intros
  unfold State.installPins
  try dsimp only
  repeat' first
    | with_reducible assumption
    | intro _
    | with_reducible apply State.forAll_keeps
    | with_reducible apply State.putMicro_keeps
    | with_reducible apply State.putWing_keeps
    | with_reducible apply Keeps.ite
    | with_reducible apply Keeps.foldl
    | split
    | dsimp only
    | fail_if_no_progress with_reducible refine Keeps.lit ?_ rfl
    | with_reducible refine Keeps.litDraw ?_ rfl
    | with_reducible refine Keeps.litHost ?_ rfl

theorem State.beginRun_keeps {a s : State} (h : Keeps a s) : ∀ x1 x2, Keeps a (State.beginRun s x1 x2) := by
  intros
  unfold State.beginRun
  try dsimp only
  repeat' first
    | with_reducible assumption
    | intro _
    | with_reducible apply State.writePlan_keeps
    | with_reducible apply State.setPageState_keeps
    | with_reducible apply State.endRun_keeps
    | with_reducible apply State.installPins_keeps
    | with_reducible apply State.dropPins_keeps
    | with_reducible apply Keeps.ite
    | with_reducible apply Keeps.foldl
    | split
    | dsimp only
    | fail_if_no_progress with_reducible refine Keeps.lit ?_ rfl
    | with_reducible refine Keeps.litDraw ?_ rfl
    | with_reducible refine Keeps.litHost ?_ rfl

theorem State.activate_keeps {a s : State} (h : Keeps a s) : Keeps a (State.activate s) := by
  unfold State.activate
  try dsimp only
  repeat' first
    | with_reducible assumption
    | intro _
    | with_reducible apply State.writePlan_keeps
    | with_reducible apply State.endRun_keeps
    | with_reducible apply State.beginRun_keeps
    | with_reducible apply Keeps.ite
    | with_reducible apply Keeps.foldl
    | split
    | dsimp only
    | fail_if_no_progress with_reducible refine Keeps.lit ?_ rfl
    | with_reducible refine Keeps.litDraw ?_ rfl
    | with_reducible refine Keeps.litHost ?_ rfl

theorem State.takeSeeds_keeps {a s : State} (h : Keeps a s) : Keeps a (State.takeSeeds s) := by
  unfold State.takeSeeds
  try dsimp only
  repeat' first
    | with_reducible assumption
    | intro _
    | with_reducible apply Keeps.ite
    | with_reducible apply Keeps.foldl
    | split
    | dsimp only
    | fail_if_no_progress with_reducible refine Keeps.lit ?_ rfl
    | with_reducible refine Keeps.litDraw ?_ rfl
    | with_reducible refine Keeps.litHost ?_ rfl

theorem State.stepCohorts_keeps {a s : State} (h : Keeps a s) : ∀ x1, Keeps a (State.stepCohorts s x1) := by
  intros
  unfold State.stepCohorts
  try dsimp only
  repeat' first
    | with_reducible assumption
    | intro _
    | with_reducible apply State.forAll_keeps
    | with_reducible apply State.setReg_keeps
    | with_reducible apply Keeps.ite
    | with_reducible apply Keeps.foldl
    | split
    | dsimp only
    | fail_if_no_progress with_reducible refine Keeps.lit ?_ rfl
    | with_reducible refine Keeps.litDraw ?_ rfl
    | with_reducible refine Keeps.litHost ?_ rfl

theorem State.spill_keeps {a s : State} (h : Keeps a s) : ∀ x1, Keeps a (State.spill s x1) := by
  intros
  unfold State.spill
  try dsimp only
  repeat' first
    | with_reducible assumption
    | intro _
    | with_reducible apply State.forAll_keeps
    | refine State.storeMem_eq_keeps ?_ (by with_reducible assumption)
    | with_reducible apply State.storeMem_snd_keeps
    | with_reducible apply State.bankTake_keeps
    | with_reducible apply State.classFault_keeps
    | with_reducible apply Keeps.ite
    | with_reducible apply Keeps.foldl
    | split
    | dsimp only
    | fail_if_no_progress with_reducible refine Keeps.lit ?_ rfl
    | with_reducible refine Keeps.litDraw ?_ rfl
    | with_reducible refine Keeps.litHost ?_ rfl

theorem State.keepOrZero_keeps {a s : State} (h : Keeps a s) : ∀ x1 x2, Keeps a (State.keepOrZero s x1 x2) := by
  intros
  unfold State.keepOrZero
  try dsimp only
  repeat' first
    | with_reducible assumption
    | intro _
    | with_reducible apply State.zero_keeps
    | with_reducible apply State.setDesk_keeps
    | with_reducible apply Keeps.ite
    | with_reducible apply Keeps.foldl
    | split
    | dsimp only
    | fail_if_no_progress with_reducible refine Keeps.lit ?_ rfl
    | with_reducible refine Keeps.litDraw ?_ rfl
    | with_reducible refine Keeps.litHost ?_ rfl

theorem State.fill_keeps {a s : State} (h : Keeps a s) : ∀ x1 x2, Keeps a (State.fill s x1 x2) := by
  intros
  unfold State.fill
  try dsimp only
  repeat' first
    | with_reducible assumption
    | intro _
    | with_reducible apply State.setByte_keeps
    | with_reducible apply State.setDesk_keeps
    | with_reducible apply State.forAll_keeps
    | with_reducible apply State.bankTake_keeps
    | with_reducible apply State.classFault_keeps
    | with_reducible apply State.zero_keeps
    | with_reducible apply Keeps.ite
    | with_reducible apply Keeps.foldl
    | split
    | dsimp only
    | fail_if_no_progress with_reducible refine Keeps.lit ?_ rfl
    | with_reducible refine Keeps.litDraw ?_ rfl
    | with_reducible refine Keeps.litHost ?_ rfl

theorem State.giveRole_keeps {a s : State} (h : Keeps a s) : ∀ x1 x2, Keeps a (State.giveRole s x1 x2) := by
  intros
  unfold State.giveRole
  try dsimp only
  repeat' first
    | with_reducible assumption
    | intro _
    | with_reducible apply State.setDesk_keeps
    | with_reducible apply Keeps.ite
    | with_reducible apply Keeps.foldl
    | split
    | dsimp only
    | fail_if_no_progress with_reducible refine Keeps.lit ?_ rfl
    | with_reducible refine Keeps.litDraw ?_ rfl
    | with_reducible refine Keeps.litHost ?_ rfl

theorem State.assignRoles_keeps {a s : State} (h : Keeps a s) : ∀ x1, Keeps a (State.assignRoles s x1) := by
  intros
  unfold State.assignRoles
  try dsimp only
  repeat' first
    | with_reducible assumption
    | intro _
    | with_reducible apply State.forAll_keeps
    | with_reducible apply State.zero_keeps
    | with_reducible apply State.spill_keeps
    | with_reducible apply State.keepOrZero_keeps
    | with_reducible apply State.fill_keeps
    | with_reducible apply State.giveRole_keeps
    | with_reducible apply Keeps.ite
    | with_reducible apply Keeps.foldl
    | split
    | dsimp only
    | fail_if_no_progress with_reducible refine Keeps.lit ?_ rfl
    | with_reducible refine Keeps.litDraw ?_ rfl
    | with_reducible refine Keeps.litHost ?_ rfl

theorem State.loadWindows_keeps {a s : State} (h : Keeps a s) : Keeps a (State.loadWindows s) := by
  unfold State.loadWindows
  try dsimp only
  repeat' first
    | with_reducible assumption
    | intro _
    | with_reducible apply State.forAll_keeps
    | with_reducible apply State.setRoom_keeps
    | with_reducible apply Keeps.ite
    | with_reducible apply Keeps.foldl
    | split
    | dsimp only
    | fail_if_no_progress with_reducible refine Keeps.lit ?_ rfl
    | with_reducible refine Keeps.litDraw ?_ rfl
    | with_reducible refine Keeps.litHost ?_ rfl

theorem State.recordOwners_keeps {a s : State} (h : Keeps a s) : Keeps a (State.recordOwners s) := by
  unfold State.recordOwners
  try dsimp only
  repeat' first
    | with_reducible assumption
    | intro _
    | with_reducible apply State.forAll_keeps
    | with_reducible apply State.setReg_keeps
    | with_reducible apply Keeps.ite
    | with_reducible apply Keeps.foldl
    | split
    | dsimp only
    | fail_if_no_progress with_reducible refine Keeps.lit ?_ rfl
    | with_reducible refine Keeps.litDraw ?_ rfl
    | with_reducible refine Keeps.litHost ?_ rfl

theorem State.releaseSlots_keeps {a s : State} (h : Keeps a s) : Keeps a (State.releaseSlots s) := by
  unfold State.releaseSlots
  try dsimp only
  repeat' first
    | with_reducible assumption
    | intro _
    | with_reducible apply Keeps.ite
    | with_reducible apply Keeps.foldl
    | split
    | dsimp only
    | fail_if_no_progress with_reducible refine Keeps.lit ?_ rfl
    | with_reducible refine Keeps.litDraw ?_ rfl
    | with_reducible refine Keeps.litHost ?_ rfl

theorem State.reserveNow_keeps {a s : State} (h : Keeps a s) : Keeps a (State.reserveNow s) := by
  unfold State.reserveNow
  try dsimp only
  repeat' first
    | with_reducible assumption
    | intro _
    | with_reducible apply State.collReserveAll_keeps
    | with_reducible apply Keeps.ite
    | with_reducible apply Keeps.foldl
    | split
    | dsimp only
    | fail_if_no_progress with_reducible refine Keeps.lit ?_ rfl
    | with_reducible refine Keeps.litDraw ?_ rfl
    | with_reducible refine Keeps.litHost ?_ rfl

theorem State.rollActivate_keeps {a s : State} (h : Keeps a s) : Keeps a (State.rollActivate s) := by
  unfold State.rollActivate
  try dsimp only
  repeat' first
    | with_reducible assumption
    | intro _
    | with_reducible apply State.takeSeeds_keeps
    | with_reducible apply State.activate_keeps
    | with_reducible apply State.reserveNow_keeps
    | with_reducible apply State.releaseSlots_keeps
    | with_reducible apply State.collAdvance_keeps
    | with_reducible apply State.collReleaseDone_keeps
    | with_reducible apply State.loadWindows_keeps
    | with_reducible apply State.assignRoles_keeps
    | with_reducible apply State.stepCohorts_keeps
    | with_reducible apply State.streamsLesson_keeps
    | with_reducible apply State.recordOwners_keeps
    | with_reducible apply State.forAll_keeps
    | with_reducible apply State.scrubStart_keeps
    | with_reducible apply Keeps.ite
    | with_reducible apply Keeps.foldl
    | split
    | dsimp only
    | fail_if_no_progress with_reducible refine Keeps.lit ?_ rfl
    | with_reducible refine Keeps.litDraw ?_ rfl
    | with_reducible refine Keeps.litHost ?_ rfl

end Sys2Proof.Machine
end

