-- ==== Sys2Proof/Laws/KeepsPool.lean ====
section
/-! SUPPORT. What each operation of Machine/Pool.lean keeps. -/

namespace Sys2Proof.Machine

set_option linter.unusedTactic false
set_option linter.unreachableTactic false

theorem State.closeRow_keeps {a s : State} (h : Keeps a s) : ∀ x1 x2, Keeps a (State.closeRow s x1 x2) := by
  intros
  unfold State.closeRow
  try dsimp only
  repeat' first
    | with_reducible assumption
    | intro _
    | with_reducible apply State.setChan_keeps
    | with_reducible apply Keeps.ite
    | with_reducible apply Keeps.foldl
    | split
    | dsimp only
    | fail_if_no_progress with_reducible refine Keeps.lit ?_ rfl
    | with_reducible refine Keeps.litDraw ?_ rfl
    | with_reducible refine Keeps.litHost ?_ rfl

theorem State.refresh_keeps {a s : State} (h : Keeps a s) : ∀ x1 x2, Keeps a (State.refresh s x1 x2) := by
  intros
  unfold State.refresh
  try dsimp only
  repeat' first
    | with_reducible assumption
    | intro _
    | with_reducible apply State.setChan_keeps
    | with_reducible apply State.closeRow_keeps
    | with_reducible apply Keeps.ite
    | with_reducible apply Keeps.foldl
    | split
    | dsimp only
    | fail_if_no_progress with_reducible refine Keeps.lit ?_ rfl
    | with_reducible refine Keeps.litDraw ?_ rfl
    | with_reducible refine Keeps.litHost ?_ rfl

theorem State.endHold_keeps {a s : State} (h : Keeps a s) : ∀ x1 x2, Keeps a (State.endHold s x1 x2) := by
  intros
  unfold State.endHold
  try dsimp only
  repeat' first
    | with_reducible assumption
    | intro _
    | with_reducible apply State.setChan_keeps
    | with_reducible apply State.closeRow_keeps
    | with_reducible apply Keeps.ite
    | with_reducible apply Keeps.foldl
    | split
    | dsimp only
    | fail_if_no_progress with_reducible refine Keeps.lit ?_ rfl
    | with_reducible refine Keeps.litDraw ?_ rfl
    | with_reducible refine Keeps.litHost ?_ rfl

theorem State.beginHolds_keeps {a s : State} (h : Keeps a s) : ∀ x1, Keeps a (State.beginHolds s x1) := by
  intros
  unfold State.beginHolds
  try dsimp only
  repeat' first
    | with_reducible assumption
    | intro _
    | with_reducible apply State.forAll_keeps
    | with_reducible apply State.setChan_keeps
    | with_reducible apply Keeps.ite
    | with_reducible apply Keeps.foldl
    | split
    | dsimp only
    | fail_if_no_progress with_reducible refine Keeps.lit ?_ rfl
    | with_reducible refine Keeps.litDraw ?_ rfl
    | with_reducible refine Keeps.litHost ?_ rfl

theorem State.patrolOn_keeps {a s : State} (h : Keeps a s) : Keeps a (State.patrolOn s) := by
  unfold State.patrolOn
  try dsimp only
  repeat' first
    | with_reducible assumption
    | intro _
    | with_reducible apply State.setRegF_keeps
    | with_reducible apply Keeps.ite
    | with_reducible apply Keeps.foldl
    | split
    | dsimp only
    | fail_if_no_progress with_reducible refine Keeps.lit ?_ rfl
    | with_reducible refine Keeps.litDraw ?_ rfl
    | with_reducible refine Keeps.litHost ?_ rfl

theorem State.patrolRead_keeps {a s : State} (h : Keeps a s) : ∀ x1, Keeps a (State.patrolRead s x1) := by
  intros
  unfold State.patrolRead
  try dsimp only
  repeat' first
    | with_reducible assumption
    | intro _
    | with_reducible apply State.chanTake_keeps
    | with_reducible apply State.burst_keeps
    | with_reducible apply State.patrolOn_keeps
    | with_reducible apply State.count_keeps
    | with_reducible apply State.setBytes_keeps
    | with_reducible apply State.raise_keeps
    | with_reducible apply Keeps.ite
    | with_reducible apply Keeps.foldl
    | split
    | dsimp only
    | fail_if_no_progress with_reducible refine Keeps.lit ?_ rfl
    | with_reducible refine Keeps.litDraw ?_ rfl
    | with_reducible refine Keeps.litHost ?_ rfl

theorem State.trainCounts_keeps {a s : State} (h : Keeps a s) : Keeps a (State.trainCounts s) := by
  unfold State.trainCounts
  try dsimp only
  repeat' first
    | with_reducible assumption
    | intro _
    | with_reducible apply State.setRegF_keeps
    | with_reducible apply Keeps.ite
    | with_reducible apply Keeps.foldl
    | split
    | dsimp only
    | fail_if_no_progress with_reducible refine Keeps.lit ?_ rfl
    | with_reducible refine Keeps.litDraw ?_ rfl
    | with_reducible refine Keeps.litHost ?_ rfl

theorem State.trained_keeps {a s : State} (h : Keeps a s) : ∀ x1 x2 x3, Keeps a (State.trained s x1 x2 x3) := by
  intros
  unfold State.trained
  try dsimp only
  repeat' first
    | with_reducible assumption
    | intro _
    | with_reducible apply State.trainCounts_keeps
    | with_reducible apply State.setChan_keeps
    | with_reducible apply State.setRegBit_keeps
    | with_reducible apply State.setReady_keeps
    | with_reducible apply Keeps.ite
    | with_reducible apply Keeps.foldl
    | split
    | dsimp only
    | fail_if_no_progress with_reducible refine Keeps.lit ?_ rfl
    | with_reducible refine Keeps.litDraw ?_ rfl
    | with_reducible refine Keeps.litHost ?_ rfl

theorem State.g7mErr_keeps {a s : State} (h : Keeps a s) : Keeps a (State.g7mErr s) := by
  unfold State.g7mErr
  try dsimp only
  repeat' first
    | with_reducible assumption
    | intro _
    | with_reducible apply State.setRegBit_keeps
    | with_reducible apply Keeps.ite
    | with_reducible apply Keeps.foldl
    | split
    | dsimp only
    | fail_if_no_progress with_reducible refine Keeps.lit ?_ rfl
    | with_reducible refine Keeps.litDraw ?_ rfl
    | with_reducible refine Keeps.litHost ?_ rfl

theorem State.writeTtRegion_keeps {a s : State} (h : Keeps a s) : ∀ x1, Keeps a (State.writeTtRegion s x1) := by
  intros
  unfold State.writeTtRegion
  try dsimp only
  repeat' first
    | with_reducible assumption
    | intro _
    | with_reducible apply State.writeIf_keeps
    | with_reducible apply State.g7mErr_keeps
    | with_reducible apply Keeps.ite
    | with_reducible apply Keeps.foldl
    | split
    | dsimp only
    | fail_if_no_progress with_reducible refine Keeps.lit ?_ rfl
    | with_reducible refine Keeps.litDraw ?_ rfl
    | with_reducible refine Keeps.litHost ?_ rfl

theorem State.writeG7mArb_keeps {a s : State} (h : Keeps a s) : ∀ x1, Keeps a (State.writeG7mArb s x1) := by
  intros
  unfold State.writeG7mArb
  try dsimp only
  repeat' first
    | with_reducible assumption
    | intro _
    | with_reducible apply State.writeIf_keeps
    | with_reducible apply State.g7mErr_keeps
    | with_reducible apply Keeps.ite
    | with_reducible apply Keeps.foldl
    | split
    | dsimp only
    | fail_if_no_progress with_reducible refine Keeps.lit ?_ rfl
    | with_reducible refine Keeps.litDraw ?_ rfl
    | with_reducible refine Keeps.litHost ?_ rfl

theorem State.writeScrubPeriod_keeps {a s : State} (h : Keeps a s) : ∀ x1, Keeps a (State.writeScrubPeriod s x1) := by
  intros
  unfold State.writeScrubPeriod
  try dsimp only
  repeat' first
    | with_reducible assumption
    | intro _
    | with_reducible apply State.writeIf_keeps
    | with_reducible apply State.g7mErr_keeps
    | with_reducible apply Keeps.ite
    | with_reducible apply Keeps.foldl
    | split
    | dsimp only
    | fail_if_no_progress with_reducible refine Keeps.lit ?_ rfl
    | with_reducible refine Keeps.litDraw ?_ rfl
    | with_reducible refine Keeps.litHost ?_ rfl

end Sys2Proof.Machine
end

