-- ==== Sys2Proof/Laws/KeepsOptical.lean ====
section
/-! SUPPORT. What each operation of Machine/Optical.lean keeps. -/

namespace Sys2Proof.Machine

set_option linter.unusedTactic false
set_option linter.unreachableTactic false

theorem State.portLost_keeps {a s : State} (h : Keeps a s) : ∀ x1, Keeps a (State.portLost s x1) := by
  intros
  unfold State.portLost
  try dsimp only
  repeat' first
    | with_reducible assumption
    | intro _
    | with_reducible apply State.setReady_keeps
    | with_reducible apply State.depForget_keeps
    | with_reducible apply State.forAll_keeps
    | with_reducible apply State.setCredit_keeps
    | with_reducible apply State.flushOutput_keeps
    | with_reducible apply State.collPortDown_keeps
    | with_reducible apply State.setRegBit_keeps
    | with_reducible apply State.loseSatchel_keeps
    | with_reducible apply Keeps.ite
    | with_reducible apply Keeps.foldl
    | split
    | dsimp only
    | fail_if_no_progress with_reducible refine Keeps.lit ?_ rfl
    | with_reducible refine Keeps.litDraw ?_ rfl
    | with_reducible refine Keeps.litHost ?_ rfl

theorem State.linkMeasured_keeps {a s : State} (h : Keeps a s) : ∀ x1 x2, Keeps a (State.linkMeasured s x1 x2) := by
  intros
  unfold State.linkMeasured
  try dsimp only
  repeat' first
    | with_reducible assumption
    | intro _
    | with_reducible apply State.applyBuffers_keeps
    | with_reducible apply State.setReg_keeps
    | with_reducible apply State.emit_keeps
    | with_reducible apply Keeps.ite
    | with_reducible apply Keeps.foldl
    | split
    | dsimp only
    | fail_if_no_progress with_reducible refine Keeps.lit ?_ rfl
    | with_reducible refine Keeps.litDraw ?_ rfl
    | with_reducible refine Keeps.litHost ?_ rfl

theorem State.portRises_keeps {a s : State} (h : Keeps a s) : ∀ x1, Keeps a (State.portRises s x1) := by
  intros
  unfold State.portRises
  try dsimp only
  repeat' first
    | with_reducible assumption
    | intro _
    | with_reducible apply State.setReady_keeps
    | with_reducible apply Keeps.ite
    | with_reducible apply Keeps.foldl
    | split
    | dsimp only
    | fail_if_no_progress with_reducible refine Keeps.lit ?_ rfl
    | with_reducible refine Keeps.litDraw ?_ rfl
    | with_reducible refine Keeps.litHost ?_ rfl

theorem State.gbWrite_keeps {a s : State} (h : Keeps a s) : ∀ x1 x2 x3 x4, Keeps a (State.gbWrite s x1 x2 x3 x4) := by
  intros
  unfold State.gbWrite
  try dsimp only
  repeat' first
    | with_reducible assumption
    | intro _
    | with_reducible apply Keeps.ite
    | with_reducible apply Keeps.foldl
    | split
    | dsimp only
    | fail_if_no_progress with_reducible refine Keeps.lit ?_ rfl
    | with_reducible refine Keeps.litDraw ?_ rfl
    | with_reducible refine Keeps.litHost ?_ rfl

theorem State.retireNow_keeps {a s : State} (h : Keeps a s) : ∀ x1, Keeps a (State.retireNow s x1) := by
  intros
  unfold State.retireNow
  try dsimp only
  repeat' first
    | with_reducible assumption
    | intro _
    | with_reducible apply State.gbWrite_keeps
    | with_reducible apply Keeps.ite
    | with_reducible apply Keeps.foldl
    | split
    | dsimp only
    | fail_if_no_progress with_reducible refine Keeps.lit ?_ rfl
    | with_reducible refine Keeps.litDraw ?_ rfl
    | with_reducible refine Keeps.litHost ?_ rfl

theorem State.retire_keeps {a s : State} (h : Keeps a s) : ∀ x1 x2, Keeps a (State.retire s x1 x2) := by
  intros
  unfold State.retire
  try dsimp only
  repeat' first
    | with_reducible assumption
    | intro _
    | with_reducible apply State.retireNow_keeps
    | with_reducible apply Keeps.ite
    | with_reducible apply Keeps.foldl
    | split
    | dsimp only
    | fail_if_no_progress with_reducible refine Keeps.lit ?_ rfl
    | with_reducible refine Keeps.litDraw ?_ rfl
    | with_reducible refine Keeps.litHost ?_ rfl

theorem State.setOpt_keeps {a s : State} (h : Keeps a s) : ∀ x1 x2, Keeps a (State.setOpt s x1 x2) := by
  intros
  unfold State.setOpt
  try dsimp only
  repeat' first
    | with_reducible assumption
    | intro _
    | with_reducible apply Keeps.ite
    | with_reducible apply Keeps.foldl
    | split
    | dsimp only
    | fail_if_no_progress with_reducible refine Keeps.lit ?_ rfl
    | with_reducible refine Keeps.litDraw ?_ rfl
    | with_reducible refine Keeps.litHost ?_ rfl

theorem State.setWave_keeps {a s : State} (h : Keeps a s) : ∀ x1 x2 x3, Keeps a (State.setWave s x1 x2 x3) := by
  intros
  unfold State.setWave
  try dsimp only
  repeat' first
    | with_reducible assumption
    | intro _
    | with_reducible apply State.setOpt_keeps
    | with_reducible apply Keeps.ite
    | with_reducible apply Keeps.foldl
    | split
    | dsimp only
    | fail_if_no_progress with_reducible refine Keeps.lit ?_ rfl
    | with_reducible refine Keeps.litDraw ?_ rfl
    | with_reducible refine Keeps.litHost ?_ rfl

theorem State.setRingSt_keeps {a s : State} (h : Keeps a s) : ∀ x1 x2 x3 x4, Keeps a (State.setRingSt s x1 x2 x3 x4) := by
  intros
  unfold State.setRingSt
  try dsimp only
  repeat' first
    | with_reducible assumption
    | intro _
    | with_reducible apply State.setRegF_keeps
    | with_reducible apply Keeps.ite
    | with_reducible apply Keeps.foldl
    | split
    | dsimp only
    | fail_if_no_progress with_reducible refine Keeps.lit ?_ rfl
    | with_reducible refine Keeps.litDraw ?_ rfl
    | with_reducible refine Keeps.litHost ?_ rfl

theorem State.setLaser_keeps {a s : State} (h : Keeps a s) : ∀ x1 x2 x3, Keeps a (State.setLaser s x1 x2 x3) := by
  intros
  unfold State.setLaser
  try dsimp only
  repeat' first
    | with_reducible assumption
    | intro _
    | with_reducible apply State.setRegF_keeps
    | with_reducible apply Keeps.ite
    | with_reducible apply Keeps.foldl
    | split
    | dsimp only
    | fail_if_no_progress with_reducible refine Keeps.lit ?_ rfl
    | with_reducible refine Keeps.litDraw ?_ rfl
    | with_reducible refine Keeps.litHost ?_ rfl

theorem State.wlFlag_keeps {a s : State} (h : Keeps a s) : ∀ x1 x2 x3, Keeps a (State.wlFlag s x1 x2 x3) := by
  intros
  unfold State.wlFlag
  try dsimp only
  repeat' first
    | with_reducible assumption
    | intro _
    | with_reducible apply State.raise_keeps
    | with_reducible apply State.setRegBit_keeps
    | with_reducible apply Keeps.ite
    | with_reducible apply Keeps.foldl
    | split
    | dsimp only
    | fail_if_no_progress with_reducible refine Keeps.lit ?_ rfl
    | with_reducible refine Keeps.litDraw ?_ rfl
    | with_reducible refine Keeps.litHost ?_ rfl

theorem State.setOptState_keeps {a s : State} (h : Keeps a s) : ∀ x1 x2, Keeps a (State.setOptState s x1 x2) := by
  intros
  unfold State.setOptState
  try dsimp only
  repeat' first
    | with_reducible assumption
    | intro _
    | with_reducible apply State.setRegF_keeps
    | with_reducible apply Keeps.ite
    | with_reducible apply Keeps.foldl
    | split
    | dsimp only
    | fail_if_no_progress with_reducible refine Keeps.lit ?_ rfl
    | with_reducible refine Keeps.litDraw ?_ rfl
    | with_reducible refine Keeps.litHost ?_ rfl

theorem State.putActive_keeps {a s : State} (h : Keeps a s) : ∀ x1 x2 x3, Keeps a (State.putActive s x1 x2 x3) := by
  intros
  unfold State.putActive
  try dsimp only
  repeat' first
    | with_reducible assumption
    | intro _
    | with_reducible apply State.setRegF_keeps
    | with_reducible apply State.forAll_keeps
    | with_reducible apply State.setRegBit_keeps
    | with_reducible apply State.raise_keeps
    | with_reducible apply Keeps.ite
    | with_reducible apply Keeps.foldl
    | split
    | dsimp only
    | fail_if_no_progress with_reducible refine Keeps.lit ?_ rfl
    | with_reducible refine Keeps.litDraw ?_ rfl
    | with_reducible refine Keeps.litHost ?_ rfl

theorem State.optDown_keeps {a s : State} (h : Keeps a s) : ∀ x1, Keeps a (State.optDown s x1) := by
  intros
  unfold State.optDown
  try dsimp only
  repeat' first
    | with_reducible assumption
    | intro _
    | with_reducible apply State.putActive_keeps
    | with_reducible apply State.setOptState_keeps
    | with_reducible apply State.portLost_keeps
    | with_reducible apply Keeps.ite
    | with_reducible apply Keeps.foldl
    | split
    | dsimp only
    | fail_if_no_progress with_reducible refine Keeps.lit ?_ rfl
    | with_reducible refine Keeps.litDraw ?_ rfl
    | with_reducible refine Keeps.litHost ?_ rfl

theorem State.optWait_keeps {a s : State} (h : Keeps a s) : ∀ x1, Keeps a (State.optWait s x1) := by
  intros
  unfold State.optWait
  try dsimp only
  repeat' first
    | with_reducible assumption
    | intro _
    | with_reducible apply State.optDown_keeps
    | with_reducible apply State.setOpt_keeps
    | with_reducible apply Keeps.ite
    | with_reducible apply Keeps.foldl
    | split
    | dsimp only
    | fail_if_no_progress with_reducible refine Keeps.lit ?_ rfl
    | with_reducible refine Keeps.litDraw ?_ rfl
    | with_reducible refine Keeps.litHost ?_ rfl

theorem State.startLaser_keeps {a s : State} (h : Keeps a s) : ∀ x1 x2, Keeps a (State.startLaser s x1 x2) := by
  intros
  unfold State.startLaser
  try dsimp only
  repeat' first
    | with_reducible assumption
    | intro _
    | with_reducible apply State.setRegBit_keeps
    | with_reducible apply State.setLaser_keeps
    | with_reducible apply Keeps.ite
    | with_reducible apply Keeps.foldl
    | split
    | dsimp only
    | fail_if_no_progress with_reducible refine Keeps.lit ?_ rfl
    | with_reducible refine Keeps.litDraw ?_ rfl
    | with_reducible refine Keeps.litHost ?_ rfl

theorem State.startWave_keeps {a s : State} (h : Keeps a s) : ∀ x1 x2, Keeps a (State.startWave s x1 x2) := by
  intros
  unfold State.startWave
  try dsimp only
  repeat' first
    | with_reducible assumption
    | intro _
    | with_reducible apply State.setWave_keeps
    | with_reducible apply State.setRegBit_keeps
    | with_reducible apply State.setRegF_keeps
    | with_reducible apply State.setRingSt_keeps
    | with_reducible apply State.startLaser_keeps
    | with_reducible apply Keeps.ite
    | with_reducible apply Keeps.foldl
    | split
    | dsimp only
    | fail_if_no_progress with_reducible refine Keeps.lit ?_ rfl
    | with_reducible refine Keeps.litDraw ?_ rfl
    | with_reducible refine Keeps.litHost ?_ rfl

theorem State.optStart_keeps {a s : State} (h : Keeps a s) : ∀ x1, Keeps a (State.optStart s x1) := by
  intros
  unfold State.optStart
  try dsimp only
  repeat' first
    | with_reducible assumption
    | intro _
    | with_reducible apply State.count_keeps
    | with_reducible apply State.optDown_keeps
    | with_reducible apply State.setOpt_keeps
    | with_reducible apply State.forAll_keeps
    | with_reducible apply State.startWave_keeps
    | with_reducible apply State.setRegBit_keeps
    | with_reducible apply State.setOptState_keeps
    | with_reducible apply Keeps.ite
    | with_reducible apply Keeps.foldl
    | split
    | dsimp only
    | fail_if_no_progress with_reducible refine Keeps.lit ?_ rfl
    | with_reducible refine Keeps.litDraw ?_ rfl
    | with_reducible refine Keeps.litHost ?_ rfl

theorem State.ringPhase_keeps {a s : State} (h : Keeps a s) : ∀ x1, Keeps a (State.ringPhase s x1) := by
  intros
  unfold State.ringPhase
  try dsimp only
  repeat' first
    | with_reducible assumption
    | intro _
    | with_reducible apply State.setOptState_keeps
    | with_reducible apply Keeps.ite
    | with_reducible apply Keeps.foldl
    | split
    | dsimp only
    | fail_if_no_progress with_reducible refine Keeps.lit ?_ rfl
    | with_reducible refine Keeps.litDraw ?_ rfl
    | with_reducible refine Keeps.litHost ?_ rfl

theorem State.leaveSet_keeps {a s : State} (h : Keeps a s) : ∀ x1 x2 x3, Keeps a (State.leaveSet s x1 x2 x3) := by
  intros
  unfold State.leaveSet
  try dsimp only
  repeat' first
    | with_reducible assumption
    | intro _
    | with_reducible apply State.putActive_keeps
    | with_reducible apply State.emit_keeps
    | with_reducible apply State.optWait_keeps
    | with_reducible apply Keeps.ite
    | with_reducible apply Keeps.foldl
    | split
    | dsimp only
    | fail_if_no_progress with_reducible refine Keeps.lit ?_ rfl
    | with_reducible refine Keeps.litDraw ?_ rfl
    | with_reducible refine Keeps.litHost ?_ rfl

theorem State.spareDark_keeps {a s : State} (h : Keeps a s) : ∀ x1 x2, Keeps a (State.spareDark s x1 x2) := by
  intros
  unfold State.spareDark
  try dsimp only
  repeat' first
    | with_reducible assumption
    | intro _
    | with_reducible apply State.setLaser_keeps
    | with_reducible apply Keeps.ite
    | with_reducible apply Keeps.foldl
    | split
    | dsimp only
    | fail_if_no_progress with_reducible refine Keeps.lit ?_ rfl
    | with_reducible refine Keeps.litDraw ?_ rfl
    | with_reducible refine Keeps.litHost ?_ rfl

theorem State.exclude_keeps {a s : State} (h : Keeps a s) : ∀ x1 x2 x3, Keeps a (State.exclude s x1 x2 x3) := by
  intros
  unfold State.exclude
  try dsimp only
  repeat' first
    | with_reducible assumption
    | intro _
    | with_reducible apply State.setRegBit_keeps
    | with_reducible apply State.setRegF_keeps
    | with_reducible apply State.spareDark_keeps
    | with_reducible apply State.setRingSt_keeps
    | with_reducible apply State.setWave_keeps
    | with_reducible apply State.ringPhase_keeps
    | with_reducible apply State.leaveSet_keeps
    | with_reducible apply State.raise_keeps
    | with_reducible apply Keeps.ite
    | with_reducible apply Keeps.foldl
    | split
    | dsimp only
    | fail_if_no_progress with_reducible refine Keeps.lit ?_ rfl
    | with_reducible refine Keeps.litDraw ?_ rfl
    | with_reducible refine Keeps.litHost ?_ rfl

theorem State.offerJoin_keeps {a s : State} (h : Keeps a s) : ∀ x1 x2, Keeps a (State.offerJoin s x1 x2) := by
  intros
  unfold State.offerJoin
  try dsimp only
  repeat' first
    | with_reducible assumption
    | intro _
    | with_reducible apply State.emit_keeps
    | with_reducible apply State.setWave_keeps
    | with_reducible apply Keeps.ite
    | with_reducible apply Keeps.foldl
    | split
    | dsimp only
    | fail_if_no_progress with_reducible refine Keeps.lit ?_ rfl
    | with_reducible refine Keeps.litDraw ?_ rfl
    | with_reducible refine Keeps.litHost ?_ rfl

theorem State.ringReturn_keeps {a s : State} (h : Keeps a s) : ∀ x1 x2 x3 x4, Keeps a (State.ringReturn s x1 x2 x3 x4) := by
  intros
  unfold State.ringReturn
  try dsimp only
  repeat' first
    | with_reducible assumption
    | intro _
    | with_reducible apply State.count_keeps
    | with_reducible apply State.setWave_keeps
    | with_reducible apply State.leaveSet_keeps
    | with_reducible apply State.setRingSt_keeps
    | with_reducible apply State.exclude_keeps
    | with_reducible apply State.ringPhase_keeps
    | with_reducible apply Keeps.ite
    | with_reducible apply Keeps.foldl
    | split
    | dsimp only
    | fail_if_no_progress with_reducible refine Keeps.lit ?_ rfl
    | with_reducible refine Keeps.litDraw ?_ rfl
    | with_reducible refine Keeps.litHost ?_ rfl

theorem State.ringLock_keeps {a s : State} (h : Keeps a s) : ∀ x1 x2 x3, Keeps a (State.ringLock s x1 x2 x3) := by
  intros
  unfold State.ringLock
  try dsimp only
  repeat' first
    | with_reducible assumption
    | intro _
    | with_reducible apply State.setWave_keeps
    | with_reducible apply State.setRingSt_keeps
    | with_reducible apply State.offerJoin_keeps
    | with_reducible apply State.ringPhase_keeps
    | with_reducible apply Keeps.ite
    | with_reducible apply Keeps.foldl
    | split
    | dsimp only
    | fail_if_no_progress with_reducible refine Keeps.lit ?_ rfl
    | with_reducible refine Keeps.litDraw ?_ rfl
    | with_reducible refine Keeps.litHost ?_ rfl

theorem State.fade_keeps {a s : State} (h : Keeps a s) : ∀ x1 x2, Keeps a (State.fade s x1 x2) := by
  intros
  unfold State.fade
  try dsimp only
  repeat' first
    | with_reducible assumption
    | intro _
    | with_reducible apply State.setLaser_keeps
    | with_reducible apply State.wlFlag_keeps
    | with_reducible apply Keeps.ite
    | with_reducible apply Keeps.foldl
    | split
    | dsimp only
    | fail_if_no_progress with_reducible refine Keeps.lit ?_ rfl
    | with_reducible refine Keeps.litDraw ?_ rfl
    | with_reducible refine Keeps.litHost ?_ rfl

theorem State.laserFails_keeps {a s : State} (h : Keeps a s) : ∀ x1 x2, Keeps a (State.laserFails s x1 x2) := by
  intros
  unfold State.laserFails
  try dsimp only
  repeat' first
    | with_reducible assumption
    | intro _
    | with_reducible apply State.leaveSet_keeps
    | with_reducible apply State.setWave_keeps
    | with_reducible apply State.setLaser_keeps
    | with_reducible apply State.exclude_keeps
    | with_reducible apply Keeps.ite
    | with_reducible apply Keeps.foldl
    | split
    | dsimp only
    | fail_if_no_progress with_reducible refine Keeps.lit ?_ rfl
    | with_reducible refine Keeps.litDraw ?_ rfl
    | with_reducible refine Keeps.litHost ?_ rfl

theorem State.mpdSample_keeps {a s : State} (h : Keeps a s) : ∀ x1 x2 x3, Keeps a (State.mpdSample s x1 x2 x3) := by
  intros
  unfold State.mpdSample
  try dsimp only
  repeat' first
    | with_reducible assumption
    | intro _
    | with_reducible apply State.laserFails_keeps
    | with_reducible apply State.setRegF_keeps
    | with_reducible apply State.setWave_keeps
    | with_reducible apply State.wlFlag_keeps
    | with_reducible apply State.fade_keeps
    | with_reducible apply Keeps.ite
    | with_reducible apply Keeps.foldl
    | split
    | dsimp only
    | fail_if_no_progress with_reducible refine Keeps.lit ?_ rfl
    | with_reducible refine Keeps.litDraw ?_ rfl
    | with_reducible refine Keeps.litHost ?_ rfl

theorem State.fomEstimate_keeps {a s : State} (h : Keeps a s) : ∀ x1 x2 x3, Keeps a (State.fomEstimate s x1 x2 x3) := by
  intros
  unfold State.fomEstimate
  try dsimp only
  repeat' first
    | with_reducible assumption
    | intro _
    | with_reducible apply State.setReg_keeps
    | with_reducible apply State.setWave_keeps
    | with_reducible apply State.exclude_keeps
    | with_reducible apply State.fade_keeps
    | with_reducible apply Keeps.ite
    | with_reducible apply Keeps.foldl
    | split
    | dsimp only
    | fail_if_no_progress with_reducible refine Keeps.lit ?_ rfl
    | with_reducible refine Keeps.litDraw ?_ rfl
    | with_reducible refine Keeps.litHost ?_ rfl

theorem State.spareWarm_keeps {a s : State} (h : Keeps a s) : ∀ x1 x2, Keeps a (State.spareWarm s x1 x2) := by
  intros
  unfold State.spareWarm
  try dsimp only
  repeat' first
    | with_reducible assumption
    | intro _
    | with_reducible apply State.setWave_keeps
    | with_reducible apply State.setRingSt_keeps
    | with_reducible apply State.setRegBit_keeps
    | with_reducible apply State.setLaser_keeps
    | with_reducible apply State.emit_keeps
    | with_reducible apply Keeps.ite
    | with_reducible apply Keeps.foldl
    | split
    | dsimp only
    | fail_if_no_progress with_reducible refine Keeps.lit ?_ rfl
    | with_reducible refine Keeps.litDraw ?_ rfl
    | with_reducible refine Keeps.litHost ?_ rfl

theorem State.spareLost_keeps {a s : State} (h : Keeps a s) : ∀ x1 x2, Keeps a (State.spareLost s x1 x2) := by
  intros
  unfold State.spareLost
  try dsimp only
  repeat' first
    | with_reducible assumption
    | intro _
    | with_reducible apply State.wlFlag_keeps
    | with_reducible apply State.exclude_keeps
    | with_reducible apply State.setLaser_keeps
    | with_reducible apply Keeps.ite
    | with_reducible apply Keeps.foldl
    | split
    | dsimp only
    | fail_if_no_progress with_reducible refine Keeps.lit ?_ rfl
    | with_reducible refine Keeps.litDraw ?_ rfl
    | with_reducible refine Keeps.litHost ?_ rfl

theorem State.swapWave_keeps {a s : State} (h : Keeps a s) : ∀ x1 x2, Keeps a (State.swapWave s x1 x2) := by
  intros
  unfold State.swapWave
  try dsimp only
  repeat' first
    | with_reducible assumption
    | intro _
    | with_reducible apply State.wlFlag_keeps
    | with_reducible apply State.setRegBit_keeps
    | with_reducible apply State.setLaser_keeps
    | with_reducible apply State.setReg_keeps
    | with_reducible apply State.retire_keeps
    | with_reducible apply State.setWave_keeps
    | with_reducible apply Keeps.ite
    | with_reducible apply Keeps.foldl
    | split
    | dsimp only
    | fail_if_no_progress with_reducible refine Keeps.lit ?_ rfl
    | with_reducible refine Keeps.litDraw ?_ rfl
    | with_reducible refine Keeps.litHost ?_ rfl

theorem State.joinWave_keeps {a s : State} (h : Keeps a s) : ∀ x1 x2, Keeps a (State.joinWave s x1 x2) := by
  intros
  unfold State.joinWave
  try dsimp only
  repeat' first
    | with_reducible assumption
    | intro _
    | with_reducible apply State.putActive_keeps
    | with_reducible apply State.setWave_keeps
    | with_reducible apply Keeps.ite
    | with_reducible apply Keeps.foldl
    | split
    | dsimp only
    | fail_if_no_progress with_reducible refine Keeps.lit ?_ rfl
    | with_reducible refine Keeps.litDraw ?_ rfl
    | with_reducible refine Keeps.litHost ?_ rfl

theorem State.opticalGap_keeps {a s : State} (h : Keeps a s) : Keeps a (State.opticalGap s) := by
  unfold State.opticalGap
  try dsimp only
  repeat' first
    | with_reducible assumption
    | intro _
    | with_reducible apply State.forAll_keeps
    | with_reducible apply State.joinWave_keeps
    | with_reducible apply State.swapWave_keeps
    | with_reducible apply State.setWave_keeps
    | with_reducible apply Keeps.ite
    | with_reducible apply Keeps.foldl
    | split
    | dsimp only
    | fail_if_no_progress with_reducible refine Keeps.lit ?_ rfl
    | with_reducible refine Keeps.litDraw ?_ rfl
    | with_reducible refine Keeps.litHost ?_ rfl

theorem State.marginEnd_keeps {a s : State} (h : Keeps a s) : ∀ x1 x2, Keeps a (State.marginEnd s x1 x2) := by
  intros
  unfold State.marginEnd
  try dsimp only
  repeat' first
    | with_reducible assumption
    | intro _
    | with_reducible apply State.forAll_keeps
    | with_reducible apply State.setReg_keeps
    | with_reducible apply State.setWave_keeps
    | with_reducible apply State.setLaser_keeps
    | with_reducible apply State.exclude_keeps
    | with_reducible apply State.setOptState_keeps
    | with_reducible apply Keeps.ite
    | with_reducible apply Keeps.foldl
    | split
    | dsimp only
    | fail_if_no_progress with_reducible refine Keeps.lit ?_ rfl
    | with_reducible refine Keeps.litDraw ?_ rfl
    | with_reducible refine Keeps.litHost ?_ rfl

theorem State.retestEnd_keeps {a s : State} (h : Keeps a s) : ∀ x1 x2 x3, Keeps a (State.retestEnd s x1 x2 x3) := by
  intros
  unfold State.retestEnd
  try dsimp only
  repeat' first
    | with_reducible assumption
    | intro _
    | with_reducible apply State.setReg_keeps
    | with_reducible apply State.retire_keeps
    | with_reducible apply State.setWave_keeps
    | with_reducible apply State.setRegBit_keeps
    | with_reducible apply State.setLaser_keeps
    | with_reducible apply State.exclude_keeps
    | with_reducible apply State.setOptState_keeps
    | with_reducible apply Keeps.ite
    | with_reducible apply Keeps.foldl
    | split
    | dsimp only
    | fail_if_no_progress with_reducible refine Keeps.lit ?_ rfl
    | with_reducible refine Keeps.litDraw ?_ rfl
    | with_reducible refine Keeps.litHost ?_ rfl

theorem State.optFail_keeps {a s : State} (h : Keeps a s) : ∀ x1, Keeps a (State.optFail s x1) := by
  intros
  unfold State.optFail
  try dsimp only
  repeat' first
    | with_reducible assumption
    | intro _
    | with_reducible apply State.optWait_keeps
    | with_reducible apply State.count_keeps
    | with_reducible apply Keeps.ite
    | with_reducible apply Keeps.foldl
    | split
    | dsimp only
    | fail_if_no_progress with_reducible refine Keeps.lit ?_ rfl
    | with_reducible refine Keeps.litDraw ?_ rfl
    | with_reducible refine Keeps.litHost ?_ rfl

theorem State.exchangeEnd_keeps {a s : State} (h : Keeps a s) : ∀ x1 x2, Keeps a (State.exchangeEnd s x1 x2) := by
  intros
  unfold State.exchangeEnd
  try dsimp only
  repeat' first
    | with_reducible assumption
    | intro _
    | with_reducible apply State.optFail_keeps
    | with_reducible apply State.setOpt_keeps
    | with_reducible apply Keeps.ite
    | with_reducible apply Keeps.foldl
    | split
    | dsimp only
    | fail_if_no_progress with_reducible refine Keeps.lit ?_ rfl
    | with_reducible refine Keeps.litDraw ?_ rfl
    | with_reducible refine Keeps.litHost ?_ rfl

theorem State.optUp_keeps {a s : State} (h : Keeps a s) : ∀ x1, Keeps a (State.optUp s x1) := by
  intros
  unfold State.optUp
  try dsimp only
  repeat' first
    | with_reducible assumption
    | intro _
    | with_reducible apply State.setOpt_keeps
    | with_reducible apply State.setOptState_keeps
    | with_reducible apply State.portRises_keeps
    | with_reducible apply State.putActive_keeps
    | with_reducible apply Keeps.ite
    | with_reducible apply Keeps.foldl
    | split
    | dsimp only
    | fail_if_no_progress with_reducible refine Keeps.lit ?_ rfl
    | with_reducible refine Keeps.litDraw ?_ rfl
    | with_reducible refine Keeps.litHost ?_ rfl

theorem State.recalStart_keeps {a s : State} (h : Keeps a s) : ∀ x1, Keeps a (State.recalStart s x1) := by
  intros
  unfold State.recalStart
  try dsimp only
  repeat' first
    | with_reducible assumption
    | intro _
    | with_reducible apply State.setOptState_keeps
    | with_reducible apply State.optDown_keeps
    | with_reducible apply State.setOpt_keeps
    | with_reducible apply State.forAll_keeps
    | with_reducible apply State.setRingSt_keeps
    | with_reducible apply Keeps.ite
    | with_reducible apply Keeps.foldl
    | split
    | dsimp only
    | fail_if_no_progress with_reducible refine Keeps.lit ?_ rfl
    | with_reducible refine Keeps.litDraw ?_ rfl
    | with_reducible refine Keeps.litHost ?_ rfl

theorem State.recalWrite_keeps {a s : State} (h : Keeps a s) : ∀ x1, Keeps a (State.recalWrite s x1) := by
  intros
  unfold State.recalWrite
  try dsimp only
  repeat' first
    | with_reducible assumption
    | intro _
    | with_reducible apply State.setOpt_keeps
    | with_reducible apply State.recalStart_keeps
    | with_reducible apply Keeps.ite
    | with_reducible apply Keeps.foldl
    | split
    | dsimp only
    | fail_if_no_progress with_reducible refine Keeps.lit ?_ rfl
    | with_reducible refine Keeps.litDraw ?_ rfl
    | with_reducible refine Keeps.litHost ?_ rfl

theorem State.recalEnd_keeps {a s : State} (h : Keeps a s) : ∀ x1 x2, Keeps a (State.recalEnd s x1 x2) := by
  intros
  unfold State.recalEnd
  try dsimp only
  repeat' first
    | with_reducible assumption
    | intro _
    | with_reducible apply State.forAll_keeps
    | with_reducible apply State.gbWrite_keeps
    | with_reducible apply State.setWave_keeps
    | with_reducible apply State.setRegF_keeps
    | with_reducible apply State.setRegBit_keeps
    | with_reducible apply State.optStart_keeps
    | with_reducible apply State.setOptState_keeps
    | with_reducible apply Keeps.ite
    | with_reducible apply Keeps.foldl
    | split
    | dsimp only
    | fail_if_no_progress with_reducible refine Keeps.lit ?_ rfl
    | with_reducible refine Keeps.litDraw ?_ rfl
    | with_reducible refine Keeps.litHost ?_ rfl

theorem State.optEnable_keeps {a s : State} (h : Keeps a s) : ∀ x1 x2, Keeps a (State.optEnable s x1 x2) := by
  intros
  unfold State.optEnable
  try dsimp only
  repeat' first
    | with_reducible assumption
    | intro _
    | with_reducible apply State.setRegBit_keeps
    | with_reducible apply State.optStart_keeps
    | with_reducible apply State.optDown_keeps
    | with_reducible apply State.setOpt_keeps
    | with_reducible apply State.forAll_keeps
    | with_reducible apply State.setRingSt_keeps
    | with_reducible apply State.spareDark_keeps
    | with_reducible apply State.setWave_keeps
    | with_reducible apply Keeps.ite
    | with_reducible apply Keeps.foldl
    | split
    | dsimp only
    | fail_if_no_progress with_reducible refine Keeps.lit ?_ rfl
    | with_reducible refine Keeps.litDraw ?_ rfl
    | with_reducible refine Keeps.litHost ?_ rfl

end Sys2Proof.Machine
end

