-- ==== Sys2Proof/Laws/KeepsDep7.lean ====
section
/-! SUPPORT. What each operation of Machine/Dep7.lean keeps. -/

namespace Sys2Proof.Machine

set_option linter.unusedTactic false
set_option linter.unreachableTactic false

theorem State.setSat_keeps {a s : State} (h : Keeps a s) : ∀ x1 x2 x3, Keeps a (State.setSat s x1 x2 x3) := by
  intros
  unfold State.setSat
  try dsimp only
  repeat' first
    | with_reducible assumption
    | intro _
    | with_reducible apply State.setDep_keeps
    | with_reducible apply Keeps.ite
    | with_reducible apply Keeps.foldl
    | split
    | dsimp only
    | fail_if_no_progress with_reducible refine Keeps.lit ?_ rfl
    | with_reducible refine Keeps.litDraw ?_ rfl
    | with_reducible refine Keeps.litHost ?_ rfl

theorem State.predMove_keeps {a s : State} (h : Keeps a s) : ∀ x1 x2 x3, Keeps a (State.predMove s x1 x2 x3) := by
  intros
  unfold State.predMove
  try dsimp only
  repeat' first
    | with_reducible assumption
    | intro _
    | with_reducible apply State.setDep_keeps
    | with_reducible apply Keeps.ite
    | with_reducible apply Keeps.foldl
    | split
    | dsimp only
    | fail_if_no_progress with_reducible refine Keeps.lit ?_ rfl
    | with_reducible refine Keeps.litDraw ?_ rfl
    | with_reducible refine Keeps.litHost ?_ rfl

theorem State.askHome_keeps {a s : State} (h : Keeps a s) : ∀ x1 x2 x3 x4 x5, Keeps a (State.askHome s x1 x2 x3 x4 x5) := by
  intros
  unfold State.askHome
  try dsimp only
  repeat' first
    | with_reducible assumption
    | intro _
    | with_reducible apply State.submit_keeps
    | with_reducible apply Keeps.ite
    | with_reducible apply Keeps.foldl
    | split
    | dsimp only
    | fail_if_no_progress with_reducible refine Keeps.lit ?_ rfl
    | with_reducible refine Keeps.litDraw ?_ rfl
    | with_reducible refine Keeps.litHost ?_ rfl

theorem State.depAnswer_keeps {a s : State} (h : Keeps a s) : ∀ x1 x2 x3 x4 x5, Keeps a (State.depAnswer s x1 x2 x3 x4 x5) := by
  intros
  unfold State.depAnswer
  try dsimp only
  repeat' first
    | with_reducible assumption
    | intro _
    | with_reducible apply State.launch_keeps
    | with_reducible apply Keeps.ite
    | with_reducible apply Keeps.foldl
    | split
    | dsimp only
    | fail_if_no_progress with_reducible refine Keeps.lit ?_ rfl
    | with_reducible refine Keeps.litDraw ?_ rfl
    | with_reducible refine Keeps.litHost ?_ rfl

theorem State.evict_keeps {a s : State} (h : Keeps a s) : ∀ x1 x2, Keeps a (State.evict s x1 x2) := by
  intros
  unfold State.evict
  try dsimp only
  repeat' first
    | with_reducible assumption
    | intro _
    | with_reducible apply State.askHome_keeps
    | with_reducible apply State.setSat_keeps
    | with_reducible apply Keeps.ite
    | with_reducible apply Keeps.foldl
    | split
    | dsimp only
    | fail_if_no_progress with_reducible refine Keeps.lit ?_ rfl
    | with_reducible refine Keeps.litDraw ?_ rfl
    | with_reducible refine Keeps.litHost ?_ rfl

theorem State.applySnoop_keeps {a s : State} (h : Keeps a s) : ∀ x1 x2, Keeps a (State.applySnoop s x1 x2) := by
  intros
  unfold State.applySnoop
  try dsimp only
  repeat' first
    | with_reducible assumption
    | intro _
    | with_reducible apply State.predMove_keeps
    | with_reducible apply State.setSat_keeps
    | with_reducible apply State.depAnswer_keeps
    | with_reducible apply Keeps.ite
    | with_reducible apply Keeps.foldl
    | split
    | dsimp only
    | fail_if_no_progress with_reducible refine Keeps.lit ?_ rfl
    | with_reducible refine Keeps.litDraw ?_ rfl
    | with_reducible refine Keeps.litHost ?_ rfl

theorem State.takeSnoop_keeps {a s : State} (h : Keeps a s) : ∀ x1 x2, Keeps a (State.takeSnoop s x1 x2) := by
  intros
  unfold State.takeSnoop
  try dsimp only
  repeat' first
    | with_reducible assumption
    | intro _
    | with_reducible apply State.setSat_keeps
    | with_reducible apply State.applySnoop_keeps
    | with_reducible apply Keeps.ite
    | with_reducible apply Keeps.foldl
    | split
    | dsimp only
    | fail_if_no_progress with_reducible refine Keeps.lit ?_ rfl
    | with_reducible refine Keeps.litDraw ?_ rfl
    | with_reducible refine Keeps.litHost ?_ rfl

theorem State.setReq_keeps {a s : State} (h : Keeps a s) : ∀ x1 x2 x3, Keeps a (State.setReq s x1 x2 x3) := by
  intros
  unfold State.setReq
  try dsimp only
  repeat' first
    | with_reducible assumption
    | intro _
    | with_reducible apply State.setDep_keeps
    | with_reducible apply Keeps.ite
    | with_reducible apply Keeps.foldl
    | split
    | dsimp only
    | fail_if_no_progress with_reducible refine Keeps.lit ?_ rfl
    | with_reducible refine Keeps.litDraw ?_ rfl
    | with_reducible refine Keeps.litHost ?_ rfl

theorem State.setPiece_keeps {a s : State} (h : Keeps a s) : ∀ x1 x2 x3 x4, Keeps a (State.setPiece s x1 x2 x3 x4) := by
  intros
  unfold State.setPiece
  try dsimp only
  repeat' first
    | with_reducible assumption
    | intro _
    | with_reducible apply State.setReq_keeps
    | with_reducible apply Keeps.ite
    | with_reducible apply Keeps.foldl
    | split
    | dsimp only
    | fail_if_no_progress with_reducible refine Keeps.lit ?_ rfl
    | with_reducible refine Keeps.litDraw ?_ rfl
    | with_reducible refine Keeps.litHost ?_ rfl

theorem State.endPiece_keeps {a s : State} (h : Keeps a s) : ∀ x1 x2 x3 x4 x5, Keeps a (State.endPiece s x1 x2 x3 x4 x5) := by
  intros
  unfold State.endPiece
  try dsimp only
  repeat' first
    | with_reducible assumption
    | intro _
    | with_reducible apply State.setPiece_keeps
    | with_reducible apply Keeps.ite
    | with_reducible apply Keeps.foldl
    | split
    | dsimp only
    | fail_if_no_progress with_reducible refine Keeps.lit ?_ rfl
    | with_reducible refine Keeps.litDraw ?_ rfl
    | with_reducible refine Keeps.litHost ?_ rfl

theorem State.sendPiece_keeps {a s : State} (h : Keeps a s) : ∀ x1 x2 x3, Keeps a (State.sendPiece s x1 x2 x3) := by
  intros
  unfold State.sendPiece
  try dsimp only
  repeat' first
    | with_reducible assumption
    | intro _
    | with_reducible apply State.submit_keeps
    | with_reducible apply State.setPiece_keeps
    | with_reducible apply Keeps.ite
    | with_reducible apply Keeps.foldl
    | split
    | dsimp only
    | fail_if_no_progress with_reducible refine Keeps.lit ?_ rfl
    | with_reducible refine Keeps.litDraw ?_ rfl
    | with_reducible refine Keeps.litHost ?_ rfl

theorem State.performLine_keeps {a s : State} (h : Keeps a s) : ∀ x1 x2 x3, Keeps a (State.performLine s x1 x2 x3) := by
  intros
  unfold State.performLine
  try dsimp only
  repeat' first
    | with_reducible assumption
    | intro _
    | with_reducible apply State.setDep_keeps
    | with_reducible apply State.endPiece_keeps
    | with_reducible apply State.setSat_keeps
    | with_reducible apply State.countEp_keeps
    | with_reducible apply Keeps.ite
    | with_reducible apply Keeps.foldl
    | split
    | dsimp only
    | fail_if_no_progress with_reducible refine Keeps.lit ?_ rfl
    | with_reducible refine Keeps.litDraw ?_ rfl
    | with_reducible refine Keeps.litHost ?_ rfl

theorem State.requestLine_keeps {a s : State} (h : Keeps a s) : ∀ x1 x2 x3 x4 x5 x6, Keeps a (State.requestLine s x1 x2 x3 x4 x5 x6) := by
  intros
  unfold State.requestLine
  try dsimp only
  repeat' first
    | with_reducible assumption
    | intro _
    | with_reducible apply State.setSat_keeps
    | with_reducible apply State.askHome_keeps
    | with_reducible apply State.setPiece_keeps
    | with_reducible apply Keeps.ite
    | with_reducible apply Keeps.foldl
    | split
    | dsimp only
    | fail_if_no_progress with_reducible refine Keeps.lit ?_ rfl
    | with_reducible refine Keeps.litDraw ?_ rfl
    | with_reducible refine Keeps.litHost ?_ rfl

theorem State.miss_keeps {a s : State} (h : Keeps a s) : ∀ x1 x2 x3 x4, Keeps a (State.miss s x1 x2 x3 x4) := by
  intros
  unfold State.miss
  try dsimp only
  repeat' first
    | with_reducible assumption
    | intro _
    | with_reducible apply State.requestLine_keeps
    | with_reducible apply State.evict_keeps
    | with_reducible apply Keeps.ite
    | with_reducible apply Keeps.foldl
    | split
    | dsimp only
    | fail_if_no_progress with_reducible refine Keeps.lit ?_ rfl
    | with_reducible refine Keeps.litDraw ?_ rfl
    | with_reducible refine Keeps.litHost ?_ rfl

theorem State.accessLine_keeps {a s : State} (h : Keeps a s) : ∀ x1 x2 x3, Keeps a (State.accessLine s x1 x2 x3) := by
  intros
  unfold State.accessLine
  try dsimp only
  repeat' first
    | with_reducible assumption
    | intro _
    | with_reducible apply State.sendPiece_keeps
    | with_reducible apply State.miss_keeps
    | with_reducible apply State.endPiece_keeps
    | with_reducible apply State.epIrq_keeps
    | with_reducible apply State.countEp_keeps
    | with_reducible apply State.evict_keeps
    | with_reducible apply State.performLine_keeps
    | with_reducible apply State.predMove_keeps
    | with_reducible apply State.requestLine_keeps
    | with_reducible apply Keeps.ite
    | with_reducible apply Keeps.foldl
    | split
    | dsimp only
    | fail_if_no_progress with_reducible refine Keeps.lit ?_ rfl
    | with_reducible refine Keeps.litDraw ?_ rfl
    | with_reducible refine Keeps.litHost ?_ rfl

theorem State.releaseHeld_keeps {a s : State} (h : Keeps a s) : ∀ x1 x2, Keeps a (State.releaseHeld s x1 x2) := by
  intros
  unfold State.releaseHeld
  try dsimp only
  repeat' first
    | with_reducible assumption
    | intro _
    | with_reducible apply State.applySnoop_keeps
    | with_reducible apply Keeps.ite
    | with_reducible apply Keeps.foldl
    | split
    | dsimp only
    | fail_if_no_progress with_reducible refine Keeps.lit ?_ rfl
    | with_reducible refine Keeps.litDraw ?_ rfl
    | with_reducible refine Keeps.litHost ?_ rfl

theorem State.grantLine_keeps {a s : State} (h : Keeps a s) : ∀ x1 x2 x3 x4, Keeps a (State.grantLine s x1 x2 x3 x4) := by
  intros
  unfold State.grantLine
  try dsimp only
  repeat' first
    | with_reducible assumption
    | intro _
    | with_reducible apply State.releaseHeld_keeps
    | with_reducible apply State.setSat_keeps
    | with_reducible apply State.endPiece_keeps
    | with_reducible apply State.sendPiece_keeps
    | with_reducible apply State.performLine_keeps
    | with_reducible apply Keeps.ite
    | with_reducible apply Keeps.foldl
    | split
    | dsimp only
    | fail_if_no_progress with_reducible refine Keeps.lit ?_ rfl
    | with_reducible refine Keeps.litDraw ?_ rfl
    | with_reducible refine Keeps.litHost ?_ rfl

theorem State.failLine_keeps {a s : State} (h : Keeps a s) : ∀ x1 x2 x3, Keeps a (State.failLine s x1 x2 x3) := by
  intros
  unfold State.failLine
  try dsimp only
  repeat' first
    | with_reducible assumption
    | intro _
    | with_reducible apply State.setSat_keeps
    | with_reducible apply State.endPiece_keeps
    | with_reducible apply State.releaseHeld_keeps
    | with_reducible apply Keeps.ite
    | with_reducible apply Keeps.foldl
    | split
    | dsimp only
    | fail_if_no_progress with_reducible refine Keeps.lit ?_ rfl
    | with_reducible refine Keeps.litDraw ?_ rfl
    | with_reducible refine Keeps.litHost ?_ rfl

theorem State.retryLine_keeps {a s : State} (h : Keeps a s) : ∀ x1 x2, Keeps a (State.retryLine s x1 x2) := by
  intros
  unfold State.retryLine
  try dsimp only
  repeat' first
    | with_reducible assumption
    | intro _
    | with_reducible apply State.predMove_keeps
    | with_reducible apply State.failLine_keeps
    | with_reducible apply State.clearRetries_keeps
    | with_reducible apply State.setSat_keeps
    | with_reducible apply Keeps.ite
    | with_reducible apply Keeps.foldl
    | split
    | dsimp only
    | fail_if_no_progress with_reducible refine Keeps.lit ?_ rfl
    | with_reducible refine Keeps.litDraw ?_ rfl
    | with_reducible refine Keeps.litHost ?_ rfl

theorem State.resendLine_keeps {a s : State} (h : Keeps a s) : ∀ x1 x2, Keeps a (State.resendLine s x1 x2) := by
  intros
  unfold State.resendLine
  try dsimp only
  repeat' first
    | with_reducible assumption
    | intro _
    | with_reducible apply State.askHome_keeps
    | with_reducible apply State.setSat_keeps
    | with_reducible apply Keeps.ite
    | with_reducible apply Keeps.foldl
    | split
    | dsimp only
    | fail_if_no_progress with_reducible refine Keeps.lit ?_ rfl
    | with_reducible refine Keeps.litDraw ?_ rfl
    | with_reducible refine Keeps.litHost ?_ rfl

theorem State.dispatchReq_keeps {a s : State} (h : Keeps a s) : ∀ x1 x2 x3, Keeps a (State.dispatchReq s x1 x2 x3) := by
  intros
  unfold State.dispatchReq
  try dsimp only
  repeat' first
    | with_reducible assumption
    | intro _
    | with_reducible apply State.setReq_keeps
    | with_reducible apply State.forAll_keeps
    | with_reducible apply State.sendPiece_keeps
    | with_reducible apply Keeps.ite
    | with_reducible apply Keeps.foldl
    | split
    | dsimp only
    | fail_if_no_progress with_reducible refine Keeps.lit ?_ rfl
    | with_reducible refine Keeps.litDraw ?_ rfl
    | with_reducible refine Keeps.litHost ?_ rfl

theorem State.startReq_keeps {a s : State} (h : Keeps a s) : ∀ x1 x2, Keeps a (State.startReq s x1 x2) := by
  intros
  unfold State.startReq
  try dsimp only
  repeat' first
    | with_reducible assumption
    | intro _
    | with_reducible apply State.setReq_keeps
    | refine State.startWalk_eq_keeps ?_ (by with_reducible assumption)
    | with_reducible apply State.startWalk_snd_keeps
    | with_reducible apply State.dispatchReq_keeps
    | with_reducible apply Keeps.ite
    | with_reducible apply Keeps.foldl
    | split
    | dsimp only
    | fail_if_no_progress with_reducible refine Keeps.lit ?_ rfl
    | with_reducible refine Keeps.litDraw ?_ rfl
    | with_reducible refine Keeps.litHost ?_ rfl

theorem State.depWalked_keeps {a s : State} (h : Keeps a s) : ∀ x1 x2 x3, Keeps a (State.depWalked s x1 x2 x3) := by
  intros
  unfold State.depWalked
  try dsimp only
  repeat' first
    | with_reducible assumption
    | intro _
    | with_reducible apply State.setReq_keeps
    | with_reducible apply State.setDep_keeps
    | with_reducible apply State.epIrq_keeps
    | with_reducible apply State.countEp_keeps
    | with_reducible apply Keeps.ite
    | with_reducible apply Keeps.foldl
    | split
    | dsimp only
    | fail_if_no_progress with_reducible refine Keeps.lit ?_ rfl
    | with_reducible refine Keeps.litDraw ?_ rfl
    | with_reducible refine Keeps.litHost ?_ rfl

theorem State.finishReq_keeps {a s : State} (h : Keeps a s) : ∀ x1 x2, Keeps a (State.finishReq s x1 x2) := by
  intros
  unfold State.finishReq
  try dsimp only
  repeat' first
    | with_reducible assumption
    | intro _
    | with_reducible apply State.forAll_keeps
    | with_reducible apply State.emit_keeps
    | with_reducible apply State.setDep_keeps
    | with_reducible apply Keeps.ite
    | with_reducible apply Keeps.foldl
    | split
    | dsimp only
    | fail_if_no_progress with_reducible refine Keeps.lit ?_ rfl
    | with_reducible refine Keeps.litDraw ?_ rfl
    | with_reducible refine Keeps.litHost ?_ rfl

theorem State.finishReqs_keeps {a s : State} (h : Keeps a s) : ∀ x1, Keeps a (State.finishReqs s x1) := by
  intros
  unfold State.finishReqs
  try dsimp only
  repeat' first
    | with_reducible assumption
    | intro _
    | with_reducible apply State.forAll_keeps
    | with_reducible apply State.finishReq_keeps
    | with_reducible apply Keeps.ite
    | with_reducible apply Keeps.foldl
    | split
    | dsimp only
    | fail_if_no_progress with_reducible refine Keeps.lit ?_ rfl
    | with_reducible refine Keeps.litDraw ?_ rfl
    | with_reducible refine Keeps.litHost ?_ rfl

theorem State.tryPiece_keeps {a s : State} (h : Keeps a s) : ∀ x1 x2 x3, Keeps a (State.tryPiece s x1 x2 x3) := by
  intros
  unfold State.tryPiece
  try dsimp only
  repeat' first
    | with_reducible assumption
    | intro _
    | with_reducible apply State.accessLine_keeps
    | with_reducible apply Keeps.ite
    | with_reducible apply Keeps.foldl
    | split
    | dsimp only
    | fail_if_no_progress with_reducible refine Keeps.lit ?_ rfl
    | with_reducible refine Keeps.litDraw ?_ rfl
    | with_reducible refine Keeps.litHost ?_ rfl

theorem State.flushStep_keeps {a s : State} (h : Keeps a s) : ∀ x1, Keeps a (State.flushStep s x1) := by
  intros
  unfold State.flushStep
  try dsimp only
  repeat' first
    | with_reducible assumption
    | intro _
    | with_reducible apply State.forAll_keeps
    | with_reducible apply State.evict_keeps
    | with_reducible apply State.depAnswer_keeps
    | with_reducible apply State.setDep_keeps
    | with_reducible apply Keeps.ite
    | with_reducible apply Keeps.foldl
    | split
    | dsimp only
    | fail_if_no_progress with_reducible refine Keeps.lit ?_ rfl
    | with_reducible refine Keeps.litDraw ?_ rfl
    | with_reducible refine Keeps.litHost ?_ rfl

theorem State.depRound_keeps {a s : State} (h : Keeps a s) : ∀ x1, Keeps a (State.depRound s x1) := by
  intros
  unfold State.depRound
  try dsimp only
  repeat' first
    | with_reducible assumption
    | intro _
    | with_reducible apply State.forAll_keeps
    | with_reducible apply State.failLine_keeps
    | with_reducible apply State.startReq_keeps
    | with_reducible apply State.tryPiece_keeps
    | with_reducible apply State.flushStep_keeps
    | with_reducible apply State.finishReqs_keeps
    | with_reducible apply Keeps.ite
    | with_reducible apply Keeps.foldl
    | split
    | dsimp only
    | fail_if_no_progress with_reducible refine Keeps.lit ?_ rfl
    | with_reducible refine Keeps.litDraw ?_ rfl
    | with_reducible refine Keeps.litHost ?_ rfl

theorem State.depRounds_keeps {a s : State} (h : Keeps a s) : ∀ x1 k, Keeps a (State.depRounds s x1 k) := by
  intro x1 k
  induction k generalizing s with
  | zero => exact h
  | succ k ih =>
    unfold State.depRounds
    try dsimp only
    repeat' first
      | with_reducible assumption
      | with_reducible apply ih
      | intro _
      | with_reducible apply State.depRound_keeps
      | with_reducible apply State.depRound_keeps
      | with_reducible apply Keeps.ite
      | with_reducible apply Keeps.foldl
      | split
      | dsimp only
      | fail_if_no_progress with_reducible refine Keeps.lit ?_ rfl
      | with_reducible refine Keeps.litDraw ?_ rfl
      | with_reducible refine Keeps.litHost ?_ rfl

theorem State.settleDep_keeps {a s : State} (h : Keeps a s) : ∀ x1, Keeps a (State.settleDep s x1) := by
  intros
  unfold State.settleDep
  try dsimp only
  repeat' first
    | with_reducible assumption
    | intro _
    | with_reducible apply State.depRounds_keeps
    | with_reducible apply Keeps.ite
    | with_reducible apply Keeps.foldl
    | split
    | dsimp only
    | fail_if_no_progress with_reducible refine Keeps.lit ?_ rfl
    | with_reducible refine Keeps.litDraw ?_ rfl
    | with_reducible refine Keeps.litHost ?_ rfl

theorem State.settleEng_keeps {a s : State} (h : Keeps a s) : ∀ x1, Keeps a (State.settleEng s x1) := by
  intros
  unfold State.settleEng
  try dsimp only
  repeat' first
    | with_reducible assumption
    | intro _
    | with_reducible apply State.settleDep_keeps
    | with_reducible apply Keeps.ite
    | with_reducible apply Keeps.foldl
    | split
    | dsimp only
    | fail_if_no_progress with_reducible refine Keeps.lit ?_ rfl
    | with_reducible refine Keeps.litDraw ?_ rfl
    | with_reducible refine Keeps.litHost ?_ rfl

theorem State.cohResponse_keeps {a s : State} (h : Keeps a s) : ∀ x1 x2, Keeps a (State.cohResponse s x1 x2) := by
  intros
  unfold State.cohResponse
  try dsimp only
  repeat' first
    | with_reducible assumption
    | intro _
    | with_reducible apply State.takeResponse_keeps
    | with_reducible apply State.settleDep_keeps
    | with_reducible apply State.retryLine_keeps
    | with_reducible apply State.setSat_keeps
    | with_reducible apply State.grantLine_keeps
    | with_reducible apply Keeps.ite
    | with_reducible apply Keeps.foldl
    | split
    | dsimp only
    | fail_if_no_progress with_reducible refine Keeps.lit ?_ rfl
    | with_reducible refine Keeps.litDraw ?_ rfl
    | with_reducible refine Keeps.litHost ?_ rfl

theorem State.farAnswer_keeps {a s : State} (h : Keeps a s) : ∀ x1 x2, Keeps a (State.farAnswer s x1 x2) := by
  intros
  unfold State.farAnswer
  try dsimp only
  repeat' first
    | with_reducible assumption
    | intro _
    | with_reducible apply State.countEp_keeps
    | with_reducible apply State.predMove_keeps
    | with_reducible apply Keeps.ite
    | with_reducible apply Keeps.foldl
    | split
    | dsimp only
    | fail_if_no_progress with_reducible refine Keeps.lit ?_ rfl
    | with_reducible refine Keeps.litDraw ?_ rfl
    | with_reducible refine Keeps.litHost ?_ rfl

theorem State.depResponse_keeps {a s : State} (h : Keeps a s) : ∀ x1 x2, Keeps a (State.depResponse s x1 x2) := by
  intros
  unfold State.depResponse
  try dsimp only
  repeat' first
    | with_reducible assumption
    | intro _
    | with_reducible apply State.cohResponse_keeps
    | with_reducible apply State.settleDep_keeps
    | with_reducible apply State.takeResponse_keeps
    | with_reducible apply State.farAnswer_keeps
    | with_reducible apply Keeps.ite
    | with_reducible apply Keeps.foldl
    | split
    | dsimp only
    | fail_if_no_progress with_reducible refine Keeps.lit ?_ rfl
    | with_reducible refine Keeps.litDraw ?_ rfl
    | with_reducible refine Keeps.litHost ?_ rfl

theorem State.answerInbound_keeps {a s : State} (h : Keeps a s) : ∀ x1 x2 x3 x4, Keeps a (State.answerInbound s x1 x2 x3 x4) := by
  intros
  unfold State.answerInbound
  try dsimp only
  repeat' first
    | with_reducible assumption
    | intro _
    | with_reducible apply State.depAnswer_keeps
    | with_reducible apply State.remember_keeps
    | with_reducible apply Keeps.ite
    | with_reducible apply Keeps.foldl
    | split
    | dsimp only
    | fail_if_no_progress with_reducible refine Keeps.lit ?_ rfl
    | with_reducible refine Keeps.litDraw ?_ rfl
    | with_reducible refine Keeps.litHost ?_ rfl

theorem State.presentIq_keeps {a s : State} (h : Keeps a s) : ∀ x1 k, Keeps a (State.presentIq s x1 k) := by
  intro x1 k
  induction k generalizing s with
  | zero => exact h
  | succ k ih =>
    unfold State.presentIq
    try dsimp only
    repeat' first
      | with_reducible assumption
      | with_reducible apply ih
      | intro _
      | with_reducible apply State.emit_keeps
      | with_reducible apply State.setDep_keeps
      | with_reducible apply State.emit_keeps
      | with_reducible apply State.setDep_keeps
      | with_reducible apply Keeps.ite
      | with_reducible apply Keeps.foldl
      | split
      | dsimp only
      | fail_if_no_progress with_reducible refine Keeps.lit ?_ rfl
      | with_reducible refine Keeps.litDraw ?_ rfl
      | with_reducible refine Keeps.litHost ?_ rfl

theorem State.serveInbound_keeps {a s : State} (h : Keeps a s) : ∀ x1 x2, Keeps a (State.serveInbound s x1 x2) := by
  intros
  unfold State.serveInbound
  try dsimp only
  repeat' first
    | with_reducible assumption
    | intro _
    | with_reducible apply State.answerInbound_keeps
    | with_reducible apply State.presentIq_keeps
    | with_reducible apply State.setDep_keeps
    | with_reducible apply Keeps.ite
    | with_reducible apply Keeps.foldl
    | split
    | dsimp only
    | fail_if_no_progress with_reducible refine Keeps.lit ?_ rfl
    | with_reducible refine Keeps.litDraw ?_ rfl
    | with_reducible refine Keeps.litHost ?_ rfl

theorem State.inbound_keeps {a s : State} (h : Keeps a s) : ∀ x1 x2, Keeps a (State.inbound s x1 x2) := by
  intros
  unfold State.inbound
  try dsimp only
  repeat' first
    | with_reducible assumption
    | intro _
    | with_reducible apply State.serveInbound_keeps
    | refine State.seqCheck_eq_keeps ?_ (by with_reducible assumption)
    | with_reducible apply State.seqCheck_snd_keeps
    | with_reducible apply State.depAnswer_keeps
    | with_reducible apply Keeps.ite
    | with_reducible apply Keeps.foldl
    | split
    | dsimp only
    | fail_if_no_progress with_reducible refine Keeps.lit ?_ rfl
    | with_reducible refine Keeps.litDraw ?_ rfl
    | with_reducible refine Keeps.litHost ?_ rfl

theorem State.depAccept_keeps {a s : State} (h : Keeps a s) : ∀ x1 x2, Keeps a (State.depAccept s x1 x2) := by
  intros
  unfold State.depAccept
  try dsimp only
  repeat' first
    | with_reducible assumption
    | intro _
    | with_reducible apply State.setDep_keeps
    | with_reducible apply State.depAnswer_keeps
    | with_reducible apply State.inbound_keeps
    | with_reducible apply State.emit_keeps
    | with_reducible apply Keeps.ite
    | with_reducible apply Keeps.foldl
    | split
    | dsimp only
    | fail_if_no_progress with_reducible refine Keeps.lit ?_ rfl
    | with_reducible refine Keeps.litDraw ?_ rfl
    | with_reducible refine Keeps.litHost ?_ rfl

theorem State.isAnswer_keeps {a s : State} (h : Keeps a s) : ∀ x1 x2 x3 x4, Keeps a (State.isAnswer s x1 x2 x3 x4) := by
  intros
  unfold State.isAnswer
  try dsimp only
  repeat' first
    | with_reducible assumption
    | intro _
    | with_reducible apply State.setDep_keeps
    | with_reducible apply State.presentIq_keeps
    | with_reducible apply State.answerInbound_keeps
    | with_reducible apply Keeps.ite
    | with_reducible apply Keeps.foldl
    | split
    | dsimp only
    | fail_if_no_progress with_reducible refine Keeps.lit ?_ rfl
    | with_reducible refine Keeps.litDraw ?_ rfl
    | with_reducible refine Keeps.litHost ?_ rfl

theorem State.inExpired_keeps {a s : State} (h : Keeps a s) : ∀ x1 x2, Keeps a (State.inExpired s x1 x2) := by
  intros
  unfold State.inExpired
  try dsimp only
  repeat' first
    | with_reducible assumption
    | intro _
    | with_reducible apply State.setDep_keeps
    | with_reducible apply State.epIrq_keeps
    | with_reducible apply State.setEpBit_keeps
    | with_reducible apply State.answerInbound_keeps
    | with_reducible apply Keeps.ite
    | with_reducible apply Keeps.foldl
    | split
    | dsimp only
    | fail_if_no_progress with_reducible refine Keeps.lit ?_ rfl
    | with_reducible refine Keeps.litDraw ?_ rfl
    | with_reducible refine Keeps.litHost ?_ rfl

theorem State.takeFlush_keeps {a s : State} (h : Keeps a s) : ∀ x1 x2, Keeps a (State.takeFlush s x1 x2) := by
  intros
  unfold State.takeFlush
  try dsimp only
  repeat' first
    | with_reducible assumption
    | intro _
    | with_reducible apply State.forAll_keeps
    | with_reducible apply State.endPiece_keeps
    | with_reducible apply State.setPair_keeps
    | with_reducible apply State.settleDep_keeps
    | with_reducible apply State.depAnswer_keeps
    | with_reducible apply State.setDep_keeps
    | with_reducible apply Keeps.ite
    | with_reducible apply Keeps.foldl
    | split
    | dsimp only
    | fail_if_no_progress with_reducible refine Keeps.lit ?_ rfl
    | with_reducible refine Keeps.litDraw ?_ rfl
    | with_reducible refine Keeps.litHost ?_ rfl

theorem State.setLinkUp_keeps {a s : State} (h : Keeps a s) : ∀ x1 x2, Keeps a (State.setLinkUp s x1 x2) := by
  intros
  unfold State.setLinkUp
  try dsimp only
  repeat' first
    | with_reducible assumption
    | intro _
    | with_reducible apply State.epIrq_keeps
    | with_reducible apply State.emit_keeps
    | with_reducible apply State.setEpBit_keeps
    | with_reducible apply Keeps.ite
    | with_reducible apply Keeps.foldl
    | split
    | dsimp only
    | fail_if_no_progress with_reducible refine Keeps.lit ?_ rfl
    | with_reducible refine Keeps.litDraw ?_ rfl
    | with_reducible refine Keeps.litHost ?_ rfl

theorem State.setEpState_keeps {a s : State} (h : Keeps a s) : ∀ x1 x2, Keeps a (State.setEpState s x1 x2) := by
  intros
  unfold State.setEpState
  try dsimp only
  repeat' first
    | with_reducible assumption
    | intro _
    | with_reducible apply State.setEpF_keeps
    | with_reducible apply Keeps.ite
    | with_reducible apply Keeps.foldl
    | split
    | dsimp only
    | fail_if_no_progress with_reducible refine Keeps.lit ?_ rfl
    | with_reducible refine Keeps.litDraw ?_ rfl
    | with_reducible refine Keeps.litHost ?_ rfl

theorem State.depLinkDown_keeps {a s : State} (h : Keeps a s) : ∀ x1, Keeps a (State.depLinkDown s x1) := by
  intros
  unfold State.depLinkDown
  try dsimp only
  repeat' first
    | with_reducible assumption
    | intro _
    | with_reducible apply State.depForget_keeps
    | with_reducible apply State.setLinkUp_keeps
    | with_reducible apply State.dropPairs_keeps
    | with_reducible apply State.setDep_keeps
    | with_reducible apply State.settleDep_keeps
    | with_reducible apply Keeps.ite
    | with_reducible apply Keeps.foldl
    | split
    | dsimp only
    | fail_if_no_progress with_reducible refine Keeps.lit ?_ rfl
    | with_reducible refine Keeps.litDraw ?_ rfl
    | with_reducible refine Keeps.litHost ?_ rfl

theorem State.depReset_keeps {a s : State} (h : Keeps a s) : ∀ x1, Keeps a (State.depReset s x1) := by
  intros
  unfold State.depReset
  try dsimp only
  repeat' first
    | with_reducible assumption
    | intro _
    | with_reducible apply State.emit_keeps
    | with_reducible apply Keeps.ite
    | with_reducible apply Keeps.foldl
    | split
    | dsimp only
    | fail_if_no_progress with_reducible refine Keeps.lit ?_ rfl
    | with_reducible refine Keeps.litDraw ?_ rfl
    | with_reducible refine Keeps.litHost ?_ rfl

theorem State.strictWord_keeps {a s : State} (h : Keeps a s) : ∀ x1 x2 x3, Keeps a (State.strictWord s x1 x2 x3) := by
  intros
  unfold State.strictWord
  try dsimp only
  repeat' first
    | with_reducible assumption
    | intro _
    | with_reducible apply State.setEpBit_keeps
    | with_reducible apply State.setDep_keeps
    | with_reducible apply State.emit_keeps
    | with_reducible apply Keeps.ite
    | with_reducible apply Keeps.foldl
    | split
    | dsimp only
    | fail_if_no_progress with_reducible refine Keeps.lit ?_ rfl
    | with_reducible refine Keeps.litDraw ?_ rfl
    | with_reducible refine Keeps.litHost ?_ rfl

theorem State.epCfgErr_keeps {a s : State} (h : Keeps a s) : ∀ x1, Keeps a (State.epCfgErr s x1) := by
  intros
  unfold State.epCfgErr
  try dsimp only
  repeat' first
    | with_reducible assumption
    | intro _
    | with_reducible apply State.epIrq_keeps
    | with_reducible apply State.setEpBit_keeps
    | with_reducible apply Keeps.ite
    | with_reducible apply Keeps.foldl
    | split
    | dsimp only
    | fail_if_no_progress with_reducible refine Keeps.lit ?_ rfl
    | with_reducible refine Keeps.litDraw ?_ rfl
    | with_reducible refine Keeps.litHost ?_ rfl

theorem State.epEnable_keeps {a s : State} (h : Keeps a s) : ∀ x1 x2, Keeps a (State.epEnable s x1 x2) := by
  intros
  unfold State.epEnable
  try dsimp only
  repeat' first
    | with_reducible assumption
    | intro _
    | with_reducible apply State.setEpBit_keeps
    | with_reducible apply State.setEpState_keeps
    | with_reducible apply State.depLinkDown_keeps
    | with_reducible apply Keeps.ite
    | with_reducible apply Keeps.foldl
    | split
    | dsimp only
    | fail_if_no_progress with_reducible refine Keeps.lit ?_ rfl
    | with_reducible refine Keeps.litDraw ?_ rfl
    | with_reducible refine Keeps.litHost ?_ rfl

theorem State.writeEpNode_keeps {a s : State} (h : Keeps a s) : ∀ x1 x2, Keeps a (State.writeEpNode s x1 x2) := by
  intros
  unfold State.writeEpNode
  try dsimp only
  repeat' first
    | with_reducible assumption
    | intro _
    | with_reducible apply State.settleDep_keeps
    | with_reducible apply State.setEp_keeps
    | with_reducible apply Keeps.ite
    | with_reducible apply Keeps.foldl
    | split
    | dsimp only
    | fail_if_no_progress with_reducible refine Keeps.lit ?_ rfl
    | with_reducible refine Keeps.litDraw ?_ rfl
    | with_reducible refine Keeps.litHost ?_ rfl

theorem State.writeEpRt_keeps {a s : State} (h : Keeps a s) : ∀ x1 x2 x3 x4, Keeps a (State.writeEpRt s x1 x2 x3 x4) := by
  intros
  unfold State.writeEpRt
  try dsimp only
  repeat' first
    | with_reducible assumption
    | intro _
    | with_reducible apply State.epIrq_keeps
    | with_reducible apply State.setEpF_keeps
    | with_reducible apply State.setEpBit_keeps
    | with_reducible apply State.setEp_keeps
    | with_reducible apply Keeps.ite
    | with_reducible apply Keeps.foldl
    | split
    | dsimp only
    | fail_if_no_progress with_reducible refine Keeps.lit ?_ rfl
    | with_reducible refine Keeps.litDraw ?_ rfl
    | with_reducible refine Keeps.litHost ?_ rfl

theorem State.writeEpHold_keeps {a s : State} (h : Keeps a s) : ∀ x1 x2 x3, Keeps a (State.writeEpHold s x1 x2 x3) := by
  intros
  unfold State.writeEpHold
  try dsimp only
  repeat' first
    | with_reducible assumption
    | intro _
    | with_reducible apply State.setEp_keeps
    | with_reducible apply State.settleDep_keeps
    | with_reducible apply State.forAll_keeps
    | with_reducible apply State.pump_keeps
    | with_reducible apply Keeps.ite
    | with_reducible apply Keeps.foldl
    | split
    | dsimp only
    | fail_if_no_progress with_reducible refine Keeps.lit ?_ rfl
    | with_reducible refine Keeps.litDraw ?_ rfl
    | with_reducible refine Keeps.litHost ?_ rfl

theorem State.writeEpRtx_keeps {a s : State} (h : Keeps a s) : ∀ x1 x2, Keeps a (State.writeEpRtx s x1 x2) := by
  intros
  unfold State.writeEpRtx
  try dsimp only
  repeat' first
    | with_reducible assumption
    | intro _
    | with_reducible apply State.setEp_keeps
    | with_reducible apply State.epCfgErr_keeps
    | with_reducible apply Keeps.ite
    | with_reducible apply Keeps.foldl
    | split
    | dsimp only
    | fail_if_no_progress with_reducible refine Keeps.lit ?_ rfl
    | with_reducible refine Keeps.litDraw ?_ rfl
    | with_reducible refine Keeps.litHost ?_ rfl

theorem State.writeEpWinTimeout_keeps {a s : State} (h : Keeps a s) : ∀ x1 x2, Keeps a (State.writeEpWinTimeout s x1 x2) := by
  intros
  unfold State.writeEpWinTimeout
  try dsimp only
  repeat' first
    | with_reducible assumption
    | intro _
    | with_reducible apply State.setEp_keeps
    | with_reducible apply State.epCfgErr_keeps
    | with_reducible apply Keeps.ite
    | with_reducible apply Keeps.foldl
    | split
    | dsimp only
    | fail_if_no_progress with_reducible refine Keeps.lit ?_ rfl
    | with_reducible refine Keeps.litDraw ?_ rfl
    | with_reducible refine Keeps.litHost ?_ rfl

theorem State.writeEpPlain_keeps {a s : State} (h : Keeps a s) : ∀ x1 x2 x3, Keeps a (State.writeEpPlain s x1 x2 x3) := by
  intros
  unfold State.writeEpPlain
  try dsimp only
  repeat' first
    | with_reducible assumption
    | intro _
    | with_reducible apply State.setEp_keeps
    | with_reducible apply Keeps.ite
    | with_reducible apply Keeps.foldl
    | split
    | dsimp only
    | fail_if_no_progress with_reducible refine Keeps.lit ?_ rfl
    | with_reducible refine Keeps.litDraw ?_ rfl
    | with_reducible refine Keeps.litHost ?_ rfl

theorem State.writeEpIf_keeps {a s : State} {report : State → State} (h : Keeps a s) (hr : ∀ t, Keeps a t → Keeps a (report t)) :
    ∀ p x v ok, Keeps a (State.writeEpIf s p x v ok report) := by
  intro p x v ok
  unfold State.writeEpIf
  split
  · exact State.writeEpPlain_keeps h _ _ _
  · exact hr s h

theorem State.epIrqFollows_keeps {a s : State} (h : Keeps a s) : ∀ x1 x2, Keeps a (State.epIrqFollows s x1 x2) := by
  intros
  unfold State.epIrqFollows
  try dsimp only
  repeat' first
    | with_reducible assumption
    | intro _
    | with_reducible apply State.emit_keeps
    | with_reducible apply Keeps.ite
    | with_reducible apply Keeps.foldl
    | split
    | dsimp only
    | fail_if_no_progress with_reducible refine Keeps.lit ?_ rfl
    | with_reducible refine Keeps.litDraw ?_ rfl
    | with_reducible refine Keeps.litHost ?_ rfl

theorem State.writeEpCtl_keeps {a s : State} (h : Keeps a s) : ∀ x1 x2, Keeps a (State.writeEpCtl s x1 x2) := by
  intros
  unfold State.writeEpCtl
  try dsimp only
  repeat' first
    | with_reducible assumption
    | intro _
    | with_reducible apply State.writeEpPlain_keeps
    | with_reducible apply State.epEnable_keeps
    | with_reducible apply Keeps.ite
    | with_reducible apply Keeps.foldl
    | split
    | dsimp only
    | fail_if_no_progress with_reducible refine Keeps.lit ?_ rfl
    | with_reducible refine Keeps.litDraw ?_ rfl
    | with_reducible refine Keeps.litHost ?_ rfl

theorem State.writeEpRtHalf_keeps {a s : State} (h : Keeps a s) : ∀ x1 x2 x3, Keeps a (State.writeEpRtHalf s x1 x2 x3) := by
  intros
  unfold State.writeEpRtHalf
  try dsimp only
  repeat' first
    | with_reducible assumption
    | intro _
    | with_reducible apply State.setDep_keeps
    | with_reducible apply State.writeEpRt_keeps
    | with_reducible apply Keeps.ite
    | with_reducible apply Keeps.foldl
    | split
    | dsimp only
    | fail_if_no_progress with_reducible refine Keeps.lit ?_ rfl
    | with_reducible refine Keeps.litDraw ?_ rfl
    | with_reducible refine Keeps.litHost ?_ rfl

theorem State.writeEpMarker_keeps {a s : State} (h : Keeps a s) : ∀ x1 x2 x3, Keeps a (State.writeEpMarker s x1 x2 x3) := by
  intros
  unfold State.writeEpMarker
  try dsimp only
  repeat' first
    | with_reducible assumption
    | intro _
    | with_reducible apply State.fillBucket_keeps
    | with_reducible apply State.writeEpPlain_keeps
    | with_reducible apply State.freshBucket_keeps
    | with_reducible apply Keeps.ite
    | with_reducible apply Keeps.foldl
    | split
    | dsimp only
    | fail_if_no_progress with_reducible refine Keeps.lit ?_ rfl
    | with_reducible refine Keeps.litDraw ?_ rfl
    | with_reducible refine Keeps.litHost ?_ rfl

theorem State.writeEp_keeps {a s : State} (h : Keeps a s) : ∀ x1 x2 x3, Keeps a (State.writeEp s x1 x2 x3) := by
  intros
  unfold State.writeEp
  try dsimp only
  repeat' first
    | with_reducible assumption
    | intro _
    | with_reducible apply State.settleDep_keeps
    | with_reducible apply State.writeEpCtl_keeps
    | with_reducible apply State.writeEpNode_keeps
    | with_reducible apply State.writeEpIf_keeps
    | with_reducible apply State.writeEpRtx_keeps
    | with_reducible apply State.writeEpWinTimeout_keeps
    | with_reducible apply State.pumpAll_keeps
    | with_reducible apply State.epCfgErr_keeps
    | with_reducible apply State.epIrqFollows_keeps
    | with_reducible apply State.writeEpPlain_keeps
    | with_reducible apply State.writeEpMarker_keeps
    | with_reducible apply State.writeEpHold_keeps
    | with_reducible apply State.writeEpRtHalf_keeps
    | with_reducible apply Keeps.ite
    | with_reducible apply Keeps.foldl
    | split
    | dsimp only
    | fail_if_no_progress with_reducible refine Keeps.lit ?_ rfl
    | with_reducible refine Keeps.litDraw ?_ rfl
    | with_reducible refine Keeps.litHost ?_ rfl

theorem State.rqBeat_keeps {a s : State} (h : Keeps a s) : ∀ x1 x2 x3, Keeps a (State.rqBeat s x1 x2 x3) := by
  intros
  unfold State.rqBeat
  try dsimp only
  repeat' first
    | with_reducible assumption
    | intro _
    | with_reducible apply State.settleDep_keeps
    | with_reducible apply State.setDep_keeps
    | with_reducible apply Keeps.ite
    | with_reducible apply Keeps.foldl
    | split
    | dsimp only
    | fail_if_no_progress with_reducible refine Keeps.lit ?_ rfl
    | with_reducible refine Keeps.litDraw ?_ rfl
    | with_reducible refine Keeps.litHost ?_ rfl

end Sys2Proof.Machine
end

