-- ==== Sys2Proof/Laws/KeepsElectrical.lean ====
section
/-! SUPPORT. What each operation of Machine/Electrical.lean keeps. -/

namespace Sys2Proof.Machine

set_option linter.unusedTactic false
set_option linter.unreachableTactic false

theorem State.setElec_keeps {a s : State} (h : Keeps a s) : ∀ x1 x2, Keeps a (State.setElec s x1 x2) := by
  intros
  unfold State.setElec
  try dsimp only
  repeat' first
    | with_reducible assumption
    | intro _
    | with_reducible apply Keeps.ite
    | with_reducible apply Keeps.foldl
    | split
    | dsimp only
    | fail_if_no_progress with_reducible refine Keeps.lit ?_ rfl
    | with_reducible refine Keeps.litDraw ?_ rfl
    | with_reducible refine Keeps.litHost ?_ rfl

theorem State.setElecBit_keeps {a s : State} (h : Keeps a s) : ∀ x1 x2 x3, Keeps a (State.setElecBit s x1 x2 x3) := by
  intros
  unfold State.setElecBit
  try dsimp only
  repeat' first
    | with_reducible assumption
    | intro _
    | with_reducible apply State.setRegBit_keeps
    | with_reducible apply Keeps.ite
    | with_reducible apply Keeps.foldl
    | split
    | dsimp only
    | fail_if_no_progress with_reducible refine Keeps.lit ?_ rfl
    | with_reducible refine Keeps.litDraw ?_ rfl
    | with_reducible refine Keeps.litHost ?_ rfl

theorem State.setElecState_keeps {a s : State} (h : Keeps a s) : ∀ x1 x2, Keeps a (State.setElecState s x1 x2) := by
  intros
  unfold State.setElecState
  try dsimp only
  repeat' first
    | with_reducible assumption
    | intro _
    | with_reducible apply State.setRegF_keeps
    | with_reducible apply Keeps.ite
    | with_reducible apply Keeps.foldl
    | split
    | dsimp only
    | fail_if_no_progress with_reducible refine Keeps.lit ?_ rfl
    | with_reducible refine Keeps.litDraw ?_ rfl
    | with_reducible refine Keeps.litHost ?_ rfl

theorem State.setElecFlag_keeps {a s : State} (h : Keeps a s) : ∀ x1 x2 x3, Keeps a (State.setElecFlag s x1 x2 x3) := by
  intros
  unfold State.setElecFlag
  try dsimp only
  repeat' first
    | with_reducible assumption
    | intro _
    | with_reducible apply State.setRegBit_keeps
    | with_reducible apply Keeps.ite
    | with_reducible apply Keeps.foldl
    | split
    | dsimp only
    | fail_if_no_progress with_reducible refine Keeps.lit ?_ rfl
    | with_reducible refine Keeps.litDraw ?_ rfl
    | with_reducible refine Keeps.litHost ?_ rfl

theorem State.elecErr_keeps {a s : State} (h : Keeps a s) : ∀ x1, Keeps a (State.elecErr s x1) := by
  intros
  unfold State.elecErr
  try dsimp only
  repeat' first
    | with_reducible assumption
    | intro _
    | with_reducible apply State.setElecFlag_keeps
    | with_reducible apply Keeps.ite
    | with_reducible apply Keeps.foldl
    | split
    | dsimp only
    | fail_if_no_progress with_reducible refine Keeps.lit ?_ rfl
    | with_reducible refine Keeps.litDraw ?_ rfl
    | with_reducible refine Keeps.litHost ?_ rfl

theorem State.countBits_keeps {a s : State} (h : Keeps a s) : ∀ x1 x2, Keeps a (State.countBits s x1 x2) := by
  intros
  unfold State.countBits
  try dsimp only
  repeat' first
    | with_reducible assumption
    | intro _
    | refine State.draw_eq_keeps ?_ (by with_reducible assumption)
    | with_reducible apply State.draw_snd_keeps
    | with_reducible apply State.addReg_keeps
    | with_reducible apply State.setElec_keeps
    | with_reducible apply Keeps.ite
    | with_reducible apply Keeps.foldl
    | split
    | dsimp only
    | fail_if_no_progress with_reducible refine Keeps.lit ?_ rfl
    | with_reducible refine Keeps.litDraw ?_ rfl
    | with_reducible refine Keeps.litHost ?_ rfl

theorem State.unlock_keeps {a s : State} (h : Keeps a s) : ∀ x1 x2, Keeps a (State.unlock s x1 x2) := by
  intros
  unfold State.unlock
  try dsimp only
  repeat' first
    | with_reducible assumption
    | intro _
    | with_reducible apply State.setRegBit_keeps
    | with_reducible apply State.countBits_keeps
    | with_reducible apply State.setElec_keeps
    | with_reducible apply Keeps.ite
    | with_reducible apply Keeps.foldl
    | split
    | dsimp only
    | fail_if_no_progress with_reducible refine Keeps.lit ?_ rfl
    | with_reducible refine Keeps.litDraw ?_ rfl
    | with_reducible refine Keeps.litHost ?_ rfl

theorem State.elecDown_keeps {a s : State} (h : Keeps a s) : ∀ x1, Keeps a (State.elecDown s x1) := by
  intros
  unfold State.elecDown
  try dsimp only
  repeat' first
    | with_reducible assumption
    | intro _
    | with_reducible apply State.setElecState_keeps
    | with_reducible apply State.setElecFlag_keeps
    | with_reducible apply State.portLost_keeps
    | with_reducible apply State.setElec_keeps
    | with_reducible apply Keeps.ite
    | with_reducible apply Keeps.foldl
    | split
    | dsimp only
    | fail_if_no_progress with_reducible refine Keeps.lit ?_ rfl
    | with_reducible refine Keeps.litDraw ?_ rfl
    | with_reducible refine Keeps.litHost ?_ rfl

theorem State.elecStart_keeps {a s : State} (h : Keeps a s) : ∀ x1, Keeps a (State.elecStart s x1) := by
  intros
  unfold State.elecStart
  try dsimp only
  repeat' first
    | with_reducible assumption
    | intro _
    | with_reducible apply State.count_keeps
    | with_reducible apply State.elecDown_keeps
    | with_reducible apply State.setElec_keeps
    | with_reducible apply State.setElecFlag_keeps
    | with_reducible apply State.setElecState_keeps
    | with_reducible apply Keeps.ite
    | with_reducible apply Keeps.foldl
    | split
    | dsimp only
    | fail_if_no_progress with_reducible refine Keeps.lit ?_ rfl
    | with_reducible refine Keeps.litDraw ?_ rfl
    | with_reducible refine Keeps.litHost ?_ rfl

theorem State.elecFail_keeps {a s : State} (h : Keeps a s) : ∀ x1, Keeps a (State.elecFail s x1) := by
  intros
  unfold State.elecFail
  try dsimp only
  repeat' first
    | with_reducible assumption
    | intro _
    | with_reducible apply State.elecStart_keeps
    | with_reducible apply State.setElecState_keeps
    | with_reducible apply State.count_keeps
    | with_reducible apply State.setElec_keeps
    | with_reducible apply Keeps.ite
    | with_reducible apply Keeps.foldl
    | split
    | dsimp only
    | fail_if_no_progress with_reducible refine Keeps.lit ?_ rfl
    | with_reducible refine Keeps.litDraw ?_ rfl
    | with_reducible refine Keeps.litHost ?_ rfl

theorem State.putFom_keeps {a s : State} (h : Keeps a s) : ∀ x1 x2 x3, Keeps a (State.putFom s x1 x2 x3) := by
  intros
  unfold State.putFom
  try dsimp only
  repeat' first
    | with_reducible assumption
    | intro _
    | with_reducible apply State.setRegF_keeps
    | with_reducible apply State.setElecFlag_keeps
    | with_reducible apply Keeps.ite
    | with_reducible apply Keeps.foldl
    | split
    | dsimp only
    | fail_if_no_progress with_reducible refine Keeps.lit ?_ rfl
    | with_reducible refine Keeps.litDraw ?_ rfl
    | with_reducible refine Keeps.litHost ?_ rfl

theorem State.fomCheck_keeps {a s : State} (h : Keeps a s) : ∀ x1 x2 x3, Keeps a (State.fomCheck s x1 x2 x3) := by
  intros
  unfold State.fomCheck
  try dsimp only
  repeat' first
    | with_reducible assumption
    | intro _
    | with_reducible apply State.forAll_keeps
    | with_reducible apply State.putFom_keeps
    | with_reducible apply State.setElecState_keeps
    | with_reducible apply State.setElec_keeps
    | with_reducible apply State.elecFail_keeps
    | with_reducible apply Keeps.ite
    | with_reducible apply Keeps.foldl
    | split
    | dsimp only
    | fail_if_no_progress with_reducible refine Keeps.lit ?_ rfl
    | with_reducible refine Keeps.litDraw ?_ rfl
    | with_reducible refine Keeps.litHost ?_ rfl

theorem State.elecUp_keeps {a s : State} (h : Keeps a s) : ∀ x1, Keeps a (State.elecUp s x1) := by
  intros
  unfold State.elecUp
  try dsimp only
  repeat' first
    | with_reducible assumption
    | intro _
    | with_reducible apply State.setElecState_keeps
    | with_reducible apply State.setElec_keeps
    | with_reducible apply State.setLinkUp_keeps
    | with_reducible apply State.setEpState_keeps
    | with_reducible apply State.portRises_keeps
    | with_reducible apply Keeps.ite
    | with_reducible apply Keeps.foldl
    | split
    | dsimp only
    | fail_if_no_progress with_reducible refine Keeps.lit ?_ rfl
    | with_reducible refine Keeps.litDraw ?_ rfl
    | with_reducible refine Keeps.litHost ?_ rfl

theorem State.fomUpdate_keeps {a s : State} (h : Keeps a s) : ∀ x1 x2 x3 x4 x5, Keeps a (State.fomUpdate s x1 x2 x3 x4 x5) := by
  intros
  unfold State.fomUpdate
  try dsimp only
  repeat' first
    | with_reducible assumption
    | intro _
    | with_reducible apply State.setReg_keeps
    | with_reducible apply State.putFom_keeps
    | with_reducible apply State.addReg_keeps
    | with_reducible apply State.elecStart_keeps
    | with_reducible apply State.raise_keeps
    | with_reducible apply State.elecDown_keeps
    | with_reducible apply State.setElec_keeps
    | with_reducible apply Keeps.ite
    | with_reducible apply Keeps.foldl
    | split
    | dsimp only
    | fail_if_no_progress with_reducible refine Keeps.lit ?_ rfl
    | with_reducible refine Keeps.litDraw ?_ rfl
    | with_reducible refine Keeps.litHost ?_ rfl

theorem State.applyLoop_keeps {a s : State} (h : Keeps a s) : ∀ x1, Keeps a (State.applyLoop s x1) := by
  intros
  unfold State.applyLoop
  try dsimp only
  repeat' first
    | with_reducible assumption
    | intro _
    | with_reducible apply State.emit_keeps
    | with_reducible apply State.setElec_keeps
    | with_reducible apply Keeps.ite
    | with_reducible apply Keeps.foldl
    | split
    | dsimp only
    | fail_if_no_progress with_reducible refine Keeps.lit ?_ rfl
    | with_reducible refine Keeps.litDraw ?_ rfl
    | with_reducible refine Keeps.litHost ?_ rfl

theorem State.testWrite_keeps {a s : State} (h : Keeps a s) : ∀ x1 x2, Keeps a (State.testWrite s x1 x2) := by
  intros
  unfold State.testWrite
  try dsimp only
  repeat' first
    | with_reducible assumption
    | intro _
    | with_reducible apply State.setElecBit_keeps
    | with_reducible apply State.elecDown_keeps
    | with_reducible apply State.applyLoop_keeps
    | with_reducible apply State.emit_keeps
    | with_reducible apply State.setElecState_keeps
    | with_reducible apply State.forAll_keeps
    | with_reducible apply State.setRegBit_keeps
    | with_reducible apply State.unlock_keeps
    | with_reducible apply State.setElec_keeps
    | with_reducible apply State.setRegF_keeps
    | with_reducible apply State.elecStart_keeps
    | with_reducible apply Keeps.ite
    | with_reducible apply Keeps.foldl
    | split
    | dsimp only
    | fail_if_no_progress with_reducible refine Keeps.lit ?_ rfl
    | with_reducible refine Keeps.litDraw ?_ rfl
    | with_reducible refine Keeps.litHost ?_ rfl

theorem State.depTest_keeps {a s : State} (h : Keeps a s) : ∀ x1 x2, Keeps a (State.depTest s x1 x2) := by
  intros
  unfold State.depTest
  try dsimp only
  repeat' first
    | with_reducible assumption
    | intro _
    | with_reducible apply State.setEpState_keeps
    | with_reducible apply State.depLinkDown_keeps
    | with_reducible apply State.setDep_keeps
    | with_reducible apply Keeps.ite
    | with_reducible apply Keeps.foldl
    | split
    | dsimp only
    | fail_if_no_progress with_reducible refine Keeps.lit ?_ rfl
    | with_reducible refine Keeps.litDraw ?_ rfl
    | with_reducible refine Keeps.litHost ?_ rfl

theorem State.auditWrite_keeps {a s : State} (h : Keeps a s) : ∀ x1 x2, Keeps a (State.auditWrite s x1 x2) := by
  intros
  unfold State.auditWrite
  try dsimp only
  repeat' first
    | with_reducible assumption
    | intro _
    | with_reducible apply State.setReg_keeps
    | with_reducible apply State.setElec_keeps
    | with_reducible apply State.emit_keeps
    | with_reducible apply Keeps.ite
    | with_reducible apply Keeps.foldl
    | split
    | dsimp only
    | fail_if_no_progress with_reducible refine Keeps.lit ?_ rfl
    | with_reducible refine Keeps.litDraw ?_ rfl
    | with_reducible refine Keeps.litHost ?_ rfl

theorem State.auditStart_keeps {a s : State} (h : Keeps a s) : ∀ x1, Keeps a (State.auditStart s x1) := by
  intros
  unfold State.auditStart
  try dsimp only
  repeat' first
    | with_reducible assumption
    | intro _
    | with_reducible apply State.setElec_keeps
    | with_reducible apply State.setRegBit_keeps
    | with_reducible apply Keeps.ite
    | with_reducible apply Keeps.foldl
    | split
    | dsimp only
    | fail_if_no_progress with_reducible refine Keeps.lit ?_ rfl
    | with_reducible refine Keeps.litDraw ?_ rfl
    | with_reducible refine Keeps.litHost ?_ rfl

theorem State.auditEnd_keeps {a s : State} (h : Keeps a s) : ∀ x1, Keeps a (State.auditEnd s x1) := by
  intros
  unfold State.auditEnd
  try dsimp only
  repeat' first
    | with_reducible assumption
    | intro _
    | with_reducible apply State.forAll_keeps
    | with_reducible apply State.unlock_keeps
    | with_reducible apply State.setElec_keeps
    | with_reducible apply Keeps.ite
    | with_reducible apply Keeps.foldl
    | split
    | dsimp only
    | fail_if_no_progress with_reducible refine Keeps.lit ?_ rfl
    | with_reducible refine Keeps.litDraw ?_ rfl
    | with_reducible refine Keeps.litHost ?_ rfl

theorem State.sleepIdle_keeps {a s : State} (h : Keeps a s) : ∀ x1, Keeps a (State.sleepIdle s x1) := by
  intros
  unfold State.sleepIdle
  try dsimp only
  repeat' first
    | with_reducible assumption
    | intro _
    | refine State.draw_eq_keeps ?_ (by with_reducible assumption)
    | with_reducible apply State.draw_snd_keeps
    | with_reducible apply State.emit_keeps
    | with_reducible apply State.setElecFlag_keeps
    | with_reducible apply Keeps.ite
    | with_reducible apply Keeps.foldl
    | split
    | dsimp only
    | fail_if_no_progress with_reducible refine Keeps.lit ?_ rfl
    | with_reducible refine Keeps.litDraw ?_ rfl
    | with_reducible refine Keeps.litHost ?_ rfl

theorem State.depSleep_keeps {a s : State} (h : Keeps a s) : ∀ x1, Keeps a (State.depSleep s x1) := by
  intros
  unfold State.depSleep
  try dsimp only
  repeat' first
    | with_reducible assumption
    | intro _
    | with_reducible apply State.emit_keeps
    | with_reducible apply State.setEpBit_keeps
    | with_reducible apply Keeps.ite
    | with_reducible apply Keeps.foldl
    | split
    | dsimp only
    | fail_if_no_progress with_reducible refine Keeps.lit ?_ rfl
    | with_reducible refine Keeps.litDraw ?_ rfl
    | with_reducible refine Keeps.litHost ?_ rfl

theorem State.elecWake_keeps {a s : State} (h : Keeps a s) : ∀ x1, Keeps a (State.elecWake s x1) := by
  intros
  unfold State.elecWake
  try dsimp only
  repeat' first
    | with_reducible assumption
    | intro _
    | with_reducible apply State.emit_keeps
    | with_reducible apply State.setElec_keeps
    | with_reducible apply Keeps.ite
    | with_reducible apply Keeps.foldl
    | split
    | dsimp only
    | fail_if_no_progress with_reducible refine Keeps.lit ?_ rfl
    | with_reducible refine Keeps.litDraw ?_ rfl
    | with_reducible refine Keeps.litHost ?_ rfl

theorem State.wakeDone_keeps {a s : State} (h : Keeps a s) : ∀ x1, Keeps a (State.wakeDone s x1) := by
  intros
  unfold State.wakeDone
  try dsimp only
  repeat' first
    | with_reducible assumption
    | intro _
    | with_reducible apply State.setElecFlag_keeps
    | with_reducible apply State.setElec_keeps
    | with_reducible apply Keeps.ite
    | with_reducible apply Keeps.foldl
    | split
    | dsimp only
    | fail_if_no_progress with_reducible refine Keeps.lit ?_ rfl
    | with_reducible refine Keeps.litDraw ?_ rfl
    | with_reducible refine Keeps.litHost ?_ rfl

theorem State.deepEnter_keeps {a s : State} (h : Keeps a s) : ∀ x1, Keeps a (State.deepEnter s x1) := by
  intros
  unfold State.deepEnter
  try dsimp only
  repeat' first
    | with_reducible assumption
    | intro _
    | refine State.draw_eq_keeps ?_ (by with_reducible assumption)
    | with_reducible apply State.draw_snd_keeps
    | with_reducible apply State.elecErr_keeps
    | with_reducible apply State.setElecState_keeps
    | with_reducible apply State.setElecBit_keeps
    | with_reducible apply State.elecDown_keeps
    | with_reducible apply Keeps.ite
    | with_reducible apply Keeps.foldl
    | split
    | dsimp only
    | fail_if_no_progress with_reducible refine Keeps.lit ?_ rfl
    | with_reducible refine Keeps.litDraw ?_ rfl
    | with_reducible refine Keeps.litHost ?_ rfl

theorem State.deepExit_keeps {a s : State} (h : Keeps a s) : ∀ x1, Keeps a (State.deepExit s x1) := by
  intros
  unfold State.deepExit
  try dsimp only
  repeat' first
    | with_reducible assumption
    | intro _
    | with_reducible apply State.setElecBit_keeps
    | with_reducible apply State.setElecState_keeps
    | with_reducible apply Keeps.ite
    | with_reducible apply Keeps.foldl
    | split
    | dsimp only
    | fail_if_no_progress with_reducible refine Keeps.lit ?_ rfl
    | with_reducible refine Keeps.litDraw ?_ rfl
    | with_reducible refine Keeps.litHost ?_ rfl

theorem State.elecEnable_keeps {a s : State} (h : Keeps a s) : ∀ x1 x2, Keeps a (State.elecEnable s x1 x2) := by
  intros
  unfold State.elecEnable
  try dsimp only
  repeat' first
    | with_reducible assumption
    | intro _
    | with_reducible apply State.setElecBit_keeps
    | with_reducible apply State.elecStart_keeps
    | with_reducible apply State.elecDown_keeps
    | with_reducible apply Keeps.ite
    | with_reducible apply Keeps.foldl
    | split
    | dsimp only
    | fail_if_no_progress with_reducible refine Keeps.lit ?_ rfl
    | with_reducible refine Keeps.litDraw ?_ rfl
    | with_reducible refine Keeps.litHost ?_ rfl

theorem State.reserveWrite_keeps {a s : State} (h : Keeps a s) : ∀ x1 x2, Keeps a (State.reserveWrite s x1 x2) := by
  intros
  unfold State.reserveWrite
  try dsimp only
  repeat' first
    | with_reducible assumption
    | intro _
    | with_reducible apply State.elecErr_keeps
    | with_reducible apply State.setElecBit_keeps
    | with_reducible apply Keeps.ite
    | with_reducible apply Keeps.foldl
    | split
    | dsimp only
    | fail_if_no_progress with_reducible refine Keeps.lit ?_ rfl
    | with_reducible refine Keeps.litDraw ?_ rfl
    | with_reducible refine Keeps.litHost ?_ rfl

theorem State.sleepEnWrite_keeps {a s : State} (h : Keeps a s) : ∀ x1 x2, Keeps a (State.sleepEnWrite s x1 x2) := by
  intros
  unfold State.sleepEnWrite
  try dsimp only
  repeat' first
    | with_reducible assumption
    | intro _
    | with_reducible apply State.setElecBit_keeps
    | with_reducible apply State.elecWake_keeps
    | with_reducible apply Keeps.ite
    | with_reducible apply Keeps.foldl
    | split
    | dsimp only
    | fail_if_no_progress with_reducible refine Keeps.lit ?_ rfl
    | with_reducible refine Keeps.litDraw ?_ rfl
    | with_reducible refine Keeps.litHost ?_ rfl

theorem State.signalLost_keeps {a s : State} (h : Keeps a s) : ∀ x1, Keeps a (State.signalLost s x1) := by
  intros
  unfold State.signalLost
  try dsimp only
  repeat' first
    | with_reducible assumption
    | intro _
    | with_reducible apply State.elecDown_keeps
    | with_reducible apply State.optDown_keeps
    | with_reducible apply Keeps.ite
    | with_reducible apply Keeps.foldl
    | split
    | dsimp only
    | fail_if_no_progress with_reducible refine Keeps.lit ?_ rfl
    | with_reducible refine Keeps.litDraw ?_ rfl
    | with_reducible refine Keeps.litHost ?_ rfl

theorem State.delayMeasured_keeps {a s : State} (h : Keeps a s) : ∀ x1 x2, Keeps a (State.delayMeasured s x1 x2) := by
  intros
  unfold State.delayMeasured
  try dsimp only
  repeat' first
    | with_reducible assumption
    | intro _
    | with_reducible apply State.setElec_keeps
    | with_reducible apply State.linkMeasured_keeps
    | with_reducible apply State.setOpt_keeps
    | with_reducible apply Keeps.ite
    | with_reducible apply Keeps.foldl
    | split
    | dsimp only
    | fail_if_no_progress with_reducible refine Keeps.lit ?_ rfl
    | with_reducible refine Keeps.litDraw ?_ rfl
    | with_reducible refine Keeps.litHost ?_ rfl

theorem State.waitOver_keeps {a s : State} (h : Keeps a s) : ∀ x1, Keeps a (State.waitOver s x1) := by
  intros
  unfold State.waitOver
  try dsimp only
  repeat' first
    | with_reducible assumption
    | intro _
    | with_reducible apply State.elecStart_keeps
    | with_reducible apply State.optStart_keeps
    | with_reducible apply Keeps.ite
    | with_reducible apply Keeps.foldl
    | split
    | dsimp only
    | fail_if_no_progress with_reducible refine Keeps.lit ?_ rfl
    | with_reducible refine Keeps.litDraw ?_ rfl
    | with_reducible refine Keeps.litHost ?_ rfl

end Sys2Proof.Machine
end

