-- ==== Sys2Proof/Laws/KeepsHostLink.lean ====
section
/-! SUPPORT. What each operation of Machine/HostLink.lean keeps. -/

namespace Sys2Proof.Machine

set_option linter.unusedTactic false
set_option linter.unreachableTactic false

theorem State.putBar2_keeps {a s : State} (h : Keeps a s) : ∀ x1, Keeps a (State.putBar2 s x1) := by
  intros
  unfold State.putBar2
  try dsimp only
  repeat' first
    | with_reducible assumption
    | intro _
    | with_reducible apply Keeps.ite
    | with_reducible apply Keeps.foldl
    | split
    | dsimp only
    | fail_if_no_progress with_reducible refine Keeps.lit ?_ rfl
    | with_reducible refine Keeps.litDraw ?_ rfl
    | with_reducible refine Keeps.litHost ?_ rfl

theorem State.sendBar2_keeps {a s : State} (h : Keeps a s) : ∀ x1, Keeps a (State.sendBar2 s x1) := by
  intros
  unfold State.sendBar2
  try dsimp only
  repeat' first
    | with_reducible assumption
    | intro _
    | with_reducible apply State.forAll_keeps
    | with_reducible apply State.putBar2_keeps
    | with_reducible apply State.submit_keeps
    | with_reducible apply Keeps.ite
    | with_reducible apply Keeps.foldl
    | split
    | dsimp only
    | fail_if_no_progress with_reducible refine Keeps.lit ?_ rfl
    | with_reducible refine Keeps.litDraw ?_ rfl
    | with_reducible refine Keeps.litHost ?_ rfl

theorem State.hostError_keeps {a s : State} (h : Keeps a s) : ∀ x1 x2, Keeps a (State.hostError s x1 x2) := by
  intros
  unfold State.hostError
  try dsimp only
  repeat' first
    | with_reducible assumption
    | intro _
    | with_reducible apply State.raise_keeps
    | with_reducible apply State.setReg_keeps
    | with_reducible apply Keeps.ite
    | with_reducible apply Keeps.foldl
    | split
    | dsimp only
    | fail_if_no_progress with_reducible refine Keeps.lit ?_ rfl
    | with_reducible refine Keeps.litDraw ?_ rfl
    | with_reducible refine Keeps.litHost ?_ rfl

theorem State.endBar2_keeps {a s : State} (h : Keeps a s) : ∀ x1, Keeps a (State.endBar2 s x1) := by
  intros
  unfold State.endBar2
  try dsimp only
  repeat' first
    | with_reducible assumption
    | intro _
    | with_reducible apply State.hostError_keeps
    | with_reducible apply State.emit_keeps
    | with_reducible apply Keeps.ite
    | with_reducible apply Keeps.foldl
    | split
    | dsimp only
    | fail_if_no_progress with_reducible refine Keeps.lit ?_ rfl
    | with_reducible refine Keeps.litDraw ?_ rfl
    | with_reducible refine Keeps.litHost ?_ rfl

theorem State.hostRound_keeps {a s : State} (h : Keeps a s) : Keeps a (State.hostRound s) := by
  unfold State.hostRound
  try dsimp only
  repeat' first
    | with_reducible assumption
    | intro _
    | with_reducible apply State.forAll_keeps
    | with_reducible apply State.endBar2_keeps
    | with_reducible apply State.sendBar2_keeps
    | with_reducible apply Keeps.ite
    | with_reducible apply Keeps.foldl
    | split
    | dsimp only
    | fail_if_no_progress with_reducible refine Keeps.lit ?_ rfl
    | with_reducible refine Keeps.litDraw ?_ rfl
    | with_reducible refine Keeps.litHost ?_ rfl

theorem State.hostRounds_keeps {a s : State} (h : Keeps a s) : ∀ k, Keeps a (State.hostRounds s  k) := by
  intro k
  induction k generalizing s with
  | zero => exact h
  | succ k ih =>
    unfold State.hostRounds
    try dsimp only
    repeat' first
      | with_reducible assumption
      | with_reducible apply ih
      | intro _
      | with_reducible apply State.hostRound_keeps
      | with_reducible apply State.hostRound_keeps
      | with_reducible apply Keeps.ite
      | with_reducible apply Keeps.foldl
      | split
      | dsimp only
      | fail_if_no_progress with_reducible refine Keeps.lit ?_ rfl
      | with_reducible refine Keeps.litDraw ?_ rfl
      | with_reducible refine Keeps.litHost ?_ rfl

theorem State.settleHost_keeps {a s : State} (h : Keeps a s) : Keeps a (State.settleHost s) := by
  unfold State.settleHost
  try dsimp only
  repeat' first
    | with_reducible assumption
    | intro _
    | with_reducible apply State.hostRounds_keeps
    | with_reducible apply Keeps.ite
    | with_reducible apply Keeps.foldl
    | split
    | dsimp only
    | fail_if_no_progress with_reducible refine Keeps.lit ?_ rfl
    | with_reducible refine Keeps.litDraw ?_ rfl
    | with_reducible refine Keeps.litHost ?_ rfl

theorem State.bar2_keeps {a s : State} (h : Keeps a s) : ∀ x1 x2, Keeps a (State.bar2 s x1 x2) := by
  intros
  unfold State.bar2
  try dsimp only
  repeat' first
    | with_reducible assumption
    | intro _
    | with_reducible apply State.settleHost_keeps
    | with_reducible apply State.emit_keeps
    | with_reducible apply Keeps.ite
    | with_reducible apply Keeps.foldl
    | split
    | dsimp only
    | fail_if_no_progress with_reducible refine Keeps.lit ?_ rfl
    | with_reducible refine Keeps.litDraw ?_ rfl
    | with_reducible refine Keeps.litHost ?_ rfl

theorem State.stagingWrite_keeps {a s : State} (h : Keeps a s) : ∀ x1 x2, Keeps a (State.stagingWrite s x1 x2) := by
  intros
  unfold State.stagingWrite
  try dsimp only
  repeat' first
    | with_reducible assumption
    | intro _
    | with_reducible apply State.settleHost_keeps
    | with_reducible apply Keeps.ite
    | with_reducible apply Keeps.foldl
    | split
    | dsimp only
    | fail_if_no_progress with_reducible refine Keeps.lit ?_ rfl
    | with_reducible refine Keeps.litDraw ?_ rfl
    | with_reducible refine Keeps.litHost ?_ rfl

theorem State.deadReads_keeps {a s : State} (h : Keeps a s) : ∀ x1, Keeps a (State.deadReads s x1) := by
  intros
  unfold State.deadReads
  try dsimp only
  repeat' first
    | with_reducible assumption
    | intro _
    | with_reducible apply Keeps.ite
    | with_reducible apply Keeps.foldl
    | split
    | dsimp only
    | fail_if_no_progress with_reducible refine Keeps.lit ?_ rfl
    | with_reducible refine Keeps.litDraw ?_ rfl
    | with_reducible refine Keeps.litHost ?_ rfl

theorem State.resetCfg_keeps {a s : State} (h : Keeps a s) : ∀ x1, Keeps a (State.resetCfg s x1) := by
  intros
  unfold State.resetCfg
  try dsimp only
  repeat' first
    | with_reducible assumption
    | intro _
    | with_reducible apply Keeps.ite
    | with_reducible apply Keeps.foldl
    | split
    | dsimp only
    | fail_if_no_progress with_reducible refine Keeps.lit ?_ rfl
    | with_reducible refine Keeps.litDraw ?_ rfl
    | with_reducible refine Keeps.litHost ?_ rfl

theorem State.linkReset_keeps {a s : State} (h : Keeps a s) : Keeps a (State.linkReset s) := by
  unfold State.linkReset
  try dsimp only
  repeat' first
    | with_reducible assumption
    | intro _
    | with_reducible apply State.resetCfg_keeps
    | with_reducible apply Keeps.ite
    | with_reducible apply Keeps.foldl
    | split
    | dsimp only
    | fail_if_no_progress with_reducible refine Keeps.lit ?_ rfl
    | with_reducible refine Keeps.litDraw ?_ rfl
    | with_reducible refine Keeps.litHost ?_ rfl

theorem State.hostDown_keeps {a s : State} (h : Keeps a s) : ∀ x1, Keeps a (State.hostDown s x1) := by
  intros
  unfold State.hostDown
  try dsimp only
  repeat' first
    | with_reducible assumption
    | intro _
    | with_reducible apply State.deadReads_keeps
    | with_reducible apply State.resetCfg_keeps
    | with_reducible apply State.setRegBit_keeps
    | with_reducible apply State.setReady_keeps
    | with_reducible apply Keeps.ite
    | with_reducible apply Keeps.foldl
    | split
    | dsimp only
    | fail_if_no_progress with_reducible refine Keeps.lit ?_ rfl
    | with_reducible refine Keeps.litDraw ?_ rfl
    | with_reducible refine Keeps.litHost ?_ rfl

theorem State.showLink_keeps {a s : State} (h : Keeps a s) : ∀ x1, Keeps a (State.showLink s x1) := by
  intros
  unfold State.showLink
  try dsimp only
  repeat' first
    | with_reducible assumption
    | intro _
    | refine State.draw_eq_keeps ?_ (by with_reducible assumption)
    | with_reducible apply State.draw_snd_keeps
    | with_reducible apply State.setRegF_keeps
    | with_reducible apply Keeps.ite
    | with_reducible apply Keeps.foldl
    | split
    | dsimp only
    | fail_if_no_progress with_reducible refine Keeps.lit ?_ rfl
    | with_reducible refine Keeps.litDraw ?_ rfl
    | with_reducible refine Keeps.litHost ?_ rfl

theorem State.hostUp_keeps {a s : State} (h : Keeps a s) : ∀ x1, Keeps a (State.hostUp s x1) := by
  intros
  unfold State.hostUp
  try dsimp only
  repeat' first
    | with_reducible assumption
    | intro _
    | with_reducible apply State.showLink_keeps
    | with_reducible apply State.setReady_keeps
    | with_reducible apply State.forAll_keeps
    | with_reducible apply State.emit_keeps
    | with_reducible apply Keeps.ite
    | with_reducible apply Keeps.foldl
    | split
    | dsimp only
    | fail_if_no_progress with_reducible refine Keeps.lit ?_ rfl
    | with_reducible refine Keeps.litDraw ?_ rfl
    | with_reducible refine Keeps.litHost ?_ rfl

theorem State.raiseVector_keeps {a s : State} (h : Keeps a s) : ∀ x1, Keeps a (State.raiseVector s x1) := by
  intros
  unfold State.raiseVector
  try dsimp only
  repeat' first
    | with_reducible assumption
    | intro _
    | with_reducible apply State.emit_keeps
    | with_reducible apply Keeps.ite
    | with_reducible apply Keeps.foldl
    | split
    | dsimp only
    | fail_if_no_progress with_reducible refine Keeps.lit ?_ rfl
    | with_reducible refine Keeps.litDraw ?_ rfl
    | with_reducible refine Keeps.litHost ?_ rfl

theorem State.relay_keeps {a s : State} (h : Keeps a s) : ∀ x1 x2 x3, Keeps a (State.relay s x1 x2 x3) := by
  intros
  unfold State.relay
  try dsimp only
  repeat' first
    | with_reducible assumption
    | intro _
    | with_reducible apply State.count_keeps
    | with_reducible apply State.setReg_keeps
    | with_reducible apply State.raiseVector_keeps
    | with_reducible apply State.writeHost_keeps
    | with_reducible apply Keeps.ite
    | with_reducible apply Keeps.foldl
    | split
    | dsimp only
    | fail_if_no_progress with_reducible refine Keeps.lit ?_ rfl
    | with_reducible refine Keeps.litDraw ?_ rfl
    | with_reducible refine Keeps.litHost ?_ rfl

end Sys2Proof.Machine
end

