-- ==== Sys2Proof/Laws/KeepsReset.lean ====
section
/-! SUPPORT. What each operation of Machine/Reset.lean keeps. -/

namespace Sys2Proof.Machine

set_option linter.unusedTactic false
set_option linter.unreachableTactic false

theorem State.setDomain_keeps {a s : State} (h : Keeps a s) : ∀ x1 x2 x3, Keeps a (State.setDomain s x1 x2 x3) := by
  intros
  unfold State.setDomain
  try dsimp only
  repeat' first
    | with_reducible assumption
    | intro _
    | with_reducible apply State.setRegBit_keeps
    | with_reducible apply Keeps.ite
    | with_reducible apply Keeps.foldl
    | split
    | dsimp only
    | fail_if_no_progress with_reducible refine Keeps.lit ?_ rfl
    | with_reducible refine Keeps.litDraw ?_ rfl
    | with_reducible refine Keeps.litHost ?_ rfl

theorem State.logFaults_keeps {a s : State} (h : Keeps a s) : ∀ x1, Keeps a (State.logFaults s x1) := by
  intros
  unfold State.logFaults
  try dsimp only
  repeat' first
    | with_reducible assumption
    | intro _
    | with_reducible apply State.forAll_keeps
    | with_reducible apply State.logRecord_keeps
    | with_reducible apply Keeps.ite
    | with_reducible apply Keeps.foldl
    | split
    | dsimp only
    | fail_if_no_progress with_reducible refine Keeps.lit ?_ rfl
    | with_reducible refine Keeps.litDraw ?_ rfl
    | with_reducible refine Keeps.litHost ?_ rfl

theorem State.escalate_keeps {a s : State} (h : Keeps a s) : ∀ x1 x2, Keeps a (State.escalate s x1 x2) := by
  intros
  unfold State.escalate
  try dsimp only
  repeat' first
    | with_reducible assumption
    | intro _
    | with_reducible apply State.logEvent_keeps
    | with_reducible apply State.setRegBit_keeps
    | with_reducible apply Keeps.ite
    | with_reducible apply Keeps.foldl
    | split
    | dsimp only
    | fail_if_no_progress with_reducible refine Keeps.lit ?_ rfl
    | with_reducible refine Keeps.litDraw ?_ rfl
    | with_reducible refine Keeps.litHost ?_ rfl

theorem State.noteReset_keeps {a s : State} (h : Keeps a s) : ∀ x1 x2 x3, Keeps a (State.noteReset s x1 x2 x3) := by
  intros
  unfold State.noteReset
  try dsimp only
  repeat' first
    | with_reducible assumption
    | intro _
    | with_reducible apply State.logFaults_keeps
    | with_reducible apply State.logEvent_keeps
    | with_reducible apply State.countWrap_keeps
    | with_reducible apply State.escalate_keeps
    | with_reducible apply Keeps.ite
    | with_reducible apply Keeps.foldl
    | split
    | dsimp only
    | fail_if_no_progress with_reducible refine Keeps.lit ?_ rfl
    | with_reducible refine Keeps.litDraw ?_ rfl
    | with_reducible refine Keeps.litHost ?_ rfl

theorem State.fence_keeps {a s : State} (h : Keeps a s) : ∀ x1, Keeps a (State.fence s x1) := by
  intros
  unfold State.fence
  try dsimp only
  repeat' first
    | with_reducible assumption
    | intro _
    | with_reducible apply State.setDomain_keeps
    | with_reducible apply State.collFenced_keeps
    | with_reducible apply State.loseOverflow_keeps
    | with_reducible apply State.forAll_keeps
    | with_reducible apply State.sendFlush_keeps
    | with_reducible apply Keeps.ite
    | with_reducible apply Keeps.foldl
    | split
    | dsimp only
    | fail_if_no_progress with_reducible refine Keeps.lit ?_ rfl
    | with_reducible refine Keeps.litDraw ?_ rfl
    | with_reducible refine Keeps.litHost ?_ rfl

theorem State.answerNow_keeps {a s : State} (h : Keeps a s) : ∀ x1 x2, Keeps a (State.answerNow s x1 x2) := by
  intros
  unfold State.answerNow
  try dsimp only
  repeat' first
    | with_reducible assumption
    | intro _
    | with_reducible apply State.emit_keeps
    | with_reducible apply Keeps.ite
    | with_reducible apply Keeps.foldl
    | split
    | dsimp only
    | fail_if_no_progress with_reducible refine Keeps.lit ?_ rfl
    | with_reducible refine Keeps.litDraw ?_ rfl
    | with_reducible refine Keeps.litHost ?_ rfl

theorem State.answerAll_keeps {a s : State} (h : Keeps a s) : ∀ x1, Keeps a (State.answerAll s x1) := by
  intros
  unfold State.answerAll
  try dsimp only
  repeat' first
    | with_reducible assumption
    | intro _
    | with_reducible apply State.forAll_keeps
    | with_reducible apply State.setPrism_keeps
    | with_reducible apply State.dropVecs_keeps
    | with_reducible apply State.vecDone_keeps
    | with_reducible apply State.mcAnswer_keeps
    | with_reducible apply State.setRegF_keeps
    | with_reducible apply State.answerNow_keeps
    | with_reducible apply State.finish_keeps
    | with_reducible apply State.cohFail_keeps
    | with_reducible apply State.loseSatchel_keeps
    | with_reducible apply Keeps.ite
    | with_reducible apply Keeps.foldl
    | split
    | dsimp only
    | fail_if_no_progress with_reducible refine Keeps.lit ?_ rfl
    | with_reducible refine Keeps.litDraw ?_ rfl
    | with_reducible refine Keeps.litHost ?_ rfl

theorem State.disown_keeps {a s : State} (h : Keeps a s) : Keeps a (State.disown s) := by
  unfold State.disown
  try dsimp only
  repeat' first
    | with_reducible assumption
    | intro _
    | with_reducible apply Keeps.ite
    | with_reducible apply Keeps.foldl
    | split
    | dsimp only
    | fail_if_no_progress with_reducible refine Keeps.lit ?_ rfl
    | with_reducible refine Keeps.litDraw ?_ rfl
    | with_reducible refine Keeps.litHost ?_ rfl

theorem State.resetPages_keeps {a s : State} (h : Keeps a s) : Keeps a (State.resetPages s) := by
  unfold State.resetPages
  try dsimp only
  repeat' first
    | with_reducible assumption
    | intro _
    | with_reducible apply State.endRun_keeps
    | with_reducible apply State.forAll_keeps
    | with_reducible apply State.setPage_keeps
    | with_reducible apply State.setPageState_keeps
    | with_reducible apply Keeps.ite
    | with_reducible apply Keeps.foldl
    | split
    | dsimp only
    | fail_if_no_progress with_reducible refine Keeps.lit ?_ rfl
    | with_reducible refine Keeps.litDraw ?_ rfl
    | with_reducible refine Keeps.litHost ?_ rfl

theorem State.resetComputeState_keeps {a s : State} (h : Keeps a s) : Keeps a (State.resetComputeState s) := by
  unfold State.resetComputeState
  try dsimp only
  repeat' first
    | with_reducible assumption
    | intro _
    | with_reducible apply State.forAll_keeps
    | with_reducible apply State.disown_keeps
    | with_reducible apply State.resetPages_keeps
    | with_reducible apply State.resetStreams_keeps
    | with_reducible apply State.prismHold_keeps
    | with_reducible apply State.setPrism_keeps
    | with_reducible apply State.setReady_keeps
    | with_reducible apply State.zero_keeps
    | with_reducible apply Keeps.ite
    | with_reducible apply Keeps.foldl
    | split
    | dsimp only
    | fail_if_no_progress with_reducible refine Keeps.lit ?_ rfl
    | with_reducible refine Keeps.litDraw ?_ rfl
    | with_reducible refine Keeps.litHost ?_ rfl

theorem State.resetSwitchState_keeps {a s : State} (h : Keeps a s) : Keeps a (State.resetSwitchState s) := by
  unfold State.resetSwitchState
  try dsimp only
  repeat' first
    | with_reducible assumption
    | intro _
    | with_reducible apply State.setRegF_keeps
    | with_reducible apply State.dropPairs_keeps
    | with_reducible apply State.tellOwner_keeps
    | with_reducible apply State.forAll_keeps
    | with_reducible apply State.elecDown_keeps
    | with_reducible apply State.optDown_keeps
    | with_reducible apply Keeps.ite
    | with_reducible apply Keeps.foldl
    | split
    | dsimp only
    | fail_if_no_progress with_reducible refine Keeps.lit ?_ rfl
    | with_reducible refine Keeps.litDraw ?_ rfl
    | with_reducible refine Keeps.litHost ?_ rfl

theorem State.resetMemoryState_keeps {a s : State} (h : Keeps a s) : Keeps a (State.resetMemoryState s) := by
  unfold State.resetMemoryState
  try dsimp only
  repeat' first
    | with_reducible assumption
    | intro _
    | with_reducible apply State.forAll_keeps
    | with_reducible apply State.setRegBit_keeps
    | with_reducible apply State.setReady_keeps
    | with_reducible apply State.setSeal_keeps
    | with_reducible apply Keeps.ite
    | with_reducible apply Keeps.foldl
    | split
    | dsimp only
    | fail_if_no_progress with_reducible refine Keeps.lit ?_ rfl
    | with_reducible refine Keeps.litDraw ?_ rfl
    | with_reducible refine Keeps.litHost ?_ rfl

theorem State.serveReset_keeps {a s : State} (h : Keeps a s) : ∀ x1 x2 x3, Keeps a (State.serveReset s x1 x2 x3) := by
  intros
  unfold State.serveReset
  try dsimp only
  repeat' first
    | with_reducible assumption
    | intro _
    | with_reducible apply State.fence_keeps
    | with_reducible apply State.noteReset_keeps
    | with_reducible apply Keeps.ite
    | with_reducible apply Keeps.foldl
    | split
    | dsimp only
    | fail_if_no_progress with_reducible refine Keeps.lit ?_ rfl
    | with_reducible refine Keeps.litDraw ?_ rfl
    | with_reducible refine Keeps.litHost ?_ rfl

theorem State.nextReset_keeps {a s : State} (h : Keeps a s) : ∀ k, Keeps a (State.nextReset s  k) := by
  intro k
  induction k generalizing s with
  | zero => exact h
  | succ k ih =>
    unfold State.nextReset
    try dsimp only
    repeat' first
      | with_reducible assumption
      | with_reducible apply ih
      | intro _
      | with_reducible apply State.serveReset_keeps
      | with_reducible apply State.serveReset_keeps
      | with_reducible apply Keeps.ite
      | with_reducible apply Keeps.foldl
      | split
      | dsimp only
      | fail_if_no_progress with_reducible refine Keeps.lit ?_ rfl
      | with_reducible refine Keeps.litDraw ?_ rfl
      | with_reducible refine Keeps.litHost ?_ rfl

theorem State.serveNext_keeps {a s : State} (h : Keeps a s) : Keeps a (State.serveNext s) := by
  unfold State.serveNext
  try dsimp only
  repeat' first
    | with_reducible assumption
    | intro _
    | with_reducible apply State.nextReset_keeps
    | with_reducible apply Keeps.ite
    | with_reducible apply Keeps.foldl
    | split
    | dsimp only
    | fail_if_no_progress with_reducible refine Keeps.lit ?_ rfl
    | with_reducible refine Keeps.litDraw ?_ rfl
    | with_reducible refine Keeps.litHost ?_ rfl

theorem State.freeReset_keeps {a s : State} (h : Keeps a s) : Keeps a (State.freeReset s) := by
  unfold State.freeReset
  try dsimp only
  repeat' first
    | with_reducible assumption
    | intro _
    | with_reducible apply Keeps.ite
    | with_reducible apply Keeps.foldl
    | split
    | dsimp only
    | fail_if_no_progress with_reducible refine Keeps.lit ?_ rfl
    | with_reducible refine Keeps.litDraw ?_ rfl
    | with_reducible refine Keeps.litHost ?_ rfl

theorem State.beginReset_keeps {a s : State} (h : Keeps a s) : ∀ x1, Keeps a (State.beginReset s x1) := by
  intros
  unfold State.beginReset
  try dsimp only
  repeat' first
    | with_reducible assumption
    | intro _
    | with_reducible apply State.resetComputeState_keeps
    | with_reducible apply State.resetSwitchState_keeps
    | with_reducible apply State.resetMemoryState_keeps
    | with_reducible apply State.setDomain_keeps
    | with_reducible apply State.serveNext_keeps
    | with_reducible apply State.freeReset_keeps
    | with_reducible apply Keeps.ite
    | with_reducible apply Keeps.foldl
    | split
    | dsimp only
    | fail_if_no_progress with_reducible refine Keeps.lit ?_ rfl
    | with_reducible refine Keeps.litDraw ?_ rfl
    | with_reducible refine Keeps.litHost ?_ rfl

theorem State.unhold_keeps {a s : State} (h : Keeps a s) : ∀ x1, Keeps a (State.unhold s x1) := by
  intros
  unfold State.unhold
  try dsimp only
  repeat' first
    | with_reducible assumption
    | intro _
    | with_reducible apply State.setRegBit_keeps
    | with_reducible apply Keeps.ite
    | with_reducible apply Keeps.foldl
    | split
    | dsimp only
    | fail_if_no_progress with_reducible refine Keeps.lit ?_ rfl
    | with_reducible refine Keeps.litDraw ?_ rfl
    | with_reducible refine Keeps.litHost ?_ rfl

theorem State.requestReset_keeps {a s : State} (h : Keeps a s) : ∀ x1 x2 x3, Keeps a (State.requestReset s x1 x2 x3) := by
  intros
  unfold State.requestReset
  try dsimp only
  repeat' first
    | with_reducible assumption
    | intro _
    | with_reducible apply State.raise_keeps
    | with_reducible apply State.logEvent_keeps
    | with_reducible apply State.setRegBit_keeps
    | with_reducible apply State.unhold_keeps
    | with_reducible apply State.serveNext_keeps
    | with_reducible apply State.fence_keeps
    | with_reducible apply Keeps.ite
    | with_reducible apply Keeps.foldl
    | split
    | dsimp only
    | fail_if_no_progress with_reducible refine Keeps.lit ?_ rfl
    | with_reducible refine Keeps.litDraw ?_ rfl
    | with_reducible refine Keeps.litHost ?_ rfl

theorem State.endFence_keeps {a s : State} (h : Keeps a s) : ∀ x1 x2, Keeps a (State.endFence s x1 x2) := by
  intros
  unfold State.endFence
  try dsimp only
  repeat' first
    | with_reducible assumption
    | intro _
    | with_reducible apply State.beginReset_keeps
    | with_reducible apply State.answerAll_keeps
    | with_reducible apply Keeps.ite
    | with_reducible apply Keeps.foldl
    | split
    | dsimp only
    | fail_if_no_progress with_reducible refine Keeps.lit ?_ rfl
    | with_reducible refine Keeps.litDraw ?_ rfl
    | with_reducible refine Keeps.litHost ?_ rfl

theorem State.loaderStarts_keeps {a s : State} (h : Keeps a s) : Keeps a (State.loaderStarts s) := by
  unfold State.loaderStarts
  try dsimp only
  repeat' first
    | with_reducible assumption
    | intro _
    | with_reducible apply State.forAll_keeps
    | with_reducible apply State.setPageState_keeps
    | with_reducible apply Keeps.ite
    | with_reducible apply Keeps.foldl
    | split
    | dsimp only
    | fail_if_no_progress with_reducible refine Keeps.lit ?_ rfl
    | with_reducible refine Keeps.litDraw ?_ rfl
    | with_reducible refine Keeps.litHost ?_ rfl

theorem State.endReset_keeps {a s : State} (h : Keeps a s) : ∀ x1, Keeps a (State.endReset s x1) := by
  intros
  unfold State.endReset
  try dsimp only
  repeat' first
    | with_reducible assumption
    | intro _
    | with_reducible apply State.setDomain_keeps
    | with_reducible apply State.forAll_keeps
    | with_reducible apply State.setReady_keeps
    | with_reducible apply State.applyBuffers_keeps
    | with_reducible apply State.elecStart_keeps
    | with_reducible apply State.optStart_keeps
    | with_reducible apply State.serveNext_keeps
    | with_reducible apply State.loaderStarts_keeps
    | with_reducible apply Keeps.ite
    | with_reducible apply Keeps.foldl
    | split
    | dsimp only
    | fail_if_no_progress with_reducible refine Keeps.lit ?_ rfl
    | with_reducible refine Keeps.litDraw ?_ rfl
    | with_reducible refine Keeps.litHost ?_ rfl

theorem State.completeReset_keeps {a s : State} (h : Keeps a s) : ∀ x1, Keeps a (State.completeReset s x1) := by
  intros
  unfold State.completeReset
  try dsimp only
  repeat' first
    | with_reducible assumption
    | intro _
    | with_reducible apply State.endReset_keeps
    | with_reducible apply Keeps.ite
    | with_reducible apply Keeps.foldl
    | split
    | dsimp only
    | fail_if_no_progress with_reducible refine Keeps.lit ?_ rfl
    | with_reducible refine Keeps.litDraw ?_ rfl
    | with_reducible refine Keeps.litHost ?_ rfl

theorem State.moduleReset_keeps {a s : State} (h : Keeps a s) : ∀ x, Keeps a (State.moduleReset s x) := by
  intro keep
  have ht : Keeps s (s.forAll ((List.range 64).filter (fun i => (s.sealEntry i).2.2.2.2 ≠ 0)) (fun s i =>
      s.scrubRange (s.sealEntry i).1 (s.sealEntry i).2.1)) :=
    State.forAll_keeps (Keeps.refl s) (fun t x ht => State.scrubRange_keeps ht _ _)
  refine h.trans ?_
  unfold State.moduleReset
  dsimp only
  exact { queue := rfl, now := rfl, host := id, svn := by simp [State.svn], out := List.suffix_refl _, draws := Nat.le_refl _,
          mem := fun k => by
            dsimp only
            split
            · exact tableOk_filter _ _ _ (ht.mem k)
            · rfl }

theorem State.railFault_keeps {a s : State} (h : Keeps a s) : ∀ x1, Keeps a (State.railFault s x1) := by
  intros
  unfold State.railFault
  try dsimp only
  repeat' first
    | with_reducible assumption
    | intro _
    | with_reducible apply State.moduleReset_keeps
    | with_reducible apply State.emit_keeps
    | with_reducible apply Keeps.ite
    | with_reducible apply Keeps.foldl
    | split
    | dsimp only
    | fail_if_no_progress with_reducible refine Keeps.lit ?_ rfl
    | with_reducible refine Keeps.litDraw ?_ rfl
    | with_reducible refine Keeps.litHost ?_ rfl

theorem State.startUp_keeps {a s : State} (h : Keeps a s) : ∀ x1, Keeps a (State.startUp s x1) := by
  intros
  unfold State.startUp
  try dsimp only
  repeat' first
    | with_reducible assumption
    | intro _
    | with_reducible apply State.moduleReset_keeps
    | with_reducible apply State.emit_keeps
    | with_reducible apply State.setRegBit_keeps
    | with_reducible apply State.logEvent_keeps
    | with_reducible apply Keeps.ite
    | with_reducible apply Keeps.foldl
    | split
    | dsimp only
    | fail_if_no_progress with_reducible refine Keeps.lit ?_ rfl
    | with_reducible refine Keeps.litDraw ?_ rfl
    | with_reducible refine Keeps.litHost ?_ rfl

theorem State.restartPort_keeps {a s : State} (h : Keeps a s) : ∀ x1, Keeps a (State.restartPort s x1) := by
  intros
  unfold State.restartPort
  try dsimp only
  repeat' first
    | with_reducible assumption
    | intro _
    | with_reducible apply State.signalLost_keeps
    | with_reducible apply State.elecStart_keeps
    | with_reducible apply State.optStart_keeps
    | with_reducible apply Keeps.ite
    | with_reducible apply Keeps.foldl
    | split
    | dsimp only
    | fail_if_no_progress with_reducible refine Keeps.lit ?_ rfl
    | with_reducible refine Keeps.litDraw ?_ rfl
    | with_reducible refine Keeps.litHost ?_ rfl

theorem State.thermWarn_keeps {a s : State} (h : Keeps a s) : ∀ x1, Keeps a (State.thermWarn s x1) := by
  intros
  unfold State.thermWarn
  try dsimp only
  repeat' first
    | with_reducible assumption
    | intro _
    | with_reducible apply State.raise_keeps
    | with_reducible apply State.logEvent_keeps
    | with_reducible apply State.setRegBit_keeps
    | with_reducible apply Keeps.ite
    | with_reducible apply Keeps.foldl
    | split
    | dsimp only
    | fail_if_no_progress with_reducible refine Keeps.lit ?_ rfl
    | with_reducible refine Keeps.litDraw ?_ rfl
    | with_reducible refine Keeps.litHost ?_ rfl

theorem State.prismHeat_keeps {a s : State} (h : Keeps a s) : ∀ x1 x2, Keeps a (State.prismHeat s x1 x2) := by
  intros
  unfold State.prismHeat
  try dsimp only
  repeat' first
    | with_reducible assumption
    | intro _
    | with_reducible apply State.setReg_keeps
    | with_reducible apply State.prismHold_keeps
    | with_reducible apply State.setPrism_keeps
    | with_reducible apply Keeps.ite
    | with_reducible apply Keeps.foldl
    | split
    | dsimp only
    | fail_if_no_progress with_reducible refine Keeps.lit ?_ rfl
    | with_reducible refine Keeps.litDraw ?_ rfl
    | with_reducible refine Keeps.litHost ?_ rfl

theorem State.readJunctions_keeps {a s : State} (h : Keeps a s) : ∀ x1, Keeps a (State.readJunctions s x1) := by
  intros
  unfold State.readJunctions
  try dsimp only
  repeat' first
    | with_reducible assumption
    | intro _
    | with_reducible apply State.thermWarn_keeps
    | with_reducible apply State.setRegF_keeps
    | with_reducible apply State.causeChanged_keeps
    | with_reducible apply State.dropUnserved_keeps
    | with_reducible apply State.forAll_keeps
    | with_reducible apply State.prismHeat_keeps
    | with_reducible apply State.requestReset_keeps
    | with_reducible apply State.setRegBit_keeps
    | with_reducible apply State.serveNext_keeps
    | with_reducible apply State.freeReset_keeps
    | with_reducible apply Keeps.ite
    | with_reducible apply Keeps.foldl
    | split
    | dsimp only
    | fail_if_no_progress with_reducible refine Keeps.lit ?_ rfl
    | with_reducible refine Keeps.litDraw ?_ rfl
    | with_reducible refine Keeps.litHost ?_ rfl

theorem State.releaseHold_keeps {a s : State} (h : Keeps a s) : Keeps a (State.releaseHold s) := by
  unfold State.releaseHold
  try dsimp only
  repeat' first
    | with_reducible assumption
    | intro _
    | with_reducible apply State.setRegBit_keeps
    | with_reducible apply State.endReset_keeps
    | with_reducible apply Keeps.ite
    | with_reducible apply Keeps.foldl
    | split
    | dsimp only
    | fail_if_no_progress with_reducible refine Keeps.lit ?_ rfl
    | with_reducible refine Keeps.litDraw ?_ rfl
    | with_reducible refine Keeps.litHost ?_ rfl

theorem State.trip_keeps {a s : State} (h : Keeps a s) : Keeps a (State.trip s) := by
  unfold State.trip
  try dsimp only
  repeat' first
    | with_reducible assumption
    | intro _
    | with_reducible apply State.emit_keeps
    | with_reducible apply State.forAll_keeps
    | with_reducible apply State.elecDown_keeps
    | with_reducible apply State.optDown_keeps
    | with_reducible apply State.setOpt_keeps
    | with_reducible apply Keeps.ite
    | with_reducible apply Keeps.foldl
    | split
    | dsimp only
    | fail_if_no_progress with_reducible refine Keeps.lit ?_ rfl
    | with_reducible refine Keeps.litDraw ?_ rfl
    | with_reducible refine Keeps.litHost ?_ rfl

theorem State.powerWindow_keeps {a s : State} (h : Keeps a s) : ∀ x1, Keeps a (State.powerWindow s x1) := by
  intros
  unfold State.powerWindow
  try dsimp only
  repeat' first
    | with_reducible assumption
    | intro _
    | with_reducible apply State.setRegF_keeps
    | with_reducible apply State.setRegBit_keeps
    | with_reducible apply State.raise_keeps
    | with_reducible apply Keeps.ite
    | with_reducible apply Keeps.foldl
    | split
    | dsimp only
    | fail_if_no_progress with_reducible refine Keeps.lit ?_ rfl
    | with_reducible refine Keeps.litDraw ?_ rfl
    | with_reducible refine Keeps.litHost ?_ rfl

theorem State.limitReset_keeps {a s : State} (h : Keeps a s) : Keeps a (State.limitReset s) := by
  unfold State.limitReset
  try dsimp only
  repeat' first
    | with_reducible assumption
    | intro _
    | with_reducible apply State.requestReset_keeps
    | with_reducible apply Keeps.ite
    | with_reducible apply Keeps.foldl
    | split
    | dsimp only
    | fail_if_no_progress with_reducible refine Keeps.lit ?_ rfl
    | with_reducible refine Keeps.litDraw ?_ rfl
    | with_reducible refine Keeps.litHost ?_ rfl

theorem State.resetRow_keeps {a s : State} (h : Keeps a s) : ∀ x1 x2, Keeps a (State.resetRow s x1 x2) := by
  intros
  unfold State.resetRow
  try dsimp only
  repeat' first
    | with_reducible assumption
    | intro _
    | with_reducible apply State.bar0_keeps
    | with_reducible apply State.requestReset_keeps
    | with_reducible apply Keeps.ite
    | with_reducible apply Keeps.foldl
    | split
    | dsimp only
    | fail_if_no_progress with_reducible refine Keeps.lit ?_ rfl
    | with_reducible refine Keeps.litDraw ?_ rfl
    | with_reducible refine Keeps.litHost ?_ rfl

theorem State.bellWithheld_keeps {a s : State} (h : Keeps a s) : Keeps a (State.bellWithheld s) := by
  unfold State.bellWithheld
  try dsimp only
  repeat' first
    | with_reducible assumption
    | intro _
    | with_reducible apply Keeps.ite
    | with_reducible apply Keeps.foldl
    | split
    | dsimp only
    | fail_if_no_progress with_reducible refine Keeps.lit ?_ rfl
    | with_reducible refine Keeps.litDraw ?_ rfl
    | with_reducible refine Keeps.litHost ?_ rfl

end Sys2Proof.Machine
end

