-- ==== Sys2Proof/Laws/KeepsPrincipal.lean ====
section
/-! SUPPORT. What each operation of Machine/Principal.lean keeps. -/

namespace Sys2Proof.Machine

set_option linter.unusedTactic false
set_option linter.unreachableTactic false

theorem State.gbFlush_keeps {a s : State} (h : Keeps a s) : Keeps a (State.gbFlush s) := by
  unfold State.gbFlush
  try dsimp only
  repeat' first
    | with_reducible assumption
    | intro _
    | with_reducible apply State.forAll_keeps
    | with_reducible apply State.retireNow_keeps
    | with_reducible apply State.recalStart_keeps
    | with_reducible apply State.setOpt_keeps
    | with_reducible apply Keeps.ite
    | with_reducible apply Keeps.foldl
    | split
    | dsimp only
    | fail_if_no_progress with_reducible refine Keeps.lit ?_ rfl
    | with_reducible refine Keeps.litDraw ?_ rfl
    | with_reducible refine Keeps.litHost ?_ rfl

theorem State.mailEnd_keeps {a s : State} (h : Keeps a s) : ∀ x1 x2, Keeps a (State.mailEnd s x1 x2) := by
  intros
  unfold State.mailEnd
  try dsimp only
  repeat' first
    | with_reducible assumption
    | intro _
    | with_reducible apply State.setRegF_keeps
    | with_reducible apply State.gbFlush_keeps
    | with_reducible apply State.raise_keeps
    | with_reducible apply State.setRegBit_keeps
    | with_reducible apply Keeps.ite
    | with_reducible apply Keeps.foldl
    | split
    | dsimp only
    | fail_if_no_progress with_reducible refine Keeps.lit ?_ rfl
    | with_reducible refine Keeps.litDraw ?_ rfl
    | with_reducible refine Keeps.litHost ?_ rfl

theorem State.freeNum_snd_keeps {a s : State} (h : Keeps a s) : ∀ x1, Keeps a (State.freeNum s x1).2 := by
  intros
  unfold State.freeNum
  try dsimp only
  repeat' first
    | with_reducible assumption
    | intro _
    | with_reducible apply Keeps.ite
    | with_reducible apply Keeps.foldl
    | split
    | dsimp only
    | fail_if_no_progress with_reducible refine Keeps.lit ?_ rfl
    | with_reducible refine Keeps.litDraw ?_ rfl
    | with_reducible refine Keeps.litHost ?_ rfl

theorem State.freeNum_eq_keeps {a s t : State} (h : Keeps a s) {x1 y0} (e : State.freeNum s x1 = (y0, t)) : Keeps a t := by
  have k := State.freeNum_snd_keeps h x1
  rw [e] at k; exact k

theorem State.mailFail_keeps {a s : State} (h : Keeps a s) : ∀ x1, Keeps a (State.mailFail s x1) := by
  intros
  unfold State.mailFail
  try dsimp only
  repeat' first
    | with_reducible assumption
    | intro _
    | refine State.freeNum_eq_keeps ?_ (by with_reducible assumption)
    | with_reducible apply State.freeNum_snd_keeps
    | with_reducible apply State.mailEnd_keeps
    | with_reducible apply Keeps.ite
    | with_reducible apply Keeps.foldl
    | split
    | dsimp only
    | fail_if_no_progress with_reducible refine Keeps.lit ?_ rfl
    | with_reducible refine Keeps.litDraw ?_ rfl
    | with_reducible refine Keeps.litHost ?_ rfl

theorem State.gbExport_keeps {a s : State} (h : Keeps a s) : Keeps a (State.gbExport s) := by
  unfold State.gbExport
  try dsimp only
  repeat' first
    | with_reducible assumption
    | intro _
    | with_reducible apply State.mailFail_keeps
    | with_reducible apply State.mailEnd_keeps
    | with_reducible apply State.setRegBit_keeps
    | with_reducible apply State.poke_keeps
    | with_reducible apply Keeps.ite
    | with_reducible apply Keeps.foldl
    | split
    | dsimp only
    | fail_if_no_progress with_reducible refine Keeps.lit ?_ rfl
    | with_reducible refine Keeps.litDraw ?_ rfl
    | with_reducible refine Keeps.litHost ?_ rfl

theorem State.gbInstall_keeps {a s : State} (h : Keeps a s) : ∀ x1 x2 x3, Keeps a (State.gbInstall s x1 x2 x3) := by
  intros
  unfold State.gbInstall
  try dsimp only
  repeat' first
    | with_reducible assumption
    | intro _
    | with_reducible apply State.gbWrite_keeps
    | with_reducible apply Keeps.ite
    | with_reducible apply Keeps.foldl
    | split
    | dsimp only
    | fail_if_no_progress with_reducible refine Keeps.lit ?_ rfl
    | with_reducible refine Keeps.litDraw ?_ rfl
    | with_reducible refine Keeps.litHost ?_ rfl

theorem State.gbImport_keeps {a s : State} (h : Keeps a s) : Keeps a (State.gbImport s) := by
  unfold State.gbImport
  try dsimp only
  repeat' first
    | with_reducible assumption
    | intro _
    | with_reducible apply State.mailEnd_keeps
    | with_reducible apply State.forAll_keeps
    | with_reducible apply State.gbInstall_keeps
    | with_reducible apply State.setRegBit_keeps
    | with_reducible apply Keeps.ite
    | with_reducible apply Keeps.foldl
    | split
    | dsimp only
    | fail_if_no_progress with_reducible refine Keeps.lit ?_ rfl
    | with_reducible refine Keeps.litDraw ?_ rfl
    | with_reducible refine Keeps.litHost ?_ rfl

theorem State.commit_snd_keeps {a s : State} (h : Keeps a s) : Keeps a (State.commit s).2 := by
  unfold State.commit
  try dsimp only
  repeat' first
    | with_reducible assumption
    | intro _
    | with_reducible apply State.forAll_keeps
    | with_reducible apply State.gbWrite_keeps
    | with_reducible apply State.setRegF_keeps
    | with_reducible apply Keeps.ite
    | with_reducible apply Keeps.foldl
    | split
    | dsimp only
    | fail_if_no_progress with_reducible refine Keeps.lit ?_ rfl
    | with_reducible refine Keeps.litDraw ?_ rfl
    | with_reducible refine Keeps.litHost ?_ rfl

theorem State.commit_eq_keeps {a s t : State} (h : Keeps a s) {y0} (e : State.commit s = (y0, t)) : Keeps a t := by
  have k := State.commit_snd_keeps h
  rw [e] at k; exact k

theorem State.gbCommit_keeps {a s : State} (h : Keeps a s) : Keeps a (State.gbCommit s) := by
  unfold State.gbCommit
  try dsimp only
  repeat' first
    | with_reducible assumption
    | intro _
    | refine State.commit_eq_keeps ?_ (by with_reducible assumption)
    | with_reducible apply State.commit_snd_keeps
    | with_reducible apply State.mailEnd_keeps
    | with_reducible apply Keeps.ite
    | with_reducible apply Keeps.foldl
    | split
    | dsimp only
    | fail_if_no_progress with_reducible refine Keeps.lit ?_ rfl
    | with_reducible refine Keeps.litDraw ?_ rfl
    | with_reducible refine Keeps.litHost ?_ rfl

theorem State.fwChunk_keeps {a s : State} (h : Keeps a s) : Keeps a (State.fwChunk s) := by
  unfold State.fwChunk
  try dsimp only
  repeat' first
    | with_reducible assumption
    | intro _
    | with_reducible apply State.mailFail_keeps
    | with_reducible apply State.mailEnd_keeps
    | with_reducible apply Keeps.ite
    | with_reducible apply Keeps.foldl
    | split
    | dsimp only
    | fail_if_no_progress with_reducible refine Keeps.lit ?_ rfl
    | with_reducible refine Keeps.litDraw ?_ rfl
    | with_reducible refine Keeps.litHost ?_ rfl

theorem State.fwPrefer_keeps {a s : State} (h : Keeps a s) : Keeps a (State.fwPrefer s) := by
  unfold State.fwPrefer
  try dsimp only
  repeat' first
    | with_reducible assumption
    | intro _
    | with_reducible apply State.mailEnd_keeps
    | with_reducible apply Keeps.ite
    | with_reducible apply Keeps.foldl
    | split
    | dsimp only
    | fail_if_no_progress with_reducible refine Keeps.lit ?_ rfl
    | with_reducible refine Keeps.litDraw ?_ rfl
    | with_reducible refine Keeps.litHost ?_ rfl

theorem State.svnRaise_keeps {a s : State} (h : Keeps a s) : Keeps a (State.svnRaise s) := by
  unfold State.svnRaise
  split
  · exact State.mailEnd_keeps h _ _
  · rename_i hlt
    refine State.mailEnd_keeps (h.trans ?_) _ _
    exact { Keeps.refl s with svn := by simp only [State.svn, Option.getD_some] at hlt ⊢; omega }

theorem State.runPrin_keeps {a s : State} (h : Keeps a s) : ∀ x1, Keeps a (State.runPrin s x1) := by
  intros
  unfold State.runPrin
  try dsimp only
  repeat' first
    | with_reducible assumption
    | intro _
    | with_reducible apply State.secAttest_keeps
    | with_reducible apply State.secImport_keeps
    | with_reducible apply State.clearSlot_keeps
    | with_reducible apply State.sealCreate_keeps
    | with_reducible apply State.teardown_keeps
    | with_reducible apply State.mailFail_keeps
    | with_reducible apply State.gbExport_keeps
    | with_reducible apply State.gbImport_keeps
    | with_reducible apply State.gbCommit_keeps
    | with_reducible apply State.fwChunk_keeps
    | with_reducible apply State.fwPrefer_keeps
    | with_reducible apply State.svnRaise_keeps
    | with_reducible apply State.mailEnd_keeps
    | with_reducible apply Keeps.ite
    | with_reducible apply Keeps.foldl
    | split
    | dsimp only
    | fail_if_no_progress with_reducible refine Keeps.lit ?_ rfl
    | with_reducible refine Keeps.litDraw ?_ rfl
    | with_reducible refine Keeps.litHost ?_ rfl

theorem State.mail_keeps {a s : State} (h : Keeps a s) : ∀ x1, Keeps a (State.mail s x1) := by
  intros
  unfold State.mail
  try dsimp only
  repeat' first
    | with_reducible assumption
    | intro _
    | with_reducible apply State.setRegBit_keeps
    | with_reducible apply State.runPrin_keeps
    | with_reducible apply Keeps.ite
    | with_reducible apply Keeps.foldl
    | split
    | dsimp only
    | fail_if_no_progress with_reducible refine Keeps.lit ?_ rfl
    | with_reducible refine Keeps.litDraw ?_ rfl
    | with_reducible refine Keeps.litHost ?_ rfl

theorem State.principalUp_keeps {a s : State} (h : Keeps a s) : Keeps a (State.principalUp s) := by
  unfold State.principalUp
  try dsimp only
  repeat' first
    | with_reducible assumption
    | intro _
    | with_reducible apply State.setReady_keeps
    | with_reducible apply State.forAll_keeps
    | with_reducible apply State.setRegBit_keeps
    | with_reducible apply State.runPrin_keeps
    | with_reducible apply Keeps.ite
    | with_reducible apply Keeps.foldl
    | split
    | dsimp only
    | fail_if_no_progress with_reducible refine Keeps.lit ?_ rfl
    | with_reducible refine Keeps.litDraw ?_ rfl
    | with_reducible refine Keeps.litHost ?_ rfl

theorem State.startLinks_keeps {a s : State} (h : Keeps a s) : Keeps a (State.startLinks s) := by
  unfold State.startLinks
  try dsimp only
  repeat' first
    | with_reducible assumption
    | intro _
    | with_reducible apply State.forAll_keeps
    | with_reducible apply State.elecStart_keeps
    | with_reducible apply State.optStart_keeps
    | with_reducible apply Keeps.ite
    | with_reducible apply Keeps.foldl
    | split
    | dsimp only
    | fail_if_no_progress with_reducible refine Keeps.lit ?_ rfl
    | with_reducible refine Keeps.litDraw ?_ rfl
    | with_reducible refine Keeps.litHost ?_ rfl

theorem State.measure_keeps {a s : State} (h : Keeps a s) : ∀ x1 x2, Keeps a (State.measure s x1 x2) := by
  intros
  unfold State.measure
  try dsimp only
  repeat' first
    | with_reducible assumption
    | intro _
    | with_reducible apply State.putRegs_keeps
    | with_reducible apply Keeps.ite
    | with_reducible apply Keeps.foldl
    | split
    | dsimp only
    | fail_if_no_progress with_reducible refine Keeps.lit ?_ rfl
    | with_reducible refine Keeps.litDraw ?_ rfl
    | with_reducible refine Keeps.litHost ?_ rfl

theorem State.refuseBank_keeps {a s : State} (h : Keeps a s) : Keeps a (State.refuseBank s) := by
  unfold State.refuseBank
  try dsimp only
  repeat' first
    | with_reducible assumption
    | intro _
    | with_reducible apply State.setRegBit_keeps
    | with_reducible apply State.forAll_keeps
    | with_reducible apply State.setReg_keeps
    | with_reducible apply Keeps.ite
    | with_reducible apply Keeps.foldl
    | split
    | dsimp only
    | fail_if_no_progress with_reducible refine Keeps.lit ?_ rfl
    | with_reducible refine Keeps.litDraw ?_ rfl
    | with_reducible refine Keeps.litHost ?_ rfl

theorem State.bootStage_keeps {a s : State} (h : Keeps a s) : ∀ x1 x2, Keeps a (State.bootStage s x1 x2) := by
  intros
  unfold State.bootStage
  try dsimp only
  repeat' first
    | with_reducible assumption
    | intro _
    | with_reducible apply State.principalUp_keeps
    | with_reducible apply State.measure_keeps
    | with_reducible apply State.refuseBank_keeps
    | with_reducible apply State.startLinks_keeps
    | with_reducible apply Keeps.ite
    | with_reducible apply Keeps.foldl
    | split
    | dsimp only
    | fail_if_no_progress with_reducible refine Keeps.lit ?_ rfl
    | with_reducible refine Keeps.litDraw ?_ rfl
    | with_reducible refine Keeps.litHost ?_ rfl

end Sys2Proof.Machine
end

