-- ==== Sys2Proof/Laws/KeepsRegWrite.lean ====
section
/-! SUPPORT. What each operation of Machine/RegWrite.lean keeps. -/

namespace Sys2Proof.Machine

set_option linter.unusedTactic false
set_option linter.unreachableTactic false

theorem State.settleRead_keeps {a s : State} (h : Keeps a s) : ∀ x1, Keeps a (State.settleRead s x1) := by
  intros
  unfold State.settleRead
  try dsimp only
  repeat' first
    | with_reducible assumption
    | intro _
    | with_reducible apply State.countBits_keeps
    | with_reducible apply Keeps.ite
    | with_reducible apply Keeps.foldl
    | split
    | dsimp only
    | fail_if_no_progress with_reducible refine Keeps.lit ?_ rfl
    | with_reducible refine Keeps.litDraw ?_ rfl
    | with_reducible refine Keeps.litHost ?_ rfl

theorem State.writeFields_keeps {a s : State} {report : State → State} (h : Keeps a s) (hr : ∀ t, Keeps a t → Keeps a (report t)) :
    ∀ x v m ok, Keeps a (State.writeFields s x v m ok report) := by
  intro x v m ok
  unfold State.writeFields
  split
  · exact State.writePlain_keeps h _ _ _
  · exact hr s h

theorem ignored_keeps {a s : State} (h : Keeps a s) : Keeps a (ignored s) := by
  unfold ignored
  try dsimp only
  repeat' first
    | with_reducible assumption
    | intro _
    | with_reducible apply Keeps.ite
    | with_reducible apply Keeps.foldl
    | split
    | dsimp only
    | fail_if_no_progress with_reducible refine Keeps.lit ?_ rfl
    | with_reducible refine Keeps.litDraw ?_ rfl
    | with_reducible refine Keeps.litHost ?_ rfl

theorem State.keepLatch_keeps {a s : State} (h : Keeps a s) : ∀ x1 x2 x3, Keeps a (State.keepLatch s x1 x2 x3) := by
  intros
  unfold State.keepLatch
  try dsimp only
  repeat' first
    | with_reducible assumption
    | intro _
    | with_reducible apply Keeps.ite
    | with_reducible apply Keeps.foldl
    | split
    | dsimp only
    | fail_if_no_progress with_reducible refine Keeps.lit ?_ rfl
    | with_reducible refine Keeps.litDraw ?_ rfl
    | with_reducible refine Keeps.litHost ?_ rfl

theorem State.writeGlb_keeps {a s : State} (h : Keeps a s) : ∀ x1 x2 x3, Keeps a (State.writeGlb s x1 x2 x3) := by
  intros
  unfold State.writeGlb
  try dsimp only
  repeat' first
    | with_reducible assumption
    | intro _
    | with_reducible apply State.writeNode_keeps
    | with_reducible apply State.setRegBit_keeps
    | with_reducible apply State.partSwapFree_keeps
    | with_reducible apply State.writePlain_keeps
    | with_reducible apply State.writeScrub_keeps
    | with_reducible apply State.writeCohortState_keeps
    | with_reducible apply Keeps.ite
    | with_reducible apply Keeps.foldl
    | split
    | dsimp only
    | fail_if_no_progress with_reducible refine Keeps.lit ?_ rfl
    | with_reducible refine Keeps.litDraw ?_ rfl
    | with_reducible refine Keeps.litHost ?_ rfl

theorem State.writeBell_keeps {a s : State} (h : Keeps a s) : ∀ x1 x2 x3, Keeps a (State.writeBell s x1 x2 x3) := by
  intros
  unfold State.writeBell
  try dsimp only
  repeat' first
    | with_reducible assumption
    | intro _
    | with_reducible apply State.writeBellCtl_keeps
    | with_reducible apply State.writeLessonLen_keeps
    | with_reducible apply State.writeGuard_keeps
    | with_reducible apply State.writeLead_keeps
    | with_reducible apply State.writeFields_keeps
    | with_reducible apply State.bellCfgErr_keeps
    | refine State.draw_eq_keeps ?_ (by with_reducible assumption)
    | with_reducible apply State.draw_snd_keeps
    | with_reducible apply State.postPage_keeps
    | with_reducible apply State.writePlain_keeps
    | with_reducible apply Keeps.ite
    | with_reducible apply Keeps.foldl
    | split
    | dsimp only
    | fail_if_no_progress with_reducible refine Keeps.lit ?_ rfl
    | with_reducible refine Keeps.litDraw ?_ rfl
    | with_reducible refine Keeps.litHost ?_ rfl

theorem State.writeRst_keeps {a s : State} (h : Keeps a s) : ∀ x1 x2 x3, Keeps a (State.writeRst s x1 x2 x3) := by
  intros
  unfold State.writeRst
  try dsimp only
  repeat' first
    | with_reducible assumption
    | intro _
    | with_reducible apply State.requestReset_keeps
    | with_reducible apply State.writeFields_keeps
    | with_reducible apply ignored_keeps
    | with_reducible apply State.writePlain_keeps
    | with_reducible apply Keeps.ite
    | with_reducible apply Keeps.foldl
    | split
    | dsimp only
    | fail_if_no_progress with_reducible refine Keeps.lit ?_ rfl
    | with_reducible refine Keeps.litDraw ?_ rfl
    | with_reducible refine Keeps.litHost ?_ rfl

theorem State.prinErr_keeps {a s : State} (h : Keeps a s) : Keeps a (State.prinErr s) := by
  unfold State.prinErr
  try dsimp only
  repeat' first
    | with_reducible assumption
    | intro _
    | with_reducible apply State.setRegBit_keeps
    | with_reducible apply Keeps.ite
    | with_reducible apply Keeps.foldl
    | split
    | dsimp only
    | fail_if_no_progress with_reducible refine Keeps.lit ?_ rfl
    | with_reducible refine Keeps.litDraw ?_ rfl
    | with_reducible refine Keeps.litHost ?_ rfl

theorem State.writePrin_keeps {a s : State} (h : Keeps a s) : ∀ x1 x2 x3, Keeps a (State.writePrin s x1 x2 x3) := by
  intros
  unfold State.writePrin
  try dsimp only
  repeat' first
    | with_reducible assumption
    | intro _
    | with_reducible apply State.mail_keeps
    | with_reducible apply State.writeFields_keeps
    | with_reducible apply State.prinErr_keeps
    | with_reducible apply State.writePlain_keeps
    | with_reducible apply Keeps.ite
    | with_reducible apply Keeps.foldl
    | split
    | dsimp only
    | fail_if_no_progress with_reducible refine Keeps.lit ?_ rfl
    | with_reducible refine Keeps.litDraw ?_ rfl
    | with_reducible refine Keeps.litHost ?_ rfl

theorem State.writeSeal_keeps {a s : State} (h : Keeps a s) : ∀ x1 x2 x3, Keeps a (State.writeSeal s x1 x2 x3) := by
  intros
  unfold State.writeSeal
  try dsimp only
  repeat' first
    | with_reducible assumption
    | intro _
    | with_reducible apply State.writePlain_keeps
    | with_reducible apply State.viaPrincipal_keeps
    | with_reducible apply State.sealCreate_keeps
    | with_reducible apply State.setReg_keeps
    | with_reducible apply Keeps.ite
    | with_reducible apply Keeps.foldl
    | split
    | dsimp only
    | fail_if_no_progress with_reducible refine Keeps.lit ?_ rfl
    | with_reducible refine Keeps.litDraw ?_ rfl
    | with_reducible refine Keeps.litHost ?_ rfl

theorem State.writeSec_keeps {a s : State} (h : Keeps a s) : ∀ x1 x2 x3, Keeps a (State.writeSec s x1 x2 x3) := by
  intros
  unfold State.writeSec
  try dsimp only
  repeat' first
    | with_reducible assumption
    | intro _
    | with_reducible apply State.viaPrincipal_keeps
    | with_reducible apply State.secAttest_keeps
    | with_reducible apply State.keepLatch_keeps
    | with_reducible apply State.secImport_keeps
    | with_reducible apply State.clearSlot_keeps
    | with_reducible apply State.writeSeal_keeps
    | with_reducible apply State.teardown_keeps
    | with_reducible apply State.writePlain_keeps
    | with_reducible apply Keeps.ite
    | with_reducible apply Keeps.foldl
    | split
    | dsimp only
    | fail_if_no_progress with_reducible refine Keeps.lit ?_ rfl
    | with_reducible refine Keeps.litDraw ?_ rfl
    | with_reducible refine Keeps.litHost ?_ rfl

theorem State.xltErr_keeps {a s : State} (h : Keeps a s) : Keeps a (State.xltErr s) := by
  unfold State.xltErr
  try dsimp only
  repeat' first
    | with_reducible assumption
    | intro _
    | with_reducible apply State.setRegBit_keeps
    | with_reducible apply Keeps.ite
    | with_reducible apply Keeps.foldl
    | split
    | dsimp only
    | fail_if_no_progress with_reducible refine Keeps.lit ?_ rfl
    | with_reducible refine Keeps.litDraw ?_ rfl
    | with_reducible refine Keeps.litHost ?_ rfl

theorem State.writeXlt_keeps {a s : State} (h : Keeps a s) : ∀ x1 x2 x3, Keeps a (State.writeXlt s x1 x2 x3) := by
  intros
  unfold State.writeXlt
  try dsimp only
  repeat' first
    | with_reducible assumption
    | intro _
    | with_reducible apply State.writeFields_keeps
    | with_reducible apply State.xltErr_keeps
    | with_reducible apply State.writePlain_keeps
    | with_reducible apply State.startInval_keeps
    | with_reducible apply ignored_keeps
    | with_reducible apply State.loaderAgain_keeps
    | with_reducible apply State.writeFltTail_keeps
    | with_reducible apply State.fltResume_keeps
    | with_reducible apply State.badResume_keeps
    | with_reducible apply Keeps.ite
    | with_reducible apply Keeps.foldl
    | split
    | dsimp only
    | fail_if_no_progress with_reducible refine Keeps.lit ?_ rfl
    | with_reducible refine Keeps.litDraw ?_ rfl
    | with_reducible refine Keeps.litHost ?_ rfl

theorem State.writeCoh_keeps {a s : State} (h : Keeps a s) : ∀ x1 x2 x3, Keeps a (State.writeCoh s x1 x2 x3) := by
  intros
  unfold State.writeCoh
  try dsimp only
  repeat' first
    | with_reducible assumption
    | intro _
    | with_reducible apply State.writeMembers_keeps
    | with_reducible apply State.lineRelease_keeps
    | with_reducible apply State.portRelease_keeps
    | with_reducible apply State.writeFields_keeps
    | with_reducible apply ignored_keeps
    | with_reducible apply State.forAll_keeps
    | with_reducible apply State.writeMcOwner_keeps
    | with_reducible apply State.writePlain_keeps
    | with_reducible apply Keeps.ite
    | with_reducible apply Keeps.foldl
    | split
    | dsimp only
    | fail_if_no_progress with_reducible refine Keeps.lit ?_ rfl
    | with_reducible refine Keeps.litDraw ?_ rfl
    | with_reducible refine Keeps.litHost ?_ rfl

theorem State.writeMarkerHalf_keeps {a s : State} (h : Keeps a s) : ∀ x1 x2 x3, Keeps a (State.writeMarkerHalf s x1 x2 x3) := by
  intros
  unfold State.writeMarkerHalf
  try dsimp only
  repeat' first
    | with_reducible assumption
    | intro _
    | with_reducible apply State.fillBucket_keeps
    | with_reducible apply State.writePlain_keeps
    | with_reducible apply State.cfgErr_keeps
    | with_reducible apply State.freshBucket_keeps
    | with_reducible apply Keeps.ite
    | with_reducible apply Keeps.foldl
    | split
    | dsimp only
    | fail_if_no_progress with_reducible refine Keeps.lit ?_ rfl
    | with_reducible refine Keeps.litDraw ?_ rfl
    | with_reducible refine Keeps.litHost ?_ rfl

theorem State.writeSwitch_keeps {a s : State} (h : Keeps a s) : ∀ x1 x2 x3 x4, Keeps a (State.writeSwitch s x1 x2 x3 x4) := by
  intros
  unfold State.writeSwitch
  try dsimp only
  repeat' first
    | with_reducible assumption
    | intro _
    | with_reducible apply State.writeCreditAdv_keeps
    | with_reducible apply State.writeBufMin_keeps
    | with_reducible apply State.writeVcCfg_keeps
    | with_reducible apply State.writePlain_keeps
    | with_reducible apply Keeps.ite
    | with_reducible apply Keeps.foldl
    | split
    | dsimp only
    | fail_if_no_progress with_reducible refine Keeps.lit ?_ rfl
    | with_reducible refine Keeps.litDraw ?_ rfl
    | with_reducible refine Keeps.litHost ?_ rfl

theorem State.writeSwc_keeps {a s : State} (h : Keeps a s) : ∀ x1 x2 x3, Keeps a (State.writeSwc s x1 x2 x3) := by
  intros
  unfold State.writeSwc
  try dsimp only
  repeat' first
    | with_reducible assumption
    | intro _
    | with_reducible apply State.writeOvfOn_keeps
    | with_reducible apply State.writeOvfRegion_keeps
    | with_reducible apply State.writeAgeLimit_keeps
    | with_reducible apply State.writeSwcArb_keeps
    | with_reducible apply State.writeWred_keeps
    | with_reducible apply State.writeRtx_keeps
    | with_reducible apply State.writeWinTimeout_keeps
    | with_reducible apply State.writeWinDefault_keeps
    | with_reducible apply State.writeFields_keeps
    | with_reducible apply State.cfgRange_keeps
    | with_reducible apply State.writeHold_keeps
    | with_reducible apply State.writeMarkerHalf_keeps
    | with_reducible apply State.writeStage_keeps
    | with_reducible apply State.writeWinSize_keeps
    | with_reducible apply State.forAll_keeps
    | with_reducible apply State.writeMcGroup_keeps
    | with_reducible apply State.writeSwitch_keeps
    | with_reducible apply State.writeMcMember_keeps
    | with_reducible apply State.writePlain_keeps
    | with_reducible apply Keeps.ite
    | with_reducible apply Keeps.foldl
    | split
    | dsimp only
    | fail_if_no_progress with_reducible refine Keeps.lit ?_ rfl
    | with_reducible refine Keeps.litDraw ?_ rfl
    | with_reducible refine Keeps.litHost ?_ rfl

theorem State.omuErr_keeps {a s : State} (h : Keeps a s) : Keeps a (State.omuErr s) := by
  unfold State.omuErr
  try dsimp only
  repeat' first
    | with_reducible assumption
    | intro _
    | with_reducible apply State.setRegBit_keeps
    | with_reducible apply Keeps.ite
    | with_reducible apply Keeps.foldl
    | split
    | dsimp only
    | fail_if_no_progress with_reducible refine Keeps.lit ?_ rfl
    | with_reducible refine Keeps.litDraw ?_ rfl
    | with_reducible refine Keeps.litHost ?_ rfl

theorem State.writeUnits_keeps {a s : State} (h : Keeps a s) : ∀ x1 x2 x3, Keeps a (State.writeUnits s x1 x2 x3) := by
  intros
  unfold State.writeUnits
  try dsimp only
  repeat' first
    | with_reducible assumption
    | intro _
    | with_reducible apply State.writeTtRegion_keeps
    | with_reducible apply State.writeG7mArb_keeps
    | with_reducible apply State.writeScrubPeriod_keeps
    | with_reducible apply State.writeFields_keeps
    | with_reducible apply State.omuErr_keeps
    | with_reducible apply State.dropImage_keeps
    | with_reducible apply State.writePlain_keeps
    | with_reducible apply Keeps.ite
    | with_reducible apply Keeps.foldl
    | split
    | dsimp only
    | fail_if_no_progress with_reducible refine Keeps.lit ?_ rfl
    | with_reducible refine Keeps.litDraw ?_ rfl
    | with_reducible refine Keeps.litHost ?_ rfl

theorem State.writePcie_keeps {a s : State} (h : Keeps a s) : ∀ x1 x2 x3 x4, Keeps a (State.writePcie s x1 x2 x3 x4) := by
  intros
  unfold State.writePcie
  try dsimp only
  repeat' first
    | with_reducible assumption
    | intro _
    | with_reducible apply State.writePlain_keeps
    | with_reducible apply State.relay_keeps
    | with_reducible apply State.writeFields_keeps
    | with_reducible apply ignored_keeps
    | with_reducible apply Keeps.ite
    | with_reducible apply Keeps.foldl
    | split
    | dsimp only
    | fail_if_no_progress with_reducible refine Keeps.lit ?_ rfl
    | with_reducible refine Keeps.litDraw ?_ rfl
    | with_reducible refine Keeps.litHost ?_ rfl

theorem State.writeElecCtl_keeps {a s : State} (h : Keeps a s) : ∀ x1 x2 x3, Keeps a (State.writeElecCtl s x1 x2 x3) := by
  intros
  unfold State.writeElecCtl
  try dsimp only
  repeat' first
    | with_reducible assumption
    | intro _
    | with_reducible apply State.elecErr_keeps
    | with_reducible apply State.setReg_keeps
    | with_reducible apply State.reserveWrite_keeps
    | with_reducible apply State.setRegF_keeps
    | with_reducible apply State.sleepEnWrite_keeps
    | with_reducible apply State.elecEnable_keeps
    | with_reducible apply State.applyLoop_keeps
    | with_reducible apply State.testWrite_keeps
    | with_reducible apply State.deepEnter_keeps
    | with_reducible apply State.deepExit_keeps
    | with_reducible apply State.elecStart_keeps
    | with_reducible apply Keeps.ite
    | with_reducible apply Keeps.foldl
    | split
    | dsimp only
    | fail_if_no_progress with_reducible refine Keeps.lit ?_ rfl
    | with_reducible refine Keeps.litDraw ?_ rfl
    | with_reducible refine Keeps.litHost ?_ rfl

theorem State.writePrbs_keeps {a s : State} (h : Keeps a s) : ∀ x1 x2 x3 x4, Keeps a (State.writePrbs s x1 x2 x3 x4) := by
  intros
  unfold State.writePrbs
  try dsimp only
  repeat' first
    | with_reducible assumption
    | intro _
    | with_reducible apply State.elecErr_keeps
    | with_reducible apply State.writePlain_keeps
    | with_reducible apply State.countBits_keeps
    | with_reducible apply State.unlock_keeps
    | with_reducible apply State.emit_keeps
    | with_reducible apply State.setReg_keeps
    | with_reducible apply Keeps.ite
    | with_reducible apply Keeps.foldl
    | split
    | dsimp only
    | fail_if_no_progress with_reducible refine Keeps.lit ?_ rfl
    | with_reducible refine Keeps.litDraw ?_ rfl
    | with_reducible refine Keeps.litHost ?_ rfl

theorem State.writeElec_keeps {a s : State} (h : Keeps a s) : ∀ x1 x2 x3 x4, Keeps a (State.writeElec s x1 x2 x3 x4) := by
  intros
  unfold State.writeElec
  try dsimp only
  repeat' first
    | with_reducible assumption
    | intro _
    | with_reducible apply State.writeElecCtl_keeps
    | with_reducible apply State.auditWrite_keeps
    | with_reducible apply State.setRegF_keeps
    | with_reducible apply State.writePrbs_keeps
    | with_reducible apply State.writePlain_keeps
    | with_reducible apply Keeps.ite
    | with_reducible apply Keeps.foldl
    | split
    | dsimp only
    | fail_if_no_progress with_reducible refine Keeps.lit ?_ rfl
    | with_reducible refine Keeps.litDraw ?_ rfl
    | with_reducible refine Keeps.litHost ?_ rfl

theorem State.writeOptCtl_keeps {a s : State} (h : Keeps a s) : ∀ x1 x2 x3, Keeps a (State.writeOptCtl s x1 x2 x3) := by
  intros
  unfold State.writeOptCtl
  try dsimp only
  repeat' first
    | with_reducible assumption
    | intro _
    | with_reducible apply State.setRegBit_keeps
    | with_reducible apply State.setReg_keeps
    | with_reducible apply State.optEnable_keeps
    | with_reducible apply State.optStart_keeps
    | with_reducible apply State.recalWrite_keeps
    | with_reducible apply Keeps.ite
    | with_reducible apply Keeps.foldl
    | split
    | dsimp only
    | fail_if_no_progress with_reducible refine Keeps.lit ?_ rfl
    | with_reducible refine Keeps.litDraw ?_ rfl
    | with_reducible refine Keeps.litHost ?_ rfl

theorem State.writePort_keeps {a s : State} (h : Keeps a s) : ∀ x1 x2 x3, Keeps a (State.writePort s x1 x2 x3) := by
  intros
  unfold State.writePort
  try dsimp only
  repeat' first
    | with_reducible assumption
    | intro _
    | with_reducible apply State.writeSwitch_keeps
    | with_reducible apply State.writeElec_keeps
    | with_reducible apply State.writeOptCtl_keeps
    | with_reducible apply State.writePlain_keeps
    | with_reducible apply Keeps.ite
    | with_reducible apply Keeps.foldl
    | split
    | dsimp only
    | fail_if_no_progress with_reducible refine Keeps.lit ?_ rfl
    | with_reducible refine Keeps.litDraw ?_ rfl
    | with_reducible refine Keeps.litHost ?_ rfl

theorem State.writeWing_keeps {a s : State} (h : Keeps a s) : ∀ x1 x2 x3, Keeps a (State.writeWing s x1 x2 x3) := by
  intros
  unfold State.writeWing
  try dsimp only
  repeat' first
    | with_reducible assumption
    | intro _
    | with_reducible apply State.writeFields_keeps
    | with_reducible apply ignored_keeps
    | with_reducible apply State.writePlain_keeps
    | with_reducible apply Keeps.ite
    | with_reducible apply Keeps.foldl
    | split
    | dsimp only
    | fail_if_no_progress with_reducible refine Keeps.lit ?_ rfl
    | with_reducible refine Keeps.litDraw ?_ rfl
    | with_reducible refine Keeps.litHost ?_ rfl

theorem State.writeReg_keeps {a s : State} (h : Keeps a s) : ∀ x1 x2 x3 x4, Keeps a (State.writeReg s x1 x2 x3 x4) := by
  intros
  unfold State.writeReg
  try dsimp only
  repeat' first
    | with_reducible assumption
    | intro _
    | with_reducible apply State.writeGlb_keeps
    | with_reducible apply State.writeBell_keeps
    | with_reducible apply State.writeRst_keeps
    | with_reducible apply State.writePrin_keeps
    | with_reducible apply State.writeSec_keeps
    | with_reducible apply State.writeXlt_keeps
    | with_reducible apply State.writeCoh_keeps
    | with_reducible apply State.writeSwc_keeps
    | with_reducible apply State.writeUnits_keeps
    | with_reducible apply State.writePcie_keeps
    | with_reducible apply State.writePort_keeps
    | with_reducible apply State.writeWing_keeps
    | with_reducible apply Keeps.ite
    | with_reducible apply Keeps.foldl
    | split
    | dsimp only
    | fail_if_no_progress with_reducible refine Keeps.lit ?_ rfl
    | with_reducible refine Keeps.litDraw ?_ rfl
    | with_reducible refine Keeps.litHost ?_ rfl

end Sys2Proof.Machine
end

