-- ==== Sys2Proof/Laws/KeepsRequests.lean ====
section
/-! SUPPORT. What each operation of Machine/Requests.lean keeps. -/

namespace Sys2Proof.Machine

set_option linter.unusedTactic false
set_option linter.unreachableTactic false

theorem State.settle_keeps {a s : State} (h : Keeps a s) : ∀ x1, Keeps a (State.settle s x1) := by
  intros
  unfold State.settle
  try dsimp only
  repeat' first
    | with_reducible assumption
    | intro _
    | with_reducible apply State.settleHost_keeps
    | with_reducible apply State.settleEng_keeps
    | with_reducible apply State.settleStreams_keeps
    | with_reducible apply Keeps.ite
    | with_reducible apply Keeps.foldl
    | split
    | dsimp only
    | fail_if_no_progress with_reducible refine Keeps.lit ?_ rfl
    | with_reducible refine Keeps.litDraw ?_ rfl
    | with_reducible refine Keeps.litHost ?_ rfl

theorem State.performMirror_keeps {a s : State} (h : Keeps a s) : ∀ x1 x2, Keeps a (State.performMirror s x1 x2) := by
  intros
  unfold State.performMirror
  try dsimp only
  repeat' first
    | with_reducible assumption
    | intro _
    | with_reducible apply State.finish_keeps
    | with_reducible apply State.settleRead_keeps
    | with_reducible apply State.forAll_keeps
    | with_reducible apply State.writeReg_keeps
    | with_reducible apply Keeps.ite
    | with_reducible apply Keeps.foldl
    | split
    | dsimp only
    | fail_if_no_progress with_reducible refine Keeps.lit ?_ rfl
    | with_reducible refine Keeps.litDraw ?_ rfl
    | with_reducible refine Keeps.litHost ?_ rfl

theorem State.atMirror_keeps {a s : State} (h : Keeps a s) : ∀ x1 x2, Keeps a (State.atMirror s x1 x2) := by
  intros
  unfold State.atMirror
  try dsimp only
  repeat' first
    | with_reducible assumption
    | intro _
    | with_reducible apply State.finish_keeps
    | with_reducible apply State.performMirror_keeps
    | with_reducible apply Keeps.ite
    | with_reducible apply Keeps.foldl
    | split
    | dsimp only
    | fail_if_no_progress with_reducible refine Keeps.lit ?_ rfl
    | with_reducible refine Keeps.litDraw ?_ rfl
    | with_reducible refine Keeps.litHost ?_ rfl

theorem State.runMirrors_keeps {a s : State} (h : Keeps a s) : Keeps a (State.runMirrors s) := by
  unfold State.runMirrors
  try dsimp only
  repeat' first
    | with_reducible assumption
    | intro _
    | with_reducible apply State.forAll_keeps
    | with_reducible apply State.performMirror_keeps
    | with_reducible apply Keeps.ite
    | with_reducible apply Keeps.foldl
    | split
    | dsimp only
    | fail_if_no_progress with_reducible refine Keeps.lit ?_ rfl
    | with_reducible refine Keeps.litDraw ?_ rfl
    | with_reducible refine Keeps.litHost ?_ rfl

theorem State.homeGoes_keeps {a s : State} (h : Keeps a s) : Keeps a (State.homeGoes s) := by
  unfold State.homeGoes
  try dsimp only
  repeat' first
    | with_reducible assumption
    | intro _
    | with_reducible apply State.runMirrors_keeps
    | with_reducible apply State.runWaiting_keeps
    | with_reducible apply Keeps.ite
    | with_reducible apply Keeps.foldl
    | split
    | dsimp only
    | fail_if_no_progress with_reducible refine Keeps.lit ?_ rfl
    | with_reducible refine Keeps.litDraw ?_ rfl
    | with_reducible refine Keeps.litHost ?_ rfl

theorem State.request_keeps {a s : State} (h : Keeps a s) : ∀ x1 x2, Keeps a (State.request s x1 x2) := by
  intros
  unfold State.request
  try dsimp only
  repeat' first
    | with_reducible assumption
    | intro _
    | with_reducible apply State.checked_keeps
    | with_reducible apply State.atMirror_keeps
    | with_reducible apply State.atHome_keeps
    | with_reducible apply State.settleStreams_keeps
    | with_reducible apply State.homeGoes_keeps
    | with_reducible apply Keeps.ite
    | with_reducible apply Keeps.foldl
    | split
    | dsimp only
    | fail_if_no_progress with_reducible refine Keeps.lit ?_ rfl
    | with_reducible refine Keeps.litDraw ?_ rfl
    | with_reducible refine Keeps.litHost ?_ rfl

theorem State.familyRequest_keeps {a s : State} (h : Keeps a s) : ∀ x1 x2 x3, Keeps a (State.familyRequest s x1 x2 x3) := by
  intros
  unfold State.familyRequest
  try dsimp only
  repeat' first
    | with_reducible assumption
    | intro _
    | with_reducible apply State.request_keeps
    | with_reducible apply Keeps.ite
    | with_reducible apply Keeps.foldl
    | split
    | dsimp only
    | fail_if_no_progress with_reducible refine Keeps.lit ?_ rfl
    | with_reducible refine Keeps.litDraw ?_ rfl
    | with_reducible refine Keeps.litHost ?_ rfl

theorem State.mstChecked_keeps {a s : State} (h : Keeps a s) : ∀ x1, Keeps a (State.mstChecked s x1) := by
  intros
  unfold State.mstChecked
  try dsimp only
  repeat' first
    | with_reducible assumption
    | intro _
    | with_reducible apply State.checked_keeps
    | with_reducible apply State.mstTake_keeps
    | with_reducible apply State.mstRelease_keeps
    | with_reducible apply Keeps.ite
    | with_reducible apply Keeps.foldl
    | split
    | dsimp only
    | fail_if_no_progress with_reducible refine Keeps.lit ?_ rfl
    | with_reducible refine Keeps.litDraw ?_ rfl
    | with_reducible refine Keeps.litHost ?_ rfl

theorem State.multicast_keeps {a s : State} (h : Keeps a s) : ∀ x1, Keeps a (State.multicast s x1) := by
  intros
  unfold State.multicast
  try dsimp only
  repeat' first
    | with_reducible assumption
    | intro _
    | with_reducible apply State.settleStreams_keeps
    | with_reducible apply State.mstChecked_keeps
    | with_reducible apply State.request_keeps
    | with_reducible apply State.mstTake_keeps
    | with_reducible apply Keeps.ite
    | with_reducible apply Keeps.foldl
    | split
    | dsimp only
    | fail_if_no_progress with_reducible refine Keeps.lit ?_ rfl
    | with_reducible refine Keeps.litDraw ?_ rfl
    | with_reducible refine Keeps.litHost ?_ rfl

theorem State.walkGone_keeps {a s : State} (h : Keeps a s) : ∀ x1, Keeps a (State.walkGone s x1) := by
  intros
  unfold State.walkGone
  try dsimp only
  repeat' first
    | with_reducible assumption
    | intro _
    | with_reducible apply State.addReg_keeps
    | with_reducible apply State.count_keeps
    | with_reducible apply Keeps.ite
    | with_reducible apply Keeps.foldl
    | split
    | dsimp only
    | fail_if_no_progress with_reducible refine Keeps.lit ?_ rfl
    | with_reducible refine Keeps.litDraw ?_ rfl
    | with_reducible refine Keeps.litHost ?_ rfl

theorem State.walkTold_keeps {a s : State} (h : Keeps a s) : ∀ x1, Keeps a (State.walkTold s x1) := by
  intros
  unfold State.walkTold
  try dsimp only
  repeat' first
    | with_reducible assumption
    | intro _
    | with_reducible apply State.deskWalked_keeps
    | with_reducible apply State.streamWalked_keeps
    | with_reducible apply State.putWing_keeps
    | with_reducible apply State.preloadWalked_keeps
    | with_reducible apply State.settleDep_keeps
    | with_reducible apply State.depWalked_keeps
    | with_reducible apply Keeps.ite
    | with_reducible apply Keeps.foldl
    | split
    | dsimp only
    | fail_if_no_progress with_reducible refine Keeps.lit ?_ rfl
    | with_reducible refine Keeps.litDraw ?_ rfl
    | with_reducible refine Keeps.litHost ?_ rfl

theorem State.walkEnd_keeps {a s : State} (h : Keeps a s) : ∀ x1, Keeps a (State.walkEnd s x1) := by
  intros
  unfold State.walkEnd
  try dsimp only
  repeat' first
    | with_reducible assumption
    | intro _
    | with_reducible apply State.settleStreams_keeps
    | with_reducible apply State.walkTold_keeps
    | with_reducible apply State.walkGone_keeps
    | with_reducible apply Keeps.ite
    | with_reducible apply Keeps.foldl
    | split
    | dsimp only
    | fail_if_no_progress with_reducible refine Keeps.lit ?_ rfl
    | with_reducible refine Keeps.litDraw ?_ rfl
    | with_reducible refine Keeps.litHost ?_ rfl

theorem State.moduleResponse_keeps {a s : State} (h : Keeps a s) : ∀ x1, Keeps a (State.moduleResponse s x1) := by
  intros
  unfold State.moduleResponse
  try dsimp only
  repeat' first
    | with_reducible assumption
    | intro _
    | with_reducible apply State.tellOwner_keeps
    | with_reducible apply State.count_keeps
    | with_reducible apply State.takeResponse_keeps
    | with_reducible apply Keeps.ite
    | with_reducible apply Keeps.foldl
    | split
    | dsimp only
    | fail_if_no_progress with_reducible refine Keeps.lit ?_ rfl
    | with_reducible refine Keeps.litDraw ?_ rfl
    | with_reducible refine Keeps.litHost ?_ rfl

end Sys2Proof.Machine
end

