-- ==== Sys2Proof/Laws/State.lean ====
section
/-! SUPPORT. What each update of State leaves alone, field by field, and what a read gives after a write. -/

namespace Sys2Proof.Machine

variable (s : State)

/-! ### setReg -/

@[simp] theorem State.setReg_pending (a : Nat) (v : Word) : (s.setReg a v).pending = s.pending := rfl
@[simp] theorem State.setReg_now (a : Nat) (v : Word) : (s.setReg a v).now = s.now := rfl
@[simp] theorem State.setReg_freeCtr (a : Nat) (v : Word) : (s.setReg a v).freeCtr = s.freeCtr := rfl
@[simp] theorem State.setReg_latch (a : Nat) (v : Word) : (s.setReg a v).latch = s.latch := rfl
@[simp] theorem State.setReg_mem (a : Nat) (v : Word) : (s.setReg a v).mem = s.mem := rfl
@[simp] theorem State.setReg_hostMem (a : Nat) (v : Word) : (s.setReg a v).hostMem = s.hostMem := rfl
@[simp] theorem State.setReg_out (a : Nat) (v : Word) : (s.setReg a v).out = s.out := rfl
@[simp] theorem State.setReg_bell (a : Nat) (v : Word) : (s.setReg a v).bell = s.bell := rfl
@[simp] theorem State.setReg_fab (a : Nat) (v : Word) : (s.setReg a v).fab = s.fab := rfl
@[simp] theorem State.setReg_coh (a : Nat) (v : Word) : (s.setReg a v).coh = s.coh := rfl
@[simp] theorem State.setReg_coll (a : Nat) (v : Word) : (s.setReg a v).coll = s.coll := rfl
@[simp] theorem State.setReg_desks (a : Nat) (v : Word) : (s.setReg a v).desks = s.desks := rfl
@[simp] theorem State.setReg_rooms (a : Nat) (v : Word) : (s.setReg a v).rooms = s.rooms := rfl
@[simp] theorem State.setReg_plan (a : Nat) (v : Word) : (s.setReg a v).plan = s.plan := rfl
@[simp] theorem State.setReg_xl (a : Nat) (v : Word) : (s.setReg a v).xl = s.xl := rfl
@[simp] theorem State.setReg_strms (a : Nat) (v : Word) : (s.setReg a v).strms = s.strms := rfl
@[simp] theorem State.setReg_g7m (a : Nat) (v : Word) : (s.setReg a v).g7m = s.g7m := rfl
@[simp] theorem State.setReg_deps (a : Nat) (v : Word) : (s.setReg a v).deps = s.deps := rfl
@[simp] theorem State.setReg_sec (a : Nat) (v : Word) : (s.setReg a v).sec = s.sec := rfl
@[simp] theorem State.setReg_host (a : Nat) (v : Word) : (s.setReg a v).host = s.host := rfl
@[simp] theorem State.setReg_seeds (a : Nat) (v : Word) : (s.setReg a v).seeds = s.seeds := rfl
@[simp] theorem State.setReg_omu (a : Nat) (v : Word) : (s.setReg a v).omu = s.omu := rfl
@[simp] theorem State.setReg_opts (a : Nat) (v : Word) : (s.setReg a v).opts = s.opts := rfl
@[simp] theorem State.setReg_gb (a : Nat) (v : Word) : (s.setReg a v).gb = s.gb := rfl
@[simp] theorem State.setReg_elecs (a : Nat) (v : Word) : (s.setReg a v).elecs = s.elecs := rfl
@[simp] theorem State.setReg_rst (a : Nat) (v : Word) : (s.setReg a v).rst = s.rst := rfl
@[simp] theorem State.setReg_prin (a : Nat) (v : Word) : (s.setReg a v).prin = s.prin := rfl

/-! ### setRegF -/

@[simp] theorem State.setRegF_pending (a lo len v : Nat) : (s.setRegF a lo len v).pending = s.pending := rfl
@[simp] theorem State.setRegF_now (a lo len v : Nat) : (s.setRegF a lo len v).now = s.now := rfl
@[simp] theorem State.setRegF_freeCtr (a lo len v : Nat) : (s.setRegF a lo len v).freeCtr = s.freeCtr := rfl
@[simp] theorem State.setRegF_latch (a lo len v : Nat) : (s.setRegF a lo len v).latch = s.latch := rfl
@[simp] theorem State.setRegF_mem (a lo len v : Nat) : (s.setRegF a lo len v).mem = s.mem := rfl
@[simp] theorem State.setRegF_hostMem (a lo len v : Nat) : (s.setRegF a lo len v).hostMem = s.hostMem := rfl
@[simp] theorem State.setRegF_out (a lo len v : Nat) : (s.setRegF a lo len v).out = s.out := rfl
@[simp] theorem State.setRegF_bell (a lo len v : Nat) : (s.setRegF a lo len v).bell = s.bell := rfl
@[simp] theorem State.setRegF_fab (a lo len v : Nat) : (s.setRegF a lo len v).fab = s.fab := rfl
@[simp] theorem State.setRegF_coh (a lo len v : Nat) : (s.setRegF a lo len v).coh = s.coh := rfl
@[simp] theorem State.setRegF_coll (a lo len v : Nat) : (s.setRegF a lo len v).coll = s.coll := rfl
@[simp] theorem State.setRegF_desks (a lo len v : Nat) : (s.setRegF a lo len v).desks = s.desks := rfl
@[simp] theorem State.setRegF_rooms (a lo len v : Nat) : (s.setRegF a lo len v).rooms = s.rooms := rfl
@[simp] theorem State.setRegF_plan (a lo len v : Nat) : (s.setRegF a lo len v).plan = s.plan := rfl
@[simp] theorem State.setRegF_xl (a lo len v : Nat) : (s.setRegF a lo len v).xl = s.xl := rfl
@[simp] theorem State.setRegF_strms (a lo len v : Nat) : (s.setRegF a lo len v).strms = s.strms := rfl
@[simp] theorem State.setRegF_g7m (a lo len v : Nat) : (s.setRegF a lo len v).g7m = s.g7m := rfl
@[simp] theorem State.setRegF_deps (a lo len v : Nat) : (s.setRegF a lo len v).deps = s.deps := rfl
@[simp] theorem State.setRegF_sec (a lo len v : Nat) : (s.setRegF a lo len v).sec = s.sec := rfl
@[simp] theorem State.setRegF_host (a lo len v : Nat) : (s.setRegF a lo len v).host = s.host := rfl
@[simp] theorem State.setRegF_seeds (a lo len v : Nat) : (s.setRegF a lo len v).seeds = s.seeds := rfl
@[simp] theorem State.setRegF_omu (a lo len v : Nat) : (s.setRegF a lo len v).omu = s.omu := rfl
@[simp] theorem State.setRegF_opts (a lo len v : Nat) : (s.setRegF a lo len v).opts = s.opts := rfl
@[simp] theorem State.setRegF_gb (a lo len v : Nat) : (s.setRegF a lo len v).gb = s.gb := rfl
@[simp] theorem State.setRegF_elecs (a lo len v : Nat) : (s.setRegF a lo len v).elecs = s.elecs := rfl
@[simp] theorem State.setRegF_rst (a lo len v : Nat) : (s.setRegF a lo len v).rst = s.rst := rfl
@[simp] theorem State.setRegF_prin (a lo len v : Nat) : (s.setRegF a lo len v).prin = s.prin := rfl

/-! ### setRegBit -/

@[simp] theorem State.setRegBit_pending (a i : Nat) (b : Bool) : (s.setRegBit a i b).pending = s.pending := rfl
@[simp] theorem State.setRegBit_now (a i : Nat) (b : Bool) : (s.setRegBit a i b).now = s.now := rfl
@[simp] theorem State.setRegBit_freeCtr (a i : Nat) (b : Bool) : (s.setRegBit a i b).freeCtr = s.freeCtr := rfl
@[simp] theorem State.setRegBit_latch (a i : Nat) (b : Bool) : (s.setRegBit a i b).latch = s.latch := rfl
@[simp] theorem State.setRegBit_mem (a i : Nat) (b : Bool) : (s.setRegBit a i b).mem = s.mem := rfl
@[simp] theorem State.setRegBit_hostMem (a i : Nat) (b : Bool) : (s.setRegBit a i b).hostMem = s.hostMem := rfl
@[simp] theorem State.setRegBit_out (a i : Nat) (b : Bool) : (s.setRegBit a i b).out = s.out := rfl
@[simp] theorem State.setRegBit_bell (a i : Nat) (b : Bool) : (s.setRegBit a i b).bell = s.bell := rfl
@[simp] theorem State.setRegBit_fab (a i : Nat) (b : Bool) : (s.setRegBit a i b).fab = s.fab := rfl
@[simp] theorem State.setRegBit_coh (a i : Nat) (b : Bool) : (s.setRegBit a i b).coh = s.coh := rfl
@[simp] theorem State.setRegBit_coll (a i : Nat) (b : Bool) : (s.setRegBit a i b).coll = s.coll := rfl
@[simp] theorem State.setRegBit_desks (a i : Nat) (b : Bool) : (s.setRegBit a i b).desks = s.desks := rfl
@[simp] theorem State.setRegBit_rooms (a i : Nat) (b : Bool) : (s.setRegBit a i b).rooms = s.rooms := rfl
@[simp] theorem State.setRegBit_plan (a i : Nat) (b : Bool) : (s.setRegBit a i b).plan = s.plan := rfl
@[simp] theorem State.setRegBit_xl (a i : Nat) (b : Bool) : (s.setRegBit a i b).xl = s.xl := rfl
@[simp] theorem State.setRegBit_strms (a i : Nat) (b : Bool) : (s.setRegBit a i b).strms = s.strms := rfl
@[simp] theorem State.setRegBit_g7m (a i : Nat) (b : Bool) : (s.setRegBit a i b).g7m = s.g7m := rfl
@[simp] theorem State.setRegBit_deps (a i : Nat) (b : Bool) : (s.setRegBit a i b).deps = s.deps := rfl
@[simp] theorem State.setRegBit_sec (a i : Nat) (b : Bool) : (s.setRegBit a i b).sec = s.sec := rfl
@[simp] theorem State.setRegBit_host (a i : Nat) (b : Bool) : (s.setRegBit a i b).host = s.host := rfl
@[simp] theorem State.setRegBit_seeds (a i : Nat) (b : Bool) : (s.setRegBit a i b).seeds = s.seeds := rfl
@[simp] theorem State.setRegBit_omu (a i : Nat) (b : Bool) : (s.setRegBit a i b).omu = s.omu := rfl
@[simp] theorem State.setRegBit_opts (a i : Nat) (b : Bool) : (s.setRegBit a i b).opts = s.opts := rfl
@[simp] theorem State.setRegBit_gb (a i : Nat) (b : Bool) : (s.setRegBit a i b).gb = s.gb := rfl
@[simp] theorem State.setRegBit_elecs (a i : Nat) (b : Bool) : (s.setRegBit a i b).elecs = s.elecs := rfl
@[simp] theorem State.setRegBit_rst (a i : Nat) (b : Bool) : (s.setRegBit a i b).rst = s.rst := rfl
@[simp] theorem State.setRegBit_prin (a i : Nat) (b : Bool) : (s.setRegBit a i b).prin = s.prin := rfl

/-! ### addReg -/

@[simp] theorem State.addReg_pending (a n : Nat) : (s.addReg a n).pending = s.pending := rfl
@[simp] theorem State.addReg_now (a n : Nat) : (s.addReg a n).now = s.now := rfl
@[simp] theorem State.addReg_freeCtr (a n : Nat) : (s.addReg a n).freeCtr = s.freeCtr := rfl
@[simp] theorem State.addReg_latch (a n : Nat) : (s.addReg a n).latch = s.latch := rfl
@[simp] theorem State.addReg_mem (a n : Nat) : (s.addReg a n).mem = s.mem := rfl
@[simp] theorem State.addReg_hostMem (a n : Nat) : (s.addReg a n).hostMem = s.hostMem := rfl
@[simp] theorem State.addReg_out (a n : Nat) : (s.addReg a n).out = s.out := rfl
@[simp] theorem State.addReg_bell (a n : Nat) : (s.addReg a n).bell = s.bell := rfl
@[simp] theorem State.addReg_fab (a n : Nat) : (s.addReg a n).fab = s.fab := rfl
@[simp] theorem State.addReg_coh (a n : Nat) : (s.addReg a n).coh = s.coh := rfl
@[simp] theorem State.addReg_coll (a n : Nat) : (s.addReg a n).coll = s.coll := rfl
@[simp] theorem State.addReg_desks (a n : Nat) : (s.addReg a n).desks = s.desks := rfl
@[simp] theorem State.addReg_rooms (a n : Nat) : (s.addReg a n).rooms = s.rooms := rfl
@[simp] theorem State.addReg_plan (a n : Nat) : (s.addReg a n).plan = s.plan := rfl
@[simp] theorem State.addReg_xl (a n : Nat) : (s.addReg a n).xl = s.xl := rfl
@[simp] theorem State.addReg_strms (a n : Nat) : (s.addReg a n).strms = s.strms := rfl
@[simp] theorem State.addReg_g7m (a n : Nat) : (s.addReg a n).g7m = s.g7m := rfl
@[simp] theorem State.addReg_deps (a n : Nat) : (s.addReg a n).deps = s.deps := rfl
@[simp] theorem State.addReg_sec (a n : Nat) : (s.addReg a n).sec = s.sec := rfl
@[simp] theorem State.addReg_host (a n : Nat) : (s.addReg a n).host = s.host := rfl
@[simp] theorem State.addReg_seeds (a n : Nat) : (s.addReg a n).seeds = s.seeds := rfl
@[simp] theorem State.addReg_omu (a n : Nat) : (s.addReg a n).omu = s.omu := rfl
@[simp] theorem State.addReg_opts (a n : Nat) : (s.addReg a n).opts = s.opts := rfl
@[simp] theorem State.addReg_gb (a n : Nat) : (s.addReg a n).gb = s.gb := rfl
@[simp] theorem State.addReg_elecs (a n : Nat) : (s.addReg a n).elecs = s.elecs := rfl
@[simp] theorem State.addReg_rst (a n : Nat) : (s.addReg a n).rst = s.rst := rfl
@[simp] theorem State.addReg_prin (a n : Nat) : (s.addReg a n).prin = s.prin := rfl

/-! ### count -/

@[simp] theorem State.count_pending (a : Nat) : (s.count a).pending = s.pending := rfl
@[simp] theorem State.count_now (a : Nat) : (s.count a).now = s.now := rfl
@[simp] theorem State.count_freeCtr (a : Nat) : (s.count a).freeCtr = s.freeCtr := rfl
@[simp] theorem State.count_latch (a : Nat) : (s.count a).latch = s.latch := rfl
@[simp] theorem State.count_mem (a : Nat) : (s.count a).mem = s.mem := rfl
@[simp] theorem State.count_hostMem (a : Nat) : (s.count a).hostMem = s.hostMem := rfl
@[simp] theorem State.count_out (a : Nat) : (s.count a).out = s.out := rfl
@[simp] theorem State.count_bell (a : Nat) : (s.count a).bell = s.bell := rfl
@[simp] theorem State.count_fab (a : Nat) : (s.count a).fab = s.fab := rfl
@[simp] theorem State.count_coh (a : Nat) : (s.count a).coh = s.coh := rfl
@[simp] theorem State.count_coll (a : Nat) : (s.count a).coll = s.coll := rfl
@[simp] theorem State.count_desks (a : Nat) : (s.count a).desks = s.desks := rfl
@[simp] theorem State.count_rooms (a : Nat) : (s.count a).rooms = s.rooms := rfl
@[simp] theorem State.count_plan (a : Nat) : (s.count a).plan = s.plan := rfl
@[simp] theorem State.count_xl (a : Nat) : (s.count a).xl = s.xl := rfl
@[simp] theorem State.count_strms (a : Nat) : (s.count a).strms = s.strms := rfl
@[simp] theorem State.count_g7m (a : Nat) : (s.count a).g7m = s.g7m := rfl
@[simp] theorem State.count_deps (a : Nat) : (s.count a).deps = s.deps := rfl
@[simp] theorem State.count_sec (a : Nat) : (s.count a).sec = s.sec := rfl
@[simp] theorem State.count_host (a : Nat) : (s.count a).host = s.host := rfl
@[simp] theorem State.count_seeds (a : Nat) : (s.count a).seeds = s.seeds := rfl
@[simp] theorem State.count_omu (a : Nat) : (s.count a).omu = s.omu := rfl
@[simp] theorem State.count_opts (a : Nat) : (s.count a).opts = s.opts := rfl
@[simp] theorem State.count_gb (a : Nat) : (s.count a).gb = s.gb := rfl
@[simp] theorem State.count_elecs (a : Nat) : (s.count a).elecs = s.elecs := rfl
@[simp] theorem State.count_rst (a : Nat) : (s.count a).rst = s.rst := rfl
@[simp] theorem State.count_prin (a : Nat) : (s.count a).prin = s.prin := rfl

/-! ### countSat -/

@[simp] theorem State.countSat_pending (a lo len : Nat) : (s.countSat a lo len).pending = s.pending := rfl
@[simp] theorem State.countSat_now (a lo len : Nat) : (s.countSat a lo len).now = s.now := rfl
@[simp] theorem State.countSat_freeCtr (a lo len : Nat) : (s.countSat a lo len).freeCtr = s.freeCtr := rfl
@[simp] theorem State.countSat_latch (a lo len : Nat) : (s.countSat a lo len).latch = s.latch := rfl
@[simp] theorem State.countSat_mem (a lo len : Nat) : (s.countSat a lo len).mem = s.mem := rfl
@[simp] theorem State.countSat_hostMem (a lo len : Nat) : (s.countSat a lo len).hostMem = s.hostMem := rfl
@[simp] theorem State.countSat_out (a lo len : Nat) : (s.countSat a lo len).out = s.out := rfl
@[simp] theorem State.countSat_bell (a lo len : Nat) : (s.countSat a lo len).bell = s.bell := rfl
@[simp] theorem State.countSat_fab (a lo len : Nat) : (s.countSat a lo len).fab = s.fab := rfl
@[simp] theorem State.countSat_coh (a lo len : Nat) : (s.countSat a lo len).coh = s.coh := rfl
@[simp] theorem State.countSat_coll (a lo len : Nat) : (s.countSat a lo len).coll = s.coll := rfl
@[simp] theorem State.countSat_desks (a lo len : Nat) : (s.countSat a lo len).desks = s.desks := rfl
@[simp] theorem State.countSat_rooms (a lo len : Nat) : (s.countSat a lo len).rooms = s.rooms := rfl
@[simp] theorem State.countSat_plan (a lo len : Nat) : (s.countSat a lo len).plan = s.plan := rfl
@[simp] theorem State.countSat_xl (a lo len : Nat) : (s.countSat a lo len).xl = s.xl := rfl
@[simp] theorem State.countSat_strms (a lo len : Nat) : (s.countSat a lo len).strms = s.strms := rfl
@[simp] theorem State.countSat_g7m (a lo len : Nat) : (s.countSat a lo len).g7m = s.g7m := rfl
@[simp] theorem State.countSat_deps (a lo len : Nat) : (s.countSat a lo len).deps = s.deps := rfl
@[simp] theorem State.countSat_sec (a lo len : Nat) : (s.countSat a lo len).sec = s.sec := rfl
@[simp] theorem State.countSat_host (a lo len : Nat) : (s.countSat a lo len).host = s.host := rfl
@[simp] theorem State.countSat_seeds (a lo len : Nat) : (s.countSat a lo len).seeds = s.seeds := rfl
@[simp] theorem State.countSat_omu (a lo len : Nat) : (s.countSat a lo len).omu = s.omu := rfl
@[simp] theorem State.countSat_opts (a lo len : Nat) : (s.countSat a lo len).opts = s.opts := rfl
@[simp] theorem State.countSat_gb (a lo len : Nat) : (s.countSat a lo len).gb = s.gb := rfl
@[simp] theorem State.countSat_elecs (a lo len : Nat) : (s.countSat a lo len).elecs = s.elecs := rfl
@[simp] theorem State.countSat_rst (a lo len : Nat) : (s.countSat a lo len).rst = s.rst := rfl
@[simp] theorem State.countSat_prin (a lo len : Nat) : (s.countSat a lo len).prin = s.prin := rfl

/-! ### countWrap -/

@[simp] theorem State.countWrap_pending (a lo len : Nat) : (s.countWrap a lo len).pending = s.pending := rfl
@[simp] theorem State.countWrap_now (a lo len : Nat) : (s.countWrap a lo len).now = s.now := rfl
@[simp] theorem State.countWrap_freeCtr (a lo len : Nat) : (s.countWrap a lo len).freeCtr = s.freeCtr := rfl
@[simp] theorem State.countWrap_latch (a lo len : Nat) : (s.countWrap a lo len).latch = s.latch := rfl
@[simp] theorem State.countWrap_mem (a lo len : Nat) : (s.countWrap a lo len).mem = s.mem := rfl
@[simp] theorem State.countWrap_hostMem (a lo len : Nat) : (s.countWrap a lo len).hostMem = s.hostMem := rfl
@[simp] theorem State.countWrap_out (a lo len : Nat) : (s.countWrap a lo len).out = s.out := rfl
@[simp] theorem State.countWrap_bell (a lo len : Nat) : (s.countWrap a lo len).bell = s.bell := rfl
@[simp] theorem State.countWrap_fab (a lo len : Nat) : (s.countWrap a lo len).fab = s.fab := rfl
@[simp] theorem State.countWrap_coh (a lo len : Nat) : (s.countWrap a lo len).coh = s.coh := rfl
@[simp] theorem State.countWrap_coll (a lo len : Nat) : (s.countWrap a lo len).coll = s.coll := rfl
@[simp] theorem State.countWrap_desks (a lo len : Nat) : (s.countWrap a lo len).desks = s.desks := rfl
@[simp] theorem State.countWrap_rooms (a lo len : Nat) : (s.countWrap a lo len).rooms = s.rooms := rfl
@[simp] theorem State.countWrap_plan (a lo len : Nat) : (s.countWrap a lo len).plan = s.plan := rfl
@[simp] theorem State.countWrap_xl (a lo len : Nat) : (s.countWrap a lo len).xl = s.xl := rfl
@[simp] theorem State.countWrap_strms (a lo len : Nat) : (s.countWrap a lo len).strms = s.strms := rfl
@[simp] theorem State.countWrap_g7m (a lo len : Nat) : (s.countWrap a lo len).g7m = s.g7m := rfl
@[simp] theorem State.countWrap_deps (a lo len : Nat) : (s.countWrap a lo len).deps = s.deps := rfl
@[simp] theorem State.countWrap_sec (a lo len : Nat) : (s.countWrap a lo len).sec = s.sec := rfl
@[simp] theorem State.countWrap_host (a lo len : Nat) : (s.countWrap a lo len).host = s.host := rfl
@[simp] theorem State.countWrap_seeds (a lo len : Nat) : (s.countWrap a lo len).seeds = s.seeds := rfl
@[simp] theorem State.countWrap_omu (a lo len : Nat) : (s.countWrap a lo len).omu = s.omu := rfl
@[simp] theorem State.countWrap_opts (a lo len : Nat) : (s.countWrap a lo len).opts = s.opts := rfl
@[simp] theorem State.countWrap_gb (a lo len : Nat) : (s.countWrap a lo len).gb = s.gb := rfl
@[simp] theorem State.countWrap_elecs (a lo len : Nat) : (s.countWrap a lo len).elecs = s.elecs := rfl
@[simp] theorem State.countWrap_rst (a lo len : Nat) : (s.countWrap a lo len).rst = s.rst := rfl
@[simp] theorem State.countWrap_prin (a lo len : Nat) : (s.countWrap a lo len).prin = s.prin := rfl

/-! ### setByte -/

@[simp] theorem State.setByte_pending (a : Nat) (b : Byte) : (s.setByte a b).pending = s.pending := rfl
@[simp] theorem State.setByte_now (a : Nat) (b : Byte) : (s.setByte a b).now = s.now := rfl
@[simp] theorem State.setByte_freeCtr (a : Nat) (b : Byte) : (s.setByte a b).freeCtr = s.freeCtr := rfl
@[simp] theorem State.setByte_regs (a : Nat) (b : Byte) : (s.setByte a b).regs = s.regs := rfl
@[simp] theorem State.setByte_latch (a : Nat) (b : Byte) : (s.setByte a b).latch = s.latch := rfl
@[simp] theorem State.setByte_hostMem (a : Nat) (b : Byte) : (s.setByte a b).hostMem = s.hostMem := rfl
@[simp] theorem State.setByte_out (a : Nat) (b : Byte) : (s.setByte a b).out = s.out := rfl
@[simp] theorem State.setByte_bell (a : Nat) (b : Byte) : (s.setByte a b).bell = s.bell := rfl
@[simp] theorem State.setByte_fab (a : Nat) (b : Byte) : (s.setByte a b).fab = s.fab := rfl
@[simp] theorem State.setByte_coh (a : Nat) (b : Byte) : (s.setByte a b).coh = s.coh := rfl
@[simp] theorem State.setByte_coll (a : Nat) (b : Byte) : (s.setByte a b).coll = s.coll := rfl
@[simp] theorem State.setByte_desks (a : Nat) (b : Byte) : (s.setByte a b).desks = s.desks := rfl
@[simp] theorem State.setByte_rooms (a : Nat) (b : Byte) : (s.setByte a b).rooms = s.rooms := rfl
@[simp] theorem State.setByte_plan (a : Nat) (b : Byte) : (s.setByte a b).plan = s.plan := rfl
@[simp] theorem State.setByte_xl (a : Nat) (b : Byte) : (s.setByte a b).xl = s.xl := rfl
@[simp] theorem State.setByte_strms (a : Nat) (b : Byte) : (s.setByte a b).strms = s.strms := rfl
@[simp] theorem State.setByte_g7m (a : Nat) (b : Byte) : (s.setByte a b).g7m = s.g7m := rfl
@[simp] theorem State.setByte_deps (a : Nat) (b : Byte) : (s.setByte a b).deps = s.deps := rfl
@[simp] theorem State.setByte_sec (a : Nat) (b : Byte) : (s.setByte a b).sec = s.sec := rfl
@[simp] theorem State.setByte_host (a : Nat) (b : Byte) : (s.setByte a b).host = s.host := rfl
@[simp] theorem State.setByte_seeds (a : Nat) (b : Byte) : (s.setByte a b).seeds = s.seeds := rfl
@[simp] theorem State.setByte_omu (a : Nat) (b : Byte) : (s.setByte a b).omu = s.omu := rfl
@[simp] theorem State.setByte_opts (a : Nat) (b : Byte) : (s.setByte a b).opts = s.opts := rfl
@[simp] theorem State.setByte_gb (a : Nat) (b : Byte) : (s.setByte a b).gb = s.gb := rfl
@[simp] theorem State.setByte_elecs (a : Nat) (b : Byte) : (s.setByte a b).elecs = s.elecs := rfl
@[simp] theorem State.setByte_rst (a : Nat) (b : Byte) : (s.setByte a b).rst = s.rst := rfl
@[simp] theorem State.setByte_prin (a : Nat) (b : Byte) : (s.setByte a b).prin = s.prin := rfl

/-! ### zero -/

@[simp] theorem State.zero_pending (a n : Nat) : (s.zero a n).pending = s.pending := rfl
@[simp] theorem State.zero_now (a n : Nat) : (s.zero a n).now = s.now := rfl
@[simp] theorem State.zero_freeCtr (a n : Nat) : (s.zero a n).freeCtr = s.freeCtr := rfl
@[simp] theorem State.zero_regs (a n : Nat) : (s.zero a n).regs = s.regs := rfl
@[simp] theorem State.zero_latch (a n : Nat) : (s.zero a n).latch = s.latch := rfl
@[simp] theorem State.zero_hostMem (a n : Nat) : (s.zero a n).hostMem = s.hostMem := rfl
@[simp] theorem State.zero_out (a n : Nat) : (s.zero a n).out = s.out := rfl
@[simp] theorem State.zero_bell (a n : Nat) : (s.zero a n).bell = s.bell := rfl
@[simp] theorem State.zero_fab (a n : Nat) : (s.zero a n).fab = s.fab := rfl
@[simp] theorem State.zero_coh (a n : Nat) : (s.zero a n).coh = s.coh := rfl
@[simp] theorem State.zero_coll (a n : Nat) : (s.zero a n).coll = s.coll := rfl
@[simp] theorem State.zero_desks (a n : Nat) : (s.zero a n).desks = s.desks := rfl
@[simp] theorem State.zero_rooms (a n : Nat) : (s.zero a n).rooms = s.rooms := rfl
@[simp] theorem State.zero_plan (a n : Nat) : (s.zero a n).plan = s.plan := rfl
@[simp] theorem State.zero_xl (a n : Nat) : (s.zero a n).xl = s.xl := rfl
@[simp] theorem State.zero_strms (a n : Nat) : (s.zero a n).strms = s.strms := rfl
@[simp] theorem State.zero_g7m (a n : Nat) : (s.zero a n).g7m = s.g7m := rfl
@[simp] theorem State.zero_deps (a n : Nat) : (s.zero a n).deps = s.deps := rfl
@[simp] theorem State.zero_sec (a n : Nat) : (s.zero a n).sec = s.sec := rfl
@[simp] theorem State.zero_host (a n : Nat) : (s.zero a n).host = s.host := rfl
@[simp] theorem State.zero_seeds (a n : Nat) : (s.zero a n).seeds = s.seeds := rfl
@[simp] theorem State.zero_omu (a n : Nat) : (s.zero a n).omu = s.omu := rfl
@[simp] theorem State.zero_opts (a n : Nat) : (s.zero a n).opts = s.opts := rfl
@[simp] theorem State.zero_gb (a n : Nat) : (s.zero a n).gb = s.gb := rfl
@[simp] theorem State.zero_elecs (a n : Nat) : (s.zero a n).elecs = s.elecs := rfl
@[simp] theorem State.zero_rst (a n : Nat) : (s.zero a n).rst = s.rst := rfl
@[simp] theorem State.zero_prin (a n : Nat) : (s.zero a n).prin = s.prin := rfl

/-! ### emit -/

@[simp] theorem State.emit_pending (o : Out) : (s.emit o).pending = s.pending := rfl
@[simp] theorem State.emit_now (o : Out) : (s.emit o).now = s.now := rfl
@[simp] theorem State.emit_freeCtr (o : Out) : (s.emit o).freeCtr = s.freeCtr := rfl
@[simp] theorem State.emit_regs (o : Out) : (s.emit o).regs = s.regs := rfl
@[simp] theorem State.emit_latch (o : Out) : (s.emit o).latch = s.latch := rfl
@[simp] theorem State.emit_mem (o : Out) : (s.emit o).mem = s.mem := rfl
@[simp] theorem State.emit_hostMem (o : Out) : (s.emit o).hostMem = s.hostMem := rfl
@[simp] theorem State.emit_bell (o : Out) : (s.emit o).bell = s.bell := rfl
@[simp] theorem State.emit_fab (o : Out) : (s.emit o).fab = s.fab := rfl
@[simp] theorem State.emit_coh (o : Out) : (s.emit o).coh = s.coh := rfl
@[simp] theorem State.emit_coll (o : Out) : (s.emit o).coll = s.coll := rfl
@[simp] theorem State.emit_desks (o : Out) : (s.emit o).desks = s.desks := rfl
@[simp] theorem State.emit_rooms (o : Out) : (s.emit o).rooms = s.rooms := rfl
@[simp] theorem State.emit_plan (o : Out) : (s.emit o).plan = s.plan := rfl
@[simp] theorem State.emit_xl (o : Out) : (s.emit o).xl = s.xl := rfl
@[simp] theorem State.emit_strms (o : Out) : (s.emit o).strms = s.strms := rfl
@[simp] theorem State.emit_g7m (o : Out) : (s.emit o).g7m = s.g7m := rfl
@[simp] theorem State.emit_deps (o : Out) : (s.emit o).deps = s.deps := rfl
@[simp] theorem State.emit_sec (o : Out) : (s.emit o).sec = s.sec := rfl
@[simp] theorem State.emit_host (o : Out) : (s.emit o).host = s.host := rfl
@[simp] theorem State.emit_seeds (o : Out) : (s.emit o).seeds = s.seeds := rfl
@[simp] theorem State.emit_omu (o : Out) : (s.emit o).omu = s.omu := rfl
@[simp] theorem State.emit_opts (o : Out) : (s.emit o).opts = s.opts := rfl
@[simp] theorem State.emit_gb (o : Out) : (s.emit o).gb = s.gb := rfl
@[simp] theorem State.emit_elecs (o : Out) : (s.emit o).elecs = s.elecs := rfl
@[simp] theorem State.emit_rst (o : Out) : (s.emit o).rst = s.rst := rfl
@[simp] theorem State.emit_prin (o : Out) : (s.emit o).prin = s.prin := rfl

/-! ### setDesk -/

@[simp] theorem State.setDesk_pending (i : Nat) (d : Desk) : (s.setDesk i d).pending = s.pending := rfl
@[simp] theorem State.setDesk_now (i : Nat) (d : Desk) : (s.setDesk i d).now = s.now := rfl
@[simp] theorem State.setDesk_freeCtr (i : Nat) (d : Desk) : (s.setDesk i d).freeCtr = s.freeCtr := rfl
@[simp] theorem State.setDesk_regs (i : Nat) (d : Desk) : (s.setDesk i d).regs = s.regs := rfl
@[simp] theorem State.setDesk_latch (i : Nat) (d : Desk) : (s.setDesk i d).latch = s.latch := rfl
@[simp] theorem State.setDesk_mem (i : Nat) (d : Desk) : (s.setDesk i d).mem = s.mem := rfl
@[simp] theorem State.setDesk_hostMem (i : Nat) (d : Desk) : (s.setDesk i d).hostMem = s.hostMem := rfl
@[simp] theorem State.setDesk_out (i : Nat) (d : Desk) : (s.setDesk i d).out = s.out := rfl
@[simp] theorem State.setDesk_bell (i : Nat) (d : Desk) : (s.setDesk i d).bell = s.bell := rfl
@[simp] theorem State.setDesk_fab (i : Nat) (d : Desk) : (s.setDesk i d).fab = s.fab := rfl
@[simp] theorem State.setDesk_coh (i : Nat) (d : Desk) : (s.setDesk i d).coh = s.coh := rfl
@[simp] theorem State.setDesk_coll (i : Nat) (d : Desk) : (s.setDesk i d).coll = s.coll := rfl
@[simp] theorem State.setDesk_rooms (i : Nat) (d : Desk) : (s.setDesk i d).rooms = s.rooms := rfl
@[simp] theorem State.setDesk_plan (i : Nat) (d : Desk) : (s.setDesk i d).plan = s.plan := rfl
@[simp] theorem State.setDesk_xl (i : Nat) (d : Desk) : (s.setDesk i d).xl = s.xl := rfl
@[simp] theorem State.setDesk_strms (i : Nat) (d : Desk) : (s.setDesk i d).strms = s.strms := rfl
@[simp] theorem State.setDesk_g7m (i : Nat) (d : Desk) : (s.setDesk i d).g7m = s.g7m := rfl
@[simp] theorem State.setDesk_deps (i : Nat) (d : Desk) : (s.setDesk i d).deps = s.deps := rfl
@[simp] theorem State.setDesk_sec (i : Nat) (d : Desk) : (s.setDesk i d).sec = s.sec := rfl
@[simp] theorem State.setDesk_host (i : Nat) (d : Desk) : (s.setDesk i d).host = s.host := rfl
@[simp] theorem State.setDesk_seeds (i : Nat) (d : Desk) : (s.setDesk i d).seeds = s.seeds := rfl
@[simp] theorem State.setDesk_omu (i : Nat) (d : Desk) : (s.setDesk i d).omu = s.omu := rfl
@[simp] theorem State.setDesk_opts (i : Nat) (d : Desk) : (s.setDesk i d).opts = s.opts := rfl
@[simp] theorem State.setDesk_gb (i : Nat) (d : Desk) : (s.setDesk i d).gb = s.gb := rfl
@[simp] theorem State.setDesk_elecs (i : Nat) (d : Desk) : (s.setDesk i d).elecs = s.elecs := rfl
@[simp] theorem State.setDesk_rst (i : Nat) (d : Desk) : (s.setDesk i d).rst = s.rst := rfl
@[simp] theorem State.setDesk_prin (i : Nat) (d : Desk) : (s.setDesk i d).prin = s.prin := rfl

/-! ### setRoom -/

@[simp] theorem State.setRoom_pending (i : Nat) (r : Room) : (s.setRoom i r).pending = s.pending := rfl
@[simp] theorem State.setRoom_now (i : Nat) (r : Room) : (s.setRoom i r).now = s.now := rfl
@[simp] theorem State.setRoom_freeCtr (i : Nat) (r : Room) : (s.setRoom i r).freeCtr = s.freeCtr := rfl
@[simp] theorem State.setRoom_regs (i : Nat) (r : Room) : (s.setRoom i r).regs = s.regs := rfl
@[simp] theorem State.setRoom_latch (i : Nat) (r : Room) : (s.setRoom i r).latch = s.latch := rfl
@[simp] theorem State.setRoom_mem (i : Nat) (r : Room) : (s.setRoom i r).mem = s.mem := rfl
@[simp] theorem State.setRoom_hostMem (i : Nat) (r : Room) : (s.setRoom i r).hostMem = s.hostMem := rfl
@[simp] theorem State.setRoom_out (i : Nat) (r : Room) : (s.setRoom i r).out = s.out := rfl
@[simp] theorem State.setRoom_bell (i : Nat) (r : Room) : (s.setRoom i r).bell = s.bell := rfl
@[simp] theorem State.setRoom_fab (i : Nat) (r : Room) : (s.setRoom i r).fab = s.fab := rfl
@[simp] theorem State.setRoom_coh (i : Nat) (r : Room) : (s.setRoom i r).coh = s.coh := rfl
@[simp] theorem State.setRoom_coll (i : Nat) (r : Room) : (s.setRoom i r).coll = s.coll := rfl
@[simp] theorem State.setRoom_desks (i : Nat) (r : Room) : (s.setRoom i r).desks = s.desks := rfl
@[simp] theorem State.setRoom_plan (i : Nat) (r : Room) : (s.setRoom i r).plan = s.plan := rfl
@[simp] theorem State.setRoom_xl (i : Nat) (r : Room) : (s.setRoom i r).xl = s.xl := rfl
@[simp] theorem State.setRoom_strms (i : Nat) (r : Room) : (s.setRoom i r).strms = s.strms := rfl
@[simp] theorem State.setRoom_g7m (i : Nat) (r : Room) : (s.setRoom i r).g7m = s.g7m := rfl
@[simp] theorem State.setRoom_deps (i : Nat) (r : Room) : (s.setRoom i r).deps = s.deps := rfl
@[simp] theorem State.setRoom_sec (i : Nat) (r : Room) : (s.setRoom i r).sec = s.sec := rfl
@[simp] theorem State.setRoom_host (i : Nat) (r : Room) : (s.setRoom i r).host = s.host := rfl
@[simp] theorem State.setRoom_seeds (i : Nat) (r : Room) : (s.setRoom i r).seeds = s.seeds := rfl
@[simp] theorem State.setRoom_omu (i : Nat) (r : Room) : (s.setRoom i r).omu = s.omu := rfl
@[simp] theorem State.setRoom_opts (i : Nat) (r : Room) : (s.setRoom i r).opts = s.opts := rfl
@[simp] theorem State.setRoom_gb (i : Nat) (r : Room) : (s.setRoom i r).gb = s.gb := rfl
@[simp] theorem State.setRoom_elecs (i : Nat) (r : Room) : (s.setRoom i r).elecs = s.elecs := rfl
@[simp] theorem State.setRoom_rst (i : Nat) (r : Room) : (s.setRoom i r).rst = s.rst := rfl
@[simp] theorem State.setRoom_prin (i : Nat) (r : Room) : (s.setRoom i r).prin = s.prin := rfl

/-! ### setDep -/

@[simp] theorem State.setDep_pending (p : Nat) (d : Dep) : (s.setDep p d).pending = s.pending := rfl
@[simp] theorem State.setDep_now (p : Nat) (d : Dep) : (s.setDep p d).now = s.now := rfl
@[simp] theorem State.setDep_freeCtr (p : Nat) (d : Dep) : (s.setDep p d).freeCtr = s.freeCtr := rfl
@[simp] theorem State.setDep_regs (p : Nat) (d : Dep) : (s.setDep p d).regs = s.regs := rfl
@[simp] theorem State.setDep_latch (p : Nat) (d : Dep) : (s.setDep p d).latch = s.latch := rfl
@[simp] theorem State.setDep_mem (p : Nat) (d : Dep) : (s.setDep p d).mem = s.mem := rfl
@[simp] theorem State.setDep_hostMem (p : Nat) (d : Dep) : (s.setDep p d).hostMem = s.hostMem := rfl
@[simp] theorem State.setDep_out (p : Nat) (d : Dep) : (s.setDep p d).out = s.out := rfl
@[simp] theorem State.setDep_bell (p : Nat) (d : Dep) : (s.setDep p d).bell = s.bell := rfl
@[simp] theorem State.setDep_fab (p : Nat) (d : Dep) : (s.setDep p d).fab = s.fab := rfl
@[simp] theorem State.setDep_coh (p : Nat) (d : Dep) : (s.setDep p d).coh = s.coh := rfl
@[simp] theorem State.setDep_coll (p : Nat) (d : Dep) : (s.setDep p d).coll = s.coll := rfl
@[simp] theorem State.setDep_desks (p : Nat) (d : Dep) : (s.setDep p d).desks = s.desks := rfl
@[simp] theorem State.setDep_rooms (p : Nat) (d : Dep) : (s.setDep p d).rooms = s.rooms := rfl
@[simp] theorem State.setDep_plan (p : Nat) (d : Dep) : (s.setDep p d).plan = s.plan := rfl
@[simp] theorem State.setDep_xl (p : Nat) (d : Dep) : (s.setDep p d).xl = s.xl := rfl
@[simp] theorem State.setDep_strms (p : Nat) (d : Dep) : (s.setDep p d).strms = s.strms := rfl
@[simp] theorem State.setDep_g7m (p : Nat) (d : Dep) : (s.setDep p d).g7m = s.g7m := rfl
@[simp] theorem State.setDep_sec (p : Nat) (d : Dep) : (s.setDep p d).sec = s.sec := rfl
@[simp] theorem State.setDep_host (p : Nat) (d : Dep) : (s.setDep p d).host = s.host := rfl
@[simp] theorem State.setDep_seeds (p : Nat) (d : Dep) : (s.setDep p d).seeds = s.seeds := rfl
@[simp] theorem State.setDep_omu (p : Nat) (d : Dep) : (s.setDep p d).omu = s.omu := rfl
@[simp] theorem State.setDep_opts (p : Nat) (d : Dep) : (s.setDep p d).opts = s.opts := rfl
@[simp] theorem State.setDep_gb (p : Nat) (d : Dep) : (s.setDep p d).gb = s.gb := rfl
@[simp] theorem State.setDep_elecs (p : Nat) (d : Dep) : (s.setDep p d).elecs = s.elecs := rfl
@[simp] theorem State.setDep_rst (p : Nat) (d : Dep) : (s.setDep p d).rst = s.rst := rfl
@[simp] theorem State.setDep_prin (p : Nat) (d : Dep) : (s.setDep p d).prin = s.prin := rfl

/-! ### setEp -/

@[simp] theorem State.setEp_pending (p a : Nat) (v : Word) : (s.setEp p a v).pending = s.pending := rfl
@[simp] theorem State.setEp_now (p a : Nat) (v : Word) : (s.setEp p a v).now = s.now := rfl
@[simp] theorem State.setEp_freeCtr (p a : Nat) (v : Word) : (s.setEp p a v).freeCtr = s.freeCtr := rfl
@[simp] theorem State.setEp_regs (p a : Nat) (v : Word) : (s.setEp p a v).regs = s.regs := rfl
@[simp] theorem State.setEp_latch (p a : Nat) (v : Word) : (s.setEp p a v).latch = s.latch := rfl
@[simp] theorem State.setEp_mem (p a : Nat) (v : Word) : (s.setEp p a v).mem = s.mem := rfl
@[simp] theorem State.setEp_hostMem (p a : Nat) (v : Word) : (s.setEp p a v).hostMem = s.hostMem := rfl
@[simp] theorem State.setEp_out (p a : Nat) (v : Word) : (s.setEp p a v).out = s.out := rfl
@[simp] theorem State.setEp_bell (p a : Nat) (v : Word) : (s.setEp p a v).bell = s.bell := rfl
@[simp] theorem State.setEp_fab (p a : Nat) (v : Word) : (s.setEp p a v).fab = s.fab := rfl
@[simp] theorem State.setEp_coh (p a : Nat) (v : Word) : (s.setEp p a v).coh = s.coh := rfl
@[simp] theorem State.setEp_coll (p a : Nat) (v : Word) : (s.setEp p a v).coll = s.coll := rfl
@[simp] theorem State.setEp_desks (p a : Nat) (v : Word) : (s.setEp p a v).desks = s.desks := rfl
@[simp] theorem State.setEp_rooms (p a : Nat) (v : Word) : (s.setEp p a v).rooms = s.rooms := rfl
@[simp] theorem State.setEp_plan (p a : Nat) (v : Word) : (s.setEp p a v).plan = s.plan := rfl
@[simp] theorem State.setEp_xl (p a : Nat) (v : Word) : (s.setEp p a v).xl = s.xl := rfl
@[simp] theorem State.setEp_strms (p a : Nat) (v : Word) : (s.setEp p a v).strms = s.strms := rfl
@[simp] theorem State.setEp_g7m (p a : Nat) (v : Word) : (s.setEp p a v).g7m = s.g7m := rfl
@[simp] theorem State.setEp_sec (p a : Nat) (v : Word) : (s.setEp p a v).sec = s.sec := rfl
@[simp] theorem State.setEp_host (p a : Nat) (v : Word) : (s.setEp p a v).host = s.host := rfl
@[simp] theorem State.setEp_seeds (p a : Nat) (v : Word) : (s.setEp p a v).seeds = s.seeds := rfl
@[simp] theorem State.setEp_omu (p a : Nat) (v : Word) : (s.setEp p a v).omu = s.omu := rfl
@[simp] theorem State.setEp_opts (p a : Nat) (v : Word) : (s.setEp p a v).opts = s.opts := rfl
@[simp] theorem State.setEp_gb (p a : Nat) (v : Word) : (s.setEp p a v).gb = s.gb := rfl
@[simp] theorem State.setEp_elecs (p a : Nat) (v : Word) : (s.setEp p a v).elecs = s.elecs := rfl
@[simp] theorem State.setEp_rst (p a : Nat) (v : Word) : (s.setEp p a v).rst = s.rst := rfl
@[simp] theorem State.setEp_prin (p a : Nat) (v : Word) : (s.setEp p a v).prin = s.prin := rfl

/-! ### setReady -/

@[simp] theorem State.setReady_pending (i : Nat) (b : Bool) : (s.setReady i b).pending = s.pending := rfl
@[simp] theorem State.setReady_now (i : Nat) (b : Bool) : (s.setReady i b).now = s.now := rfl
@[simp] theorem State.setReady_freeCtr (i : Nat) (b : Bool) : (s.setReady i b).freeCtr = s.freeCtr := rfl
@[simp] theorem State.setReady_latch (i : Nat) (b : Bool) : (s.setReady i b).latch = s.latch := rfl
@[simp] theorem State.setReady_mem (i : Nat) (b : Bool) : (s.setReady i b).mem = s.mem := rfl
@[simp] theorem State.setReady_hostMem (i : Nat) (b : Bool) : (s.setReady i b).hostMem = s.hostMem := rfl
@[simp] theorem State.setReady_out (i : Nat) (b : Bool) : (s.setReady i b).out = s.out := rfl
@[simp] theorem State.setReady_bell (i : Nat) (b : Bool) : (s.setReady i b).bell = s.bell := rfl
@[simp] theorem State.setReady_fab (i : Nat) (b : Bool) : (s.setReady i b).fab = s.fab := rfl
@[simp] theorem State.setReady_coh (i : Nat) (b : Bool) : (s.setReady i b).coh = s.coh := rfl
@[simp] theorem State.setReady_coll (i : Nat) (b : Bool) : (s.setReady i b).coll = s.coll := rfl
@[simp] theorem State.setReady_desks (i : Nat) (b : Bool) : (s.setReady i b).desks = s.desks := rfl
@[simp] theorem State.setReady_rooms (i : Nat) (b : Bool) : (s.setReady i b).rooms = s.rooms := rfl
@[simp] theorem State.setReady_plan (i : Nat) (b : Bool) : (s.setReady i b).plan = s.plan := rfl
@[simp] theorem State.setReady_xl (i : Nat) (b : Bool) : (s.setReady i b).xl = s.xl := rfl
@[simp] theorem State.setReady_strms (i : Nat) (b : Bool) : (s.setReady i b).strms = s.strms := rfl
@[simp] theorem State.setReady_g7m (i : Nat) (b : Bool) : (s.setReady i b).g7m = s.g7m := rfl
@[simp] theorem State.setReady_deps (i : Nat) (b : Bool) : (s.setReady i b).deps = s.deps := rfl
@[simp] theorem State.setReady_sec (i : Nat) (b : Bool) : (s.setReady i b).sec = s.sec := rfl
@[simp] theorem State.setReady_host (i : Nat) (b : Bool) : (s.setReady i b).host = s.host := rfl
@[simp] theorem State.setReady_seeds (i : Nat) (b : Bool) : (s.setReady i b).seeds = s.seeds := rfl
@[simp] theorem State.setReady_omu (i : Nat) (b : Bool) : (s.setReady i b).omu = s.omu := rfl
@[simp] theorem State.setReady_opts (i : Nat) (b : Bool) : (s.setReady i b).opts = s.opts := rfl
@[simp] theorem State.setReady_gb (i : Nat) (b : Bool) : (s.setReady i b).gb = s.gb := rfl
@[simp] theorem State.setReady_elecs (i : Nat) (b : Bool) : (s.setReady i b).elecs = s.elecs := rfl
@[simp] theorem State.setReady_rst (i : Nat) (b : Bool) : (s.setReady i b).rst = s.rst := rfl
@[simp] theorem State.setReady_prin (i : Nat) (b : Bool) : (s.setReady i b).prin = s.prin := rfl

/-! ### setBytes -/

@[simp] theorem State.setBytes_pending (a : Nat) (l : List Byte) : (s.setBytes a l).pending = s.pending := by
  induction l generalizing s a with
  | nil => rfl
  | cons b r ih => exact ih (s.setByte a b) (a + 1)
@[simp] theorem State.setBytes_now (a : Nat) (l : List Byte) : (s.setBytes a l).now = s.now := by
  induction l generalizing s a with
  | nil => rfl
  | cons b r ih => exact ih (s.setByte a b) (a + 1)
@[simp] theorem State.setBytes_freeCtr (a : Nat) (l : List Byte) : (s.setBytes a l).freeCtr = s.freeCtr := by
  induction l generalizing s a with
  | nil => rfl
  | cons b r ih => exact ih (s.setByte a b) (a + 1)
@[simp] theorem State.setBytes_regs (a : Nat) (l : List Byte) : (s.setBytes a l).regs = s.regs := by
  induction l generalizing s a with
  | nil => rfl
  | cons b r ih => exact ih (s.setByte a b) (a + 1)
@[simp] theorem State.setBytes_latch (a : Nat) (l : List Byte) : (s.setBytes a l).latch = s.latch := by
  induction l generalizing s a with
  | nil => rfl
  | cons b r ih => exact ih (s.setByte a b) (a + 1)
@[simp] theorem State.setBytes_hostMem (a : Nat) (l : List Byte) : (s.setBytes a l).hostMem = s.hostMem := by
  induction l generalizing s a with
  | nil => rfl
  | cons b r ih => exact ih (s.setByte a b) (a + 1)
@[simp] theorem State.setBytes_out (a : Nat) (l : List Byte) : (s.setBytes a l).out = s.out := by
  induction l generalizing s a with
  | nil => rfl
  | cons b r ih => exact ih (s.setByte a b) (a + 1)
@[simp] theorem State.setBytes_bell (a : Nat) (l : List Byte) : (s.setBytes a l).bell = s.bell := by
  induction l generalizing s a with
  | nil => rfl
  | cons b r ih => exact ih (s.setByte a b) (a + 1)
@[simp] theorem State.setBytes_fab (a : Nat) (l : List Byte) : (s.setBytes a l).fab = s.fab := by
  induction l generalizing s a with
  | nil => rfl
  | cons b r ih => exact ih (s.setByte a b) (a + 1)
@[simp] theorem State.setBytes_coh (a : Nat) (l : List Byte) : (s.setBytes a l).coh = s.coh := by
  induction l generalizing s a with
  | nil => rfl
  | cons b r ih => exact ih (s.setByte a b) (a + 1)
@[simp] theorem State.setBytes_coll (a : Nat) (l : List Byte) : (s.setBytes a l).coll = s.coll := by
  induction l generalizing s a with
  | nil => rfl
  | cons b r ih => exact ih (s.setByte a b) (a + 1)
@[simp] theorem State.setBytes_desks (a : Nat) (l : List Byte) : (s.setBytes a l).desks = s.desks := by
  induction l generalizing s a with
  | nil => rfl
  | cons b r ih => exact ih (s.setByte a b) (a + 1)
@[simp] theorem State.setBytes_rooms (a : Nat) (l : List Byte) : (s.setBytes a l).rooms = s.rooms := by
  induction l generalizing s a with
  | nil => rfl
  | cons b r ih => exact ih (s.setByte a b) (a + 1)
@[simp] theorem State.setBytes_plan (a : Nat) (l : List Byte) : (s.setBytes a l).plan = s.plan := by
  induction l generalizing s a with
  | nil => rfl
  | cons b r ih => exact ih (s.setByte a b) (a + 1)
@[simp] theorem State.setBytes_xl (a : Nat) (l : List Byte) : (s.setBytes a l).xl = s.xl := by
  induction l generalizing s a with
  | nil => rfl
  | cons b r ih => exact ih (s.setByte a b) (a + 1)
@[simp] theorem State.setBytes_strms (a : Nat) (l : List Byte) : (s.setBytes a l).strms = s.strms := by
  induction l generalizing s a with
  | nil => rfl
  | cons b r ih => exact ih (s.setByte a b) (a + 1)
@[simp] theorem State.setBytes_g7m (a : Nat) (l : List Byte) : (s.setBytes a l).g7m = s.g7m := by
  induction l generalizing s a with
  | nil => rfl
  | cons b r ih => exact ih (s.setByte a b) (a + 1)
@[simp] theorem State.setBytes_deps (a : Nat) (l : List Byte) : (s.setBytes a l).deps = s.deps := by
  induction l generalizing s a with
  | nil => rfl
  | cons b r ih => exact ih (s.setByte a b) (a + 1)
@[simp] theorem State.setBytes_sec (a : Nat) (l : List Byte) : (s.setBytes a l).sec = s.sec := by
  induction l generalizing s a with
  | nil => rfl
  | cons b r ih => exact ih (s.setByte a b) (a + 1)
@[simp] theorem State.setBytes_host (a : Nat) (l : List Byte) : (s.setBytes a l).host = s.host := by
  induction l generalizing s a with
  | nil => rfl
  | cons b r ih => exact ih (s.setByte a b) (a + 1)
@[simp] theorem State.setBytes_seeds (a : Nat) (l : List Byte) : (s.setBytes a l).seeds = s.seeds := by
  induction l generalizing s a with
  | nil => rfl
  | cons b r ih => exact ih (s.setByte a b) (a + 1)
@[simp] theorem State.setBytes_omu (a : Nat) (l : List Byte) : (s.setBytes a l).omu = s.omu := by
  induction l generalizing s a with
  | nil => rfl
  | cons b r ih => exact ih (s.setByte a b) (a + 1)
@[simp] theorem State.setBytes_opts (a : Nat) (l : List Byte) : (s.setBytes a l).opts = s.opts := by
  induction l generalizing s a with
  | nil => rfl
  | cons b r ih => exact ih (s.setByte a b) (a + 1)
@[simp] theorem State.setBytes_gb (a : Nat) (l : List Byte) : (s.setBytes a l).gb = s.gb := by
  induction l generalizing s a with
  | nil => rfl
  | cons b r ih => exact ih (s.setByte a b) (a + 1)
@[simp] theorem State.setBytes_elecs (a : Nat) (l : List Byte) : (s.setBytes a l).elecs = s.elecs := by
  induction l generalizing s a with
  | nil => rfl
  | cons b r ih => exact ih (s.setByte a b) (a + 1)
@[simp] theorem State.setBytes_rst (a : Nat) (l : List Byte) : (s.setBytes a l).rst = s.rst := by
  induction l generalizing s a with
  | nil => rfl
  | cons b r ih => exact ih (s.setByte a b) (a + 1)
@[simp] theorem State.setBytes_prin (a : Nat) (l : List Byte) : (s.setBytes a l).prin = s.prin := by
  induction l generalizing s a with
  | nil => rfl
  | cons b r ih => exact ih (s.setByte a b) (a + 1)

/-! ### Registers -/

@[simp] theorem State.reg_setReg (a : Nat) (v : Word) (b : Nat) : (s.setReg a v).reg b = if a = b then v else s.reg b := by
  simp [State.reg, State.setReg]
theorem State.reg_setReg_ne (a : Nat) (v : Word) (b : Nat) (h : b ≠ a) : (s.setReg a v).reg b = s.reg b := by
  simp [Ne.symm h]
theorem State.reg_setRegF_ne (a lo len v b : Nat) (h : b ≠ a) : (s.setRegF a lo len v).reg b = s.reg b :=
  s.reg_setReg_ne a _ b h
theorem State.reg_setRegBit_ne (a i : Nat) (x : Bool) (b : Nat) (h : b ≠ a) : (s.setRegBit a i x).reg b = s.reg b :=
  s.reg_setReg_ne a _ b h
theorem State.reg_count_ne (a b : Nat) (h : b ≠ a) : (s.count a).reg b = s.reg b := s.reg_setReg_ne a _ b h
@[simp] theorem State.reg_count (a : Nat) : (s.count a).reg a = s.reg a + 1 := by simp [State.count, State.addReg]
/-- A field that is written reads as what was written, cut to its width. -/
theorem State.regF_setRegF (a lo len v : Nat) (h : lo + len ≤ 64) : (s.setRegF a lo len v).regF a lo len = v % 2 ^ len := by
  simp [State.regF, State.setRegF, fget_fset_same _ _ _ _ h]
theorem State.regF_setRegF_below (a lo len v lo' len' : Nat) (h : lo + len ≤ 64) (hb : lo' + len' ≤ lo) :
    (s.setRegF a lo len v).regF a lo' len' = s.regF a lo' len' := by
  simp [State.regF, State.setRegF, fget_fset_below _ _ _ _ _ _ h hb]
theorem State.regF_setRegF_above (a lo len v lo' len' : Nat) (h : lo + len ≤ 64) (hb : lo + len ≤ lo') :
    (s.setRegF a lo len v).regF a lo' len' = s.regF a lo' len' := by
  simp [State.regF, State.setRegF, fget_fset_above _ _ _ _ _ _ h hb]
theorem State.regF_setReg_ne (a : Nat) (v : Word) (b lo len : Nat) (h : b ≠ a) : (s.setReg a v).regF b lo len = s.regF b lo len := by
  simp [State.regF, Ne.symm h]
theorem State.regF_setRegF_ne (a lo len v b lo' len' : Nat) (h : b ≠ a) : (s.setRegF a lo len v).regF b lo' len' = s.regF b lo' len' :=
  s.regF_setReg_ne a _ b lo' len' h
theorem State.regBit_setRegBit (a i : Nat) (x : Bool) (h : i < 64) : (s.setRegBit a i x).regBit a i = x := by
  have := s.regF_setRegF a i 1 x.toNat (by omega)
  cases x <;> simp_all [State.regBit, State.setRegBit]
theorem State.regBit_setRegBit_other (a i : Nat) (x : Bool) (j : Nat) (h : i < 64) (hj : j ≠ i) :
    (s.setRegBit a i x).regBit a j = s.regBit a j := by
  rcases Nat.lt_or_gt_of_ne hj with h1 | h1
  · simp [State.regBit, State.setRegBit, s.regF_setRegF_below a i 1 _ j 1 (by omega) (by omega)]
  · simp [State.regBit, State.setRegBit, s.regF_setRegF_above a i 1 _ j 1 (by omega) (by omega)]
theorem State.regBit_setRegBit_ne (a i : Nat) (x : Bool) (b j : Nat) (h : b ≠ a) : (s.setRegBit a i x).regBit b j = s.regBit b j := by
  simp [State.regBit, State.setRegBit, s.regF_setRegF_ne a i 1 _ b j 1 h]
/-- A write of a whole register replaces what an earlier one left. -/
theorem State.regs_setReg_setReg (a : Nat) (u v : Word) : ((s.setReg a u).setReg a v).regs = (s.setReg a v).regs := by
  simp [State.setReg, tput_tput]
/-- Only the register written differs. -/
theorem State.onlyRegs_setReg (a : Nat) (v : Word) (l : List Nat) (h : a ∈ l) :
    { s.setReg a v with regs := s.regs } = s ∧ ∀ b, b ∉ l → (s.setReg a v).reg b = s.reg b :=
  ⟨rfl, fun b hb => s.reg_setReg_ne a v b (by rintro rfl; exact hb h)⟩

/-! ### Memory -/

@[simp] theorem State.byte_setByte (a : Nat) (b : Byte) (c : Nat) : (s.setByte a b).byte c = if a = c then b else s.byte c := by
  simp [State.byte, State.setByte]
/-- Bytes outside those written read as before. -/
theorem State.byte_setBytes_outside (a : Nat) (l : List Byte) (c : Nat) (h : c < a ∨ a + l.length ≤ c) :
    (s.setBytes a l).byte c = s.byte c := by
  induction l generalizing s a with
  | nil => rfl
  | cons b r ih =>
    have hl : (b :: r).length = r.length + 1 := rfl
    rw [State.setBytes, ih (s.setByte a b) (a + 1) (by omega), State.byte_setByte, if_neg (by omega)]
/-- A byte written reads as what was written. -/
theorem State.byte_setBytes_inside (a : Nat) (l : List Byte) (k : Nat) (h : k < l.length) :
    (s.setBytes a l).byte (a + k) = l[k] := by
  induction l generalizing s a k with
  | nil => exact absurd h (by simp)
  | cons b r ih =>
    cases k with
    | zero =>
      rw [State.setBytes, State.byte_setBytes_outside _ _ _ _ (by omega)]
      simp
    | succ k =>
      have h2 : k < r.length := by simpa using h
      have := ih (s.setByte a b) (a + 1) k h2
      rw [State.setBytes, show a + (k + 1) = a + 1 + k by omega, this]
      rfl
@[simp] theorem State.bytes_length (a n : Nat) : (s.bytes a n).length = n := by
  induction n generalizing a with
  | zero => rfl
  | succ n ih => simp [State.bytes, ih]
theorem State.bytes_getElem (a n k : Nat) (h : k < (s.bytes a n).length) : (s.bytes a n)[k] = s.byte (a + k) := by
  induction n generalizing a k with
  | zero => exact absurd h (by simp)
  | succ n ih =>
    cases k with
    | zero => rfl
    | succ k =>
      have := ih (a + 1) k (by simpa using h)
      simpa [State.bytes, show a + 1 + k = a + (k + 1) by omega] using this
/-- A byte string written reads back. -/
theorem State.bytes_setBytes (a : Nat) (l : List Byte) : (s.setBytes a l).bytes a l.length = l := by
  apply List.ext_getElem (by simp)
  intro k h1 h2
  rw [State.bytes_getElem, State.byte_setBytes_inside _ _ _ _ h2]
@[simp] theorem State.byte_zero (a n c : Nat) : (s.zero a n).byte c = if a ≤ c ∧ c < a + n then 0 else s.byte c := by
  simp [State.byte, State.zero, memDefault]

/-! ### Desks, Classrooms and DEP-7s -/

@[simp] theorem State.desk_setDesk (i : Nat) (d : Desk) (j : Nat) : (s.setDesk i d).desk j = if i = j then d else s.desk j := by
  simp [State.desk, State.setDesk]
@[simp] theorem State.room_setRoom (i : Nat) (r : Room) (j : Nat) : (s.setRoom i r).room j = if i = j then r else s.room j := by
  simp [State.room, State.setRoom]
@[simp] theorem State.dep_setDep (p : Nat) (d : Dep) (q : Nat) : (s.setDep p d).dep q = if p = q then d else s.dep q := by
  simp [State.dep, State.setDep]
@[simp] theorem State.ep_setEp (p a : Nat) (v : Word) (b : Nat) : (s.setEp p a v).ep p b = if a = b then v else s.ep p b := by
  simp [State.ep, State.setEp]
theorem State.ep_setEp_port (p a : Nat) (v : Word) (q b : Nat) (h : q ≠ p) : (s.setEp p a v).ep q b = s.ep q b := by
  simp [State.ep, State.setEp, Ne.symm h]

end Sys2Proof.Machine
end

