-- ==== Sys2Proof/Laws/Regs.lean ====
section
/-! SUPPORT. Fields of registers as bit extracts, and what a write from outside leaves in them. -/

namespace Sys2Proof.Machine

/-- A field is the number of the bits it takes. -/
theorem fget_extract (w : Word) (lo len : Nat) : fget w lo len = (w.extractLsb' lo len).toNat := by
  simp [fget, BitVec.extractLsb'_toNat, Nat.shiftRight_eq_div_pow]
/-- Two words with the same bits in a field have the same field. -/
theorem fget_congr (w v : Word) (lo len : Nat) (h : ∀ i, lo ≤ i → i < lo + len → w.getLsbD i = v.getLsbD i) :
    fget w lo len = fget v lo len := by
  rw [fget_extract, fget_extract]
  congr 1
  ext i hi
  simp only [BitVec.getElem_extractLsb']
  exact h (lo + i) (by omega) (by omega)
/-- A writable field takes the value written. -/
theorem fget_written (sp : RegSpec) (old v : Word) (lo len : Nat)
    (h : ∀ i, lo ≤ i → i < lo + len → sp.rw.getLsbD i = true ∧ sp.w1c.getLsbD i = false) :
    fget (sp.written old v allBits) lo len = fget v lo len := by
  apply fget_congr
  intro i h1 h2
  obtain ⟨h3, h4⟩ := h i h1 h2
  have hi : i < 64 := BitVec.lt_of_getLsbD h3
  simp only [RegSpec.written, allBits, BitVec.getLsbD_and, BitVec.getLsbD_or, BitVec.getLsbD_not, BitVec.getLsbD_allOnes, h3, h4, hi]
  simp
/-- The same with the writable bits given as a mask. -/
theorem fget_written_mask (sp : RegSpec) (old v : Word) (lo len : Nat) (h64 : lo + len ≤ 64)
    (h : ∀ i : Fin 64, lo ≤ i.val → i.val < lo + len → sp.rw.getLsbD i.val = true ∧ sp.w1c.getLsbD i.val = false) :
    fget (sp.written old v allBits) lo len = fget v lo len :=
  fget_written sp old v lo len (fun i h1 h2 => h ⟨i, by omega⟩ h1 h2)
/-- A plain write of a whole register changes that register alone. -/
theorem State.onlyRegs_writePlain (s : State) (a : Nat) (v m : Word) :
    { s.writePlain a v m with regs := s.regs } = s ∧ ∀ b, b ∉ [a] → (s.writePlain a v m).reg b = s.reg b :=
  s.onlyRegs_setReg a _ [a] (by simp)
theorem State.onlyRegs_setRegBit (s : State) (a i : Nat) (x : Bool) :
    { s.setRegBit a i x with regs := s.regs } = s ∧ ∀ b, b ∉ [a] → (s.setRegBit a i x).reg b = s.reg b :=
  s.onlyRegs_setReg a _ [a] (by simp)
/-- What a plain write leaves in a writable field. -/
theorem State.regF_writePlain (s : State) (a : Nat) (v : Word) (lo len : Nat) (h64 : lo + len ≤ 64)
    (h : ∀ i : Fin 64, lo ≤ i.val → i.val < lo + len → (regSpec a).rw.getLsbD i.val = true ∧ (regSpec a).w1c.getLsbD i.val = false) :
    (s.writePlain a v allBits).regF a lo len = fget v lo len := by
  simp [State.writePlain, State.regF, fget_written_mask _ _ _ _ _ h64 h]

end Sys2Proof.Machine
end

