-- ==== Sys2Proof/Tests/Slice0.lean ====
section
/-! SUPPORT. Tests: ill-formed commands, the worked examples of the spec, and for every statement that has hypotheses a named
theorem that shows a state and operands which meet them together. -/

section
set_option Elab.async false

open Sys2Proof Sys2Proof.Machine

namespace Sys2Proof.Tests
def rdy (s : State) : State := (s.setReg rGlbReady (BitVec.allOnes 64)).setReg (rGlbReady + 8) 0x3F
def lcg (n : Nat) : Nat := (n * 6364136223846793005 + 1442695040888963407) % 2 ^ 64
def rands : Nat → Nat → List Nat
  | 0, _ => []
  | k + 1, n => let m := lcg n; (m / 2 ^ 7) :: rands k m
def rb (n k : Nat) : List Byte := (rands k n).map (BitVec.ofNat 8)
def seatR (n : Nat) : Seat :=
  { st := .ready, p := BitVec.ofNat 8 (lcg n / 256), rtag := 3, srStream := 5, srElem := 9, pc := 100, blocks := [6],
    v := Vector.ofFn (fun i : Fin 32 => BitVec.ofNat 128 (lcg (n + i.val) * 2 ^ 64 + lcg (n + 100 + i.val))),
    s := Vector.ofFn (fun i : Fin 16 => BitVec.ofNat 64 (if i.val % 3 = 0 then lcg (n + 200 + i.val) else lcg (n+i.val) % 200)) }
def chalkS (n : Nat) : State :=
  let s := rdy { State.reset with bell := { State.reset.bell with phase := .body } }
  let d : Desk := { seats := (Vector.replicate 4 ({} : Seat)).set 0 (seatR n), cohort := some 5, started := 1 }
  ((s.setDesk 0 { d with t0 := BitVec.ofNat 640 (lcg n), t1 := BitVec.ofNat 640 (lcg (n+1)) }).poke (slateBase 0) (rb n 64)).poke 0xC0000000000 (rb (n+5) 64)
def tt0 : Timetable := { dclk := 33000, minGuard := 256, strict := false, planFirst := 0, planCount := 0, run := 1, crcOk := true, roles := [], plan := [], engines := [], prisms := [], preloads := [], colls := [], steps := [], lanes := [], owners := [], holds := [], ports := [] }
def im0 : PageImage := { dclk := 33000, minGuard := 256, strict := false, planFirst := 0, planCount := 0, run := 1, crcOk := true, roles := [], plan := [], engines := [], prisms := [], preloads := [], colls := [], steps := [], lanes := [], owners := [], holds := [], ports := [] }
def mkF (op len : Nat) (fpa : Nat) (pl : List Byte) : Frame := { blankFrame with opcode := BitVec.ofNat 8 op, length := BitVec.ofNat 12 len, fpa := BitVec.ofNat 56 fpa, payload := pl, vc := 1 }
theorem sealed_crc (g : Frame) : (Frame.sealed g).crc = Frame.goodCrc (Frame.sealed g) := rfl
def nz (s : State) : State := s

/-- A request of an engine of the module: opcode, bytes, operand. -/
def rq (op n : Nat) (pl : List Byte) (a : Nat) : Req :=
  ⟨.stream 0 0, { blankFrame with opcode := BitVec.ofNat 8 op, fpa := BitVec.ofNat 56 a, src := 5, length := BitVec.ofNat 12 n, payload := pl, vc := 1 }⟩
theorem atOnce_of (s : State) (r : Req) (h : s.whereIs (Req.off r) = .general)
    (k : Req.isFrame r = false ∧ s.refusal r = none ∧ s.mustWait r = false ∧ s.lateRefusal r = none ∧ ∀ l ∈ Req.lines r, s.dirOf l = {}) :
    AtOnce s r :=
  ⟨k.1, fun off => by rw [h]; nofun, k.2.1, k.2.2.1, k.2.2.2.1, fun _ => k.2.2.2.2⟩
/-- A request of every family that its home performs at once. -/
theorem hyps_atOnce : AtOnce (rdy State.reset) (rq 1 8 [] 64) ∧ AtOnce (rdy State.reset) (rq 2 8 (List.replicate 8 3) 64) ∧
    AtOnce (rdy State.reset) (rq 0x11 8 (List.replicate 8 3) 64) ∧ AtOnce (rdy State.reset) (rq 0x20 4 (List.replicate 4 3) 64) ∧
    AtOnce (rdy State.reset) (rq 0x30 4 (List.replicate 4 3) 64) ∧ AtOnce (rdy State.reset) (rq 0x40 4 (List.replicate 4 3) 64) ∧
    AtOnce (rdy State.reset) (rq 0x50 4 (List.replicate 4 3) 64) ∧ AtOnce (rdy State.reset) (rq 0x51 8 (List.replicate 8 3) 64) ∧
    AtOnce (rdy State.reset) (rq 0x52 8 (List.replicate 16 3) 64) ∧ AtOnce (rdy State.reset) (rq 0x53 16 (List.replicate 32 3) 64) ∧
    AtOnce (rdy State.reset) (rq 0x54 4 (List.replicate 4 3) 64) ∧ AtOnce (rdy State.reset) (rq 0x55 8 (List.replicate 8 3) 64) ∧
    AtOnce (rdy State.reset) (rq 0x56 4 (List.replicate 4 3) 64) ∧ AtOnce (rdy State.reset) (rq 0x57 8 (List.replicate 8 3) 64) ∧
    AtOnce (rdy State.reset) (rq 0x58 4 (List.replicate 4 3) 64) ∧ AtOnce (rdy State.reset) (rq 0x59 8 (List.replicate 8 3) 64) := by
  refine ⟨?_, ?_, ?_, ?_, ?_, ?_, ?_, ?_, ?_, ?_, ?_, ?_, ?_, ?_, ?_, ?_⟩ <;> exact atOnce_of _ _ (by decide +kernel) (by decide +kernel)
/-- A Seat's request, at a general byte. -/
def dq (op n : Nat) (pl : List Byte) (a : Nat) : Req := { rq op n pl a with via := .desk ⟨0, 0, 0⟩ 0 1 }
theorem alone_of (r : Req) (h : (rdy State.reset).whereIs (Req.off r) = .general) (v : r.via = .desk ⟨0, 0, 0⟩ 0 1)
    (k : Req.isFrame r = false ∧ (rdy State.reset).refusal r = none ∧ (rdy State.reset).mustWait r = false ∧
      (rdy State.reset).lateRefusal r = none ∧ ∀ l ∈ Req.lines r, (rdy State.reset).dirOf l = {})
    (m : (rdy State.reset).slotted (Req.op r) = false ∧ ∀ l ∈ Req.lines r, (rdy State.reset).lineBad l = false) :
    AtOnce (rdy State.reset) r ∧ Alone (rdy State.reset) r ⟨0, 0, 0⟩ 0 1 ∧ OnBytes (rdy State.reset) r :=
  ⟨atOnce_of _ _ h k, ⟨v, by decide +kernel, by decide +kernel⟩, m.1, fun _ _ => by rw [h]; nofun, m.2⟩
/-- Requests on memory itself of every family: a load, a store, a RED of integers, an atomic; and one of them refused. -/
theorem hyps_alone : ∀ r ∈ [dq 1 8 [] 64, dq 2 8 (List.replicate 8 3) 64, dq 0x11 8 (List.replicate 8 3) 64,
    dq 0x20 4 (List.replicate 4 3) 64, dq 0x30 4 (List.replicate 4 3) 64, dq 0x40 4 (List.replicate 4 3) 64,
    dq 0x50 4 (List.replicate 4 3) 64, dq 0x51 8 (List.replicate 8 3) 64, dq 0x52 8 (List.replicate 16 3) 64,
    dq 0x53 16 (List.replicate 32 3) 64, dq 0x54 4 (List.replicate 4 3) 64, dq 0x55 8 (List.replicate 8 3) 64,
    dq 0x56 4 (List.replicate 4 3) 64, dq 0x57 8 (List.replicate 8 3) 64, dq 0x58 4 (List.replicate 4 3) 64, dq 0x59 8 (List.replicate 8 3) 64],
    AtOnce (rdy State.reset) r ∧ Alone (rdy State.reset) r ⟨0, 0, 0⟩ 0 1 ∧ OnBytes (rdy State.reset) r := by
  intro r hr
  have h : r.via = .desk ⟨0, 0, 0⟩ 0 1 ∧ (rdy State.reset).whereIs (Req.off r) = .general ∧
      (Req.isFrame r = false ∧ (rdy State.reset).refusal r = none ∧ (rdy State.reset).mustWait r = false ∧
        (rdy State.reset).lateRefusal r = none ∧ ∀ l ∈ Req.lines r, (rdy State.reset).dirOf l = {}) ∧
      (rdy State.reset).slotted (Req.op r) = false ∧ ∀ l ∈ Req.lines r, (rdy State.reset).lineBad l = false := by
    revert r; decide +kernel
  exact alone_of r h.2.1 h.1 h.2.2.1 h.2.2.2
theorem hyps_refused : Alone (rdy State.reset) (dq 1 8 [] 2047) ⟨0, 0, 0⟩ 0 1 ∧ Req.isFrame (dq 1 8 [] 2047) = false ∧
    (∀ off, (rdy State.reset).whereIs (Req.off (dq 1 8 [] 2047)) ≠ .mirror off) ∧
    (rdy State.reset).refusal (dq 1 8 [] 2047) = some stAlign :=
  ⟨⟨rfl, by decide +kernel, by decide +kernel⟩, by decide +kernel,
    fun off => by rw [show (rdy State.reset).whereIs (Req.off (dq 1 8 [] 2047)) = .general from by decide +kernel]; nofun, by decide +kernel⟩
/-- Each status of R106 from FENCED to ROLE, and a request that none refuses. -/
theorem hyps_StatusPrecedence :
    State.reset.isFenced (State.reset.whereIs 64) 64 8 = true ∧
    (State.reset.isFenced (State.reset.whereIs 0xE0000000000) 0xE0000000000 8 = false ∧ State.reset.whereIs 0xE0000000000 = .hole) ∧
    (rdy State.reset).refusal (rq 1 8 [] 2047) = some stAlign ∧
    (rdy (State.reset.setReg rTtRegion (2 ^ 48))).refusal (rq 0x50 4 (List.replicate 4 0) 64) = some stPerm ∧
    (rdy (State.reset.setReg (rSeal + 8) 0x200000 |>.setReg (rSeal + 16) (2 ^ 24))).refusal (rq 1 8 [] 64) = some stSealed ∧
    (rdy State.reset).refusal ⟨.fabric 128, { blankFrame with opcode := 1, fpa := 0xD0000000000, length := 8 }⟩ = some stRole ∧
    (rdy State.reset).refusal (rq 1 8 [] 64) = none := by decide +kernel
/-- A die's beat that is taken, and one whose tag is in use. -/
def beat0 : RqBeat :=
  { thread := 0, tag := 1, op := 1, type := 0, attr := 0, scope := 0, fetch := false, fva := 0x1000, len := 63, group := 0,
    rowLen := 15, rows := 1, stride := 64 }
theorem hyps_beats :
    ((∀ r ∈ (State.reset.dep 0).reqs, r.b.tag ≠ beat0.tag) ∧ (State.reset.dep 0).reqs.length < 2048 ∧
      ((State.reset.dep 0).reqs.filter (fun r => r.b.thread = beat0.thread)).length < 256) ∧
    ∃ r ∈ ((State.reset.setDep 0 { reqs := [{ id := 1, b := beat0 }] }).dep 0).reqs, r.b.tag = beat0.tag := by decide +kernel
/-- An idle block whose link is up, and beats of its three cases: data to come, not legal, and a walk to start. -/
def idleDep : State := State.reset.setDep 0 { State.reset.dep 0 with regs := [(eStatus, 0x800), (eNode, 0x8000000000000009)] }
theorem hyps_beatCases : DieIdle (idleDep.dep 0) ∧ 0 < wdBytes { beat0 with op := 2 } ∧ wdBytes beat0 = 0 ∧ beatLegal beat0 = true ∧
    beatLegal { beat0 with scope := 1 } = false ∧ wdBytes { beat0 with scope := 1 } = 0 ∧ beat0.op ≠ 8 ∧ idleDep.epBit 0 eNode 63 = true ∧
    (idleDep.dep 0).tlb = [] ∧ idleDep.depWalks 0 = [] ∧ idleDep.epBit 0 eStatus 11 = true := by
  unfold DieIdle; decide +kernel
/-- A value that each checked register of the Bell takes at reset, at the bounds of its range, and one that it refuses. -/
theorem hyps_bellFields : State.reset.recovery = false ∧
    (200 ≤ fget 200 0 17 ∧ fget 200 0 17 ≤ 100000 ∧ 512 + State.reset.regF rGuard 0 17 + 1024 ≤ 33 * fget 200 0 17 ∧
      ¬ State.reset.regF rLead 0 10 < fget 200 0 17 ∧ State.reset.regF rLead 0 10 < fget 401 0 17 ∧ fget 100000 0 17 ≤ 100000) ∧
    (256 ≤ fget 256 0 17 ∧ fget 256 0 17 ≤ 65536 ∧ fget 256 0 17 % 64 = 0 ∧
      512 + fget 256 0 17 + 1024 ≤ 33 * State.reset.regF rLessonLen 0 17 ∧ ¬ 256 ≤ fget 192 0 17) ∧
    (100 ≤ fget 100 0 10 ∧ fget 1000 0 10 ≤ 1000 ∧ fget 100 0 10 < State.reset.regF rLessonLen 0 17 ∧ ¬ 100 ≤ fget 99 0 10) := by
  decide +kernel
/-- The same for the checked registers of the switch and of pooled memory. -/
theorem hyps_switchFields :
    (18 ≤ fget 18 0 19 ∧ 2 * fget 18 0 19 ≤ State.reset.regF rSharedTotal 0 64 ∧ ¬ 18 ≤ fget 17 0 19) ∧
    (State.reset.ovfUsed = 0 ∧ State.reset.regF rOvfBase 0 40 % 2 ^ 30 = 0 ∧ fget 16 0 7 ≤ 64 ∧
      State.reset.regF rOvfBase 0 40 + fget 16 0 7 * 2 ^ 30 ≤ 2 ^ 40 ∧ ¬ fget 65 0 7 ≤ 64) ∧
    (fget 0x40000000 0 40 % 2 ^ 30 = 0 ∧ State.reset.regF rOvfSize 0 7 ≤ 64 ∧ ¬ fget 5 0 40 % 2 ^ 30 = 0) ∧
    (10 ≤ fget 10 0 17 ∧ fget 100000 0 17 ≤ 100000 ∧ ¬ 10 ≤ fget 9 0 17 ∧ ¬ fget 100001 0 17 ≤ 100000) ∧
    ((arbCfg (State.reset.reg rSwcArb)).quota ≤ (arbCfg (State.reset.reg rSwcArb)).window ∧ 16 ≤ (arbCfg (State.reset.reg rSwcArb)).window ∧
      (arbCfg (State.reset.reg rSwcArb)).window ≤ 256 ∧ 1 ≤ (arbCfg (State.reset.reg rSwcArb)).burst ∧
      (arbCfg (State.reset.reg rSwcArb)).burst ≤ 64 ∧ ¬ 16 ≤ (arbCfg 0).window) ∧
    (1 ≤ fget 0x1000000000000 48 5 ∧ fget 0x10000000000000 48 5 ≤ 16 ∧
      fget 0x1000000000000 30 10 * 2 ^ 30 + fget 0x1000000000000 48 5 * 2 ^ 30 ≤ 2 ^ 40 ∧ State.reset.pageBusy 0 = false ∧
      State.reset.pageBusy 1 = false ∧ ¬ 1 ≤ fget 0 48 5) ∧
    (arbOk (State.reset.reg rG7mArb) = true ∧ arbOk 0 = false) ∧ (1 ≤ fget 1 0 8 ∧ fget 168 0 8 ≤ 168 ∧ ¬ fget 169 0 8 ≤ 168) := by
  decide +kernel
/-- A module in recovery, and rows that its recovery refuses. -/
theorem hyps_recovery : (State.reset.setRegBit rRstStatus 13 true).recovery = true ∧ bar0Row (.glbNodeWrite 0) = true ∧
    State.reset.bar0Open 0 = true ∧ (State.reset.setRegBit rRstStatus 13 true).bar0Open 0 = false := by decide +kernel
/-- A Satchel line in every state that the statement on snoops names. -/
theorem hyps_SatchelStates : ∀ x ∈ [SatState.s, .e, .o, .m, .is, .im, .sm, .om, .wb],
    ((State.reset.setSat 0 2 { st := x }).sat 0 (lineOf { blankFrame with opcode := 0x69, fpa := 128 })).st = x ∧
    ((State.reset.setSat 0 2 { st := x }).sat 0 (lineOf { blankFrame with opcode := 0x69, fpa := 128 })).ue = false := by decide +kernel
/-- A coherence request that its sequence check accepts, and one that it drops. -/
theorem hyps_coherenceRows :
    (∃ t, ({ State.reset with fab := { expect := [(9, some 5)] } } : State).seqCheck 0 { blankFrame with src := 9, seq := 5, opcode := 0x60 } = (.accept, t)) ∧
    (∃ t, ({ State.reset with fab := { expect := [(9, some 5)] } } : State).seqCheck 0 { blankFrame with src := 9, seq := 7, opcode := 0x60 } = (.drop, t)) :=
  ⟨⟨_, Prod.ext (by decide +kernel) rfl⟩, ⟨_, Prod.ext (by decide +kernel) rfl⟩⟩
/-- Every phase of the roll call. -/
theorem hyps_RollCallMoves : ∀ x ∈ [Phase.rung, .checked, .activated, .swapped, .gapped, .body],
    ({ State.reset with bell := { State.reset.bell with phase := x } } : State).bell.phase = x ∧ State.reset.bell.phase ≠ x := by decide +kernel
/-- Sixteen invalidations outstanding. -/
theorem hyps_sixteenTickets : State.reset.recovery = false ∧
    16 ≤ ({ State.reset with xl := { tickets := List.replicate 16 { id := 5, waits := [9], status := 0, fail := none } } } : State).xl.tickets.length := by
  decide +kernel
/-- The Principal is not ready at reset, and its mailbox is not busy. -/
theorem hyps_principalAway : State.reset.ready 1 = false ∧ State.reset.regBit rPrinStatus 0 = false ∧ State.reset.recovery = false ∧
    (State.reset.setRegBit rPrinStatus 0 true).regBit rPrinStatus 0 = true := by decide +kernel
/-- A pending page that is refused, and one that passes. -/
def pendingPage (tt : Timetable) : State :=
  { (State.reset.setPageState 0 3 0) with bell := { State.reset.bell with pages := State.reset.bell.pages.set 0 { tt := some tt } } }
theorem hyps_pages :
    ((pendingPage { tt0 with dclk := 66000 }).pageState 0 = 3 ∧ ((pendingPage { tt0 with dclk := 66000 }).page 0).tt = some { tt0 with dclk := 66000 } ∧
      (pendingPage { tt0 with dclk := 66000 }).pageRefusal { tt0 with dclk := 66000 } = some 3) ∧
    ((pendingPage tt0).pageState 0 = 3 ∧ ((pendingPage tt0).page 0).tt = some tt0 ∧ (pendingPage tt0).pageRefusal tt0 = none) := by
  decide +kernel
/-- A frame that sends its last cell while another stays queued. -/
def lastCell : QFrame :=
  { id := 3, f := { blankFrame with opcode := 1, vc := 1 }, inp := 128, out := 1, vc := 1, cells := 2, sent := 1, place := .shared, stamp := 0, since := 0 }
theorem hyps_lastCell : lastCell.sent + 1 = lastCell.cells ∧
    (({ State.reset with fab := { State.reset.fab with voq := [lastCell, { lastCell with id := 7, sent := 0 }] } } : State).sendCell lastCell).fab.voq ≠ [] := by
  decide +kernel
/-- A queue with a command, an empty one, and steps that answer a next state. -/
theorem hyps_StepRunsFront : ({ State.reset with pending := [.bell] } : State).pending = .bell :: [] ∧ State.reset.pending = [] :=
  ⟨rfl, rfl⟩
theorem hyps_steps : (State.reset.memOk = true ∧ ∃ t, step State.reset = .next t) ∧ ∃ t, exec .bell State.reset = .next t :=
  ⟨⟨by decide +kernel, _, rfl⟩, _, rfl⟩
/-- A row that is neither a register write nor a store. -/
theorem hyps_otherRows : (∀ a d, Instr.bell ≠ .registerWrite a d) ∧ ∀ r, Instr.bell ≠ .stRequest r := ⟨nofun, nofun⟩

/-! ### Well-formedness -/

def opF (op : Nat) : Frame := { blankFrame with opcode := BitVec.ofNat 8 op }
def longF : Frame := { blankFrame with opcode := 1, payload := List.replicate 2049 0 }
def opR (op : Nat) : Req := ⟨.stream 0 0, opF op⟩
def opB (op : Nat) : RqBeat := { beat0 with op := BitVec.ofNat 8 op }
def aVec : PrismVector := ⟨0, 0, 0, false, false, Vector.replicate 128 0, none, 0, 0⟩
/-- Ill-formed commands, each refused by the check of its row: a wrong opcode, operation, length or range. -/
theorem test_illFormed0 : ∀ i ∈ ([.bellFrame 0 (opF 0x6F), .bellFrame 0 (opF 0x71), .leadErr (opF 0x74), .leadErr (opF 0x76),
    .candidacy 0 (opF 0x70), .candidacy 0 (opF 0x72), .stretch (opF 0x73), .stretch (opF 0x75),
    .timetableLoaded 0 { im0 with run := 0 }, .timetableLoaded 0 { im0 with run := 2 ^ 32 + 1 }, .timetableLoaded 0 { im0 with planFirst := 4096 }, .timetableLoaded 0 { im0 with planFirst := 1, planCount := 4096 },
    .timetableLoaded 0 { im0 with steps := List.replicate 1025 0 }, .timetableLoaded 0 { im0 with roles := [⟨⟨0, 0, 0⟩, 0, 0xFF⟩] }, .ldRequest (opR 0x00), .ldRequest (opR 0x02),
    .stRequest (opR 0x01), .stRequest (opR 0x03), .mstRequest (opR 0x02), .mstRequest (opR 0x04),
    .redRequest (opR 0x0F) 0, .redRequest (opR 0x20) 0, .faddRequest (opR 0x1F) 0, .faddRequest (opR 0x30) 0,
    .minRequest (opR 0x2F), .minRequest (opR 0x40), .maxRequest (opR 0x3F), .maxRequest (opR 0x50),
    .swap32Request (opR 0x4F), .swap32Request (opR 0x51), .swap64Request (opR 0x50), .swap64Request (opR 0x52),
    .cas64Request (opR 0x51), .cas64Request (opR 0x53), .cas128Request (opR 0x52), .cas128Request (opR 0x54),
    .and32Request (opR 0x53), .and32Request (opR 0x55), .and64Request (opR 0x54), .and64Request (opR 0x56)] : List Instr),
    i.wellFormed = false := by decide +kernel
/-- Ill-formed commands, each refused by the check of its row: a wrong opcode, operation, length or range. -/
theorem test_illFormed1 : ∀ i ∈ ([.or32Request (opR 0x55), .or32Request (opR 0x57), .or64Request (opR 0x56), .or64Request (opR 0x58),
    .xor32Request (opR 0x57), .xor32Request (opR 0x59), .xor64Request (opR 0x58), .xor64Request (opR 0x5A),
    .reservedOpcodeRequest (opR 0x00), .reservedOpcodeRequest (opR 0x60), .response .module (opF 0x7F), .rds 0 (opF 0x5F),
    .rds 0 (opF 0x61), .rdx 0 (opF 0x60), .rdx 0 (opF 0x62), .upg 0 (opF 0x61),
    .upg 0 (opF 0x63), .putm 0 (opF 0x62), .putm 0 (opF 0x64), .puto 0 (opF 0x63),
    .puto 0 (opF 0x65), .putc 0 (opF 0x64), .putc 0 (opF 0x66), .snps 0 (opF 0x67),
    .snps 0 (opF 0x69), .snpi 0 (opF 0x68), .snpi 0 (opF 0x6A), .snpd 0 (opF 0x69),
    .snpd 0 (opF 0x6B), .flush 0 (opF 0x6A), .flush 0 (opF 0x6C), .snoopResponse 0 (opF 0xE7),
    .snoopResponse 0 (opF 0xEB), .grant 0 (opF 0xDF), .grant 0 (opF 0xE3), .retryResponse 0 (opF 0xDF),
    .retryResponse 0 (opF 0xE6), .putAck 0 (opF 0xE2), .putAck 0 (opF 0xE6), .flushResponse 0 (opF 0xEA)] : List Instr),
    i.wellFormed = false := by decide +kernel
/-- Ill-formed commands, each refused by the check of its row: a wrong opcode, operation, length or range. -/
theorem test_illFormed2 : ∀ i ∈ ([.flushResponse 0 (opF 0xEC), .frameArrival 0 longF, .dep7FrameAccept 0 longF, .sync .module (opF 0x75),
    .sync .module (opF 0x77), .syncResponse .module (opF 0xF5), .syncResponse .module (opF 0xF7), .agedNotice .module (opF 0x7F),
    .inval .module (opF 0x71), .inval .module (opF 0x73), .invalAck (opF 0x72), .invalAck (opF 0x74),
    .vectorFrame longF aVec, .linkDelayMeasured 0 [], .recalComplete 0 [], .recalComplete 0 (List.replicate 33 0),
    .bar2Read ⟨0, none, 0, 0⟩, .bar2Read ⟨0, none, 0, 4097⟩, .bar2Write ⟨0, none, 0, 4⟩ [], .bar4StagingWrite 0 [],
    .rqLd 0 (opB 0x02), .rqSt 0 (opB 0x01), .rqSt 0 (opB 0x03), .rqMst 0 (opB 0x02),
    .rqRed 0 (opB 0x20), .rqFadd 0 (opB 0x1F), .rqFadd 0 (opB 0x30), .rqMin 0 (opB 0x2F),
    .rqMin 0 (opB 0x40), .rqMax 0 (opB 0x3F), .rqMax 0 (opB 0x50), .rqSwap 0 (opB 0x4F),
    .rqSwap 0 (opB 0x52), .rqCas 0 (opB 0x51), .rqCas 0 (opB 0x54), .rqAnd 0 (opB 0x53),
    .rqAnd 0 (opB 0x56), .rqOr 0 (opB 0x55), .rqOr 0 (opB 0x58), .rqXor 0 (opB 0x57)] : List Instr),
    i.wellFormed = false := by decide +kernel
/-- Ill-formed commands, each refused by the check of its row: a wrong opcode, operation, length or range. -/
theorem test_illFormed3 : ∀ i ∈ ([.rqFence 0 (opB 0x09), .rqTld 0 (opB 0x08), .rqTld 0 (opB 0x0A), .rqTst 0 (opB 0x09),
    .rqTst 0 (opB 0x0B), .rqTred 0 (opB 0x0A), .wdBeat 0 [], .wdBeat 0 (List.replicate 65 0),
    .isResponse 0 0 0 (List.replicate 2049 0), .registerWrite (.bar0 0) [], .registerWrite (.cf 0 0) []] : List Instr),
    i.wellFormed = false := by decide +kernel

/-! ### Worked examples of the spec -/

/-- The next state of an outcome. -/
def after : Host.Outcome State Fault Refusal → State
  | .next t => t
  | _ => State.reset
/-- File 10's worked example: the three additions. -/
def term1 : Acc := Acc.addVal tallyW tallyQ {} (.fin true 9 (-3)) 0
def term2 : Acc := Acc.addVal tallyW tallyQ term1 (.fin false 1 (-266)) 0
def term3 : Acc := Acc.addVal tallyW tallyQ term2 (.fin false 9 (-3)) 0
theorem test_tallyTerms : (term1.val = -9 * 2 ^ 295 ∧ term1.res = 0x7B) ∧ (term2.val = -9 * 2 ^ 295 + 2 ^ 32 ∧ term2.res = 0x7C) ∧
    (term3.val = 2 ^ 32 ∧ term3.res = 1) := by decide +kernel
theorem test_tallyReadout : Acc.readout tallyQ term3 .fp32 .nearest = some 0 ∧ Acc.readout tallyQ term3 .fp32 .up = some 1 ∧
    Acc.readout tallyQ term3 .fp64 .nearest = some 0x2F50000000000000 := by decide +kernel
theorem test_tallyOrder : Acc.addVal tallyW tallyQ (Acc.addVal tallyW tallyQ term1 (.fin false 9 (-3)) 0) (.fin false 1 (-266)) 0 = term3 := by
  decide +kernel
/-- The same example's operands: 1.5, −0.75 and the least BF16 subnormal. -/
theorem test_tallyOperands : FVal.eq (FVal.mul (decodeF .bf16 0x3FC0) (decodeF .bf16 0xBF40)) (.fin true 9 (-3)) = true := by decide +kernel
/-- File 17: SNR 21.0 dB and EH 36 mV give FOM 78. -/
theorem test_fom : fomOf 2100 36 = 78 := by decide
/-- R229: AGE_LIMIT at its reset value, 2,000. -/
theorem test_ageLimit : State.reset.ageL = 3223 := by decide +kernel
/-- File 11: votes 01 01 01 01 give GO; 01 01 09 01 give NO with SLOTS_FULL, caused by the member of index 2. -/
theorem test_verdicts : verdictOf [1, 1, 1, 1] = (0, 0) ∧ verdictOf [1, 1, 9, 1] = (9, 2) := by decide
/-- File 14: the calibration accumulator lies in channel 34, at local address 0x1_2888_0080, and its next granule in channel 33. -/
theorem test_channels : channelOf 0x04A22000180 = 34 ∧ localOf 0x04A22000180 = 0x128880080 ∧ rowOf 0x04A22000180 = 0x12888 ∧
    bankOf 0x04A22000180 = 0 ∧ channelOf 0x04A22000280 = 33 := by decide +kernel
/-- File 03: a row of 3,000 bytes at 1,792 past a boundary is three frames, of 2, 9 and 3 cells. -/
theorem test_rowPieces : (tilePieces 1792 3000 1 4096).map (fun x => x.2.2) = [256, 2048, 696] ∧
    (tilePieces 1792 3000 40 4096).length = 120 ∧
    ([256, 2048, 696].map (fun n => Frame.cells { blankFrame with payload := List.replicate n 0 })) = [2, 9, 3] := by decide +kernel
/-- File 03: 1.0e8, 1.0 and −1.0e8 end at 1.0 under RED, in the order in which FADD would end at 0.0. -/
def redOf (x : Nat) (s : State) : State := after (exec (.redRequest (rq 0x14 4 (leBytes 4 x) 0x04A22000180) 0) s)
theorem test_redOrder :
    leAt ((redOf 0xCCBEBC20 (redOf 0x3F800000 (redOf 0x4CBEBC20 (rdy State.reset)))).peek 0x04A22000180 4) 0 4 = 0x3F800000 := by
  decide +kernel
def faddOf (x : Nat) (s : State) : State := after (exec (.faddRequest (rq 0x24 4 (leBytes 4 x) 0x04A22000180) 0) s)
theorem test_faddOrder :
    leAt ((faddOf 0xCCBEBC20 (faddOf 0x3F800000 (faddOf 0x4CBEBC20 (rdy State.reset)))).peek 0x04A22000180 4) 0 4 = 0 := by
  decide +kernel
/-- File 09: SHL S5, S5, #8 is 0x1701_4A00_0000_0048. -/
theorem test_shl : ((after (exec (.chShl ⟨⟨0, 0, 0⟩, 0, 0x014A0000000048⟩) (chalkS 7))).seat 0 0).sr 5 = ((chalkS 7).seat 0 0).sr 5 <<< 8 := by
  decide +kernel
/-- File 09: OR S4, S4, S5 is 0x1501_0850_0000_0000. -/
theorem test_or : ((after (exec (.chOr ⟨⟨0, 0, 0⟩, 0, 0x01085000000000⟩) (chalkS 7))).seat 0 0).sr 4 =
    ((chalkS 7).seat 0 0).sr 4 ||| ((chalkS 7).seat 0 0).sr 5 := by decide +kernel
/-- The table gives no row any bits. -/
theorem test_noBits : decodeTableWord 8 0 = none ∧ State.reset.withFetchWord 8 0 = State.reset := ⟨rfl, by decide +kernel⟩


/-! ### Witnesses of the statement forms -/

/-- The state of `chalkS 7` with every S register of the Seat holding `v`. -/
def sv (v : Nat) : State :=
  (chalkS 7).setDesk 0 { (chalkS 7).desk 0 with
    seats := (Vector.replicate 4 ({} : Seat)).set 0 { seatR 7 with s := Vector.replicate 16 (BitVec.ofNat 64 v) } }
def strictS : State := (chalkS 99).setRegBit rGlbMode 0 true

/-- Witnesses of ScalarArithmetic, ControlAndPredicates, VectorLanes and VectorMoves: every instruction they name issues here. -/
theorem hyps_ready0 : ∀ x ∈ ([(0x01, 0), (0x04, 2429), (0x05, 10995116278907), (0x06, 245625), (0x07, 19791209299968), (0x08, 211106232532992), (0x09, 2199023255553), (0x0A, 1407374883553294), (0x0B, 72911364816897), (0x10, 1009695271682048), (0x11, 28862180229120), (0x12, 244297739796480), (0x13, 424480207798272), (0x14, 569547023187968), (0x15, 783814351650816), (0x16, 928881167040512)] : List (Nat × BitVec 56)),
    ChalkReady (chalkS 7) x.1 ⟨⟨0, 0, 0⟩, 0, x.2⟩ := by
  unfold ChalkReady; decide +kernel
/-- Witnesses of ScalarArithmetic, ControlAndPredicates, VectorLanes and VectorMoves: every instruction they name issues here. -/
theorem hyps_ready1 : ∀ x ∈ ([(0x17, 17592186044509), (0x18, 162727720910940), (0x19, 378781755768832), (0x1A, 523848571158528), (0x1B, 425098683088897), (0x1C, 919467135598592), (0x1D, 1056821823052883), (0x1E, 140737495942994), (0x1F, 300154704687696), (0x20, 1541334913515520), (0x21, 1751552087818240), (0x22, 2001892846600192), (0x23, 2182049544798208), (0x24, 110500918591488), (0x25, 290683386593280), (0x26, 470621041459205)] : List (Nat × BitVec 56)),
    ChalkReady (chalkS 7) x.1 ⟨⟨0, 0, 0⟩, 0, x.2⟩ := by
  unfold ChalkReady; decide +kernel
/-- Witnesses of ScalarArithmetic, ControlAndPredicates, VectorLanes and VectorMoves: every instruction they name issues here. -/
theorem hyps_ready2 : ∀ x ∈ ([(0x27, 2067111924989985), (0x28, 831402589290497), (0x29, 1686826930667520), (0x2A, 782882343747589), (0x2B, 1372054951559168), (0x2C, 1552235540512768), (0x2D, 2020928141656064), (0x2E, 1106138762313728), (0x30, 1924179708346368), (0x31, 164939629068288), (0x32, 83580073017344), (0x33, 525583737962496), (0x40, 653045012627456), (0x41, 1919678582620160), (0x42, 1013479154647040), (0x43, 2143575294869504)] : List (Nat × BitVec 56)),
    ChalkReady (chalkS 7) x.1 ⟨⟨0, 0, 0⟩, 0, x.2⟩ := by
  unfold ChalkReady; decide +kernel
/-- Witnesses of ScalarArithmetic, ControlAndPredicates, VectorLanes and VectorMoves: every instruction they name issues here. -/
theorem hyps_ready3 : ∀ x ∈ ([(0x44, 1373917088317440), (0x45, 312209762680832), (0x46, 1734355038765056), (0x47, 866428131475463), (0x48, 296885352931328), (0x49, 2135260204630024), (0x50, 105583188377603), (0x52, 70368744177664), (0x53, 70368760242304), (0x54, 14889088), (0x55, 14224931749889), (0x56, 87960963776516), (0x57, 10995116277760), (0x67, 2684354560), (0x68, 1070924459671552)] : List (Nat × BitVec 56)),
    ChalkReady (chalkS 7) x.1 ⟨⟨0, 0, 0⟩, 0, x.2⟩ := by
  unfold ChalkReady; decide +kernel
/-- The four cases of a fabric access, opcode 0x60. -/
theorem hyps_fabric60 :
    (ChalkReady strictS 0x60 ⟨⟨0, 0, 0⟩, 0, 494780360425472⟩ ∧ fT (494780360425472 : BitVec 56) = false ∧ strictS.strict = true) ∧
    (ChalkReady (sv 2047) 0x60 ⟨⟨0, 0, 0⟩, 0, 789449740910592⟩ ∧ (fT (789449740910592 : BitVec 56) = true ∨ (sv 2047).strict = false) ∧ alignBad 0x60 (789449740910592 : BitVec 56) (((sv 2047).issuedBy ⟨⟨0, 0, 0⟩, 0, 789449740910592⟩).fabricAccess 0x60 ⟨⟨0, 0, 0⟩, 0, 789449740910592⟩ ((sv 2047).me ⟨⟨0, 0, 0⟩, 0, 789449740910592⟩).pc).f = true) ∧
    (ChalkReady (chalkS 7) 0x60 ⟨⟨0, 0, 0⟩, 0, 494780360425472⟩ ∧ fT (494780360425472 : BitVec 56) = false ∧ (chalkS 7).strict = false ∧ alignBad 0x60 (494780360425472 : BitVec 56) (((chalkS 7).issuedBy ⟨⟨0, 0, 0⟩, 0, 494780360425472⟩).fabricAccess 0x60 ⟨⟨0, 0, 0⟩, 0, 494780360425472⟩ ((chalkS 7).me ⟨⟨0, 0, 0⟩, 0, 494780360425472⟩).pc).f = false) ∧
    (ChalkReady (chalkS 7) 0x60 ⟨⟨0, 0, 0⟩, 0, 789449740910592⟩ ∧ fT (789449740910592 : BitVec 56) = true ∧ alignBad 0x60 (789449740910592 : BitVec 56) (((chalkS 7).issuedBy ⟨⟨0, 0, 0⟩, 0, 789449740910592⟩).fabricAccess 0x60 ⟨⟨0, 0, 0⟩, 0, 789449740910592⟩ ((chalkS 7).me ⟨⟨0, 0, 0⟩, 0, 789449740910592⟩).pc).f = false) := by
  unfold ChalkReady; decide +kernel
/-- The four cases of a fabric access, opcode 0x61. -/
theorem hyps_fabric61 :
    (ChalkReady strictS 0x61 ⟨⟨0, 0, 0⟩, 0, 642115025502208⟩ ∧ fT (642115025502208 : BitVec 56) = false ∧ strictS.strict = true) ∧
    (ChalkReady (sv 2047) 0x61 ⟨⟨0, 0, 0⟩, 0, 567348488568832⟩ ∧ (fT (567348488568832 : BitVec 56) = true ∨ (sv 2047).strict = false) ∧ alignBad 0x61 (567348488568832 : BitVec 56) (((sv 2047).issuedBy ⟨⟨0, 0, 0⟩, 0, 567348488568832⟩).fabricAccess 0x61 ⟨⟨0, 0, 0⟩, 0, 567348488568832⟩ ((sv 2047).me ⟨⟨0, 0, 0⟩, 0, 567348488568832⟩).pc).f = true) ∧
    (ChalkReady (chalkS 7) 0x61 ⟨⟨0, 0, 0⟩, 0, 642115025502208⟩ ∧ fT (642115025502208 : BitVec 56) = false ∧ (chalkS 7).strict = false ∧ alignBad 0x61 (642115025502208 : BitVec 56) (((chalkS 7).issuedBy ⟨⟨0, 0, 0⟩, 0, 642115025502208⟩).fabricAccess 0x61 ⟨⟨0, 0, 0⟩, 0, 642115025502208⟩ ((chalkS 7).me ⟨⟨0, 0, 0⟩, 0, 642115025502208⟩).pc).f = false) ∧
    (ChalkReady (chalkS 7) 0x61 ⟨⟨0, 0, 0⟩, 0, 934585185599488⟩ ∧ fT (934585185599488 : BitVec 56) = true ∧ alignBad 0x61 (934585185599488 : BitVec 56) (((chalkS 7).issuedBy ⟨⟨0, 0, 0⟩, 0, 934585185599488⟩).fabricAccess 0x61 ⟨⟨0, 0, 0⟩, 0, 934585185599488⟩ ((chalkS 7).me ⟨⟨0, 0, 0⟩, 0, 934585185599488⟩).pc).f = false) := by
  unfold ChalkReady; decide +kernel
/-- The four cases of a fabric access, opcode 0x62. -/
theorem hyps_fabric62 :
    (ChalkReady strictS 0x62 ⟨⟨0, 0, 0⟩, 0, 515260253470747⟩ ∧ fT (515260253470747 : BitVec 56) = false ∧ strictS.strict = true) ∧
    (ChalkReady (chalkS 7) 0x62 ⟨⟨0, 0, 0⟩, 0, 231248341499927⟩ ∧ (fT (231248341499927 : BitVec 56) = true ∨ (chalkS 7).strict = false) ∧ alignBad 0x62 (231248341499927 : BitVec 56) (((chalkS 7).issuedBy ⟨⟨0, 0, 0⟩, 0, 231248341499927⟩).fabricAccess 0x62 ⟨⟨0, 0, 0⟩, 0, 231248341499927⟩ ((chalkS 7).me ⟨⟨0, 0, 0⟩, 0, 231248341499927⟩).pc).f = true) ∧
    (ChalkReady (sv 64) 0x62 ⟨⟨0, 0, 0⟩, 0, 515260253470747⟩ ∧ fT (515260253470747 : BitVec 56) = false ∧ (sv 64).strict = false ∧ alignBad 0x62 (515260253470747 : BitVec 56) (((sv 64).issuedBy ⟨⟨0, 0, 0⟩, 0, 515260253470747⟩).fabricAccess 0x62 ⟨⟨0, 0, 0⟩, 0, 515260253470747⟩ ((sv 64).me ⟨⟨0, 0, 0⟩, 0, 515260253470747⟩).pc).f = false) ∧
    (ChalkReady strictS 0x62 ⟨⟨0, 0, 0⟩, 0, 1060068248256532⟩ ∧ fT (1060068248256532 : BitVec 56) = true ∧ alignBad 0x62 (1060068248256532 : BitVec 56) ((strictS.issuedBy ⟨⟨0, 0, 0⟩, 0, 1060068248256532⟩).fabricAccess 0x62 ⟨⟨0, 0, 0⟩, 0, 1060068248256532⟩ (strictS.me ⟨⟨0, 0, 0⟩, 0, 1060068248256532⟩).pc).f = false) := by
  unfold ChalkReady; decide +kernel
/-- The four cases of a fabric access, opcode 0x63. -/
theorem hyps_fabric63 :
    (ChalkReady strictS 0x63 ⟨⟨0, 0, 0⟩, 0, 294671356002320⟩ ∧ fT (294671356002320 : BitVec 56) = false ∧ strictS.strict = true) ∧
    (ChalkReady (chalkS 7) 0x63 ⟨⟨0, 0, 0⟩, 0, 294671356002320⟩ ∧ (fT (294671356002320 : BitVec 56) = true ∨ (chalkS 7).strict = false) ∧ alignBad 0x63 (294671356002320 : BitVec 56) (((chalkS 7).issuedBy ⟨⟨0, 0, 0⟩, 0, 294671356002320⟩).fabricAccess 0x63 ⟨⟨0, 0, 0⟩, 0, 294671356002320⟩ ((chalkS 7).me ⟨⟨0, 0, 0⟩, 0, 294671356002320⟩).pc).f = true) ∧
    (ChalkReady (sv 64) 0x63 ⟨⟨0, 0, 0⟩, 0, 455219485868032⟩ ∧ fT (455219485868032 : BitVec 56) = false ∧ (sv 64).strict = false ∧ alignBad 0x63 (455219485868032 : BitVec 56) (((sv 64).issuedBy ⟨⟨0, 0, 0⟩, 0, 455219485868032⟩).fabricAccess 0x63 ⟨⟨0, 0, 0⟩, 0, 455219485868032⟩ ((sv 64).me ⟨⟨0, 0, 0⟩, 0, 455219485868032⟩).pc).f = false) ∧
    (ChalkReady (sv 64) 0x63 ⟨⟨0, 0, 0⟩, 0, 1070946815311888⟩ ∧ fT (1070946815311888 : BitVec 56) = true ∧ alignBad 0x63 (1070946815311888 : BitVec 56) (((sv 64).issuedBy ⟨⟨0, 0, 0⟩, 0, 1070946815311888⟩).fabricAccess 0x63 ⟨⟨0, 0, 0⟩, 0, 1070946815311888⟩ ((sv 64).me ⟨⟨0, 0, 0⟩, 0, 1070946815311888⟩).pc).f = false) := by
  unfold ChalkReady; decide +kernel
/-- The four cases of a fabric access, opcode 0x64. -/
theorem hyps_fabric64 :
    (ChalkReady strictS 0x64 ⟨⟨0, 0, 0⟩, 0, 385447574372352⟩ ∧ fT (385447574372352 : BitVec 56) = false ∧ strictS.strict = true) ∧
    (ChalkReady (sv 2047) 0x64 ⟨⟨0, 0, 0⟩, 0, 385447574372352⟩ ∧ (fT (385447574372352 : BitVec 56) = true ∨ (sv 2047).strict = false) ∧ alignBad 0x64 (385447574372352 : BitVec 56) (((sv 2047).issuedBy ⟨⟨0, 0, 0⟩, 0, 385447574372352⟩).fabricAccess 0x64 ⟨⟨0, 0, 0⟩, 0, 385447574372352⟩ ((sv 2047).me ⟨⟨0, 0, 0⟩, 0, 385447574372352⟩).pc).f = true) ∧
    (ChalkReady (chalkS 7) 0x64 ⟨⟨0, 0, 0⟩, 0, 385447574372352⟩ ∧ fT (385447574372352 : BitVec 56) = false ∧ (chalkS 7).strict = false ∧ alignBad 0x64 (385447574372352 : BitVec 56) (((chalkS 7).issuedBy ⟨⟨0, 0, 0⟩, 0, 385447574372352⟩).fabricAccess 0x64 ⟨⟨0, 0, 0⟩, 0, 385447574372352⟩ ((chalkS 7).me ⟨⟨0, 0, 0⟩, 0, 385447574372352⟩).pc).f = false) ∧
    (ChalkReady (chalkS 7) 0x64 ⟨⟨0, 0, 0⟩, 0, 570372179099648⟩ ∧ fT (570372179099648 : BitVec 56) = true ∧ alignBad 0x64 (570372179099648 : BitVec 56) (((chalkS 7).issuedBy ⟨⟨0, 0, 0⟩, 0, 570372179099648⟩).fabricAccess 0x64 ⟨⟨0, 0, 0⟩, 0, 570372179099648⟩ ((chalkS 7).me ⟨⟨0, 0, 0⟩, 0, 570372179099648⟩).pc).f = false) := by
  unfold ChalkReady; decide +kernel
/-- The four cases of a fabric access, opcode 0x65. -/
theorem hyps_fabric65 :
    (ChalkReady strictS 0x65 ⟨⟨0, 0, 0⟩, 0, 283675830779904⟩ ∧ fT (283675830779904 : BitVec 56) = false ∧ strictS.strict = true) ∧
    (ChalkReady (sv 2047) 0x65 ⟨⟨0, 0, 0⟩, 0, 283675830779904⟩ ∧ (fT (283675830779904 : BitVec 56) = true ∨ (sv 2047).strict = false) ∧ alignBad 0x65 (283675830779904 : BitVec 56) (((sv 2047).issuedBy ⟨⟨0, 0, 0⟩, 0, 283675830779904⟩).fabricAccess 0x65 ⟨⟨0, 0, 0⟩, 0, 283675830779904⟩ ((sv 2047).me ⟨⟨0, 0, 0⟩, 0, 283675830779904⟩).pc).f = true) ∧
    (ChalkReady (chalkS 7) 0x65 ⟨⟨0, 0, 0⟩, 0, 283675830779904⟩ ∧ fT (283675830779904 : BitVec 56) = false ∧ (chalkS 7).strict = false ∧ alignBad 0x65 (283675830779904 : BitVec 56) (((chalkS 7).issuedBy ⟨⟨0, 0, 0⟩, 0, 283675830779904⟩).fabricAccess 0x65 ⟨⟨0, 0, 0⟩, 0, 283675830779904⟩ ((chalkS 7).me ⟨⟨0, 0, 0⟩, 0, 283675830779904⟩).pc).f = false) ∧
    (ChalkReady (chalkS 7) 0x65 ⟨⟨0, 0, 0⟩, 0, 437608637267968⟩ ∧ fT (437608637267968 : BitVec 56) = true ∧ alignBad 0x65 (437608637267968 : BitVec 56) (((chalkS 7).issuedBy ⟨⟨0, 0, 0⟩, 0, 437608637267968⟩).fabricAccess 0x65 ⟨⟨0, 0, 0⟩, 0, 437608637267968⟩ ((chalkS 7).me ⟨⟨0, 0, 0⟩, 0, 437608637267968⟩).pc).f = false) := by
  unfold ChalkReady; decide +kernel
/-- The four cases of a fabric access, opcode 0x66. -/
theorem hyps_fabric66 :
    (ChalkReady strictS 0x66 ⟨⟨0, 0, 0⟩, 0, 283675159691264⟩ ∧ fT (283675159691264 : BitVec 56) = false ∧ strictS.strict = true) ∧
    (ChalkReady (sv 2047) 0x66 ⟨⟨0, 0, 0⟩, 0, 492584180908032⟩ ∧ (fT (492584180908032 : BitVec 56) = true ∨ (sv 2047).strict = false) ∧ alignBad 0x66 (492584180908032 : BitVec 56) (((sv 2047).issuedBy ⟨⟨0, 0, 0⟩, 0, 492584180908032⟩).fabricAccess 0x66 ⟨⟨0, 0, 0⟩, 0, 492584180908032⟩ ((sv 2047).me ⟨⟨0, 0, 0⟩, 0, 492584180908032⟩).pc).f = true) ∧
    (ChalkReady (chalkS 7) 0x66 ⟨⟨0, 0, 0⟩, 0, 283675159691264⟩ ∧ fT (283675159691264 : BitVec 56) = false ∧ (chalkS 7).strict = false ∧ alignBad 0x66 (283675159691264 : BitVec 56) (((chalkS 7).issuedBy ⟨⟨0, 0, 0⟩, 0, 283675159691264⟩).fabricAccess 0x66 ⟨⟨0, 0, 0⟩, 0, 283675159691264⟩ ((chalkS 7).me ⟨⟨0, 0, 0⟩, 0, 283675159691264⟩).pc).f = false) ∧
    (ChalkReady (chalkS 7) 0x66 ⟨⟨0, 0, 0⟩, 0, 710285971161088⟩ ∧ fT (710285971161088 : BitVec 56) = true ∧ alignBad 0x66 (710285971161088 : BitVec 56) (((chalkS 7).issuedBy ⟨⟨0, 0, 0⟩, 0, 710285971161088⟩).fabricAccess 0x66 ⟨⟨0, 0, 0⟩, 0, 710285971161088⟩ ((chalkS 7).me ⟨⟨0, 0, 0⟩, 0, 710285971161088⟩).pc).f = false) := by
  unfold ChalkReady; decide +kernel
/-- Blackboard accesses and an OMV that issue. -/
theorem hyps_boardAndOmv :
    (ChalkReady (chalkS 7) 0x72 ⟨⟨0, 0, 0⟩, 0, 729654298148864⟩ ∧ fT (729654298148864 : BitVec 56) = false ∧ boardBad 729654298148864 (localOff 729654298148864 ((chalkS 7).me ⟨⟨0, 0, 0⟩, 0, 729654298148864⟩)) = false) ∧
    (ChalkReady (chalkS 7) 0x73 ⟨⟨0, 0, 0⟩, 0, 939872615399424⟩ ∧ fT (939872615399424 : BitVec 56) = false ∧ boardBad 939872615399424 (localOff 939872615399424 ((chalkS 7).me ⟨⟨0, 0, 0⟩, 0, 939872615399424⟩)) = false) ∧
    (ChalkReady (sv 64) 0x69 ⟨⟨0, 0, 0⟩, 0, 18447118348512⟩ ∧ (sv 64).strict = false ∧ fT (18447118348512 : BitVec 56) = false ∧ (((sv 64).me ⟨⟨0, 0, 0⟩, 0, 18447118348512⟩).sr (fB (18447118348512 : BitVec 56))).toNat % 16 = 0 ∧
      (((sv 64).me ⟨⟨0, 0, 0⟩, 0, 18447118348512⟩).sr (fB (18447118348512 : BitVec 56))).toNat + 256 ≤ 6144) := by
  unfold ChalkReady; decide +kernel

end Sys2Proof.Tests

namespace Sys2Proof.Tests.VectorArithmetic
def ps2 : State := (chalkS 7)
def ps4 : State := ((chalkS 99).setRegBit rGlbMode 0 true)
theorem hyps_VectorArithmetic :
    (∃ (i : ChalkOp) (s : State), ChalkReady s 0x4A i ∧ modBit i.w 0 = false) ∧
    (∃ (i : ChalkOp) (s : State), ChalkReady s 0x4A i ∧ modBit i.w 0 = true ∧ s.strict = true) :=
  ⟨⟨⟨⟨0,0,0⟩,0,863047908327424⟩, ps2, by unfold ChalkReady; decide +kernel⟩,
   ⟨⟨⟨0,0,0⟩,0,140737488355329⟩, ps4, by unfold ChalkReady; decide +kernel⟩⟩
end Sys2Proof.Tests.VectorArithmetic

namespace Sys2Proof.Tests.TallyInstructions
def ps2 : State := (chalkS 7)
abbrev tally : ChalkOp → Nat → (State → Acc → Acc) → State → State := fun i k f t => t.setDesk (deskOf i) ((t.desk (deskOf i)).setTally k (f t ((t.desk (deskOf i)).tally k)))
theorem hyps_TallyInstructions : ∃ (i : ChalkOp) (s : State), ChalkReady s 0x51 i ∧ ∃ v ∈ Acc.readout tallyQ ((s.desk (deskOf i)).tally (fA i.w)) ((fmtOf (fFmt i.w)).getD .fp32) (roundingOf s (s.cohortOf (deskOf i)) (s.me i) (fRnd i.w) 0), True :=
  ⟨⟨⟨0,0,0⟩,0,565166223654916⟩, ps2, by unfold ChalkReady; decide +kernel⟩
end Sys2Proof.Tests.TallyInstructions

namespace Sys2Proof.Tests.DeskMemory
def cc : CollCtx := { desc := { id := 1, kind := 0, type := 0, members := 2, index := 0, root := 0, group := 0, launch := 0, close := 0, finish := 0, region := bbBase 0, lines := 4096, init := false, watch := [], vote := 0, verdict := 64, vtick := 0 }, base := 0, st := .reserved, status := 0, cause := 0, how := 0, slots := 0, vote := 0, noticed := false, decided := false, recorded := false, held := true }
def ps2 : State := (chalkS 7)
def ps4 : State := ((chalkS 99).setRegBit rGlbMode 0 true)
def ps7 : State := { (chalkS 7) with coll := { ctx := [(0, some cc)] } }
theorem hyps_DeskMemory :
    (∃ (i : ChalkOp) (s : State), ChalkReady s 0x70 i ∧ slateBad i.w (localOff i.w (s.me i)) = false) ∧
    (∃ (i : ChalkOp) (s : State), ChalkReady s 0x70 i ∧ slateBad i.w (localOff i.w (s.me i)) = true) ∧
    (∃ (i : ChalkOp) (s : State), ChalkReady s 0x71 i ∧ slateBad i.w (localOff i.w (s.me i)) = false) ∧
    (∃ (i : ChalkOp) (s : State), ChalkReady s 0x72 i ∧ fT i.w = false ∧ boardBad i.w (localOff i.w (s.me i)) = false ∧ fSZ i.w < 7 ∧ (s.me i).acc = [] ∧ (s.desk (deskOf i)).left = []) ∧
    (∃ (i : ChalkOp) (s : State), ChalkReady s 0x73 i ∧ fT i.w = false ∧ boardBad i.w (localOff i.w (s.me i)) = false ∧ fSZ i.w < 7 ∧ (s.me i).acc = [] ∧ (s.desk (deskOf i)).left = [] ∧ (∀ l ∈ linesOf (bbBase (roomOf (deskOf i)) + localOff i.w (s.me i)) (sizeOf_ i.w), s.collAt l = none)) ∧
    (∃ (i : ChalkOp) (s : State), ChalkReady s 0x73 i ∧ fT i.w = false ∧ boardBad i.w (localOff i.w (s.me i)) = false ∧ fSZ i.w < 7 ∧ (s.me i).acc = [] ∧ (s.desk (deskOf i)).left = [] ∧ (∃ l ∈ linesOf (bbBase (roomOf (deskOf i)) + localOff i.w (s.me i)) (sizeOf_ i.w), (s.collAt l).isSome = true)) ∧
    (∃ (i : ChalkOp) (s : State), ChalkReady s 0x72 i ∧ fT i.w = false ∧ boardBad i.w (localOff i.w (s.me i)) = true) ∧
    (∃ (i : ChalkOp) (s : State), ChalkReady s 0x73 i ∧ fT i.w = false ∧ boardBad i.w (localOff i.w (s.me i)) = true) ∧
    (∃ (i : ChalkOp) (s : State), ChalkReady s 0x0A i ∧ (s.desk (deskOf i)).wordsFull (BitVec.ofNat 8 (bits i.w 0 8)) = false) ∧
    (∃ (i : ChalkOp) (s : State), ChalkReady s 0x02 i) ∧
    (∃ (i : ChalkOp) (s : State), ChalkReady s 0x03 i) :=
  ⟨⟨⟨⟨0,0,0⟩,0,1992320450822144⟩, ps4, by unfold ChalkReady; decide +kernel⟩,
   ⟨⟨⟨0,0,0⟩,0,296326436749312⟩, ps2, by unfold ChalkReady; decide +kernel⟩,
   ⟨⟨⟨0,0,0⟩,0,862045572431872⟩, ps2, by unfold ChalkReady; decide +kernel⟩,
   ⟨⟨⟨0,0,0⟩,0,729654298148864⟩, ps2, by unfold ChalkReady; decide +kernel⟩,
   ⟨⟨⟨0,0,0⟩,0,939872615399424⟩, ps2, by unfold ChalkReady; decide +kernel⟩,
   ⟨⟨⟨0,0,0⟩,0,939872615399424⟩, ps7, by unfold ChalkReady; decide +kernel⟩,
   ⟨⟨⟨0,0,0⟩,0,1832128922779648⟩, ps2, by unfold ChalkReady; decide +kernel⟩,
   ⟨⟨⟨0,0,0⟩,0,718009138151424⟩, ps2, by unfold ChalkReady; decide +kernel⟩,
   ⟨⟨⟨0,0,0⟩,0,1407374883553294⟩, ps2, by unfold ChalkReady; decide +kernel⟩,
   ⟨⟨⟨0,0,0⟩,0,0⟩, ps2, by unfold ChalkReady; decide +kernel⟩,
   ⟨⟨⟨0,0,0⟩,0,0⟩, ps2, by unfold ChalkReady; decide +kernel⟩⟩
end Sys2Proof.Tests.DeskMemory

namespace Sys2Proof.Tests.FabricAccesses
def ps2 : State := (chalkS 7)
def ps4 : State := ((chalkS 99).setRegBit rGlbMode 0 true)
theorem hyps_FabricAccesses :
    (∃ (i : ChalkOp) (s : State), ChalkReady s 0x69 i ∧ s.strict = true) ∧
    (∃ (i : ChalkOp) (s : State), ChalkReady s 0x69 i ∧ s.strict = false ∧ fT i.w = false ∧ (s.me i).acc = [] ∧ (s.desk (deskOf i)).left = []) ∧
    (∃ (b : Nat), b % 16 = 0 ∧ b + 256 ≤ 6144) :=
  ⟨⟨⟨⟨0,0,0⟩,0,18447118348512⟩, ps4, by unfold ChalkReady; decide +kernel⟩,
   ⟨⟨⟨0,0,0⟩,0,18447118348512⟩, ps2, by unfold ChalkReady; decide +kernel⟩,
   ⟨0, by decide +kernel⟩⟩
end Sys2Proof.Tests.FabricAccesses

namespace Sys2Proof.Tests.BellRings
def bi : BellInfo := { lesson := 5, n := 1000, stretch := 1, strict := true, pin := false, halt := false, guard := 512, master := 3, hops := 1, delay := 10, lead := 400 }
def bs (b : Bell) : State := { State.reset with bell := b }
def ps0 : State := State.reset
def ps2 : State := (bs { next := some bi })
def ps5 : State := (bs { phase := .rung })
theorem hyps_BellRings :
    (∃ (s : State), s.bellMayRing = true ∧ ∃ b ∈ s.ringing, True) ∧
    (∃ (s : State), s.bellMayRing = true ∧ tableOk deskDefault s.desks = true ∧ ∃ b ∈ s.ringing, True) ∧
    (∃ (s : State), s.bellMayRing = true ∧ s.ringing = none) ∧
    (∃ (s : State), s.bellMayRing = false) :=
  ⟨⟨ps2, by decide +kernel⟩,
   ⟨ps2, by decide +kernel⟩,
   ⟨ps0, by decide +kernel⟩,
   ⟨ps5, by decide +kernel⟩⟩
end Sys2Proof.Tests.BellRings

namespace Sys2Proof.Tests.RollCallPhases
def bl (b : Bell) : State := { State.reset with bell := b }
def ps2 : State := { State.reset with bell := { phase := .gapped, pages := Vector.replicate 2 { fresh := true } } }
def ps4 : State := { State.reset with bell := { phase := .rung } }
def ps5 : State := { State.reset with bell := { phase := .checked } }
def ps6 : State := { State.reset with bell := { phase := .activated } }
def ps7 : State := { State.reset with bell := { phase := .swapped } }
def ps10 : State := (bl { phase := .rung, frameStrict := true })
def ps11 : State := (bl { phase := .rung, run := some { page := 0, tt := { tt0 with dclk := 66000 }, index := 0 } })
def ps12 : State := (bl { phase := .rung, pinOut := true })
def ps13 : State := (bl { phase := .checked, passed := some 0, pages := Vector.replicate 2 { tt := some tt0 } })
def ps14 : State := ((bl { phase := .activated }).setReg rRtSwap 0x8000000000000000)
def ps15 : State := ((bl { phase := .activated }).setReg rPartSwap 0x8000000000000000)
theorem hyps_RollCallPhases :
    (∃ (s : State), s.bell.phase = .rung ∧ s.pendingPage = none ∧ s.bell.run = none ∧ s.modeDiffers = false ∧ s.bell.pinOut = false) ∧
    (∃ (s : State), s.bell.phase = .rung ∧ s.modeDiffers = true) ∧
    (∃ (s : State), s.bell.phase = .rung ∧ s.pendingPage = none ∧ s.modeDiffers = false ∧ ∃ r ∈ s.bell.run, ∃ reason ∈ s.lengthFault r.tt, True) ∧
    (∃ (s : State), s.bell.phase = .rung ∧ s.bell.pinOut = true) ∧
    (∃ (s : State), s.bell.phase = .checked ∧ s.bell.run = none ∧ s.bell.ranged = none ∧ ∃ p ∈ s.bell.passed, ∃ x ∈ (s.page p).tt, True) ∧
    (∃ (s : State), s.bell.phase = .checked ∧ s.bell.passed = none ∧ s.bell.run = none ∧ tableOk deskDefault s.desks = true) ∧
    (∃ (s : State), s.bell.phase = .activated ∧ s.partArmed = false ∧ s.regBit rRtSwap 63 = false) ∧
    (∃ (s : State), s.bell.phase = .activated ∧ s.partArmed = false ∧ s.regBit rRtSwap 63 = true ∧ s.regF rRtSwap 0 32 = s.lesson.toNat % 2 ^ 32 ∧ s.regBit rRtStatus 2 = false ∧ tableOk regReset s.regs = true) ∧
    (∃ (s : State), s.bell.phase = .activated ∧ s.partArmed = true ∧ s.regF rPartSwap 0 32 = s.lesson.toNat % 2 ^ 32 ∧ s.regBit rRtSwap 63 = false ∧ (∀ p : Fin 128, s.swapOffends p.val = false)) ∧
    (∃ (s : State), s.bell.phase = .swapped) ∧
    (∃ (s : State), s.bell.phase = .gapped) :=
  ⟨⟨ps4, by decide +kernel⟩,
   ⟨ps10, by decide +kernel⟩,
   ⟨ps11, by decide +kernel⟩,
   ⟨ps12, by decide +kernel⟩,
   ⟨ps13, by decide +kernel⟩,
   ⟨ps5, by decide +kernel⟩,
   ⟨ps6, by decide +kernel⟩,
   ⟨ps14, by decide +kernel⟩,
   ⟨ps15, by decide +kernel⟩,
   ⟨ps7, by decide +kernel⟩,
   ⟨ps2, by decide +kernel⟩⟩
end Sys2Proof.Tests.RollCallPhases

namespace Sys2Proof.Tests.PageCheck
def pg (tt : Timetable) (st : Nat) : State := { (State.reset.setPageState 0 st 0) with bell := { State.reset.bell with pages := State.reset.bell.pages.set 0 { tt := some tt } } }
def ps0 : State := State.reset
def ps7 : State := { (pg tt0 3) with bell := { (pg tt0 3).bell with frameStrict := true } }
theorem hyps_PageCheck :
    (∃ (s : State) (p : Fin 2), s.pageState p.val ≠ 3) ∧
    (∃ (s : State) (tt : Timetable), s.formatOk tt = false) ∧
    (∃ (s : State) (tt : Timetable), s.formatOk tt = true ∧ s.strict ≠ s.bell.frameStrict) ∧
    (∃ (s : State) (tt : Timetable), s.formatOk tt = true ∧ s.strict = s.bell.frameStrict ∧ tt.strict = s.strict ∧ tt.dclk ≠ 33 * s.bell.n) ∧
    (∃ (s : State) (tt : Timetable), s.formatOk tt = true ∧ s.strict = s.bell.frameStrict ∧ tt.strict = s.strict ∧ tt.dclk = 33 * s.bell.n ∧ s.bell.guard < tt.minGuard) :=
  ⟨⟨ps0, 0, by decide +kernel⟩,
   ⟨ps0, { tt0 with crcOk := false }, by decide +kernel⟩,
   ⟨ps7, tt0, by decide +kernel⟩,
   ⟨ps0, { tt0 with dclk := 66000 }, by decide +kernel⟩,
   ⟨ps0, { tt0 with minGuard := 4096 }, by decide +kernel⟩⟩
end Sys2Proof.Tests.PageCheck

namespace Sys2Proof.Tests.PostAndLoad
def tr (s : State) : State := ((s.setRegF rTtRegion 48 5 1).setRegF rTtRegion 30 10 1).setReg rTtPage0 0x40000000 |>.setReg (rTtPage0+8) 0x40000000
def ps0 : State := State.reset
def ps2 : State := (tr State.reset)
def ps3 : State := ((tr State.reset).setPageState 0 1 0)
def ps6 : State := ((State.reset.setPageState 0 1 0).setRegBit rRstStatus 5 true)
abbrev unread : State → Fin 2 → Prop := fun s p => s.pageState p.val = 1 ∨ s.pageState p.val = 2 ∧ (s.page p).tt = none
theorem hyps_PostAndLoad :
    (∃ (v : BitVec 64) (len : Nat) (s : State), s.recovery = false ∧ s.pageBusy (Fin.ofNat 2 v.toNat) = false ∧ s.pageInside (Fin.ofNat 2 v.toNat) len = true) ∧
    (∃ (v : BitVec 64) (len : Nat) (s : State), s.recovery = false ∧ (s.pageBusy (Fin.ofNat 2 v.toNat) = true ∨ s.pageInside (Fin.ofNat 2 v.toNat) len = false)) ∧
    (∃ (p : Fin 2) (im : PageImage) (s : State), s.loaderHeld = false ∧ unread s p ∧ im.preloads = [] ∧ s.imagesReady (PageImage.timetable im) = true) ∧
    (∃ (p : Fin 2) (im : PageImage) (s : State), s.loaderHeld = false ∧ unread s p ∧ (im.preloads ≠ [] ∨ s.imagesReady (PageImage.timetable im) = false)) ∧
    (∃ (s : State), s.loaderHeld = true) :=
  ⟨⟨0, 0, ps2, by decide +kernel⟩,
   ⟨0, 0, ps0, by decide +kernel⟩,
   ⟨0, im0, ps3, by decide +kernel⟩,
   ⟨0, { im0 with preloads := [{ w := 0, c := none, cohort := 5, fva := 0x1000 }] }, ps3, by decide +kernel⟩,
   ⟨ps6, by decide +kernel⟩⟩
end Sys2Proof.Tests.PostAndLoad

namespace Sys2Proof.Tests.BellFrames
def bi : BellInfo := { lesson := 5, n := 1000, stretch := 1, strict := true, pin := false, halt := false, guard := 512, master := 3, hops := 1, delay := 10, lead := 400 }
def mst : State := State.reset.setRegBit rBellStatus 28 true
def tree : State := ((State.reset.setTabF rPortPart 1 0x80).setRegBit rBellTree 0 true).setReady (readyPort 0) true
def ps0 : State := State.reset
def ps2 : State := mst
def ps3 : State := tree
theorem hyps_BellFrames :
    (∃ (s : State), s.isMaster = false) ∧
    (∃ (s : State), s.isMaster = true) ∧
    (∃ (p : Fin 128) (s : State), (s.portPart p.val ≠ some s.bellPart ∨ s.treePort p.val = false ∨ s.isMaster = true)) ∧
    (∃ (p : Fin 128) (s : State), s.portPart p.val = some s.bellPart ∧ s.treePort p.val = true ∧ s.isMaster = false) ∧
    (∃ (s : State), s.isMaster = true ∧ s.bell.halt = none) ∧
    (∃ (s : State), s.isMaster = false) :=
  ⟨⟨ps0, by decide +kernel⟩,
   ⟨ps2, by decide +kernel⟩,
   ⟨0, ps0, by decide +kernel⟩,
   ⟨0, ps3, by decide +kernel⟩,
   ⟨ps2, by decide +kernel⟩,
   ⟨ps0, by decide +kernel⟩⟩
end Sys2Proof.Tests.BellFrames

namespace Sys2Proof.Tests.Election
def el : State := (State.reset.setRegBit rBellStatus 6 true).setTabF rPortPart 1 0x80
def bs (s : State) (b : Bell) : State := { s with bell := b }
def ps0 : State := State.reset
def ps2 : State := el
def ps3 : State := (bs el { best := some (5, 0) })
def ps5 : State := (bs State.reset { phase := .body })
def ps6 : State := (bs State.reset { phase := .body, next := none, waiting := true })
def ps11 : State := ((bs el { best := some (5, 0) }).setRegBit rBellCtl 0 false)
theorem hyps_Election :
    (∃ (s : State), s.isMaster = false ∧ s.electing = false ∧ s.bell.phase ≠ .idle ∧ s.bell.next = none ∧ s.bell.elected = false ∧ s.bell.waiting = false ∧ s.edgeStands = false) ∧
    (∃ (s : State), (s.isMaster = true ∨ s.electing = true ∨ s.bell.phase = .idle ∨ s.bell.next.isSome = true)) ∧
    (∃ (s : State), (s.bell.waiting = true ∨ s.bell.elected = true) ∧ s.electing = false) ∧
    (∃ (p : Fin 128) (s : State), s.portPart p.val ≠ some s.bellPart) ∧
    (∃ (p : Fin 128) (s : State), s.portPart p.val = some s.bellPart ∧ s.electing = true) ∧
    (∃ (s : State), s.electing = false) ∧
    (∃ (s : State), s.electing = true ∧ s.bell.best = none) ∧
    (∃ (s : State) (pr : Nat), s.electing = true ∧ s.bell.best = some (pr, s.node.toNat) ∧ s.regBit rBellCtl 0 = false) ∧
    (∃ (s : State) (pr : Nat), s.electing = true ∧ s.bell.best = some (pr, s.node.toNat) ∧ s.regBit rBellCtl 0 = true) :=
  ⟨⟨ps5, by decide +kernel⟩,
   ⟨ps0, by decide +kernel⟩,
   ⟨ps6, by decide +kernel⟩,
   ⟨0, ps0, by decide +kernel⟩,
   ⟨0, ps2, by decide +kernel⟩,
   ⟨ps0, by decide +kernel⟩,
   ⟨ps2, by decide +kernel⟩,
   ⟨ps11, 5, by decide +kernel⟩,
   ⟨ps3, 5, by decide +kernel⟩⟩
end Sys2Proof.Tests.Election

namespace Sys2Proof.Tests.PinsAndStretches
def bi : BellInfo := { lesson := 5, n := 1000, stretch := 1, strict := true, pin := false, halt := false, guard := 512, master := 3, hops := 1, delay := 10, lead := 400 }
def bs (s : State) (b : Bell) : State := { s with bell := b }
def mst : State := State.reset.setRegBit rBellStatus 28 true
def ps0 : State := State.reset
def ps2 : State := (State.reset.setRegBit rBellCtl 1 true)
def ps3 : State := (bs (State.reset.setRegBit rBellCtl 1 true) { next := some bi })
def ps4 : State := mst
def ps5 : State := (bs mst { placed := 2, held := 1000, requests := [(5,1)] })
theorem hyps_PinsAndStretches :
    (∃ (s : State), s.regBit rBellCtl 1 = true) ∧
    (∃ (s : State), s.regBit rBellCtl 1 = false) ∧
    (∃ (s : State), s.regBit rBellCtl 1 = true ∧ s.bell.next.isSome = true ∧ s.bell.edge = false) ∧
    (∃ (s : State), s.bell.pwrPin = false) ∧
    (∃ (s : State), s.bell.coolPin = false) ∧
    (∃ (s : State) (on : Bool), s.bell.pwrPin = on) ∧
    (∃ (s : State), s.isMaster = true) ∧
    (∃ (s : State), s.isMaster = true ∧ s.wantedCode < s.bell.placed ∧ s.regF rStretch 32 16 ≤ s.bell.held) ∧
    (∃ (s : State), s.isMaster = true ∧ s.bell.held < s.regF rStretch 32 16) :=
  ⟨⟨ps2, by decide +kernel⟩,
   ⟨ps0, by decide +kernel⟩,
   ⟨ps3, by decide +kernel⟩,
   ⟨ps0, by decide +kernel⟩,
   ⟨ps0, by decide +kernel⟩,
   ⟨ps0, false, by decide +kernel⟩,
   ⟨ps4, by decide +kernel⟩,
   ⟨ps5, by decide +kernel⟩,
   ⟨ps4, by decide +kernel⟩⟩
end Sys2Proof.Tests.PinsAndStretches

namespace Sys2Proof.Tests.BellRegisters
def ps0 : State := State.reset
def ps2 : State := (State.reset.setPageState 0 3 0)
theorem hyps_BellRegisters :
    (∃ (part : BitVec 6) (s : State), s.recovery = false ∧ part.toNat ≠ s.bellPart ∧ (∀ p, p < 2 → s.pageState p ≠ 3 ∧ s.pageState p ≠ 4)) ∧
    (∃ (s : State) (p : Nat), s.recovery = false ∧ p < 2 ∧ (s.pageState p = 3 ∨ s.pageState p = 4)) ∧
    (∃ (s : State), s.recovery = false) :=
  ⟨⟨1, ps0, by decide +kernel⟩,
   ⟨ps2, 0, by decide +kernel⟩,
   ⟨ps0, by decide +kernel⟩⟩
end Sys2Proof.Tests.BellRegisters

namespace Sys2Proof.Tests.BufferRegisters
def b (s : State) : State := (s.setReg (swReg 0 swBufMin) 0x0030003000300030).setReg (swReg 0 swCreditAdv) 0x0020002000200020
def ps0 : State := State.reset
theorem hyps_BufferRegisters :
    (∃ (p : Fin 140) (v : BitVec 64) (s : State), s.recovery = false ∧ (∀ i, i < 4 → ((s.regF (swReg p.val swVcCfg) 0 4).testBit i = true → 18 ≤ vcField v i) ∧ vcField (s.reg (swReg p.val swCreditAdv)) i ≤ vcField v i) ∧ s.sumMin p.val v ≤ 327680) ∧
    (∃ (p : Fin 140) (v : BitVec 64) (s : State) (i : Nat), s.recovery = false ∧ i < 4 ∧ vcField v i < vcField (s.reg (swReg p.val swCreditAdv)) i) ∧
    (∃ (p : Fin 140) (v : BitVec 64) (s : State), s.recovery = false ∧ (∀ i, i < 4 → ((s.regF (swReg p.val swVcCfg) 0 4).testBit i = true → 18 ≤ vcField v i) ∧ vcField v i ≤ vcField (s.reg (swReg p.val swBufMin)) i)) ∧
    (∃ (p : Fin 140) (v : BitVec 64) (s : State) (i : Nat), s.recovery = false ∧ i < 4 ∧ vcField (s.reg (swReg p.val swBufMin)) i < vcField v i) ∧
    (∃ (p : Fin 140) (v : BitVec 64) (s : State), s.recovery = false ∧ (∀ i, i < 4 → v.getLsbD i = true → (s.regF (swReg p.val swVcCfg) 0 4).testBit i = false → 18 ≤ vcField (s.reg (swReg p.val swBufMin)) i ∧ 18 ≤ vcField (s.reg (swReg p.val swCreditAdv)) i)) :=
  ⟨⟨0, 0x8000800080008000, ps0, by decide +kernel⟩,
   ⟨0, 0, ps0, 0, by decide +kernel⟩,
   ⟨0, 0x0020002000200020, ps0, by decide +kernel⟩,
   ⟨0, 0x8000800080008000, ps0, 0, by decide +kernel⟩,
   ⟨0, 0, ps0, by decide +kernel⟩⟩
end Sys2Proof.Tests.BufferRegisters

namespace Sys2Proof.Tests.SwitchRegisters
def cc : CollCtx := { desc := { id := 1, kind := 0, type := 0, members := 2, index := 0, root := 0, group := 0, launch := 0, close := 0, finish := 0, region := 0, lines := 1, init := false, watch := [], vote := 0, verdict := 64, vtick := 0 }, base := 0, st := .reserved, status := 0, cause := 0, how := 0, slots := 0, vote := 0, noticed := false, decided := false, recorded := false, held := true }
def ps0 : State := State.reset
def ps2 : State := { State.reset with coll := { ctx := [(0, some cc)] } }
theorem hyps_SwitchRegisters :
    (∃ (v : BitVec 64) (s : State), s.recovery = false ∧ 1 ≤ fget v 0 10 ∧ fget v 0 10 ≤ 1000 ∧ (fget v 32 3 + 1) * fget v 0 10 ≤ s.regF rWinTimeout 0 14) ∧
    (∃ (v : BitVec 64) (s : State), s.recovery = false ∧ 1 ≤ fget v 0 10 ∧ fget v 0 10 ≤ 1000 ∧ s.regF rWinTimeout 0 14 < (fget v 32 3 + 1) * fget v 0 10) ∧
    (∃ (v : BitVec 64) (s : State), s.recovery = false ∧ 10 ≤ fget v 0 14 ∧ fget v 0 14 ≤ 10000 ∧ (s.regF rRtx 32 3 + 1) * s.regF rRtx 0 10 ≤ fget v 0 14) ∧
    (∃ (v : BitVec 64) (s : State), s.recovery = false ∧ (fget v 0 14 < 10 ∨ 10000 < fget v 0 14)) ∧
    (∃ (s : State), s.recovery = false) ∧
    (∃ (word : Fin 64) (v : BitVec 64) (s : State), s.recovery = false ∧ s.reg (rRtHold + 8 * word.val) &&& ~~~v = 0) ∧
    (∃ (lo : BitVec 64) (hi : BitVec 64) (s : State), s.recovery = false ∧ fget hi 32 9 ≤ 256 ∧ (hi.getLsbD 63 = true → fget lo 0 28 < fget hi 0 28)) ∧
    (∃ (lo : BitVec 64) (hi : BitVec 64) (s : State), s.recovery = false ∧ (fget lo 32 32 < fget lo 0 32 ∨ fget hi 0 24 < 2100 ∨ fget hi 24 24 < 2100)) ∧
    (∃ (lo : BitVec 64) (hi : BitVec 64) (s : State), s.recovery = false ∧ fget lo 0 32 ≤ fget lo 32 32 ∧ 2100 ≤ fget hi 0 24 ∧ 2100 ≤ fget hi 24 24) ∧
    (∃ (g : BitVec 12) (s : State), s.recovery = false ∧ s.groupBusy g.toNat = true) ∧
    (∃ (g : BitVec 12) (s : State), s.recovery = false ∧ s.groupBusy g.toNat = false) :=
  ⟨⟨9, ps0, by decide +kernel⟩,
   ⟨100000, ps0, by decide +kernel⟩,
   ⟨100000, ps0, by decide +kernel⟩,
   ⟨0, ps0, by decide +kernel⟩,
   ⟨ps0, by decide +kernel⟩,
   ⟨0, 0, ps0, by decide +kernel⟩,
   ⟨0, 0, ps0, by decide +kernel⟩,
   ⟨0, 0, ps0, by decide +kernel⟩,
   ⟨0, 0x0000008400000834, ps0, by decide +kernel⟩,
   ⟨0, ps2, by decide +kernel⟩,
   ⟨0, ps0, by decide +kernel⟩⟩
end Sys2Proof.Tests.SwitchRegisters

namespace Sys2Proof.Tests.StagedRoutes
def ps0 : State := State.reset
theorem hyps_StagedRoutes : ∃ (s : State), s.recovery = false :=
  ⟨ps0, by decide +kernel⟩
end Sys2Proof.Tests.StagedRoutes

namespace Sys2Proof.Tests.MemoryRequests
def fr (op : Nat) (a : Nat) : Frame := { blankFrame with opcode := BitVec.ofNat 8 op, fpa := BitVec.ofNat 56 a, src := 5, length := 64, vc := 1 }
def ac1 : Access := { id := 1, kind := .load, pc := 4, d := 3, sz := 3, soff := 0, f := blankFrame, fva := 0, needW := false, timed := false, leaves := true, stage := .sent, result := none }
def ds (s : State) : State := s.setDesk 0 { s.desk 0 with seats := ((s.desk 0).seats).set 0 { ((s.desk 0).seats)[0] with acc := [ac1] } }
def ps2 : State := (rdy State.reset)
theorem hyps_MemoryRequests :
    (∃ (r : Req) (s : State) (d : DeskId) (k : Fin 4) (id : Nat), isMemReq (Req.op r) = true ∧ opcodeLegal (Req.op r) = false ∧ Alone s r d k id ∧ (∀ off, s.whereIs (Req.off r) ≠ .mirror off) ∧ s.isFenced (s.whereIs (Req.off r)) (Req.off r) (Req.len r) = false ∧ s.whereIs (Req.off r) ≠ .hole) ∧
    (∃ (r : Req), isMemReq (Req.op r) = true ∧ opcodeLegal (Req.op r) = false) :=
  ⟨⟨⟨.desk ⟨0,0,0⟩ 0 1, fr 0x10 64⟩, ps2, ⟨0,0,0⟩, 0, 1, by decide +kernel, by decide +kernel, ⟨rfl, by decide +kernel, by decide +kernel⟩,
    fun off => by rw [show ps2.whereIs (Req.off ⟨.desk ⟨0,0,0⟩ 0 1, fr 0x10 64⟩) = .general from by decide +kernel]; nofun,
    by decide +kernel, by decide +kernel⟩,
   ⟨⟨.desk ⟨0,0,0⟩ 0 1, fr 0x10 64⟩, by decide +kernel⟩⟩
end Sys2Proof.Tests.MemoryRequests

namespace Sys2Proof.Tests.MemoryEffects
def ps0 : State := State.reset
theorem hyps_MemoryEffects :
    (∃ (s : State) (r : Req), isLd (Req.op r) = true ∧ (∀ l ∈ Req.lines r, s.lineBad l = false)) ∧
    (∃ (s : State) (a : Nat) (data : List Byte), (∀ l ∈ linesOf a data.length, s.lineBad l = false)) ∧
    (∃ (s : State) (r : Req), 2 ≤ Req.op r / 16 ∧ s.isRecord r = false ∧ s.slotted (Req.op r) = false ∧ (∀ l ∈ Req.lines r, s.lineBad l = false)) ∧
    (∃ (z : Nat), 0 < z) ∧
    (∃ (s : State) (t : Nat) (fmt : Fmt) (a : Nat) (pay : List Byte) (u : Int), (s.addSlots t fmt a pay u).1 ≠ stOk) :=
  ⟨⟨ps0, ⟨.fabric 128, (mkF 1 8 0x100 [])⟩, by decide +kernel⟩,
   ⟨ps0, 0, [], by decide +kernel⟩,
   ⟨ps0, ⟨.fabric 128, (mkF 0x52 8 0x101 [])⟩, by decide +kernel⟩,
   ⟨1, by decide +kernel⟩,
   ⟨ps0, 0, .fp64, 0, (List.replicate 8 1), (1), by decide +kernel⟩⟩
end Sys2Proof.Tests.MemoryEffects

namespace Sys2Proof.Tests.AtomicValues
theorem hyps_AtomicValues :
    (∃ (t : Nat), t < 4) ∧
    (∃ (old : Nat), old < 2 ^ 32) :=
  ⟨⟨0, by decide +kernel⟩,
   ⟨0, by decide +kernel⟩⟩
end Sys2Proof.Tests.AtomicValues

namespace Sys2Proof.Tests.Multicast
def g (own : Word) : State := ((State.reset.setTabF rMcGroup 4 0x80020000).setTabF rMcOwner 4 own.toNat).setTabF rMcMember 2 5
def mreq : Req := ⟨.desk ⟨0,0,0⟩ 0 1, { blankFrame with opcode := 3, length := 4, payload := [1,2,3,4], cohort := 7 }⟩
def mreq7 : Req := ⟨.desk ⟨0,0,0⟩ 0 1, { blankFrame with opcode := 3, length := 4, payload := [1,2,3,4], cohort := 7, part := 2, fpa := 64 }⟩
def acm : Access := { id := 1, kind := .multicast, pc := 4, d := 3, sz := 3, soff := 0, f := blankFrame, fva := 0, needW := true, timed := false, leaves := true, stage := .sent, result := none }
def ds (s : State) : State := s.setDesk 0 { s.desk 0 with seats := ((s.desk 0).seats).set 0 { ((s.desk 0).seats)[0] with acc := [acm] } }
def ps0 : State := State.reset
def ps2 : State := (g 0)
def ps3 : State := (g 0x80000005)
def ps5 : State := { (g 0) with fab := { (g 0).fab with mcWait := [mreq] } }
def ps7 : State := (ds (State.reset.setTabF rMcGroup 4 0x80000000))
def ps8 : State := (ds { State.reset with fab := { State.reset.fab with mcWait := [mreq7] } })
abbrev free : State → Prop := fun s => s.fab.mcWait = [] ∧ s.fab.mc.length < 1024
abbrev calm : State → Prop := fun s => s.strms = [] ∧ s.fab.pairs = []
theorem hyps_Multicast :
    (∃ (r : Req) (s : State), Req.op r = 3 ∧ Req.isFrame r = false ∧ free s ∧ calm s ∧ s.tabF (rMcGroup + 4 * r.f.group.toNat) 4 < 2 ^ 31) ∧
    (∃ (r : Req) (s : State), Req.op r = 3 ∧ Req.isFrame r = false ∧ free s ∧ calm s ∧ 2 ^ 31 ≤ s.tabF (rMcGroup + 4 * r.f.group.toNat) 4 ∧ 2 ^ 31 ≤ s.tabF (rMcOwner + 4 * r.f.group.toNat) 4 ∧ (s.tabF (rMcOwner + 4 * r.f.group.toNat) 4 % 1024 ≠ r.f.cohort.toNat ∨ s.tabF (rMcOwner + 4 * r.f.group.toNat) 4 / 2 ^ 16 % 64 ≠ r.f.part.toNat)) ∧
    (∃ (r : Req) (s : State), Req.op r = 3 ∧ Req.isFrame r = false ∧ free s ∧ calm s ∧ s.mstRefusal r.f = none ∧ s.mcMembers r.f.group.toNat = []) ∧
    (∃ (r : Req) (s : State), Req.op r = 3 ∧ Req.isFrame r = false ∧ free s ∧ s.mstRefusal r.f = none) ∧
    (∃ (r : Req) (s : State), Req.op r = 3 ∧ Req.isFrame r = false ∧ s.strms = [] ∧ s.mstRefusal r.f = none ∧ ¬ free s) ∧
    (∃ (r : Req), Req.op r ≠ 3) ∧
    (∃ (s : State), (s.fab.mcWait = [] ∨ 1024 ≤ s.fab.mc.length)) ∧
    (∃ (s : State) (r : Req) (l : List Req), s.fab.mcWait = r :: l ∧ s.fab.mc.length < 1024 ∧ (s.mstRefusal r.f).isSome = true ∧ s.fab.pairs = [] ∧ s.fab.mcHeld = [] ∧ Req.isFrame r = false) ∧
    (∃ (s : State) (r : Req) (l : List Req), s.fab.mcWait = r :: l ∧ s.fab.mc.length < 1024) ∧
    (∃ (s : State) (r : Req), s.mstRefusal r.f = none) :=
  ⟨⟨mreq, ps0, by decide +kernel⟩,
   ⟨mreq, ps3, by decide +kernel⟩,
   ⟨mreq, ps7, by decide +kernel⟩,
   ⟨mreq, ps2, by decide +kernel⟩,
   ⟨mreq, ps5, by decide +kernel⟩,
   ⟨⟨.stream 0 0, { blankFrame with opcode := 1 }⟩, by decide +kernel⟩,
   ⟨ps0, by decide +kernel⟩,
   ⟨ps8, mreq7, [], by decide +kernel⟩,
   ⟨ps5, mreq, [], by decide +kernel⟩,
   ⟨ps2, mreq, by decide +kernel⟩⟩
end Sys2Proof.Tests.Multicast

namespace Sys2Proof.Tests.CoherenceRequests
def mem (s : State) : State := rdy (s.setReg rCohMembers 3)
def rd (op : Nat) : Frame := { blankFrame with opcode := BitVec.ofNat 8 op, fpa := 128, src := 9, length := 64 }
def tr : Trans := { work := .recall, lines := [2], pend := [(2,1)], data := [], kept := [], errs := [], lost := false, orphan := false, pokes := [] }
def ps2 : State := (mem State.reset)
def ps3 : State := { (mem State.reset) with coh := { trans := [tr] } }
def ps4 : State := { (mem State.reset) with coh := { dir := [(2, { kind := .sh, sharers := 2 })] } }
abbrev ready : State → Nat → Frame → Prop := fun s p f => s.cohRefusal p f = none ∧ s.lostFrom (lineOf f) = 0 ∧ s.behind (.coherence p f) = false
abbrev stable : State → Frame → Prop := fun s f => s.inHs (lineOf f) = false ∧ s.rsvBlocks (lineOf f) f.src = false ∧ s.noCache (64 * lineOf f) = false ∧ s.lineBad (lineOf f) = false
theorem hyps_CoherenceRequests :
    (∃ (s : State) (p : Nat) (f : Frame), ready s p f ∧ s.inHs (lineOf f) = true) ∧
    (∃ (s : State) (p : Nat) (f : Frame), ready s p f ∧ stable s f ∧ (s.dirOf (lineOf f)).kind = .u) ∧
    (∃ (s : State) (p : Nat) (f : Frame), f.opcode = 0x60 ∧ ready s p f ∧ stable s f ∧ (s.dirOf (lineOf f)).kind = .sh) ∧
    (∃ (s : State) (p : Nat) (f : Frame), s.cohRefusal p f = none ∧ s.inHs (lineOf f) = true) :=
  ⟨⟨ps3, 0, (rd 0x60), by decide +kernel⟩,
   ⟨ps2, 0, (rd 0x60), by decide +kernel⟩,
   ⟨ps4, 0, (rd 0x60), by decide +kernel⟩,
   ⟨ps3, 0, (rd 0x60), by decide +kernel⟩⟩
end Sys2Proof.Tests.CoherenceRequests

namespace Sys2Proof.Tests.CoherenceMembers
def mem (s : State) : State := s.setReg rCohMembers 3
def tr : Trans := { work := .recall, lines := [2], pend := [(2,1)], data := [], kept := [], errs := [], lost := false, orphan := false, pokes := [] }
def dg : Frame := { blankFrame with fpa := 128, src := 9, opcode := 0x60 }
def tg : Trans := { tr with work := .coherence 1 dg, pend := [(2,0)] }
def ps0 : State := State.reset
def ps2 : State := (mem State.reset)
def ps3 : State := { (mem State.reset) with coh := { leaving := 1, flushes := 1 } }
def ps6 : State := { (mem State.reset) with coh := { trans := [{ tr with pend := [(2,0),(2,1)] }] } }
def ps7 : State := ({ (mem State.reset) with coh := { waitq := [.coherence 1 { blankFrame with fpa := 128, src := 9, opcode := 0x65 }] } }.setDir 2 { kind := .sh, sharers := 3 })
def ps8 : State := ({ (mem State.reset) with coh := { trans := [tg] } }.setDir 2 { kind := .ex, owner := 0 })
theorem hyps_CoherenceMembers :
    (∃ (v : BitVec 64) (s : State), s.recovery = false ∧ s.reg rCohMembers &&& ~~~v = 0) ∧
    (∃ (v : BitVec 64) (s : State) (p : Fin 64), s.recovery = false ∧ (s.reg rCohMembers).getLsbD p.val = true ∧ v.getLsbD p.val = false) ∧
    (∃ (p : Fin 64) (s : State), s.coh.leaving.getLsbD p.val = true ∧ s.fenced 2 = false) ∧
    (∃ (v : BitVec 64) (s : State), s.recovery = false ∧ v.toNat / 2 ^ 44 % 2 ^ 12 = s.node.toNat) ∧
    (∃ (s : State), s.recovery = false ∧ tableOk (fun _ => 0) s.coh.lost = true) ∧
    (∃ (line : Nat) (s : State), (s.inHs line = true ∨ (s.coh.waitq = [] ∧ s.strms = []))) ∧
    (∃ (p : Nat) (f : Frame) (s : State), s.coh.waitq = [.coherence p f] ∧ s.coh.trans = [] ∧ s.strms = [] ∧ f.opcode = 0x65 ∧ s.lostFrom (lineOf f) = 0 ∧ (s.dirOf (lineOf f)).kind ≠ .ow ∧ Dir.lists (s.dirOf (lineOf f)) p = true) ∧
    (∃ (p : Fin 64) (f : Frame) (s : State), (∀ x ∈ s.coh.trans, (lineOf f, p.val) ∉ x.pend) ∧ s.coh.waitq = [] ∧ s.strms = []) ∧
    (∃ (p : Fin 64) (f : Frame) (x : Trans) (s : State), s.coh.trans = [x] ∧ (lineOf f, p.val) ∈ x.pend ∧ (∃ y ∈ x.pend, y ≠ (lineOf f, p.val)) ∧ f.status = stOk ∧ f.opcode = 0xE8 ∧ s.coh.waitq = [] ∧ s.strms = []) ∧
    (∃ (p : Fin 64) (f : Frame) (g : Frame) (q : Nat) (x : Trans) (s : State), s.coh.trans = [x] ∧ x.pend = [(lineOf f, p.val)] ∧ x.work = .coherence q g ∧ lineOf g = lineOf f ∧ g.opcode = 0x60 ∧ x.data = [] ∧ x.errs = [] ∧ x.lost = false ∧ x.orphan = false ∧ s.dirOf (lineOf f) = { kind := .ex, owner := p.val } ∧ s.noCache (64 * lineOf f) = false ∧ f.status = stOk ∧ f.opcode = 0xE8 ∧ f.flags.getLsbD 2 = true ∧ f.payload.length = 64 ∧ s.coh.waitq = [] ∧ s.strms = []) :=
  ⟨⟨0, ps0, by decide +kernel⟩,
   ⟨0, ps2, 0, by decide +kernel⟩,
   ⟨0, ps3, by decide +kernel⟩,
   ⟨0, ps0, by decide +kernel⟩,
   ⟨ps0, by decide +kernel⟩,
   ⟨0, ps0, by decide +kernel⟩,
   ⟨1, { blankFrame with fpa := 128, src := 9, opcode := 0x65 }, ps7, by decide +kernel⟩,
   ⟨0, { blankFrame with fpa := 128, src := 9 }, ps0, by decide +kernel⟩,
   ⟨0, { blankFrame with fpa := 128, src := 9, opcode := 0xE8 }, { tr with pend := [(2,0),(2,1)] }, ps6, by decide +kernel⟩,
   ⟨0, { blankFrame with fpa := 128, src := 9, opcode := 0xE8, flags := 5, payload := List.replicate 64 7 }, dg, 1, tg, ps8, by decide +kernel⟩⟩
end Sys2Proof.Tests.CoherenceMembers

namespace Sys2Proof.Tests.Sequences
def ex (k : Nat) (q : BitVec 24) (s : State) : State := { s with fab := { s.fab with expect := [(k, some q)] } }
def ps0 : State := State.reset
def ps2 : State := (ex 9 5 State.reset)
def ps4 : State := (ex 4105 5 State.reset)
theorem hyps_Sequences :
    (∃ (s : State) (f : Frame), tget (fun _ => none) s.fab.expect f.src.toNat = some f.seq ∧ s.fab.replies = []) ∧
    (∃ (s : State) (f : Frame), ∃ q ∈ tget (fun _ => none) s.fab.expect f.src.toNat, f.seq ≠ q ∧ seqEarlier f.seq q = false) ∧
    (∃ (s : State) (f : Frame), ∃ q ∈ tget (fun _ => none) s.fab.expect f.src.toNat, f.seq ≠ q ∧ seqEarlier f.seq q = true) ∧
    (∃ (f : Frame) (s : State), tget (fun _ => none) s.fab.expect f.src.toNat = none) ∧
    (∃ (p : Fin 64) (f : Frame) (s : State), ∃ q ∈ tget (fun _ => none) s.fab.expect (4096 * (p.val + 1) + f.src.toNat), True) :=
  ⟨⟨ps2, { blankFrame with src := 9, seq := 5, vc := 1, opcode := 1, length := 8 }, by decide +kernel⟩,
   ⟨ps2, { blankFrame with src := 9, seq := 7, vc := 1 }, 5, by decide +kernel, by decide, by decide⟩,
   ⟨ps2, { blankFrame with src := 9, seq := 4, vc := 1 }, 5, by decide +kernel, by decide, by decide⟩,
   ⟨{ blankFrame with src := 9, seq := 5, vc := 1, opcode := 1, length := 8 }, ps0, by decide +kernel⟩,
   ⟨0, { blankFrame with src := 9, seq := 5, vc := 1, opcode := 1, length := 8 }, ps4, 5, by decide +kernel, trivial⟩⟩
end Sys2Proof.Tests.Sequences

namespace Sys2Proof.Tests.SourceEvents
def rq : SrcReq := { f := { blankFrame with dst := 9, seq := 5, vc := 1, opcode := 1, length := 8 }, charge := 1, tx := 1, aged := false, owner := .none, id := 3 }
def pr (p : Pair) (s : State) : State := { s with fab := { s.fab with pairs := [(9, p)] } }
def rqd : SrcReq := { rq with owner := .desk 0 0 1 }
def ac1 : Access := { id := 1, kind := .load, pc := 4, d := 3, sz := 3, soff := 0, f := blankFrame, fva := 0, needW := false, timed := false, leaves := true, stage := .sent, result := none }
def ds (s : State) : State := s.setDesk 0 { s.desk 0 with seats := ((s.desk 0).seats).set 0 { ((s.desk 0).seats)[0] with acc := [ac1] } }
def rt (s : State) : State := (s.setReg (rRtActive + 152) 0x8200000000).setReg (rRtActive + 144) 0x0102
def ps0 : State := State.reset
def ps4 : State := (pr { st := .syncing, waiting := [rq] } State.reset)
def ps7 : State := (pr { st := .syncing } State.reset)
def ps8 : State := (rt (pr { st := .opened, sent := [rq] } State.reset))
def ps9 : State := (rt (pr { st := .opened, waiting := [rq] } State.reset))
def ps10 : State := (ds (pr { st := .opened, sent := [rqd] } State.reset))
def ps11 : State := (ds { State.reset with fab := { tt := [{ dest := 9, index := 5, owner := .desk 0 0 1 }] } })
abbrev calm : State → Prop := fun s => s.strms = [] ∧ s.host.reads = []
theorem hyps_SourceEvents :
    (∃ (f : Frame) (s : State), calm s ∧ f.status = stOk ∧ (s.pair 0 f.src.toNat).st = .syncing ∧ (s.pair 0 f.src.toNat).waiting = []) ∧
    (∃ (f : Frame) (s : State), calm s ∧ f.status ≠ stOk ∧ (s.pair 0 (f.fpa.toNat / 2 ^ 44)).st = .syncing) ∧
    (∃ (f : Frame) (s : State), calm s ∧ f.status = stOk ∧ (s.pair 0 f.src.toNat).st ≠ .syncing) ∧
    (∃ (d : BitVec 12) (s : State), calm s ∧ s.engRoute 0 d = none) ∧
    (∃ (d : BitVec 12) (r : SrcReq) (s : State), calm s ∧ (s.engRoute 0 d).isSome = true ∧ (s.pair 0 d.toNat).st = .opened ∧ (s.pair 0 d.toNat).sent = [r] ∧ r.tx ≤ s.rtxLimit 0) ∧
    (∃ (d : BitVec 12) (id : Nat) (s : State), calm s ∧ (∀ r ∈ (s.pair 0 d.toNat).sent, r.id ≠ id) ∧ (∀ r ∈ (s.pair 0 d.toNat).waiting, r.id ≠ id)) ∧
    (∃ (d : BitVec 12) (id : Nat) (r : SrcReq) (w : DeskId) (k : Fin 4) (n : Nat) (s : State), calm s ∧ (s.pair 0 d.toNat).sent = [r] ∧ r.id = id ∧ (s.pair 0 d.toNat).st = .opened ∧ (s.pair 0 d.toNat).waiting = [] ∧ r.owner = .desk (DeskId.idx w) k.val n ∧ r.f.opcode ≠ 3 ∧ s.pairsOf 0 = [(d.toNat, s.pair 0 d.toNat)]) ∧
    (∃ (f : Frame) (s : State), calm s ∧ s.answeredPair 0 f = none ∧ (s.pair 0 f.src.toNat).st ≠ .opened) ∧
    (∃ (d : BitVec 12) (s : State), calm s ∧ ((s.pair 0 d.toNat).waiting = [] ∨ s.isHeld 0 d.toNat = true)) ∧
    (∃ (d : BitVec 12) (r : SrcReq) (s : State), calm s ∧ (s.pair 0 d.toNat).waiting = [r] ∧ (s.pair 0 d.toNat).st = .opened ∧ (s.engRoute 0 d).isSome = true ∧ s.isHeld 0 d.toNat = false ∧ s.isOwnMst 0 r = false ∧ s.mstAllows 0 r = true ∧ s.windowFits 0 d.toNat r = true) ∧
    (∃ (f : Frame) (s : State), calm s ∧ f.vc = 0 ∧ (∀ r ∈ s.fab.tt, ¬ (r.dest = f.src ∧ r.index = f.seq))) ∧
    (∃ (f : Frame) (s : State), calm s ∧ f.vc ≠ 0 ∧ mayBeGenerated f = false ∧ (∀ r ∈ (s.pair 0 f.src.toNat).sent, r.f.seq ≠ f.seq)) ∧
    (∃ (f : Frame) (w : DeskId) (k : Fin 4) (n : Nat) (s : State), calm s ∧ f.vc = 0 ∧ ∃ r ∈ s.fab.tt.find? (fun r => r.dest = f.src ∧ r.index = f.seq), r.owner = .desk (DeskId.idx w) k.val n) ∧
    (∃ (f : Frame) (r : SrcReq) (w : DeskId) (k : Fin 4) (n : Nat) (s : State), calm s ∧ f.vc ≠ 0 ∧ f.status = stOk ∧ s.pairsOf 0 = [(f.src.toNat, s.pair 0 f.src.toNat)] ∧ (s.pair 0 f.src.toNat).sent = [r] ∧ (s.pair 0 f.src.toNat).waiting = [] ∧ r.f.seq = f.seq ∧ r.owner = .desk (DeskId.idx w) k.val n) :=
  ⟨⟨{ blankFrame with src := 9, seq := 5, vc := 1, opcode := 1 }, ps7, by decide +kernel⟩,
   ⟨{ blankFrame with src := 3, seq := 5, vc := 2, status := 3, fpa := 0x900000000040 }, ps4, by decide +kernel⟩,
   ⟨{ blankFrame with src := 9, seq := 5, vc := 1, opcode := 1 }, ps0, by decide +kernel⟩,
   ⟨0, ps0, by decide +kernel⟩,
   ⟨9, rq, ps8, by decide +kernel⟩,
   ⟨0, 0, ps0, by decide +kernel⟩,
   ⟨9, 3, rqd, ⟨0,0,0⟩, 0, 1, ps10, by decide +kernel⟩,
   ⟨{ blankFrame with src := 9, seq := 5, vc := 1, opcode := 1 }, ps0, by decide +kernel⟩,
   ⟨0, ps0, by decide +kernel⟩,
   ⟨9, rq, ps9, by decide +kernel⟩,
   ⟨{ blankFrame with src := 9, seq := 5, vc := 0, opcode := 1 }, ps0, by decide +kernel⟩,
   ⟨{ blankFrame with src := 9, seq := 5, vc := 1, opcode := 1 }, ps0, by decide +kernel⟩,
   ⟨{ blankFrame with src := 9, seq := 5, vc := 0, opcode := 1 }, ⟨0,0,0⟩, 0, 1, ps11, by decide +kernel⟩,
   ⟨{ blankFrame with src := 9, seq := 5, vc := 1, opcode := 1 }, rqd, ⟨0,0,0⟩, 0, 1, ps10, by decide +kernel⟩⟩
end Sys2Proof.Tests.SourceEvents

namespace Sys2Proof.Tests.CentroidEvents
def qf (pl : Place) : QFrame := { id := 3, f := { blankFrame with vc := 1 }, inp := 0, out := 1, vc := 1, cells := 2, sent := 0, place := pl, stamp := 0, since := 0 }
def vq (q : QFrame) (s : State) : State := { s with fab := { s.fab with voq := [q], nextId := 4 } }
def ps0 : State := State.reset
def ps2 : State := (vq (qf .waitOverflow) (rdy (State.reset.setRegF rOvfSize 0 7 1)))
def ps3 : State := (vq (qf .overflow) (rdy (State.reset.setRegF rOvfSize 0 7 1)))
def ps4 : State := (vq (qf .overflow) (State.reset.setRegF rSharedTotal 0 64 1))
def ps5 : State := (State.reset.setTabF rPortPart 1 0x81)
theorem hyps_CentroidEvents :
    (∃ (f : Frame), f.opcode ≠ 0x70 ∧ f.opcode ≠ 0x71 ∧ Frame.headerOk f = false) ∧
    (∃ (p : Fin 140) (f : Frame) (s : State), (f.opcode = 0x70 ∨ f.opcode = 0x71) ∧ s.portPart p.val = some f.part.toNat ∧ Frame.headerOk f = true ∧ f.crc = Frame.goodCrc f) ∧
    (∃ (p : Fin 140) (f : Frame) (s : State), (f.opcode = 0x70 ∨ f.opcode = 0x71) ∧ s.portPart p.val ≠ some f.part.toNat) ∧
    (∃ (id : Nat) (s : State), s.fab.entry = [] ∧ ∃ q ∈ s.fab.voq.find? (fun q => q.id = id), q.place = .waitOverflow ∧ q.sent = 0 ∧ s.ovfRoom q.cells = true) ∧
    (∃ (id : Nat) (s : State), ∃ q ∈ s.fab.voq.find? (fun q => q.id = id), q.place = .overflow ∧ s.head q.inp q.out q.vc = some q ∧ q.cells ≤ s.sharedFree) ∧
    (∃ (id : Nat) (s : State), ∃ q ∈ s.fab.voq.find? (fun q => q.id = id), s.sharedFree < q.cells) :=
  ⟨⟨{ blankFrame with opcode := 1, colour := 3 }, by decide +kernel⟩,
   ⟨0, Frame.sealed { blankFrame with opcode := 0x70, vc := 0, part := 1, payload := List.replicate 32 0, length := 32 }, ps5,
    by decide +kernel, by decide +kernel, by decide +kernel, sealed_crc _⟩,
   ⟨0, Frame.sealed { blankFrame with opcode := 0x70, vc := 0, part := 1, payload := List.replicate 32 0, length := 32 }, ps0, by decide +kernel⟩,
   ⟨3, ps2, by decide +kernel⟩,
   ⟨3, ps3, by decide +kernel⟩,
   ⟨3, ps4, by decide +kernel⟩⟩
end Sys2Proof.Tests.CentroidEvents

namespace Sys2Proof.Tests.OutputSlots
def qf (op : Nat) (vc : Nat) (sent : Nat) : QFrame := { id := 3, f := { blankFrame with opcode := BitVec.ofNat 8 op, vc := BitVec.ofNat 2 vc }, inp := 128, out := 1, vc := vc, cells := 2, sent := sent, place := .shared, stamp := 0, since := 0 }
def vq (q : QFrame) (s : State) : State := { s with fab := { s.fab with voq := [q], nextId := 4, credits := [(4, 10), (5,10)] } }
def up (s : State) : State := s.setReady (readyPort 1) true
def ps0 : State := State.reset
def ps2 : State := (up (vq (qf 0x72 0 0) State.reset))
def ps3 : State := (up (vq (qf 1 0 0) State.reset))
def ps7 : State := (up (vq (qf 0x72 0 1) State.reset))
def ps8 : State := (up (vq { qf 1 0 1 with out := 129 } State.reset))
theorem hyps_OutputSlots :
    (∃ (o : Fin 140) (s : State), ∃ q ∈ s.vc0Control o.val, True) ∧
    (∃ (o : Fin 140) (s : State), s.vc0Control o.val = none) ∧
    (∃ (o : Fin 140) (s : State), s.fab.voq = [] ∧ s.fab.entry = [] ∧ (tget arbDefault s.fab.arb o.val).owner = none) ∧
    (∃ (o : Fin 140) (s : State), s.fab.entry = [] ∧ ∃ q ∈ s.vc0Control o.val, q.sent + 1 = q.cells ∧ q.out < 128 ∧ s.melium q.out = false) ∧
    (∃ (o : Fin 140) (s : State), s.vc0Control o.val = none ∧ ∃ q ∈ s.vc0Timed o.val, True) ∧
    (∃ (o : Fin 140) (s : State), s.vc0Control o.val = none ∧ s.fab.entry = [] ∧ ∃ q ∈ s.vc0Timed o.val, q.sent + 1 = q.cells ∧ 128 ≤ q.out) ∧
    (∃ (o : Fin 140) (s : State), ((s.vc0Control o.val).isSome = true ∨ s.vc0Timed o.val = none)) ∧
    (∃ (s : State) (q : QFrame), q.sent = 0 ∧ q.out < 128 ∧ s.melium q.out = false ∧ q.vc < 4) ∧
    (∃ (n : Nat) (c : ArbCfg) (req : Nat → Bool) (high : Nat → Bool) (mid : Nat → Bool) (a : Arb), ∃ g ∈ (arbStep n c req high mid a).2, True) ∧
    (∃ (req : Nat → Bool) (mid : Nat → Bool) (a : Arb), ∃ o ∈ a.owner, req o = true ∧ mid o = true) :=
  ⟨⟨1, ps2, by decide +kernel⟩,
   ⟨0, ps0, by decide +kernel⟩,
   ⟨0, ps0, by decide +kernel⟩,
   ⟨1, ps7, by decide +kernel⟩,
   ⟨1, ps3, by decide +kernel⟩,
   ⟨129, ps8, by decide +kernel⟩,
   ⟨0, ps0, by decide +kernel⟩,
   ⟨ps0, (qf 0x72 0 0), by decide +kernel⟩,
   ⟨0, (arbCfg (regReset rSwcArb)), (fun n => n == 2), (fun n => n == 2), (fun n => n == 2), { owner := some 2, sent := 1 }, by decide +kernel⟩,
   ⟨(fun n => n == 2), (fun n => n == 2), { owner := some 2, sent := 1 }, by decide +kernel⟩⟩
end Sys2Proof.Tests.OutputSlots

namespace Sys2Proof.Tests.ChalkIssue
def ps0 : State := State.reset
def ps2 : State := (chalkS 7)
theorem hyps_ChalkIssue :
    (∃ (s : State) (op : Nat) (i : ChalkOp), s.mayIssue op i = false) ∧
    (∃ (s : State) (op : Nat) (i : ChalkOp), s.mayIssue op i = true ∧ legal op i.w = true ∧ guardOn (s.me i) i.w = false ∧ isTimed op i.w = false) ∧
    (∃ (s : State) (op : Nat) (i : ChalkOp), s.mayIssue op i = true ∧ legal op i.w = true ∧ guardOn (s.me i) i.w = true) ∧
    (∃ (word : BitVec 64), legal (word.toNat / 2 ^ 56) (word.setWidth 56) = true) ∧
    (∃ (d : DeskId) (k : Fin 4) (word : BitVec 64) (s : State), s.mayIssue (word.toNat / 2 ^ 56) { desk := d, seat := k, w := word.setWidth 56 } = true ∧ legal (word.toNat / 2 ^ 56) (word.setWidth 56) = false) :=
  ⟨⟨ps0, 0x10, ⟨⟨0,0,0⟩,0,0⟩, by decide +kernel⟩,
   ⟨ps2, 0x10, ⟨⟨0,0,0⟩,0,0x90000000000000⟩, by decide +kernel⟩,
   ⟨ps2, 0x10, ⟨⟨0,0,0⟩,0,0⟩, by decide +kernel⟩,
   ⟨0x0100000000000000, by decide +kernel⟩,
   ⟨⟨0,0,0⟩, 0, 0xFF00000000000000, ps2, by decide +kernel⟩⟩
end Sys2Proof.Tests.ChalkIssue

namespace Sys2Proof.Tests.AccessEvents
def ac (st : AccStage) (r : Option (BitVec 5 × List Byte)) : Access := { id := 3, kind := .load, pc := 7, d := 2, sz := 3, soff := 0, f := { blankFrame with length := 8, opcode := 1 }, fva := 64, needW := false, timed := false, leaves := true, stage := st, result := r }
def acs (l : List Access) (f : Bool) : State := (chalkS 7).setSeat 0 0 { ((chalkS 7).seat 0 0) with acc := l, fence := f, st := if f then .waiting else .ready }
def bb : Access := { ac .slot none with kind := .bbLoad, timed := true, f := { blankFrame with length := 8, opcode := 1, fpa := 64 } }
def ps0 : State := State.reset
def ps3 : State := (acs [ac .sent (some (0, [1,2,3,4,5,6,7,8]))] false)
def ps4 : State := (acs [ac .slot none] false)
def ps5 : State := (acs [] true)
def ps6 : State := (acs [ac .sent none, { ac .sent none with id := 4 }] true)
def ps7 : State := (acs [bb] false)
theorem hyps_AccessEvents :
    (∃ (d : DeskId) (k : Fin 4) (id : Nat) (s : State), (s.access (DeskId.idx d) k id = none ∨ ∃ a, s.access (DeskId.idx d) k id = some a ∧ a.result = none)) ∧
    (∃ (d : DeskId) (k : Fin 4) (id : Nat) (s : State), ∃ a ∈ s.access (DeskId.idx d) k id, ∃ r ∈ a.result, True) ∧
    (∃ (d : DeskId) (k : Fin 4) (id : Nat) (a : Access) (s : State), (s.seat (DeskId.idx d) k).acc = [a] ∧ (s.desk (DeskId.idx d)).left = [] ∧ a.id = id ∧ a.kind.last = true ∧ (a.kind.isLoad = true → a.kind ≠ .omv ∧ a.sz < 7) ∧ s.coh.waitq = [] ∧ ∃ r ∈ a.result, abortStatus r.1 = false) ∧
    (∃ (s : State) (desk : Nat) (st : BitVec 5), abortStatus st = false ∧ (s.desk desk).left = []) ∧
    (∃ (d : DeskId) (id : Nat) (s : State), (s.bell.phase ≠ .body ∨ (∀ k, s.access (DeskId.idx d) k id = none) ∧ s.coh.waitq = [])) ∧
    (∃ (d : DeskId) (id : Nat) (s : State), s.bell.phase = .body ∧ ∃ a ∈ s.access (DeskId.idx d) 0 id, a.stage = .slot) ∧
    (∃ (d : DeskId) (id : Nat) (a : Access) (s : State), s.bell.phase = .body ∧ s.coh.waitq = [] ∧ (s.desk (DeskId.idx d)).left = [] ∧ (s.seat (DeskId.idx d) 0).acc = [a] ∧ (∀ k : Fin 4, k ≠ 0 → (s.seat (DeskId.idx d) k).acc = []) ∧ a.id = id ∧ a.stage = .slot ∧ a.kind = .bbLoad ∧ a.sz < 7 ∧ a.since = none ∧ a.timed = true) ∧
    (∃ (d : DeskId) (k : Fin 4) (s : State), (s.seat (DeskId.idx d) k).acc = [] ∧ (s.seat (DeskId.idx d) k).fence = true) ∧
    (∃ (d : DeskId) (k : Fin 4) (s : State), 2 ≤ (s.seat (DeskId.idx d) k).acc.length) :=
  ⟨⟨⟨0,0,0⟩, 0, 0, ps0, by decide +kernel⟩,
   ⟨⟨0,0,0⟩, 0, 3, ps3, by decide +kernel⟩,
   ⟨⟨0,0,0⟩, 0, 3, (ac .sent (some (0, [1,2,3,4,5,6,7,8]))), ps3, by decide +kernel⟩,
   ⟨ps0, 0, 0, by decide +kernel⟩,
   ⟨⟨0,0,0⟩, 0, ps0, by decide +kernel⟩,
   ⟨⟨0,0,0⟩, 3, ps4, by decide +kernel⟩,
   ⟨⟨0,0,0⟩, 3, bb, ps7, by decide +kernel⟩,
   ⟨⟨0,0,0⟩, 0, ps5, by decide +kernel⟩,
   ⟨⟨0,0,0⟩, 0, ps6, by decide +kernel⟩⟩
end Sys2Proof.Tests.AccessEvents

namespace Sys2Proof.Tests.LongTallyUnit
def lq (op : LtOp) : LtReq := { desk := 0, seat := 0, off := 0, pc := 5, op := op }
def rm (r : Room) (s : State) : State := { s with rooms := [(0, r)] }
def cc : CollCtx := { desc := { id := 1, kind := 0, type := 0, members := 2, index := 0, root := 0, group := 0, launch := 0, close := 0, finish := 0, region := bbBase 0, lines := 4096, init := false, watch := [], vote := 0, verdict := 64, vtick := 0 }, base := 0, st := .reserved, status := 0, cause := 0, how := 0, slots := 0, vote := 0, noticed := false, decided := false, recorded := false, held := true }
def ps0 : State := State.reset
def ps2 : State := (rm { lt := [lq .clear, lq .clear] } (chalkS 7))
def ps3 : State := (rm { ltBusy := [lq .clear] } (chalkS 7))
def ps5 : State := ((State.reset.poke 0xC0000000214 [0x20]).setRegBit (roomReg 0 crFault) 3 true)
def ps7 : State := ((chalkS 7).setReg (roomReg 0 crFaultEn) 0)
def ps8 : State := (State.reset.setReg rRstCtl 0)
abbrev free : State → Nat → LtReq → Prop := fun s room q => ∀ l ∈ ltLines room q.off, s.collAt l = none
theorem hyps_LongTallyUnit :
    (∃ (w : Fin 4) (c : Fin 300) (q : LtReq) (l : List LtReq) (s : State), (s.room (300 * w.val + c.val)).lt = q :: l ∧ (s.room (300 * w.val + c.val)).ltWait = []) ∧
    (∃ (w : Fin 4) (c : Fin 300) (s : State), (s.room (300 * w.val + c.val)).lt = []) ∧
    (∃ (w : Fin 4) (c : Fin 300) (s : State), (s.room (300 * w.val + c.val)).ltBusy = []) ∧
    (∃ (w : Fin 4) (c : Fin 300) (q : LtReq) (l : List LtReq) (s : State), (s.room (300 * w.val + c.val)).ltBusy = q :: l) ∧
    (∃ (s : State) (room : Nat) (q : LtReq) (x : FVal) (neg : Bool), q.op = .add x neg ∧ free s room q ∧ (s.longTally room q.off).res ≠ residue (s.longTally room q.off).val ∧ s.regBit (roomReg room crFault) 3 = true) ∧
    (∃ (s : State), s.outOfService = false ∧ s.regBit rRstCtl 0 = false) ∧
    (∃ (s : State) (room : Nat), s.regBit (roomReg room crFaultEn) 5 = false) :=
  ⟨⟨0, 0, (lq .clear), [(lq .clear)], ps2, by decide +kernel⟩,
   ⟨0, 0, ps0, by decide +kernel⟩,
   ⟨0, 0, ps0, by decide +kernel⟩,
   ⟨0, 0, (lq .clear), [], ps3, by decide +kernel⟩,
   ⟨ps5, 0, (lq (.add (.fin false 3 0) false)), (.fin false 3 0), false, by decide +kernel⟩,
   ⟨ps8, by decide +kernel⟩,
   ⟨ps7, 0, by decide +kernel⟩⟩
end Sys2Proof.Tests.LongTallyUnit

namespace Sys2Proof.Tests.TallyArithmetic
abbrev fits : Nat → Int → Prop := fun w v => -(2 ^ (w - 1) : Int) ≤ v ∧ v < 2 ^ (w - 1)
theorem hyps_TallyArithmetic :
    (∃ (w : Nat) (a : Acc), 1 ≤ w ∧ fits w a.val ∧ a.res < 256) ∧
    (∃ (w : Nat) (a : Acc) (k : Int), 1 ≤ w ∧ a.res = residue a.val ∧ fits w (a.val + k)) ∧
    (∃ (w : Nat) (a : Acc) (k : Int), ¬ fits w (a.val + k)) ∧
    (∃ (w : Nat) (a : Acc) (k : Int) (u : Int), 1 ≤ w ∧ a.res = residue a.val ∧ fits w (a.val + k) ∧ fits w (a.val + k + u) ∧ u % 255 ≠ 0) ∧
    (∃ (w : Nat) (a : Acc) (j : Int) (k : Int), 1 ≤ w ∧ a.res = residue a.val ∧ fits w (a.val + j) ∧ fits w (a.val + k) ∧ fits w (a.val + j + k)) ∧
    (∃ (a : Acc), a.err = true) ∧
    (∃ (a : Acc), a.err = false ∧ (a.nan = true ∨ (a.pinf = true ∧ a.ninf = true))) :=
  ⟨⟨1, {}, by decide +kernel⟩,
   ⟨1, {}, 0, by decide +kernel⟩,
   ⟨0, {}, 1, by decide +kernel⟩,
   ⟨1, {}, 0, -1, by decide +kernel⟩,
   ⟨1, {}, 0, 0, by decide +kernel⟩,
   ⟨{ err := true, range := true }, by decide +kernel⟩,
   ⟨{ nan := true }, by decide +kernel⟩⟩
end Sys2Proof.Tests.TallyArithmetic

namespace Sys2Proof.Tests.Verdicts
def cc : CollCtx := { desc := { id := 1, kind := 0, type := 0, members := 2, index := 0, root := 0, group := 0, launch := 0, close := 0, finish := 0, region := 0, lines := 1, init := false, watch := [], vote := 0, verdict := 64, vtick := 0 }, base := 0, st := .reserved, status := 0, cause := 0, how := 0, slots := 0, vote := 0, noticed := false, decided := false, recorded := false, held := true }
def vs (l : List Byte) : State := ({ rdy State.reset with coll := { ctx := [(0, some cc)] } }).poke 0 l
def ps0 : State := State.reset
def ps2 : State := (vs (List.replicate 64 1))
def ps3 : State := (vs ([1,5,7] ++ List.replicate 61 1))
abbrev code : Byte → Nat := fun b => if b = 0 then 0x0D else (statusByte b.toNat).toNat
abbrev found : State → BitVec 32 → Nat → CollCtx → Prop := fun s id i c => s.colls.find? (fun e => e.2.desc.id = id && e.2.st = .reserved && e.2.desc.index = 0 && !e.2.decided) = some (i, c)
theorem hyps_Verdicts :
    (∃ (id : BitVec 32) (i : Nat) (c : CollCtx) (s : State), found s id i c ∧ (∀ b ∈ s.peek c.desc.vote c.desc.members, b = 1)) ∧
    (∃ (id : BitVec 32) (i : Nat) (k : Nat) (c : CollCtx) (s : State), found s id i c ∧ ∃ b ∈ (s.peek c.desc.vote c.desc.members)[k]?, b ≠ 1 ∧ (∀ x ∈ s.peek c.desc.vote c.desc.members, x ≠ 1 → code x ≤ code b) ∧ (∀ j x, j < k → (s.peek c.desc.vote c.desc.members)[j]? = some x → x ≠ 1 → code x < code b)) ∧
    (∃ (id : BitVec 32) (i : Nat) (c : CollCtx) (s : State), found s id i c ∧ c.desc.verdict + 64 ≤ 2 ^ 40 ∧ s.coh.trans = [] ∧ (∀ b ∈ s.peek c.desc.vote c.desc.members, b = 1)) ∧
    (∃ (id : BitVec 32) (s : State), (∀ e ∈ s.colls, ¬ (e.2.desc.id = id ∧ e.2.st = .reserved ∧ e.2.desc.index = 0 ∧ e.2.decided = false))) :=
  ⟨⟨1, 0, cc, ps2, by decide +kernel⟩,
   ⟨1, 0, 1, cc, ps3, by decide +kernel, 5, rfl, by decide, by decide +kernel, by
    intro j x hj hx; obtain rfl : j = 0 := by omega
    intro hx1; exact absurd (Option.some.inj (hx.symm.trans (show _ = some (1 : Byte) from rfl))) hx1⟩,
   ⟨1, 0, cc, ps2, by decide +kernel⟩,
   ⟨1, ps0, by decide +kernel⟩⟩
end Sys2Proof.Tests.Verdicts

namespace Sys2Proof.Tests.Walks
def wk (lev : Nat) (done : Option Tlb) : Walk := { id := 3, who := .prefetch 0, cohort := 0, fva := 0x1000, needW := false, needX := false, stage2 := false, level := lev, table := 0x8000, va := 0x1000, w := true, x := true, w1 := false, x1 := false, nc1 := false, s1 := 0, ia := 0, pfd1 := 0, pfd2 := 0, root1 := 0, root2 := 0, done := done, failed := none, since := 0 }
def ws (w : Walk) (s : State) : State := { s with xl := { walks := [w], nextId := 4 } }
def ps0 : State := State.reset
def ps2 : State := (ws (wk 2 none) (State.reset.setReg rTblHbase 0x100000))
def ps3 : State := (ws (wk 0 (some { cohort := 0, page := 1, size := 12, fpa := 0x40000000, ia := 0, w := true, x := true, nc := false, pinned := false })) State.reset)
def ps4 : State := { (ws (wk 2 none) State.reset) with xl := { walks := [wk 2 none], nextId := 4, cache := [{ stage2 := false, owner := 0, addr := (wk 2 none).entryAddr, entry := 5 }] } }
def ps5 : State := (((State.reset.setReg rFltSave 0x1000000000000).poke 61 [1]))
def ps6 : State := ((ws (wk 2 none) (State.reset.setReg rTblHbase 0x8000)).setReg rTblLen 0x10000)
abbrev runs : State → Nat → Walk → Prop := fun s id w => s.xl.walks.find? (fun w => w.id = id) = some w ∧ w.level ≠ 0 ∧ s.walkRuns w = true
theorem hyps_Walks :
    (∃ (id : Nat) (s : State), (∀ w ∈ s.xl.walks, w.id ≠ id)) ∧
    (∃ (id : Nat) (s : State), ∃ w ∈ s.xl.walks.find? (fun w => w.id = id), s.walkRuns w = false) ∧
    (∃ (id : Nat) (w : Walk) (s : State), runs s id w ∧ s.xl.cache = [] ∧ w.entryAddr < (s.reg rTblHbase).toNat) ∧
    (∃ (id : Nat) (w : Walk) (s : State), runs s id w ∧ ∃ k ∈ s.xl.cache.find? (fun k => k.stage2 = w.stage2 && k.owner = s.cacheOwner w && k.addr = w.entryAddr), True) ∧
    (∃ (id : Nat) (w : Walk) (s : State), runs s id w ∧ s.xl.cache = [] ∧ s.fenced 2 = false ∧ (s.reg rTblHbase).toNat ≤ w.entryAddr ∧ w.entryAddr < (s.reg rTblHbase).toNat + (s.reg rTblLen).toNat) ∧
    (∃ (id : Nat) (s : State), (∀ w ∈ s.xl.walks, ¬ (w.id = id ∧ w.level = 0))) ∧
    (∃ (id : Nat) (s : State), ∃ w ∈ s.xl.walks.find? (fun w => w.id = id && w.level = 0), True) ∧
    (∃ (id : Nat) (n : Nat) (s : State), s.wingTlb n = [] ∧ s.strms = [] ∧ ∃ w ∈ s.xl.walks.find? (fun w => w.id = id && w.level = 0), w.who = .prefetch n ∧ w.failed = none ∧ ∃ k ∈ w.done, True) ∧
    (∃ (v : BitVec 64) (s : State), s.recovery = false ∧ pfdOk v = true) ∧
    (∃ (v : BitVec 64) (s : State), s.recovery = false ∧ pfdOk v = false) ∧
    (∃ (s : State), s.recovery = false) ∧
    (∃ (s : State), s.recovery = false ∧ s.strms = [] ∧ (∀ p : Fin 2, (s.page p).stalled ≠ 2)) ∧
    (∃ (token : BitVec 16) (s : State), s.recovery = false ∧ token ≠ 0xFFFF) ∧
    (∃ (token : BitVec 16) (s : State), s.recovery = false ∧ token ≠ 0xFFFF ∧ s.saveState token.toNat ≠ 1) ∧
    (∃ (token : BitVec 16) (s : State), s.recovery = false ∧ token ≠ 0xFFFF ∧ s.saveState token.toNat = 1 ∧ token.toNat < min s.saveCount 4096 ∧ s.strict = false) ∧
    (∃ (s : State), s.recovery = false ∧ (∀ p, s.loaderStalled p = false)) :=
  ⟨⟨0, ps0, by decide +kernel⟩,
   ⟨3, ps3, by decide +kernel⟩,
   ⟨3, (wk 2 none), ps2, by decide +kernel⟩,
   ⟨3, (wk 2 none), ps4, by decide +kernel⟩,
   ⟨3, (wk 2 none), ps6, by decide +kernel⟩,
   ⟨0, ps0, by decide +kernel⟩,
   ⟨3, ps3, by decide +kernel⟩,
   ⟨3, 0, ps3, by decide +kernel⟩,
   ⟨1143914360230641665, ps0, by decide +kernel⟩,
   ⟨0, ps0, by decide +kernel⟩,
   ⟨ps0, by decide +kernel⟩,
   ⟨ps0, by decide +kernel⟩,
   ⟨0, ps0, by decide +kernel⟩,
   ⟨0, ps0, by decide +kernel⟩,
   ⟨0, ps5, by decide +kernel⟩,
   ⟨ps0, by decide +kernel⟩⟩
end Sys2Proof.Tests.Walks

namespace Sys2Proof.Tests.Invalidations
def tk (n : Nat) : Ticket := { id := BitVec.ofNat 32 n, waits := [9, 10], status := 0, fail := none }
def tl : Tlb := { cohort := 0, page := 1, size := 12, fpa := 0x40000000, ia := 0x1000, w := true, x := true, nc := false, pinned := false }
def ps0 : State := State.reset
def ps2 : State := { State.reset with xl := { tickets := (List.range 16).map tk } }
def ps5 : State := { State.reset with xl := { jobs := [{ eng := 0, ticket := 5, gate := 0 }] } }
theorem hyps_Invalidations :
    (∃ (s : State), s.xl.tickets.length < 16) ∧
    (∃ (e : Engine) (k : BitVec 32) (s : State), (∀ j ∈ s.xl.jobs, ¬ (j.eng = Engine.num e ∧ j.ticket = k))) ∧
    (∃ (e : Engine) (j : InvalJob) (s : State), s.xl.jobs = [j] ∧ j.eng = Engine.num e) ∧
    (∃ (f : Frame) (s : State), (∀ t ∈ s.xl.tickets, t.id ≠ BitVec.ofNat 32 (leAt f.payload 0 4))) ∧
    (∃ (f : Frame) (s : State), ∃ t ∈ s.xl.tickets.find? (fun x => x.id = BitVec.ofNat 32 (leAt f.payload 0 4)), (∃ n ∈ t.waits, n ≠ f.src)) ∧
    (∃ (k : BitVec 32) (s : State), (∀ t ∈ s.xl.tickets, t.id ≠ k)) ∧
    (∃ (k : BitVec 32) (s : State), ∃ t ∈ s.xl.tickets.find? (fun x => x.id = k), True) :=
  ⟨⟨ps0, by decide +kernel⟩,
   ⟨.module, 0, ps0, by decide +kernel⟩,
   ⟨.module, { eng := 0, ticket := 5, gate := 0 }, ps5, by decide +kernel⟩,
   ⟨{ blankFrame with src := 9, opcode := 0x42, payload := leBytes 4 5 ++ List.replicate 28 0, length := 32 }, ps0, by decide +kernel⟩,
   ⟨{ blankFrame with src := 9, opcode := 0x42, payload := leBytes 4 5 ++ List.replicate 28 0, length := 32 }, ps2, by decide +kernel⟩,
   ⟨0, ps0, by decide +kernel⟩,
   ⟨0, ps2, by decide +kernel⟩⟩
end Sys2Proof.Tests.Invalidations

namespace Sys2Proof.Tests.StreamEngines
def sd : StreamDesc := { src := 0x1000, dst := 0x2000, rowLen := 63, rows := 0, srcStride := 64, dstStride := 64, tiles := 1, srcTstep := 64, dstTstep := 64, done := 0, id := 5, cohort := 0, kind := 0, op := 0, flags := 0, ahead := 1, group := 0, rtag := 0 }
def xf (st : XferStage) (pk : Bool) : Xfer := { d := sd, tile := 0, stage := st, loose := true, smap := [], dmap := [], walks := [], faults := [], frames := [], parking := pk }
def ss (x : Strm) (s : State) : State := { s with strms := [(0, x)] }
def tfr (sent : Bool) (d : Option (BitVec 5 × List Byte)) : TileFrame := { dst := false, off := 0, len := 8, f := blankFrame, net := false, sent := sent, done := d }
def tw : State := ss { cur := some { xf .translating false with walks := [3] } } (rdy State.reset)
def ps0 : State := State.reset
def ps2 : State := (ss { queue := [(sd, 0, true)] } (rdy State.reset))
def ps3 : State := (ss { queue := [(sd, 0, true), (sd, 0, true)], cur := some (xf .sending false) } (rdy State.reset))
def ps4 : State := (ss { cur := some (xf .translating false) } (rdy State.reset))
def ps6 : State := (ss { cur := some (xf .stalled true) } (rdy State.reset))
def ps8 : State := tw
def ps9 : State := (ss { cur := some { xf .sending false with d := { sd with tiles := 2 } } } (rdy State.reset))
def ps10 : State := ((ss { cur := some (xf .stalled true) } (rdy State.reset)).setReg rFltSave 0x1000000000000)
abbrev quiet : State → Fin 4 → Fin 64 → Prop := fun s w e => (s.strm w.val e.val).ends = []
theorem hyps_StreamEngines :
    (∃ (w : Fin 4) (e : Fin 64) (s : State), quiet s w e ∧ ((s.strm w.val e.val).cur ≠ none ∨ s.streamsRun = false)) ∧
    (∃ (w : Fin 4) (e : Fin 64) (d : StreamDesc) (n : Nat) (loose : Bool) (l : List (StreamDesc × Nat × Bool)) (s : State), quiet s w e ∧ (s.strm w.val e.val).cur = none ∧ (s.strm w.val e.val).queue = (d, n, loose) :: l ∧ s.streamsRun = true ∧ descResume d = false ∧ s.startRefusal d = none) ∧
    (∃ (w : Fin 4) (e : Fin 64) (d : StreamDesc) (n : Nat) (loose : Bool) (l : List (StreamDesc × Nat × Bool)) (s : State), quiet s w e ∧ (s.strm w.val e.val).cur = none ∧ (s.strm w.val e.val).queue = (d, n, loose) :: l ∧ s.streamsRun = true ∧ descResume d = false ∧ s.startRefusal d = none ∧ s.strict = false ∧ (tilePages d n).length ≤ 512) ∧
    (∃ (w : Fin 4) (e : Fin 64) (s : State), quiet s w e ∧ (s.strm w.val e.val).cur = none) ∧
    (∃ (w : Fin 4) (e : Fin 64) (s : State), ∃ c ∈ (s.strm w.val e.val).cur, c.stage = .translating ∧ c.walks ≠ []) ∧
    (∃ (w : Fin 4) (e : Fin 64) (s : State), quiet s w e ∧ ∃ c ∈ (s.strm w.val e.val).cur, c.stage = .translating) ∧
    (∃ (w : Fin 4) (e : Fin 64) (s : State), quiet s w e ∧ s.strict = false ∧ ∃ c ∈ (s.strm w.val e.val).cur, c.stage = .sending ∧ (∀ x ∈ c.frames, x.sent = true ∧ ∃ d, x.done = some (stOk, d)) ∧ c.tile + 1 < c.d.tiles.toNat ∧ c.parking = false ∧ (tilePages c.d (c.tile + 1)).length ≤ 512 ∧ c.walks = []) ∧
    (∃ (w : Fin 4) (e : Fin 64) (s : State), ∃ c ∈ (s.strm w.val e.val).cur, c.parking = false) ∧
    (∃ (w : Fin 4) (e : Fin 64) (s : State), ∃ c ∈ (s.strm w.val e.val).cur, c.parking = true ∧ c.stage ≠ .sending) ∧
    (∃ (w : Fin 4) (e : Fin 64) (s : State), ∃ c ∈ (s.strm w.val e.val).cur, c.parking = true ∧ c.stage ≠ .sending ∧ ∃ i ∈ s.freeSave, True) ∧
    (∃ (fs : List TileFrame), (∀ x ∈ fs, ∃ d, x.done = some (stOk, d))) ∧
    (∃ (fs : List TileFrame) (x : TileFrame), x ∈ fs ∧ x.done = none ∧ x.sent = true) :=
  ⟨⟨0, 0, ps3, by decide +kernel⟩,
   ⟨0, 0, sd, 0, true, [], ps2, by decide +kernel⟩,
   ⟨0, 0, sd, 0, true, [], ps2, by decide +kernel⟩,
   ⟨0, 0, ps0, by decide +kernel⟩,
   ⟨0, 0, ps8, by decide +kernel⟩,
   ⟨0, 0, ps4, by decide +kernel⟩,
   ⟨0, 0, ps9, by decide +kernel, by decide +kernel, { xf .sending false with d := { sd with tiles := 2 } }, rfl, by decide, nofun,
    by decide +kernel, by decide +kernel, by decide +kernel, by decide +kernel⟩,
   ⟨0, 0, ps3, by decide +kernel⟩,
   ⟨0, 0, ps6, by decide +kernel⟩,
   ⟨0, 0, ps10, by decide +kernel⟩,
   ⟨[], by simp⟩,
   ⟨[tfr true none], (tfr true none), by decide +kernel⟩⟩
end Sys2Proof.Tests.StreamEngines

namespace Sys2Proof.Tests.PooledMemory
def ch (x : Chan) (s : State) : State := { s with g7m := { s.g7m with chan := [(0, x)] } }
def pat : State := (rdy State.reset).setRegBit rG7mCtl 0 true
def ps0 : State := State.reset
def ps2 : State := (ch { holds := [(0,5),(1,6)], rows := [(0, some 5)], due := [0] } State.reset)
def ps3 : State := (ch { fails := 2 } State.reset)
def ps4 : State := pat
def ps6 : State := (State.reset.setRegBit (chReg 0 0) 1 true)
theorem hyps_PooledMemory :
    (∃ (c : Fin 64) (b : Fin 32) (s : State), s.bankHeld c.val b.val = false) ∧
    (∃ (c : Fin 64) (b : Fin 32) (s : State), s.bankHeld c.val b.val = true) ∧
    (∃ (s : State), s.patrolMay = false) ∧
    (∃ (s : State), s.patrolMay = true) ∧
    (∃ (s : State), s.patrolMay = true) ∧
    (∃ (s : State), s.patrolMay = true ∧ s.g7m.patrol < 2 ^ 34) ∧
    (∃ (c : Fin 64) (s : State), s.regBit (chReg c.val 0) 1 = false ∧ s.regBit rRstStatus 4 = false) ∧
    (∃ (c : Fin 64) (s : State), s.regBit (chReg c.val 0) 1 = false ∧ 2 ≤ (s.chan c.val).fails) ∧
    (∃ (c : Fin 64) (s : State), s.regBit (chReg c.val 0) 1 = true) :=
  ⟨⟨0, 0, ps0, by decide +kernel⟩,
   ⟨0, 0, ps2, by decide +kernel⟩,
   ⟨ps0, by decide +kernel⟩,
   ⟨ps4, by decide +kernel⟩,
   ⟨ps4, by decide +kernel⟩,
   ⟨ps4, by decide +kernel⟩,
   ⟨0, ps0, by decide +kernel⟩,
   ⟨0, ps3, by decide +kernel⟩,
   ⟨0, ps6, by decide +kernel⟩⟩
end Sys2Proof.Tests.PooledMemory

namespace Sys2Proof.Tests.Prisms
def pv : PrismVector := { requester := 0, cohort := 5, name := 7, fp8 := false, int8Out := false, elems := Vector.replicate 128 1, desk := none, dest := 0x100, src := 9 }
def im : OmuImage := { name := 7, cohort := 5, gain := 0, sigma := 0x3F800000, data := [], slot := 0 }
def fr1 (bad : Bool) : PrismFrame := { vecs := [{ v := pv, owner := .frame blankFrame, timed := false }], bank := 0, m := im, bad := bad }
def pr (x : Prism) (s : State) : State := s.setPrism 0 x
def res : State := match execPrismRelockTimeout 0 (pr { held := some im, unlocked := true } (rdy State.reset)) with | .next t => t | _ => State.reset
def dv : PrismFrame := { vecs := [{ v := pv, owner := .desk 0 0 1, timed := false }], bank := 0, m := im, bad := true }
def ps0 : State := State.reset
def ps2 : State := (State.reset.setRegBit rGlbMode 0 true)
def ps3 : State := (pr { held := some im } (rdy State.reset))
def ps4 : State := (pr { held := some im, frames := [fr1 true] } (rdy State.reset))
def ps5 : State := (pr { held := some im, frames := [fr1 false], errors := 2 } (rdy State.reset))
def ps6 : State := (pr { loading := some im } (rdy State.reset))
def ps7 : State := (pr { held := some im, unlocked := true } (rdy State.reset))
def ps8 : State := (State.reset.setRegBit (prismStat 0) 3 true)
def ps9 : State := (State.reset.setReg rOmuCtl 0)
def ps12 : State := { (State.reset.setPageState 0 2 0) with bell := { pages := Vector.replicate 2 { tt := some { tt0 with prisms := [{ lesson := 0, prism := 0, cohort := 5, name := 7 }] } } } }
def ps13 : State := (pr { held := some im, frames := [dv] } (rdy State.reset))
theorem hyps_Prisms :
    (∃ (s : State), s.strict = true) ∧
    (∃ (v : PrismVector) (s : State), s.strict = false ∧ s.fenced 0 = false ∧ s.served_ { v with requester := 0 } = false) ∧
    (∃ (v : PrismVector) (s : State), s.strict = false ∧ s.fenced 0 = false ∧ s.served_ { v with requester := 0 } = true) ∧
    (∃ (p : Fin 4) (s : State), (s.freeBank = none ∨ (s.prism p).loading.isSome = true)) ∧
    (∃ (s : State), s.omu.queue = []) ∧
    (∃ (p : Fin 4) (s : State), (s.prism p).frames = []) ∧
    (∃ (p : Fin 4) (f : PrismFrame) (l : List PrismFrame) (s : State), (s.prism p).frames = f :: l ∧ f.bad = true) ∧
    (∃ (p : Fin 4) (f : PrismFrame) (l : List PrismFrame) (v : OmuVec) (d : DeskId) (k : Fin 4) (id : Nat) (s : State), (s.prism p).frames = f :: l ∧ f.bad = true ∧ f.vecs = [v] ∧ v.owner = .desk (DeskId.idx d) k.val id) ∧
    (∃ (p : Fin 4) (s : State), (s.prism p).loading = none) ∧
    (∃ (p : Fin 4) (s : State), ∃ m ∈ (s.prism p).loading, True) ∧
    (∃ (p : Fin 4) (e : Nat) (s : State), (s.prism p).unlocked = false ∧ e ≤ 30000) ∧
    (∃ (p : Fin 4) (e : Nat) (s : State), (s.prism p).unlocked = false ∧ 30000 < e ∧ (s.prism p).errors = 2) ∧
    (∃ (p : Fin 4) (s : State), (s.prism p).unlocked = true ∧ s.prismDown p = false) ∧
    (∃ (p : Fin 4) (s : State), (s.prism p).unlocked = false) ∧
    (∃ (p : Fin 4) (s : State), (s.prism p).unlocked = true) ∧
    (∃ (s : State), s.rst.down = false ∧ s.recovery = false ∧ s.fenced 0 = false) ∧
    (∃ (p : Fin 4) (s : State), s.regBit (prismStat p) 3 = true) ∧
    (∃ (p : Fin 4) (s : State), s.regBit (prismStat p) 3 = false ∧ s.regBit rOmuCtl 1 = false) ∧
    (∃ (s : State), s.recovery = false) ∧
    (∃ (s : State), s.recovery = false) ∧
    (∃ (n : BitVec 12) (s : State), s.pagesNaming n = []) ∧
    (∃ (n : BitVec 12) (p : Fin 2) (s : State), s.pagesNaming n = [p] ∧ s.mtxValid n = false) :=
  ⟨⟨ps2, by decide +kernel⟩,
   ⟨pv, ps0, by decide +kernel⟩,
   ⟨pv, ps3, by decide +kernel⟩,
   ⟨0, ps6, by decide +kernel⟩,
   ⟨ps0, by decide +kernel⟩,
   ⟨0, ps0, by decide +kernel⟩,
   ⟨0, (fr1 true), [], ps4, by decide +kernel⟩,
   ⟨0, dv, [], { v := pv, owner := .desk 0 0 1, timed := false }, ⟨0,0,0⟩, 0, 1, ps13, by decide +kernel⟩,
   ⟨0, ps0, by decide +kernel⟩,
   ⟨0, ps6, by decide +kernel⟩,
   ⟨0, 0, ps0, by decide +kernel⟩,
   ⟨0, 30001, ps5, by decide +kernel⟩,
   ⟨0, ps7, by decide +kernel⟩,
   ⟨0, ps0, by decide +kernel⟩,
   ⟨0, ps7, by decide +kernel⟩,
   ⟨ps0, by decide +kernel⟩,
   ⟨0, ps8, by decide +kernel⟩,
   ⟨0, ps9, by decide +kernel⟩,
   ⟨ps0, by decide +kernel⟩,
   ⟨ps0, by decide +kernel⟩,
   ⟨7, ps0, by decide +kernel⟩,
   ⟨7, 0, ps12, by decide +kernel⟩⟩
end Sys2Proof.Tests.Prisms

namespace Sys2Proof.Tests.DieRequests
def b0 : RqBeat := { thread := 0, tag := 1, op := 1, type := 0, attr := 0, scope := 0, fetch := false, fva := 0x1000, len := 63, group := 0, rowLen := 15, rows := 1, stride := 64 }
def up (s : State) : State := s.setDep 0 { s.dep 0 with regs := [(eStatus, 0x800), (eNode, BitVec.ofNat 64 (2^63+9))] }
def ps0 : State := State.reset
def ps3 : State := ((up State.reset).setDep 0 { (up State.reset).dep 0 with reqs := [{ id := 1, b := { b0 with op := 2 }, need := 64 }] })
theorem hyps_DieRequests :
    (∃ (p : Fin 64) (s : State), (∀ r ∈ (s.dep p.val).reqs, r.need = 0)) ∧
    (∃ (p : Fin 64) (s : State), ∃ r ∈ (s.dep p.val).reqs.find? (fun r => 0 < r.need), True) :=
  ⟨⟨0, ps0, by decide +kernel⟩,
   ⟨0, ps3, by decide +kernel⟩⟩
end Sys2Proof.Tests.DieRequests

namespace Sys2Proof.Tests.SatchelSnoops
def up (s : State) : State := s.setDep 0 { s.dep 0 with regs := [(eStatus, 0x800), (eNode, BitVec.ofNat 64 (2^63+9))] }
def st (x : SatState) : State := (up State.reset).setSat 0 2 { st := x, data := List.replicate 64 7 }
def rd (op : Nat) : Frame := { blankFrame with opcode := BitVec.ofNat 8 op, fpa := 128, src := 9, length := 64 }
def ps6 : State := (st .is)
theorem hyps_SatchelSnoops : ∃ (s : State) (p : Nat) (f : Frame), ((s.sat p (lineOf f)).st = .is ∨ (s.sat p (lineOf f)).st = .im) :=
  ⟨ps6, 0, (rd 0x68), by decide +kernel⟩
end Sys2Proof.Tests.SatchelSnoops

namespace Sys2Proof.Tests.SatchelResponses
def up (s : State) : State := s.setDep 0 { s.dep 0 with regs := [(eStatus, 0x800), (eNode, BitVec.ofNat 64 (2^63+9)), (eRetryLimit, 5)] }
def b0 : RqBeat := { thread := 0, tag := 1, op := 1, type := 0, attr := 0, scope := 0, fetch := false, fva := 0x1000, len := 63, group := 0, rowLen := 15, rows := 1, stride := 64 }
def rd (op : Nat) : Frame := { blankFrame with opcode := BitVec.ofNat 8 op, fpa := 128, src := 9, dst := 0, length := 64 }
def rsp (g : Nat) : Frame := { blankFrame with opcode := 0, src := 0, dst := 9, flags := BitVec.ofNat 3 g, payload := List.replicate 64 3 }
def st (x : SatState) (op : Nat) : State := ((up State.reset).setSat 0 2 { st := x, data := List.replicate 64 7 }).setPair 1 0 { st := .opened, sent := [{ f := rd op, charge := 1, tx := 1, aged := false, owner := .satchel 2, id := 0 }] }
def full (x : SatState) : State := (up State.reset).setDep 0 { (up State.reset).dep 0 with sat := (List.range 16).map (fun i => (2048 * i, { st := x })) }
def ps0 : State := State.reset
def ps2 : State := (st .is 0x60)
def ps5 : State := (st .wb 0x63)
def ps8 : State := ((((up State.reset).setSat 0 2 { st := .im, backing := true })).setDep 0 { (((up State.reset).setSat 0 2 { st := .im, backing := true }).dep 0) with regs := [(eStatus, 0x800), (eNode, BitVec.ofNat 64 (2^63+9)), (eRetryLimit, 5), (eRtHold, 1)] })
def ps9 : State := ((up State.reset).setRegBit rRstStatus 7 true)
abbrev quiet : State → Fin 64 → Prop := fun s p => (s.dep p.val).reqs = [] ∧ (s.dep p.val).flush = none ∧ ∀ e ∈ (s.dep p.val).sat, e.2.fail = none
abbrev lone : State → Fin 64 → Frame → SrcReq → Prop := fun s p f r => (s.pair (p.val + 1) f.src.toNat).sent = [r] ∧ r.f.seq = f.seq ∧ (s.pair (p.val + 1) f.src.toNat).waiting = [] ∧ r.owner = .satchel (lineOf r.f) ∧ s.pairsOf (p.val + 1) = [(4096 * (p.val + 1) + f.src.toNat, s.pair (p.val + 1) f.src.toNat)]
theorem hyps_SatchelResponses :
    (∃ (p : Fin 64) (f : Frame) (s : State), (∀ r ∈ (s.pair (p.val + 1) f.src.toNat).sent, r.f.seq ≠ f.seq)) ∧
    (∃ (p : Fin 64) (f : Frame) (r : SrcReq) (s : State), quiet s p ∧ lone s p f r ∧ r.f.opcode.toNat < 0x63 ∧ (s.sat p.val (lineOf r.f)).st.waits = true ∧ (s.sat p.val (lineOf r.f)).held = none ∧ f.flags.toNat % 4 ≠ 0) ∧
    (∃ (p : Fin 64) (f : Frame) (r : SrcReq) (s : State), quiet s p ∧ lone s p f r ∧ r.f.opcode.toNat < 0x63 ∧ (s.sat p.val (lineOf r.f)).st.waits = true ∧ (s.sat p.val (lineOf r.f)).near = false ∧ (s.sat p.val (lineOf r.f)).tries + 1 < s.epF p.val eRetryLimit 0 8) ∧
    (∃ (p : Fin 64) (f : Frame) (r : SrcReq) (s : State), quiet s p ∧ lone s p f r ∧ 0x63 ≤ r.f.opcode.toNat ∧ (s.sat p.val (lineOf r.f)).st.leaves = true) ∧
    (∃ (p : Fin 64) (l : Nat) (s : State), (s.sat p.val l).backing = false) ∧
    (∃ (p : Fin 64) (l : Nat) (s : State), quiet s p ∧ (s.sat p.val l).backing = true ∧ (s.sat p.val l).st.waits = true ∧ s.isHeld (p.val + 1) s.node.toNat = true) ∧
    (∃ (p : Fin 64) (set : Fin 2048) (s : State), (s.waysOf p.val set.val).length < 16) ∧
    (∃ (p : Fin 64) (set : Fin 2048) (s : State), (quiet s p ∨ (∀ e ∈ s.waysOf p.val set.val, e.2.st.busy = true) ∧ 16 ≤ (s.waysOf p.val set.val).length)) ∧
    (∃ (s : State), s.fenced 2 = false) ∧
    (∃ (p : Fin 64) (s : State), (s.dep p.val).reqs = [] ∧ (s.dep p.val).sat = [] ∧ s.fenced 2 = false) ∧
    (∃ (p : Fin 64) (s : State), (s.dep p.val).reqs = [] ∧ (s.dep p.val).flush = none ∧ s.fenced 2 = true) :=
  ⟨⟨0, (rsp 0), ps0, by decide +kernel⟩,
   ⟨0, (rsp 1), { f := rd 0x60, charge := 1, tx := 1, aged := false, owner := .satchel 2, id := 0 }, ps2, by decide +kernel⟩,
   ⟨0, (rsp 0), { f := rd 0x60, charge := 1, tx := 1, aged := false, owner := .satchel 2, id := 0 }, ps2, by decide +kernel⟩,
   ⟨0, (rsp 0), { f := rd 0x63, charge := 1, tx := 1, aged := false, owner := .satchel 2, id := 0 }, ps5, by decide +kernel⟩,
   ⟨0, 0, ps0, by decide +kernel⟩,
   ⟨0, 2, ps8, by decide +kernel⟩,
   ⟨0, 0, ps0, by decide +kernel⟩,
   ⟨0, 0, ps0, by decide +kernel⟩,
   ⟨ps0, by decide +kernel⟩,
   ⟨0, ps0, by decide +kernel⟩,
   ⟨0, ps9, by decide +kernel⟩⟩
end Sys2Proof.Tests.SatchelResponses

namespace Sys2Proof.Tests.InboundRequests
def up (s : State) : State := s.setDep 0 { s.dep 0 with regs := [(eStatus, 0x800), (eNode, BitVec.ofNat 64 (2^63+9)), (eExpSeg, 0), (eExpSeg+8, 4096), (eExpSeg+16, 0x7000), (eExpSeg+24, BitVec.ofNat 64 (2^63)), (eExpose, 8192)] }
def fr0 (op : Nat) (d : BitVec 12) (a : Nat) : Frame := { blankFrame with version := 1, opcode := BitVec.ofNat 8 op, fpa := BitVec.ofNat 56 a, src := 5, dst := d, length := 64, vc := 1 }
def fr (op : Nat) (d : BitVec 12) (a : Nat) : Frame := { fr0 op d a with crc := Frame.goodCrc (fr0 op d a) }
def ps0 : State := State.reset
def ps2 : State := (up State.reset)
def ps3 : State := ((up State.reset).setDep 0 { (up State.reset).dep 0 with inb := [{ itag := 5, f := fr 1 9 0, dead := false }] })
theorem hyps_InboundRequests :
    (∃ (p : Fin 64) (s : State), s.epBit p.val eStatus 11 = false) ∧
    (∃ (p : Fin 64) (f : Frame) (s : State), s.epBit p.val eStatus 11 = true ∧ s.epBit p.val eNode 63 = true ∧ f.hopPtr = f.hopCount ∧ Frame.headerOk f = true ∧ f.crc = Frame.goodCrc f ∧ f.dst = s.engNode (p.val + 1) ∧ isMemReq f.opcode.toNat = true) ∧
    (∃ (p : Fin 64) (f : Frame) (s : State), s.epBit p.val eStatus 11 = true ∧ s.epBit p.val eNode 63 = true ∧ f.hopPtr = f.hopCount ∧ Frame.headerOk f = true ∧ f.crc = Frame.goodCrc f ∧ f.dst ≠ s.engNode (p.val + 1) ∧ isAnswerable f.opcode.toNat = true) ∧
    (∃ (p : Fin 64) (f : Frame) (s : State), s.epBit p.val eStatus 11 = true ∧ s.epBit p.val eNode 63 = true ∧ f.hopPtr = f.hopCount ∧ Frame.headerOk f = true ∧ f.crc = Frame.goodCrc f ∧ f.dst = s.engNode (p.val + 1) ∧ isMemReq f.opcode.toNat = false) ∧
    (∃ (p : Fin 64) (f : Frame) (s : State), s.epBit p.val eStatus 11 = true ∧ (Frame.headerOk f = false ∨ f.hopPtr ≠ f.hopCount)) ∧
    (∃ (p : Fin 64) (f : Frame) (s : State), s.epBit p.val eStatus 11 = true ∧ s.epBit p.val eNode 63 = true ∧ f.hopPtr = f.hopCount ∧ Frame.headerOk f = true ∧ f.crc = Frame.goodCrc f ∧ f.dst = s.engNode (p.val + 1) ∧ isMemReq f.opcode.toNat = true ∧ f.vc = 0 ∧ s.inboundStatus p.val f = stOk ∧ (s.dep p.val).iqWait = [] ∧ (s.dep p.val).inb = []) ∧
    (∃ (s : State) (p : Nat) (f : Frame), s.inboundStatus p f ≠ stOk) ∧
    (∃ (s : State) (p : Nat) (f : Frame), f.part ≠ s.epPart p) ∧
    (∃ (s : State) (p : Nat) (f : Frame), f.part = s.epPart p ∧ s.epF p eExpose 0 45 ≤ f.fpa.toNat % 2 ^ 44) ∧
    (∃ (s : State) (p : Nat) (f : Frame), s.inboundStatus p f = stOk) ∧
    (∃ (p : Fin 64) (k : BitVec 8) (s : State), (∀ x ∈ (s.dep p.val).inb, x.itag ≠ k.toNat)) ∧
    (∃ (p : Fin 64) (k : BitVec 8) (s : State), (s.dep p.val).iqWait = [] ∧ ∃ x ∈ (s.dep p.val).inb.find? (fun x => x.itag = k.toNat), True) ∧
    (∃ (p : Fin 64) (k : BitVec 8) (s : State), ∃ x ∈ (s.dep p.val).inb.find? (fun x => x.itag = k.toNat && !x.dead), True) ∧
    (∃ (p : Fin 64) (k : BitVec 8) (s : State), (∀ x ∈ (s.dep p.val).inb, x.itag = k.toNat → x.dead = true)) :=
  ⟨⟨0, ps0, by decide +kernel⟩,
   ⟨0, (fr 1 9 0), ps2, by decide +kernel⟩,
   ⟨0, (fr 1 8 0), ps2, by decide +kernel⟩,
   ⟨0, { fr0 0x60 9 0 with crc := Frame.goodCrc (fr0 0x60 9 0) }, ps2, by decide +kernel⟩,
   ⟨0, (fr 0x70 9 0), ps2, by decide +kernel⟩,
   ⟨0, { fr0 1 9 0 with vc := 0, crc := Frame.goodCrc { fr0 1 9 0 with vc := 0 } }, ps2, by decide +kernel⟩,
   ⟨ps0, 0, (fr 1 9 0), by decide +kernel⟩,
   ⟨ps0, 0, { fr 1 9 0 with part := 3 }, by decide +kernel⟩,
   ⟨ps0, 0, (fr 1 9 0), by decide +kernel⟩,
   ⟨ps2, 0, (fr 1 9 0), by decide +kernel⟩,
   ⟨0, 0, ps0, by decide +kernel⟩,
   ⟨0, 5, ps3, by decide +kernel⟩,
   ⟨0, 5, ps3, by decide +kernel⟩,
   ⟨0, 0, ps0, by decide +kernel⟩⟩
end Sys2Proof.Tests.InboundRequests

namespace Sys2Proof.Tests.EndPointRegisters
def ps0 : State := State.reset
def ps2 : State := (State.reset.setDep 0 { (State.reset).dep 0 with regs := [(eCtl, 1), (eRtHold, BitVec.allOnes 64)] })
theorem hyps_EndPointRegisters :
    (∃ (p : Fin 64) (s : State), s.epBit p.val eStatus 11 = false) ∧
    (∃ (p : Fin 64) (s : State), s.epBit p.val eCtl 0 = false) ∧
    (∃ (p : Fin 64) (d : BitVec 12) (lo : BitVec 64) (hi : BitVec 64) (s : State), (s.isHeld (p.val + 1) d.toNat = false ∨ 0 < Pair.charged (s.pair (p.val + 1) d.toNat) ∨ epRouteBad d.toNat lo hi = true)) ∧
    (∃ (p : Fin 64) (d : BitVec 12) (lo : BitVec 64) (hi : BitVec 64) (s : State), s.isHeld (p.val + 1) d.toNat = true ∧ Pair.charged (s.pair (p.val + 1) d.toNat) = 0 ∧ epRouteBad d.toNat lo hi = false) ∧
    (∃ (p : Fin 64) (s : State), s.epBit p.val eCtl 0 = true) ∧
    (∃ (p : Fin 64) (s : State), s.epBit p.val eCtl 0 = false) ∧
    (∃ (p : Fin 64) (s : State), s.epBit p.val eCtl 0 = false ∧ DieIdle (s.dep p.val)) ∧
    (∃ (p : Fin 64) (word : Fin 64) (v : BitVec 64) (s : State), s.ep p.val (eRtHold + 8 * word.val) &&& ~~~v = 0) ∧
    (∃ (p : Fin 64) (word : Fin 64) (v : BitVec 64) (s : State), s.ep p.val (eRtHold + 8 * word.val) &&& ~~~v = 0 ∧ DieIdle (s.dep p.val)) ∧
    (∃ (p : Fin 64) (v : BitVec 64) (s : State), 1 ≤ fget v 0 10 ∧ fget v 0 10 ≤ 1000 ∧ (fget v 32 3 + 1) * fget v 0 10 ≤ s.epF p.val eWinTimeout 0 14) ∧
    (∃ (p : Fin 64) (v : BitVec 64) (s : State), s.epF p.val eWinTimeout 0 14 < (fget v 32 3 + 1) * fget v 0 10) ∧
    (∃ (p : Fin 64) (v : BitVec 64) (s : State), 10 ≤ fget v 0 14 ∧ fget v 0 14 ≤ 10000 ∧ (s.epF p.val eRtx 32 3 + 1) * s.epF p.val eRtx 0 10 ≤ fget v 0 14) ∧
    (∃ (v : BitVec 64), (fget v 0 14 < 10 ∨ 10000 < fget v 0 14)) :=
  ⟨⟨0, ps0, by decide +kernel⟩,
   ⟨0, ps0, by decide +kernel⟩,
   ⟨0, 0, 0xFFFFFFFFFFFFFFFF, 0xFFFFFFFFFFFFFFFF, ps0, by decide +kernel⟩,
   ⟨0, 0, 0xFFFFFFFFFFFFFFFF, 0x100000000, ps0, by decide +kernel⟩,
   ⟨0, ps2, by decide +kernel⟩,
   ⟨0, ps0, by decide +kernel⟩,
   ⟨0, ps0, by unfold DieIdle; decide +kernel⟩,
   ⟨0, 0, 0xFFFFFFFFFFFFFFFF, ps0, by decide +kernel⟩,
   ⟨0, 0, 0xFFFFFFFFFFFFFFFF, ps0, by unfold DieIdle; decide +kernel⟩,
   ⟨0, 0x80, ps0, by decide +kernel⟩,
   ⟨0, 0xFFFFFFFFFFFFFFFF, ps0, by decide +kernel⟩,
   ⟨0, 10000, ps0, by decide +kernel⟩,
   ⟨0xFFFFFFFFFFFFFFFF, by decide +kernel⟩⟩
end Sys2Proof.Tests.EndPointRegisters

namespace Sys2Proof.Tests.OpticalStarts
def ps0 : State := State.reset
def ps2 : State := (State.reset.setRegBit (linkReg 64 lCtl) 0 false)
def ps4 : State := ((State.reset.setRegBit (linkReg 64 lCtl) 0 false).setOptState 0 8)
def ps7 : State := (State.reset.setOptState 0 1)
def ps11 : State := (State.reset.setOpt 0 { wait := true })
def ps12 : State := (State.reset.setElec 0 { wait := true })
def ps13 : State := (State.reset.setRegBit rPrinStatus 0 true)
theorem hyps_OpticalStarts :
    (∃ (p : OptPort) (s : State), (s.optEnabled p.val = false ∨ s.optState p.val = 8)) ∧
    (∃ (p : OptPort) (s : State), s.optEnabled p.val = true ∧ s.optState p.val ≠ 8 ∧ s.optState p.val ≠ 7) ∧
    (∃ (p : OptPort) (s : State), s.recovery = false ∧ s.optEnabled p.val = true ∧ s.optState p.val ≠ 8) ∧
    (∃ (p : OptPort) (s : State), s.recovery = false ∧ s.optEnabled p.val = false ∧ s.optState p.val ≠ 7 ∧ s.optState p.val ≠ 8) ∧
    (∃ (p : OptPort) (s : State), s.recovery = false ∧ s.optState p.val ≠ 7) ∧
    (∃ (s : State), s.recovery = false) ∧
    (∃ (p : OptPort) (s : State), 1 ≤ s.optState p.val ∧ s.optState p.val ≤ 6) ∧
    (∃ (p : OptPort) (s : State), (s.optState p.val = 0 ∨ 6 < s.optState p.val)) ∧
    (∃ (p : OptPort) (q : Fin 128) (s : State), q.val = 64 + p.val ∧ (s.opt p.val).wait = true) ∧
    (∃ (p : Fin 64) (q : Fin 128) (s : State), q.val = p.val ∧ (s.elec p.val).wait = true) ∧
    (∃ (p : OptPort) (s : State), s.recovery = false ∧ s.optState p.val = 8) ∧
    (∃ (p : OptPort) (s : State), s.recovery = false ∧ s.optState p.val ≠ 8 ∧ s.regBit rPrinStatus 0 = true) ∧
    (∃ (p : OptPort) (s : State), s.recovery = false ∧ s.optState p.val ≠ 8 ∧ s.optState p.val ≠ 7 ∧ s.regBit rPrinStatus 0 = false) ∧
    (∃ (p : OptPort) (s : State), s.optState p.val ≠ 8) ∧
    (∃ (p : OptPort) (s : State), s.optState p.val = 8 ∧ s.optEnabled p.val = false) :=
  ⟨⟨0, ps2, by decide +kernel⟩,
   ⟨0, ps0, by decide +kernel⟩,
   ⟨0, ps0, by decide +kernel⟩,
   ⟨0, ps2, by decide +kernel⟩,
   ⟨0, ps0, by decide +kernel⟩,
   ⟨ps0, by decide +kernel⟩,
   ⟨0, ps7, by decide +kernel⟩,
   ⟨0, ps0, by decide +kernel⟩,
   ⟨0, 64, ps11, by decide +kernel⟩,
   ⟨0, 0, ps12, by decide +kernel⟩,
   ⟨0, ps4, by decide +kernel⟩,
   ⟨0, ps13, by decide +kernel⟩,
   ⟨0, ps0, by decide +kernel⟩,
   ⟨0, ps0, by decide +kernel⟩,
   ⟨0, ps4, by decide +kernel⟩⟩
end Sys2Proof.Tests.OpticalStarts

namespace Sys2Proof.Tests.Rings
def ps0 : State := State.reset
def ps2 : State := (State.reset.setRegF (wlStat 0 0) 16 4 1)
def ps3 : State := (State.reset.setRegF (wlStat 0 0) 16 4 2)
def ps4 : State := ((State.reset.setRegF (wlStat 0 0) 16 4 2).setOpt 0 { melium := true })
def ps5 : State := (State.reset.setRegF (wlStat 0 0) 16 4 3)
def ps6 : State := (State.reset.setRegF (wlStat 0 0) 20 4 4)
def ps7 : State := ((State.reset.setRegF (wlStat 0 0) 20 4 4).setWave 0 0 { tx := { errs := 2, wrong := 1 } })
def ps8 : State := (State.reset.setRegF (wlStat 0 0) 20 4 6)
abbrev ring : State → OptPort → Fin 16 → Bool → Ring := fun s p k rx => (s.wave p.val k.val).ring rx
abbrev few : State → OptPort → Fin 16 → Bool → Prop := fun s p k rx => (s.activeSet p.val rx).getLsbD k.val = false ∧ (s.heldLesson (ring s p k rx) = true ∨ (ring s p k rx).wrong < 2)
theorem hyps_Rings :
    (∃ (p : OptPort) (k : Fin 16) (rx : Bool) (s : State), s.ringSt p.val k.val rx = 1) ∧
    (∃ (p : OptPort) (k : Fin 16) (rx : Bool) (s : State), s.ringSt p.val k.val rx ≠ 1) ∧
    (∃ (p : OptPort) (k : Fin 16) (rx : Bool) (s : State), s.ringSt p.val k.val rx = 2 ∧ (s.opt p.val).melium = false) ∧
    (∃ (p : OptPort) (k : Fin 16) (rx : Bool) (s : State), s.ringSt p.val k.val rx = 2 ∧ (s.opt p.val).melium = true) ∧
    (∃ (p : OptPort) (k : Fin 16) (rx : Bool) (s : State), s.ringSt p.val k.val rx = 2 ∧ (s.activeSet p.val rx).getLsbD k.val = false) ∧
    (∃ (p : OptPort) (k : Fin 16) (rx : Bool) (s : State), s.ringSt p.val k.val rx = 3 ∧ s.optState p.val ≠ 7) ∧
    (∃ (p : OptPort) (k : Fin 16) (rx : Bool) (tone : Option (Fin 16)) (s : State), s.ringSt p.val k.val rx = 3 ∧ tone ≠ some k ∧ few s p k rx) ∧
    (∃ (p : OptPort) (k : Fin 16) (rx : Bool) (s : State), s.ringSt p.val k.val rx = 4) ∧
    (∃ (p : OptPort) (k : Fin 16) (rx : Bool) (s : State), s.ringSt p.val k.val rx = 4 ∧ (ring s p k rx).errs < 2) ∧
    (∃ (p : OptPort) (k : Fin 16) (rx : Bool) (s : State), s.ringSt p.val k.val rx = 4 ∧ 2 ≤ (ring s p k rx).errs ∧ (s.activeSet p.val rx).getLsbD k.val = false) ∧
    (∃ (p : OptPort) (k : Fin 16) (rx : Bool) (tone : Option (Fin 16)) (s : State), s.ringSt p.val k.val rx = 4 ∧ tone ≠ some k ∧ (s.opt p.val).melium = false ∧ few s p k rx) ∧
    (∃ (p : OptPort) (k : Fin 16) (rx : Bool) (s : State), s.ringSt p.val k.val rx = 6 ∧ s.optState p.val ≠ 8) ∧
    (∃ (p : OptPort) (k : Fin 16) (rx : Bool) (s : State), s.ringSt p.val k.val rx = 6 ∧ s.optState p.val ≠ 8 ∧ s.behindGateway = false ∧ (s.activeSet p.val false).getLsbD k.val = false ∧ (s.activeSet p.val true).getLsbD k.val = false) :=
  ⟨⟨0, 0, true, ps2, by decide +kernel⟩,
   ⟨0, 0, false, ps0, by decide +kernel⟩,
   ⟨0, 0, true, ps3, by decide +kernel⟩,
   ⟨0, 0, true, ps4, by decide +kernel⟩,
   ⟨0, 0, true, ps3, by decide +kernel⟩,
   ⟨0, 0, true, ps5, by decide +kernel⟩,
   ⟨0, 0, true, none, ps5, by decide +kernel⟩,
   ⟨0, 0, false, ps6, by decide +kernel⟩,
   ⟨0, 0, false, ps6, by decide +kernel⟩,
   ⟨0, 0, false, ps7, by decide +kernel⟩,
   ⟨0, 0, false, none, ps6, by decide +kernel⟩,
   ⟨0, 0, false, ps8, by decide +kernel⟩,
   ⟨0, 0, false, ps8, by decide +kernel⟩⟩
end Sys2Proof.Tests.Rings

namespace Sys2Proof.Tests.OpticalLinkTests
def ps0 : State := State.reset
def ps2 : State := ((State.reset.setOptState 0 1).setWave 0 0 { lit := true })
def ps5 : State := ((State.reset.setOptState 0 5).setLaser 0 0 1)
def ps8 : State := (State.reset.setOptState 0 6)
def ps9 : State := (((State.reset.setOptState 0 6).setOpt 0 { waves := Vector.replicate 16 { pass := true } }))
def ps10 : State := (((State.reset.setOptState 0 6).setOpt 0 { waves := Vector.replicate 16 { pass := true }, agreed := true, rxSet := 0xFFFF }))
def ps11 : State := (((State.reset.setOptState 0 6).setOpt 0 { waves := Vector.replicate 16 { pass := true }, agreed := true, measured := true, rxSet := 0x7FFF }))
def ps12 : State := ((State.reset.setElecState 0 5).setElec 0 { checked := true })
theorem hyps_OpticalLinkTests :
    (∃ (p : OptPort) (errs : Vector Nat 16) (s : State), 1 ≤ s.optState p.val ∧ s.optState p.val ≤ 4 ∧ (∀ k : Fin 16, (s.wave p.val k.val).lit = true → errs[k] < 26880 ∨ s.spareLeft p.val k.val = true)) ∧
    (∃ (p : OptPort) (k : Fin 16) (s : State), (s.optState p.val ≠ 5 ∨ s.laser p.val k.val ≠ 1)) ∧
    (∃ (p : OptPort) (k : Fin 16) (errs : Nat) (s : State), s.optState p.val = 5 ∧ s.laser p.val k.val = 1 ∧ errs < 26880) ∧
    (∃ (p : OptPort) (k : Fin 16) (errs : Nat) (s : State), s.optState p.val = 5 ∧ s.laser p.val k.val = 1 ∧ 26880 ≤ errs ∧ s.behindGateway = false ∧ (s.activeSet p.val false).getLsbD k.val = false ∧ (s.activeSet p.val true).getLsbD k.val = false) ∧
    (∃ (p : OptPort) (s : State), s.optState p.val = 6 ∧ (s.opt p.val).agreed = false) ∧
    (∃ (p : OptPort) (m : BitVec 16) (s : State), s.optState p.val = 6 ∧ (s.opt p.val).agreed = false ∧ s.optMin p.val ≤ setCount (s.passSet p.val) ∧ s.optMin p.val ≤ setCount m) ∧
    (∃ (p : OptPort) (m : BitVec 16) (s : State), s.optState p.val = 6 ∧ (s.opt p.val).agreed = false ∧ (setCount (s.passSet p.val) < s.optMin p.val ∨ setCount m < s.optMin p.val)) ∧
    (∃ (p : OptPort) (q : Fin 128) (l : List Nat) (s : State), q.val = 64 + p.val ∧ s.optState p.val = 6 ∧ (s.opt p.val).agreed = true ∧ l.length = 64) ∧
    (∃ (p : Fin 64) (q : Fin 128) (l : List Nat) (s : State), q.val = p.val ∧ s.elecState p.val = 5 ∧ (s.elec p.val).checked = true ∧ l.length = 64) ∧
    (∃ (p : OptPort) (s : State), (s.optState p.val ≠ 6 ∨ (s.opt p.val).agreed = false ∨ (s.opt p.val).measured = false)) ∧
    (∃ (p : OptPort) (s : State), s.optState p.val = 6 ∧ (s.opt p.val).agreed = true ∧ (s.opt p.val).measured = true ∧ s.behindGateway = false) :=
  ⟨⟨0, (Vector.replicate 16 0), ps2, by decide +kernel⟩,
   ⟨0, 0, ps0, by decide +kernel⟩,
   ⟨0, 0, 0, ps5, by decide +kernel⟩,
   ⟨0, 0, 26880, ps5, by decide +kernel⟩,
   ⟨0, ps8, by decide +kernel⟩,
   ⟨0, 0xFFFF, ps9, by decide +kernel⟩,
   ⟨0, 0, ps8, by decide +kernel⟩,
   ⟨0, 64, (List.replicate 64 200), ps10, by decide +kernel⟩,
   ⟨0, 0, (List.replicate 64 200), ps12, by decide +kernel⟩,
   ⟨0, ps0, by decide +kernel⟩,
   ⟨0, ps11, by decide +kernel⟩⟩
end Sys2Proof.Tests.OpticalLinkTests

namespace Sys2Proof.Tests.Lasers
def ps0 : State := State.reset
def ps2 : State := (State.reset.setWave 0 0 { lit := true })
def ps3 : State := (State.reset.setWave 0 0 { lit := true, samples := [100, 50] })
def ps6 : State := ((State.reset.setWave 0 0 { lit := true, badWin := true }))
def ps7 : State := (State.reset.setLaser 0 0 1)
def ps8 : State := ((State.reset.setLaser 0 0 1).setWave 0 0 { failed := true })
def ps9 : State := (State.reset.setLaser 0 0 2)
def ps10 : State := ((State.reset.putActive 0 false 0xFFFF).putActive 0 true 0xFFFF)
def ps11 : State := (((State.reset.setOptState 0 7).putActive 0 false 0xFFFF).putActive 0 true 0xFFFF)
def ps13 : State := (State.reset.setWave 0 0 { join := true })
theorem hyps_Lasers :
    (∃ (p : OptPort) (k : Fin 16) (s : State), (s.wave p.val k.val).lit = false) ∧
    (∃ (p : OptPort) (k : Fin 16) (v : Int) (s : State), (s.wave p.val k.val).lit = true ∧ s.behindGateway = false ∧ (∀ x ∈ (s.wave p.val k.val).samples.head?, x - v ≤ 600)) ∧
    (∃ (p : OptPort) (k : Fin 16) (v : Int) (s : State), (s.wave p.val k.val).lit = true ∧ s.laser p.val k.val < 3 ∧ (s.opt p.val).melium = false ∧ (s.activeSet p.val false).getLsbD k.val = false ∧ ∃ x ∈ (s.wave p.val k.val).samples.head?, 600 < x - v) ∧
    (∃ (p : OptPort) (k : Fin 16) (s : State), (s.wave p.val k.val).lit = true ∧ s.laser p.val k.val < 3 ∧ (s.opt p.val).melium = false ∧ (s.activeSet p.val false).getLsbD k.val = false) ∧
    (∃ (p : OptPort) (k : Fin 16) (v : Int) (s : State), 150 ≤ v ∧ (s.wave p.val k.val).lit = true) ∧
    (∃ (p : OptPort) (k : Fin 16) (v : Int) (s : State), 0 ≤ v ∧ v < 150 ∧ (s.wave p.val k.val).lit = true ∧ s.laser p.val k.val = 0 ∧ (s.opt p.val).melium = false) ∧
    (∃ (p : OptPort) (k : Fin 16) (v : Int) (s : State), v < 0 ∧ (s.wave p.val k.val).lit = true ∧ (s.wave p.val k.val).badWin = true ∧ s.excluded p.val k.val = false ∧ s.behindGateway = false ∧ (s.activeSet p.val false).getLsbD k.val = false ∧ (s.activeSet p.val true).getLsbD k.val = false) ∧
    (∃ (p : OptPort) (k : Fin 16) (s : State), s.laser p.val k.val ≠ 1) ∧
    (∃ (p : OptPort) (k : Fin 16) (s : State), s.laser p.val k.val = 1 ∧ (s.wave p.val k.val).failed = false) ∧
    (∃ (p : OptPort) (k : Fin 16) (s : State), s.laser p.val k.val = 1 ∧ (s.wave p.val k.val).failed = true) ∧
    (∃ (p : OptPort) (k : Fin 16) (s : State), s.laser p.val k.val = 1 ∧ (s.wave p.val k.val).failed = false ∧ s.behindGateway = false) ∧
    (∃ (p : OptPort) (k : Fin 16) (s : State), s.laser p.val k.val = 2) ∧
    (∃ (p : OptPort) (k : Fin 16) (s : State), s.laser p.val k.val ≠ 2) ∧
    (∃ (p : OptPort) (k : Fin 16) (s : State), (s.activeSet p.val false).getLsbD k.val = false) ∧
    (∃ (p : OptPort) (k : Fin 16) (s : State), (s.activeSet p.val false).getLsbD k.val = true ∧ s.behindGateway = false ∧ (s.optState p.val = 7 → s.optMin p.val ≤ setCount (s.activeSet p.val false &&& ~~~(BitVec.ofNat 16 (2 ^ k.val))))) ∧
    (∃ (p : OptPort) (k : Fin 16) (s : State), (s.wave p.val k.val).join = true) ∧
    (∃ (p : OptPort) (k : Fin 16) (s : State), (s.wave p.val k.val).join = false) ∧
    (∃ (p : OptPort) (s : State), s.optState p.val = 7) ∧
    (∃ (p : OptPort) (s : State), s.optState p.val ≠ 7) :=
  ⟨⟨0, 0, ps0, by decide +kernel⟩,
   ⟨0, 0, (0), ps2, by decide +kernel⟩,
   ⟨0, 0, (-700), ps3, by decide +kernel⟩,
   ⟨0, 0, ps2, by decide +kernel⟩,
   ⟨0, 0, (160), ps2, by decide +kernel⟩,
   ⟨0, 0, (0), ps2, by decide +kernel⟩,
   ⟨0, 0, (-1), ps6, by decide +kernel⟩,
   ⟨0, 0, ps0, by decide +kernel⟩,
   ⟨0, 0, ps7, by decide +kernel⟩,
   ⟨0, 0, ps8, by decide +kernel⟩,
   ⟨0, 0, ps7, by decide +kernel⟩,
   ⟨0, 0, ps9, by decide +kernel⟩,
   ⟨0, 0, ps0, by decide +kernel⟩,
   ⟨0, 0, ps0, by decide +kernel⟩,
   ⟨0, 0, ps10, by decide +kernel⟩,
   ⟨0, 0, ps13, by decide +kernel⟩,
   ⟨0, 0, ps0, by decide +kernel⟩,
   ⟨0, ps11, by decide +kernel⟩,
   ⟨0, ps0, by decide +kernel⟩⟩
end Sys2Proof.Tests.Lasers

namespace Sys2Proof.Tests.ElectricalStarts
def ps0 : State := State.reset
def ps2 : State := (State.reset.setElecBit 0 ecEnable false)
def ps5 : State := (State.reset.setEpBit 0 eCtl 0 true)
def ps6 : State := (State.reset.setElecState 0 1)
def ps8 : State := (State.reset.setElecState 0 9)
def ps10 : State := (((State.reset.setElecState 0 5).setElec 0 { checked := true, measured := true }).setEpBit 0 eCtl 0 true)
def ps12 : State := (State.reset.setElecState 0 6)
def ps15 : State := ((State.reset.setElecState 0 6).setReady (readyPort 0) true)
theorem hyps_ElectricalStarts :
    (∃ (p : Fin 64) (s : State), (s.elecBit p.val ecEnable = false ∨ s.elecBit p.val ecTest = true ∨ s.elecBit p.val ecDeep = true)) ∧
    (∃ (p : Fin 64) (s : State), s.elecBit p.val ecEnable = true ∧ s.elecBit p.val ecTest = false ∧ s.elecBit p.val ecDeep = false ∧ s.ready (readyPort p.val) = false) ∧
    (∃ (p : Fin 64) (s : State), s.epBit p.val eCtl 0 = false) ∧
    (∃ (p : Fin 64) (s : State), s.epBit p.val eCtl 0 = true) ∧
    (∃ (p : Fin 64) (s : State), s.recovery = false ∧ s.elecBit p.val ecEnable = true ∧ s.elecBit p.val ecTest = false ∧ s.elecBit p.val ecDeep = false) ∧
    (∃ (p : Fin 64) (s : State), s.recovery = false ∧ s.elecBit p.val ecEnable = false ∧ s.elecBit p.val ecTest = false ∧ s.elecBit p.val ecDeep = false ∧ s.ready (readyPort p.val) = false) ∧
    (∃ (p : Fin 64) (s : State), s.recovery = false ∧ s.ready (readyPort p.val) = false) ∧
    (∃ (p : Fin 64) (foms : Vector (BitVec 8) 4) (s : State), (1 ≤ s.elecState p.val ∧ s.elecState p.val ≤ 5 ∨ s.elecState p.val = 9) ∧ (∀ l : Fin 4, s.elecCtl p.val 24 8 ≤ foms[l].toNat)) ∧
    (∃ (p : Fin 64) (s : State), 1 ≤ s.elecState p.val ∧ s.elecState p.val ≤ 5) ∧
    (∃ (p : Fin 64) (s : State), 1 ≤ s.elecState p.val ∧ s.elecState p.val ≤ 5) ∧
    (∃ (p : Fin 64) (s : State), s.elecState p.val = 9) ∧
    (∃ (p : Fin 64) (s : State), (s.elecState p.val ≠ 5 ∨ (s.elec p.val).checked = false ∨ (s.elec p.val).measured = false)) ∧
    (∃ (p : Fin 64) (s : State), s.elecState p.val = 5 ∧ (s.elec p.val).checked = true ∧ (s.elec p.val).measured = true ∧ s.epBit p.val eCtl 0 = true) ∧
    (∃ (p : Fin 64) (s : State), s.elecState p.val ≠ 6) ∧
    (∃ (p : Fin 64) (l : Fin 4) (snr : Nat) (eye : Nat) (uncorr : Nat) (s : State), s.elecState p.val = 6 ∧ uncorr ≤ 16 ∧ fomOf snr eye < s.elecCtl p.val 32 8 ∧ (s.elec p.val).low[l] < 2) ∧
    (∃ (p : Fin 64) (snr : Nat) (eye : Nat) (uncorr : Nat) (s : State), s.elecState p.val = 6 ∧ uncorr ≤ 16 ∧ s.elecCtl p.val 32 8 ≤ fomOf snr eye) ∧
    (∃ (p : Fin 128) (s : State), s.portUp p.val = true) ∧
    (∃ (p : Fin 128) (s : State), s.portUp p.val = false) ∧
    (∃ (q : Fin 128), q.val < 64) ∧
    (∃ (q : Fin 128) (p : OptPort), q.val = 64 + p.val) :=
  ⟨⟨0, ps2, by decide +kernel⟩,
   ⟨0, ps0, by decide +kernel⟩,
   ⟨0, ps0, by decide +kernel⟩,
   ⟨0, ps5, by decide +kernel⟩,
   ⟨0, ps0, by decide +kernel⟩,
   ⟨0, ps2, by decide +kernel⟩,
   ⟨0, ps0, by decide +kernel⟩,
   ⟨0, (Vector.replicate 4 255), ps6, by decide +kernel⟩,
   ⟨0, ps6, by decide +kernel⟩,
   ⟨0, ps6, by decide +kernel⟩,
   ⟨0, ps8, by decide +kernel⟩,
   ⟨0, ps0, by decide +kernel⟩,
   ⟨0, ps10, by decide +kernel⟩,
   ⟨0, ps0, by decide +kernel⟩,
   ⟨0, 0, 0, 0, 0, ps12, by decide +kernel⟩,
   ⟨0, 0, 1500, 0, ps12, by decide +kernel⟩,
   ⟨0, ps15, by decide +kernel⟩,
   ⟨0, ps0, by decide +kernel⟩,
   ⟨0, by decide +kernel⟩,
   ⟨64, 0, by decide +kernel⟩⟩
end Sys2Proof.Tests.ElectricalStarts

namespace Sys2Proof.Tests.TestAndAudit
def ps0 : State := State.reset
def ps2 : State := (State.reset.setElecBit 0 ecTest true)
def ps3 : State := ((State.reset.setElecBit 0 ecTest true).setElecBit 0 ecEnable false)
def ps5 : State := ((((State.reset.setElecBit 0 ecTest true).setElecBit 0 ecEnable false).setRegF (laneReg 0 1 8) 0 16 0xFFFF).setElec 0 { loop := 3, checks := Vector.replicate 4 (some 0) })
def ps7 : State := (State.reset.setElec 0 { loopAsk := true })
def ps8 : State := ((State.reset.setElecBit 0 ecTest true).setRegF (laneReg 0 0 8) 0 16 0x8080)
def ps11 : State := (State.reset.setRegBit (linkReg 0 lAudit) 63 true)
def ps14 : State := (State.reset.setEpBit 0 eCtl 0 true)
theorem hyps_TestAndAudit :
    (∃ (p : Fin 64) (s : State), s.recovery = false ∧ s.elecBit p.val ecTest = false ∧ s.elecBit p.val ecDeep = false ∧ s.ready (readyPort p.val) = false) ∧
    (∃ (p : Fin 64) (s : State), s.recovery = false ∧ s.elecBit p.val ecTest = true ∧ s.elecBit p.val ecEnable = false ∧ s.elecBit p.val ecDeep = false) ∧
    (∃ (p : Fin 64) (s : State), s.recovery = false ∧ s.elecBit p.val ecTest = false) ∧
    (∃ (p : Fin 64) (v : Fin 4) (s : State), s.recovery = false ∧ s.elecBit p.val ecTest = true ∧ v.val ≠ 3 ∧ (s.elec p.val).loop ≠ 3 ∧ (s.elec p.val).loopAsk = false) ∧
    (∃ (p : Fin 64) (s : State), s.recovery = false ∧ s.elecBit p.val ecTest = true ∧ (s.elec p.val).loop ≠ 3 ∧ (s.elec p.val).loopAsk = false) ∧
    (∃ (p : Fin 64) (s : State), (s.elec p.val).loopAsk = true) ∧
    (∃ (p : Fin 64) (s : State), (s.elec p.val).loopAsk = false) ∧
    (∃ (p : Fin 64) (l : Fin 4) (s : State), s.recovery = false ∧ s.generatorRuns p.val l.val = true) ∧
    (∃ (p : Fin 64) (l : Fin 4) (s : State), s.recovery = false ∧ s.generatorRuns p.val l.val = false) ∧
    (∃ (s : State), s.recovery = false) ∧
    (∃ (p : Fin 64) (l : Fin 4) (s : State), s.checkerRuns p.val l.val = true ∧ s.regBit (laneReg p.val l.val 8) 11 = false) ∧
    (∃ (p : Fin 64) (l : Fin 4) (s : State), s.checkerRuns p.val l.val = false) ∧
    (∃ (p : Fin 64) (s : State), s.epBit p.val eCtl 0 = true) ∧
    (∃ (s : State), s.recovery = false) ∧
    (∃ (p : Fin 64) (s : State), s.regBit (linkReg p.val lAudit) 63 = true) ∧
    (∃ (p : Fin 64) (s : State), s.regBit (linkReg p.val lAudit) 63 = false) :=
  ⟨⟨0, ps0, by decide +kernel⟩,
   ⟨0, ps3, by decide +kernel⟩,
   ⟨0, ps0, by decide +kernel⟩,
   ⟨0, 0, ps2, by decide +kernel⟩,
   ⟨0, ps2, by decide +kernel⟩,
   ⟨0, ps7, by decide +kernel⟩,
   ⟨0, ps0, by decide +kernel⟩,
   ⟨0, 1, ps5, by decide +kernel⟩,
   ⟨0, 0, ps0, by decide +kernel⟩,
   ⟨ps0, by decide +kernel⟩,
   ⟨0, 0, ps8, by decide +kernel⟩,
   ⟨0, 0, ps0, by decide +kernel⟩,
   ⟨0, ps14, by decide +kernel⟩,
   ⟨ps0, by decide +kernel⟩,
   ⟨0, ps11, by decide +kernel⟩,
   ⟨0, ps0, by decide +kernel⟩⟩
end Sys2Proof.Tests.TestAndAudit

namespace Sys2Proof.Tests.Sleep
def ps0 : State := State.reset
def ps2 : State := ((State.reset.setElecBit 0 ecSleep true).setElecState 0 6)
def ps4 : State := ((State.reset.setEpBit 0 eStatus 11 true).setEpBit 0 eElecCtl 6 true)
def ps5 : State := (State.reset.setElecFlag 0 12 true)
def ps7 : State := ((State.reset.setElecFlag 0 12 true).setElec 0 { waking := true })
def ps9 : State := (State.reset.setElecBit 0 ecReserve true)
def ps11 : State := (State.reset.setElecBit 0 ecDeep true)
def ps14 : State := (State.reset.forAll [1,2,3,4,5,6,7,8] (fun s p => s.setElecBit p ecReserve true))
theorem hyps_Sleep :
    (∃ (p : Fin 64) (s : State), s.maySleep p.val = true) ∧
    (∃ (p : Fin 64) (s : State), s.maySleep p.val = false) ∧
    (∃ (p : Fin 64) (s : State), (s.elecBit p.val ecSleep = false ∨ s.elecState p.val ≠ 6 ∨ s.regBit (rBellTree + 8 * (p.val / 64)) (p.val % 64) = true)) ∧
    (∃ (p : Fin 64) (s : State), s.epBit p.val eStatus 11 = true ∧ s.epBit p.val eElecCtl 6 = true ∧ s.epBit p.val eElecStatus 12 = false) ∧
    (∃ (p : Fin 64) (c : WakeCause) (s : State), s.wakeCause p.val c = true ∧ s.elecFlag p.val 12 = true ∧ (s.elec p.val).waking = false) ∧
    (∃ (p : Fin 64) (c : WakeCause) (s : State), (s.wakeCause p.val c = false ∨ s.elecFlag p.val 12 = false)) ∧
    (∃ (p : Fin 64) (s : State), (s.elec p.val).waking = true) ∧
    (∃ (p : Fin 64) (s : State), (s.elec p.val).waking = false) ∧
    (∃ (p : Fin 64) (s : State), s.recovery = false ∧ s.elecBit p.val ecDeep = false ∧ s.elecBit p.val ecReserve = true ∧ s.regBit (rBellTree + 8 * (p.val / 64)) (p.val % 64) = false ∧ s.routeUses p.val = false ∧ s.pageReserves p.val [1, 2, 3, 4] = false) ∧
    (∃ (p : Fin 64) (s : State), s.recovery = false ∧ s.elecBit p.val ecDeep = false ∧ (s.elecBit p.val ecReserve = false ∨ s.regBit (rBellTree + 8 * (p.val / 64)) (p.val % 64) = true ∨ s.routeUses p.val = true)) ∧
    (∃ (p : Fin 64) (s : State), s.recovery = false ∧ s.elecBit p.val ecDeep = true) ∧
    (∃ (p : Fin 64) (s : State), s.recovery = false ∧ s.elecBit p.val ecDeep = false) ∧
    (∃ (p : Fin 64) (on : Bool) (s : State), s.recovery = false ∧ (on = false ∨ ((List.range 64).filter (fun q => q ≠ p.val && s.elecBit q ecReserve)).length < 8)) ∧
    (∃ (p : Fin 64) (s : State), s.recovery = false ∧ 8 ≤ ((List.range 64).filter (fun q => q ≠ p.val && s.elecBit q ecReserve)).length) :=
  ⟨⟨0, ps2, by decide +kernel⟩,
   ⟨0, ps0, by decide +kernel⟩,
   ⟨0, ps0, by decide +kernel⟩,
   ⟨0, ps4, by decide +kernel⟩,
   ⟨0, .disabled, ps5, by decide +kernel⟩,
   ⟨0, .cell, ps0, by decide +kernel⟩,
   ⟨0, ps7, by decide +kernel⟩,
   ⟨0, ps0, by decide +kernel⟩,
   ⟨0, ps9, by decide +kernel⟩,
   ⟨0, ps0, by decide +kernel⟩,
   ⟨0, ps11, by decide +kernel⟩,
   ⟨0, ps0, by decide +kernel⟩,
   ⟨0, false, ps0, by decide +kernel⟩,
   ⟨0, ps14, by decide +kernel⟩⟩
end Sys2Proof.Tests.Sleep

namespace Sys2Proof.Tests.HostLink
def mapSt (off len : Nat) : State := (((State.reset.setRegBit rGlbReady 0 true).setReg (rAperture) (BitVec.ofNat 64 off)).setReg (rAperture+8) (BitVec.ofNat 64 len)).setReg (rAperture+16) (BitVec.ofNat 64 (2^63 + 0x1000)) |>.setReg (rAperture+24) 3
def ps0 : State := State.reset
def ps2 : State := (State.reset.setReady 0 true)
def ps4 : State := ({ (mapSt 0 0x100000) with host := { (mapSt 0 0x100000).host with split := true, linkB := true, cfg := [(5,7),(1024,9),(1030,9),(41000,3)], msix := [(3,3)], irqs := [3,7], buf := [(16,[1,2])] } })
def ps6 : State := (((State.reset.setReady 0 true).setReg rGwMembers 3).setReg (relayAt 0 4) 0x2000 |>.setReg (relayAt 0 0) 0x1122334455667788)
theorem hyps_HostLink :
    (∃ (r : Bar2Req) (s : State), s.fnServed r.fn.val = false) ∧
    (∃ (r : Bar2Req) (s : State), s.fnServed r.fn.val = true ∧ (s.bar2Fpa r.fn.val r.off.toNat r.len = none ∨ s.bar2Cohort r.fn.val r.pasid = none)) ∧
    (∃ (r : Bar2Req) (s : State), s.fnServed r.fn.val = true ∧ ∃ a ∈ s.bar2Fpa r.fn.val r.off.toNat r.len, ∃ c ∈ s.bar2Cohort r.fn.val r.pasid, True) ∧
    (∃ (s : State), s.ready 0 = false ∧ s.host.linkB = false) ∧
    (∃ (s : State), (s.ready 0 = true ∨ s.host.linkB = true)) ∧
    (∃ (fn : Fin 65), fn ≠ 0) ∧
    (∃ (s : State), s.host.split = true) ∧
    (∃ (s : State), s.host.split = false) ∧
    (∃ (s : State), s.host.split = true) ∧
    (∃ (m : Fin 64) (s : State), (s.reg rGwMembers).getLsbD m.val = false) ∧
    (∃ (m : Fin 64) (v : BitVec 64) (s : State), (s.reg rGwMembers).getLsbD m.val = true ∧ v.getLsbD 8 = true ∧ s.ready 0 = true) ∧
    (∃ (m : Fin 64) (v : BitVec 64) (s : State), (s.reg rGwMembers).getLsbD m.val = true ∧ v.getLsbD 8 = false ∧ 1 ≤ fget v 0 6 ∧ fget v 0 6 ≤ 32 ∧ s.ready 0 = true ∧ s.behindGateway = false) ∧
    (∃ (s : State), s.recovery = false) :=
  ⟨⟨⟨0,none,0,8⟩, ps0, by decide +kernel⟩,
   ⟨⟨1,none,16,3000⟩, ps2, by decide +kernel⟩,
   ⟨⟨0,none,0,8⟩, ps2, by decide +kernel⟩,
   ⟨ps0, by decide +kernel⟩,
   ⟨ps2, by decide +kernel⟩,
   ⟨1, by decide +kernel⟩,
   ⟨ps4, by decide +kernel⟩,
   ⟨ps0, by decide +kernel⟩,
   ⟨ps4, by decide +kernel⟩,
   ⟨0, ps0, by decide +kernel⟩,
   ⟨0, 0x10100, ps6, by decide +kernel⟩,
   ⟨0, 1, ps6, by decide +kernel⟩,
   ⟨ps0, by decide +kernel⟩⟩
end Sys2Proof.Tests.HostLink

namespace Sys2Proof.Tests.IdentityAndPartitions
def stg : State := { ((State.reset.setTabF (rPortPart + 0) 1 0x85).setTabF (rPortPartStage + 0) 1 0x86) with fab := { State.reset.fab with scrubbing := 1 } }
def ps0 : State := State.reset
def ps2 : State := ({ State.reset with bell := { State.reset.bell with mapped := true } })
def ps4 : State := stg
def ps5 : State := (State.reset.setReady (readyPort 0) true)
theorem hyps_IdentityAndPartitions :
    (∃ (s : State), s.recovery = false ∧ (s.partArmed = false ∨ s.bell.governed = true)) ∧
    (∃ (v : BitVec 64) (s : State), s.recovery = false ∧ (v.getLsbD 63 = false ∨ s.bell.governed = true)) ∧
    (∃ (v : BitVec 64) (s : State), s.recovery = false ∧ v.getLsbD 63 = true ∧ s.bell.governed = false ∧ s.bell.mapped = true ∧ (∀ p : Fin 128, s.swapOffends p.val = false)) ∧
    (∃ (v : BitVec 64) (p : Fin 128) (s : State), s.recovery = false ∧ v.getLsbD 63 = true ∧ s.bell.governed = false ∧ s.swapOffends p.val = true ∧ (∀ q : Fin 128, q < p → s.swapOffends q.val = false)) ∧
    (∃ (v : BitVec 64) (s : State), s.recovery = false ∧ s.portUp (v.toNat % 128) = true) ∧
    (∃ (v : BitVec 64) (s : State), s.recovery = false ∧ s.portUp (v.toNat % 128) = false) ∧
    (∃ (p : Fin 128) (s : State), s.fab.scrubbing.getLsbD p.val = true) ∧
    (∃ (p : Fin 128) (s : State), s.fab.scrubbing.getLsbD p.val = false) ∧
    (∃ (s : State), s.recovery = false) ∧
    (∃ (c : BitVec 10) (v : BitVec 128) (s : State), s.recovery = false ∧ v.toNat / 2 ^ 12 % 8 = 1 ∧ s.cohortState c.toNat = 0) ∧
    (∃ (c : BitVec 10) (v : BitVec 128) (s : State), s.recovery = false ∧ (v.toNat / 2 ^ 12 % 8 ≠ 1 ∨ s.cohortState c.toNat ≠ 0)) ∧
    (∃ (s : State), s.recovery = false ∧ (∀ p : Fin 128, s.portPart p.val = none)) ∧
    (∃ (p : Fin 128) (s : State), s.recovery = false ∧ s.portPart p.val ≠ none) :=
  ⟨⟨ps0, by decide +kernel⟩,
   ⟨0, ps0, by decide +kernel⟩,
   ⟨0x8000000000000000, ps2, by decide +kernel⟩,
   ⟨0x8000000000000000, 0, ps4, by decide +kernel⟩,
   ⟨0, ps5, by decide +kernel⟩,
   ⟨0, ps0, by decide +kernel⟩,
   ⟨0, ps4, by decide +kernel⟩,
   ⟨0, ps0, by decide +kernel⟩,
   ⟨ps0, by decide +kernel⟩,
   ⟨0, 0x1003, ps0, by decide +kernel⟩,
   ⟨0, 0, ps0, by decide +kernel⟩,
   ⟨ps0, by decide +kernel⟩,
   ⟨0, ps4, by decide +kernel⟩⟩
end Sys2Proof.Tests.IdentityAndPartitions

namespace Sys2Proof.Tests.SecurityServices
def up0 : State := (State.reset.setReady 1 true).setReady 0 true
def coh1 (s : State) (c : Nat) : State := s.setRegF (cohortAt c + 24) 12 3 1
def imp (s : State) (c slot : Nat) : State := { s with latch := [(rImport + 72, BitVec.ofNat 64 (c * 2^32 + slot * 2^48))], sec := { s.sec with eph := [(c, some (0, [1,2]))] } }
def sealSt (s : State) (st : Nat) : State := ((s.setReg rSeal 0x200000).setReg (rSeal+8) 0x200000).setReg (rSeal+16) (BitVec.ofNat 64 (5 + 3 * 2 ^ 16 + st * 2 ^ 24))
def withMem (s : State) : State := (s.poke 0x200010 [7,8,9]).poke 0x400000 [7]
def tear : Tear := { cohort := 5, start := 0, nonce := [], listed := [(0x400000, 64)], scrub := true, areas := [(0x200000, 0x200000),(0x400000,64)], sealed := 0x200000, local_ := 0, slots := 0 }
def ps0 : State := State.reset
def ps2 : State := up0
def ps3 : State := (coh1 up0 5)
def ps5 : State := { (coh1 up0 5) with sec := { (coh1 up0 5).sec with attest := some (5, [1,2,3]) } }
def ps6 : State := (imp up0 5 2)
def ps9 : State := (sealSt (coh1 up0 5) 1)
def ps12 : State := { (withMem (sealSt (coh1 up0 5) 3)) with sec := { (coh1 up0 5).sec with tears := [tear] } }
abbrev eph : State → BitVec 10 → Option (Nat × List Byte) := fun s c => tget (fun _ => none) s.sec.eph c.toNat
abbrev up : State → Prop := fun s => s.ready 1 = true ∧ s.behindGateway = false
theorem hyps_SecurityServices :
    (∃ (v : BitVec 64) (s : State), up s ∧ s.cohortState (fget v 0 10) = 1) ∧
    (∃ (v : BitVec 64) (s : State), up s ∧ s.cohortState (fget v 0 10) ≠ 1) ∧
    (∃ (s : State), s.sec.attest = none) ∧
    (∃ (c : BitVec 10) (n : List Byte) (s : State), s.sec.attest = some (c, n) ∧ s.behindGateway = false) ∧
    (∃ (s : State), up s ∧ eph s (BitVec.ofNat 10 (leAt (s.latchBytes rImport 17) 76 2 % 1024)) = none) ∧
    (∃ (c : BitVec 10) (k : Nat) (nonce : List Byte) (s : State), up s ∧ c.toNat = leAt (s.latchBytes rImport 17) 76 2 % 1024 ∧ eph s c = some (k, nonce)) ∧
    (∃ (s : State), s.ready 1 = true) ∧
    (∃ (i : Fin 64) (s : State), s.ready 1 = true ∧ (s.sealEntry i.val).2.2.2.2 ≠ 0) ∧
    (∃ (i : Fin 64) (a : BitVec 64) (n : BitVec 64) (s : State), up s ∧ (s.sealEntry i.val).2.2.2.2 = 0 ∧ s.sealOver a.toNat n.toNat ≠ none) ∧
    (∃ (i : Fin 64) (a : BitVec 64) (n : BitVec 64) (c : BitVec 10) (s : State), up s ∧ (s.sealEntry i.val).2.2.2.2 = 0 ∧ s.sealOver a.toNat n.toNat = none ∧ meetsRegion s.ovfRegion a.toNat n.toNat = false ∧ meetsRegion s.ttRegion a.toNat n.toNat = false ∧ a.toNat + n.toNat ≤ 2 ^ 40 ∧ n ≠ 0 ∧ a.toNat % 2 ^ 21 = 0 ∧ n.toNat % 2 ^ 21 = 0 ∧ s.cohortState c.toNat = 1 ∧ s.coh.dir = []) ∧
    (∃ (i : Fin 64) (s : State), (s.sealEntry i.val).2.2.2.2 ≠ 1) ∧
    (∃ (i : Fin 64) (s : State), (s.sealEntry i.val).2.2.2.2 = 1) ∧
    (∃ (v : BitVec 64) (s : State), up s ∧ (∀ p : Fin 2, s.bell.pages[p].tt = none) ∧ s.cohortState (fget v 0 10) ≠ 1) ∧
    (∃ (v : BitVec 64) (s : State), up s ∧ (∀ p : Fin 2, s.bell.pages[p].tt = none) ∧ s.cohortState (fget v 0 10) = 1) ∧
    (∃ (c : BitVec 10) (s : State), (s.fenced 0 = true ∨ s.fenced 2 = true ∨ ∀ x ∈ s.sec.tears, x.cohort = c.toNat → x.scrub = false)) ∧
    (∃ (c : BitVec 10) (s : State), s.fenced 0 = false ∧ s.fenced 2 = false ∧ s.behindGateway = false ∧ ∃ x ∈ s.sec.tears.find? (fun t => t.cohort = c.toNat && t.scrub), True) :=
  ⟨⟨5, ps3, by decide +kernel⟩,
   ⟨0, ps2, by decide +kernel⟩,
   ⟨ps0, by decide +kernel⟩,
   ⟨5, [1,2,3], ps5, by decide +kernel⟩,
   ⟨ps2, by decide +kernel⟩,
   ⟨5, 0, [1,2], ps6, by decide +kernel⟩,
   ⟨ps2, by decide +kernel⟩,
   ⟨0, ps9, by decide +kernel⟩,
   ⟨1, 0, 0x400000, ps9, by decide +kernel⟩,
   ⟨0, 0, 0x200000, 5, ps3, by decide +kernel⟩,
   ⟨0, ps0, by decide +kernel⟩,
   ⟨0, ps9, by decide +kernel⟩,
   ⟨0, ps2, by decide +kernel⟩,
   ⟨5, ps3, by decide +kernel⟩,
   ⟨0, ps0, by decide +kernel⟩,
   ⟨5, ps12, by decide +kernel⟩⟩
end Sys2Proof.Tests.SecurityServices

namespace Sys2Proof.Tests.ModuleReset
def sealSt (s : State) (st : Nat) : State := ((s.setReg rSeal 0x200000).setReg (rSeal+8) 0x200000).setReg (rSeal+16) (BitVec.ofNat 64 (5 + 3 * 2 ^ 16 + st * 2 ^ 24))
def busy : State := { (((((sealSt State.reset 2).poke 0x200010 [7,8,9]).poke 0x400000 [7]).poke 0xC0000000010 [1]).setRegF rLogHead 0 7 5) with strms := [(0,{ queue := [] })], deps := [(0,{ lru := 3 })], now := 77 }
def ps0 : State := State.reset
def ps3 : State := { State.reset with rst := { State.reset.rst with down := true } }
def ps5 : State := { State.reset with sec := { State.reset.sec with booted := 3 } }
theorem hyps_ModuleReset :
    (∃ (r : Rail) (s : State), (s.rst.down = true ∨ r = .vaux)) ∧
    (∃ (r : Rail) (s : State), s.rst.down = false ∧ r ≠ .vaux) ∧
    (∃ (s : State), s.rst.down = false ∧ s.sec.booted ≠ 0) ∧
    (∃ (s : State), s.rst.down = true) ∧
    (∃ (s : State), s.rst.tripped = false) :=
  ⟨⟨.vaux, ps0, by decide +kernel⟩,
   ⟨.vddqG7, ps0, by decide +kernel⟩,
   ⟨ps5, by decide +kernel⟩,
   ⟨ps3, by decide +kernel⟩,
   ⟨ps0, by decide +kernel⟩⟩
end Sys2Proof.Tests.ModuleReset

namespace Sys2Proof.Tests.Boot
def ps0 : State := State.reset
def ps1 : State := (State.reset.setRegBit rRstStatus 13 true)
def ps2 : State := { State.reset with sec := { State.reset.sec with booted := 1 } }
def ps4 : State := { State.reset with sec := { State.reset.sec with booted := 15 } }
abbrev runs : State → Prop := fun s => s.recovery = false ∧ s.prin.again = false
theorem hyps_Boot :
    (∃ (k : Fin 5) (s : State), runs s ∧ (s.sec.booted.getLsbD k.val = true ∨ 0 < k.val ∧ s.sec.booted.getLsbD (k.val - 1) = false)) ∧
    (∃ (s : State), runs s ∧ s.sec.booted.getLsbD 0 = false) ∧
    (∃ (k : Fin 5) (s : State), runs s ∧ 1 ≤ k.val ∧ k.val ≤ 3 ∧ s.sec.booted.getLsbD k.val = false ∧ s.sec.booted.getLsbD (k.val - 1) = true) ∧
    (∃ (s : State), runs s ∧ s.sec.booted.getLsbD 4 = false ∧ s.sec.booted.getLsbD 3 = true) ∧
    (∃ (w : Fin 4) (s : State), s.rst.down = false ∧ s.recovery = false ∧ s.fenced 0 = false ∧ s.ready (readyWing w.val) = false) ∧
    (∃ (w : Fin 4) (s : State), (s.rst.down = true ∨ s.recovery = true ∨ s.fenced 0 = true ∨ s.ready (readyWing w.val) = true)) :=
  ⟨⟨1, ps0, by decide +kernel⟩,
   ⟨ps0, by decide +kernel⟩,
   ⟨1, ps2, by decide +kernel⟩,
   ⟨ps4, by decide +kernel⟩,
   ⟨0, ps0, by decide +kernel⟩,
   ⟨0, ps1, by decide +kernel⟩⟩
end Sys2Proof.Tests.Boot

namespace Sys2Proof.Tests.ResetRequests
def q (o : Nat) : State := { (State.reset.setReady (readyPort 0) true) with fab := { State.reset.fab with voq := [{ id := 0, f := blankFrame, inp := 128, out := o, vc := 1, cells := 1, sent := 0, place := .shared, stamp := 0, since := 0 }] } }
def ps0 : State := State.reset
def ps2 : State := (State.reset.setRegBit rRstStatus 15 true)
def ps4 : State := (State.reset.setRegBit rRstCtl 0 false)
def ps8 : State := (q 0)
def ps9 : State := (q 128)
def ps10 : State := { State.reset with coh := { State.reset.coh with waitq := [.coherence 0 { blankFrame with fpa := 64 }] } }
def ps12 : State := (State.reset.setReady 1 true)
abbrev free : State → Nat → Prop := fun s d => s.rst.cur = none ∧ s.rst.queue = [] ∧ s.fenced d = false ∧ s.rst.held.getLsbD d = false
theorem hyps_ResetRequests :
    (∃ (s : State), s.recovery = false ∧ s.outOfService = false ∧ free s 0) ∧
    (∃ (s : State), s.recovery = false ∧ free s 1) ∧
    (∃ (s : State), s.recovery = false ∧ free s 2) ∧
    (∃ (s : State), s.outOfService = true ∧ s.recovery = false) ∧
    (∃ (s : State), s.recovery = false ∧ s.rst.held = 0) ∧
    (∃ (c : ResetCause) (s : State), c ≠ .hostWrite ∧ c ≠ .thermalHold ∧ s.regBit rRstCtl 0 = false ∧ s.behindGateway = false) ∧
    (∃ (p : Fin 12) (s : State), s.queuedFor (128 + p.val) = true) ∧
    (∃ (p : Fin 12) (s : State), s.queuedFor (128 + p.val) = false) ∧
    (∃ (c : Fin 64) (s : State), s.queuedAt c.val = true) ∧
    (∃ (c : Fin 64) (s : State), s.queuedAt c.val = false) ∧
    (∃ (d : Nat) (s : State), s.regBit rRstCtl 0 = true ∧ s.rst.cur = none ∧ s.rst.queue = [] ∧ s.fenced d = false ∧ s.rst.held.getLsbD d = false ∧ s.withheld d 3 = false ∧ (d = 0 → s.outOfService = false)) ∧
    (∃ (p : Fin 128) (s : State), s.portUp p.val = true ∧ s.queuedFor p.val = true) ∧
    (∃ (p : Fin 128) (s : State), (s.portUp p.val = false ∨ s.queuedFor p.val = false)) ∧
    (∃ (s : State), s.ready 1 = true ∧ s.behindGateway = false) ∧
    (∃ (s : State), s.ready 1 = false) :=
  ⟨⟨ps0, by decide +kernel⟩,
   ⟨ps0, by decide +kernel⟩,
   ⟨ps0, by decide +kernel⟩,
   ⟨ps2, by decide +kernel⟩,
   ⟨ps0, by decide +kernel⟩,
   ⟨.overrunLimit, ps4, by decide +kernel⟩,
   ⟨0, ps9, by decide +kernel⟩,
   ⟨0, ps0, by decide +kernel⟩,
   ⟨0, ps10, by decide +kernel⟩,
   ⟨0, ps0, by decide +kernel⟩,
   ⟨0, ps0, by decide +kernel⟩,
   ⟨0, ps8, by decide +kernel⟩,
   ⟨0, ps0, by decide +kernel⟩,
   ⟨ps12, by decide +kernel⟩,
   ⟨ps0, by decide +kernel⟩⟩
end Sys2Proof.Tests.ResetRequests

namespace Sys2Proof.Tests.FencesAndResets
def fen (d : Nat) : State := let s := State.reset.setDomain d true false; { s with rst := { s.rst with cur := some (d, 0) } }
def inr (d : Nat) : State := let s := State.reset.setDomain d false true; { s with rst := { s.rst with cur := some (d, 0) } }
def vq (s : State) : State := { s with fab := { s.fab with voq := [{ id := 0, f := blankFrame, inp := 128, out := 0, vc := 1, cells := 1, sent := 0, place := .shared, stamp := 0, since := 0 }] }, coh := { s.coh with waitq := [.coherence 0 { blankFrame with fpa := 64 }] }, omu := { s.omu with queue := [{ v := { requester := 0, cohort := 0, name := 0, fp8 := false, int8Out := false, elems := Vector.replicate 128 0, desk := none, dest := 0, src := 0 }, owner := .frame blankFrame, timed := false }] } }
def trained (s : State) : State := (List.range 64).foldl (fun s c => s.setRegBit (chReg c 0) 0 true) s
def ps0 : State := State.reset
def ps2 : State := (fen 0)
def ps3 : State := (fen 1)
def ps5 : State := (vq (fen 0))
def ps8 : State := (inr 0)
def ps9 : State := (inr 1)
def ps11 : State := (trained (inr 2))
def ps12 : State := ((inr 0).setRegBit rRstStatus 14 true)
def ps13 : State := (((inr 0).setRegBit rRstStatus 14 true).setRegBit rRstStatus 15 true)
abbrev serving : State → Nat → Prop := fun s d => s.fencing d = true ∧ (s.rst.cur.map Prod.fst) = some d
theorem hyps_FencesAndResets :
    (∃ (d : Domain) (s : State), s.fencing (domainCode d) = false) ∧
    (∃ (d : Domain) (s : State), (d = .switchLinks ∨ d = .memory) ∧ serving s (domainCode d) ∧ s.drained (domainCode d) = true) ∧
    (∃ (s : State), serving s 0 ∧ s.drained 0 = true) ∧
    (∃ (d : Domain) (s : State), d ≠ .module ∧ serving s (domainCode d) ∧ s.drained (domainCode d) = false) ∧
    (∃ (d : Domain) (s : State), (d = .switchLinks ∨ d = .memory) ∧ serving s (domainCode d)) ∧
    (∃ (s : State), serving s 0) ∧
    (∃ (d : Domain) (s : State), s.inReset (domainCode d) = false) ∧
    (∃ (s : State), (s.thermalHeld = true ∨ s.outOfService = true)) ∧
    (∃ (s : State), s.memoryReady = false) ∧
    (∃ (s : State), s.inReset 0 = true ∧ s.thermalHeld = false ∧ s.outOfService = false ∧ s.rst.queue = []) ∧
    (∃ (s : State), s.inReset 1 = true ∧ s.rst.queue = []) ∧
    (∃ (s : State), s.inReset 2 = true ∧ s.memoryReady = true ∧ s.rst.queue = []) ∧
    (∃ (s : State), (s.thermalHeld = false ∨ s.inReset 0 = false)) ∧
    (∃ (s : State), s.thermalHeld = true ∧ s.inReset 0 = true ∧ s.outOfService = false ∧ s.rst.queue = []) ∧
    (∃ (s : State), s.thermalHeld = true ∧ s.inReset 0 = true ∧ s.outOfService = true) :=
  ⟨⟨.compute, ps0, by decide +kernel⟩,
   ⟨.switchLinks, ps3, by decide +kernel⟩,
   ⟨ps2, by decide +kernel⟩,
   ⟨.compute, ps5, by decide +kernel⟩,
   ⟨.switchLinks, ps3, by decide +kernel⟩,
   ⟨ps2, by decide +kernel⟩,
   ⟨.compute, ps0, by decide +kernel⟩,
   ⟨ps12, by decide +kernel⟩,
   ⟨ps0, by decide +kernel⟩,
   ⟨ps8, by decide +kernel⟩,
   ⟨ps9, by decide +kernel⟩,
   ⟨ps11, by decide +kernel⟩,
   ⟨ps0, by decide +kernel⟩,
   ⟨ps12, by decide +kernel⟩,
   ⟨ps13, by decide +kernel⟩⟩
end Sys2Proof.Tests.FencesAndResets

namespace Sys2Proof.Tests.TemperatureAndPower
def ps0 : State := State.reset
def ps3 : State := (State.reset.setRegBit rExtStatus 2 true)
def ps4 : State := (State.reset.setReady 1 true)
theorem hyps_TemperatureAndPower :
    (∃ (j : JunctionTemps) (s : State), junctionMax j < 100 ∧ junctionMax j + 5 ≤ s.regF rTherm 0 8 ∧ s.bell.hot = false ∧ s.ownCode = s.bell.own ∧ s.omu.queue = []) ∧
    (∃ (s : State), (∀ n : Fin 128, s.ready (readyPort n.val) = false) ∧ (∀ p : OptPort, s.optState p.val ≠ 7)) ∧
    (∃ (s : State), s.regBit rExtStatus 2 = true) ∧
    (∃ (s : State), s.regBit rExtStatus 2 = false ∧ s.behindGateway = false) ∧
    (∃ (s : State), s.ready 1 = false) ∧
    (∃ (w : BitVec 16) (s : State), s.ready 1 = true ∧ s.behindGateway = false ∧ s.regF rPcap 0 11 < w.toNat) ∧
    (∃ (w : BitVec 16) (s : State), s.ready 1 = true ∧ w.toNat ≤ s.regF rPcap 0 11) :=
  ⟨⟨⟨60, Vector.replicate 4 61, Vector.replicate 4 62, Vector.replicate 8 63, Vector.replicate 16 86⟩, ps0, by decide +kernel⟩,
   ⟨ps0, by decide +kernel⟩,
   ⟨ps3, by decide +kernel⟩,
   ⟨ps0, by decide +kernel⟩,
   ⟨ps0, by decide +kernel⟩,
   ⟨65535, ps4, by decide +kernel⟩,
   ⟨0, ps4, by decide +kernel⟩⟩
end Sys2Proof.Tests.TemperatureAndPower

namespace Sys2Proof.Tests.PrincipalMailbox
def q0 : State := { (State.reset.setReady 1 true) with prin := { State.reset.prin with svn := some 3 } }
def args (s : State) (a b c : Word) : State := ((s.setReg rPrinArg a).setReg (rPrinArg + 8) b).setReg (rPrinArg + 16) c
def trained (s : State) : State := (List.range 64).foldl (fun s c => (s.setRegBit (chReg c 0) 0 true).setReady (readyCh c) true) s
def ps0 : State := State.reset
def ps2 : State := (args q0 3 0 0)
def ps3 : State := (args q0 4 0 0)
def ps4 : State := (args q0 1 8 0)
def ps5 : State := ((args q0 1 8 1).setReg rPrinBuf 0x1122334455667788)
def ps6 : State := (args q0 0 128 0)
def ps7 : State := (args (trained q0) 0 128 0)
def ps11 : State := (State.reset.setRegBit rPrinStatus 0 true)
abbrev quiet : State → Prop := fun s => s.recovery = false ∧ s.ready 1 = true ∧ s.regBit rPrinStatus 0 = false ∧ s.behindGateway = false ∧ s.gb.waits = [] ∧ ∀ p : OptPort, (s.opt p.val).recalWait = false
theorem hyps_PrincipalMailbox :
    (∃ (s : State), quiet s ∧ (s.arg 0).toNat ≤ s.svn.toNat) ∧
    (∃ (s : State), quiet s ∧ s.svn.toNat < (s.arg 0).toNat) ∧
    (∃ (s : State), quiet s) ∧
    (∃ (s : State), quiet s ∧ ((s.arg 1).toNat = 0 ∨ 32768 < (s.arg 1).toNat)) ∧
    (∃ (s : State), quiet s ∧ 1 ≤ (s.arg 1).toNat ∧ (s.arg 1).toNat ≤ 32768 ∧ (s.arg 2).getLsbD 0 = false) ∧
    (∃ (s : State), quiet s ∧ 1 ≤ (s.arg 1).toNat ∧ (s.arg 1).toNat ≤ 32768 ∧ (s.arg 2).getLsbD 0 = true) ∧
    (∃ (s : State), quiet s) ∧
    (∃ (s : State), quiet s ∧ (s.arg 0).toNat % 64 ≠ 0) ∧
    (∃ (s : State), quiet s ∧ (s.arg 0).toNat % 64 = 0 ∧ s.poolServed = true) ∧
    (∃ (s : State), quiet s) ∧
    (∃ (s : State), quiet s ∧ ((s.arg 0).toNat % 64 ≠ 0 ∨ (s.arg 1).toNat < 128)) ∧
    (∃ (s : State), (s.arg 0).toNat % 64 = 0 ∧ 128 ≤ (s.arg 1).toNat ∧ s.generalRange (s.arg 0).toNat (s.arg 1).toNat = true ∧ s.poolServed = false) ∧
    (∃ (s : State), quiet s) ∧
    (∃ (s : State), s.ready 1 = true ∧ s.regBit rPrinStatus 0 = false) ∧
    (∃ (s : State), (s.ready 1 = false ∨ s.regBit rPrinStatus 0 = true)) ∧
    (∃ (p : Fin 4) (s : State), ((s.strict = false ∧ s.planOf p ≠ none) ∨ s.regBit rPrinStatus 0 = true ∨ s.omu.recalAt = some s.lesson)) ∧
    (∃ (p : Fin 4) (s : State), (s.strict = true ∨ s.planOf p = none) ∧ s.regBit rPrinStatus 0 = false ∧ s.omu.recalAt ≠ some s.lesson) :=
  ⟨⟨ps2, by decide +kernel⟩,
   ⟨ps3, by decide +kernel⟩,
   ⟨ps2, by decide +kernel⟩,
   ⟨ps2, by decide +kernel⟩,
   ⟨ps4, by decide +kernel⟩,
   ⟨ps5, by decide +kernel⟩,
   ⟨ps2, by decide +kernel⟩,
   ⟨ps2, by decide +kernel⟩,
   ⟨ps7, by decide +kernel⟩,
   ⟨ps2, by decide +kernel⟩,
   ⟨ps2, by decide +kernel⟩,
   ⟨ps6, by decide +kernel⟩,
   ⟨ps2, by decide +kernel⟩,
   ⟨ps2, by decide +kernel⟩,
   ⟨ps0, by decide +kernel⟩,
   ⟨0, ps11, by decide +kernel⟩,
   ⟨0, ps0, by decide +kernel⟩⟩
end Sys2Proof.Tests.PrincipalMailbox

namespace Sys2Proof.Tests.ShortBodies
def ps0 : State := State.reset
theorem hyps_ShortBodies : ∃ (s : State), s.recovery = false :=
  ⟨ps0, by decide +kernel⟩
end Sys2Proof.Tests.ShortBodies

namespace Sys2Proof.Tests.ReservePorts
def ps0 : State := State.reset
def ps14 : State := (State.reset.forAll [1,2,3,4,5,6,7,8] (fun s p => s.setElecBit p ecReserve true))
abbrev reserves : State → Nat := fun s => ((List.range 64).filter (fun q => s.elecBit q ecReserve)).length
theorem hyps_ReservePorts :
    (∃ (p : Fin 64) (s : State), s.recovery = false ∧ s.elecBit p.val ecReserve = false ∧ 8 ≤ reserves s) ∧
    (∃ (p : Fin 64) (s : State), s.recovery = false ∧ s.elecBit p.val ecReserve = false ∧ reserves s < 8) ∧
    (∃ (p : Fin 64) (s : State), s.recovery = false ∧ s.elecBit p.val ecReserve = false ∧ s.elecBit p.val ecDeep = false) :=
  ⟨⟨0, ps14, by decide +kernel⟩,
   ⟨0, ps0, by decide +kernel⟩,
   ⟨0, ps0, by decide +kernel⟩⟩
end Sys2Proof.Tests.ReservePorts

namespace Sys2Proof.Tests.WindowTimeout
def ps0 : State := State.reset
theorem hyps_WindowTimeout : ∃ (s : State), s.recovery = false :=
  ⟨ps0, by decide +kernel⟩
end Sys2Proof.Tests.WindowTimeout

namespace Sys2Proof.Tests.StepRunsFront
def ps0 : State := State.reset
theorem hyps_StepRunsFront :
    (∃ (s : State), s.pending = []) ∧
    (∃ (s : State), s.pending = [] ∧ (∀ e ∈ s.desks, (s.desk e.1).left = [] ∧ ∀ x ∈ (s.desk e.1).seats.toList, x.acc = [])) :=
  ⟨⟨ps0, by decide +kernel⟩,
   ⟨ps0, by decide +kernel⟩⟩
end Sys2Proof.Tests.StepRunsFront

namespace Sys2Proof.Tests.RegisterWrites
def ps0 : State := State.reset
def ps1 : State := (State.reset.setRegBit rRstStatus 13 true)
theorem hyps_RegisterWrites :
    (∃ (a : BitVec 26) (d : List Byte), writeWords a.toNat d = none) ∧
    (∃ (a : BitVec 26) (s : State), s.bar0Open a.toNat = false) ∧
    (∃ (a : BitVec 26) (d : List Byte) (s : State), d.length = 8 ∧ a.toNat % 8 = 0 ∧ s.bar0Open a.toNat = true ∧ s.reservedWrite a.toNat (BitVec.ofNat 64 (leNat d)) allBits = false) ∧
    (∃ (a : BitVec 26) (d : List Byte) (s : State), d.length = 8 ∧ a.toNat % 8 = 0 ∧ s.bar0Open a.toNat = true ∧ s.reservedWrite a.toNat (BitVec.ofNat 64 (leNat d)) allBits = true) ∧
    (∃ (a : BitVec 26) (d : List Byte), (d.length % 4 ≠ 0 ∨ 64 < d.length ∨ a.toNat % 4 ≠ 0)) ∧
    (∃ (a : BitVec 18) (d : List Byte), (d.length ≠ 8 ∨ a.toNat % 8 ≠ 0)) ∧
    (∃ (a : BitVec 18) (d : List Byte), d.length = 8 ∧ a.toNat % 8 = 0) :=
  ⟨⟨0x20010, [1,2,3], by decide +kernel⟩,
   ⟨0x20010, ps1, by decide +kernel⟩,
   ⟨0x20010, [0,0,0,0,0,0,0,0], ps0, by decide +kernel⟩,
   ⟨0x20010, [3,0,0,0,0,0,0,0], ps0, by decide +kernel⟩,
   ⟨0x20010, [1,2,3], by decide +kernel⟩,
   ⟨0, [1,2,3,4], by decide +kernel⟩,
   ⟨0, [3,0,0,0,0,0,0,0], by decide +kernel⟩⟩
end Sys2Proof.Tests.RegisterWrites

end
end

section
/-! Writes of the Bell's registers: what a value that leaves a short body does (R32). -/

namespace Sys2Proof.Machine

section
variable (s : State)

/-! ### Writes outside the recovery state, and their checks -/

/-- Outside the recovery state a BAR0 write has its register's meaning (R543). -/
theorem State.bar0_eq_of_not_recovery (k : State → State) (h : s.recovery = false) : s.bar0 k = k s := by
  simp [State.bar0, h]
/-- A value that fails its register's check is not written: only the report is made. -/
theorem State.writeIf_false (a : Nat) (v : Word) (report : State → State) : s.writeIf a v false report = report s := rfl

theorem bodyFits_eq_false {n g : Nat} (h : 33 * n < 512 + g + 1024) : bodyFits n g = false :=
  decide_eq_false (Nat.not_le_of_lt h)

theorem exec_bellLessonLenWrite (v : BitVec 64) :
    exec (.bellLessonLenWrite v) s = .next (s.bar0 (fun s => s.writeLessonLen v)) := rfl
theorem exec_bellGuardWrite (v : BitVec 64) :
    exec (.bellGuardWrite v) s = .next (s.bar0 (fun s => s.writeGuard v)) := rfl

/-! ### The error bit of the Bell's registers -/

theorem State.regBit_bellCfgErr : s.bellCfgErr.regBit rBellStatus 1 = true :=
  s.regBit_setRegBit rBellStatus 1 true (by decide)
theorem State.reg_bellCfgErr_ne (b : Nat) (h : b ≠ rBellStatus) : s.bellCfgErr.reg b = s.reg b :=
  s.reg_setRegBit_ne rBellStatus 1 true b h
theorem State.onlyRegs_bellCfgErr : OnlyRegs s s.bellCfgErr [rBellStatus] :=
  s.onlyRegs_setRegBit rBellStatus 1 true

/-! ### Short bodies -/

/-- Whatever its range and the lead, a Lesson length that leaves a short body is only reported. -/
theorem State.writeLessonLen_eq_of_short (v : Word) (h : 33 * fget v 0 17 < 512 + s.regF rGuard 0 17 + 1024) :
    s.writeLessonLen v = s.bellCfgErr := by
  rw [State.writeLessonLen, bodyFits_eq_false h, Bool.and_false, Bool.false_and, State.writeIf_false]
/-- Whatever its range and its multiple, a guard that leaves a short body is only reported. -/
theorem State.writeGuard_eq_of_short (v : Word) (h : 33 * s.regF rLessonLen 0 17 < 512 + fget v 0 17 + 1024) :
    s.writeGuard v = s.bellCfgErr := by
  rw [State.writeGuard, bodyFits_eq_false h, Bool.and_false, State.writeIf_false]

/-- A command that only reports an error of the Bell's registers leaves N and G as they were. -/
theorem does_of_exec_eq_bellCfgErr {c : Instr} (h : exec c s = .next s.bellCfgErr) :
    Does c s (fun t => t.reg rLessonLen = s.reg rLessonLen ∧ t.reg rGuard = s.reg rGuard ∧ t.regBit rBellStatus 1 = true ∧
      OnlyRegs s t [rBellStatus]) :=
  ⟨s.bellCfgErr, h, s.reg_bellCfgErr_ne rLessonLen (by decide), s.reg_bellCfgErr_ne rGuard (by decide),
    s.regBit_bellCfgErr, s.onlyRegs_bellCfgErr⟩

end

/-- Settles O52: where the body would be short, each of the two writes does no more than report. -/
theorem shortBodies : Obligations.ShortBodies := by
  intro v s hrec
  constructor
  · intro hshort
    apply does_of_exec_eq_bellCfgErr
    rw [exec_bellLessonLenWrite, s.bar0_eq_of_not_recovery _ hrec, s.writeLessonLen_eq_of_short v hshort]
  · intro hshort
    apply does_of_exec_eq_bellCfgErr
    rw [exec_bellGuardWrite, s.bar0_eq_of_not_recovery _ hrec, s.writeGuard_eq_of_short v hshort]

end Sys2Proof.Machine
end

section
/-! Writes of the switch's retransmission timers: what a value that leaves WIN_TIMEOUT too short does (R198). -/

namespace Sys2Proof.Machine

/-- Two changes within the same registers are one change within them. -/
theorem OnlyRegs.trans {s t u : State} {l : List Nat} (hst : OnlyRegs s t l) (htu : OnlyRegs t u l) : OnlyRegs s u l := by
  obtain ⟨hs, hsreg⟩ := hst
  obtain ⟨ht, htreg⟩ := htu
  constructor
  · calc { u with regs := s.regs }
      _ = { ({ u with regs := t.regs } : State) with regs := s.regs } := rfl
      _ = { t with regs := s.regs } := by rw [ht]
      _ = s := hs
  · exact fun a ha => (htreg a ha).trans (hsreg a ha)

section
variable (s : State)

theorem exec_swcWinTimeoutWrite (v : BitVec 64) :
    exec (.swcWinTimeoutWrite v) s = .next (s.bar0 (fun s => s.writeWinTimeout v)) := rfl
theorem exec_swcRtxWrite (v : BitVec 64) :
    exec (.swcRtxWrite v) s = .next (s.bar0 (fun s => s.writeRtx v)) := rfl

/-! ### The error bits of the timers' registers -/

theorem State.regBit_rtErr : s.rtErr.regBit rRtStatus 3 = true :=
  s.regBit_setRegBit rRtStatus 3 true (by decide)
theorem State.regBit_rtErr_cfgRange : s.rtErr.cfgRange.regBit rRtStatus 3 = true :=
  (s.rtErr.regBit_setRegBit_ne rCfgStatus 15 true rRtStatus 3 (by decide)).trans s.regBit_rtErr
theorem State.onlyRegs_rtErr : OnlyRegs s s.rtErr [rRtStatus, rCfgStatus] :=
  s.onlyRegs_setReg rRtStatus _ _ (by simp)
theorem State.onlyRegs_cfgRange : OnlyRegs s s.cfgRange [rRtStatus, rCfgStatus] :=
  s.onlyRegs_setReg rCfgStatus _ _ (by simp)

/-! ### Writes that do not fit -/

/-- A timer that does not fit is only reported: in RT_STATUS, and in CFG_STATUS too where it is also out of range. -/
theorem State.writeTimer_false (a : Nat) (v : Word) (ranged : Bool) :
    s.writeTimer a v ranged false = if ranged then s.rtErr else s.rtErr.cfgRange := by
  simp [State.writeTimer]
theorem State.regBit_writeTimer_false (a : Nat) (v : Word) (ranged : Bool) :
    (s.writeTimer a v ranged false).regBit rRtStatus 3 = true := by
  rw [s.writeTimer_false]
  cases ranged with
  | true => exact s.regBit_rtErr
  | false => exact s.regBit_rtErr_cfgRange
theorem State.onlyRegs_writeTimer_false (a : Nat) (v : Word) (ranged : Bool) :
    OnlyRegs s (s.writeTimer a v ranged false) [rRtStatus, rCfgStatus] := by
  rw [s.writeTimer_false]
  cases ranged with
  | true => exact s.onlyRegs_rtErr
  | false => exact s.onlyRegs_rtErr.trans s.rtErr.onlyRegs_cfgRange

theorem State.writeWinTimeout_eq_of_short (v : Word) (h : fget v 0 14 < (s.regF rRtx 32 3 + 1) * s.regF rRtx 0 10) :
    s.writeWinTimeout v = s.writeTimer rWinTimeout v (inRange 10 10000 (fget v 0 14)) false := by
  rw [State.writeWinTimeout, decide_eq_false (Nat.not_le_of_lt h)]
theorem State.writeRtx_eq_of_short (v : Word) (h : s.regF rWinTimeout 0 14 < (fget v 32 3 + 1) * fget v 0 10) :
    s.writeRtx v = s.writeTimer rRtx v (inRange 1 1000 (fget v 0 10)) false := by
  rw [State.writeRtx, decide_eq_false (Nat.not_le_of_lt h)]

/-- A command that writes a timer that does not fit leaves the timer as it was and sets RT_STATUS.CFG_ERR. -/
theorem does_of_exec_eq_writeTimer_false {c : Instr} {a : Nat} {v : Word} {ranged : Bool}
    (h : exec c s = .next (s.writeTimer a v ranged false)) (ha : a ∉ [rRtStatus, rCfgStatus]) :
    Does c s (fun t => t.reg a = s.reg a ∧ t.regBit rRtStatus 3 = true ∧ OnlyRegs s t [rRtStatus, rCfgStatus]) := by
  obtain ⟨hrest, hreg⟩ := s.onlyRegs_writeTimer_false a v ranged
  exact ⟨_, h, hreg a ha, s.regBit_writeTimer_false a v ranged, hrest, hreg⟩

end

/-- Settles O54: each of the two writes fails the same check, and a timer that fails it is only reported. -/
theorem windowTimeout : Obligations.WindowTimeout := by
  intro v s hrec
  constructor
  · intro hshort
    apply does_of_exec_eq_writeTimer_false (a := rWinTimeout) (ha := by decide)
    rw [exec_swcWinTimeoutWrite, s.bar0_eq_of_not_recovery _ hrec, s.writeWinTimeout_eq_of_short v hshort]
  · intro hshort
    apply does_of_exec_eq_writeTimer_false (a := rRtx) (ha := by decide)
    rw [exec_swcRtxWrite, s.bar0_eq_of_not_recovery _ hrec, s.writeRtx_eq_of_short v hshort]

end Sys2Proof.Machine
end

section
/-! The root's verdict on a line in error: a verdict line that starts within a memory line (R110, R335, R343). -/

namespace Sys2Proof.Machine

/-- A collective of its root alone whose 64-byte verdict line starts at offset 32, within memory line 0: R335 asks alignment of
REGION only. -/
def straddlingColl : CollCtx :=
  { desc := { id := 1, kind := 0, type := 0, members := 1, index := 0, root := 0, group := 0, launch := 0, close := 1, finish := 1,
              region := 256, lines := 0, init := false, watch := [], vote := 128, verdict := 32, vtick := 0 },
    base := 0, st := .reserved, status := 0, cause := 0, how := 0, slots := 0, vote := 1, noticed := false, decided := false,
    recorded := false, held := true }

/-- The root of `straddlingColl` with its vote, OK, on the vote line, while memory line 0 is in error. -/
def straddlingState : State :=
  { State.reset with
    coll := { State.reset.coll with ctx := [(0, some straddlingColl)] }
    mem := [(128, 1)]
    g7m := { State.reset.g7m with bad := [(0, true)] } }

/-- What the root makes of `straddlingState`: it has decided, and has stored GO. -/
def straddlingDecided : State :=
  (straddlingState.putColl 0 (some { straddlingColl with decided := true })).poke 32 (verdictLine 1 1 0 0)

/-- The root finds this reservation undecided. -/
theorem found_straddlingColl :
    straddlingState.colls.find? (fun e => e.2.desc.id = 1 && e.2.st = .reserved && e.2.desc.index = 0 && !e.2.decided)
      = some (0, straddlingColl) := by decide +kernel
theorem peek_straddlingColl_vote : straddlingState.peek straddlingColl.desc.vote straddlingColl.desc.members = [1] := by
  decide +kernel

theorem exec_verdictDecision_straddling : exec (.verdictDecision 1) straddlingState = .next straddlingDecided := by
  change execVerdictDecision 1 straddlingState = _
  rw [execVerdictDecision, found_straddlingColl]
  simp only [peek_straddlingColl_vote]
  rfl

/-- The store covers line 0 in part, so it writes nothing there (R110): the first byte of the collective's ID is still 0. -/
theorem byte_straddlingDecided : straddlingDecided.byte 32 = 0 := by decide +kernel

/-- Refutes O26, in its third part: where the verdict line starts within a memory line that is in error, the root's store leaves
that line as it was (R110), so the verdict line does not hold the GO. The part has no hypothesis that the offset is a multiple of
64, nor does the model's check of a descriptor ask it. -/
theorem not_verdicts : ¬ Obligations.Verdicts := by
  rintro ⟨-, -, writesGo, -⟩
  have votes : ∀ b ∈ straddlingState.peek straddlingColl.desc.vote straddlingColl.desc.members, b = 1 := by
    rw [peek_straddlingColl_vote]
    exact fun _ => List.eq_of_mem_singleton
  obtain ⟨t, hexec, -, hline, -⟩ :=
    writesGo 1 0 straddlingColl straddlingState found_straddlingColl (by decide) rfl votes
  obtain rfl : straddlingDecided = t := Host.Outcome.next.inj (exec_verdictDecision_straddling.symm.trans hexec)
  have written : straddlingDecided.byte 32 = 1 := List.head_eq_of_cons_eq hline
  exact absurd (byte_straddlingDecided.symm.trans written) (by decide)

end Sys2Proof.Machine
end

section
/-! Reserve ports: how many ports RESERVE may name, and which of them may enter deep sleep (R488, R489). -/

namespace Sys2Proof.Machine

section
variable (s : State) (p : Nat)

theorem exec_elecCtlReserveWrite (p : Fin 64) (on : Bool) :
    exec (.elecCtlReserveWrite p on) s = .next (s.bar0 (fun s => s.reserveWrite p.val on)) := rfl
theorem exec_elecCtlDeepEnter (p : Fin 64) :
    exec (.elecCtlDeepEnter p) s = .next (s.bar0 (fun s => s.deepEnter p.val)) := rfl

/-! ### ELEC_CTL and ELEC_STATUS of the ports -/

theorem linkReg_lCtl_ne_lStatus (p q : Nat) : linkReg q lCtl ≠ linkReg p lStatus := by
  simp only [linkReg, lCtl, lStatus]; omega
theorem linkReg_ne_of_port_ne {p q : Nat} (off : Nat) (h : q ≠ p) : linkReg q off ≠ linkReg p off := by
  simp only [linkReg]; omega

theorem State.elecBit_setElecBit (i : Nat) (b : Bool) (h : i < 64) : (s.setElecBit p i b).elecBit p i = b :=
  s.regBit_setRegBit _ i b h
theorem State.elecBit_setElecBit_ne (i : Nat) (b : Bool) {q : Nat} (j : Nat) (h : q ≠ p) :
    (s.setElecBit p i b).elecBit q j = s.elecBit q j :=
  s.regBit_setRegBit_ne _ i b _ j (linkReg_ne_of_port_ne lCtl h)

theorem State.elecFlag_elecErr : (s.elecErr p).elecFlag p 15 = true :=
  s.regBit_setRegBit _ 15 true (by decide)
theorem State.elecBit_elecErr (q j : Nat) : (s.elecErr p).elecBit q j = s.elecBit q j :=
  s.regBit_setRegBit_ne _ 15 true _ j (linkReg_lCtl_ne_lStatus p q)
theorem State.elecState_elecErr : (s.elecErr p).elecState p = s.elecState p :=
  s.regF_setRegF_below _ 15 1 1 0 4 (by decide) (by decide)
theorem State.onlyRegs_elecErr : OnlyRegs s (s.elecErr p) [linkReg p lStatus] :=
  s.onlyRegs_setRegBit _ 15 true

/-! ### The reserve ports -/

/-- The electrical ports whose RESERVE is 1. -/
def State.reservePorts : Finset Nat := (Finset.range 64).filter (fun q => s.elecBit q ecReserve)

theorem State.length_reserves : ((List.range 64).filter (fun q => s.elecBit q ecReserve)).length = s.reservePorts.card := by
  simp [State.reservePorts, Finset.card, Finset.filter, Finset.range, Multiset.range]

theorem State.mem_reservePorts {q : Nat} : q ∈ s.reservePorts ↔ q < 64 ∧ s.elecBit q ecReserve = true := by
  simp [State.reservePorts]

theorem State.reservePorts_elecErr : (s.elecErr p).reservePorts = s.reservePorts := by
  simp only [State.reservePorts, s.elecBit_elecErr]

theorem State.reservePorts_setElecBit (h : p < 64) :
    (s.setElecBit p ecReserve true).reservePorts = insert p s.reservePorts := by
  ext q
  rw [Finset.mem_insert, State.mem_reservePorts, State.mem_reservePorts]
  by_cases hq : q = p
  · subst hq
    simp [h, s.elecBit_setElecBit q ecReserve true (by decide)]
  · simp [hq, s.elecBit_setElecBit_ne p ecReserve true ecReserve hq]

/-! ### Writes of RESERVE and DEEP -/

/-- Where a port is no reserve port, the ports that count against its RESERVE are all the reserve ports. -/
theorem State.reserveWrite_eq_of_not_reserve (on : Bool) (h : s.elecBit p ecReserve = false) :
    s.reserveWrite p on = if on ∧ 8 ≤ s.reservePorts.card then s.elecErr p else s.setElecBit p ecReserve on := by
  have others : (List.range 64).filter (fun q => q ≠ p && s.elecBit q ecReserve)
      = (List.range 64).filter (fun q => s.elecBit q ecReserve) := by
    refine List.filter_congr fun q _ => ?_
    by_cases hq : q = p
    · simp [hq, h]
    · simp [hq]
  rw [State.reserveWrite, others, s.length_reserves]

/-- Where a port is no reserve port, a write of DEEP is only reported (and one free value is drawn). -/
theorem State.deepEnter_eq_of_not_reserve (hdeep : s.elecBit p ecDeep = false) (hres : s.elecBit p ecReserve = false) :
    s.deepEnter p = (s.elecErr p).draw.2 := by
  simp [State.deepEnter, hdeep, hres]

end

/-- Settles O53: RESERVE is refused exactly where eight other ports are reserve ports, and otherwise adds its port to them; DEEP of
a port outside them is refused. -/
theorem reservePorts : Obligations.ReservePorts := by
  simp only [Obligations.ReservePorts, State.length_reserves]
  refine ⟨fun p s hrec hres hfull => ?_, fun p s hrec hres hroom => ?_, fun p s hrec hres hdeep => ?_⟩
  · refine ⟨s.elecErr p, ?_, by rw [s.reservePorts_elecErr], s.elecFlag_elecErr p, s.onlyRegs_elecErr p⟩
    rw [exec_elecCtlReserveWrite, s.bar0_eq_of_not_recovery _ hrec, s.reserveWrite_eq_of_not_reserve p true hres,
      if_pos ⟨rfl, hfull⟩]
  · refine ⟨s.setElecBit p ecReserve true, ?_, ?_, s.elecBit_setElecBit p ecReserve true (by decide)⟩
    · rw [exec_elecCtlReserveWrite, s.bar0_eq_of_not_recovery _ hrec, s.reserveWrite_eq_of_not_reserve p true hres,
        if_neg fun h => absurd h.2 (Nat.not_le_of_lt hroom)]
    · have fresh : p.val ∉ s.reservePorts := by simp [s.mem_reservePorts, hres]
      rw [s.reservePorts_setElecBit p p.isLt, Finset.card_insert_of_notMem fresh]
  · refine ⟨(s.elecErr p).draw.2, ?_, (s.elecBit_elecErr p p ecDeep).trans hdeep, s.elecState_elecErr p⟩
    rw [exec_elecCtlDeepEnter, s.bar0_eq_of_not_recovery _ hrec, s.deepEnter_eq_of_not_reserve p hdeep hres]

end Sys2Proof.Machine
end

section
/-! SUPPORT. What each command keeps: the case split over the rows, from the laws of the operations that the rows call. -/

namespace Sys2Proof.Machine

/-- The outcome is a next state, and it keeps what no operation undoes. -/
def NextKeeps (s : State) (o : Host.Outcome State Fault Refusal) : Prop := ∃ t, o = .next t ∧ Keeps s t

theorem NextKeeps.next {s t : State} (h : Keeps s t) : NextKeeps s (.next t) := ⟨t, rfl, h⟩

/-! ### Rows whose effect branches on what a lookup finds -/

theorem execBell_nextKeeps (s : State) : NextKeeps s (execBell s) := by
  unfold execBell
  refine .next ?_
  split
  · exact .refl s
  · split
    · exact State.limitReset_keeps (State.ring_keeps (.refl s) ..)
    · exact State.bellWithheld_keeps (.refl s)

theorem execPrismSettled_nextKeeps (p : Fin 4) (s : State) : NextKeeps s (execPrismSettled p s) := by
  unfold execPrismSettled
  refine .next ?_
  split
  · exact State.prismHold_keeps (State.setPrism_keeps (.refl s) ..) ..
  · exact .refl s

theorem execElectionEnd_nextKeeps (s : State) : NextKeeps s (execElectionEnd s) := by
  unfold execElectionEnd
  refine .next ?_
  split
  · exact .refl s
  · split
    · exact State.setRegBit_keeps (State.setRegBit_keeps (State.setRegBit_keeps (.refl s) ..) ..) ..
    · exact State.sendRequest_keeps (.lit (State.setRegBit_keeps (State.setRegF_keeps (State.setRegBit_keeps
        (State.setRegBit_keeps (.refl s) ..) ..) ..) ..) rfl)

theorem execMstContextFreed_nextKeeps (s : State) : NextKeeps s (execMstContextFreed s) := by
  unfold execMstContextFreed
  refine .next ?_
  split
  · exact .refl s
  · exact .ite (State.mstGo_keeps (.lit (.refl s) rfl) ..) (.refl s)

theorem execResponse_nextKeeps (eng : Engine) (f : Frame) (s : State) : NextKeeps s (execResponse eng f s) := by
  unfold execResponse
  refine .next ?_
  split
  · exact State.settle_keeps (State.moduleResponse_keeps (.refl s) ..) ..
  · exact State.depResponse_keeps (.refl s) ..

theorem execFrameArrival_nextKeeps (p : Fin 140) (f : Frame) (s : State) : NextKeeps s (execFrameArrival p f s) := by
  unfold execFrameArrival
  split
  · exact .next (.ite (State.emit_keeps (State.returnCredit_keeps (State.bellIngress_eq_keeps (.refl s) rfl) ..) ..)
      (State.returnCredit_keeps (State.bellIngress_eq_keeps (.refl s) rfl) ..))
  · exact .next (State.arrive_keeps (.refl s) ..)

theorem execSync_nextKeeps (eng : Engine) (f : Frame) (s : State) : NextKeeps s (execSync eng f s) := by
  unfold execSync
  refine .next ?_
  split
  · exact State.sendRouted_keeps (.lit (.refl s) rfl) ..
  · split
    · exact State.launch_keeps (.lit (.refl s) rfl) ..
    · exact .lit (.refl s) rfl

theorem execOverflowWrite_nextKeeps (id : Nat) (s : State) : NextKeeps s (execOverflowWrite id s) := by
  unfold execOverflowWrite
  split
  · split
    · exact .next (State.enter_keeps (State.returnCredit_keeps (State.count_keeps (.lit (.refl s) rfl) ..) ..))
    · exact .next (.refl s)
  · exact .next (.refl s)

theorem execOverflowReadback_nextKeeps (id : Nat) (s : State) : NextKeeps s (execOverflowReadback id s) := by
  unfold execOverflowReadback
  split
  · split
    · exact .next (.lit (.refl s) rfl)
    · exact .next (.refl s)
  · exact .next (.refl s)

theorem execAccessCompletion_nextKeeps (d : DeskId) (seat : Fin 4) (id : Nat) (_status : BitVec 5) (_data : List Byte)
    (s : State) : NextKeeps s (execAccessCompletion d seat id _status _data s) := by
  unfold execAccessCompletion
  refine .next ?_
  split
  · exact .refl s
  · split
    · exact .refl s
    · exact State.homesGo_keeps (State.pumpSeat_keeps (State.complete_keeps (.refl s) ..) ..)

theorem execLongTallyAccept_nextKeeps (w : Fin 4) (c : Fin 300) (s : State) : NextKeeps s (execLongTallyAccept w c s) := by
  unfold execLongTallyAccept
  refine .next ?_
  split
  · exact .refl s
  · split
    · exact State.setRoom_keeps (.refl s) ..
    · exact State.setSeat_keeps (State.setRoom_keeps (.refl s) ..) ..

theorem execLongTallyComplete_nextKeeps (w : Fin 4) (c : Fin 300) (upset : Int) (s : State) : NextKeeps s
    (execLongTallyComplete w c upset s) := by
  unfold execLongTallyComplete
  refine .next ?_
  split
  · exact .refl s
  · exact State.ltPerform_keeps (State.setRoom_keeps (.refl s) ..) ..

theorem execFenceRelDrained_nextKeeps (d : DeskId) (seat : Fin 4) (s : State) : NextKeeps s (execFenceRelDrained d seat s) := by
  unfold execFenceRelDrained
  refine .next ?_
  split
  · exact .ite (State.setSeat_keeps (.refl s) ..) (.refl s)
  · exact .ite (.refl s) (.ite (State.startLoose_keeps (.refl s) ..) (.ite (State.goLate_keeps (.refl s) ..)
      (State.settleSeat_keeps (State.setAccess_keeps (.refl s) ..) ..)))
  · exact .refl s

theorem execVerdictDecision_nextKeeps (id : BitVec 32) (s : State) : NextKeeps s (execVerdictDecision id s) := by
  unfold execVerdictDecision
  refine .next ?_
  split
  · exact .refl s
  · exact State.poke_keeps (State.putColl_keeps (.refl s) ..) ..

theorem execPrismResult_nextKeeps (p : Fin 4) (s : State) : NextKeeps s (execPrismResult p s) := by
  unfold execPrismResult
  refine .next ?_
  split
  · exact .refl s
  · exact .ite (State.forAll_keeps (State.addReg_keeps (State.setPrism_keeps (.refl s) ..) ..)
      (fun _ _ h => State.vecDone_keeps h ..)) (State.forAll_keeps (State.setPrism_keeps (.refl s) ..) (fun _ _ h =>
        (State.vecDone_keeps (State.addReg_keeps (State.prismCompute_eq_keeps h rfl) ..) ..)))

theorem execRingSweepDone_nextKeeps (p : OptPort) (k : Fin 16) (rx : Bool) (found : Option Int) (s : State) : NextKeeps s
    (execRingSweepDone p k rx found s) := by
  unfold execRingSweepDone
  refine .next ?_
  split
  · exact .refl s
  · split
    · exact State.ringPhase_keeps (State.setWave_keeps (State.setRingSt_keeps (.refl s) ..) ..) ..
    · exact State.exclude_keeps (.refl s) ..

theorem execWdBeat_nextKeeps (p : Fin 64) (data : List Byte) (s : State) : NextKeeps s (execWdBeat p data s) := by
  unfold execWdBeat
  refine .next ?_
  split
  · exact State.settleDep_keeps (State.setReq_keeps (.refl s) ..) ..
  · exact .refl s

theorem execReservedSlot_nextKeeps (site : SlotSite) (s : State) : NextKeeps s (execReservedSlot site s) := by
  unfold execReservedSlot
  refine .next ?_
  split
  · exact State.reservedOutput_keeps (.refl s) ..
  · exact State.beginHolds_keeps (.refl s) ..
  · exact .refl s
  · exact State.prismSlot_keeps (.refl s) ..

theorem execChTrd_nextKeeps (i : ChalkOp) (s : State) : NextKeeps s (execChTrd i s) := by
  refine .next (State.issue_keeps (.refl s) (fun t _ h => ?_) ..)
  dsimp only
  split
  · exact State.collDesk_keeps (State.putMe_keeps h ..) ..
  · exact State.putMe_keeps (.ite (State.setDesk_keeps h ..) h) ..

theorem execChOmv_nextKeeps (i : ChalkOp) (s : State) : NextKeeps s (execChOmv i s) := by
  refine .next (State.issue_keeps (.refl s) (fun t _ h => ?_) ..)
  dsimp only
  refine .ite (State.refuse_keeps h ..) (State.giveWay_keeps (.ite (State.omvLoose_keeps h ..) ?_) ..)
  split
  · exact State.refuse_keeps h ..
  · exact State.omvLoose_keeps (State.useLane_keeps h ..) ..
  · exact State.settleSeat_keeps (State.newAccess_eq_keeps (State.useLane_keeps h ..) rfl) ..

theorem execPrismRecalibration_nextKeeps (p : Fin 4) (s : State) : NextKeeps s (execPrismRecalibration p s) := by
  refine .next (.ite (.refl s) ?_)
  refine State.setRegBit_keeps (State.setRegF_keeps (.ite (State.setReady_keeps ?_ ..) ?_) ..) ..
  all_goals exact State.setRegBit_keeps (State.setRegBit_keeps (State.setRegBit_keeps
    (.lit (State.draw_snd_keeps (State.setPrism_keeps (.refl s) ..)) rfl) ..) ..) ..

theorem cohortWrite_keeps {a s : State} (h : Keeps a s) (c : Nat) (part : CohortPart) (v : BitVec 128) : Keeps a (match part with
    | .seed => (s.setReg (cohortAt c) (v.setWidth 64)).setReg (cohortAt c + 8) ((v >>> 64).setWidth 64)
    | .state => s.writeCohortState c (v.toNat % 2 ^ 16)) := by
  cases part with
  | seed => exact State.setReg_keeps (State.setReg_keeps h ..) ..
  | state => exact State.writeCohortState_keeps h ..


/-! ### All rows -/

/-- Every row but the two that reach a register by its address answers a next state that keeps what no operation undoes. -/
theorem exec_nextKeeps (c : Instr) (s : State) (hw : ∀ a d, c ≠ .registerWrite a d) (hs : ∀ r, c ≠ .stRequest r) :
    NextKeeps s (exec c s) := by
  have r := Keeps.refl s
  cases c with
  | registerWrite a d => exact absurd rfl (hw a d)
  | stRequest q => exact absurd rfl (hs q)
  | bell => exact execBell_nextKeeps ..
  | rollCallCheck => exact .next (.ite (.lit (State.rollCheck_keeps r) rfl) r)
  | rollCallActivate => exact .next (.ite (.lit (State.rollActivate_keeps r) rfl) r)
  | rollCallSwap => exact .next (.ite (.lit (State.partSwapLesson_keeps (State.routeSwap_keeps r)) rfl) r)
  | rollCallGap =>
    exact .next (.ite (.lit (State.forAll_keeps (State.opticalGap_keeps (State.prismGap_keeps r)) (fun _ _ h =>
      State.auditStart_keeps h ..)) rfl) r)
  | prismSettled => exact execPrismSettled_nextKeeps ..
  | bodyStart | leadErr | bellInEdge | stretchHoldExpiry => exact .next (.ite (.lit r rfl) r)
  | closingGuard =>
    exact .next (.ite (State.forAll_keeps (State.forAll_keeps (.lit r rfl) (fun _ _ h => State.auditEnd_keeps h ..)) (fun _ _ h
      => State.elecWake_keeps h ..)) r)
  | bellFrameSend =>
    exact .next (.ite r (State.bellOut_keeps (.ite (State.raise_keeps (.lit (.lit r rfl) rfl) ..) (.lit r rfl)) ..))
  | bellFrame => exact .next (.ite (State.treeErr_keeps r) (State.takeBell_keeps r ..))
  | bellMissed => exact .next (.ite r (State.missBell_keeps r))
  | masterLost => exact .next (.ite (State.startElection_keeps (.lit r rfl)) r)
  | candidacy =>
    exact .next (.ite (State.treeErr_keeps r) (.ite (State.candidacyOut_keeps (.lit (.ite r (State.startElection_keeps (.lit r
      rfl))) rfl) ..) (.ite r (State.startElection_keeps (.lit r rfl)))))
  | electionEnd => exact execElectionEnd_nextKeeps ..
  | bellInEdgeMissing => exact .next (.ite (State.missBell_keeps r) r)
  | stretch => exact .next (.ite (State.recordRequest_keeps r ..) r)
  | pwrAlertN | coolantAlertN => exact .next (State.alertPin_keeps r ..)
  | bellLessonLenWrite => exact .next (State.bar0_keeps r (fun _ h => State.writeLessonLen_keeps h ..))
  | bellGuardWrite => exact .next (State.bar0_keeps r (fun _ h => State.writeGuard_keeps h ..))
  | bellLeadWrite => exact .next (State.bar0_keeps r (fun _ h => State.writeLead_keeps h ..))
  | ttPost => exact .next (State.bar0_keeps r (fun _ h => State.postPage_keeps h ..))
  | bellCtlPartWrite => exact .next (State.bar0_keeps r (fun _ h => State.writeBellPart_keeps h ..))
  | timetableLoaded => exact .next (State.loaded_keeps r ..)
  | strictWrite => exact .next (State.bar0_keeps r (fun _ h => (.lit h rfl)))
  | ldRequest | redRequest | faddRequest | minRequest | maxRequest | swap32Request | swap64Request | cas64Request |
    cas128Request | and32Request | and64Request | or32Request | or64Request | xor32Request | xor64Request |
    reservedOpcodeRequest =>
    exact .next (State.familyRequest_keeps r ..)
  | mstRequest => exact .next (.ite (State.multicast_keeps r ..) r)
  | mstContextFreed => exact execMstContextFreed_nextKeeps ..
  | response => exact execResponse_nextKeeps ..
  | rds | rdx | upg => exact .next (State.cohChecked_keeps r (fun _ h => State.cohRequest_keeps h ..) ..)
  | putm | puto | putc => exact .next (State.cohChecked_keeps r (fun _ h => State.cohPut_keeps h ..) ..)
  | snps | snpi | snpd => exact .next (State.settleDep_keeps (State.takeSnoop_keeps r ..) ..)
  | flush => exact .next (State.takeFlush_keeps r ..)
  | snoopResponse => exact .next (State.settleStreams_keeps (State.runMirrors_keeps (State.snoopAnswered_keeps r ..)))
  | grant | retryResponse | putAck => exact .next (State.cohResponse_keeps r ..)
  | retryBackoffExpiry => exact .next (State.settleDep_keeps (State.resendLine_keeps r ..) ..)
  | reservationExpiry => exact .next (State.addReg_keeps (.lit r rfl) ..)
  | homeLineStable => exact .next (.ite r (State.settleStreams_keeps (State.homeGoes_keeps r)))
  | transientWayFreed => exact .next (.ite (State.settleDep_keeps r ..) r)
  | cohMembersWrite => exact .next (State.bar0_keeps r (fun _ h => State.writeMembers_keeps h ..))
  | flushResponse =>
    exact .next (State.leaveDone_keeps (.lit (.ite (State.forAll_keeps r (fun _ _ h => State.setDir_keeps h ..)) r) rfl) ..)
  | cohLineRelease => exact .next (State.bar0_keeps r (fun _ h => State.lineRelease_keeps h ..))
  | cohPortRelease => exact .next (State.bar0_keeps r (fun _ h => State.portRelease_keeps h ..))
  | frameArrival => exact execFrameArrival_nextKeeps ..
  | dep7FrameAccept => exact .next (State.depAccept_keeps r ..)
  | creditReturn => exact .next (State.setCredit_keeps r ..)
  | sync => exact execSync_nextKeeps ..
  | syncResponse => exact .next (State.settle_keeps (State.syncAnswer_keeps r ..) ..)
  | rtxTimeout => exact .next (State.settle_keeps (State.rtxExpired_keeps r ..) ..)
  | winTimeout => exact .next (State.settle_keeps (State.winExpired_keeps r ..) ..)
  | agedNotice => exact .next (State.settle_keeps (State.agedNotice_keeps r ..) ..)
  | windowRoom => exact .next (State.settle_keeps (State.pump_keeps r ..) ..)
  | replyHoldExpiry | ephemeralKeyExpiry => exact .next (.lit r rfl)
  | swcRtStageWrite => exact .next (State.bar0_keeps r (fun _ h => (State.writeStage_keeps (State.writeStage_keeps h ..) ..)))
  | swcRtSwapWrite | omuCtlWrite => exact .next (State.bar0_keeps r (fun _ h => State.writePlain_keeps h ..))
  | swcRtHoldWrite => exact .next (State.bar0_keeps r (fun _ h => State.writeHold_keeps h ..))
  | swcRtxWrite => exact .next (State.bar0_keeps r (fun _ h => State.writeRtx_keeps h ..))
  | swcWinTimeoutWrite => exact .next (State.bar0_keeps r (fun _ h => State.writeWinTimeout_keeps h ..))
  | portDown => exact .next (State.signalLost_keeps r ..)
  | overflowWrite => exact execOverflowWrite_nextKeeps ..
  | overflowReadback => exact execOverflowReadback_nextKeeps ..
  | wredAvgUpdate => exact .next (State.forAll_keeps r (fun _ _ h => State.wredMove_keeps h ..))
  | ageTick => exact .next (State.countWrap_keeps r ..)
  | outputGrant => exact .next (State.opportunity_keeps r ..)
  | bufMinWrite => exact .next (State.bar0_keeps r (fun _ h => State.writeBufMin_keeps h ..))
  | creditAdvWrite => exact .next (State.bar0_keeps r (fun _ h => State.writeCreditAdv_keeps h ..))
  | vcCfgWrite => exact .next (State.bar0_keeps r (fun _ h => State.writeVcCfg_keeps h ..))
  | swcOvfOnWrite => exact .next (State.bar0_keeps r (fun _ h => State.writeOvfOn_keeps h ..))
  | swcOvfRegionWrite => exact .next (State.bar0_keeps r (fun _ h => State.writeOvfRegion_keeps h ..))
  | wredSetWrite => exact .next (State.bar0_keeps r (fun _ h => State.writeWred_keeps h ..))
  | swcArbWrite => exact .next (State.bar0_keeps r (fun _ h => State.writeSwcArb_keeps h ..))
  | swcAgeLimitWrite => exact .next (State.bar0_keeps r (fun _ h => State.writeAgeLimit_keeps h ..))
  | swcMarkerWrite => exact .next (State.bar0_keeps r (fun _ h => State.writeMarker_keeps h ..))
  | swcMcGroupWrite => exact .next (State.bar0_keeps r (fun _ h => State.writeMcGroup_keeps h ..))
  | colMcOwnerWrite => exact .next (State.bar0_keeps r (fun _ h => State.writeMcOwner_keeps h ..))
  | accessCompletion d seat id status data => exact execAccessCompletion_nextKeeps d seat id status data s
  | fetchBlockDelivery => exact .next (State.setSeat_keeps r ..)
  | longTallyAccept => exact execLongTallyAccept_nextKeeps ..
  | longTallyComplete => exact execLongTallyComplete_nextKeeps ..
  | routerStall => exact .next (State.requestReset_keeps (State.classFault_keeps r ..) ..)
  | timetabledDeparture =>
    exact .next (.ite r (State.homesGo_keeps (State.forAll_keeps r (fun _ _ h => State.departAccess_keeps h ..))))
  | fenceRelDrained => exact execFenceRelDrained_nextKeeps ..
  | illegalInstruction => exact .next (.ite r (State.issue_keeps r (fun _ _ h => h) ..))
  | chNop | chBr | chLoop | chBrs | chJr | chMtsr | chPlog | chCmp | chVcvt | chVfsum | chFence | chCvtp =>
    exact .next (State.issueSeat_keeps r ..)
  | chEnd =>
    exact .next (State.issue_keeps r (fun _ _ h => (State.switchSeat_keeps (State.setDesk_keeps (State.putMe_keeps h ..) ..)
      ..)) ..)
  | chYield => exact .next (State.issue_keeps r (fun _ _ h => State.switchSeat_keeps h ..) ..)
  | chMfsr | chSld => exact .next (State.issue_keeps r (fun _ _ h => State.putMe_keeps h ..) ..)
  | chRcv => exact .next (State.issue_keeps r (fun _ _ h => (.ite (State.rcvTake_keeps h ..) (State.putMe_keeps h ..))) ..)
  | chAdd | chSub | chMul | chMulh | chAnd | chOr | chXor | chShl | chShr | chMin | chMax | chSel | chMovi | chMovhi | chAddi |
    chVsgn | chVext =>
    exact .next (State.issueS_keeps r ..)
  | chVadd | chVsub | chVmul | chVshl | chVshr | chVmin | chVmax | chVcmp | chVpopc | chVfmin | chVfmax | chVfcmp =>
    exact .next (State.issueLanes_keeps r ..)
  | chVand | chVor | chVxor | chVsel | chVperm | chVmov | chVbcast | chVins => exact .next (State.issueV_keeps r ..)
  | chVfma | chVfadd | chVfsub | chVfmul => exact .next (State.issueFma_keeps r ..)
  | chFtr => exact .next (State.issue_keeps r (fun _ _ h => (.litDraw (State.putMe_keeps h ..) rfl)) ..)
  | chRng =>
    exact .next (State.issue_keeps r (fun _ _ h => (.ite (.ite (State.putMe_keeps h ..) (State.putMe_keeps (State.draw_snd_keeps
      h) ..)) (State.putMe_keeps h ..))) ..)
  | chTadd | chTclr | chTlda => exact .next (State.issueTally_keeps r ..)
  | chTrd => exact execChTrd_nextKeeps ..
  | chTst => exact .next (State.issue_keeps r (fun _ _ h => State.setBytes_keeps h ..) ..)
  | chLtadd | chLtrd | chLtclr => exact .next (State.issueLt_keeps r ..)
  | chSst =>
    exact .next (State.issue_keeps r (fun _ _ h => (.ite (State.putMe_keeps h ..) (State.putMe_keeps (State.setBytes_keeps h ..)
      ..))) ..)
  | chBbld | chBbst => exact .next (State.board_keeps r ..)
  | chFld | chFst | chFat | chRed | chMst | chAcq | chRel => exact .next (State.fabric_keeps r ..)
  | chOmv => exact execChOmv_nextKeeps ..
  | verdictDecision => exact execVerdictDecision_nextKeeps ..
  | walkTableRead => exact .next (State.walkRead_keeps r ..)
  | walkComplete => exact .next (State.walkEnd_keeps r ..)
  | transferStart => exact .next (State.startXfer_keeps (State.endsGo_keeps r ..) ..)
  | tileTranslated => exact .next (State.sendTile_keeps (State.beginTile_keeps (State.seek_keeps r ..) ..) ..)
  | tileComplete => exact .next (State.tileDone_keeps (State.endsGo_keeps (State.sendTile_keeps r ..) ..) ..)
  | transferPark => exact .next (State.parkXfer_keeps r ..)
  | fltTailWrite => exact .next (State.bar0_keeps r (fun _ h => (State.loaderAgain_keeps (State.writeFltTail_keeps h ..))))
  | fltResumeRetry | fltResumeAbort => exact .next (State.bar0_keeps r (fun _ h => State.fltResume_keeps h ..))
  | xltPfdWrite => exact .next (State.bar0_keeps r (fun _ h => (.ite (State.setReg_keeps h ..) (State.setRegBit_keeps h ..))))
  | invFvaRange | invCohortAll | invIaRange | invPartitionAll | invWalkCaches =>
    exact .next (State.bar0_keeps r (fun _ h => State.startInval_keeps h ..))
  | inval => exact .next (State.takeInval_keeps r ..)
  | invalDrained => exact .next (State.invalDone_keeps r ..)
  | invalAck => exact .next (State.ackTicket_keeps r ..)
  | invTimeout => exact .next (State.ticketTimeout_keeps r ..)
  | channelRefresh => exact .next (State.refresh_keeps r ..)
  | bankHoldEnd => exact .next (State.settleStreams_keeps (State.runWaiting_keeps (State.endHold_keeps r ..)))
  | patrolRead => exact .next (State.patrolRead_keeps r ..)
  | channelTrainingComplete => exact .next (State.trained_keeps r ..)
  | g7mTtRegionWrite => exact .next (State.bar0_keeps r (fun _ h => State.writeTtRegion_keeps h ..))
  | g7mArbWrite => exact .next (State.bar0_keeps r (fun _ h => State.writeG7mArb_keeps h ..))
  | g7mScrubWrite => exact .next (State.bar0_keeps r (fun _ h => State.writeScrubPeriod_keeps h ..))
  | matrixDecompositionDone => exact .next (State.decomposed_keeps r ..)
  | omuMtxInvalWrite => exact .next (State.bar0_keeps r (fun _ h => State.dropImage_keeps h ..))
  | vectorFrame => exact .next (State.offer_keeps r ..)
  | prismFrameGrant => exact .next (State.prismOpportunity_keeps r ..)
  | prismResult => exact execPrismResult_nextKeeps ..
  | prismLockLoopUpdate =>
    exact .next (.ite r (.ite (State.setPrism_keeps r ..) (.ite (State.setPrism_keeps r ..) (State.omuUnlock_keeps
      (State.setRegBit_keeps (State.count_keeps (State.setPrism_keeps r ..) ..) ..)))))
  | prismRelocked => exact .next (.ite (State.setRegBit_keeps (State.setPrism_keeps r ..) ..) r)
  | prismRelockTimeout =>
    exact .next (.ite (State.dropUnserved_keeps (State.setReady_keeps (State.setRegBit_keeps (State.prismHold_keeps
      (State.setPrism_keeps r ..) ..) ..) ..)) r)
  | prismRecalibration => exact execPrismRecalibration_nextKeeps ..
  | calGraceExpiry => exact .next (.ite r (State.omuUnlock_keeps (State.setRegBit_keeps r ..)))
  | opticalLinkStart => exact .next (State.optStart_keeps r ..)
  | ringTableSettled => exact .next (.ite (State.ringPhase_keeps (State.setRingSt_keeps r ..) ..) r)
  | ringPeakFound =>
    exact .next (.ite r (.ite (State.ringLock_keeps r ..) (State.ringPhase_keeps (State.setRingSt_keeps r ..) ..)))
  | ringAcquireTimeout => exact .next (.ite (State.ringReturn_keeps r ..) r)
  | ringVerifyDone => exact .next (.ite r (.ite (State.ringLock_keeps r ..) (State.ringReturn_keeps r ..)))
  | ringDitherUpdate => exact .next (.ite r (.ite (State.ringReturn_keeps r ..) (State.setWave_keeps r ..)))
  | ringIdentityRead => exact .next (.ite r (State.ringReturn_keeps r ..))
  | ringSweepDone => exact execRingSweepDone_nextKeeps ..
  | marginTestEnd => exact .next (State.marginEnd_keeps r ..)
  | spareRetestEnd => exact .next (State.retestEnd_keeps r ..)
  | resultsExchangeEnd => exact .next (State.exchangeEnd_keeps r ..)
  | linkDelayMeasured => exact .next (.ite (State.delayMeasured_keeps r ..) r)
  | opticalPortUp => exact .next (State.optUp_keeps r ..)
  | opticalLinkStartFail => exact .next (State.optFail_keeps r ..)
  | linkRestartWaitExpiry => exact .next (State.waitOver_keeps r ..)
  | laserMpdSample => exact .next (State.mpdSample_keeps r ..)
  | fomMarginEstimate => exact .next (State.fomEstimate_keeps r ..)
  | spareWarmed => exact .next (State.spareWarm_keeps r ..)
  | spareWarmTimeout => exact .next (State.spareLost_keeps r ..)
  | swapAnnounceAck | joinAnnounceAck => exact .next (.ite (State.setWave_keeps r ..) r)
  | laserDriverFault => exact .next (.ite (State.laserFails_keeps r ..) r)
  | activeSetChange => exact .next (State.leaveSet_keeps r ..)
  | optCtlEnableWrite => exact .next (State.bar0_keeps r (fun _ h => State.optEnable_keeps h ..))
  | optCtlRestart => exact .next (State.bar0_keeps r (fun _ h => State.optStart_keeps h ..))
  | optCtlMeliumWrite | bifurcateWrite => exact .next (State.bar0_keeps r (fun _ h => State.setRegBit_keeps h ..))
  | optCtlRecal => exact .next (State.bar0_keeps r (fun _ h => State.recalWrite_keeps h ..))
  | recalComplete => exact .next (State.recalEnd_keeps r ..)
  | electricalLinkStart =>
    exact .next (.ite (.ite (State.setEpBit_keeps (State.setEpState_keeps (State.depLinkDown_keeps r ..) ..) ..) r)
      (State.elecStart_keeps r ..))
  | elecFomCheck => exact .next (State.fomCheck_keeps r ..)
  | elecLinkStartFail => exact .next (State.elecFail_keeps r ..)
  | elecPortUp => exact .next (State.elecUp_keeps r ..)
  | laneFomUpdate => exact .next (State.fomUpdate_keeps r ..)
  | elecCtlTestWrite => exact .next (State.bar0_keeps r (fun _ h => State.testWrite_keeps h ..))
  | elecCtlLoopWrite => exact .next (State.bar0_keeps r (fun _ h => (State.applyLoop_keeps (State.setRegF_keeps h ..) ..)))
  | farEndLoopAck | auditAck => exact .next (.ite (State.setElec_keeps r ..) r)
  | farEndLoopTimeout => exact .next (.ite (State.setRegF_keeps (State.elecErr_keeps (State.setElec_keeps r ..) ..) ..) r)
  | prbsInjOne => exact .next (State.bar0_keeps r (fun _ h => (.ite (State.emit_keeps h ..) h)))
  | prbsChkClear =>
    exact .next (State.bar0_keeps r (fun _ h => (State.setReg_keeps (State.setReg_keeps (State.countBits_keeps h ..) ..) ..)))
  | auditWrite => exact .next (State.bar0_keeps r (fun _ h => State.auditWrite_keeps h ..))
  | sleepIdleExpiry => exact .next (.ite (State.depSleep_keeps r ..) (State.sleepIdle_keeps r ..))
  | sleepWake => exact .next (.ite (State.elecWake_keeps r ..) r)
  | sleepWakeComplete => exact .next (State.wakeDone_keeps r ..)
  | sleepWord => exact .next (.ite (State.setEpBit_keeps r ..) (State.setEpBit_keeps (State.setElecFlag_keeps r ..) ..))
  | elecCtlDeepEnter => exact .next (State.bar0_keeps r (fun _ h => State.deepEnter_keeps h ..))
  | elecCtlDeepExit => exact .next (State.bar0_keeps r (fun _ h => State.deepExit_keeps h ..))
  | elecCtlEnableWrite => exact .next (State.bar0_keeps r (fun _ h => State.elecEnable_keeps h ..))
  | elecCtlRestart => exact .next (State.bar0_keeps r (fun _ h => State.elecStart_keeps h ..))
  | elecCtlReserveWrite => exact .next (State.bar0_keeps r (fun _ h => State.reserveWrite_keeps h ..))
  | bar2Read | bar2Write => exact .next (State.bar2_keeps r ..)
  | bar4StagingWrite => exact .next (State.stagingWrite_keeps r ..)
  | perstN | lossOfPower => exact .next (State.moduleReset_keeps r ..)
  | hostHotReset => exact .next (State.linkReset_keeps r)
  | functionLevelReset => exact .next (.ite (State.linkReset_keeps r) (State.deadReads_keeps (State.resetCfg_keeps r ..) ..))
  | hostLinkDown => exact .next (State.hostDown_keeps r ..)
  | hostLinkUp => exact .next (State.hostUp_keeps r ..)
  | relaySlotPerform => exact .next (State.relay_keeps r ..)
  | epRstN => exact .next (State.depReset_keeps r ..)
  | epCtlEnableWrite => exact .next (State.epEnable_keeps r ..)
  | epRtWrite => exact .next (State.writeEpRt_keeps r ..)
  | epNodeWrite => exact .next (State.writeEpNode_keeps r ..)
  | rqLd | rqSt | rqMst | rqRed | rqFadd | rqMin | rqMax | rqSwap | rqCas | rqAnd | rqOr | rqXor | rqFence | rqTld | rqTst |
    rqTred =>
    exact .next (State.rqBeat_keeps r ..)
  | wdBeat => exact execWdBeat_nextKeeps ..
  | isResponse => exact .next (State.isAnswer_keeps r ..)
  | inTimeoutExpiry => exact .next (State.inExpired_keeps r ..)
  | strictLinkWord => exact .next (State.strictWord_keeps r ..)
  | epLinkDown => exact .next (State.setEpState_keeps (State.depLinkDown_keeps r ..) ..)
  | glbPortPartStageWrite => exact .next (State.bar0_keeps r (fun _ h => (State.partSwapFree_keeps (State.setTabF_keeps h ..))))
  | glbPartSwapWrite => exact .next (State.bar0_keeps r (fun _ h => (State.partSwapFree_keeps (State.writePlain_keeps h ..))))
  | glbPortScrub => exact .next (State.bar0_keeps r (fun _ h => State.writeScrub_keeps h ..))
  | portScrubDone => exact .next (State.scrubDone_keeps r ..)
  | glbCohortWrite => exact .next (State.bar0_keeps r (fun _ h => cohortWrite_keeps h ..))
  | glbNodeWrite => exact .next (State.bar0_keeps r (fun _ h => State.writeNode_keeps h ..))
  | secAttest => exact .next (State.viaPrincipal_keeps r (fun _ h => State.secAttest_keeps h ..) ..)
  | attestationReportReady => exact .next (State.reportReady_keeps r)
  | secImportGo => exact .next (State.viaPrincipal_keeps r (fun _ h => State.secImport_keeps h) ..)
  | secLockerClear => exact .next (State.viaPrincipal_keeps r (fun _ h => State.clearSlot_keeps h ..) ..)
  | secSealCreate => exact .next (State.viaPrincipal_keeps r (fun _ h => State.sealCreate_keeps h ..) ..)
  | sealZeroingDone => exact .next (State.sealZeroed_keeps r ..)
  | secTeardown => exact .next (State.viaPrincipal_keeps r (fun _ h => State.teardown_keeps h ..) ..)
  | teardownComplete => exact .next (.ite r (State.teardownDone_keeps r ..))
  | bootStageVerified => exact .next (State.bootStage_keeps r ..)
  | powerOn => exact .next (.ite (State.startUp_keeps r ..) r)
  | wingSelfTestDone => exact .next (.ite r (State.setReady_keeps (State.zero_keeps (State.zero_keeps r ..) ..) ..))
  | railFault => exact .next (State.railFault_keeps r ..)
  | resetCompute | resetSwitchLinks | resetMemory => exact .next (State.resetRow_keeps r ..)
  | fenceDrained | drainTimeoutExpiry => exact .next (State.endFence_keeps r ..)
  | resetComplete => exact .next (State.completeReset_keeps r ..)
  | portWatchdog => exact .next (.ite (State.restartPort_keeps r ..) r)
  | internalPortWatchdog | homeWatchdog => exact .next (.ite (State.requestReset_keeps r ..) r)
  | principalWatchdog =>
    refine .next (.ite (State.logEvent_keeps (State.setReady_keeps ?_ ..) ..) r)
    exact .lit r rfl
  | junctionSensorRead => exact .next (State.readJunctions_keeps r ..)
  | thermalHoldRelease => exact .next (State.releaseHold_keeps r)
  | thermtrip => exact .next (State.trip_keeps r)
  | heartbeat => exact .next (State.setRegBit_keeps r ..)
  | heartbeatLost => exact .next (.ite r (State.raise_keeps (State.logEvent_keeps (State.setRegBit_keeps r ..) ..) ..))
  | pcapWindow => exact .next (State.powerWindow_keeps r ..)
  | calCommitTimer => exact .next (.ite (State.commit_eq_keeps r rfl) r)
  | gbExport | gbImport | gbCommit | fwChunk | fwPrefer | svnRaise | prinCmdUnknown => exact .next (State.mail_keeps r ..)
  | reservedSlot => exact execReservedSlot_nextKeeps ..
  | flitReplay => exact .next (.ite (State.count_keeps r ..) r)
  | prbsCheckerLock => exact .next (.ite (State.setElec_keeps (State.setRegBit_keeps r ..) ..) r)
  | prbsCheckerLockLost => exact .next (State.unlock_keeps r ..)
  | epRtHoldWrite => exact .next (State.writeEpHold_keeps r ..)
  | epRtxWrite => exact .next (State.writeEpRtx_keeps r ..)
  | epWinTimeoutWrite => exact .next (State.writeEpWinTimeout_keeps r ..)
  | swapAnnouncement | joinAnnouncement => exact .next (.ite (State.emit_keeps (State.setWave_keeps r ..) ..) r)
  | testRequest => exact .next (State.depTest_keeps r ..)
  | loopRequest => exact .next (State.emit_keeps (State.setDep_keeps r ..) ..)
  | auditRequest => exact .next (.ite r (State.emit_keeps r ..))
  | prismPowerOnLock => exact .next (.ite r (State.setReady_keeps (State.setRegBit_keeps r ..) ..))

/-! ### The two rows that reach a register by its address -/

theorem State.writeAll_keeps {a : State} (from_ : Nat) (l : List (Nat × Word × Word)) {s t : State} (h : Keeps a s)
    (e : s.writeAll from_ l = .next t) : Keeps a t := by
  induction l generalizing s with
  | nil =>
    cases e
    exact h
  | cons x r ih =>
    rw [State.writeAll] at e
    split at e
    · cases e
    · exact ih (State.writeReg_keeps h ..) e

theorem State.bar0Write_keeps {s t : State} (from_ a : Nat) (d : List Byte) (e : s.bar0Write from_ a d = .next t) : Keeps s t :=
    by
  have unsupported {t : State} (e : Host.Outcome.next (s.emit (.aer .unsupported)) =
    (.next t : Host.Outcome State Fault Refusal)) :
      Keeps s t := by
    cases e
    exact State.emit_keeps (.refl s) _
  rw [State.bar0Write] at e
  split at e
  · split at e
    · exact State.writeAll_keeps _ _ (.refl s) e
    · exact unsupported e
  · exact unsupported e

theorem execRegisterWrite_keeps {s t : State} (addr : RegAddr) (d : List Byte) (e : execRegisterWrite addr d s = .next t) : Keeps
    s t := by
  cases addr with
  | bar0 a => exact State.bar0Write_keeps _ _ _ e
  | cf p a =>
    cases e
    exact .ite (State.writeEp_keeps (.refl s) ..) (.refl s)

theorem execStRequest_keeps {s t : State} (r : Req) (e : execStRequest r s = .next t) : Keeps s t := by
  rw [execStRequest] at e
  split at e
  · cases e
  · cases e
    exact State.familyRequest_keeps (.refl s) ..

/-- Whatever next state a command answers, it keeps what no operation undoes. -/
theorem exec_keeps {c : Instr} {s t : State} (e : exec c s = .next t) : Keeps s t := by
  by_cases hw : ∀ a d, c ≠ .registerWrite a d
  · by_cases hs : ∀ r, c ≠ .stRequest r
    · obtain ⟨u, hu, hk⟩ := exec_nextKeeps c s hw hs
      cases hu.symm.trans e
      exact hk
    · push Not at hs
      obtain ⟨r, rfl⟩ := hs
      exact execStRequest_keeps r e
  · push Not at hw
    obtain ⟨a, d, rfl⟩ := hw
    exact execRegisterWrite_keeps a d e

/-! ### A tick of the idle block -/

/-- A tick keeps all but the time, which moves on by one. -/
theorem State.idle_keeps (s : State) : Keeps { s with now := s.now + 1 } s.idle :=
  State.forAll_keeps (.refl _) fun _ _ h => State.tickDesk_keeps h _

/-- What every step keeps of the memories and of the fused security version. -/
theorem step_keeps {s t : State} (e : step s = .next t) :
    (Memory.wf s.mem = true → Memory.wf t.mem = true) ∧ (Memory.wf s.hostMem = true → Memory.wf t.hostMem = true) ∧
      s.svn.toNat ≤ t.svn.toNat := by
  rw [step] at e
  split at e
  · cases e
    exact ⟨s.idle_keeps.mem, s.idle_keeps.host, s.idle_keeps.svn⟩
  · exact ⟨(exec_keeps e).mem, (exec_keeps e).host, (exec_keeps e).svn⟩

/-- Settles O58: every step keeps both memories canonical. -/
theorem memoryStaysCanonical : Obligations.MemoryStaysCanonical := by
  intro s t hs e
  obtain ⟨hmem, hhost, -⟩ := step_keeps e
  obtain ⟨hm, hh⟩ := Bool.and_eq_true_iff.mp hs
  exact Bool.and_eq_true_iff.mpr ⟨hmem hm, hhost hh⟩

/-- An image that a state takes is not older than the state's fused version. -/
theorem State.svn_le_of_imageOk {s : State} {im : List Byte} (h : s.imageOk im = true) : s.svn.toNat ≤
    (Config.imageSvn im).toNat := by
  simpa using (Bool.and_eq_true_iff.mp h).2

/-- Settles O59: no step lowers the fused version, and what it refused stays refused. -/
theorem securityVersionNeverFalls : Obligations.SecurityVersionNeverFalls := by
  intro s t e
  obtain ⟨-, -, hsvn⟩ := step_keeps e
  refine ⟨hsvn, fun im => Bool.eq_false_iff.mpr fun h => ?_⟩
  obtain ⟨hok, hlow⟩ := Bool.and_eq_true_iff.mp h
  exact absurd (of_decide_eq_true hlow) (Nat.not_lt.mpr (hsvn.trans (State.svn_le_of_imageOk hok)))

/-- Settles O60: the queue, the time, the outputs and the draws of what a command answers. -/
theorem outputsOnlyGrow : Obligations.OutputsOnlyGrow := by
  intro c s t e
  obtain ⟨hq, hn, -, -, -, ⟨l, hl⟩, hd⟩ := exec_keeps e
  exact ⟨⟨l, hl.symm⟩, hq, hn, hd⟩

end Sys2Proof.Machine
end

section
/-! SUPPORT. The step, the state after reset, and writes of a DEP-7's registers. -/

namespace Sys2Proof.Machine

/-- An operation that leaves the state alone for every element of a list leaves it alone altogether. -/
theorem State.forAll_eq_self {α : Type} {s : State} {l : List α} {op : State → α → State} (h : ∀ x ∈ l, op s x = s) :
    s.forAll l op = s := by
  induction l with
  | nil => rfl
  | cons x r ih =>
    rw [List.forall_mem_cons] at h
    rw [State.forAll, List.foldl_cons, h.1]
    exact ih h.2

/-- A Desk without accesses does nothing in a tick. -/
theorem State.tickDesk_eq_self {s : State} {desk : Nat} (hleft : (s.desk desk).left = [])
    (hacc : ∀ x ∈ (s.desk desk).seats.toList, x.acc = []) : s.tickDesk desk = s := by
  have idle : ((s.desk desk).left.any (fun e => e.2.due) || (s.desk desk).seats.toList.any (fun (x : Seat) => x.acc.any Access.due))
      = false := by
    rw [hleft, List.any_nil, Bool.false_or, List.any_eq_false]
    intro x hx
    simp [hacc x hx]
  exact if_neg (ne_true_of_eq_false idle)

/-- Settles O55: `step` by its two equations, and the tick of a block whose Desks have no access. -/
theorem stepRunsFront : Obligations.StepRunsFront := by
  have onEmpty {s : State} (h : s.pending = []) : step s = .next s.idle := by
    rw [step, h]
  refine ⟨fun c rest s h => by rw [step, h], fun s h => onEmpty h, fun s h hquiet => ?_, fun s t h e => ?_⟩
  · rw [onEmpty h, State.idle]
    refine congrArg _ (State.forAll_eq_self fun desk hdesk => ?_)
    obtain ⟨x, hx, rfl⟩ := List.mem_map.mp hdesk
    exact State.tickDesk_eq_self (hquiet x hx).1 (hquiet x hx).2
  · cases (onEmpty h).symm.trans e
    exact ⟨s.idle_keeps.now, s.idle_keeps.queue.trans h⟩

/-- Settles O56: the tables of the state after reset are empty, and a register reads as its chapter's reset value. -/
theorem resetState : Obligations.ResetState := by
  refine ⟨by decide, by decide, rfl, rfl, fun _ => rfl, fun _ => rfl, ?_⟩
  decide +kernel

/-- The state after reset, but for a bit of EP.EXPOSE above those that its field holds. -/
def exposeHighBit : State := State.reset.setEp 0 eExpose (BitVec.ofNat 64 (2 ^ 63))

theorem exec_expose_zero : exec (.registerWrite (.cf 0 (BitVec.ofNat 18 eExpose)) (leBytes 8 0)) exposeHighBit
    = .next (exposeHighBit.writeEp 0 eExpose 0) :=
  congrArg Host.Outcome.next (if_pos (by decide))

/-- Refutes O57, in its clause of EP.EXPOSE: a write takes the field's 45 bits alone, so that a bit above them stays as it was in the
state, where the clause has the whole register equal to the value written. -/
theorem not_registerWrites : ¬ Obligations.RegisterWrites := by
  intro h
  obtain ⟨-, -, -, -, -, -, -, hexpose, -⟩ := h
  obtain ⟨t, e, ht, -⟩ := hexpose 0 0 exposeHighBit
  cases exec_expose_zero.symm.trans e
  exact absurd ht (by decide +kernel)

end Sys2Proof.Machine
end

section
/-! SUPPORT. Issue: what an instruction that issues makes of the state, stated once for the instructions that change their Seat
alone and once for the others. -/

namespace Sys2Proof.Machine

section
variable (s : State) (i : ChalkOp)

/-! ### The Seat of an instruction -/

@[simp] theorem State.me_putMe (x : Seat) : (s.putMe i x).me i = x := by
  simp [State.me, State.putMe, State.setSeat, State.seat]

@[simp] theorem State.putMe_putMe (x y : Seat) : (s.putMe i x).putMe i y = s.putMe i y := by
  simp [State.putMe, State.setSeat, State.setDesk, State.desk, tput_tput]

theorem State.me_setDesk_cur (c : Nat) : (s.setDesk (deskOf i) { s.desk (deskOf i) with cur := c }).me i = s.me i := by
  simp [State.me, State.seat]

@[simp] theorem State.me_issuedBy : (s.issuedBy i).me i = (s.me i).advance := State.me_putMe ..

theorem State.desk_issuedBy : (s.issuedBy i).desk (deskOf i)
    = { s.desk (deskOf i) with cur := i.seat.val, seats := (s.desk (deskOf i)).seats.set i.seat (s.me i).advance } := by
  simp [State.issuedBy, State.putMe, State.setSeat]

@[simp] theorem State.cohortOf_issuedBy : (s.issuedBy i).cohortOf (deskOf i) = s.cohortOf (deskOf i) := by
  simp [State.cohortOf, s.desk_issuedBy i]

@[simp] theorem Seat.advance_stat (x : Seat) : x.advance.stat = x.stat := by
  unfold Seat.advance Seat.want
  split <;> rfl
@[simp] theorem Seat.advance_rtag (x : Seat) : x.advance.rtag = x.rtag := by
  unfold Seat.advance Seat.want
  split <;> rfl
@[simp] theorem Seat.advance_srStream (x : Seat) : x.advance.srStream = x.srStream := by
  unfold Seat.advance Seat.want
  split <;> rfl
@[simp] theorem Seat.advance_srElem (x : Seat) : x.advance.srElem = x.srElem := by
  unfold Seat.advance Seat.want
  split <;> rfl
@[simp] theorem Seat.advance_sr (x : Seat) (k : Nat) : x.advance.sr k = x.sr k := by
  unfold Seat.advance Seat.want
  split <;> rfl
@[simp] theorem Seat.advance_vr (x : Seat) (k : Nat) : x.advance.vr k = x.vr k := by
  unfold Seat.advance Seat.want
  split <;> rfl
@[simp] theorem Seat.advance_acc (x : Seat) : x.advance.acc = x.acc := by
  unfold Seat.advance Seat.want
  split <;> rfl
theorem Seat.advance_pc (x : Seat) : x.advance.pc = x.pc + 1 := rfl

/-! ### Issue -/

variable {s i}

/-- An instruction that issues takes its effect in the state that has issued it. -/
theorem State.issue_eq_of_ready {op : Nat} {body : State → BitVec 12 → State} (h : ChalkReady s op i) :
    s.issue op i body = body (s.issuedBy i) (s.me i).pc := by
  obtain ⟨hmay, hlegal, hguard⟩ := h
  simp only [State.issue, hmay, hlegal, State.me_setDesk_cur, hguard, Bool.not_true, Bool.false_eq_true, if_false, if_true]
  rfl

theorem State.seatOnly_putMe_issuedBy (x : Seat) : SeatOnly s ((s.issuedBy i).putMe i x) i x := by
  refine ⟨rfl, fun j hj => ?_, ?_⟩
  · simp [State.issuedBy, State.putMe, State.setSeat, Ne.symm hj]
  · simp [State.issuedBy, State.putMe, State.setSeat]

theorem State.issueSeat_eq_of_ready {op : Nat} {g : State → Seat → Seat} (h : ChalkReady s op i) :
    s.issueSeat op i g = (s.issuedBy i).putMe i (g (s.issuedBy i) (s.me i).advance) := by
  rw [State.issueSeat, State.issue_eq_of_ready h, State.me_issuedBy]

end

/-- A row that issues through `issueSeat` is a `SeatStep` of the same Seat function. -/
theorem seatStep_of_issueSeat {c : ChalkOp → Instr} {op : Nat} {g f : State → ChalkOp → Seat → Seat}
    (hc : ∀ i s, exec (c i) s = .next (s.issueSeat op i (fun t x => g t i x)))
    (hf : ∀ i s, g (s.issuedBy i) i (s.me i).advance = f s i (s.me i).advance) : SeatStep c op f := by
  intro i s h
  refine ⟨_, (hc i s).trans (by rw [State.issueSeat_eq_of_ready h, hf]), State.seatOnly_putMe_issuedBy _⟩

/-- The same where the Seat function does not look at the rest of the state. -/
theorem seatStep_of_local {c : ChalkOp → Instr} {op : Nat} {f : ChalkOp → Seat → Seat}
    (hc : ∀ i s, exec (c i) s = .next (s.issueSeat op i (fun _ x => f i x))) : SeatStep c op (fun _ i x => f i x) :=
  seatStep_of_issueSeat (g := fun _ i x => f i x) hc (fun _ _ => rfl)

/-- A row that issues through `issue` is an `IssueStep` of the same body, which may look at the instruction's own address. -/
theorem issueStep_of_issue {c : ChalkOp → Instr} {op : Nat} {body : ChalkOp → State → BitVec 12 → State} {f : ChalkOp → State → State}
    (hc : ∀ i s, exec (c i) s = .next (s.issue op i (body i)))
    (hf : ∀ i t, body i t ((t.me i).pc - 1) = f i t) : IssueStep c op f := by
  intro i s h
  have hpc : (s.me i).pc = ((s.issuedBy i).me i).pc - 1 := by
    rw [State.me_issuedBy, Seat.advance_pc, BitVec.add_sub_cancel]
  rw [hc, State.issue_eq_of_ready h, hpc, hf]

/-! ### Scalar, control and predicate instructions -/

theorem State.special_issuedBy (s : State) (i : ChalkOp) (pc : BitVec 12) (n : Nat) :
    (s.issuedBy i).special i pc n = s.special i pc n := by
  simp only [State.special, State.me_issuedBy, State.cohortOf_issuedBy, Seat.advance_stat, Seat.advance_rtag, Seat.advance_srStream,
    Seat.advance_srElem]
  rfl

theorem rulesScalarArithmetic_holds : rulesScalarArithmetic :=
  ⟨seatStep_of_local fun _ _ => rfl, seatStep_of_local fun _ _ => rfl, seatStep_of_local fun _ _ => rfl,
    seatStep_of_local fun _ _ => rfl, seatStep_of_local fun _ _ => rfl, seatStep_of_local fun _ _ => rfl,
    seatStep_of_local fun _ _ => rfl, seatStep_of_local fun _ _ => rfl, seatStep_of_local fun _ _ => rfl,
    seatStep_of_local fun _ _ => rfl, seatStep_of_local fun _ _ => rfl, seatStep_of_local fun _ _ => rfl,
    seatStep_of_local fun _ _ => rfl, seatStep_of_local fun _ _ => rfl, seatStep_of_local fun _ _ => rfl⟩

/-- MFSR reads the special register as it stands when the instruction issues. -/
theorem seatStep_mfsr : SeatStep .chMfsr 0x08 (fun s i x => x.setS (fD i.w) (s.special i (s.me i).pc (bits i.w 0 6))) := by
  intro i s h
  refine ⟨_, congrArg Host.Outcome.next (State.issue_eq_of_ready h), ?_⟩
  simp only [State.me_issuedBy, State.special_issuedBy]
  exact State.seatOnly_putMe_issuedBy _

theorem rulesControlAndPredicates_holds : rulesControlAndPredicates :=
  ⟨seatStep_of_local fun _ _ => rfl, seatStep_of_local fun _ _ => rfl, seatStep_of_local fun _ _ => rfl,
    seatStep_of_local fun _ _ => rfl, seatStep_of_local fun _ _ => rfl, seatStep_mfsr, seatStep_of_local fun _ _ => rfl,
    seatStep_of_local fun _ _ => rfl, seatStep_of_local fun _ _ => rfl⟩

/-- Settles O1: each row issues its Seat function, and MFSR reads what the issuing state shows. -/
theorem scalarInstructions : Obligations.ScalarInstructions := ⟨rulesScalarArithmetic_holds, rulesControlAndPredicates_holds⟩

/-! ### Integer vector instructions and moves -/

theorem rulesVectorLanes_holds : rulesVectorLanes :=
  ⟨seatStep_of_local fun _ _ => rfl, seatStep_of_local fun _ _ => rfl, seatStep_of_local fun _ _ => rfl,
    seatStep_of_local fun _ _ => rfl, seatStep_of_local fun _ _ => rfl, seatStep_of_local fun _ _ => rfl,
    seatStep_of_local fun _ _ => rfl, seatStep_of_local fun _ _ => rfl, seatStep_of_local fun _ _ => rfl,
    seatStep_of_local fun _ _ => rfl, seatStep_of_local fun _ _ => rfl, seatStep_of_local fun _ _ => rfl⟩

theorem rulesVectorMoves_holds : rulesVectorMoves :=
  ⟨seatStep_of_local fun _ _ => rfl, seatStep_of_local fun _ _ => rfl, seatStep_of_local fun _ _ => rfl,
    seatStep_of_local fun _ _ => rfl, seatStep_of_local fun _ _ => rfl, seatStep_of_local fun _ _ => rfl,
    seatStep_of_local fun _ _ => rfl, seatStep_of_local fun _ _ => rfl, seatStep_of_local fun _ _ => rfl,
    seatStep_of_local fun _ _ => rfl⟩

/-- Settles O2: each row issues its Seat function. -/
theorem vectorIntegers : Obligations.VectorIntegers := ⟨rulesVectorLanes_holds, rulesVectorMoves_holds⟩

/-! ### Rounded vector arithmetic -/

/-- Rounding reads the seed and the step of the cohort, which an issue leaves alone. -/
theorem roundingOf_issuedBy (s : State) (i : ChalkOp) (x : Seat) (rnd k : Nat) :
    roundingOf (s.issuedBy i) ((s.issuedBy i).cohortOf (deskOf i)) x rnd k = roundingOf s (s.cohortOf (deskOf i)) x rnd k := by
  rw [State.cohortOf_issuedBy]
  rfl

/-- Settles O3: a rounded row issues its Seat function with the rounding of the issuing state; RNG by its two forms. -/
theorem vectorArithmetic : Obligations.VectorArithmetic := by
  refine ⟨seatStep_of_issueSeat (fun _ _ => rfl) fun i s => ?_, seatStep_of_issueSeat (fun _ _ => rfl) fun i s => ?_,
    seatStep_of_issueSeat (fun _ _ => rfl) fun i s => ?_, seatStep_of_issueSeat (fun _ _ => rfl) fun i s => ?_,
    seatStep_of_issueSeat (fun _ _ => rfl) fun i s => ?_, fun u => seatStep_of_issueSeat (fun _ _ => rfl) fun i s => ?_,
    issueStep_of_issue (fun _ _ => rfl) fun _ _ => rfl, fun i s h hmod => ?_, fun i s h hmod hstrict => ?_⟩
  case refine_7 =>
    refine ⟨_, congrArg Host.Outcome.next (State.issue_eq_of_ready h), ?_⟩
    simp only [hmod, State.me_issuedBy, State.cohortOf_issuedBy, Seat.advance_sr, Bool.false_eq_true, if_false]
    exact State.seatOnly_putMe_issuedBy _
  case refine_8 =>
    refine ⟨_, congrArg Host.Outcome.next (State.issue_eq_of_ready h), ?_⟩
    have hs : (s.issuedBy i).strict = true := hstrict
    simp only [hmod, hs, State.me_issuedBy, if_true]
    exact State.seatOnly_putMe_issuedBy _
  case refine_6 =>
    simp only [roundingOf_issuedBy]
    rfl
  all_goals simp only [roundingOf_issuedBy]

end Sys2Proof.Machine
end

section
/-! SUPPORT. The Tally and Long Tally instructions. -/

namespace Sys2Proof.Machine

/-- What a Tally that is cleared reads as. -/
theorem Desk.tally_setTally_zero (d : Desk) (k : Nat) : (d.setTally k {}).tally k = Acc.unpack tallyW (Acc.pack tallyW {}) := by
  have empty : Acc.pack tallyW {} = 0 := by simp [Acc.pack]
  by_cases hk : k = 0 <;> simp only [Desk.setTally, Desk.tally, hk, empty, if_true, if_false, BitVec.toNat_ofNat, Nat.zero_mod]

/-- An issue leaves the Tallies alone. -/
theorem State.tally_issuedBy (s : State) (i : ChalkOp) (k : Nat) :
    ((s.issuedBy i).desk (deskOf i)).tally k = (s.desk (deskOf i)).tally k := by
  rw [State.desk_issuedBy]
  rfl

/-- Rounding reads the stream and element indices of a Seat, which its program counter does not touch. -/
theorem roundingOf_advance (s : State) (c : Nat) (x : Seat) (rnd k : Nat) : roundingOf s c x.advance rnd k = roundingOf s c x rnd k := by
  simp only [roundingOf, Seat.advance_srStream, Seat.advance_srElem]

/-- What TRD leaves where the Tally reads out a value. -/
theorem exec_chTrd_of_readout {s : State} {i : ChalkOp} {v : Nat} (h : ChalkReady s 0x51 i)
    (hv : Acc.readout tallyQ ((s.desk (deskOf i)).tally (fA i.w)) ((fmtOf (fFmt i.w)).getD .fp32)
      (roundingOf s (s.cohortOf (deskOf i)) (s.me i) (fRnd i.w) 0) = some v) :
    exec (.chTrd i) s = .next ((if modBit i.w 0 then
        (s.issuedBy i).setDesk (deskOf i) (((s.issuedBy i).desk (deskOf i)).setTally (fA i.w) {}) else s.issuedBy i).putMe i
      (((((s.me i).advance).putReadout (modBit i.w 2) (laneW (fFmt i.w)) (fD i.w) (fLD i.w) v).rounded (fRnd i.w) 1).record
        stOk true (s.me i).pc)) := by
  refine congrArg Host.Outcome.next ((State.issue_eq_of_ready h).trans ?_)
  simp only [State.tally_issuedBy, State.me_issuedBy, roundingOf_issuedBy, roundingOf_advance, hv]

theorem State.setDesk_withDesks (s : State) (d : Nat) (x : Desk) (ds : Tab Desk) :
    { s.setDesk d x with desks := ds } = { s with desks := ds } := rfl

theorem State.putMe_withDesks (s : State) (i : ChalkOp) (x : Seat) (ds : Tab Desk) :
    { s.putMe i x with desks := ds } = { s with desks := ds } := State.setDesk_withDesks ..

/-- An issue changes the Desks alone. -/
theorem State.issuedBy_withDesks (s : State) (i : ChalkOp) : { s.issuedBy i with desks := s.desks } = s :=
  (State.putMe_withDesks ..).trans (State.setDesk_withDesks ..)

/-- Settles O4: the rows that issue one change, and TRD by what it leaves. -/
theorem tallyInstructions : Obligations.TallyInstructions := by
  refine ⟨fun u => issueStep_of_issue (fun _ _ => rfl) fun _ _ => rfl, fun i s v h hv => ?_,
    issueStep_of_issue (fun _ _ => rfl) fun _ _ => rfl, issueStep_of_issue (fun _ _ => rfl) fun _ _ => rfl,
    fun u => issueStep_of_issue (fun _ _ => rfl) fun _ _ => rfl, issueStep_of_issue (fun _ _ => rfl) fun _ _ => rfl,
    issueStep_of_issue (fun _ _ => rfl) fun _ _ => rfl, issueStep_of_issue (fun _ _ => rfl) fun _ _ => rfl⟩
  refine ⟨_, exec_chTrd_of_readout h hv, State.me_putMe .., fun hmod => ?_, ?_⟩
  · simp only [hmod, if_true, State.putMe, State.setSeat, State.desk_setDesk]
    exact Desk.tally_setTally_zero ..
  · rw [State.putMe_withDesks]
    split
    · rw [State.setDesk_withDesks, State.issuedBy_withDesks]
    · rw [State.issuedBy_withDesks]

end Sys2Proof.Machine
end

section
/-! SUPPORT. Desk memory: Slate accesses, Blackboard accesses that are performed at issue, receive and the switches of Seats. -/

namespace Sys2Proof.Machine

/-- What every application of an operation leaves alone, all of them together leave alone. -/
theorem State.forAll_proj {α β : Type} {s : State} {l : List α} {op : State → α → State} (f : State → β)
    (h : ∀ t x, f (op t x) = f t) : f (s.forAll l op) = f s := by
  induction l generalizing s with
  | nil => rfl
  | cons x r ih => exact (ih (s := op s x)).trans (h s x)

/-! ### Seats -/

theorem Seat.setS_acc (x : Seat) (k : Nat) (v : Word) : (x.setS k v).acc = x.acc := by
  unfold Seat.setS
  split <;> rfl
theorem Seat.setS_st (x : Seat) (k : Nat) (v : Word) : (x.setS k v).st = x.st := by
  unfold Seat.setS
  split <;> rfl
theorem Seat.setV_acc (x : Seat) (k : Nat) (v : Vec) : (x.setV k v).acc = x.acc := by
  unfold Seat.setV
  split <;> rfl
theorem Seat.setV_st (x : Seat) (k : Nat) (v : Vec) : (x.setV k v).st = x.st := by
  unfold Seat.setV
  split <;> rfl

/-- A fold of vector writes leaves alone what one of them leaves alone. -/
theorem Seat.foldl_proj {α β : Type} (f : Seat → β) {op : Seat → α → Seat} (h : ∀ x a, f (op x a) = f x) (l : List α) (x : Seat) :
    f (l.foldl op x) = f x := by
  induction l generalizing x with
  | nil => rfl
  | cons a r ih => exact (ih (op x a)).trans (h x a)

theorem Seat.load_acc (x : Seat) (sz d : Nat) (data : List Byte) : (x.load sz d data).acc = x.acc := by
  unfold Seat.load
  split
  · exact Seat.setS_acc ..
  · exact Seat.foldl_proj Seat.acc (fun y _ => Seat.setV_acc y ..) ..
theorem Seat.load_st (x : Seat) (sz d : Nat) (data : List Byte) : (x.load sz d data).st = x.st := by
  unfold Seat.load
  split
  · exact Seat.setS_st ..
  · exact Seat.foldl_proj Seat.st (fun y _ => Seat.setV_st y ..) ..
theorem Seat.advance_st (x : Seat) : x.advance.st = x.st := by
  unfold Seat.advance Seat.want
  split <;> rfl

/-- A Seat that is ready and has nothing outstanding stays as it is. -/
theorem Seat.settle_eq_self {x : Seat} (hacc : x.acc = []) (hst : x.st = .ready) : x.settle = x := by
  simp [Seat.settle, Seat.mustWait, Seat.stores, hacc, hst]

/-- The Seat of an instruction that may issue is ready. -/
theorem State.ready_of_mayIssue {s : State} {op : Nat} {i : ChalkOp} (h : s.mayIssue op i = true) : (s.me i).st = .ready := by
  have sel : (s.desk (deskOf i)).selected = some i.seat := by
    simp only [State.mayIssue, Bool.and_eq_true, decide_eq_true_eq] at h
    exact h.1.1.2
  have := List.find?_some sel
  exact of_decide_eq_true this

/-- LAST is the status recorded. -/
theorem statLast_record (x : Seat) (st : BitVec 5) (pc : BitVec 12) : statLast (x.record st true pc).stat = st.toNat := by
  have last : ∀ w : Word, fget (fset w 0 5 st.toNat) 0 5 = st.toNat := fun w => by
    rw [fget_fset_same _ _ _ _ (by decide), Nat.mod_eq_of_lt st.isLt]
  simp only [Seat.record, statLast, statNext, if_true]
  split
  · exact last _
  · rw [fget_fset_below _ _ _ _ _ _ (by decide) (by decide)]
    split
    · rw [fget_fset_below _ _ _ _ _ _ (by decide) (by decide), fget_fset_below _ _ _ _ _ _ (by decide) (by decide), last]
    · exact last _

/-- The bytes that a register side of SZ 0 to 6 holds are as many as SZ says. -/
theorem Seat.data_length {w : BitVec 56} (x : Seat) (h : fSZ w < 7) : (x.data (fSZ w) (fD w)).length = sizeOf_ w := by
  have le (n v : Nat) : (leBytes n v).length = n := by
    induction n generalizing v with
    | zero => rfl
    | succ n ih => simp [leBytes, ih]
  rw [sizeOf_, if_pos h, Seat.data]
  split
  · exact le ..
  · have : fSZ w = 4 ∨ fSZ w = 5 ∨ fSZ w = 6 := by omega
    rcases this with e | e | e <;> simp [e, le, List.range_succ]

/-! ### Seats of a Desk -/

@[simp] theorem State.seat_setSeat_same (s : State) (d : Nat) (k : Fin 4) (x : Seat) : (s.setSeat d k x).seat d k = x := by
  simp [State.setSeat, State.seat]
@[simp] theorem State.setSeat_setSeat (s : State) (d : Nat) (k : Fin 4) (x y : Seat) :
    (s.setSeat d k x).setSeat d k y = s.setSeat d k y := by
  simp [State.setSeat, State.setDesk, State.desk, tput_tput]
theorem State.desk_setSeat_ne (s : State) (d : Nat) (k : Fin 4) (x : Seat) {j : Nat} (h : j ≠ d) : (s.setSeat d k x).desk j = s.desk j := by
  simp [State.setSeat, Ne.symm h]

theorem State.settleSeat_eq_self {s : State} {d : Nat} {k : Fin 4} {x : Seat} (hacc : x.acc = []) (hst : x.st = .ready) :
    (s.setSeat d k x).settleSeat d k = s.setSeat d k x := by
  rw [State.settleSeat, State.seat_setSeat_same, Seat.settle_eq_self hacc hst, State.setSeat_setSeat]

/-! ### A Blackboard access alone -/

theorem State.bankTake_desks (s : State) (q l : Nat) : (s.bankTake q l).desks = s.desks := by
  unfold State.bankTake
  split <;> rfl
theorem State.bankTake_mem (s : State) (q l : Nat) : (s.bankTake q l).mem = s.mem := by
  unfold State.bankTake
  split <;> rfl
theorem State.bankTake_regs (s : State) (q l : Nat) : (s.bankTake q l).regs = s.regs := by
  unfold State.bankTake
  split <;> rfl
theorem State.bankTake_coll (s : State) (q l : Nat) : (s.bankTake q l).coll = s.coll := by
  unfold State.bankTake
  split <;> rfl

section
variable {s : State} {i : ChalkOp}

/-- A new access is the only one of a Seat that had none. -/
theorem State.accesses_newAccess (a : Access) (hacc : (s.me i).acc = []) (hleft : (s.desk (deskOf i)).left = []) :
    (s.newAccess i a).2.accesses (deskOf i) i.seat = [(s.newAccess i a).1] := by
  simp only [State.newAccess, State.accesses, State.me, State.putMe, State.setSeat, State.seat, State.desk_setDesk, if_true, hleft,
    List.filter_nil, List.map_nil, List.nil_append]
  simpa [State.me, State.seat] using hacc

/-- The Seat of a new access holds it beside what it had. -/
theorem State.seat_newAccess (a : Access) : (s.newAccess i a).2.seat (deskOf i) i.seat
    = { s.me i with acc := (s.me i).acc ++ [(s.newAccess i a).1] } := by
  simp [State.newAccess, State.putMe, State.setSeat, State.seat, State.me]

/-- A Seat's only access, to a Blackboard and with its bytes at hand, is performed when the Seat's accesses are sent. -/
theorem State.pumpSeat_of_sole {d : Nat} {k : Fin 4} {b : Access} (h : s.accesses d k = [b]) (hstage : b.stage = .queued)
    (hfull : b.full = true) (hboard : b.isBoard = true) : s.pumpSeat d k = (s.performBb d k b).settleSeat d k := by
  have found : s.access d k b.id = some b := by simp [State.access, h]
  have go : s.mayGo d k b = true := by simp [State.mayGo, State.earlier, h, hstage, hfull, hboard]
  simp [State.pumpSeat, h, State.forAll, found, go, State.sendAccess, hboard]

/-- The Seat after its only access completes, where the result goes to registers and LAST. -/
theorem State.complete_of_sole {d : Nat} {k : Fin 4} {b : Access} {st : BitVec 5} (data : List Byte) (h : (s.seat d k).acc = [b])
    (homv : b.kind ≠ .omv) (hsz : b.sz < 7) (hlast : b.kind.last = true) (hst : abortStatus st = false) :
    s.complete d k b st data = s.setSeat d k ((if b.kind.isLoad && st = stOk then
      ({ s.seat d k with acc := [] } : Seat).load b.sz b.d data else { s.seat d k with acc := [] }).record st true b.pc).settle := by
  have h7 : b.sz ≠ 7 := Nat.ne_of_lt hsz
  simp [State.complete, h, homv, hsz, h7, hlast, State.collDesk, hst]

end

/-- The access that BBLD or BBST of SZ 0 to 6 makes. -/
def boardAccess (op : Nat) (i : ChalkOp) (x : Seat) (pc : BitVec 12) : Access :=
  { id := 0, kind := accKind op, pc := pc, d := fD i.w, sz := fSZ i.w, soff := fSoff i.w,
    f := { blankFrame with length := BitVec.ofNat 12 (sizeOf_ i.w), fpa := BitVec.ofNat 56 (localOff i.w x),
                           payload := if op = 0x73 ∧ fSZ i.w < 7 then x.data (fSZ i.w) (fD i.w) else [] },
    fva := 0, needW := op = 0x73, timed := false, leaves := false, stage := .queued, result := none }

/-- What the two Blackboard instructions have in common where they are performed at issue. -/
structure BoardNow (s : State) (op : Nat) (i : ChalkOp) : Prop where
  code  : op = 0x72 ∨ op = 0x73
  ready : ChalkReady s op i
  loose : fT i.w = false
  fits  : boardBad i.w (localOff i.w (s.me i)) = false
  side  : fSZ i.w < 7
  acc   : (s.me i).acc = []
  left  : (s.desk (deskOf i)).left = []

section
variable {s : State} {op : Nat} {i : ChalkOp}

theorem localOff_advance (w : BitVec 56) (x : Seat) : localOff w x.advance = localOff w x := by
  simp only [localOff, Seat.advance_sr]

theorem Seat.data_advance (x : Seat) (sz d : Nat) : x.advance.data sz d = x.data sz d := by
  simp only [Seat.data, Seat.advance_sr, Seat.advance_vr]

/-- The state in which a Blackboard access stands at its bank. -/
def State.boardIssued (s : State) (op : Nat) (i : ChalkOp) : State :=
  ((s.issuedBy i).newAccess i (boardAccess op i (s.me i) (s.me i).pc)).2
/-- The access with its number. -/
def State.boardSent (s : State) (op : Nat) (i : ChalkOp) : Access :=
  ((s.issuedBy i).newAccess i (boardAccess op i (s.me i) (s.me i).pc)).1

theorem BoardNow.kind (h : BoardNow s op i) : (accKind op = .bbLoad ∨ accKind op = .bbStore) := by
  obtain rfl | rfl := h.code
  · exact .inl rfl
  · exact .inr rfl

/-- A Blackboard access that nothing holds back is performed at issue. -/
theorem BoardNow.board_eq (h : BoardNow s op i) :
    s.board op i = ((s.boardIssued op i).performBb (deskOf i) i.seat (s.boardSent op i)).settleSeat (deskOf i) i.seat := by
  have reads : (boardAccess op i (s.me i) (s.me i).pc).reads = false := by
    have h7 : fSZ i.w ≠ 7 := Nat.ne_of_lt h.side
    obtain e | e := h.kind <;> simp [Access.reads, boardAccess, e, AccKind.isLoad, h7]
  have begun : (s.issuedBy i).beginRead (deskOf i) (boardAccess op i (s.me i) (s.me i).pc) = boardAccess op i (s.me i) (s.me i).pc :=
    if_neg (ne_true_of_eq_false reads)
  have acc : ((s.issuedBy i).me i).acc = [] := by rw [State.me_issuedBy, Seat.advance_acc, h.acc]
  have left : ((s.issuedBy i).desk (deskOf i)).left = [] := by rw [State.desk_issuedBy, h.left]
  have start : s.board op i = (s.boardIssued op i).pumpSeat (deskOf i) i.seat := by
    rw [State.board, State.issue_eq_of_ready h.ready]
    simp only [State.me_issuedBy, localOff_advance, h.fits, h.loose, Seat.data_advance, Bool.not_false, Bool.false_eq_true,
      if_false, if_true]
    exact congrArg (fun a => ((s.issuedBy i).newAccess i a).2.pumpSeat (deskOf i) i.seat) begun
  rw [start]
  refine State.pumpSeat_of_sole (State.accesses_newAccess _ acc left) rfl ?_ ?_
  · exact Bool.or_eq_true_iff.mpr (.inl (Bool.not_eq_true' _ |>.mpr reads))
  · obtain e | e := h.kind
    · exact Bool.or_eq_true_iff.mpr (.inl (decide_eq_true e))
    · exact Bool.or_eq_true_iff.mpr (.inr (decide_eq_true e))

/-! ### What a Blackboard access leaves -/

theorem State.desk_newAccess_ne (v : State) (i : ChalkOp) (a : Access) {j : Nat} (h : j ≠ deskOf i) :
    (v.newAccess i a).2.desk j = v.desk j := by
  simp [State.newAccess, State.putMe, State.setSeat, Ne.symm h]

/-- The bytes of an access in bounds, where the bank looks for them. -/
theorem BoardNow.place (h : BoardNow s op i) : (s.boardSent op i).f.fpa.toNat = localOff i.w (s.me i) ∧
    (s.boardSent op i).f.length.toNat = sizeOf_ i.w := by
  have fits : localOff i.w (s.me i) + sizeOf_ i.w ≤ 2 ^ 18 := by
    have := h.fits
    simp only [boardBad, Bool.or_eq_false_iff, decide_eq_false_iff_not] at this
    omega
  have small : sizeOf_ i.w ≤ 64 := by
    rw [sizeOf_, if_pos h.side]
    exact Nat.pow_le_pow_right (by decide) (Nat.lt_succ_iff.mp h.side)
  constructor
  · exact Nat.mod_eq_of_lt (by omega)
  · exact Nat.mod_eq_of_lt (by omega)

/-- The Seat that holds the access: past the instruction, with the access alone outstanding. -/
theorem BoardNow.seat (h : BoardNow s op i) :
    (s.boardIssued op i).seat (deskOf i) i.seat = { (s.me i).advance with acc := [s.boardSent op i] } := by
  rw [State.boardIssued, State.seat_newAccess, State.me_issuedBy, Seat.advance_acc, h.acc]
  rfl

/-- The Seat without the access is the one past the instruction. -/
theorem BoardNow.seat_done (h : BoardNow s op i) :
    ({ (s.boardIssued op i).seat (deskOf i) i.seat with acc := [] } : Seat) = (s.me i).advance := by
  rw [h.seat]
  have := Seat.advance_acc (s.me i)
  rw [h.acc] at this
  generalize (s.me i).advance = x at this ⊢
  cases x
  cases this
  rfl

theorem BoardNow.st (h : BoardNow s op i) : (s.me i).advance.st = .ready := by
  obtain ⟨hmay, -, -⟩ := h.ready
  rw [Seat.advance_st, State.ready_of_mayIssue hmay]

/-- The state whose banks have been taken. -/
def State.banksTaken (s : State) (op : Nat) (i : ChalkOp) : State :=
  (s.boardIssued op i).forAll (linesOf (bbBase (roomOf (deskOf i)) + localOff i.w (s.me i)) (sizeOf_ i.w))
    (fun s l => s.bankTake (deskOf i % 256) l)

theorem State.banksTaken_desks : (s.banksTaken op i).desks = (s.boardIssued op i).desks :=
  State.forAll_proj State.desks fun t l => t.bankTake_desks _ l
theorem State.banksTaken_mem : (s.banksTaken op i).mem = s.mem :=
  State.forAll_proj State.mem fun t l => t.bankTake_mem _ l
theorem State.banksTaken_regs : (s.banksTaken op i).regs = s.regs :=
  State.forAll_proj State.regs fun t l => t.bankTake_regs _ l
theorem State.banksTaken_coll : (s.banksTaken op i).coll = s.coll :=
  State.forAll_proj State.coll fun t l => t.bankTake_coll _ l

/-- A Blackboard access at its bank: its lines' banks are taken, and it is performed or refused. -/
theorem BoardNow.performBb_eq (h : BoardNow s op i) : (s.boardIssued op i).performBb (deskOf i) i.seat (s.boardSent op i) =
    if accKind op = .bbLoad then (s.banksTaken op i).complete (deskOf i) i.seat (s.boardSent op i) stOk
      ((s.banksTaken op i).bytes (bbBase (roomOf (deskOf i)) + localOff i.w (s.me i)) (sizeOf_ i.w))
    else if (linesOf (bbBase (roomOf (deskOf i)) + localOff i.w (s.me i)) (sizeOf_ i.w)).any
        (fun l => ((s.banksTaken op i).collAt l).isSome) then
      (s.banksTaken op i).complete (deskOf i) i.seat (s.boardSent op i) stPerm []
    else ((s.banksTaken op i).storeMem (bbBase (roomOf (deskOf i)) + localOff i.w (s.me i)) (s.boardSent op i).f.payload).2.complete
      (deskOf i) i.seat (s.boardSent op i) stOk [] := by
  obtain ⟨hfpa, hlen⟩ := h.place
  have loose : (s.boardSent op i).timed = false := rfl
  have kind : (s.boardSent op i).kind = accKind op := rfl
  simp only [State.performBb, hfpa, hlen, loose, kind, Bool.false_eq_true, if_false, State.banksTaken]
  rfl

/-- The end of a Blackboard access in a state `t` that has the Desks of its start: the Seat takes what `y` says. -/
theorem BoardNow.complete_eq (h : BoardNow s op i) {t : State} (ht : t.desks = (s.boardIssued op i).desks) (st : BitVec 5)
    (data : List Byte) (hst : abortStatus st = false) :
    (t.complete (deskOf i) i.seat (s.boardSent op i) st data).settleSeat (deskOf i) i.seat = t.setSeat (deskOf i) i.seat
      ((if (accKind op).isLoad && st = stOk then (s.me i).advance.load (fSZ i.w) (fD i.w) data else (s.me i).advance).record st true
        (s.me i).pc) := by
  have seat : t.seat (deskOf i) i.seat = (s.boardIssued op i).seat (deskOf i) i.seat := by
    rw [State.seat, State.desk, ht]
    rfl
  have acc : (t.seat (deskOf i) i.seat).acc = [s.boardSent op i] := by rw [seat, h.seat]
  have homv : (s.boardSent op i).kind ≠ .omv := by
    change accKind op ≠ .omv
    obtain e | e := h.kind <;> rw [e] <;> nofun
  have hlast : (s.boardSent op i).kind.last = true := by
    change (accKind op).last = true
    obtain e | e := h.kind <;> rw [e] <;> rfl
  rw [State.complete_of_sole data acc homv h.side hlast hst, seat, h.seat_done]
  have adv : (s.me i).advance.acc = [] := by rw [Seat.advance_acc, h.acc]
  generalize hy : (if (s.boardSent op i).kind.isLoad && st = stOk then
    (s.me i).advance.load (s.boardSent op i).sz (s.boardSent op i).d data else (s.me i).advance) = y
  have hyacc : y.acc = [] := by
    rw [← hy]
    split
    · rw [Seat.load_acc, adv]
    · exact adv
  have hyst : y.st = .ready := by
    rw [← hy]
    split
    · rw [Seat.load_st, h.st]
    · exact h.st
  rw [Seat.settle_eq_self (x := y.record _ _ _) hyacc hyst, State.settleSeat_eq_self (x := y.record _ _ _) hyacc hyst, ← hy]
  rfl

end

end Sys2Proof.Machine
end

section
/-! SUPPORT. What a store leaves in memory, byte by byte. -/

namespace Sys2Proof.Machine

section
variable (s : State)

/-- A byte after a byte string is written. -/
theorem State.byte_setBytes (a : Nat) (l : List Byte) (c : Nat) :
    (s.setBytes a l).byte c = if a ≤ c ∧ c < a + l.length then l.getD (c - a) 0 else s.byte c := by
  split
  case isTrue h =>
    have inside : c - a < l.length := by omega
    have := s.byte_setBytes_inside a l (c - a) inside
    rw [show a + (c - a) = c by omega] at this
    rw [this, List.getD_eq_getElem _ _ inside]
  case isFalse h => exact s.byte_setBytes_outside a l c (by omega)

theorem State.dropSlot_mem (l : Nat) : (s.dropSlot l).mem = s.mem := by
  unfold State.dropSlot
  split
  · split <;> rfl
  · rfl
theorem State.heal_mem (l : Nat) : (s.heal l).mem = s.mem := by
  unfold State.heal
  dsimp only
  split
  · split <;> rfl
  · rfl
theorem State.burst_mem (l : Nat) (rd wr : Bool) : (s.burst l rd wr).mem = s.mem := by
  unfold State.burst
  dsimp only
  split
  · cases rd <;> cases wr <;> simp only [Bool.false_eq_true, if_false, if_true] <;> split <;> rfl
  · rfl

theorem State.byte_of_mem {s t : State} (h : t.mem = s.mem) (c : Nat) : t.byte c = s.byte c := by
  rw [State.byte, State.byte, h]

/-- Two states with the same memory read the same bytes. -/
theorem SameMemory.of_mem {s t : State} (h : t.mem = s.mem) : SameMemory s t := State.byte_of_mem h

theorem State.bytes_congr {s t : State} {a b n : Nat} (h : ∀ k, k < n → t.byte (a + k) = s.byte (b + k)) : t.bytes a n = s.bytes b n := by
  refine List.ext_getElem (by simp) fun k h1 h2 => ?_
  rw [State.bytes_getElem, State.bytes_getElem]
  exact h k (by simpa using h1)

theorem State.bytes_of_mem {s t : State} (h : t.mem = s.mem) (a n : Nat) : t.bytes a n = s.bytes a n :=
  State.bytes_congr fun _ _ => State.byte_of_mem h _

/-- A byte of a line that a store covers in part or whole. -/
theorem State.byte_storeLine (a : Nat) (data : List Byte) (l c : Nat) :
    (s.storeLine a data l).byte c = if (a ≤ c ∧ c < a + data.length) ∧ c / 64 = l then data.getD (c - a) 0 else s.byte c := by
  have mem : (s.storeLine a data l).mem = ((s.dropSlot l).setBytes (span a data.length l).1
      ((data.drop ((span a data.length l).1 - a)).take ((span a data.length l).2 - (span a data.length l).1))).mem := by
    rw [State.storeLine]
    split
    · exact State.heal_mem ..
    · rfl
  have start : (span a data.length l).1 = max a (64 * l) := rfl
  have stop : (span a data.length l).2 = min (a + data.length) (64 * l + 64) := rfl
  generalize (span a data.length l).1 = lo at mem start
  generalize (span a data.length l).2 = hi at mem stop
  have len : ((data.drop (lo - a)).take (hi - lo)).length = hi - lo := by
    simp only [List.length_take, List.length_drop]
    omega
  rw [State.byte_of_mem mem, State.byte_setBytes, len, State.byte_of_mem (s.dropSlot_mem l)]
  by_cases h : (a ≤ c ∧ c < a + data.length) ∧ c / 64 = l
  · rw [if_pos h, if_pos (by omega), List.getD_eq_getElem?_getD, List.getD_eq_getElem?_getD, List.getElem?_take_of_lt (by omega),
      List.getElem?_drop]
    congr 2
    omega
  · rw [if_neg h, if_neg (by omega)]

theorem State.byte_storeLines (a : Nat) (data : List Byte) (ls : List Nat) (c : Nat) :
    (s.forAll ls (fun s l => (s.storeLine a data l).burst l false true)).byte c
      = if (a ≤ c ∧ c < a + data.length) ∧ c / 64 ∈ ls then data.getD (c - a) 0 else s.byte c := by
  induction ls generalizing s with
  | nil => simp [State.forAll]
  | cons l r ih =>
    rw [State.forAll, List.foldl_cons]
    refine (ih _).trans ?_
    rw [State.byte_of_mem (State.burst_mem _ l false true), State.byte_storeLine]
    by_cases hr : c / 64 ∈ r <;> by_cases hl : c / 64 = l <;> by_cases hc : a ≤ c ∧ c < a + data.length <;>
      simp [hr, hl, hc]

theorem mem_linesOf {a n l : Nat} : l ∈ linesOf a n ↔ 0 < n ∧ a / 64 ≤ l ∧ l ≤ (a + n - 1) / 64 := by
  unfold linesOf
  split
  case isTrue h => simp [h]
  case isFalse h =>
    have hn : 0 < n := Nat.pos_of_ne_zero h
    simp only [List.mem_map, List.mem_range]
    constructor
    · rintro ⟨k, hk, rfl⟩
      omega
    · rintro ⟨-, h1, h2⟩
      exact ⟨l - a / 64, by omega, by omega⟩

/-- The line of a byte is among those of a range that holds it. -/
theorem div_mem_linesOf {a n c : Nat} (h : a ≤ c ∧ c < a + n) : c / 64 ∈ linesOf a n :=
  mem_linesOf.mpr ⟨by omega, Nat.div_le_div_right h.1, Nat.div_le_div_right (by omega)⟩

variable {s}

/-- With no line in error a store is performed on every line. -/
theorem State.storeMem_of_good {a : Nat} {data : List Byte} (h : ∀ l ∈ linesOf a data.length, s.lineBad l = false) :
    s.storeMem a data = (stOk, s.forAll (linesOf a data.length) (fun s l => (s.storeLine a data l).burst l false true)) := by
  have noskip : (linesOf a data.length).filter
      (fun l => s.lineBad l && decide ((span a data.length l).2 - (span a data.length l).1 < 64)) = [] :=
    List.filter_eq_nil_iff.mpr fun l hl => by simp [h l hl]
  rw [State.storeMem]
  simp only [noskip, List.isEmpty_nil, if_true, List.contains_nil, Bool.false_eq_true, if_false]

theorem State.byte_storeMem {a : Nat} {data : List Byte} (h : ∀ l ∈ linesOf a data.length, s.lineBad l = false) (c : Nat) :
    (s.storeMem a data).2.byte c = if a ≤ c ∧ c < a + data.length then data.getD (c - a) 0 else s.byte c := by
  rw [State.storeMem_of_good h, State.byte_storeLines]
  by_cases hc : a ≤ c ∧ c < a + data.length
  · rw [if_pos ⟨hc, div_mem_linesOf hc⟩, if_pos hc]
  · rw [if_neg fun k => hc k.1, if_neg hc]

/-- A store leaves its bytes. -/
theorem State.bytes_storeMem {a : Nat} {data : List Byte} (h : ∀ l ∈ linesOf a data.length, s.lineBad l = false) :
    (s.storeMem a data).2.bytes a data.length = data := by
  refine List.ext_getElem (by simp) fun k h1 h2 => ?_
  rw [State.bytes_getElem, State.byte_storeMem h, if_pos (by omega), Nat.add_sub_cancel_left, List.getD_eq_getElem _ _ h2]

/-- A store changes no other byte. -/
theorem State.sameMemoryBut_storeMem {a : Nat} {data : List Byte} (h : ∀ l ∈ linesOf a data.length, s.lineBad l = false) :
    SameMemoryBut s (s.storeMem a data).2 a data.length := fun c hc => by
  rw [State.byte_storeMem h, if_neg (by omega)]

end

end Sys2Proof.Machine
end

section
/-! SUPPORT. The Slate, Blackboard and synchronisation instructions. -/

namespace Sys2Proof.Machine

section
variable {s : State} {op : Nat} {i : ChalkOp}

/-- A load of the Desk's Blackboard returns the bytes that stand there. -/
theorem BoardNow.load (h : BoardNow s 0x72 i) : s.board 0x72 i = (s.banksTaken 0x72 i).setSeat (deskOf i) i.seat
    (((s.me i).advance.load (fSZ i.w) (fD i.w)
      (s.bytes (bbBase (roomOf (deskOf i)) + localOff i.w (s.me i)) (sizeOf_ i.w))).record stOk true (s.me i).pc) := by
  rw [h.board_eq, h.performBb_eq, if_pos (show accKind 0x72 = .bbLoad from rfl), State.bytes_of_mem State.banksTaken_mem]
  exact h.complete_eq State.banksTaken_desks stOk _ (by decide)

theorem BoardNow.store_payload (h : BoardNow s 0x73 i) : (s.boardSent 0x73 i).f.payload = (s.me i).data (fSZ i.w) (fD i.w) :=
  if_pos ⟨rfl, h.side⟩

/-- A line of a Blackboard is in no channel of pooled memory, so that none of them is in error. -/
theorem State.lineBad_board (s : State) (room off n : Nat) {l : Nat} (h : l ∈ linesOf (bbBase room + off) n) : s.lineBad l = false := by
  obtain ⟨-, hl, -⟩ := mem_linesOf.mp h
  have : ¬ 64 * l < 2 ^ 40 := by
    unfold bbBase at hl
    omega
  rw [State.lineBad, decide_eq_false this, Bool.false_and]

theorem State.storeMem_desks (s : State) {a : Nat} {data : List Byte} (h : ∀ l ∈ linesOf a data.length, s.lineBad l = false) :
    (s.storeMem a data).2.desks = s.desks := by
  rw [State.storeMem_of_good h]
  refine State.forAll_proj State.desks fun t l => ?_
  have drop : (t.dropSlot l).desks = t.desks := by
    unfold State.dropSlot
    split
    · split <;> rfl
    · rfl
  have heal (u : State) : (u.heal l).desks = u.desks := by
    unfold State.heal
    dsimp only
    split
    · split <;> rfl
    · rfl
  have burst (u : State) : (u.burst l false true).desks = u.desks := by
    unfold State.burst
    split
    · dsimp only
      split <;> rfl
    · rfl
  rw [burst, State.storeLine]
  split
  · rw [heal, State.setBytes_desks, drop]
  · rw [State.setBytes_desks, drop]

/-- A store to the Desk's Blackboard, where no collective holds a line of it. -/
theorem BoardNow.store (h : BoardNow s 0x73 i)
    (hfree : ∀ l ∈ linesOf (bbBase (roomOf (deskOf i)) + localOff i.w (s.me i)) (sizeOf_ i.w), s.collAt l = none) :
    s.board 0x73 i = ((s.banksTaken 0x73 i).storeMem (bbBase (roomOf (deskOf i)) + localOff i.w (s.me i))
      ((s.me i).data (fSZ i.w) (fD i.w))).2.setSeat (deskOf i) i.seat ((s.me i).advance.record stOk true (s.me i).pc) := by
  have free : (linesOf (bbBase (roomOf (deskOf i)) + localOff i.w (s.me i)) (sizeOf_ i.w)).any
      (fun l => ((s.banksTaken 0x73 i).collAt l).isSome) = false := by
    rw [List.any_eq_false]
    intro l hl
    rw [State.collAt, State.banksTaken_coll]
    simpa [State.collAt] using hfree l hl
  rw [h.board_eq, h.performBb_eq, if_neg (show accKind 0x73 ≠ .bbLoad by decide), if_neg (ne_true_of_eq_false free), h.store_payload]
  exact h.complete_eq ((State.storeMem_desks _ fun l hl => State.lineBad_board _ _ _ _ hl).trans State.banksTaken_desks) stOk [] (by decide)

/-- A store to a line that a collective holds is refused. -/
theorem BoardNow.store_held (h : BoardNow s 0x73 i)
    (hheld : ∃ l ∈ linesOf (bbBase (roomOf (deskOf i)) + localOff i.w (s.me i)) (sizeOf_ i.w), (s.collAt l).isSome = true) :
    s.board 0x73 i = (s.banksTaken 0x73 i).setSeat (deskOf i) i.seat ((s.me i).advance.record stPerm true (s.me i).pc) := by
  have held : (linesOf (bbBase (roomOf (deskOf i)) + localOff i.w (s.me i)) (sizeOf_ i.w)).any
      (fun l => ((s.banksTaken 0x73 i).collAt l).isSome) = true := by
    obtain ⟨l, hl, hc⟩ := hheld
    refine List.any_eq_true.mpr ⟨l, hl, ?_⟩
    rw [State.collAt, State.banksTaken_coll]
    exact hc
  rw [h.board_eq, h.performBb_eq, if_neg (show accKind 0x73 ≠ .bbLoad by decide), if_pos held]
  exact h.complete_eq State.banksTaken_desks stPerm [] (by decide)

theorem State.bytes_putMe (t : State) (x : Seat) (a n : Nat) : (t.putMe i x).bytes a n = t.bytes a n :=
  State.bytes_of_mem (s := t) (t := t.putMe i x) rfl a n

theorem State.me_setSeat (t : State) (x : Seat) : (t.setSeat (deskOf i) i.seat x).me i = x := State.seat_setSeat_same ..

/-- A Blackboard access that is out of bounds or not aligned completes with ALIGN. -/
theorem State.board_align (h : ChalkReady s op i) (hloose : fT i.w = false) (hbad : boardBad i.w (localOff i.w (s.me i)) = true) :
    s.board op i = (s.issuedBy i).putMe i ((s.me i).advance.record stAlign true (s.me i).pc) := by
  rw [State.board, State.issue_eq_of_ready h]
  simp only [State.me_issuedBy, localOff_advance, hbad, hloose, Bool.false_eq_true, if_true, if_false]

theorem exec_chBbld_align (h : ChalkReady s 0x72 i) (hloose : fT i.w = false) (hbad : boardBad i.w (localOff i.w (s.me i)) = true) :
    exec (.chBbld i) s = .next ((s.issuedBy i).putMe i ((s.me i).advance.record stAlign true (s.me i).pc)) :=
  congrArg Host.Outcome.next (State.board_align h hloose hbad)

theorem exec_chBbst_align (h : ChalkReady s 0x73 i) (hloose : fT i.w = false) (hbad : boardBad i.w (localOff i.w (s.me i)) = true) :
    exec (.chBbst i) s = .next ((s.issuedBy i).putMe i ((s.me i).advance.record stAlign true (s.me i).pc)) :=
  congrArg Host.Outcome.next (State.board_align h hloose hbad)

/-! ### Settled forms of the other instructions -/

theorem exec_chSld (h : ChalkReady s 0x70 i) : exec (.chSld i) s = .next ((s.issuedBy i).putMe i
    (if slateBad i.w (localOff i.w (s.me i)) then (s.me i).advance.record stAlign true (s.me i).pc
      else ((s.me i).advance.load (fSZ i.w) (fD i.w)
        (s.bytes (slateBase (deskOf i) + localOff i.w (s.me i)) (sizeOf_ i.w))).record stOk true (s.me i).pc)) := by
  refine congrArg Host.Outcome.next ((State.issue_eq_of_ready h).trans ?_)
  simp only [State.me_issuedBy, localOff_advance]
  rw [State.bytes_of_mem (t := s.issuedBy i) (s := s) rfl]

theorem exec_chSst (h : ChalkReady s 0x71 i) (hok : slateBad i.w (localOff i.w (s.me i)) = false) :
    exec (.chSst i) s = .next (((s.issuedBy i).setBytes (slateBase (deskOf i) + localOff i.w (s.me i))
      ((s.me i).data (fSZ i.w) (fD i.w))).putMe i ((s.me i).advance.record stOk true (s.me i).pc)) := by
  refine congrArg Host.Outcome.next ((State.issue_eq_of_ready h).trans ?_)
  simp only [State.me_issuedBy, localOff_advance, Seat.data_advance, hok, Bool.false_eq_true, if_false]

theorem State.desk_issuedBy_full : ((s.issuedBy i).desk (deskOf i)).full = (s.desk (deskOf i)).full := by
  rw [State.desk_issuedBy]

theorem exec_chRcv_waits (h : ChalkReady s 0x0A i) (hempty : (s.desk (deskOf i)).wordsFull (BitVec.ofNat 8 (bits i.w 0 8)) = false) :
    exec (.chRcv i) s = .next ((s.issuedBy i).putMe i
      { (s.me i).advance with st := .inbox, rcv := some (fD i.w, BitVec.ofNat 8 (bits i.w 0 8)) }) := by
  have hempty' : ((s.issuedBy i).desk (deskOf i)).wordsFull (BitVec.ofNat 8 (bits i.w 0 8)) = false := by
    rw [Desk.wordsFull, State.desk_issuedBy_full]
    exact hempty
  refine congrArg Host.Outcome.next ((State.issue_eq_of_ready h).trans ?_)
  simp only [State.me_issuedBy, hempty', Bool.false_eq_true, if_false]

theorem State.seat_issuedBy_ne {k : Fin 4} (h : k ≠ i.seat) : (s.issuedBy i).seat (deskOf i) k = s.seat (deskOf i) k := by
  have : i.seat.val ≠ k.val := fun e => h (Fin.ext e.symm)
  simp [State.seat, State.desk_issuedBy, Vector.getElem_set_ne, this]

/-- A Seat switch leaves the Seats alone. -/
theorem State.seat_switchSeat (d : Nat) (k j : Fin 4) : (s.switchSeat d k).seat d j = s.seat d j := by
  simp [State.switchSeat, State.seat]

/-- The state in which END leaves its Desk. -/
def State.endedBy (t : State) (i : ChalkOp) (x : Seat) : State :=
  let u := t.putMe i x
  let d := u.desk (deskOf i)
  (u.setDesk (deskOf i) { d with ended := d.ended ||| BitVec.ofNat 4 (2 ^ i.seat.val) }).switchSeat (deskOf i) i.seat

theorem exec_chEnd (h : ChalkReady s 0x02 i) :
    exec (.chEnd i) s = .next ((s.issuedBy i).endedBy i { (s.me i).advance with st := .idle }) := by
  refine congrArg Host.Outcome.next ((State.issue_eq_of_ready h).trans ?_)
  simp only [State.me_issuedBy]
  rfl

theorem exec_chYield (h : ChalkReady s 0x03 i) : exec (.chYield i) s = .next ((s.issuedBy i).switchSeat (deskOf i) i.seat) :=
  congrArg Host.Outcome.next (State.issue_eq_of_ready h)

theorem State.endedBy_desks (x : Seat) : { (s.issuedBy i).endedBy i x with desks := s.desks } = s :=
  (State.setDesk_withDesks ..).trans ((State.setDesk_withDesks ..).trans ((State.putMe_withDesks ..).trans (State.issuedBy_withDesks s i)))

theorem State.me_endedBy (x : Seat) : ((s.issuedBy i).endedBy i x).me i = x := by
  simp [State.endedBy, State.me, State.switchSeat, State.seat, State.putMe, State.setSeat]

theorem State.endedBy_ended (x : Seat) : (((s.issuedBy i).endedBy i x).desk (deskOf i)).ended =
    (s.desk (deskOf i)).ended ||| BitVec.ofNat 4 (2 ^ i.seat.val) := by
  simp [State.endedBy, State.switchSeat, State.putMe, State.setSeat, State.desk_issuedBy]

theorem seatStep_cvtp : SeatStep .chCvtp 0x68 (fun s i x =>
    match convert ((((s.room (roomOf (deskOf i))).cvt.find? (fun e => e.1.toNat = s.cohortOf (deskOf i))).map Prod.snd).getD [])
        (modBit i.w 0) (x.sr (fA i.w)).toNat with
    | some v => (x.setS (fD i.w) (BitVec.ofNat 64 v)).setP (fC i.w) true
    | none => x.setP (fC i.w) false) := by
  refine seatStep_of_issueSeat (g := fun t i x =>
    match convert ((((t.room (roomOf (deskOf i))).cvt.find? (fun e => e.1.toNat = t.cohortOf (deskOf i))).map Prod.snd).getD [])
        (modBit i.w 0) (x.sr (fA i.w)).toNat with
    | some v => (x.setS (fD i.w) (BitVec.ofNat 64 v)).setP (fC i.w) true
    | none => x.setP (fC i.w) false) (fun _ _ => rfl) fun i s => ?_
  simp only [State.cohortOf_issuedBy]
  rfl

end

/-- Settles O5: each instruction by its settled form. -/
theorem deskMemory : Obligations.DeskMemory := by
  refine ⟨?_, ?_, ?_, ?_, ?_, ?_, ?_, ?_, seatStep_of_local fun _ _ => rfl, seatStep_cvtp, ?_,
    issueStep_of_issue (fun _ _ => rfl) fun _ _ => rfl, ?_, ?_⟩
  · intro i s h hok
    refine ⟨_, exec_chSld h, ?_⟩
    rw [if_neg (ne_true_of_eq_false hok)]
    exact State.seatOnly_putMe_issuedBy _
  · intro i s h hbad
    refine ⟨_, exec_chSld h, ?_⟩
    rw [if_pos hbad]
    exact State.seatOnly_putMe_issuedBy _
  · intro i s h hok
    refine ⟨_, exec_chSst h hok, State.me_putMe .., fun a => ?_, fun a ha => ?_, ?_⟩
    · exact congrArg (fun r => tget regReset r a) (State.setBytes_regs (s.issuedBy i) ..)
    · exact State.byte_setBytes_outside _ _ _ _ ha
    · exact (State.bytes_putMe ..).trans (State.bytes_setBytes ..)
  · intro i s hr ht hb hz ha hl
    have h : BoardNow s 0x72 i := ⟨.inl rfl, hr, ht, hb, hz, ha, hl⟩
    refine ⟨_, congrArg Host.Outcome.next h.load, State.me_setSeat .., fun a => ?_, SameMemory.of_mem State.banksTaken_mem, fun j hj => ?_⟩
    · exact congrArg (fun r => tget regReset r a) State.banksTaken_regs
    · rw [State.desk_setSeat_ne _ _ _ _ hj, State.desk, State.banksTaken_desks]
      exact (State.desk_newAccess_ne _ i _ hj).trans (by simp [State.issuedBy, State.putMe, State.setSeat, Ne.symm hj])
  · intro i s hr ht hb hz ha hl hfree
    have h : BoardNow s 0x73 i := ⟨.inr rfl, hr, ht, hb, hz, ha, hl⟩
    have len := Seat.data_length (s.me i) hz
    have good : ∀ l ∈ linesOf (bbBase (roomOf (deskOf i)) + localOff i.w (s.me i)) ((s.me i).data (fSZ i.w) (fD i.w)).length,
        (s.banksTaken 0x73 i).lineBad l = false := fun l hl => State.lineBad_board _ _ _ _ hl
    refine ⟨_, congrArg Host.Outcome.next (h.store hfree), State.me_setSeat .., ?_, fun c hc => ?_⟩
    · have := State.bytes_storeMem good
      rw [len] at this
      exact (State.bytes_putMe ..).trans this
    · rw [← len] at hc
      exact (State.sameMemoryBut_storeMem good c hc).trans (State.byte_of_mem State.banksTaken_mem c)
  · intro i s hr ht hb hz ha hl hheld
    have h : BoardNow s 0x73 i := ⟨.inr rfl, hr, ht, hb, hz, ha, hl⟩
    refine ⟨_, congrArg Host.Outcome.next (h.store_held hheld), ?_, SameMemory.of_mem State.banksTaken_mem⟩
    rw [State.me_setSeat, statLast_record]
  · intro i s h ht hbad
    exact ⟨_, exec_chBbld_align h ht hbad, State.seatOnly_putMe_issuedBy _⟩
  · intro i s h ht hbad
    exact ⟨_, exec_chBbst_align h ht hbad, State.seatOnly_putMe_issuedBy _⟩
  · intro i s h hempty
    exact ⟨_, exec_chRcv_waits h hempty, State.seatOnly_putMe_issuedBy _⟩
  · intro i s h
    exact ⟨_, exec_chEnd h, State.me_endedBy _, State.endedBy_desks _, State.endedBy_ended _⟩
  · intro i s h
    refine ⟨_, exec_chYield h, ?_, (State.setDesk_withDesks ..).trans (State.issuedBy_withDesks s i), fun k hk => ?_⟩
    · rw [State.me, State.seat_switchSeat]
      exact State.me_issuedBy ..
    · rw [State.seat_switchSeat, State.seat_issuedBy_ne hk]

end Sys2Proof.Machine
end

section
/-! SUPPORT. Fabric accesses of a Seat at issue. -/

namespace Sys2Proof.Machine

section
variable {s : State} {op : Nat} {i : ChalkOp}

theorem State.refuse_loose {t : State} (h : isTimed op i.w = false) (st : BitVec 5) (pc : BitVec 12) :
    t.refuse i op st pc = t.putMe i ((t.me i).record st (accKind op).isLoad pc) := by
  rw [State.refuse, if_neg (ne_true_of_eq_false h)]

/-- A fabric instruction's access, refused or on its way. -/
theorem State.fabric_eq (h : ChalkReady s op i) : s.fabric op i =
    if !fT i.w && s.strict then (s.issuedBy i).refuse i op stStrict (s.me i).pc
    else if alignBad op i.w ((s.issuedBy i).fabricAccess op i (s.me i).pc).f then (s.issuedBy i).refuse i op stAlign (s.me i).pc
    else (if !fT i.w then (s.issuedBy i).fabricLoose i ((s.issuedBy i).fabricAccess op i (s.me i).pc)
        ((s.issuedBy i).fabricAccess op i (s.me i).pc).f.cohort
      else (s.issuedBy i).fabricTimed op i ((s.issuedBy i).fabricAccess op i (s.me i).pc)
        ((s.issuedBy i).fabricAccess op i (s.me i).pc).f.cohort).giveWay i (s.me i).advance := by
  rw [State.fabric, State.issue_eq_of_ready h]
  simp only [State.me_issuedBy]
  rfl

theorem State.fabric_strict (h : ChalkReady s op i) (hT : fT i.w = false) (hs : s.strict = true) :
    s.fabric op i = (s.issuedBy i).refuse i op stStrict (s.me i).pc := by
  rw [State.fabric_eq h, hT, hs]
  rfl

theorem State.fabric_align (h : ChalkReady s op i) (hno : fT i.w = true ∨ s.strict = false)
    (hbad : alignBad op i.w ((s.issuedBy i).fabricAccess op i (s.me i).pc).f = true) :
    s.fabric op i = (s.issuedBy i).refuse i op stAlign (s.me i).pc := by
  have : (!fT i.w && s.strict) = false := by
    obtain e | e := hno <;> simp [e]
  rw [State.fabric_eq h, this, hbad]
  rfl

theorem State.fabric_loose (h : ChalkReady s op i) (hT : fT i.w = false) (hs : s.strict = false)
    (hok : alignBad op i.w ((s.issuedBy i).fabricAccess op i (s.me i).pc).f = false) :
    s.fabric op i = ((s.issuedBy i).fabricLoose i ((s.issuedBy i).fabricAccess op i (s.me i).pc)
        ((s.issuedBy i).fabricAccess op i (s.me i).pc).f.cohort).giveWay i (s.me i).advance := by
  rw [State.fabric_eq h, hT, hs, hok]
  rfl

theorem State.fabric_timed (h : ChalkReady s op i) (hT : fT i.w = true)
    (hok : alignBad op i.w ((s.issuedBy i).fabricAccess op i (s.me i).pc).f = false) :
    s.fabric op i = ((s.issuedBy i).fabricTimed op i ((s.issuedBy i).fabricAccess op i (s.me i).pc)
        ((s.issuedBy i).fabricAccess op i (s.me i).pc).f.cohort).giveWay i (s.me i).advance := by
  rw [State.fabric_eq h, hT, hok]
  rfl

/-! ### OMV -/

/-- The first Slate word of an OMV is read where it is issued. -/
theorem beginRead_omvAccess (t : State) (pc : BitVec 12) :
    t.beginRead (deskOf i) { t.omvAccess i pc with timed := false } =
      { t.omvAccess i pc with
        timed := false, since := some t.now,
        f := { (t.omvAccess i pc).f with payload := t.bytes (slateBase (deskOf i) + 16 * fSoff i.w) 16 } } := by
  simp [State.beginRead, Access.reads, State.omvAccess, State.readWords]

/-- An access whose Slate words are not all read stays with its Seat. -/
theorem State.pumpSeat_of_partial {d : Nat} {k : Fin 4} {b : Access} (h : s.accesses d k = [b]) (hfull : b.full = false) :
    s.pumpSeat d k = s.settleSeat d k := by
  have found : s.access d k b.id = some b := by simp [State.access, h]
  have stay : s.mayGo d k b = false := by simp [State.mayGo, hfull]
  simp [State.pumpSeat, h, State.forAll, found, stay]

theorem Seat.settle_acc (x : Seat) : x.settle.acc = x.acc := by
  unfold Seat.settle
  split
  · rfl
  · split <;> rfl

theorem State.me_giveWay (t : State) (x : Seat) : (t.giveWay i x).me i = t.me i := by
  unfold State.giveWay
  split
  · split
    · exact State.seat_switchSeat ..
    · rfl
  · rfl

theorem State.regs_giveWay (t : State) (x : Seat) : (t.giveWay i x).regs = t.regs := by
  unfold State.giveWay
  split
  · split <;> rfl
  · rfl

theorem State.mem_giveWay (t : State) (x : Seat) : (t.giveWay i x).mem = t.mem := by
  unfold State.giveWay
  split
  · split <;> rfl
  · rfl

/-- The access of an OMV that needs no slot, with its number and its first Slate word. -/
def State.omvSent (s : State) (i : ChalkOp) : Access × State :=
  (s.issuedBy i).newAccess i ((s.issuedBy i).beginRead (deskOf i) { (s.issuedBy i).omvAccess i (s.me i).pc with timed := false })

theorem exec_chOmv_strict (h : ChalkReady s 0x69 i) (hs : s.strict = true) :
    exec (.chOmv i) s = .next ((s.issuedBy i).refuse i 0x69 stStrict (s.me i).pc) := by
  refine congrArg Host.Outcome.next ((State.issue_eq_of_ready h).trans ?_)
  exact if_pos hs

theorem exec_chOmv_loose (h : ChalkReady s 0x69 i) (hs : s.strict = false) (hT : fT i.w = false) (hacc : (s.me i).acc = [])
    (hleft : (s.desk (deskOf i)).left = []) :
    exec (.chOmv i) s = .next (((s.omvSent i).2.settleSeat (deskOf i) i.seat).giveWay i (s.me i).advance) := by
  refine congrArg Host.Outcome.next ((State.issue_eq_of_ready h).trans ?_)
  have strict : (s.issuedBy i).strict = false := hs
  have timed : ((s.issuedBy i).omvAccess i (s.me i).pc).timed = false := hT
  have partly : (s.omvSent i).1.full = false := by
    rw [State.omvSent, beginRead_omvAccess]
    simp [State.newAccess, Access.full, Access.reads, State.omvAccess, State.bytes]
  have sole : (s.omvSent i).2.accesses (deskOf i) i.seat = [(s.omvSent i).1] := by
    refine State.accesses_newAccess _ ?_ ?_
    · rw [State.me_issuedBy, Seat.advance_acc, hacc]
    · rw [State.desk_issuedBy, hleft]
  simp only [strict, timed, Bool.not_false, Bool.false_eq_true, if_false, if_true, State.omvLoose]
  rw [← State.pumpSeat_of_partial sole partly, State.omvSent, State.me_issuedBy]

/-- The Seat of such an OMV has it outstanding. -/
theorem State.acc_omvSent (hacc : (s.me i).acc = []) (x : Seat) :
    ((((s.omvSent i).2.settleSeat (deskOf i) i.seat).giveWay i x).me i).acc = [(s.omvSent i).1] := by
  rw [State.me_giveWay, State.settleSeat, State.me_setSeat, Seat.settle_acc, State.omvSent, State.seat_newAccess, State.me_issuedBy,
    Seat.advance_acc, hacc]
  rfl

end

/-- The four forms of a fabric instruction at issue. -/
theorem fabric_forms {s : State} {op : Nat} {i : ChalkOp} {c : Instr} (hc : exec c s = .next (s.fabric op i)) (h : ChalkReady s op i) :
    (fT i.w = false → s.strict = true → Does c s (fun t =>
      SeatOnly s t i ((s.me i).advance.record stStrict (accKind op).isLoad (s.me i).pc))) ∧
    ((fT i.w = true ∨ s.strict = false) → alignBad op i.w ((s.issuedBy i).fabricAccess op i (s.me i).pc).f = true →
      exec c s = .next ((s.issuedBy i).refuse i op stAlign (s.me i).pc)) ∧
    (fT i.w = false → s.strict = false → alignBad op i.w ((s.issuedBy i).fabricAccess op i (s.me i).pc).f = false →
      exec c s = .next (((s.issuedBy i).fabricLoose i ((s.issuedBy i).fabricAccess op i (s.me i).pc)
        ((s.issuedBy i).fabricAccess op i (s.me i).pc).f.cohort).giveWay i (s.me i).advance)) ∧
    (fT i.w = true → alignBad op i.w ((s.issuedBy i).fabricAccess op i (s.me i).pc).f = false →
      exec c s = .next (((s.issuedBy i).fabricTimed op i ((s.issuedBy i).fabricAccess op i (s.me i).pc)
        ((s.issuedBy i).fabricAccess op i (s.me i).pc).f.cohort).giveWay i (s.me i).advance)) := by
  rw [hc]
  refine ⟨fun hT hs => ?_, fun hno hbad => ?_, fun hT hs hok => ?_, fun hT hok => ?_⟩
  · refine ⟨_, hc.trans (congrArg Host.Outcome.next (State.fabric_strict h hT hs)), ?_⟩
    have loose : isTimed op i.w = false := by simp [isTimed, hT]
    rw [State.refuse_loose loose, State.me_issuedBy]
    exact State.seatOnly_putMe_issuedBy _
  · rw [State.fabric_align h hno hbad]
  · rw [State.fabric_loose h hT hs hok]
  · rw [State.fabric_timed h hT hok]

/-- Settles O6: the seven fabric instructions by their forms, OMV by its own. -/
theorem fabricAccesses : Obligations.FabricAccesses := by
  refine ⟨fun i s => fabric_forms rfl, fun i s => fabric_forms rfl, fun i s => fabric_forms rfl, fun i s => fabric_forms rfl,
    fun i s => fabric_forms rfl, fun i s => fabric_forms rfl, fun i s => fabric_forms rfl, fun i s => exec_chOmv_strict,
    fun i s h hs hT hacc hleft => ⟨_, exec_chOmv_loose h hs hT hacc hleft, (s.omvSent i).1, ?_, State.acc_omvSent hacc _, ?_⟩,
    fun b hb hle => if_pos ⟨hb, hle⟩⟩
  · rw [State.acc_omvSent hacc]
    exact List.mem_singleton_self _
  · rw [State.omvSent, beginRead_omvAccess]
    refine ⟨rfl, rfl, ?_, State.bytes_of_mem rfl _ _, rfl, fun a => ?_, SameMemory.of_mem ?_⟩
    · rw [State.omvAccess, State.me_issuedBy]
      exact congrArg (fun v => omvDest v.toNat) (Seat.advance_sr ..)
    · rw [State.reg, State.regs_giveWay]
      rfl
    · rw [State.mem_giveWay]
      rfl

end Sys2Proof.Machine
end

section
/-! SUPPORT. The new values of atomics, and the precedence of statuses. -/

namespace Sys2Proof.Machine

theorem leNat_lt (l : List Byte) : leNat l < 2 ^ (8 * l.length) := by
  induction l with
  | nil => simp [leNat]
  | cons b r ih =>
    have := b.isLt
    simp only [leNat, List.length_cons, Nat.mul_add, Nat.pow_add]
    omega

theorem leAt_lt (l : List Byte) (off n : Nat) : leAt l off n < 2 ^ (8 * n) :=
  (leNat_lt _).trans_le (Nat.pow_le_pow_right (by decide) (Nat.mul_le_mul_left 8 (List.length_take_le ..)))

/-- FADD on the integer types. -/
theorem atomicNew_add {t : Nat} (old : Nat) (arg : List Byte) (ht : t < 4) : atomicNew (0x20 + t) old arg =
    (old + leAt arg 0 (operandSize (0x20 + t))) % 2 ^ (8 * operandSize (0x20 + t)) := by
  have family : (0x20 + t) / 16 = 2 := by omega
  have type : (0x20 + t) % 16 = t := by omega
  have int : typeFmt t = none := by
    interval_cases t <;> rfl
  simp only [atomicNew, family, type, int, if_true]

/-- MIN and MAX of the integer types: the old value stays unless the operand is less, or greater. -/
theorem atomicNew_minMax (old : Nat) (arg : List Byte) :
    atomicNew 0x30 old arg = (if leAt arg 0 4 < old then leAt arg 0 4 else old) ∧
    atomicNew 0x40 old arg = (if old < leAt arg 0 4 then leAt arg 0 4 else old) ∧
    atomicNew 0x32 old arg = (if leAt arg 0 8 < old then leAt arg 0 8 else old) ∧
    atomicNew 0x42 old arg = (if old < leAt arg 0 8 then leAt arg 0 8 else old) ∧
    atomicNew 0x31 old arg = (if sgn 32 (leAt arg 0 4) < sgn 32 old then leAt arg 0 4 else old) ∧
    atomicNew 0x41 old arg = (if leAt arg 0 4 = old ∨ sgn 32 (leAt arg 0 4) < sgn 32 old then old else leAt arg 0 4) := by
  have size : operandSize 48 = 4 ∧ operandSize 64 = 4 ∧ operandSize 50 = 8 ∧ operandSize 66 = 8 ∧ operandSize 49 = 4 ∧
    operandSize 65 = 4 := by decide
  obtain ⟨h30, h40, h32, h42, h31, h41⟩ := size
  unfold atomicNew
  refine ⟨?_, ?_, ?_, ?_, ?_, ?_⟩
  · simp [typeFmt, h30]; split_ifs <;> omega
  · simp [typeFmt, h40]; split_ifs <;> omega
  · simp [typeFmt, h32]; split_ifs <;> omega
  · simp [typeFmt, h42]; split_ifs <;> omega
  · simp only [h31]
    by_cases he : leAt arg 0 4 = old
    · simp [typeFmt, he]
    · by_cases hl : sgn 32 (leAt arg 0 4) < sgn 32 old <;> simp [typeFmt, he, hl]
  · simp only [h41]
    by_cases he : leAt arg 0 4 = old
    · simp [typeFmt, he]
    · by_cases hl : sgn 32 (leAt arg 0 4) < sgn 32 old <;> simp [typeFmt, he, hl]

/-- Settles O16: sums, minima and maxima by the lemmas above, and the other opcodes by the rows of `atomicNew`. -/
theorem atomicValues : Obligations.AtomicValues := by
  refine ⟨fun t old arg => atomicNew_add old arg, fun old arg => ?_, fun old arg _ => ?_, fun old arg => ?_⟩
  · obtain ⟨h30, h40, h32, h42, -, -⟩ := atomicNew_minMax old arg
    rw [h30, h40, h32, h42]
    refine ⟨?_, ?_, ?_, ?_⟩ <;> split <;> omega
  · obtain ⟨-, -, -, -, h31, h41⟩ := atomicNew_minMax old arg
    rw [h31, h41]
    constructor
    · split <;> omega
    · by_cases he : leAt arg 0 4 = old
      · simp [he]
      · by_cases hl : sgn 32 (leAt arg 0 4) < sgn 32 old
        · rw [if_pos (.inr hl), max_eq_left hl.le]
        · rw [if_neg (not_or.mpr ⟨he, hl⟩), max_eq_right (not_lt.mp hl)]
  · exact ⟨rfl, rfl, rfl, rfl, rfl, rfl, rfl, rfl, rfl, rfl⟩

/-! ### The precedence of statuses -/

section
variable {s : State} {r : Req}

/-- The checks of the shape: the limits, one place, and a record's own. -/
def State.misshapen (s : State) (r : Req) : Bool :=
  !shapeOk (s.whereIs (Req.off r)) r.f || (decide (0 < Req.len r) &&
    !(Where.same (s.whereIs (Req.off r)) (s.whereIs (Req.off r + Req.len r - 1)))) || (s.isRecord r && !recordOk r.f)
/-- The checks of permission: the region's, a torn cohort's and a collective's. -/
def State.unpermitted (s : State) (r : Req) : Bool :=
  !admitted (s.whereIs (Req.off r)) r || (Req.isFrame r && s.sec.torn.contains r.f.cohort.toNat) ||
    (s.collRule r).map Prod.fst = some stPerm

theorem State.refusal_eq : s.refusal r =
    if s.isFenced (s.whereIs (Req.off r)) (Req.off r) (Req.len r) then some stFenced
    else if s.whereIs (Req.off r) = .hole then some stUnmapped
    else if s.misshapen r then some stAlign
    else if s.unpermitted r then some stPerm
    else if s.sealRefuses r then some stSealed
    else if s.roleRefuses (s.whereIs (Req.off r)) r.f then some stRole
    else none := rfl

theorem State.shapeOk_of_not_misshapen (h : s.misshapen r = false) : shapeOk (s.whereIs (Req.off r)) r.f = true := by
  simp only [State.misshapen, Bool.or_eq_false_iff, Bool.not_eq_false'] at h
  exact h.1.1

theorem State.admitted_of_not_unpermitted (h : s.unpermitted r = false) : admitted (s.whereIs (Req.off r)) r = true := by
  simp only [State.unpermitted, Bool.or_eq_false_iff, Bool.not_eq_false'] at h
  exact h.1.1

theorem State.misshapen_of_shape (h : shapeOk (s.whereIs (Req.off r)) r.f = false) : s.misshapen r = true := by
  simp [State.misshapen, h]

theorem State.deskOf_of_roleRefuses {w : Where} {f : Frame} (h : s.roleRefuses w f = true) : ∃ d, Where.deskOf w = some d := by
  unfold State.roleRefuses at h
  split at h
  · exact ⟨_, ‹_›⟩
  · cases h

/-- Each check that comes after another is reached only where that one holds. -/
inductive State.RefusalCase (s : State) (r : Req) : Prop
  | early (st : BitVec 5) (h : s.refusal r = some st) (hst : st = stFenced ∨ st = stUnmapped ∨ st = stAlign)
  | perm (h : s.refusal r = some stPerm) (shape : s.misshapen r = false)
  | sealed (h : s.refusal r = some stSealed) (shape : s.misshapen r = false) (perm : s.unpermitted r = false)
  | role (h : s.refusal r = some stRole) (shape : s.misshapen r = false) (perm : s.unpermitted r = false)
      (seals : s.sealRefuses r = false) (role : s.roleRefuses (s.whereIs (Req.off r)) r.f = true)
  | none (h : s.refusal r = .none) (shape : s.misshapen r = false) (perm : s.unpermitted r = false)
      (seals : s.sealRefuses r = false) (role : s.roleRefuses (s.whereIs (Req.off r)) r.f = false)

theorem State.refusalCase (s : State) (r : Req) : s.RefusalCase r := by
  by_cases hf : s.isFenced (s.whereIs (Req.off r)) (Req.off r) (Req.len r)
  · exact .early _ (by rw [State.refusal_eq, if_pos hf]) (.inl rfl)
  by_cases hh : s.whereIs (Req.off r) = .hole
  · exact .early _ (by rw [State.refusal_eq, if_neg hf, if_pos hh]) (.inr (.inl rfl))
  by_cases hs : s.misshapen r
  · exact .early _ (by rw [State.refusal_eq, if_neg hf, if_neg hh, if_pos hs]) (.inr (.inr rfl))
  have hs' := Bool.eq_false_of_not_eq_true hs
  by_cases hp : s.unpermitted r
  · exact .perm (by rw [State.refusal_eq, if_neg hf, if_neg hh, if_neg hs, if_pos hp]) hs'
  have hp' := Bool.eq_false_of_not_eq_true hp
  by_cases hl : s.sealRefuses r
  · exact .sealed (by rw [State.refusal_eq, if_neg hf, if_neg hh, if_neg hs, if_neg hp, if_pos hl]) hs' hp'
  have hl' := Bool.eq_false_of_not_eq_true hl
  by_cases hr : s.roleRefuses (s.whereIs (Req.off r)) r.f
  · exact .role (by rw [State.refusal_eq, if_neg hf, if_neg hh, if_neg hs, if_neg hp, if_neg hl, if_pos hr]) hs' hp' hl' hr
  · exact .none (by rw [State.refusal_eq, if_neg hf, if_neg hh, if_neg hs, if_neg hp, if_neg hl, if_neg hr]) hs' hp' hl'
      (Bool.eq_false_of_not_eq_true hr)

end

/-- Settles O17: the first three statuses by the order of the checks, the others by the check that answered. -/
theorem statusPrecedence : Obligations.StatusPrecedence := by
  intro s r w
  refine ⟨fun h => ?_, fun h hw => ?_, fun h hw hs => ?_, fun h => ?_, fun h => ?_, fun h => ?_, fun h => ?_⟩
  · rw [State.refusal_eq, if_pos h]
  · rw [State.refusal_eq, if_neg (ne_true_of_eq_false h), if_pos hw]
  · rw [State.refusal_eq, if_neg (ne_true_of_eq_false h), if_neg hw, if_pos (State.misshapen_of_shape hs)]
  · cases s.refusalCase r with
    | early st e hst => rw [e] at h; cases h; exact absurd hst (by decide)
    | perm e shape => exact State.shapeOk_of_not_misshapen shape
    | sealed e | role e | none e => rw [e] at h; exact absurd h (by decide)
  · cases s.refusalCase r with
    | early st e hst => rw [e] at h; cases h; exact absurd hst (by decide)
    | sealed e shape perm => exact ⟨State.admitted_of_not_unpermitted perm, State.shapeOk_of_not_misshapen shape⟩
    | perm e | role e | none e => rw [e] at h; exact absurd h (by decide)
  · cases s.refusalCase r with
    | early st e hst => rw [e] at h; cases h; exact absurd hst (by decide)
    | role e shape perm seals role =>
      exact ⟨seals, State.admitted_of_not_unpermitted perm, State.shapeOk_of_not_misshapen shape, State.deskOf_of_roleRefuses role⟩
    | perm e | sealed e | none e => rw [e] at h; exact absurd h (by decide)
  · cases s.refusalCase r with
    | none e shape perm seals role =>
      exact ⟨role, seals, State.admitted_of_not_unpermitted perm, State.shapeOk_of_not_misshapen shape⟩
    | early st e | perm e | sealed e | role e => rw [e] at h; exact absurd h nofun

end Sys2Proof.Machine
end

section
/-! SUPPORT. What a performed request does to memory. -/

namespace Sys2Proof.Machine

theorem leBytes_length (n v : Nat) : (leBytes n v).length = n := by
  induction n generalizing v with
  | zero => rfl
  | succ n ih => rw [leBytes, List.length_cons, ih]

section
variable {s : State}

theorem SameMemoryBut.trans {s t u : State} {a n : Nat} (h : SameMemoryBut s t a n) (k : SameMemoryBut t u a n) :
    SameMemoryBut s u a n := fun c hc => (k c hc).trans (h c hc)

theorem SameMemoryBut.of_mem {s t : State} (a n : Nat) (h : t.mem = s.mem) : SameMemoryBut s t a n :=
  fun c _ => State.byte_of_mem h c

/-- What each application keeps outside a range, all of them keep. -/
theorem SameMemoryBut.forAll {α : Type} {a n : Nat} {op : State → α → State} (l : List α)
    (h : ∀ t, ∀ x ∈ l, SameMemoryBut t (op t x) a n) : SameMemoryBut s (s.forAll l op) a n := by
  induction l generalizing s with
  | nil => exact fun _ _ => rfl
  | cons x r ih => exact (h s x List.mem_cons_self).trans (ih fun t y hy => h t y (List.mem_cons_of_mem _ hy))

theorem State.forAll_mem {α : Type} {op : State → α → State} (l : List α) (h : ∀ t x, (op t x).mem = t.mem) :
    (s.forAll l op).mem = s.mem := State.forAll_proj State.mem h

theorem State.countBad_mem (l : List Nat) : (s.countBad l).mem = s.mem := State.forAll_mem l fun _ _ => rfl

theorem SameMemoryBut.setBytes {a n lo : Nat} {l : List Byte} (h1 : a ≤ lo) (h2 : lo + l.length ≤ a + n) :
    SameMemoryBut s (s.setBytes lo l) a n := fun c hc => State.byte_setBytes_outside _ _ _ _ (by omega)

/-- The lines of a store change bytes of its range alone, whatever lines are left out. -/
theorem SameMemoryBut.storeLine (a : Nat) (data : List Byte) (l : Nat) :
    SameMemoryBut s ((s.storeLine a data l).burst l false true) a data.length := fun c hc => by
  rw [State.byte_of_mem (State.burst_mem ..), State.byte_storeLine, if_neg (by omega)]

theorem SameMemoryBut.storeMem (s : State) (a : Nat) (data : List Byte) : SameMemoryBut s (s.storeMem a data).2 a data.length := by
  have lines : SameMemoryBut s (s.forAll (linesOf a data.length) (fun t l =>
      if ((linesOf a data.length).filter (fun l => s.lineBad l &&
        decide ((span a data.length l).2 - (span a data.length l).1 < 64))).contains l then t
      else (t.storeLine a data l).burst l false true)) a data.length := by
    refine SameMemoryBut.forAll _ fun t l _ => ?_
    split
    · exact fun _ _ => rfl
    · exact SameMemoryBut.storeLine a data l
  unfold State.storeMem
  dsimp only
  split
  · exact lines
  · exact lines.trans (SameMemoryBut.of_mem _ _ (State.countBad_mem _))

theorem mem_linesOf_span {a n l : Nat} (h : l ∈ linesOf a n) : a ≤ (span a n l).1 ∧ (span a n l).1 ≤ (span a n l).2 ∧
    (span a n l).2 ≤ a + n := by
  obtain ⟨hn, h1, h2⟩ := mem_linesOf.mp h
  simp only [span]
  omega

/-- The sums of one line's elements take no more bytes than the part of the payload that they come from. -/
theorem sums_length_le (s : State) (z lo : Nat) (part : List Byte) : ((List.range (elems z part).length).flatMap (fun i =>
    leBytes z (s.num (lo + i * z) z + (elems z part).getD i 0))).length ≤ part.length := by
  simp only [List.length_flatMap, leBytes_length, List.map_const', List.sum_replicate, List.length_range, elems, List.length_map,
    smul_eq_mul]
  exact Nat.div_mul_le_self ..

/-- An integer RED writes whole elements of the part of each line. -/
theorem SameMemoryBut.addInts (s : State) (z a : Nat) (pay : List Byte) : SameMemoryBut s (s.addInts z a pay).2 a pay.length := by
  unfold State.addInts
  dsimp only
  generalize hbad : (linesOf a pay.length).filter s.lineBad = bad
  have lines : SameMemoryBut s (s.forAll (linesOf a pay.length) (fun t l => if bad.contains l then t else
      ((t.dropSlot l).setBytes (span a pay.length l).1 ((List.range (elems z ((pay.drop ((span a pay.length l).1 - a)).take
        ((span a pay.length l).2 - (span a pay.length l).1))).length).flatMap (fun i => leBytes z
          (t.num ((span a pay.length l).1 + i * z) z + (elems z ((pay.drop ((span a pay.length l).1 - a)).take
            ((span a pay.length l).2 - (span a pay.length l).1))).getD i 0)))).burst l true true)) a pay.length := by
    refine SameMemoryBut.forAll _ fun t l hl => ?_
    split
    · exact fun _ _ => rfl
    · obtain ⟨h1, h2, h3⟩ := mem_linesOf_span hl
      have fits := sums_length_le t z (span a pay.length l).1 ((pay.drop ((span a pay.length l).1 - a)).take
        ((span a pay.length l).2 - (span a pay.length l).1))
      rw [List.length_take] at fits
      refine ((SameMemoryBut.of_mem _ _ (State.dropSlot_mem t l)).trans (SameMemoryBut.setBytes h1 ?_)).trans
        (SameMemoryBut.of_mem _ _ (State.burst_mem ..))
      omega
  split
  · exact lines
  · exact lines.trans (SameMemoryBut.of_mem _ _ (State.countBad_mem _))

variable {r : Req} {u : Int}

/-- A load with no line in error returns the bytes and leaves memory alone. -/
theorem State.performMem_load (hop : isLd (Req.op r) = true) (hgood : ∀ l ∈ Req.lines r, s.lineBad l = false) :
    s.performMem r u [] = (stOk, s.bytes (Req.off r) (Req.len r), s.forAll (Req.lines r) (fun s l => s.burst l true false)) := by
  have good : (Req.lines r).filter (fun l => s.lineBad l && !([] : List (Nat × List Byte)).any (fun x => x.1 = l)) = [] :=
    List.filter_eq_nil_iff.mpr fun l hl => by simp [hgood l hl]
  have same := State.bytes_of_mem (s.forAll_mem (op := fun s l => s.burst l true false) (Req.lines r)
    fun t l => t.burst_mem l true false) (Req.off r) (Req.len r)
  simp only [State.performMem, good, hop, if_true, List.isEmpty_nil, State.readOver, same]

/-- An atomic with no line in error returns the old value and leaves the new one. -/
theorem State.performMem_atomic (hop : 2 ≤ Req.op r / 16) (hrec : s.isRecord r = false) (hslot : s.slotted (Req.op r) = false)
    (hgood : ∀ l ∈ Req.lines r, s.lineBad l = false) :
    s.performMem r u [] = (stOk, s.bytes (Req.off r) (operandSize (Req.op r)),
      (s.forAll (Req.lines r) (fun s l => (s.dropSlot l).burst l true true)).setBytes (Req.off r) (leBytes (operandSize (Req.op r))
        (atomicNew (Req.op r) (leNat (s.bytes (Req.off r) (operandSize (Req.op r)))) r.f.payload))) := by
  have good : (Req.lines r).filter (fun l => s.lineBad l && !([] : List (Nat × List Byte)).any (fun x => x.1 = l)) = [] :=
    List.filter_eq_nil_iff.mpr fun l hl => by simp [hgood l hl]
  have ld : isLd (Req.op r) = false := decide_eq_false (by omega)
  have st : isStore (Req.op r) = false := by simp only [isStore, Bool.or_eq_false_iff, decide_eq_false_iff_not]; omega
  have red : isRed (Req.op r) = false := decide_eq_false (by omega)
  simp only [State.performMem, good, ld, st, red, hrec, hslot, Bool.false_eq_true, if_false, List.isEmpty_nil, Bool.not_true]

theorem State.atomicLines_mem (l : List Nat) : (s.forAll l (fun s l => (s.dropSlot l).burst l true true)).mem = s.mem :=
  State.forAll_mem l fun t x => (State.burst_mem ..).trans (State.dropSlot_mem t x)

/-- A slotted addition fails with DATA_ERR alone. -/
theorem State.addSlots_status (t : Nat) (fmt : Fmt) (a : Nat) (pay : List Byte) :
    (s.addSlots t fmt a pay u).1 = stOk ∨ (s.addSlots t fmt a pay u).1 = stDataErr := by
  unfold State.addSlots
  dsimp only
  split
  · split
    · exact .inl rfl
    · exact .inr rfl
  · exact .inr rfl

end

/-- Settles O15: loads, stores, atomics and REDs by the lemmas above. -/
theorem memoryEffects : Obligations.MemoryEffects := by
  refine ⟨fun s r u hop hgood => ?_, fun s a data hgood => ?_, SameMemoryBut.storeMem, fun s r u hop hrec hslot hgood => ?_,
    fun s z a pay _ => SameMemoryBut.addInts s z a pay, fun s t fmt a pay u h => (State.addSlots_status t fmt a pay).resolve_left h⟩
  · rw [State.performMem_load hop hgood]
    exact ⟨rfl, rfl, SameMemory.of_mem (State.forAll_mem _ fun t l => t.burst_mem l true false)⟩
  · refine ⟨?_, State.bytes_storeMem hgood, SameMemoryBut.storeMem s a data⟩
    rw [State.storeMem_of_good hgood]
  · rw [State.performMem_atomic hop hrec hslot hgood]
    generalize hnew : leBytes (operandSize (Req.op r)) (atomicNew (Req.op r) (leNat (s.bytes (Req.off r) (operandSize (Req.op r))))
      r.f.payload) = new
    have len : new.length = operandSize (Req.op r) := by rw [← hnew, leBytes_length]
    refine ⟨rfl, rfl, (SameMemoryBut.of_mem _ _ (State.atomicLines_mem _)).trans (SameMemoryBut.setBytes (Nat.le_refl _) (by omega)), ?_⟩
    rw [← len]
    exact State.bytes_setBytes ..

end Sys2Proof.Machine
end

section
/-! SUPPORT. What the Centroid and the source engines leave alone: a property of states that does not look at what they write is kept. -/

namespace Sys2Proof.Machine

/-- Registers in which the Centroid and the source engines count. -/
def fabricCounter (a : Nat) : Prop :=
  (∃ n, a = swReg n swHdrErr) ∨ (∃ n c, c < 4 ∧ a = swReg n (swWredDrop + 8 * c)) ∨ a = rEjectMismatch ∨ a = rUndelivered ∨
    a = rRespDrop ∨ a = rMcStatus

/-- Nothing of the fabric differs but what queues and admits frames. -/
def Fab.sameButQueues (x y : Fab) : Prop :=
  { y with voq := x.voq, entry := x.entry, lfsr := x.lfsr, mcHeld := x.mcHeld, nextId := x.nextId } = x

/-- A property that a frame on its way does not touch: it does not look at the fabric's queues, the outputs, the fabric's counters or, where
`D` says that the frame may come from the port of a DEP-7, at the DEP-7s. -/
structure FrameFree (D : Prop) (P : State → Prop) : Prop where
  fab : ∀ {s : State} (x : Fab), s.fab.sameButQueues x → P s → P { s with fab := x }
  out : ∀ {s : State} (x : List Out), P s → P { s with out := x }
  reg : ∀ {s : State} {a : Nat} (v : Word), fabricCounter a → P s → P (s.setReg a v)
  deps : D → ∀ {s : State} (x : Tab Dep), P s → P { s with deps := x }

/-- What each application keeps, all of them keep. -/
theorem State.forAll_induct {α : Type} {P : State → Prop} {op : State → α → State} {l : List α} {s : State} (hs : P s)
    (h : ∀ t x, P t → P (op t x)) : P (s.forAll l op) := by
  induction l generalizing s with
  | nil => exact hs
  | cons x r ih => exact ih (h s x hs)

theorem fabricCounter_swHdrErr (n : Nat) : fabricCounter (swReg n swHdrErr) := .inl ⟨n, rfl⟩
theorem fabricCounter_swWredDrop (n : Nat) (c : BitVec 2) : fabricCounter (swReg n (swWredDrop + 8 * c.toNat)) :=
  .inr (.inl ⟨n, c.toNat, c.isLt, rfl⟩)
theorem fabricCounter_rEjectMismatch : fabricCounter rEjectMismatch := .inr (.inr (.inl rfl))
theorem fabricCounter_rUndelivered : fabricCounter rUndelivered := .inr (.inr (.inr (.inl rfl)))
theorem fabricCounter_rRespDrop : fabricCounter rRespDrop := .inr (.inr (.inr (.inr (.inl rfl))))
theorem fabricCounter_rMcStatus : fabricCounter rMcStatus := .inr (.inr (.inr (.inr (.inr rfl))))

/-- The fabric's counters lie above the registers of the GLB, BELL, RST and PRIN blocks. -/
theorem fabricCounter_ge {a : Nat} (h : fabricCounter a) : 0x100060 ≤ a := by
  have sw (n off : Nat) : 0x100060 ≤ swReg n off := by
    unfold swReg rPortBlock rIntPort
    split <;> omega
  obtain ⟨n, rfl⟩ | ⟨n, c, -, rfl⟩ | rfl | rfl | rfl | rfl := h
  · exact sw n _
  · exact sw n _
  · decide
  · decide
  · decide
  · decide

namespace FrameFree

variable {D : Prop} {P : State → Prop} {s : State}

theorem count (hP : FrameFree D P) {a : Nat} (ha : fabricCounter a) (h : P s) : P (s.count a) := hP.reg _ ha h
theorem setRegF (hP : FrameFree D P) {a : Nat} (ha : fabricCounter a) (lo len v : Nat) (h : P s) : P (s.setRegF a lo len v) :=
  hP.reg _ ha h
theorem emit (hP : FrameFree D P) (o : Out) (h : P s) : P (s.emit o) := hP.out _ h
theorem setDep (hP : FrameFree D P) (hD : D) (q : Nat) (d : Dep) (h : P s) : P (s.setDep q d) := hP.deps hD _ h

theorem depLaunch (hP : FrameFree D P) (hD : D) (q : Nat) (f : Frame) (h : P s) : P (s.depLaunch q f) := by
  unfold State.depLaunch
  dsimp only
  split
  · exact hP.setDep hD _ _ h
  · exact hP.emit _ (hP.setDep hD _ _ h)

theorem returnCredit (hP : FrameFree D P) {p : Nat} (hp : p < 64 → D) (v n : Nat) (h : P s) : P (s.returnCredit p v n) := by
  unfold State.returnCredit
  dsimp only
  split
  · split
    case isTrue h64 =>
      exact State.forAll_induct (hP.setDep (hp h64) _ _ (hP.emit _ h)) fun t f ht => hP.depLaunch (hp h64) p f ht
    · exact hP.emit _ h
  · exact h

theorem wredDrop (hP : FrameFree D P) (o v c : Nat) (h : P s) : P (s.wredDrop o v c).2 := by
  unfold State.wredDrop
  dsimp only
  split
  · exact h
  · split
    · exact h
    · exact hP.fab _ rfl h

theorem admitNow (hP : FrameFree D P) {p : Nat} (hp : p < 64 → D) (out : Nat) (f : Frame) (h : P s) : P (s.admitNow p out f) := by
  have decided {w : Bool × State} (hw : P w.2) : P (if w.1 then
      (w.2.count (swReg out (swWredDrop + 8 * f.colour.toNat))).returnCredit p f.vc.toNat (Frame.cells f)
      else if w.2.placeFor f.vc.toNat (Frame.cells f) = .shared then
        (w.2.enqueue p out f (w.2.placeFor f.vc.toNat (Frame.cells f))).returnCredit p f.vc.toNat (Frame.cells f)
      else w.2.enqueue p out f (w.2.placeFor f.vc.toNat (Frame.cells f))) := by
    split
    · exact hP.returnCredit hp _ _ (hP.count (fabricCounter_swWredDrop ..) hw)
    · split
      · exact hP.returnCredit hp _ _ (hP.fab _ rfl hw)
      · exact hP.fab _ rfl hw
  refine decided ?_
  split
  · exact hP.wredDrop _ _ _ h
  · exact h

theorem admitFrame (hP : FrameFree D P) {p : Nat} (hp : p < 64 → D) (out : Nat) (f : Frame) (h : P s) : P (s.admitFrame p out f) := by
  unfold State.admitFrame
  split
  · exact hP.fab _ rfl h
  · exact hP.admitNow hp _ _ h

theorem discard (hP : FrameFree D P) (q : Nat) (gen : Bool) (f : Frame) (h : P s) : P (s.discard q gen f) := by
  unfold State.discard
  split
  · exact hP.count fabricCounter_rUndelivered h
  · split
    · exact hP.count fabricCounter_rRespDrop h
    · exact hP.count (fabricCounter_swHdrErr ..) h

theorem ejectTo (hP : FrameFree D P) {p : Nat} (hp : p < 64 → D) (out : Nat) (gen explicit : Bool) (f : Frame) (h : P s) : P (s.ejectTo p out gen explicit f) := by
  have back {t : State} (ht : P t) : P (t.returnCredit p f.vc.toNat (Frame.cells f)) := hP.returnCredit hp _ _ ht
  have hand (k : Sink) : P (match k with
      | .port q => s.admitFrame p q f
      | _ => (s.emit (.deliver k f)).returnCredit p f.vc.toNat (Frame.cells f)) := by
    cases k with
    | port q => exact hP.admitFrame hp _ _ h
    | control | multicast | source | bell => exact back (hP.emit _ h)
  unfold State.ejectTo
  dsimp only
  split
  · exact back h
  · split
    · exact hP.admitFrame hp _ _ h
    · split
      · exact hand .control
      · split
        · split
          · exact hand _
          · exact back (hP.discard _ _ _ h)
        · split
          · refine hP.emit _ ?_
            split
            · exact hP.fab _ rfl h
            · exact h
          · exact hP.admitFrame hp _ _ h

/-- A frame that the module itself makes. -/
theorem sendOwn (hP : FrameFree D P) {p : Nat} (hp : p < 64 → D) (gen : Bool) (f : Frame) (h : P s) : P (s.sendOwn p gen f) := by
  unfold State.sendOwn
  split
  · exact hP.discard _ _ _ h
  · dsimp only
    split
    · exact hP.admitFrame hp _ _ h
    · split
      · exact hP.count fabricCounter_rEjectMismatch (hP.discard _ _ _ h)
      · exact hP.ejectTo hp _ _ _ _ h

theorem sendRouted (hP : FrameFree D P) {p : Nat} (hp : p < 64 → D) (gen : Bool) (f : Frame) (h : P s) : P (s.sendRouted p gen f) := by
  unfold State.sendRouted
  split
  · exact hP.sendOwn hp _ _ h
  · exact hP.discard _ _ _ h

end FrameFree

/-- A property that a request's completion does not touch either. -/
structure ResultFree (P : State → Prop) : Prop extends FrameFree True P where
  fabric : ∀ {s : State} (x : Fab), P s → P { s with fab := x }
  seat : ∀ {s : State} (d k id : Nat) (st : BitVec 5) (data : List Byte), P s → P (s.resultDesk d k id st data)
  strm : ∀ {s : State} (w n : Nat) (f : Frame) (st : BitVec 5) (data : List Byte), P s →
    P (s.setStrm w n (Strm.result (s.strm w n) f st data))
  walks : ∀ {s : State} (x : List Walk), P s → P { s with xl := { s.xl with walks := x } }
  reads : ∀ {s : State} (x : List Bar2), P s → P { s with host := { s.host with reads := x } }
  irqs : ∀ {s : State} (x : List Nat), P s → P { s with host := { s.host with irqs := x } }

namespace ResultFree

variable {P : State → Prop} {s : State}

theorem endOwnMst (hP : ResultFree P) (f : Frame) (h : P s) : P (s.endOwnMst f) := by
  unfold State.endOwnMst
  split
  · exact hP.fabric _ h
  · exact h

theorem answerVia (hP : ResultFree P) (r : Req) (st : BitVec 5) (flags : BitVec 3) (data : List Byte) (h : P s) :
    P (s.answerVia r st flags data) := by
  unfold State.answerVia
  split
  · exact hP.sendRouted (fun _ => trivial) _ _ h
  · exact hP.seat _ _ _ _ _ (hP.endOwnMst _ h)
  · exact hP.strm _ _ _ _ _ (hP.endOwnMst _ h)

theorem mcAnswer (hP : ResultFree P) (r : Req) (st : BitVec 5) (n : Nat) (h : P s) : P (s.mcAnswer r st n) := by
  unfold State.mcAnswer
  dsimp only
  split
  · split
    · exact h
    · refine hP.answerVia _ _ _ _ ?_
      split
      · exact h
      · exact hP.fabric _ h
  · exact hP.answerVia _ _ _ _ h

theorem copyDone (hP : ResultFree P) (c : Nat) (st : BitVec 5) (h : P s) : P (s.copyDone c st) := by
  unfold State.copyDone
  split
  · exact h
  · dsimp only
    split
    · exact hP.mcAnswer _ _ _ (hP.setRegF fabricCounter_rMcStatus _ _ _ (hP.fabric _ h))
    · exact hP.fabric _ h

theorem tellOwner (hP : ResultFree P) (e : Nat) (f : Frame) (o : Owner) (st : BitVec 5) (data : List Byte) (h : P s) :
    P (s.tellOwner e f o st data) := by
  cases o with
  | none | relay g => exact h
  | desk d k id => exact hP.seat _ _ _ _ _ h
  | stream w n => exact hP.strm _ _ _ _ _ h
  | copy c => exact hP.copyDone _ _ h
  | walk i g => exact hP.walks _ h
  | host i => exact hP.reads _ h
  | die i =>
    unfold State.tellOwner
    dsimp only
    split
    · exact h
    · exact hP.setDep trivial _ _ h
  | satchel l =>
    unfold State.tellOwner
    dsimp only
    split
    · exact h
    · split
      · exact h
      · exact hP.setDep trivial _ _ h

theorem launch (hP : ResultFree P) (e : Nat) (o : Owner) (f : Frame) (h : P s) : P (s.launch e o f) := by
  unfold State.launch
  split
  · exact hP.sendOwn (fun _ => trivial) _ _ h
  · split
    · exact hP.depLaunch trivial _ _ h
    · exact h

theorem launchOwn (hP : ResultFree P) (r : SrcReq) (h : P s) : P (s.launchOwn r) := by
  unfold State.launchOwn
  dsimp only
  split
  · exact hP.emit _ (hP.fabric _ h)
  · exact hP.emit _ (hP.fabric _ h)
  · exact hP.fabric _ h

theorem colourOf (hP : ResultFree P) (e : Nat) (c : BitVec 10) (n : Nat) (h : P s) : P (s.colourOf e c n).2 := by
  have either {b : Bool} {x y : BitVec 2 × State} (hx : P x.2) (hy : P y.2) : P (if b then x else y).2 := by
    cases b
    · exact hy
    · exact hx
  exact either h (hP.fabric _ h)

theorem setPair (hP : ResultFree P) (e d : Nat) (x : Pair) (h : P s) : P (s.setPair e d x) := hP.fabric _ h

theorem sendFirst (hP : ResultFree P) {e : Nat} {d : BitVec 12} {rt : Vector Byte 16 × BitVec 4} {t : State} (h : P s)
    (ht : s.sendFirst e d rt = some t) : P t := by
  unfold State.sendFirst at ht
  dsimp only at ht
  split at ht
  · cases ht
  · split at ht
    · cases ht
    · split at ht
      · cases ht
        exact hP.launchOwn _ (hP.setPair _ _ _ h)
      · cases ht
        refine hP.launch _ _ _ (hP.setPair _ _ _ ?_)
        split
        · exact h
        · split
          · exact h
          · exact hP.colourOf _ _ _ h

theorem sendSync (hP : ResultFree P) (e : Nat) (d : BitVec 12) (r : Vector Byte 16 × BitVec 4) (h : P s) : P (s.sendSync e d r) := by
  unfold State.sendSync
  exact hP.launch _ _ _ (hP.setPair _ _ _ h)

theorem failWaiting (hP : ResultFree P) (e d : Nat) (st : BitVec 5) (h : P s) : P (s.failWaiting e d st) :=
  State.forAll_induct (hP.fabric _ h) fun _ _ ht => hP.tellOwner _ _ _ _ _ ht

theorem pump (hP : ResultFree P) (e : Nat) (d : BitVec 12) (k : Nat) (h : P s) : P (s.pump e d k) := by
  induction k generalizing s with
  | zero => exact h
  | succ k ih =>
    unfold State.pump
    dsimp only
    split
    · exact h
    · split
      · split
        · exact ih (hP.sendFirst h ‹_›)
        · exact h
      · split
        · exact hP.failWaiting _ _ _ h
        · split
          · exact hP.sendSync _ _ _ h
          · exact h
          · split
            · exact ih (hP.sendFirst h ‹_›)
            · exact h

/-- A request handed to a source engine. -/
theorem submit (hP : ResultFree P) (e : Nat) (f : Frame) (o : Owner) (h : P s) : P (s.submit e f o) :=
  hP.pump _ _ _ (hP.fabric _ (hP.fabric _ h))

theorem relayWord (hP : ResultFree P) (w : Nat) (v : List Byte) (h : P s) : P (s.relayWord w v) := hP.submit _ _ _ h

/-- An event raised. -/
theorem raise (hP : ResultFree P) (v : Nat) (h : P s) : P (s.raise v) := by
  unfold State.raise
  dsimp only
  split
  · exact hP.relayWord _ _ h
  · split
    · exact hP.emit _ h
    · split
      · exact h
      · exact hP.irqs _ h

/-- A fault bit of a Classroom set. -/
theorem classFault (hP : ResultFree P) (room bit : Nat) (hreg : ∀ {t : State} (v : Word), P t → P (t.setReg (roomReg room crFault) v))
    (h : P s) : P (s.classFault room bit) := by
  unfold State.classFault
  dsimp only
  split
  · exact h
  · split
    · exact hP.raise _ (hreg _ h)
    · exact hreg _ h

end ResultFree
end Sys2Proof.Machine
end

section
/-! SUPPORT. An integer RED, element by element. -/

namespace Sys2Proof.Machine

theorem leNat_leBytes (n v : Nat) : leNat (leBytes n v) = v % 256 ^ n := by
  induction n generalizing v with
  | zero => simp [leBytes, leNat, Nat.mod_one]
  | succ n ih =>
    have split : v % 256 ^ (n + 1) = v % 256 + 256 * (v / 256 % 256 ^ n) := by
      rw [pow_succ', Nat.mod_mul]
    rw [leBytes, leNat, ih, BitVec.toNat_ofNat, split]

/-- Element `i` of equally long pieces in a row. -/
theorem take_drop_flatMap {α : Type} {f : Nat → List α} {z : Nat} (h : ∀ i, (f i).length = z) {n i : Nat} (hi : i < n) :
    (((List.range n).flatMap f).drop (i * z)).take z = f i := by
  induction n with
  | zero => omega
  | succ n ih =>
    have len : ((List.range n).flatMap f).length = n * z := by
      simp [List.length_flatMap, h]
    rw [List.range_succ, List.flatMap_append, List.flatMap_singleton]
    by_cases he : i = n
    · subst he
      rw [List.drop_append_of_le_length (by omega), List.drop_of_length_le (by omega), List.nil_append,
        List.take_of_length_le (h i).le]
    · have hlt : i < n := by omega
      have room : i * z + z ≤ n * z := by
        rw [← Nat.succ_mul]
        exact Nat.mul_le_mul_right z hlt
      rw [List.drop_append_of_le_length (by omega), List.take_append_of_le_length (by rw [List.length_drop]; omega), ih hlt]

/-- Part of a byte string that was written. -/
theorem State.bytes_setBytes_part (s : State) (p : Nat) (l : List Byte) {o n : Nat} (h : o + n ≤ l.length) :
    (s.setBytes p l).bytes (p + o) n = (l.drop o).take n := by
  refine List.ext_getElem (by simp; omega) fun k h1 h2 => ?_
  have hk : k < n := by simpa using h1
  rw [State.bytes_getElem, State.byte_setBytes, if_pos (by omega), List.getElem_take, List.getElem_drop,
    List.getD_eq_getElem _ _ (by omega)]
  congr 1
  omega

theorem linesOf_nodup (a n : Nat) : (linesOf a n).Nodup := by
  unfold linesOf
  split
  · exact List.nodup_nil
  · exact List.nodup_range.map fun x y h => by omega

/-- The part of an integer RED that falls in one line. -/
def State.addLineInts (s : State) (z a : Nat) (pay : List Byte) (l : Nat) : State :=
  let p := span a pay.length l
  let xs := elems z ((pay.drop (p.1 - a)).take (p.2 - p.1))
  ((s.dropSlot l).setBytes p.1 ((List.range xs.length).flatMap (fun i => leBytes z (s.num (p.1 + i * z) z + xs.getD i 0)))).burst l true true

/-- With no line in error an integer RED is performed on every line. -/
theorem State.addInts_of_good {s : State} {z a : Nat} {pay : List Byte} (h : ∀ l ∈ linesOf a pay.length, s.lineBad l = false) :
    s.addInts z a pay = (stOk, s.forAll (linesOf a pay.length) (fun s l => s.addLineInts z a pay l)) := by
  have none : (linesOf a pay.length).filter s.lineBad = [] := List.filter_eq_nil_iff.mpr fun l hl => by simp [h l hl]
  simp only [State.addInts, none, List.isEmpty_nil, if_true, List.contains_nil, Bool.false_eq_true, if_false]
  rfl

section
variable {s : State} {z a : Nat} {pay : List Byte}

theorem SameMemoryBut.addLineInts (l : Nat) (hl : l ∈ linesOf a pay.length) :
    SameMemoryBut s (s.addLineInts z a pay l) (span a pay.length l).1 ((span a pay.length l).2 - (span a pay.length l).1) := by
  obtain ⟨-, h2, -⟩ := mem_linesOf_span hl
  have fits := sums_length_le s z (span a pay.length l).1 ((pay.drop ((span a pay.length l).1 - a)).take
    ((span a pay.length l).2 - (span a pay.length l).1))
  rw [List.length_take] at fits
  refine ((SameMemoryBut.of_mem _ _ (State.dropSlot_mem s l)).trans (SameMemoryBut.setBytes (Nat.le_refl _) ?_)).trans
    (SameMemoryBut.of_mem _ _ (State.burst_mem ..))
  omega

/-- An aligned element lies in one line: its place in the part of the payload that falls in that line. -/
structure ElementAt (z a len k l : Nat) : Prop where
  size  : z = 4 ∨ z = 8
  start : a % z = 0
  whole : len % z = 0
  inside : k * z < len
  line  : l = (a + k * z) / 64

theorem ElementAt.place {z a len k l : Nat} (h : ElementAt z a len k l) :
    ∃ i, (span a len l).1 + i * z = a + k * z ∧ (span a len l).1 - a + i * z = k * z ∧ (i + 1) * z ≤ (span a len l).2 - (span a len l).1 ∧
      (span a len l).1 - a + ((span a len l).2 - (span a len l).1) ≤ len ∧ 64 * l ≤ a + k * z ∧ a + k * z + z ≤ 64 * l + 64 := by
  obtain ⟨hz, ha, hn, hk, rfl⟩ := h
  refine ⟨(a + k * z - max a (64 * ((a + k * z) / 64))) / z, ?_⟩
  simp only [span]
  obtain rfl | rfl := hz <;> omega

/-- The element of a line's part of the payload. -/
theorem elems_getD {z lo hi j k : Nat} (pay : List Byte) (hk : lo + j * z = k * z) (hj : (j + 1) * z ≤ hi) (hlen : lo + hi ≤ pay.length)
    (hz : 0 < z) : j < (elems z ((pay.drop lo).take hi)).length ∧ (elems z ((pay.drop lo).take hi)).getD j 0 = leAt pay (k * z) z := by
  have len : ((pay.drop lo).take hi).length = hi := by
    rw [List.length_take, List.length_drop]
    omega
  have hj' : j < hi / z := (Nat.le_div_iff_mul_le hz).mpr hj
  have room : j * z + z ≤ hi := by rwa [← Nat.succ_mul]
  constructor
  · simpa [elems, len] using hj'
  · rw [List.getD_eq_getElem _ _ (by simpa [elems, len] using hj')]
    simp only [elems, List.getElem_map, List.getElem_range, leAt]
    rw [List.drop_take, List.drop_drop, hk, List.take_take, Nat.min_eq_left (by omega)]

/-- An element's sum, where its own line is performed. -/
theorem State.num_addLineInts {k l : Nat} (h : ElementAt z a pay.length k l) :
    (s.addLineInts z a pay l).num (a + k * z) z = (s.num (a + k * z) z + leAt pay (k * z) z) % 2 ^ (8 * z) := by
  have hz : 0 < z := by obtain h4 | h8 := h.size <;> omega
  obtain ⟨j, hat, hoff, hroom, hlen, -, -⟩ := h.place
  obtain ⟨hj, hval⟩ := elems_getD pay hoff hroom hlen hz
  have width : ∀ i, (leBytes z (s.num ((span a pay.length l).1 + i * z) z + (elems z ((pay.drop ((span a pay.length l).1 - a)).take
      ((span a pay.length l).2 - (span a pay.length l).1))).getD i 0)).length = z := fun i => leBytes_length ..
  rw [State.num, State.addLineInts, State.bytes_of_mem (State.burst_mem ..), ← hat, State.bytes_setBytes_part, take_drop_flatMap width hj,
    leNat_leBytes, hat, hval, show (256 : Nat) = 2 ^ 8 from rfl, ← pow_mul]
  simp only [List.length_flatMap, leBytes_length, List.map_const', List.sum_replicate, List.length_range, smul_eq_mul]
  calc j * z + z = (j + 1) * z := (Nat.succ_mul j z).symm
    _ ≤ _ := Nat.mul_le_mul_right z hj

/-- An element of another line keeps its value. -/
theorem State.num_addLineInts_other {k l m : Nat} (h : ElementAt z a pay.length k l) (hm : m ∈ linesOf a pay.length) (hne : m ≠ l) :
    (s.addLineInts z a pay m).num (a + k * z) z = s.num (a + k * z) z := by
  obtain ⟨-, -, -, -, -, hlo, hhi⟩ := h.place
  refine congrArg leNat (State.bytes_congr fun i hi => SameMemoryBut.addLineInts m hm _ ?_)
  simp only [span]
  omega

theorem State.num_addLinesInts {k l : Nat} (h : ElementAt z a pay.length k l) (ls : List Nat) (hls : ∀ m ∈ ls, m ∈ linesOf a pay.length)
    (hnd : ls.Nodup) : (s.forAll ls (fun s l => s.addLineInts z a pay l)).num (a + k * z) z =
      if l ∈ ls then (s.num (a + k * z) z + leAt pay (k * z) z) % 2 ^ (8 * z) else s.num (a + k * z) z := by
  induction ls generalizing s with
  | nil => rfl
  | cons m r ih =>
    obtain ⟨hm, hr⟩ := List.nodup_cons.mp hnd
    have rest := ih (s := s.addLineInts z a pay m) (fun x hx => hls x (List.mem_cons_of_mem _ hx)) hr
    refine rest.trans ?_
    by_cases he : m = l
    · subst he
      rw [if_neg hm, if_pos List.mem_cons_self, State.num_addLineInts h]
    · rw [State.num_addLineInts_other h (hls m List.mem_cons_self) he]
      simp [Ne.symm he]

/-- An integer RED adds to each element, modulo its size. -/
theorem State.num_addInts {k : Nat} (hgood : ∀ l ∈ linesOf a pay.length, s.lineBad l = false)
    (h : ElementAt z a pay.length k ((a + k * z) / 64)) :
    (s.addInts z a pay).2.num (a + k * z) z = (s.num (a + k * z) z + leAt pay (k * z) z) % 2 ^ (8 * z) := by
  have inside := h.inside
  rw [State.addInts_of_good hgood, State.num_addLinesInts h _ (fun _ hm => hm) (linesOf_nodup _ _),
    if_pos (div_mem_linesOf ⟨by omega, by omega⟩)]

end
end Sys2Proof.Machine
end

section
/-! SUPPORT. Memory requests that are performed, or refused, at once. -/

namespace Sys2Proof.Machine

/-- Nothing waits at the home and no stream engine is at work. -/
def State.quiet (s : State) : Prop := s.coh.waitq = [] ∧ s.strms = []

section
variable {s : State}

theorem State.quiet.congr {t : State} (h : s.quiet) (h1 : t.coh.waitq = s.coh.waitq) (h2 : t.strms = s.strms) : t.quiet :=
  ⟨h1.trans h.1, h2.trans h.2⟩

theorem State.quiet.dropSlot (h : s.quiet) (l : Nat) : (s.dropSlot l).quiet := by
  unfold State.dropSlot
  split
  · split
    · exact h
    · exact h
  · exact h

theorem State.quiet.heal (h : s.quiet) (l : Nat) : (s.heal l).quiet := by
  unfold State.heal
  dsimp only
  split
  · split
    · exact h
    · exact h
  · exact h

theorem State.quiet.burst (h : s.quiet) (l : Nat) (rd wr : Bool) : (s.burst l rd wr).quiet := by
  unfold State.burst
  dsimp only
  split
  · cases rd <;> cases wr <;> simp only [Bool.false_eq_true, if_false, if_true] <;> split <;> exact h
  · exact h

theorem State.quiet.setBytes (h : s.quiet) (a : Nat) (l : List Byte) : (s.setBytes a l).quiet :=
  h.congr (by rw [State.setBytes_coh]) (by rw [State.setBytes_strms])

theorem State.quiet.storeLine (h : s.quiet) (a : Nat) (data : List Byte) (l : Nat) : (s.storeLine a data l).quiet := by
  unfold State.storeLine
  dsimp only
  split
  · exact ((h.dropSlot l).setBytes _ _).heal l
  · exact (h.dropSlot l).setBytes _ _

theorem State.quiet.forAll {α : Type} {op : State → α → State} (h : s.quiet) (l : List α) (hop : ∀ t x, t.quiet → (op t x).quiet) :
    (s.forAll l op).quiet := State.forAll_induct h hop

theorem State.quiet.storeMem (h : s.quiet) {a : Nat} {data : List Byte} (hgood : ∀ l ∈ linesOf a data.length, s.lineBad l = false) :
    (s.storeMem a data).2.quiet := by
  rw [State.storeMem_of_good hgood]
  exact h.forAll _ fun t l ht => (ht.storeLine a data l).burst l false true

theorem State.quiet.addInts (h : s.quiet) {z a : Nat} {pay : List Byte} (hgood : ∀ l ∈ linesOf a pay.length, s.lineBad l = false) :
    (s.addInts z a pay).2.quiet := by
  rw [State.addInts_of_good hgood]
  exact h.forAll _ fun t l ht => ((ht.dropSlot l).setBytes _ _).burst l true true

theorem State.quiet.bankTake (h : s.quiet) (q l : Nat) : (s.bankTake q l).quiet := by
  unfold State.bankTake
  split
  · exact h
  · exact h

theorem State.quiet.chanTake (h : s.quiet) (q l : Nat) : (s.chanTake q l).quiet := by
  unfold State.chanTake
  split
  · exact h
  · exact h

theorem State.chanTake_mem (s : State) (q l : Nat) : (s.chanTake q l).mem = s.mem := by
  unfold State.chanTake
  split <;> rfl

theorem State.quiet.siteTake (h : s.quiet) (r : Req) : (s.siteTake r).quiet := by
  refine h.forAll _ fun t l ht => ?_
  split
  · exact ht.bankTake _ _
  · exact ht.chanTake _ _

theorem State.siteTake_mem (s : State) (r : Req) : (s.siteTake r).mem = s.mem := by
  refine State.forAll_mem _ fun t l => ?_
  split
  · exact State.bankTake_mem ..
  · exact State.chanTake_mem ..

/-- A completion leaves memory alone, and what is quiet stays so. -/
theorem State.resultDesk_mem (s : State) (d k id : Nat) (st : BitVec 5) (data : List Byte) : (s.resultDesk d k id st data).mem = s.mem := by
  unfold State.resultDesk
  split
  · dsimp only
    split <;> rfl
  · rfl

theorem State.quiet.resultDesk (h : s.quiet) (d k id : Nat) (st : BitVec 5) (data : List Byte) : (s.resultDesk d k id st data).quiet := by
  unfold State.resultDesk
  split
  · dsimp only
    split <;> exact h
  · exact h

/-- With no stream engine at work, none has anything to be given a result of. -/
theorem State.setStrm_of_idle (h : s.strms = []) (w n : Nat) (f : Frame) (st : BitVec 5) (data : List Byte) :
    s.setStrm w n (Strm.result (s.strm w n) f st data) = s := by
  have strm : s.strm w n = {} := by
    rw [State.strm, h]
    rfl
  have same : tput strmDefault s.strms (64 * w + n) (Strm.result (s.strm w n) f st data) = s.strms := by
    rw [strm, h]
    rfl
  rw [State.setStrm, same]

/-- Memory is as it was, and nothing waits at the home. -/
def State.quietWith (m : Tab Byte) (t : State) : Prop := t.mem = m ∧ t.quiet

theorem resultFree_quietWith (m : Tab Byte) : ResultFree (State.quietWith m) where
  fab _ _ h := h
  fabric _ h := h
  out _ h := h
  reg _ _ h := h
  deps _ _ _ h := h
  seat d k id st data h := ⟨(State.resultDesk_mem ..).trans h.1, h.2.resultDesk ..⟩
  strm w n f st data h := by rwa [State.setStrm_of_idle h.2.2]
  walks _ h := h
  reads _ h := h
  irqs _ h := h

theorem State.quietWith.homeGoes {m : Tab Byte} (h : s.quietWith m) : s.homeGoes = s := by
  rw [State.homeGoes, h.2.1]
  rfl

theorem State.quietWith.settleStreams {m : Tab Byte} (h : s.quietWith m) : s.settleStreams = s := by
  rw [State.settleStreams, h.2.2]
  rfl

variable {r : Req} {d : DeskId} {k : Fin 4} {id : Nat}

theorem Req.isFrame_of_desk (h : r.via = .desk d k id) : Req.isFrame r = false := by
  rw [Req.isFrame, h]

/-- A request of a Seat is answered to its access, and nothing else of memory or the home is touched. -/
theorem State.finish_desk {m : Tab Byte} (hs : s.quietWith m) (hvia : r.via = .desk d k id) (hop : r.f.opcode ≠ 3) (st : BitVec 5)
    (c : Bool) (data : List Byte) : ∃ u : State, u.quietWith m ∧
      s.finish r st c data = u.resultDesk (DeskId.idx d) k.val id st (if st = 0 then data else []) := by
  have noMst (t : State) : t.endOwnMst r.f = t := if_neg hop
  refine ⟨if st = stRole then (match Where.deskOf (s.whereIs (Req.off r)) with
       | some d => (s.count (roomReg (roomOf d) crRoleDrop)).classFault (roomOf d) 2
       | none => s) else s, ?_, ?_⟩
  · split
    · split
      · exact (resultFree_quietWith m).classFault _ _ (fun _ h => h) hs
      · exact hs
    · exact hs
  · simp only [State.finish, Req.isFrame_of_desk hvia, hop, Bool.false_and, Bool.false_eq_true, if_false, State.answerVia, hvia, noMst] <;> rfl

/-- The access has its result. -/
theorem answered_resultDesk (u : State) (st : BitVec 5) (data : List Byte) :
    Answered (u.resultDesk (DeskId.idx d) k.val id st data) d k id st data := by
  have seat : (u.resultDesk (DeskId.idx d) k.val id st data).seat (DeskId.idx d) k = { u.seat (DeskId.idx d) k with
      acc := (u.seat (DeskId.idx d) k).acc.map (fun (a : Access) => if a.id = id then { a with result := some (st, data) } else a) } := by
    rw [State.resultDesk, dif_pos k.isLt]
    dsimp only
    split
    · simp [State.seat, State.setSeat]
    · simp [State.seat, State.setSeat]
  intro a ha hid
  rw [seat] at ha
  obtain ⟨b, -, rfl⟩ := List.mem_map.mp ha
  split at hid
  case isTrue h => rw [if_pos h]
  case isFalse h => exact absurd hid h

theorem State.request_atHome (hframe : Req.isFrame r = false) (hplace : ∀ off, s.whereIs (Req.off r) ≠ .mirror off) (u : Int) :
    s.request r u = ((s.atHome r u).homeGoes).settleStreams := by
  cases hw : s.whereIs (Req.off r) with
  | mirror off => exact absurd hw (hplace off)
  | general | timetable | overflow | blackboard | slate | inbox | hole =>
    simp only [State.request, State.checked, hframe, hw, Bool.false_and, Bool.false_eq_true, if_false]

/-- A request that its home refuses is answered with the status. -/
theorem State.request_refused {st : BitVec 5} (hframe : Req.isFrame r = false) (hplace : ∀ off, s.whereIs (Req.off r) ≠ .mirror off)
    (href : s.refusal r = some st) (u : Int) : s.request r u = ((s.finish r st false []).homeGoes).settleStreams := by
  rw [State.request_atHome hframe hplace, State.atHome, href]

/-- With no line of it owned, held or waited for, a request is performed where it arrives. -/
theorem State.request_now (h : AtOnce s r) (u : Int) :
    s.request r u = ((s.performAnswer r u false [] []).homeGoes).settleStreams := by
  obtain ⟨hframe, hplace, href, hwait, hlate, hdir⟩ := h
  have alone : (if Req.off r < 2 ^ 40 then Req.lines r else []).flatMap
      (fun l => (accessSnoops (isLd (Req.op r)) (s.dirOf l)).map (fun x => (l, x.1, x.2))) = [] := by
    refine List.flatMap_eq_nil_iff.mpr fun l hl => ?_
    split at hl
    · rw [hdir ‹_› l hl]
      cases isLd (Req.op r) <;> rfl
    · cases hl
  have since : s.snoopWaited r s.now = s := if_neg fun hn => Nat.lt_irrefl _ hn.2
  have served : s.serveAccess r u false s.now = s.performAnswer r u false [] [] := by
    simp only [State.serveAccess, hlate, Option.isSome_none, Bool.false_eq_true, if_false, alone, List.isEmpty_nil, if_true, since,
      State.performLate]
  rw [State.request_atHome hframe hplace, State.atHome, href]
  simp only [State.arriveHome, hwait, Bool.false_eq_true, if_false, served]

end
end Sys2Proof.Machine
end

section
/-! SUPPORT. The families of memory requests. -/

namespace Sys2Proof.Machine

section
variable {s t : State} {r : Req} {u : Int} {d : DeskId} {k : Fin 4} {id : Nat}

theorem Performed.of_mem {t' : State} (h : Performed s t r) (hm : t'.mem = t.mem) : Performed s t' r := by
  have but {a n : Nat} (h : SameMemoryBut s t a n) : SameMemoryBut s t' a n := h.trans (SameMemoryBut.of_mem _ _ hm)
  obtain ⟨hld, hst, hred, hat⟩ := h
  refine ⟨fun e c => (State.byte_of_mem hm c).trans (hld e c), fun e => ?_, fun e => ?_, fun e => ?_⟩
  · obtain ⟨h1, h2⟩ := hst e
    exact ⟨(State.bytes_of_mem hm ..).trans h1, but h2⟩
  · obtain ⟨h1, h2⟩ := hred e
    exact ⟨but h1, fun i hi => (congrArg leNat (State.bytes_of_mem hm ..)).trans (h2 i hi)⟩
  · obtain ⟨h1, h2⟩ := hat e
    exact ⟨but h1, (State.bytes_of_mem hm ..).trans h2⟩

theorem State.isRecord_of_desk (hvia : r.via = .desk d k id) : s.isRecord r = false := by
  rw [State.isRecord, Req.isFrame_of_desk hvia]
  rfl

/-- What the shape of a request that is not refused says. -/
theorem State.shapeOk_of_not_refused (h : s.refusal r = none) : shapeOk (s.whereIs (Req.off r)) r.f = true := by
  cases s.refusalCase r with
  | none e shape => exact State.shapeOk_of_not_misshapen shape
  | early st e | perm e | sealed e | role e => rw [e] at h; exact absurd h nofun

theorem opcodeLegal_of_shapeOk {w : Where} {f : Frame} (h : shapeOk w f = true) : opcodeLegal f.opcode.toNat = true := by
  unfold shapeOk at h
  cases hl : opcodeLegal f.opcode.toNat with
  | true => rfl
  | false => simp [hl] at h

theorem payload_length_of_shapeOk {w : Where} {f : Frame} (h : shapeOk w f = true) (hop : f.opcode.toNat = 2) :
    f.payload.length = f.length.toNat := by
  have legal := opcodeLegal_of_shapeOk h
  unfold shapeOk at h
  simp only [hop] at h legal
  simp [legal] at h
  exact h.2

/-- The offset of a request in its module: sizes of elements divide a module's space. -/
theorem Req.off_mod {z : Nat} (hz : z = 4 ∨ z = 8) : Req.off r % z = r.f.fpa.toNat % z := by
  rw [Req.off]
  obtain rfl | rfl := hz <;> omega

/-- An integer RED that is not misshapen: whole elements, aligned. -/
theorem red_of_shapeOk {w : Where} (h : shapeOk w r.f = true) (hop : Req.op r / 16 = 1) (hint : Req.op r % 16 < 4) :
    (typeSize (Req.op r % 16) = 4 ∨ typeSize (Req.op r % 16) = 8) ∧ Req.off r % typeSize (Req.op r % 16) = 0 ∧
      Req.len r % typeSize (Req.op r % 16) = 0 ∧ r.f.payload.length = Req.len r := by
  have size : typeSize (Req.op r % 16) = 4 ∨ typeSize (Req.op r % 16) = 8 := by
    generalize Req.op r % 16 = t at hint
    interval_cases t <;> decide
  have legal := opcodeLegal_of_shapeOk h
  have big : ¬ r.f.opcode.toNat ≤ 3 := by
    rw [Req.op] at hop
    omega
  have red : isRed r.f.opcode.toNat = true := decide_eq_true hop
  unfold shapeOk at h
  simp only [legal, big, red, Bool.not_true, Bool.false_eq_true, if_false, if_true, Bool.and_eq_true, decide_eq_true_eq] at h
  obtain ⟨⟨⟨⟨-, hlen⟩, halign⟩, -⟩, hpay⟩ := h
  exact ⟨size, (Req.off_mod size).trans halign, hlen, hpay⟩

/-- The request is performed on memory itself: its answer, and what it leaves. -/
structure PerformsOn (s : State) (r : Req) (u : Int) : Prop where
  status : (s.performMem r u []).1 = stOk
  data : (s.performMem r u []).2.1 = Req.answer s r
  effect : Performed s (s.performMem r u []).2.2 r
  quiet : s.quiet → (s.performMem r u []).2.2.quiet

theorem performsOn_load (hop : Req.op r = 1) (hon : OnBytes s r) : PerformsOn s r u := by
  obtain ⟨-, -, good⟩ := hon
  have eq := State.performMem_load (u := u) (decide_eq_true hop) good
  have mem : (s.forAll (Req.lines r) (fun s l => s.burst l true false)).mem = s.mem :=
    State.forAll_mem _ fun t l => t.burst_mem l true false
  refine ⟨by rw [eq], by rw [eq, Req.answer, if_pos hop], ?_, fun hq => ?_⟩
  · rw [eq]
    exact ⟨fun _ => SameMemory.of_mem mem, fun e => by omega, fun e => by omega, fun e => by omega⟩
  · rw [eq]
    exact hq.forAll _ fun t l ht => ht.burst l true false

theorem performsOn_store (hop : Req.op r = 2) (hvia : r.via = .desk d k id) (hlen : r.f.payload.length = Req.len r) (hon : OnBytes s r) :
    PerformsOn s r u := by
  obtain ⟨-, noInbox, good⟩ := hon
  have ld : isLd (Req.op r) = false := decide_eq_false (by omega)
  have st : isStore (Req.op r) = true := by rw [hop]; rfl
  have good' : ∀ l ∈ linesOf (Req.off r) r.f.payload.length, s.lineBad l = false := by
    rw [hlen]
    exact good
  have eq : s.performMem r u [] = (stOk, [], (s.storeMem (Req.off r) r.f.payload).2) := by
    have ok : (s.storeMem (Req.off r) r.f.payload).1 = stOk := by rw [State.storeMem_of_good good']
    cases hw : s.whereIs (Req.off r) with
    | inbox d o => exact absurd hw (noInbox d o)
    | general | timetable | overflow | blackboard | slate | mirror | hole =>
      simp only [State.performMem, ld, st, State.isRecord_of_desk hvia, Bool.false_eq_true, if_false, if_true, hw, ok]
  refine ⟨by rw [eq], by rw [eq, Req.answer, if_neg (by omega), if_neg (by omega)], ?_, fun hq => ?_⟩
  · rw [eq]
    refine ⟨fun e => by omega, fun _ => ?_, fun e => by omega, fun e => by omega⟩
    rw [← hlen]
    exact ⟨State.bytes_storeMem good', SameMemoryBut.storeMem s _ _⟩
  · rw [eq]
    exact hq.storeMem good'

theorem performsOn_red (hop : Req.op r / 16 = 1) (hvia : r.via = .desk d k id) (hshape : shapeOk (s.whereIs (Req.off r)) r.f = true)
    (hon : OnBytes s r) : PerformsOn s r u := by
  obtain ⟨slots, -, good⟩ := hon
  have ld : isLd (Req.op r) = false := decide_eq_false (by omega)
  have st : isStore (Req.op r) = false := by simp only [isStore, Bool.or_eq_false_iff, decide_eq_false_iff_not]; omega
  have red : isRed (Req.op r) = true := decide_eq_true hop
  have int : Req.op r % 16 < 4 := by
    have := (Bool.or_eq_false_iff.mp slots).1
    simpa [isFpRed, hop] using this
  have type : typeFmt (Req.op r % 16) = none := by
    generalize Req.op r % 16 = t at int
    interval_cases t <;> rfl
  obtain ⟨size, align, whole, hlen⟩ := red_of_shapeOk hshape hop int
  have good' : ∀ l ∈ linesOf (Req.off r) r.f.payload.length, s.lineBad l = false := by
    rw [hlen]
    exact good
  have eq : s.performMem r u [] = (stOk, [], (s.addInts (typeSize (Req.op r % 16)) (Req.off r) r.f.payload).2) := by
    have ok : (s.addInts (typeSize (Req.op r % 16)) (Req.off r) r.f.payload).1 = stOk := by rw [State.addInts_of_good good']
    simp only [State.performMem, ld, st, red, State.isRecord_of_desk hvia, Bool.false_eq_true, if_false, if_true, type, ok]
  refine ⟨by rw [eq], by rw [eq, Req.answer, if_neg (by omega), if_neg (by omega)], ?_, fun hq => ?_⟩
  · rw [eq]
    refine ⟨fun e => by omega, fun e => by omega, fun _ => ⟨?_, fun i hi => ?_⟩, fun e => by omega⟩
    · rw [← hlen]
      exact SameMemoryBut.addInts _ _ _ _
    · exact State.num_addInts good' ⟨size, align, by rwa [hlen], by rwa [hlen], rfl⟩
  · rw [eq]
    exact hq.addInts good'

theorem performsOn_atomic (hop : 2 ≤ Req.op r / 16) (hvia : r.via = .desk d k id) (hon : OnBytes s r) : PerformsOn s r u := by
  obtain ⟨slots, -, good⟩ := hon
  have eq := State.performMem_atomic (u := u) hop (State.isRecord_of_desk hvia) slots good
  generalize hnew : leBytes (operandSize (Req.op r)) (atomicNew (Req.op r) (leNat (s.bytes (Req.off r) (operandSize (Req.op r))))
    r.f.payload) = new at eq
  have len : new.length = operandSize (Req.op r) := by rw [← hnew, leBytes_length]
  refine ⟨by rw [eq], by rw [eq, Req.answer, if_neg (by omega), if_pos hop], ?_, fun hq => ?_⟩
  · rw [eq]
    refine ⟨fun e => by omega, fun e => by omega, fun e => by omega, fun _ =>
      ⟨(SameMemoryBut.of_mem _ _ (State.atomicLines_mem _)).trans (SameMemoryBut.setBytes (Nat.le_refl _) (by omega)), ?_⟩⟩
    rw [hnew, ← len]
    exact State.bytes_setBytes ..
  · rw [eq]
    exact (hq.forAll _ fun t l ht => (ht.dropSlot l).burst l true true).setBytes _ _

/-- A legal opcode other than MST's is of one of the four kinds. -/
theorem performsOn_of_legal (hlegal : opcodeLegal (Req.op r) = true) (h3 : Req.op r ≠ 3) (hvia : r.via = .desk d k id)
    (hshape : shapeOk (s.whereIs (Req.off r)) r.f = true) (hon : OnBytes s r) : PerformsOn s r u := by
  by_cases h1 : Req.op r = 1
  · exact performsOn_load h1 hon
  by_cases h2 : Req.op r = 2
  · exact performsOn_store h2 hvia (payload_length_of_shapeOk hshape h2) hon
  by_cases hr : Req.op r / 16 = 1
  · exact performsOn_red hr hvia hshape hon
  · refine performsOn_atomic ?_ hvia hon
    by_contra hlt
    have zero : Req.op r / 16 = 0 := by omega
    have : opcodeLegal (Req.op r) = false := by
      have h50 : ¬ 0x50 ≤ Req.op r := by omega
      simp [opcodeLegal, h1, h2, h3, zero, h50]
    rw [this] at hlegal
    cases hlegal

/-- A Seat's request that its home performs at once. -/
theorem State.request_performed (hat : AtOnce s r) (hal : Alone s r d k id) (hon : OnBytes s r) (h3 : Req.op r ≠ 3) :
    Answered (s.request r u) d k id stOk (Req.answer s r) ∧ Performed s (s.request r u) r := by
  obtain ⟨hvia, hwait, hstrm⟩ := hal
  have href := hat.2.2.1
  have shape := State.shapeOk_of_not_refused href
  have perf := performsOn_of_legal (u := u) (opcodeLegal_of_shapeOk shape) h3 hvia shape hon
  have mst : r.f.opcode ≠ 3 := fun e => h3 (by rw [Req.op, e]; rfl)
  obtain ⟨v, hv, eq⟩ : ∃ v : State, v.quietWith (s.performMem r u []).2.2.mem ∧
      s.performAnswer r u false [] [] = v.finish r stOk (s.contended r false) (Req.answer s r) := by
    refine ⟨(if (isRed (Req.op r) || operandSize (Req.op r) > 0) && decide (Req.off r < 2 ^ 40) then
      (if Req.timed r then (s.performMem r u []).2.2 else (s.performMem r u []).2.2.siteTake r).forAll (Req.lines r)
        (fun s l => s.seenAt r l)
      else if Req.timed r then (s.performMem r u []).2.2 else (s.performMem r u []).2.2.siteTake r), ?_, ?_⟩
    · have taken : State.quietWith (s.performMem r u []).2.2.mem
          (if Req.timed r then (s.performMem r u []).2.2 else (s.performMem r u []).2.2.siteTake r) := by
        split
        · exact ⟨rfl, perf.quiet ⟨hwait, hstrm⟩⟩
        · exact ⟨State.siteTake_mem .., (perf.quiet ⟨hwait, hstrm⟩).siteTake r⟩
      split
      · exact State.forAll_induct taken fun t l ht => ht
      · exact taken
    · have ok := perf.status
      have data := perf.data
      simp only [State.performAnswer, List.filter_nil, State.forAll, List.foldl_nil, ok, data]
  obtain ⟨w, hw, fin⟩ := State.finish_desk hv hvia mst stOk (s.contended r false) (Req.answer s r)
  have done : (s.performAnswer r u false [] []).quietWith (s.performMem r u []).2.2.mem := by
    rw [eq, fin]
    exact (resultFree_quietWith _).seat _ _ _ _ _ hw
  rw [State.request_now hat, done.homeGoes, done.settleStreams]
  refine ⟨?_, perf.effect.of_mem done.1⟩
  rw [eq, fin]
  exact answered_resultDesk _ _ _

/-- A Seat's request that its home refuses. -/
theorem State.request_answered {st : BitVec 5} (hal : Alone s r d k id) (hplace : ∀ off, s.whereIs (Req.off r) ≠ .mirror off)
    (href : s.refusal r = some st) (h3 : Req.op r ≠ 3) :
    Answered (s.request r u) d k id st [] ∧ SameMemory s (s.request r u) := by
  obtain ⟨hvia, hwait, hstrm⟩ := hal
  have mst : r.f.opcode ≠ 3 := fun e => h3 (by rw [Req.op, e]; rfl)
  obtain ⟨w, hw, fin⟩ := State.finish_desk (m := s.mem) ⟨rfl, hwait, hstrm⟩ hvia mst st false []
  have done : (s.finish r st false []).quietWith s.mem := by
    rw [fin]
    exact (resultFree_quietWith _).seat _ _ _ _ _ hw
  rw [State.request_refused (Req.isFrame_of_desk hvia) hplace href, done.homeGoes, done.settleStreams]
  refine ⟨?_, SameMemory.of_mem done.1⟩
  rw [fin, ite_self]
  exact answered_resultDesk _ _ _

/-- A row of memory requests whose opcodes do not include MST's. -/
theorem requestFamily_of {c : Req → Instr} {fam : Nat → Prop} {b : Nat → Bool}
    (hexec : ∀ r s, ((∀ off, s.whereIs (Req.off r) ≠ .mirror off) ∨ ¬ fam (Req.op r)) →
      exec (c r) s = .next (s.familyRequest (b (Req.op r)) r u)) (hb : ∀ op, b op = true ↔ fam op) (h3 : ¬ fam 3) :
    RequestFamily c fam u := by
  intro r s
  have row (hf : fam (Req.op r)) (hplace : ∀ off, s.whereIs (Req.off r) ≠ .mirror off) : exec (c r) s = .next (s.request r u) := by
    rw [hexec r s (.inl hplace), State.familyRequest, if_pos ((hb _).mpr hf)]
  have ne3 (hf : fam (Req.op r)) : Req.op r ≠ 3 := fun e => h3 (e ▸ hf)
  refine ⟨fun hf hat => ?_, fun d k id hf hat hal hon => ?_, fun st hf hframe hplace href => ?_,
    fun d k id st hf hal hplace href => ?_, fun hf => ?_⟩
  · rw [row hf hat.2.1, State.request_now hat]
  · exact ⟨_, row hf hat.2.1, State.request_performed hat hal hon (ne3 hf)⟩
  · rw [row hf hplace, State.request_refused hframe hplace href]
  · exact ⟨_, row hf hplace, State.request_answered hal hplace href (ne3 hf)⟩
  · rw [hexec r s (.inr hf), State.familyRequest, if_neg (mt (hb _).mp hf)]

theorem State.refusal_of_illegal (hl : opcodeLegal (Req.op r) = false) : shapeOk (s.whereIs (Req.off r)) r.f = false := by
  rw [Req.op] at hl
  simp [shapeOk, hl]

end

/-- A store elsewhere than to the register mirror does not stop. -/
theorem exec_stRequest (r : Req) (s : State) (h : (∀ off, s.whereIs (Req.off r) ≠ .mirror off) ∨ ¬ Req.op r = 2) :
    exec (.stRequest r) s = .next (s.familyRequest (decide (Req.op r = 2)) r 0) := by
  have goes : s.mirrorStops r = false := by
    obtain hplace | hop := h
    · cases hw : s.whereIs (Req.off r) with
      | mirror off => exact absurd hw (hplace off)
      | general | timetable | overflow | blackboard | slate | inbox | hole => simp only [State.mirrorStops, hw, Bool.and_false]
    · simp only [State.mirrorStops, hop, decide_false, Bool.false_and]
  exact if_neg (ne_true_of_eq_false goes)

/-- Settles O14: each family by its opcodes, and reserved opcodes by their refusal. -/
theorem memoryRequests : Obligations.MemoryRequests := by
  have plain {c : Req → Instr} {n : Nat} (hn : n ≠ 3) (h : ∀ r s, exec (c r) s = .next (s.familyRequest (Req.op r = n) r 0)) :
      RequestFamily c (· = n) 0 := requestFamily_of (b := fun op => decide (op = n)) (fun r s _ => h r s) (by simp) hn.symm
  have typed {c : Req → Instr} {n : Nat} {u : Int} (hn : n ≠ 0) (h : ∀ r s, exec (c r) s = .next (s.familyRequest (Req.op r / 16 = n) r u)) :
      RequestFamily c (· / 16 = n) u := requestFamily_of (b := fun op => decide (op / 16 = n)) (fun r s _ => h r s) (by simp) hn.symm
  refine ⟨plain (by decide) fun _ _ => rfl, requestFamily_of (b := fun op => decide (op = 2)) exec_stRequest (by simp) (by decide), fun u => typed (by decide) fun _ _ => rfl,
    fun u => typed (by decide) fun _ _ => rfl, typed (by decide) fun _ _ => rfl, typed (by decide) fun _ _ => rfl,
    plain (by decide) fun _ _ => rfl, plain (by decide) fun _ _ => rfl, plain (by decide) fun _ _ => rfl,
    plain (by decide) fun _ _ => rfl, plain (by decide) fun _ _ => rfl, plain (by decide) fun _ _ => rfl,
    plain (by decide) fun _ _ => rfl, plain (by decide) fun _ _ => rfl, plain (by decide) fun _ _ => rfl,
    plain (by decide) fun _ _ => rfl,
    requestFamily_of (b := fun op => isMemReq op && !opcodeLegal op) (fun _ _ _ => rfl) (fun op => by simp) (by decide), ?_, ?_⟩
  · intro r s d k id hreq hl hal hplace hfence hhole
    have href : s.refusal r = some stAlign := by
      rw [State.refusal_eq, if_neg (ne_true_of_eq_false hfence), if_neg hhole,
        if_pos (State.misshapen_of_shape (State.refusal_of_illegal hl))]
    have h3 : Req.op r ≠ 3 := fun e => by rw [e] at hl; exact absurd hl (by decide)
    refine ⟨s.request r 0, ?_, State.request_answered hal hplace href h3⟩
    have fam : (isMemReq (Req.op r) && !opcodeLegal (Req.op r)) = true := by simp [hreq, hl]
    exact congrArg Host.Outcome.next (if_pos fam)
  · intro r s _ hl href
    have := State.shapeOk_of_not_refused href
    rw [State.refusal_of_illegal hl] at this
    cases this

end Sys2Proof.Machine
end

section
/-! SUPPORT. Sequences at a destination. -/

namespace Sys2Proof.Machine

section
variable {s : State} {f : Frame}

/-- What a frame sent by an engine leaves as it was: memory and the expected sequences. -/
def State.expectsWith (m : Tab Byte) (x : Tab (Option (BitVec 24))) (t : State) : Prop := t.mem = m ∧ t.fab.expect = x

theorem frameFree_expectsWith (m : Tab Byte) (x : Tab (Option (BitVec 24))) : FrameFree True (State.expectsWith m x) where
  fab _ hy h := ⟨h.1, (congrArg Fab.expect hy).trans h.2⟩
  out _ h := h
  reg _ _ h := h
  deps _ _ _ h := h

/-- The state after a destination has noted the acknowledgement that a frame carries. -/
def State.acked (s : State) (e : Nat) (f : Frame) : State :=
  { s with fab := { s.fab with replies := s.fab.replies.filter (fun r =>
      !(r.eng = e && r.src = f.src && (r.seq = f.ack || seqEarlier r.seq f.ack))) } }

/-- The module's check of the frame that is expected, with room for its reply. -/
theorem State.seqCheck_expected (h : (tget (fun _ => none) s.fab.expect f.src.toNat).getD f.seq = f.seq) (hroom : s.fab.replies = []) :
    s.seqCheck 0 f = (.accept, { s.acked 0 f with fab := { (s.acked 0 f).fab with
      expect := tput (fun _ => none) s.fab.expect f.src.toNat (some (f.seq + 1)) } }) := by
  simp only [State.seqCheck, Nat.mul_zero, Nat.zero_add, h, if_true, hroom, List.filter_nil, List.length_nil]
  rw [if_neg (by decide)]
  simp only [State.acked, hroom, List.filter_nil]

/-- The module's check of a frame that is not the expected one. -/
theorem State.seqCheck_unexpected {q : BitVec 24} (h : tget (fun _ => none) s.fab.expect f.src.toNat = some q) (hne : f.seq ≠ q) :
    s.seqCheck 0 f = if seqEarlier f.seq q then
      (match (s.acked 0 f).fab.replies.find? (fun r => r.eng = 0 ∧ r.src = f.src ∧ r.seq = f.seq) with
       | some r => (.replay r, (s.acked 0 f).count rDupCount)
       | none => (.drop, s.acked 0 f))
      else (.drop, (s.acked 0 f).count rOooDiscard) := by
  simp only [State.seqCheck, Nat.mul_zero, Nat.zero_add, h, Option.getD_some, hne, if_false, if_true]
  rfl

/-- A frame of a DEP-7 on its way changes the DEP-7s and the outputs alone. -/
theorem State.depLaunch_only (s : State) (p : Nat) (f : Frame) : ∃ ds o, s.depLaunch p f = { s with deps := ds, out := o } := by
  unfold State.depLaunch
  dsimp only
  split
  · exact ⟨_, _, rfl⟩
  · exact ⟨_, _, rfl⟩

theorem State.launch_dep_only (s : State) (p : Nat) (o : Owner) (f : Frame) :
    ∃ ds out, s.launch (p + 1) o f = { s with deps := ds, out := out } := by
  unfold State.launch
  rw [if_neg (Nat.succ_ne_zero p)]
  split
  · exact s.depLaunch_only _ _
  · exact ⟨_, _, rfl⟩

/-- The sequence that an engine expects after a SYNC (R199). -/
def State.syncSeq (s : State) (e : Nat) (f : Frame) : BitVec 24 :=
  match tget (fun _ => none) s.fab.expect (4096 * e + f.src.toNat) with
  | some x => if seqEarlier f.seq x then x else f.seq
  | none => f.seq

/-- The state in which an engine has taken a SYNC. -/
def State.synced (s : State) (e : Nat) (f : Frame) : State :=
  { s with fab := { s.fab with expect := tput (fun _ => none) s.fab.expect (4096 * e + f.src.toNat) (some (s.syncSeq e f)) } }

theorem State.synced_expect (e : Nat) :
    tget (fun _ => none) (s.synced e f).fab.expect (4096 * e + f.src.toNat) = some (s.syncSeq e f) := by
  rw [State.synced, tget_tput, if_pos rfl]

theorem execSync_eq (eng : Engine) (f : Frame) (s : State) : exec (.sync eng f) s = .next
    (if Engine.num eng = 0 then (s.synced (Engine.num eng) f).sendRouted 139 false (responseTo (s.engNode (Engine.num eng)) f 0 0 [])
     else match (s.synced (Engine.num eng) f).depRoute (Engine.num eng - 1) (responseTo (s.engNode (Engine.num eng)) f 0 0 []).dst with
       | some rt => (s.synced (Engine.num eng) f).launch (Engine.num eng) .none
           { responseTo (s.engNode (Engine.num eng)) f 0 0 [] with route := rt.1, hopCount := rt.2 }
       | none => s.synced (Engine.num eng) f) := rfl

/-- A SYNC at the module: the answer leaves by its own port. -/
theorem execSync_module (f : Frame) (s : State) :
    exec (.sync .module f) s = .next ((s.synced 0 f).sendRouted 139 false (responseTo (s.engNode 0) f 0 0 [])) :=
  (execSync_eq ..).trans (congrArg Host.Outcome.next (if_pos rfl))

/-- A SYNC at a DEP-7: its answer changes the DEP-7s and the outputs alone. -/
theorem execSync_dep (p : Fin 64) (f : Frame) (s : State) :
    ∃ ds out, exec (.sync (.dep p) f) s = .next { s.synced (p.val + 1) f with deps := ds, out := out } := by
  rw [execSync_eq, if_neg (show Engine.num (.dep p) ≠ 0 from Nat.succ_ne_zero p.val)]
  split
  · obtain ⟨ds, out, h⟩ := (s.synced (p.val + 1) f).launch_dep_only p.val .none
      { responseTo (s.engNode (p.val + 1)) f 0 0 [] with route := (‹Vector Byte 16 × BitVec 4› : _).1, hopCount := (‹Vector Byte 16 × BitVec 4› : _).2 }
    exact ⟨ds, out, congrArg Host.Outcome.next h⟩
  · exact ⟨s.deps, s.out, rfl⟩

end

/-- Settles O20: the three outcomes of the check, a SYNC at each kind of engine, and the end of a hold. -/
theorem sequences : Obligations.Sequences := by
  refine ⟨fun s f h hroom => ?_, fun s f q h hne hlate => ?_, fun s f q h hne hearly => ?_, fun f s h => ?_, fun p f s q h => ?_,
    fun e src seq s => ⟨_, rfl, fun r => ?_, rfl⟩⟩
  · rw [State.seqCheck_expected (by rw [h]; rfl) hroom]
    refine ⟨rfl, ?_, fun _ => rfl⟩
    rw [tget_tput, if_pos rfl]
  · rw [State.seqCheck_unexpected h hne, hlate]
    exact ⟨rfl, State.reg_count .., rfl⟩
  · rw [State.seqCheck_unexpected h hne, hearly, if_pos rfl]
    split
    · exact ⟨nofun, rfl⟩
    · exact ⟨nofun, rfl⟩
  · have sent := (frameFree_expectsWith s.mem (s.synced 0 f).fab.expect).sendRouted (s := s.synced 0 f) (p := 139) (fun _ => trivial)
      false (responseTo (s.engNode 0) f 0 0 []) ⟨rfl, rfl⟩
    obtain ⟨hmem, hexp⟩ := sent
    refine ⟨_, execSync_module f s, ?_, SameMemory.of_mem hmem⟩
    have seq := State.synced_expect (s := s) (f := f) 0
    rw [Nat.mul_zero, Nat.zero_add] at seq
    rw [hexp, seq, State.syncSeq, Nat.mul_zero, Nat.zero_add, h]
  · obtain ⟨ds, out, hx⟩ := execSync_dep p f s
    refine ⟨_, hx, ?_, SameMemory.of_mem rfl, fun _ => rfl⟩
    refine (State.synced_expect (s := s) (f := f) (p.val + 1)).trans ?_
    rw [State.syncSeq, h]
  · simp only [List.mem_filter, Bool.not_eq_true', Bool.and_eq_false_iff, decide_eq_false_iff_not]
    tauto

end Sys2Proof.Machine
end

section
/-! SUPPORT. How a Seat issues, an illegal word, and the fetch buffer. -/

namespace Sys2Proof.Machine

section
variable {s : State} {op : Nat} {i : ChalkOp}

/-- The program counter alone moves where a guard holds an instruction back. -/
theorem State.seatOnly_issuedBy : SeatOnly s (s.issuedBy i) i (s.me i).advance := by
  refine ⟨State.issuedBy_withDesks s i, fun j hj => ?_, State.desk_issuedBy s i⟩
  simp [State.issuedBy, State.putMe, State.setSeat, Ne.symm hj]

theorem State.issue_eq_self {body : State → BitVec 12 → State} (h : s.mayIssue op i = false) : s.issue op i body = s := by
  rw [State.issue, h]
  rfl

theorem State.issue_of_guard {body : State → BitVec 12 → State} (hmay : s.mayIssue op i = true) (hlegal : legal op i.w = true)
    (hguard : guardOn (s.me i) i.w = false) (htimed : isTimed op i.w = false) : s.issue op i body = s.issuedBy i := by
  simp only [State.issue, hmay, hlegal, State.me_setDesk_cur, hguard, htimed, Bool.not_true, Bool.false_eq_true, if_false, State.issuedBy]

/-- An illegal word stops its Seat. -/
theorem State.issue_of_illegal {body : State → BitVec 12 → State} (hmay : s.mayIssue op i = true) (hlegal : legal op i.w = false) :
    s.issue op i body =
      (s.setDesk (deskOf i) { s.desk (deskOf i) with cur := i.seat.val }).illegalAt (deskOf i) i.seat := by
  simp only [State.issue, hmay, hlegal, Bool.not_true, Bool.not_false, Bool.false_eq_true, if_false, if_true]

theorem State.illegalAt_withDesks (t : State) (d : Nat) (k : Fin 4) (ds : Tab Desk) :
    { t.illegalAt d k with desks := ds } = { t with desks := ds } :=
  (State.setDesk_withDesks ..).trans (State.setDesk_withDesks ..)

theorem State.desk_illegalAt (t : State) (d : Nat) (k : Fin 4) : (t.illegalAt d k).desk d = { t.desk d with
    seats := (t.desk d).seats.set k { t.seat d k with st := .idle }, illegal := some (t.seat d k).pc } := by
  simp [State.illegalAt, State.setSeat, State.seat]

theorem State.desk_illegalAt_ne (t : State) {d j : Nat} (k : Fin 4) (h : j ≠ d) : (t.illegalAt d k).desk j = t.desk j := by
  simp [State.illegalAt, State.setSeat, Ne.symm h]

end

/-! ### The fetch buffer -/

section
variable {x : Seat} {b : Nat}

theorem Seat.deliver_only (x : Seat) (b : Nat) : { x.deliver b with blocks := x.blocks, wants := x.wants } = x := by
  unfold Seat.deliver
  split <;> rfl

theorem Seat.deliver_of_unwanted (h : x.wants.contains b = false) : x.deliver b = x := if_neg (ne_true_of_eq_false h)

theorem Seat.deliver_of_wanted (h : x.wants.contains b = true) : b ∈ (x.deliver b).blocks ∧ b ∉ (x.deliver b).wants ∧
    (x.deliver b).blocks.length ≤ 2 ∧ (x.fetched = true → (x.deliver b).fetched = true) := by
  rw [Seat.deliver, if_pos h]
  refine ⟨by simp, by simp, ?_, fun hf => ?_⟩
  · cases x.fetched
    · simp only [Bool.false_eq_true, if_false, List.length_append, List.length_drop, List.length_singleton]
      omega
    · simp
  · rw [if_pos hf]
    simp [Seat.fetched]

end

/-- Settles O23: the branches of an issue, and a delivery by what it does to the Seat's buffer. -/
theorem chalkIssue : Obligations.ChalkIssue := by
  refine ⟨fun s op i body h => State.issue_eq_self h, fun s op i body hmay hlegal hguard htimed => ?_,
    fun s op i body hmay hlegal hguard => State.issue_eq_of_ready ⟨hmay, hlegal, hguard⟩, fun d k word s h => ?_,
    fun d k word s hmay hlegal => ?_, fun d k b s => ?_⟩
  · rw [State.issue_of_guard hmay hlegal hguard htimed]
    exact State.seatOnly_issuedBy
  · exact congrArg Host.Outcome.next (if_pos h)
  · have stop := State.issue_of_illegal (body := fun t _ => t) hmay hlegal
    refine ⟨_, congrArg Host.Outcome.next ((if_neg (ne_true_of_eq_false hlegal)).trans stop), ?_, ?_, ?_, ?_, fun j hj => ?_⟩
    · simp [State.seat, State.desk_illegalAt, deskOf]
    · simp [State.seat, State.desk_illegalAt, deskOf]
    · simp [State.desk_illegalAt, deskOf]
    · exact (State.illegalAt_withDesks ..).trans (State.setDesk_withDesks ..)
    · refine (State.desk_illegalAt_ne _ _ hj).trans ?_
      simp [deskOf, Ne.symm hj]
  · intro x
    have seat : (s.setSeat (DeskId.idx d) k (x.deliver b.val)).seat (DeskId.idx d) k = x.deliver b.val := State.seat_setSeat_same ..
    refine ⟨s.setSeat (DeskId.idx d) k (x.deliver b.val), rfl, ?_⟩
    simp only [seat]
    refine ⟨x.deliver_only b.val, State.setDesk_withDesks .., fun j hj => ?_, Seat.deliver_of_unwanted, Seat.deliver_of_wanted⟩
    exact State.desk_setSeat_ne _ _ _ _ hj

end Sys2Proof.Machine
end

section
/-! SUPPORT. Outstanding accesses of a Seat: they complete, depart and drain. -/

namespace Sys2Proof.Machine

theorem Seat.settle_settle (x : Seat) : x.settle.settle = x.settle := by
  have wait (y : Seat) (st : SeatState) : ({ y with st := st } : Seat).mustWait = y.mustWait := rfl
  unfold Seat.settle
  cases hw : x.mustWait <;> cases hs : x.st <;> simp [hw, hs, wait]

theorem Seat.settle_fence (x : Seat) : x.settle.fence = x.fence := by
  unfold Seat.settle
  split
  · rfl
  · split <;> rfl

section
variable {s : State} {d : Nat} {k : Fin 4} {a : Access}

theorem State.settleSeat_setSeat_settle (x : Seat) : (s.setSeat d k x.settle).settleSeat d k = s.setSeat d k x.settle := by
  rw [State.settleSeat, State.seat_setSeat_same, Seat.settle_settle, State.setSeat_setSeat]

theorem State.forAll_cons {α : Type} (x : α) (l : List α) (op : State → α → State) : s.forAll (x :: l) op = (op s x).forAll l op := rfl

/-- A Seat with nothing outstanding sends nothing. -/
theorem State.pumpSeat_of_none (h : s.accesses d k = []) : s.pumpSeat d k = s.settleSeat d k := by
  rw [State.pumpSeat, h]
  rfl

theorem State.homesGo_of_none (h : s.coh.waitq = []) : s.homesGo = s := by
  rw [State.homesGo, h]
  rfl

/-! ### Completion -/

/-- The Seat after its only access completes. -/
def Seat.completed (x : Seat) (a : Access) (st : BitVec 5) (data : List Byte) : Seat :=
  ((if a.kind.isLoad = true ∧ st = stOk then ({ x with acc := [] } : Seat).load a.sz a.d data else { x with acc := [] }).record st true
    a.pc).settle

/-- A Seat's only access completes to registers and LAST. -/
theorem State.complete_sole (h : (s.seat d k).acc = [a]) (hlast : a.kind.last = true)
    (hload : a.kind.isLoad = true → a.kind ≠ .omv ∧ a.sz < 7) {st : BitVec 5} (hst : abortStatus st = false) (data : List Byte) :
    s.complete d k a st data = s.setSeat d k ((s.seat d k).completed a st data) := by
  cases hl : a.kind.isLoad with
  | false => simp [State.complete, h, hlast, State.collDesk, hst, Seat.completed, hl]
  | true =>
    obtain ⟨homv, hsz⟩ := hload hl
    have h7 : a.sz ≠ 7 := Nat.ne_of_lt hsz
    simp [State.complete, h, homv, hsz, h7, hlast, State.collDesk, hst, Seat.completed, hl]

theorem Seat.completed_acc (x : Seat) (st : BitVec 5) (data : List Byte) : (x.completed a st data).acc = [] := by
  rw [Seat.completed, Seat.settle_acc]
  change (if _ then _ else _ : Seat).acc = []
  split
  · rw [Seat.load_acc]
  · rfl

theorem State.settleSeat_completed (x : Seat) (st : BitVec 5) (data : List Byte) :
    (s.setSeat d k (x.completed a st data)).settleSeat d k = s.setSeat d k (x.completed a st data) :=
  State.settleSeat_setSeat_settle _

theorem State.accesses_setSeat (hleft : (s.desk d).left = []) (x : Seat) : (s.setSeat d k x).accesses d k = x.acc := by
  simp [State.accesses, State.setSeat, State.seat, hleft]

theorem State.pumpSeat_completed (hleft : (s.desk d).left = []) (x : Seat) (st : BitVec 5) (data : List Byte) :
    (s.setSeat d k (x.completed a st data)).pumpSeat d k = s.setSeat d k (x.completed a st data) := by
  rw [State.pumpSeat_of_none (by rw [State.accesses_setSeat hleft, Seat.completed_acc])]
  exact State.settleSeat_setSeat_settle _

theorem State.access_sole (hleft : (s.desk d).left = []) (h : (s.seat d k).acc = [a]) : s.access d k a.id = some a := by
  simp [State.access, State.accesses, hleft, h]

theorem State.access_none (hleft : (s.desk d).left = []) (h : (s.seat d k).acc = []) (id : Nat) : s.access d k id = none := by
  simp [State.access, State.accesses, hleft, h]

/-- What a completion leaves of its Seat: the access is outstanding no longer. -/
theorem State.complete_only (hleft : (s.desk d).left = []) {st : BitVec 5} (hst : abortStatus st = false) (data : List Byte) :
    (s.complete d k a st data).access d k a.id = none ∧ SameRegs s (s.complete d k a st data) ∧
    (st ≠ stOk → SameMemory s (s.complete d k a st data)) ∧ ∀ j, j ≠ d → (s.complete d k a st data).desk j = s.desk j := by
  have gone (l : List Access) : (l.filter (fun b => decide (b.id ≠ a.id))).find? (fun b => b.id = a.id) = none := by
    simp [List.find?_eq_none]
  unfold State.complete
  dsimp only
  split
  case isTrue hno =>
    refine ⟨?_, fun _ => rfl, fun _ => SameMemory.of_mem rfl, fun j hj => by simp [Ne.symm hj]⟩
    have : (s.seat d k).acc.find? (fun b => b.id = a.id) = none := by
      simpa [List.find?_eq_none, List.all_eq_true] using hno
    simpa [State.access, State.accesses, hleft, State.seat] using this
  case isFalse =>
    rw [State.collDesk, if_neg (ne_true_of_eq_false hst)]
    generalize hy : (if a.kind.last = true then _ else _ : Seat) = y
    have acc : y.acc = (s.seat d k).acc.filter (fun b => decide (b.id ≠ a.id)) := by
      rw [← hy]
      have inner : (if (a.kind.isLoad && decide (st = stOk) && decide (a.sz < 7)) = true then
          ({ s.seat d k with acc := (s.seat d k).acc.filter (fun b => decide (b.id ≠ a.id)) } : Seat).load a.sz a.d data
          else { s.seat d k with acc := (s.seat d k).acc.filter (fun b => decide (b.id ≠ a.id)) }).acc =
          (s.seat d k).acc.filter (fun b => decide (b.id ≠ a.id)) := by
        split
        · rw [Seat.load_acc]
        · rfl
      split
      · exact inner
      · split <;> exact inner
    have found : (s.setSeat d k y.settle).access d k a.id = none := by
      rw [State.access, State.accesses_setSeat hleft, Seat.settle_acc, acc]
      exact gone _
    have other (j : Nat) (hj : j ≠ d) : (s.setSeat d k y.settle).desk j = s.desk j := State.desk_setSeat_ne _ _ _ _ hj
    have written (b : Nat) : ((s.setSeat d k y.settle).setBytes b data).access d k a.id = none := by
      simpa only [State.access, State.accesses, State.seat, State.desk, State.setBytes_desks] using found
    split
    · refine ⟨written _, fun r => congrArg (fun r' => tget regReset r' r) (State.setBytes_regs (s.setSeat d k y.settle) ..),
        fun hne => absurd ?_ hne, fun j hj => ?_⟩
      · simp_all
      · rw [State.desk, State.setBytes_desks]
        exact other j hj
    · split
      · refine ⟨written _, fun r => congrArg (fun r' => tget regReset r' r) (State.setBytes_regs (s.setSeat d k y.settle) ..),
          fun hne => absurd ?_ hne, fun j hj => ?_⟩
        · simp_all
        · rw [State.desk, State.setBytes_desks]
          exact other j hj
      · exact ⟨found, fun _ => rfl, fun _ => SameMemory.of_mem rfl, other⟩

/-! ### Completion and departure as commands -/

theorem exec_accessCompletion (D : DeskId) (k : Fin 4) (id : Nat) (st : BitVec 5) (data : List Byte) {a : Access}
    {r : BitVec 5 × List Byte} (h : s.access (DeskId.idx D) k id = some a) (hr : a.result = some r) :
    exec (.accessCompletion D k id st data) s =
      .next (((s.complete (DeskId.idx D) k a r.1 r.2).pumpSeat (DeskId.idx D) k).homesGo) := by
  refine congrArg Host.Outcome.next ?_
  simp only [h, hr]

theorem exec_accessCompletion_none (D : DeskId) (k : Fin 4) (id : Nat) (st : BitVec 5) (data : List Byte)
    (h : s.access (DeskId.idx D) k id = none ∨ ∃ a, s.access (DeskId.idx D) k id = some a ∧ a.result = none) :
    exec (.accessCompletion D k id st data) s = .next s := by
  refine congrArg Host.Outcome.next ?_
  obtain h | ⟨a, h, hr⟩ := h
  · simp only [h]
  · simp only [h, hr]

/-- Only the Seats' accesses with the number that departs go at a slot. -/
theorem exec_timetabledDeparture (D : DeskId) (id : Nat) (h : s.bell.phase = .body) :
    exec (.timetabledDeparture D id) s =
      .next ((s.forAll [(0 : Fin 4), 1, 2, 3] (fun s k => s.departAccess (DeskId.idx D) id k)).homesGo) :=
  congrArg Host.Outcome.next (if_neg fun hn => hn h)

theorem State.departAccess_none {id : Nat} (h : s.access d k id = none) : s.departAccess d id k = s := by
  rw [State.departAccess, h]

theorem State.departAccess_slot {id : Nat} (h : s.access d k id = some a) (hst : a.stage = .slot) :
    s.departAccess d id k = s.depart d k a := by
  rw [State.departAccess, h]
  exact if_pos hst

theorem State.performBb_of_timed_load (hk : a.kind = .bbLoad) (ht : a.timed = true) : s.performBb d k a =
    s.complete d k a stOk (s.bytes (bbBase (roomOf d) + a.f.fpa.toNat) a.f.length.toNat) := by
  rw [State.performBb]
  simp only [hk, ht, if_true]

/-- A timetabled load of the Desk's Blackboard departs and is performed at its slot. -/
theorem State.depart_board (hleft : (s.desk d).left = []) (hacc : (s.seat d k).acc = [a]) (hk : a.kind = .bbLoad)
    (hsz : a.sz < 7) (htimed : a.timed = true) : s.depart d k a = s.setSeat d k ((s.seat d k).completed a stOk
      (s.bytes (bbBase (roomOf d) + a.f.fpa.toNat) a.f.length.toNat)) := by
  have reads : a.reads = false := by simp [Access.reads, hk, AccKind.isLoad]
  have begun : s.beginRead d a = a := if_neg (ne_true_of_eq_false reads)
  have board : a.isBoard = true := by simp [Access.isBoard, hk]
  have put : s.setAccess d k { a with stage := .queued } =
      s.setSeat d k { s.seat d k with acc := [{ a with stage := .queued }] } := by
    have hacc' : ((s.desk d).seats[k.val]).acc = [a] := hacc
    simp [State.setAccess, State.setSeat, State.seat, hacc', hleft]
  have sole : (s.setAccess d k { a with stage := .queued }).accesses d k = [{ a with stage := .queued }] := by
    rw [put, State.accesses_setSeat hleft]
  rw [State.depart, begun, if_pos (by rw [board]; rfl)]
  rw [State.pumpSeat_of_sole sole rfl (by simp [Access.full, Access.reads, hk, AccKind.isLoad]) board,
    State.performBb_of_timed_load (a := { a with stage := .queued }) hk htimed, put, State.complete_sole (a := { a with stage := .queued }) (by rw [State.seat_setSeat_same]) (by simp [AccKind.last, hk, AccKind.isLoad])
    (fun _ => ⟨by simp [hk], hsz⟩) (by decide), State.seat_setSeat_same, State.setSeat_setSeat, State.bytes_of_mem (s := s) (t := s.setSeat d k _) rfl]
  exact (State.settleSeat_completed ..).trans rfl

theorem exec_fenceRelDrained_fence (D : DeskId) (hacc : (s.seat (DeskId.idx D) k).acc = [])
    (hf : (s.seat (DeskId.idx D) k).fence = true) : exec (.fenceRelDrained D k) s =
      .next (s.setSeat (DeskId.idx D) k ({ s.seat (DeskId.idx D) k with fence := false } : Seat).settle) := by
  refine congrArg Host.Outcome.next ?_
  simp only [hacc, hf, if_true]

theorem exec_fenceRelDrained_many (D : DeskId) (hacc : 2 ≤ (s.seat (DeskId.idx D) k).acc.length) :
    exec (.fenceRelDrained D k) s = .next s := by
  refine congrArg Host.Outcome.next ?_
  match hl : (s.seat (DeskId.idx D) k).acc with
  | [] | [a] => simp [hl] at hacc
  | a :: b :: r => rfl

end

/-- Settles O24: completions, departures and fences by the lemmas above. -/
theorem accessEvents : Obligations.AccessEvents := by
  refine ⟨fun D k id st data s h => exec_accessCompletion_none D k id st data h,
    fun D k id st data a r s h hr => exec_accessCompletion D k id st data h hr,
    fun D k id st data a r s hacc hleft hid hr hlast hload hab hwait => ?_,
    fun s d k a st data hst hleft => State.complete_only hleft hst data, fun D id s h => ?_, fun D id a s hph ha hst => ?_,
    fun D id a s hph hwait hleft hacc hothers hid hst hk hsz _ htimed => ?_, fun D k s hacc hf => ?_,
    fun D k s h => exec_fenceRelDrained_many D h⟩
  · have found : s.access (DeskId.idx D) k id = some a := hid ▸ State.access_sole hleft hacc
    refine ⟨_, exec_accessCompletion D k id st data found hr, ?_⟩
    rw [State.complete_sole hacc hlast hload hab, State.pumpSeat_completed hleft, State.homesGo_of_none (by exact hwait)]
    exact ⟨fun _ => rfl, SameMemory.of_mem rfl, fun j hj => State.desk_setSeat_ne _ _ _ _ hj, State.seat_setSeat_same ..⟩
  · obtain hph | ⟨hnone, hwait⟩ := h
    · exact congrArg Host.Outcome.next (if_pos hph)
    · have stay : s.forAll [(0 : Fin 4), 1, 2, 3] (fun s k => s.departAccess (DeskId.idx D) id k) = s := by
        simp only [State.forAll, List.foldl_cons, List.foldl_nil, State.departAccess_none (hnone _)]
      by_cases hph : s.bell.phase = .body
      · rw [exec_timetabledDeparture D id hph, stay, State.homesGo_of_none hwait]
      · exact congrArg Host.Outcome.next (if_pos hph)
  · rw [exec_timetabledDeparture D id hph, State.forAll_cons, State.departAccess_slot ha hst]
  · have found : s.access (DeskId.idx D) 0 id = some a := hid ▸ State.access_sole hleft hacc
    have first := (State.departAccess_slot found hst).trans (State.depart_board hleft hacc hk hsz htimed)
    generalize hx : (s.seat (DeskId.idx D) 0).completed a stOk
      (s.bytes (bbBase (roomOf (DeskId.idx D)) + a.f.fpa.toNat) a.f.length.toNat) = x at first
    have rest (j : Fin 4) (hj : j ≠ 0) : (s.setSeat (DeskId.idx D) 0 x).departAccess (DeskId.idx D) id j = s.setSeat (DeskId.idx D) 0 x := by
      refine State.departAccess_none (State.access_none ?_ ?_ id)
      · simp [State.setSeat, hleft]
      · have := hothers j hj
        have hj' : (0 : Fin 4).val ≠ j.val := fun e => hj (Fin.ext e.symm)
        simp only [State.seat, State.setSeat, State.desk_setDesk, if_true]
        rw [show ((s.desk (DeskId.idx D)).seats.set (0 : Fin 4) x)[j] = (s.desk (DeskId.idx D)).seats[j] from
          Vector.getElem_set_ne _ _ hj']
        exact this
    have all : s.forAll [(0 : Fin 4), 1, 2, 3] (fun s k => s.departAccess (DeskId.idx D) id k) = s.setSeat (DeskId.idx D) 0 x := by
      simp only [State.forAll, List.foldl_cons, List.foldl_nil, first, rest 1 (by decide), rest 2 (by decide), rest 3 (by decide)]
    refine ⟨_, exec_timetabledDeparture D id hph, ?_⟩
    rw [all, State.homesGo_of_none (by exact hwait)]
    refine ⟨SameMemory.of_mem rfl, fun _ => rfl, ?_⟩
    rw [State.seat_setSeat_same, ← hx, Seat.completed, if_pos ⟨by rw [hk]; rfl, rfl⟩]
  · refine ⟨_, exec_fenceRelDrained_fence D hacc hf, ?_, State.setDesk_withDesks .., fun j hj => State.desk_setSeat_ne _ _ _ _ hj⟩
    rw [State.seat_setSeat_same, Seat.settle_fence]

end Sys2Proof.Machine
end

section
/-! SUPPORT. A Long Tally operation that is refused. -/

namespace Sys2Proof.Machine

/-- A collective that holds the lines of a Long Tally at the start of Classroom 0's Blackboard. -/
def boardHolder : CollCtx :=
  { desc := { id := 1, kind := 0, type := 0, members := 2, index := 0, root := 0, group := 0, launch := 0, close := 0, finish := 0,
              region := bbBase 0, lines := 16, init := false, watch := [], vote := 0, verdict := 64, vtick := 0 }
    base := 0, st := .reserved, status := 0, cause := 0, how := 0, slots := 0, vote := 0, noticed := false, decided := false
    recorded := false, held := true }

/-- A clear of such a Long Tally, by a Seat whose LAST is OK. -/
def heldClear : LtReq := { desk := 0, seat := 0, off := 0, pc := 0, op := .clear }

/-- The state after reset, with that clear accepted and that collective holding its lines. -/
def heldClearAccepted : State :=
  { State.reset with rooms := [(0, { ltBusy := [heldClear] })], coll := { ctx := [(0, some boardHolder)] } }

theorem exec_heldClear : exec (.longTallyComplete 0 0 0) heldClearAccepted =
    .next ((heldClearAccepted.setRoom 0 {}).ltPerform 0 heldClear 0) := rfl

/-- Refutes O25, in the clause of a refused LTADD or LTCLR: its status goes to STAT's exception fields and not to LAST (R297), which stays
OK in this state, where the clause has LAST hold PERM. -/
theorem not_longTallies : ¬ Obligations.LongTallies := by
  intro h
  obtain ⟨⟨-, -, -, -, -, hrefused, -⟩, -⟩ := h
  have held : ¬ ∀ l ∈ ltLines (300 * (0 : Fin 4).val + (0 : Fin 300).val) heldClear.off, heldClearAccepted.collAt l = none := by
    decide +kernel
  obtain ⟨t, e, -, -, hlast⟩ := hrefused 0 0 0 heldClear [] heldClearAccepted rfl rfl held rfl
  rw [Host.Outcome.next.inj (e.symm.trans exec_heldClear)] at hlast
  exact absurd hlast (by decide +kernel)

end Sys2Proof.Machine
end

section
/-! SUPPORT. The staged route table. -/

namespace Sys2Proof.Machine

theorem regSpec_rtStage {a : Nat} (h1 : rRtStage ≤ a) (h2 : a < rRtStage + 0x10000) :
    regSpec a = if a % 16 = 0 then { rw := BitVec.allOnes 64 } else { rw := 0x0000008FFFFFFFFF } := by
  unfold rRtStage at h1 h2
  have ne {c : Nat} (hc : c < 0x120000) : ¬ a = c := by omega
  have below {lo n : Nat} (hc : lo + n ≤ 0x120000) : ¬ (lo ≤ a ∧ a < lo + n) := by omega
  rw [regSpec, if_neg (by omega), if_neg (by omega), if_neg (by omega), if_neg (by omega), if_neg (by omega), if_neg (by omega),
    if_neg (by omega), if_neg (by omega), if_pos (by omega), swcSpec, if_neg (ne (by decide)), if_neg (ne (by decide)),
    if_neg (not_or.mpr ⟨ne (by decide), ne (by decide)⟩), if_neg (ne (by decide)), if_neg (ne (by decide)), if_neg (ne (by decide)),
    if_neg (ne (by decide)), if_neg (ne (by decide)), if_neg (ne (by decide)), if_neg (ne (by decide)), if_neg (below (by decide)),
    if_neg (ne (by decide)), if_neg (ne (by decide)), if_neg (ne (by decide)), if_neg (ne (by decide)), if_neg (ne (by decide)),
    if_neg (ne (by decide)), if_neg (by unfold rEjectMismatch rRespDrop; omega), if_neg (below (by decide)), if_neg (below (by decide)),
    if_neg (below (by decide)), if_pos (by unfold rRtStage; omega)]

theorem rtStage_ne_rtStatus (k : Nat) : rRtStage + k ≠ rRtStatus := by
  unfold rRtStage rRtStatus
  omega

section
variable {s : State}

/-- Registers of the staged table that are not listed hold zeros. -/
theorem State.listed_of_reg_ne_zero {a : Nat} (h1 : rRtStage ≤ a) (h2 : a < rRtStage + 0x10000) (h : s.reg a ≠ 0) :
    ∃ e ∈ s.regs, e.1 = a := by
  have listed (t : Tab Word) (hne : tget regReset t a ≠ 0) : ∃ e ∈ t, e.1 = a := by
    induction t with
    | nil =>
      have zero : regReset a = 0 := by
        rw [regReset, regSpec_rtStage h1 h2]
        split <;> rfl
      exact absurd zero hne
    | cons e r ih =>
      by_cases he : e.1 = a
      · exact ⟨e, List.mem_cons_self, he⟩
      · have : tget regReset (e :: r) a = tget regReset r a := if_neg he
        obtain ⟨x, hx, hxa⟩ := ih (this ▸ hne)
        exact ⟨x, List.mem_cons_of_mem _ hx, hxa⟩
  exact listed s.regs h

/-- Entries of the staged table that the check looks at. -/
def State.stagedEntries (s : State) : List Nat :=
  (s.regs.filter (fun e => rRtStage ≤ e.1 && e.1 < rRtStage + 0x10000)).map (fun e => (e.1 - rRtStage) / 16)

theorem State.stagedEntries_lt {d : Nat} (h : d ∈ s.stagedEntries) : d < 4096 := by
  obtain ⟨e, he, rfl⟩ := List.mem_map.mp h
  have := (List.mem_filter.mp he).2
  simp only [Bool.and_eq_true, decide_eq_true_eq] at this
  omega

/-- Every entry that fails a check is among them. -/
theorem State.mem_stagedEntries_of_bad {d : Nat} (hd : d < 4096) (h : s.stageBad d = true) : d ∈ s.stagedEntries := by
  have some : s.reg (rRtStage + 16 * d) ≠ 0 ∨ s.reg (rRtStage + 16 * d + 8) ≠ 0 := by
    simp only [State.stageBad, Bool.and_eq_true, Bool.or_eq_true, decide_eq_true_eq] at h
    exact h.1
  have found {a : Nat} (ha : (a - rRtStage) / 16 = d) (h1 : rRtStage ≤ a) (h2 : a < rRtStage + 0x10000) (hne : s.reg a ≠ 0) :
      d ∈ s.stagedEntries := by
    obtain ⟨e, he, rfl⟩ := State.listed_of_reg_ne_zero h1 h2 hne
    refine List.mem_map.mpr ⟨e, List.mem_filter.mpr ⟨he, ?_⟩, ha⟩
    simp [h1, h2]
  obtain hne | hne := some
  · exact found (by omega) (by omega) (by omega) hne
  · exact found (by omega) (by omega) (by omega) hne

theorem State.onlyRegs_stageCheck : OnlyRegs s s.stageCheck [rRtStatus] := by
  unfold State.stageCheck
  dsimp only
  split
  all_goals
    refine ⟨rfl, fun a ha => ?_⟩
    have hne : a ≠ rRtStatus := by simpa using ha
    rw [State.reg_setRegF_ne _ _ _ _ _ _ hne, State.reg_setRegBit_ne _ _ _ _ _ hne]

/-- What a state's staged table says of an entry does not depend on the status. -/
theorem State.stageBad_congr {t : State} (h : ∀ a, a ≠ rRtStatus → t.reg a = s.reg a) (d : Nat) : t.stageBad d = s.stageBad d := by
  have part (p : Nat) : (decide (p < 128) && (t.portPart p).isNone) = (decide (p < 128) && (s.portPart p).isNone) := by
    by_cases hp : p < 128
    · have : (rPortPart + p) / 8 * 8 ≠ rRtStatus := by
        unfold rPortPart rRtStatus
        omega
      rw [State.portPart, State.portPart, State.tabF, State.tabF, State.regF, State.regF, h _ this]
    · rw [decide_eq_false hp, Bool.false_and, Bool.false_and]
  have lo := h _ (rtStage_ne_rtStatus (16 * d))
  have hi := h _ (rtStage_ne_rtStatus (16 * d + 8))
  rw [← Nat.add_assoc] at hi
  simp only [State.stageBad, lo, hi, part]

/-- After the check STAGE_ERR says whether some entry fails. -/
theorem State.regBit_stageCheck : s.stageCheck.regBit rRtStatus 2 = true ↔ ∃ e, e < 4096 ∧ s.stageCheck.stageBad e = true := by
  have same (e : Nat) : s.stageCheck.stageBad e = s.stageBad e :=
    State.stageBad_congr (fun a ha => s.onlyRegs_stageCheck.2 a (by simpa using ha)) e
  have bit (b : Bool) (d : Nat) : ((s.setRegBit rRtStatus 2 b).setRegF rRtStatus 16 12 d).regBit rRtStatus 2 = b := by
    rw [State.regBit, State.regF_setRegF_below _ _ _ _ _ _ _ (by decide) (by decide)]
    exact State.regBit_setRegBit _ _ _ _ (by decide)
  simp only [same]
  unfold State.stageCheck
  dsimp only
  change (match s.stagedEntries.find? s.stageBad with
    | some d => (s.setRegBit rRtStatus 2 true).setRegF rRtStatus 16 12 d
    | none => (s.setRegBit rRtStatus 2 false).setRegF rRtStatus 16 12 0 : State).regBit rRtStatus 2 = true ↔ _
  cases hf : s.stagedEntries.find? s.stageBad with
  | some d => exact iff_of_true (bit true d) ⟨d, State.stagedEntries_lt (List.mem_of_find?_eq_some hf), List.find?_some hf⟩
  | none =>
    refine iff_of_false (by rw [bit]; nofun) ?_
    rintro ⟨e, he, hbad⟩
    exact absurd hbad (List.find?_eq_none.mp hf e (State.mem_stagedEntries_of_bad he hbad))

end

/-- A whole write of a register whose every bit is writable. -/
theorem written_allOnes (old v : Word) : RegSpec.written { rw := BitVec.allOnes 64 } old v allBits = v := by
  refine BitVec.eq_of_getLsbD_eq fun i hi => ?_
  simp only [RegSpec.written, allBits, BitVec.getLsbD_and, BitVec.getLsbD_or, BitVec.getLsbD_not, BitVec.getLsbD_allOnes, hi]
  simp

theorem exec_swcRtStageWrite {s : State} (d : BitVec 12) (lo hi : BitVec 64) (h : s.recovery = false) :
    exec (.swcRtStageWrite d lo hi) s =
      .next ((s.writeStage (rRtStage + 16 * d.toNat) lo allBits).writeStage (rRtStage + 16 * d.toNat + 8) hi allBits) :=
  congrArg Host.Outcome.next (s.bar0_eq_of_not_recovery _ h)

theorem OnlyRegs.mono {s t : State} {l m : List Nat} (h : OnlyRegs s t l) (hlm : ∀ a ∈ l, a ∈ m) : OnlyRegs s t m :=
  ⟨h.1, fun a ha => h.2 a fun hl => ha (hlm a hl)⟩

theorem rulesStagedRoutes_holds : rulesStagedRoutes := by
  intro d lo hi s hrec
  have hd := d.isLt
  generalize ha : rRtStage + 16 * d.toNat = a
  have h1 : rRtStage ≤ a := by omega
  have h2 : a + 8 < rRtStage + 0x10000 := by omega
  have align : a % 16 = 0 := by unfold rRtStage at ha; omega
  have neA : a ≠ rRtStatus := by rw [← ha]; exact rtStage_ne_rtStatus _
  have neB : a + 8 ≠ rRtStatus := by rw [← ha, Nat.add_assoc]; exact rtStage_ne_rtStatus _
  have specA : regSpec a = { rw := BitVec.allOnes 64 } := by rw [regSpec_rtStage h1 (by omega), if_pos align]
  have specB : regSpec (a + 8) = { rw := 0x0000008FFFFFFFFF } := by rw [regSpec_rtStage (by omega) h2, if_neg (by omega)]
  have out := exec_swcRtStageWrite d lo hi hrec
  rw [ha] at out
  -- the two words, and what the two checks leave alone
  have check (u : State) : OnlyRegs u u.stageCheck [rRtStatus] := u.onlyRegs_stageCheck
  have first : (s.writeStage a lo allBits).reg a = lo := by
    rw [State.writeStage, (check _).2 a (by simpa using neA), State.writePlain, State.reg_setReg, if_pos rfl, specA, written_allOnes]
  have second (u : State) {l n : Nat} (hln : l + n ≤ 64)
      (hw : ∀ i : Fin 64, l ≤ i.val → i.val < l + n → (0x0000008FFFFFFFFF : Word).getLsbD i.val = true) :
      (u.writeStage (a + 8) hi allBits).regF (a + 8) l n = fget hi l n := by
    rw [State.writeStage, State.regF, (check _).2 (a + 8) (by simpa using neB)]
    exact State.regF_writePlain u (a + 8) hi l n hln fun i hl hi' => by
      rw [specB]
      exact ⟨hw i hl hi', by simp⟩
  refine ⟨_, out, ?_, second _ (by decide) (by decide), ?_, State.regBit_stageCheck, ?_⟩
  · rw [State.writeStage, (check _).2 a (by simpa using neA), State.writePlain, State.reg_setReg_ne _ _ _ _ (by omega)]
    exact first
  · have := second (s.writeStage a lo allBits) (l := 39) (n := 1) (by decide) (by decide)
    rw [State.regBit, this]
    simp [fget, BitVec.getLsbD, Nat.testBit_eq_decide_div_mod_eq]
  · have one (u : State) (b : Nat) (v : Word) : OnlyRegs u (u.writeStage b v allBits) [b, rRtStatus] := by
      have plain : OnlyRegs u (u.writePlain b v allBits) [b] := State.onlyRegs_writePlain u b v allBits
      exact (plain.mono (by simp)).trans ((check _).mono (by simp))
    exact ((one s a lo).mono (by simp)).trans ((one _ (a + 8) hi).mono (by simp))

end Sys2Proof.Machine
end

section
/-! SUPPORT. Multicast stores at their engine. -/

namespace Sys2Proof.Machine

section
variable {s : State} {r : Req}

/-- Taking an MST out of its ingress buffer changes the held frames, the DEP-7s and the outputs alone. -/
theorem State.returnCredit_only (s : State) (p v n : Nat) : ∃ ds out, s.returnCredit p v n = { s with deps := ds, out := out } := by
  have only : ∃ t : State, s.returnCredit p v n = t ∧ { t with deps := s.deps, out := s.out } = s := by
    have launch (t : State) (f : Frame) (h : { t with deps := s.deps, out := s.out } = s) :
        { t.depLaunch p f with deps := s.deps, out := s.out } = s := by
      obtain ⟨ds, out, e⟩ := t.depLaunch_only p f
      rw [e]
      exact h
    refine ⟨_, rfl, ?_⟩
    unfold State.returnCredit
    split
    · dsimp only
      split
      · exact State.forAll_induct (P := fun t => { t with deps := s.deps, out := s.out } = s) rfl fun t f h => launch t f h
      · rfl
    · rfl
  obtain ⟨t, ht, h⟩ := only
  exact ⟨t.deps, t.out, ht.trans (by rw [← h])⟩

/-- What the engine holds for its multicast stores, and memory. -/
def State.mcWith (mc : List McCtx) (wait : List Req) (m : Tab Byte) (t : State) : Prop :=
  t.fab.mc = mc ∧ t.fab.mcWait = wait ∧ t.mem = m ∧ t.fab.pairs = []

theorem State.mstRelease_only (s : State) (f : Frame) :
    ∃ held ds out, s.mstRelease f = { s with fab := { s.fab with mcHeld := held }, deps := ds, out := out } := by
  unfold State.mstRelease
  split
  · obtain ⟨ds, out, h⟩ := State.returnCredit_only { s with fab := { s.fab with mcHeld := s.fab.mcHeld.erase ‹Nat × Frame› } }
      (‹Nat × Frame› : Nat × Frame).1 f.vc.toNat (Frame.cells f)
    exact ⟨_, ds, out, h⟩
  · exact ⟨s.fab.mcHeld, s.deps, s.out, rfl⟩

theorem State.mstRefusal_mstRelease (f g : Frame) : (s.mstRelease f).mstRefusal g = s.mstRefusal g := by
  obtain ⟨held, ds, out, h⟩ := s.mstRelease_only f
  rw [h]
  rfl

theorem State.mcMembers_mstRelease (f : Frame) (g : Nat) : (s.mstRelease f).mcMembers g = s.mcMembers g := by
  obtain ⟨held, ds, out, h⟩ := s.mstRelease_only f
  rw [h]
  rfl

theorem State.mcWith.mstRelease {mc : List McCtx} {wait : List Req} {m : Tab Byte} (h : s.mcWith mc wait m) (f : Frame) :
    (s.mstRelease f).mcWith mc wait m := by
  obtain ⟨held, ds, out, e⟩ := s.mstRelease_only f
  rw [e]
  exact h

theorem State.strms_mstRelease (f : Frame) : (s.mstRelease f).strms = s.strms := by
  obtain ⟨held, ds, out, e⟩ := s.mstRelease_only f
  rw [e]

/-- An answer to one of the module's own requests touches neither the multicast engine nor memory. -/
theorem State.mcWith.mcAnswer {mc : List McCtx} {wait : List Req} {m : Tab Byte} (h : s.mcWith mc wait m) (hown : Req.isFrame r = false)
    (st : BitVec 5) (n : Nat) : (s.mcAnswer r st n).mcWith mc wait m := by
  have mst : (s.endOwnMst r.f).mcWith mc wait m := by
    unfold State.endOwnMst
    split
    · exact h
    · exact h
  have fabric (t : State) (d k id : Nat) (data : List Byte) : (t.resultDesk d k id st data).fab = t.fab := by
    unfold State.resultDesk
    split
    · dsimp only
      split <;> rfl
    · rfl
  cases hv : r.via with
  | fabric p => rw [Req.isFrame, hv] at hown; cases hown
  | desk d k id =>
    simp only [State.mcAnswer, hv, State.answerVia, State.mcWith, fabric, State.resultDesk_mem]
    exact mst
  | stream w e =>
    simp only [State.mcAnswer, hv, State.answerVia]
    exact mst

theorem State.strms_mcAnswer (hown : Req.isFrame r = false) (hs : s.strms = []) (st : BitVec 5) (n : Nat) : (s.mcAnswer r st n).strms = [] := by
  have mst : (s.endOwnMst r.f).strms = [] := by
    unfold State.endOwnMst
    split <;> exact hs
  cases hv : r.via with
  | fabric p => rw [Req.isFrame, hv] at hown; cases hown
  | desk d k id =>
    simp only [State.mcAnswer, hv, State.answerVia, State.resultDesk]
    split
    · split <;> exact mst
    · exact mst
  | stream w e =>
    simp only [State.mcAnswer, hv, State.answerVia]
    rw [State.setStrm_of_idle mst]
    exact mst

theorem State.answered_mcAnswer {d : DeskId} {k : Fin 4} {id : Nat} (hvia : r.via = .desk d k id) (st : BitVec 5) (n : Nat) :
    Answered (s.mcAnswer r st n) d k id st (leBytes 2 n) := by
  simp only [State.mcAnswer, hvia, State.answerVia]
  exact answered_resultDesk _ _ _

theorem State.mcWith.pumpAll {mc : List McCtx} {wait : List Req} {m : Tab Byte} (h : s.mcWith mc wait m) (e : Nat) : s.pumpAll e = s := by
  rw [State.pumpAll, State.pairsOf, h.2.2.2]
  rfl

theorem State.settleStreams_of_idle (h : s.strms = []) : s.settleStreams = s := by
  rw [State.settleStreams, h]
  rfl

/-- The engine refuses an MST, or answers one whose group has no members. -/
theorem State.mstGo_answers {st : BitVec 5} (h : s.mstRefusal r.f = some st ∨
    s.mstRefusal r.f = none ∧ s.mcMembers r.f.group.toNat = [] ∧ st = stOk) :
    s.mstGo r = ((s.mstRelease r.f).mcAnswer r st 0).pumpAll 0 := by
  obtain h | ⟨h, hm, rfl⟩ := h
  · simp only [State.mstGo, State.mstRefusal_mstRelease, h]
  · simp only [State.mstGo, State.mstRefusal_mstRelease, h, State.mstStart, State.mcMembers_mstRelease, hm, List.isEmpty_nil, if_true]

theorem exec_mstRequest_own (hop : Req.op r = 3) (hown : Req.isFrame r = false) :
    exec (.mstRequest r) s = .next ((s.mstTake r).settleStreams) := by
  refine congrArg Host.Outcome.next ((if_pos hop).trans ?_)
  cases hv : r.via with
  | fabric p => rw [Req.isFrame, hv] at hown; cases hown
  | desk | stream => simp only [State.multicast, hv]

theorem State.mstTake_of_free (hfree : s.fab.mcWait = [] ∧ s.fab.mc.length < 1024) : s.mstTake r = s.mstGo r := by
  obtain ⟨hw, hl⟩ := hfree
  simp [State.mstTake, hw, hl]

/-- With a free context, an MST of a module's own engine that is answered at once. -/
theorem mstRequest_answered {st : BitVec 5} (hop : Req.op r = 3) (hown : Req.isFrame r = false)
    (hfree : s.fab.mcWait = [] ∧ s.fab.mc.length < 1024) (hcalm : s.strms = [] ∧ s.fab.pairs = [])
    (h : s.mstRefusal r.f = some st ∨ s.mstRefusal r.f = none ∧ s.mcMembers r.f.group.toNat = [] ∧ st = stOk) :
    Does (.mstRequest r) s (fun t => t.fab.mc = s.fab.mc ∧ SameMemory s t ∧
      ∀ d k id, r.via = .desk d k id → Answered t d k id st (leBytes 2 0)) := by
  have kept : ((s.mstRelease r.f).mcAnswer r st 0).mcWith s.fab.mc s.fab.mcWait s.mem :=
    State.mcWith.mcAnswer (State.mcWith.mstRelease ⟨rfl, rfl, rfl, hcalm.2⟩ r.f) hown st 0
  have idle : ((s.mstRelease r.f).mcAnswer r st 0).strms = [] := State.strms_mcAnswer hown ((State.strms_mstRelease _).trans hcalm.1) st 0
  refine ⟨_, exec_mstRequest_own hop hown, ?_⟩
  rw [State.mstTake_of_free hfree, State.mstGo_answers h, kept.pumpAll, State.settleStreams_of_idle idle]
  exact ⟨kept.1, SameMemory.of_mem kept.2.2.1, fun d k id hv => State.answered_mcAnswer hv st 0⟩

end

theorem rulesMulticast_holds : rulesMulticast := by
  refine ⟨fun r s hop hown hfree hcalm hg => ?_, fun r s hop hown hfree hcalm hg ho hne => ?_, fun r s hop hown hfree hcalm href hm => ?_,
    fun r s hop hown hfree href => ?_, fun r s hop hown hstrm href hbusy => ?_, fun r s hop => ?_, fun s h => ?_,
    fun s r l hw hl href hp _ hown => ?_, fun s r l hw hl => ?_, fun s r _ => ?_⟩
  · exact mstRequest_answered hop hown hfree hcalm (.inl (if_pos hg))
  · refine mstRequest_answered hop hown hfree hcalm (.inl ?_)
    rw [State.mstRefusal, if_neg (Nat.not_lt.mpr hg), if_pos ⟨ho, hne.symm⟩]
  · exact mstRequest_answered hop hown hfree hcalm (.inr ⟨href, hm, rfl⟩)
  · rw [exec_mstRequest_own hop hown, State.mstTake_of_free hfree, State.mstGo]
    simp only [State.mstRefusal_mstRelease, href]
  · have waits : s.mstTake r = ({ s with fab := { s.fab with mcWait := s.fab.mcWait ++ [r] } } : State).countWrap rMcStatus 0 32 := by
      refine if_neg fun hc => hbusy ?_
      simpa [href] using hc
    have idle : (s.mstTake r).strms = [] := by
      rw [waits]
      exact hstrm
    refine ⟨_, exec_mstRequest_own hop hown, ?_⟩
    rw [State.settleStreams_of_idle idle, waits]
    exact ⟨rfl, rfl, State.regF_setRegF _ _ _ _ _ (by decide), fun a ha => State.reg_setRegF_ne _ _ _ _ _ _ ha⟩
  · exact congrArg Host.Outcome.next (if_neg hop)
  · refine congrArg Host.Outcome.next ?_
    obtain hw | hfull := h
    · rw [hw]
    · split
      · rfl
      · exact if_neg (Nat.not_lt.mpr hfull)
  · obtain ⟨st, hst⟩ := Option.isSome_iff_exists.mp href
    have refused : State.mstRefusal { s with fab := { s.fab with mcWait := l } } r.f = some st := hst
    have kept : ((({ s with fab := { s.fab with mcWait := l } } : State).mstRelease r.f).mcAnswer r st 0).mcWith s.fab.mc l s.mem :=
      State.mcWith.mcAnswer (s := State.mstRelease { s with fab := { s.fab with mcWait := l } } r.f)
        (State.mcWith.mstRelease (s := { s with fab := { s.fab with mcWait := l } }) ⟨rfl, rfl, rfl, hp⟩ r.f) hown st 0
    refine ⟨(({ s with fab := { s.fab with mcWait := l } } : State).mstRelease r.f).mcAnswer r st 0, congrArg Host.Outcome.next ?_,
      kept.2.1, kept.1, fun d k id hv => ?_⟩
    · rw [hw]
      exact (if_pos hl).trans ((State.mstGo_answers (.inl refused)).trans (kept.pumpAll 0))
    · rw [hst]
      exact State.answered_mcAnswer hv st 0
  · refine congrArg Host.Outcome.next ?_
    rw [hw]
    exact if_pos hl
  · simp [State.mcMembers]

/-- Settles O18, by its two parts. -/
theorem routesAndMulticast : Obligations.RoutesAndMulticast := ⟨rulesStagedRoutes_holds, rulesMulticast_holds⟩

end Sys2Proof.Machine
end

section
/-! SUPPORT. The block of a DEP-7: what its frames leave as it was, when it has nothing to do, and snoops at its Satchel. -/

namespace Sys2Proof.Machine

section
variable {s t u : State} {p : Nat}

theorem OnlyDeps.refl (s : State) : OnlyDeps s s := rfl

theorem OnlyDeps.trans (h : OnlyDeps s t) (g : OnlyDeps t u) : OnlyDeps s u := by
  unfold OnlyDeps at *
  rw [← h, ← g]

theorem OnlyDeps.setDep (h : OnlyDeps s t) (p : Nat) (d : Dep) : OnlyDeps s (t.setDep p d) := h
theorem OnlyDeps.setEp (h : OnlyDeps s t) (p a : Nat) (v : Word) : OnlyDeps s (t.setEp p a v) := h
theorem OnlyDeps.emit (h : OnlyDeps s t) (o : Out) : OnlyDeps s (t.emit o) := h
theorem OnlyDeps.setSat (h : OnlyDeps s t) (p l : Nat) (x : SatLine) : OnlyDeps s (t.setSat p l x) := h

theorem OnlyDeps.eq (h : OnlyDeps s t) : { t with deps := s.deps, out := s.out } = s := h
theorem OnlyDeps.sameMemory (h : OnlyDeps s t) : SameMemory s t :=  SameMemory.of_mem (congrArg State.mem h.eq :)
theorem OnlyDeps.sameRegs (h : OnlyDeps s t) : SameRegs s t :=  fun a => (congrArg (State.reg · a) h.eq :)

/-! ### Frames of the block -/

/-- Of a DEP-7 nothing differs but what its link keeps: credits spent and frames that wait for credit. -/
def Dep.sameButLink (d e : Dep) : Prop := { e with unpaid := d.unpaid, outq := d.outq } = d

theorem Dep.sameButLink.trans {d e f : Dep} (h : d.sameButLink e) (g : e.sameButLink f) : d.sameButLink f := by
  unfold Dep.sameButLink at *
  rw [← h, ← g]

section
variable {d e : Dep}

theorem Dep.sameButLink.eq (h : d.sameButLink e) : { e with unpaid := d.unpaid, outq := d.outq } = d := h
theorem Dep.sameButLink.reqs (h : d.sameButLink e) : e.reqs = d.reqs := (congrArg Dep.reqs h.eq :)
theorem Dep.sameButLink.sat (h : d.sameButLink e) : e.sat = d.sat := (congrArg Dep.sat h.eq :)
theorem Dep.sameButLink.flush (h : d.sameButLink e) : e.flush = d.flush := (congrArg Dep.flush h.eq :)
theorem Dep.sameButLink.inb (h : d.sameButLink e) : e.inb = d.inb := (congrArg Dep.inb h.eq :)
theorem Dep.sameButLink.iqWait (h : d.sameButLink e) : e.iqWait = d.iqWait := (congrArg Dep.iqWait h.eq :)
theorem Dep.sameButLink.regs (h : d.sameButLink e) : e.regs = d.regs := (congrArg Dep.regs h.eq :)

end

/-- Nothing of a state differs but the outputs and what the link of one DEP-7 keeps. -/
structure LinkOnly (s t : State) (p : Nat) : Prop where
  rest : OnlyDeps s t
  block : (s.dep p).sameButLink (t.dep p)
  others : ∀ q, q ≠ p → t.dep q = s.dep q

theorem LinkOnly.refl (s : State) (p : Nat) : LinkOnly s s p := ⟨rfl, rfl, fun _ _ => rfl⟩

theorem LinkOnly.trans (h : LinkOnly s t p) (g : LinkOnly t u p) : LinkOnly s u p :=
  ⟨h.rest.trans g.rest, h.block.trans g.block, fun q hq => (g.others q hq).trans (h.others q hq)⟩

theorem LinkOnly.setDep {d : Dep} (h : (s.dep p).sameButLink d) : LinkOnly s (s.setDep p d) p :=
  ⟨rfl, by simpa using h, fun q hq => by simp [hq.symm]⟩

theorem LinkOnly.emit (h : LinkOnly s t p) (o : Out) : LinkOnly s (t.emit o) p := ⟨h.rest, h.block, h.others⟩

theorem LinkOnly.depLaunch (s : State) (p : Nat) (f : Frame) : LinkOnly s (s.depLaunch p f) p := by
  unfold State.depLaunch State.depSend
  dsimp only
  split
  · exact LinkOnly.setDep rfl
  · refine LinkOnly.emit (LinkOnly.setDep ?_) _
    exact rfl

theorem LinkOnly.launch (s : State) (p : Nat) (o : Owner) (f : Frame) : LinkOnly s (s.launch (p + 1) o f) p := by
  unfold State.launch
  rw [if_neg (Nat.succ_ne_zero p)]
  split
  · exact LinkOnly.depLaunch s p _
  · exact LinkOnly.refl s p

theorem LinkOnly.depAnswer (s : State) (p : Nat) (f : Frame) (st : BitVec 5) (flags : BitVec 3) (data : List Byte) :
    LinkOnly s (s.depAnswer p f st flags data) p := by
  unfold State.depAnswer
  dsimp only
  split
  · exact LinkOnly.launch s p _ _
  · exact LinkOnly.refl s p

/-! ### A block that has nothing to do -/

/-- A DEP-7 has no request, no FLUSH to answer, and no line whose request has failed: its block has nothing to do. -/
def DieQuiet (d : Dep) : Prop := d.reqs = [] ∧ d.flush = none ∧ ∀ e ∈ d.sat, e.2.fail = none

theorem DieIdle.quiet {d : Dep} (h : DieIdle d) : DieQuiet d := by
  obtain ⟨hreqs, hsat, hflush⟩ := h
  exact ⟨hreqs, hflush, by simp [hsat]⟩

theorem DieQuiet.of_sameButLink {d e : Dep} (h : DieQuiet d) (g : d.sameButLink e) : DieQuiet e := by
  obtain ⟨hreqs, hflush, hsat⟩ := h
  exact ⟨g.reqs.trans hreqs, g.flush.trans hflush, g.sat ▸ hsat⟩

/-- What all entries of a table and the default have, the entry at any key has. -/
theorem tget_of_forall {α : Type} {P : α → Prop} {d : Nat → α} {l : Tab α} {k : Nat} (h : ∀ e ∈ l, P e.2) (hd : P (d k)) : P (tget d l k) := by
  induction l with
  | nil => exact hd
  | cons e r ih =>
    obtain ⟨i, x⟩ := e
    rw [tget]
    split
    · exact h _ List.mem_cons_self
    · exact ih fun e he => h e (List.mem_cons_of_mem _ he)

/-- No line of a quiet block has failed, listed or not. -/
theorem DieQuiet.fail (h : DieQuiet (s.dep p)) (l : Nat) : (s.sat p l).fail = none :=
  tget_of_forall (P := fun x : SatLine => x.fail = none) h.2.2 rfl

theorem State.depRound_of_quiet (h : DieQuiet (s.dep p)) : s.depRound p = s := by
  obtain ⟨hreqs, hflush, hsat⟩ := h
  have none : (s.dep p).sat.filterMap (fun e => e.2.fail.map (fun st => (e.1, st))) = [] := by
    rw [List.filterMap_eq_nil_iff]
    intro e he
    rw [hsat e he]
    rfl
  simp only [State.depRound, none, State.forAll, List.foldl_nil, hreqs, State.finishReqs, List.filter_nil, State.flushStep, hflush]

theorem State.depRounds_of_quiet (h : DieQuiet (s.dep p)) (k : Nat) : s.depRounds p k = s := by
  induction k with
  | zero => rfl
  | succ k ih => rw [State.depRounds, State.depRound_of_quiet h, ih]

theorem State.settleDep_of_quiet (h : DieQuiet (s.dep p)) : s.settleDep p = s := State.depRounds_of_quiet h _

/-! ### Lines of the Satchel -/

theorem State.sat_setSat (l : Nat) (x : SatLine) (m : Nat) : (s.setSat p l x).sat p m = if l = m then x else s.sat p m := by
  simp [State.sat, State.setSat, tget_tput]

theorem DieQuiet.setSat (h : DieQuiet (s.dep p)) (l : Nat) {x : SatLine} (hx : x.fail = none) : DieQuiet ((s.setSat p l x).dep p) := by
  obtain ⟨hreqs, hflush, hsat⟩ := h
  refine ⟨by simpa [State.setSat] using hreqs, by simpa [State.setSat] using hflush, fun e he => ?_⟩
  rw [State.setSat, State.dep_setDep, if_pos rfl] at he
  obtain rfl | he := mem_tput _ _ _ _ _ he
  · exact hx
  · exact hsat e he

/-! ### Snoops (R146, R147) -/

/-- A snoop has left the line `l` as `y`, no other line changed, and the block with as little to do as before. -/
structure Snooped (s t : State) (p l : Nat) (y : SatLine) : Prop where
  rest : OnlyDeps s t
  line : t.sat p l = y
  lines : ∀ m, m ≠ l → t.sat p m = s.sat p m
  quiet : DieQuiet (t.dep p)

section
variable {l : Nat} {y : SatLine}

theorem Snooped.refl (h : DieQuiet (s.dep p)) (l : Nat) : Snooped s s p l (s.sat p l) := ⟨rfl, rfl, fun _ _ => rfl, h⟩

theorem Snooped.setSat (h : Snooped s t p l y) {z : SatLine} (hz : z.fail = none) : Snooped s (t.setSat p l z) p l z :=
  ⟨h.rest, by rw [State.sat_setSat, if_pos rfl], fun m hm => by rw [State.sat_setSat, if_neg hm.symm, h.lines m hm],
    h.quiet.setSat l hz⟩

theorem Snooped.depAnswer (h : Snooped s t p l y) (f : Frame) (st : BitVec 5) (flags : BitVec 3) (data : List Byte) :
    Snooped s (t.depAnswer p f st flags data) p l y := by
  have sent := LinkOnly.depAnswer t p f st flags data
  have sat : ((t.depAnswer p f st flags data).dep p).sat = (t.dep p).sat := sent.block.sat
  refine ⟨h.rest.trans sent.rest, ?_, fun m hm => ?_, h.quiet.of_sameButLink sent.block⟩
  · rw [State.sat, sat]
    exact h.line
  · rw [State.sat, sat]
    exact h.lines m hm

theorem Snooped.predMove (h : Snooped s t p l y) (m : Nat) (up : Bool) : Snooped s (t.predMove p m up) p l y := by
  unfold State.predMove
  split
  · exact h
  · refine ⟨h.rest, ?_, fun m hm => ?_, ?_⟩
    · simpa [State.sat] using h.line
    · simpa [State.sat] using h.lines m hm
    · simpa [DieQuiet] using h.quiet

end

/-- What a snoop leaves of a line that is not in error. -/
def snoopLeaves (op : Nat) (x : SatLine) : SatLine :=
  match x.st with
  | .s => if op = 0x69 then {} else x
  | .e => if op = 0x69 then {} else if op = 0x68 then { x with st := .s } else x
  | .o => if op = 0x69 then {} else x
  | .m => if op = 0x69 then {} else if op = 0x68 then { x with st := .o } else x
  | .sm => if op = 0x69 then { x with st := .im, data := [] } else x
  | .om => if op = 0x69 then { x with st := .im, data := [] } else x
  | _ => x

theorem Snooped.applySnoop {f : Frame} (hue : (s.sat p (lineOf f)).ue = false) (hq : DieQuiet (s.dep p)) :
    Snooped s (s.applySnoop p f) p (lineOf f) (snoopLeaves f.opcode.toNat (s.sat p (lineOf f))) := by
  have hfail := hq.fail (lineOf f)
  unfold State.applySnoop snoopLeaves
  extract_lets l x op inv recent s' gone clean dirty
  have base : Snooped s s' p l x := by
    unfold s'
    split
    · exact (Snooped.refl hq _).predMove _ _
    · exact Snooped.refl hq _
  clear_value s'
  have told {t : State} {y : SatLine} (h : Snooped s t p l y) (code : Nat) : Snooped s (clean t code) p l y := h.depAnswer f 0 _ []
  have toldDirty {t : State} {y : SatLine} (h : Snooped s t p l y) (code : Nat) : Snooped s (dirty t code) p l y := h.depAnswer f 0 _ _
  have erased : Snooped s gone p l {} := base.setSat rfl
  have moved (st : SatState) : Snooped s (s'.setSat p l { x with st := st }) p l { x with st := st } := base.setSat hfail
  have waits : Snooped s (s'.setSat p l { x with st := .im, data := [] }) p l { x with st := .im, data := [] } := base.setSat hfail
  clear_value clean dirty gone
  rw [if_neg (by rw [show x.ue = false from hue]; simp), show inv = decide (op = 0x69) from rfl, show f.opcode.toNat = op from rfl]
  cases x.st <;> simp only [decide_eq_true_eq]
  case s =>
    split
    · exact told erased _
    · exact told base _
  case e =>
    split
    · exact told erased _
    · split
      · exact told (moved _) _
      · exact told base _
  case o =>
    split
    · exact toldDirty erased _
    · exact toldDirty base _
  case m =>
    split
    · exact toldDirty erased _
    · split
      · exact toldDirty (moved _) _
      · exact toldDirty base _
  case sm =>
    split
    · exact told waits _
    · exact told base _
  case om =>
    split
    · exact toldDirty waits _
    · exact toldDirty base _
  case wb => exact toldDirty base _
  case i | is | im | ci => exact told base _

theorem State.takeSnoop_of_held {f : Frame} (h : (s.sat p (lineOf f)).st ≠ .is ∧ (s.sat p (lineOf f)).st ≠ .im) :
    s.takeSnoop p f = s.applySnoop p f := if_neg (fun g => g.elim h.1 h.2)

end

/-- A command that lets a snoop of the operation code `op` arrive at a line in the state `a` leaves the line in the state `b`. -/
theorem snoop_after {c : Fin 64 → Frame → Instr} {op : BitVec 8} {a b : SatState}
    (row : ∀ (p : Fin 64) (f : Frame) (s : State), exec (c p f) s = .next ((s.takeSnoop p.val { f with opcode := op }).settleDep p.val))
    (ha : a ≠ .is ∧ a ≠ .im) (hb : ∀ x : SatLine, x.st = a → (snoopLeaves op.toNat x).st = b) (p : Fin 64) (f : Frame) (s : State)
    (hst : (s.sat p.val (lineOf f)).st = a) (hue : (s.sat p.val (lineOf f)).ue = false) (hreqs : (s.dep p.val).reqs = [])
    (hflush : (s.dep p.val).flush = none) (hsat : ∀ e ∈ (s.dep p.val).sat, e.2.fail = none) :
    Does (c p f) s (fun t => (t.sat p.val (lineOf f)).st = b ∧ OnlyDeps s t ∧ ∀ l, l ≠ lineOf f → t.sat p.val l = s.sat p.val l) := by
  have done : Snooped s (s.applySnoop p.val { f with opcode := op }) p.val (lineOf f) (snoopLeaves op.toNat (s.sat p.val (lineOf f))) :=
    Snooped.applySnoop (f := { f with opcode := op }) hue ⟨hreqs, hflush, hsat⟩
  refine ⟨_, row p f s, ?_⟩
  rw [State.takeSnoop_of_held (f := { f with opcode := op }) (by rw [← hst] at ha; exact ha), State.settleDep_of_quiet done.quiet]
  exact ⟨(congrArg SatLine.st done.line).trans (hb _ hst), done.rest, done.lines⟩

/-- Settles O32: each snoop row applies the snoop to its line, and settles a block that has nothing else to do. -/
theorem satchelSnoops : Obligations.SatchelSnoops := by
  have snps (p : Fin 64) (f : Frame) (s : State) :
      exec (.snps p f) s = .next ((s.takeSnoop p.val { f with opcode := 0x68 }).settleDep p.val) := rfl
  have snpi (p : Fin 64) (f : Frame) (s : State) :
      exec (.snpi p f) s = .next ((s.takeSnoop p.val { f with opcode := 0x69 }).settleDep p.val) := rfl
  have snpd (p : Fin 64) (f : Frame) (s : State) :
      exec (.snpd p f) s = .next ((s.takeSnoop p.val { f with opcode := 0x6A }).settleDep p.val) := rfl
  have leaves {op : BitVec 8} {a b : SatState} (h : ∀ x : SatLine, x.st = a → (snoopLeaves op.toNat x).st = b) := h
  refine ⟨snps, snpi, snpd, ?_, ?_, ?_, ?_, ?_, ?_, ?_, ?_, ?_, ?_, ?_, ?_, ?_, ?_, ?_, fun s p f h => ⟨?_, ?_⟩⟩
  iterate 6 exact snoop_after snpi (by decide) (fun x hx => by simp [snoopLeaves, hx])
  iterate 5 exact snoop_after snps (by decide) (fun x hx => by simp [snoopLeaves, hx])
  iterate 4 exact snoop_after snpd (by decide) (fun x hx => by simp [snoopLeaves, hx])
  · rw [State.takeSnoop, if_pos h, State.sat_setSat, if_pos rfl]
  · rw [State.takeSnoop, if_pos h]
    exact (OnlyDeps.refl s).setSat _ _ _

end Sys2Proof.Machine
end

section
/-! SUPPORT. Requests of a die: how a block with one request goes on, and each family's row. -/

namespace Sys2Proof.Machine

section
variable {s t : State} {p : Nat} {r q : DieReq}

/-! ### A round of a block with one request and an empty Satchel -/

/-- A round of a block whose only request has no pieces after its start. -/
theorem State.depRound_lone (hreqs : (s.dep p).reqs = [r]) (hsat : (s.dep p).sat = []) (hq : ((s.startReq p r.id).dep p).reqs = [q])
    (hpieces : q.pieces = []) : s.depRound p = ((s.startReq p r.id).finishReqs p).flushStep p := by
  simp only [State.depRound, State.forAll, hsat, hreqs, List.filterMap_nil, List.foldl_nil, List.foldl_cons, hq, hpieces]

theorem State.flushStep_of_none (h : (s.dep p).flush = none) : s.flushStep p = s := by
  simp only [State.flushStep, h]

theorem State.finishReqs_of_open (hreqs : (s.dep p).reqs = [r]) (h : r.ended = false) : s.finishReqs p = s := by
  rw [State.finishReqs, hreqs, List.filter_cons_of_neg (by simp [h])]
  rfl

theorem State.depRounds_of_fixed (h : s.depRound p = s) (k : Nat) : s.depRounds p k = s := by
  induction k with
  | zero => rfl
  | succ k ih => rw [State.depRounds, h, ih]

theorem State.dieReq_lone (hreqs : (s.dep p).reqs = [r]) : s.dieReq p r.id = some r := by
  simp [State.dieReq, hreqs]

theorem State.setReq_lone (hreqs : (s.dep p).reqs = [r]) (g : DieReq → DieReq) :
    s.setReq p r.id g = s.setDep p { s.dep p with reqs := [g r] } := by
  simp [State.setReq, hreqs]

/-- A request without data responses ends: its one response goes out, and the request goes. -/
theorem State.finishReqs_lone (hreqs : (s.dep p).reqs = [r]) (hended : r.ended = true) (hop : r.b.op ≠ 3) (hpieces : r.pieces = []) :
    s.finishReqs p = (s.emit (.rs p r.b.thread.toNat r.b.tag.toNat (r.early.getD (r.status, 0)).1.toNat (r.early.getD (r.status, 0)).2 true 0 [])).setDep p
      { s.dep p with reqs := [] } := by
  have others : (s.dep p).reqs.filter (fun q => q.id ≠ r.id) = [] := by simp [hreqs]
  rw [State.finishReqs, hreqs, List.filter_cons_of_pos hended, List.filter_nil]
  simp only [State.forAll, List.foldl_cons, List.foldl_nil, State.finishReq, if_neg hop, hpieces, List.flatMap_nil, ite_self, others]

/-! ### The request that a beat makes -/

/-- The state in which a die's request has been taken, before the block goes on. -/
def State.beatTaken (s : State) (p : Nat) (ok : Bool) (b : RqBeat) : State :=
  s.setDep p { s.dep p with reqs := (s.dep p).reqs ++ [dieReqOf (s.dep p) ok b], nextId := (s.dep p).nextId + 1 }

/-- The block of a DEP-7 once its only request has been taken. -/
def Dep.withLone (d : Dep) (ok : Bool) (b : RqBeat) : Dep := { d with reqs := [dieReqOf d ok b], nextId := d.nextId + 1 }

section
variable {ok : Bool} {b : RqBeat}

theorem State.beatTaken_idle (h : DieIdle (s.dep p)) : s.beatTaken p ok b = s.setDep p ((s.dep p).withLone ok b) := by
  rw [State.beatTaken, h.1]
  rfl

theorem State.settleDep_beatTaken (h : DieIdle (s.dep p)) :
    (s.beatTaken p ok b).settleDep p = (s.setDep p ((s.dep p).withLone ok b)).depRounds p 3 := by
  rw [State.beatTaken_idle h, State.settleDep, State.dep_setDep, if_pos rfl]
  rfl

theorem State.dep_withLone (s : State) (p : Nat) (ok : Bool) (b : RqBeat) :
    (s.setDep p ((s.dep p).withLone ok b)).dep p = (s.dep p).withLone ok b := by
  rw [State.dep_setDep, if_pos rfl]

/-- A request with write data to come waits for them. -/
theorem State.depRounds_waits (h : DieIdle (s.dep p)) (hneed : 0 < wdBytes b) (k : Nat) :
    (s.setDep p ((s.dep p).withLone ok b)).depRounds p k = s.setDep p ((s.dep p).withLone ok b) := by
  obtain ⟨-, hsat, hflush⟩ := h
  have dep := s.dep_withLone p ok b
  have reqs : ((s.setDep p ((s.dep p).withLone ok b)).dep p).reqs = [dieReqOf (s.dep p) ok b] := by rw [dep]; rfl
  have start : (s.setDep p ((s.dep p).withLone ok b)).startReq p (dieReqOf (s.dep p) ok b).id = s.setDep p ((s.dep p).withLone ok b) := by
    rw [State.startReq, State.dieReq_lone reqs]
    exact if_pos (by simp [dieReqOf, hneed])
  refine State.depRounds_of_fixed ?_ k
  rw [State.depRound_lone reqs (by rw [dep]; exact hsat) (by rw [start]; exact reqs) rfl, start,
    State.finishReqs_of_open reqs (by simp [DieReq.ended, dieReqOf, hneed.ne']), State.flushStep_of_none (by rw [dep]; exact hflush)]

theorem State.setDep_setDep (s : State) (p : Nat) (d e : Dep) : (s.setDep p d).setDep p e = s.setDep p e := by
  simp only [State.setDep, tput_tput]

/-- Where the start of the only request settles it with a status, it is answered with it and the block is idle again. -/
theorem State.depRounds_answers (h : DieIdle (s.dep p)) {st : BitVec 5} (hop : b.op ≠ 3)
    (hstart : (s.setDep p ((s.dep p).withLone ok b)).startReq p (s.dep p).nextId = s.setDep p { (s.dep p).withLone ok b with reqs := [q] })
    (hended : q.ended = true) (hpieces : q.pieces = []) (hb : q.b = b) (hst : q.early.getD (q.status, 0) = (st, 0)) :
    (s.setDep p ((s.dep p).withLone ok b)).depRounds p 3 =
      (s.emit (.rs p b.thread.toNat b.tag.toNat st.toNat 0 true 0 [])).setDep p { s.dep p with nextId := (s.dep p).nextId + 1 } := by
  obtain ⟨hreqs, hsat, hflush⟩ := h
  have dep : (s.setDep p ((s.dep p).withLone ok b)).dep p = (s.dep p).withLone ok b := s.dep_withLone p ok b
  have reqs : ((s.setDep p ((s.dep p).withLone ok b)).dep p).reqs = [dieReqOf (s.dep p) ok b] := by rw [dep]; rfl
  have started : (s.setDep p { (s.dep p).withLone ok b with reqs := [q] }).dep p = { (s.dep p).withLone ok b with reqs := [q] } := by
    rw [State.dep_setDep, if_pos rfl]
  have round : (s.setDep p ((s.dep p).withLone ok b)).depRound p =
      (s.emit (.rs p b.thread.toNat b.tag.toNat st.toNat 0 true 0 [])).setDep p { s.dep p with nextId := (s.dep p).nextId + 1 } := by
    rw [State.depRound_lone (r := dieReqOf (s.dep p) ok b) (q := q) reqs (by rw [dep]; exact hsat)
      (by rw [show (dieReqOf (s.dep p) ok b).id = (s.dep p).nextId from rfl, hstart, started]) hpieces,
      show (dieReqOf (s.dep p) ok b).id = (s.dep p).nextId from rfl, hstart,
      State.finishReqs_lone (r := q) (by rw [started]) hended (by rw [hb]; exact hop) hpieces, hst, hb, started]
    have idle : ({ (s.dep p).withLone ok b with reqs := [] } : Dep) = { s.dep p with nextId := (s.dep p).nextId + 1 } := by
      rw [← hreqs]
      rfl
    have out : ((s.setDep p { (s.dep p).withLone ok b with reqs := [q] }).emit
        (.rs p b.thread.toNat b.tag.toNat st.toNat 0 true 0 [])).setDep p { s.dep p with nextId := (s.dep p).nextId + 1 } =
        (s.emit (.rs p b.thread.toNat b.tag.toNat st.toNat 0 true 0 [])).setDep p { s.dep p with nextId := (s.dep p).nextId + 1 } :=
      (s.emit _).setDep_setDep p _ _
    refine Eq.trans (congrArg (State.flushStep · p) ((congrArg (State.setDep _ p) idle).trans out)) ?_
    exact State.flushStep_of_none (by rw [State.dep_setDep, if_pos rfl]; exact hflush)
  rw [State.depRounds, round]
  refine State.depRounds_of_quiet ?_ 2
  rw [State.dep_setDep, if_pos rfl]
  exact ⟨hreqs, hflush, by simp [hsat]⟩

/-! ### The walk for a request's first page -/

/-- The first page of a request is that of its address. -/
theorem beatPages_eq_cons (b : RqBeat) : ∃ l, beatPages b = b.fva.toNat / 4096 * 4096 :: l := by
  have first (o n : Nat) (xs : List (Nat × Nat × Nat)) : ∃ l, (((o, b.fva.toNat, n) :: xs).flatMap (fun x =>
      (List.range ((x.2.1 + x.2.2 - 1) / 4096 - x.2.1 / 4096 + 1)).map (fun i => (x.2.1 / 4096 + i) * 4096))) =
      b.fva.toNat / 4096 * 4096 :: l := by
    rw [List.flatMap_cons, List.range_succ_eq_map, List.map_cons, List.cons_append]
    exact ⟨_, rfl⟩
  unfold beatPages beatSpans
  split
  · rw [beatRows, List.range_succ_eq_map, List.map_cons, Nat.zero_mul, Nat.zero_mul, Nat.add_zero]
    exact first ..
  · exact first ..

/-- With nothing in the TLB, a request of which no page is translated misses its first page. -/
theorem fillPages_nil (c : BitVec 10) (w x : Bool) (b : RqBeat) : fillPages [] c w x [] (beatPages b) = ([], some (b.fva.toNat / 4096 * 4096)) := by
  obtain ⟨l, hl⟩ := beatPages_eq_cons b
  rw [hl]
  rfl

/-- A walk is one for a page of a die's request. -/
def Walk.isFor (w : Walk) (p id : Nat) (c : BitVec 10) (fva : Nat) : Prop := w.who = .dep p id ∧ w.fva = fva ∧ w.cohort = c

theorem Walk.isFor.begin {w : Walk} {n : Nat} {c : BitVec 10} {fva : Nat} (h : w.isFor p n c fva) (stage2 : Bool) (va : Nat) :
    (w.begin stage2 va).isFor p n c fva := by
  unfold Walk.begin
  extract_lets root d v
  have hv : v.isFor p n c fva := h
  clear_value v
  split
  · exact hv
  · split
    · exact hv
    · exact hv

theorem Walk.isFor_freshWalk (s : State) (id p n : Nat) (c : BitVec 10) (fva : Nat) (needW needX : Bool) :
    (s.freshWalk id (.dep p n) c fva needW needX).isFor p n c fva := by
  unfold State.freshWalk
  extract_lets r1 r2 w foreign
  have hw : w.isFor p n c fva := ⟨rfl, rfl, rfl⟩
  split
  · exact hw
  · exact hw.begin false fva

/-- The block waits for the walk of the first page of its only request, or is about to ask for it. -/
structure Walking (s t : State) (p : Nat) (ok : Bool) (b : RqBeat) (asked : Prop) : Prop where
  out : t.out = s.out
  mem : t.mem = s.mem
  block : t.dep p = (s.dep p).withLone ok b
  walk : (¬ asked ∧ t.depWalks p = []) ∨
    ∃ w ∈ t.xl.walks, w.isFor p (s.dep p).nextId (s.threadCohort p b) (b.fva.toNat / 4096 * 4096)

theorem Walking.startReq {asked : Prop} (h : Walking s t p true b asked) (hneed : wdBytes b = 0) (hnode : s.epBit p eNode 63 = true)
    (hop : b.op ≠ 8) (htlb : (s.dep p).tlb = []) (hup : s.epBit p eStatus 11 = true) :
    Walking s (t.startReq p (s.dep p).nextId) p true b True := by
  obtain ⟨hout, hmem, hblock, hwalk⟩ := h
  have reqs : (t.dep p).reqs = [dieReqOf (s.dep p) true b] := by rw [hblock]; rfl
  have bit (a i : Nat) : t.epBit p a i = s.epBit p a i := by
    rw [State.epBit, State.epF, State.ep, hblock]
    rfl
  have request : t.dieReq p (s.dep p).nextId = some (dieReqOf (s.dep p) true b) := State.dieReq_lone reqs
  have kept : t.setReq p (s.dep p).nextId (fun q => { q with maps := [] }) = t.setDep p ((s.dep p).withLone true b) := by
    rw [show (s.dep p).nextId = (dieReqOf (s.dep p) true b).id from rfl, State.setReq_lone reqs, hblock]
    rfl
  have tlb : (t.dep p).tlb = [] := by rw [hblock]; exact htlb
  have cohort : t.threadCohort p b = s.threadCohort p b := by
    unfold State.threadCohort State.epF State.ep
    rw [hblock]
    rfl
  rw [State.startReq, request]
  dsimp only
  rw [if_neg (by simp [dieReqOf, hneed]), if_neg (by rw [bit, hnode]; decide), if_neg (show (dieReqOf (s.dep p) true b).b.op ≠ 8 from hop), tlb]
  dsimp only [dieReqOf]
  simp only [fillPages_nil, cohort, kept]
  rw [if_neg (by simp)]
  have dep : (t.setDep p ((s.dep p).withLone true b)).dep p = (s.dep p).withLone true b := by rw [State.dep_setDep, if_pos rfl]
  have walking : (∃ w ∈ t.xl.walks, w.isFor p (s.dep p).nextId (s.threadCohort p b) (b.fva.toNat / 4096 * 4096)) →
      Walking s (t.setDep p ((s.dep p).withLone true b)) p true b True := fun h =>
    ⟨hout, hmem, dep, .inr h⟩
  obtain ⟨-, hnone⟩ | ⟨w, hw, hfor⟩ := hwalk
  · have none : (t.setDep p ((s.dep p).withLone true b)).depWalks p = [] := hnone
    have up : (t.setDep p ((s.dep p).withLone true b)).epBit p eStatus 11 = true := by
      rw [State.epBit, State.epF, State.ep, State.dep_setDep, if_pos rfl]
      exact hup
    rw [none, up, if_neg (by simp)]
    exact ⟨hout, hmem, dep, .inr ⟨_, List.mem_append_right _ List.mem_cons_self, Walk.isFor_freshWalk ..⟩⟩
  · have asked : ((t.setDep p ((s.dep p).withLone true b)).depWalks p).any (fun w => w.who = WalkFor.dep p (s.dep p).nextId) = true := by
      rw [List.any_eq_true]
      exact ⟨w, List.mem_filter.mpr ⟨hw, by simp [hfor.1]⟩, by simp [hfor.1]⟩
    rw [asked, if_pos (by simp)]
    exact walking ⟨w, hw, hfor⟩

theorem Walking.depRounds {asked : Prop} (h : Walking s t p true b asked) (hidle : DieIdle (s.dep p)) (hneed : wdBytes b = 0)
    (hnode : s.epBit p eNode 63 = true) (hop : b.op ≠ 8) (htlb : (s.dep p).tlb = []) (hup : s.epBit p eStatus 11 = true) (k : Nat) :
    Walking s (t.depRounds p (k + 1)) p true b True := by
  obtain ⟨-, hsat, hflush⟩ := hidle
  have round {u : State} {asked : Prop} (h : Walking s u p true b asked) : Walking s (u.depRound p) p true b True := by
    have started := h.startReq hneed hnode hop htlb hup
    have reqs {v : State} (hv : v.dep p = (s.dep p).withLone true b) : (v.dep p).reqs = [dieReqOf (s.dep p) true b] := by rw [hv]; rfl
    have eq : u.depRound p = u.startReq p (s.dep p).nextId := by
      rw [State.depRound_lone (reqs h.block) (by rw [h.block]; exact hsat) (reqs started.block) rfl,
        show (dieReqOf (s.dep p) true b).id = (s.dep p).nextId from rfl, State.finishReqs_of_open (reqs started.block) rfl,
        State.flushStep_of_none (by rw [started.block]; exact hflush)]
    rw [eq]
    exact started
  induction k generalizing t asked with
  | zero =>
    rw [State.depRounds, State.depRounds]
    exact round h
  | succ k ih =>
    rw [State.depRounds]
    exact ih (round h)

/-! ### The rows of RQ -/

theorem dieReqOf_early (hneed : wdBytes b = 0) : (dieReqOf (s.dep p) false b).ended = true := by
  simp [DieReq.ended, dieReqOf, hneed]

/-- In an idle block, a request without write data that is not legal, that finds the node ID not VALID, or that is a fence. -/
theorem State.settleDep_answers (h : DieIdle (s.dep p)) (hneed : wdBytes b = 0)
    (hcase : ok = false ∨ s.epBit p eNode 63 = false ∨ b.op = 8) :
    (s.beatTaken p ok b).settleDep p = (s.emit (.rs p b.thread.toNat b.tag.toNat
      (if !ok then stAlign else if !s.epBit p eNode 63 then stNoRoute else stOk).toNat 0 true 0 [])).setDep p
        { s.dep p with nextId := (s.dep p).nextId + 1 } := by
  have hop3 : b.op ≠ 3 := by
    intro h3
    rw [wdBytes, h3] at hneed
    exact absurd hneed (Nat.succ_ne_zero _)
  have dep := s.dep_withLone p ok b
  have reqs : ((s.setDep p ((s.dep p).withLone ok b)).dep p).reqs = [dieReqOf (s.dep p) ok b] := by rw [dep]; rfl
  have request : (s.setDep p ((s.dep p).withLone ok b)).dieReq p (s.dep p).nextId = some (dieReqOf (s.dep p) ok b) := State.dieReq_lone reqs
  have changed (g : DieReq → DieReq) : (s.setDep p ((s.dep p).withLone ok b)).setReq p (s.dep p).nextId g =
      s.setDep p { (s.dep p).withLone ok b with reqs := [g (dieReqOf (s.dep p) ok b)] } := by
    rw [show (s.dep p).nextId = (dieReqOf (s.dep p) ok b).id from rfl, State.setReq_lone reqs, State.setDep_setDep, dep]
  have node : (s.setDep p ((s.dep p).withLone ok b)).epBit p eNode 63 = s.epBit p eNode 63 := by
    rw [State.epBit, State.epF, State.ep, dep]
    rfl
  rw [State.settleDep_beatTaken h]
  cases ok with
  | false =>
    refine State.depRounds_answers (q := dieReqOf (s.dep p) false b) h hop3 ?_ (dieReqOf_early hneed) rfl rfl rfl
    rw [State.startReq, request]
    exact if_pos (by simp [dieReqOf])
  | true =>
    cases hnode : s.epBit p eNode 63 with
    | false =>
      refine State.depRounds_answers (q := { dieReqOf (s.dep p) true b with early := some (stNoRoute, 0) }) h hop3 ?_
        (by simp [DieReq.ended, dieReqOf, hneed]) rfl rfl rfl
      rw [State.startReq, request]
      dsimp only
      rw [if_neg (by simp [dieReqOf, hneed]), if_pos (by rw [node, hnode]; rfl), changed]
    | true =>
      have hop : b.op = 8 := by simpa [hnode] using hcase
      refine State.depRounds_answers (q := { dieReqOf (s.dep p) true b with gone := true }) h hop3 ?_
        (by simp [DieReq.ended, dieReqOf]) rfl rfl rfl
      have allows : (s.setDep p ((s.dep p).withLone true b)).orderAllows p (dieReqOf (s.dep p) true b) false = true := by
        simp [State.orderAllows, Dep.withLone]
      rw [State.startReq, request]
      dsimp only
      rw [if_neg (by simp [dieReqOf, hneed]), if_neg (by rw [node, hnode]; decide),
        if_pos (show (dieReqOf (s.dep p) true b).b.op = 8 from hop), if_pos allows, changed]

end

end

/-- A row that takes a beat with the operation codes of its family. -/
theorem beatFamily_of_row {c : Fin 64 → RqBeat → Instr} {fam : RqBeat → Bool}
    (row : ∀ (p : Fin 64) (b : RqBeat) (s : State), exec (c p b) s = .next (s.rqBeat p.val (fam b) b)) : BeatFamily c fam := by
  intro p b s
  extract_lets ok rs
  have taken (htag : ∀ r ∈ (s.dep p.val).reqs, r.b.tag ≠ b.tag) (hroom : (s.dep p.val).reqs.length < 2048)
      (hthread : ((s.dep p.val).reqs.filter (fun r => r.b.thread = b.thread)).length < 256) :
      exec (c p b) s = .next ((s.beatTaken p.val ok b).settleDep p.val) := by
    refine (row p b s).trans (congrArg Host.Outcome.next (if_neg ?_))
    simp only [Bool.or_eq_true, List.any_eq_true, decide_eq_true_eq, not_or, not_exists, not_and, Nat.not_le]
    exact ⟨⟨htag, hroom⟩, hthread⟩
  have idle (h : DieIdle (s.dep p.val)) : exec (c p b) s = .next ((s.beatTaken p.val ok b).settleDep p.val) := by
    obtain ⟨hreqs, -, -⟩ := h
    exact taken (by simp [hreqs]) (by simp [hreqs]) (by simp [hreqs])
  refine ⟨taken, fun h => ?_, fun h hneed => ?_, fun h hneed hcase => ?_, fun h hneed hok hnode hop htlb hwalks hup => ?_⟩
  · refine (row p b s).trans (congrArg Host.Outcome.next (if_pos ?_))
    simpa [or_assoc] using h
  · refine ⟨_, idle h, ?_⟩
    rw [State.settleDep_beatTaken h, State.depRounds_waits h hneed]
    exact ⟨rfl, rfl, s.dep_withLone _ _ _⟩
  · refine ⟨_, idle h, ?_⟩
    rw [State.settleDep_answers h hneed hcase]
    exact ⟨rfl, rfl, by rw [State.dep_setDep, if_pos rfl]⟩
  · have begun : Walking s (s.setDep p.val ((s.dep p.val).withLone true b)) p.val true b False :=
      ⟨rfl, rfl, s.dep_withLone _ _ _, .inl ⟨not_false, hwalks⟩⟩
    have walking := begun.depRounds h hneed hnode hop htlb hup 2
    refine ⟨_, idle h, ?_⟩
    rw [State.settleDep_beatTaken h, hok]
    rw [show 2 + 1 = 3 from rfl] at walking
    generalize (s.setDep p.val ((s.dep p.val).withLone true b)).depRounds p.val 3 = t at walking ⊢
    obtain ⟨hout, hmem, hblock, hwalk⟩ := walking
    refine ⟨hout, SameMemory.of_mem hmem, by rw [hblock]; rfl, ?_⟩
    obtain ⟨hfalse, -⟩ | ⟨w, hw, hwho, hfva, hcohort⟩ := hwalk
    · exact absurd trivial hfalse
    · exact ⟨w, hw, hwho, hfva, hcohort⟩

/-- Settles O31: every row is its family's beat, and WD finds the first request short of its data. -/
theorem dieRequests : Obligations.DieRequests := by
  refine ⟨beatFamily_of_row fun _ _ _ => rfl, beatFamily_of_row fun _ _ _ => rfl, beatFamily_of_row fun _ _ _ => rfl,
    beatFamily_of_row fun _ _ _ => rfl, beatFamily_of_row fun _ _ _ => rfl, beatFamily_of_row fun _ _ _ => rfl,
    beatFamily_of_row fun _ _ _ => rfl, beatFamily_of_row fun _ _ _ => rfl, beatFamily_of_row fun _ _ _ => rfl,
    beatFamily_of_row fun _ _ _ => rfl, beatFamily_of_row fun _ _ _ => rfl, beatFamily_of_row fun _ _ _ => rfl,
    beatFamily_of_row fun _ _ _ => rfl, beatFamily_of_row fun _ _ _ => rfl, beatFamily_of_row fun _ _ _ => rfl,
    beatFamily_of_row fun _ _ _ => rfl, fun p data s h => ?_, fun p data r s h => ?_⟩
  · have none : (s.dep p.val).reqs.find? (fun r => 0 < r.need) = none := by
      rw [List.find?_eq_none]
      intro r hr
      simp [h r hr]
    refine congrArg Host.Outcome.next ?_
    rw [none]
  · refine congrArg Host.Outcome.next ?_
    rw [h]

end Sys2Proof.Machine
end

section
/-! SUPPORT. Responses at a Satchel: an answered request leaves its pair, and its line goes on. -/

namespace Sys2Proof.Machine

section
variable {s t : State} {p e : Nat} {f : Frame} {r : SrcReq}

theorem State.pair_setPair (e d : Nat) (x : Pair) : (s.setPair e d x).pair e d = x := by
  simp [State.pair, State.setPair, tget_tput]

/-- A pair with nothing that waits, or that is held, sends nothing. -/
theorem State.pump_of_empty {d : BitVec 12} (h : (s.pair e d.toNat).waiting = []) (k : Nat) : s.pump e d k = s := by
  cases k with
  | zero => rfl
  | succ k =>
    rw [State.pump]
    exact if_pos (by simp [h])

theorem State.pump_of_held {d : BitVec 12} (h : s.isHeld e d.toNat = true) (k : Nat) : s.pump e d k = s := by
  cases k with
  | zero => rfl
  | succ k =>
    rw [State.pump]
    exact if_pos (by simp [h])

theorem State.pumpAll_of_empty (h : ∀ x ∈ s.pairsOf e, (s.pair e (x.1 % 4096)).waiting = []) : s.pumpAll e = s := by
  have keep (l : List (Nat × Pair)) (hl : ∀ x ∈ l, (s.pair e (x.1 % 4096)).waiting = []) :
      s.forAll l (fun s x => s.pump e (BitVec.ofNat 12 (x.1 % 4096)) pumpFuel) = s := by
    induction l with
    | nil => rfl
    | cons x l ih =>
      have first : s.pump e (BitVec.ofNat 12 (x.1 % 4096)) pumpFuel = s := by
        refine State.pump_of_empty ?_ pumpFuel
        rw [BitVec.toNat_ofNat, Nat.mod_mod]
        exact hl x List.mem_cons_self
      rw [State.forAll_cons, first]
      exact ih fun y hy => hl y (List.mem_cons_of_mem _ hy)
  exact keep _ h

/-- A DEP-7's only outstanding request is a Satchel's, and `f` answers it. -/
structure LoneAsked (s : State) (p : Nat) (f : Frame) (r : SrcReq) : Prop where
  sent : (s.pair (p + 1) f.src.toNat).sent = [r]
  seq : r.f.seq = f.seq
  waiting : (s.pair (p + 1) f.src.toNat).waiting = []
  owner : r.owner = .satchel (lineOf r.f)
  pairs : s.pairsOf (p + 1) = [(4096 * (p + 1) + f.src.toNat, s.pair (p + 1) f.src.toNat)]

theorem State.answered_lone (h : LoneAsked s p f r) (st : BitVec 5) : s.answered p { f with status := st } = some r := by
  show (s.pair (p + 1) f.src.toNat).sent.find? (fun r => r.f.seq = f.seq) = some r
  simp [h.sent, h.seq]

/-- The state in which a pair has nothing outstanding. -/
def State.pairFree (s : State) (e d : Nat) : State :=
  s.setPair e d { s.pair e d with sent := [], answer := if (s.pair e d).st = .opened then none else (s.pair e d).answer }

theorem State.takeResponse_lone (h : LoneAsked s p f r) {st : BitVec 5} (hst : st = stOk ∨ st = stRetry) :
    s.takeResponse (p + 1) { f with status := st } = s.pairFree (p + 1) f.src.toNat := by
  obtain ⟨hsent, hseq, hwaiting, howner, hpairs⟩ := h
  have own : mayBeGenerated { f with status := st } = false := by
    obtain rfl | rfl := hst
    · rfl
    · rfl
  have node : s.answeredNode (p + 1) { f with status := st } = f.src.toNat := by
    rw [State.answeredNode, State.answeredPair, if_neg (by rw [own]; decide)]
    rfl
  have told (u : State) : u.tellOwner (p + 1) r.f r.owner st f.payload = u := by
    simp only [State.tellOwner, howner, if_neg (Nat.succ_ne_zero p), if_pos hst]
  have uncut : ¬ (st = stNoRoute ∨ st = stPartition) := by
    obtain rfl | rfl := hst
    · decide
    · decide
  have empty : ∀ x ∈ (s.pairFree (p + 1) f.src.toNat).pairsOf (p + 1),
      ((s.pairFree (p + 1) f.src.toNat).pair (p + 1) (x.1 % 4096)).waiting = [] := by
    intro x hx
    obtain ⟨hmem, hkey⟩ := List.mem_filter.mp hx
    have key : x.1 = 4096 * (p + 1) + f.src.toNat := by
      obtain rfl | hold := mem_tput _ _ _ _ _ hmem
      · rfl
      · have listed : x ∈ s.pairsOf (p + 1) := List.mem_filter.mpr ⟨hold, hkey⟩
        rw [hpairs, List.mem_singleton] at listed
        rw [listed]
    rw [key, Nat.mul_add_mod, Nat.mod_eq_of_lt f.src.isLt, State.pairFree, State.pair_setPair]
    exact hwaiting
  rw [State.takeResponse, node]
  simp only [hsent, List.find?_cons, hseq, decide_true, if_neg uncut, State.forAll_cons, if_true]
  rw [told, if_neg fun g => uncut g.1, show [r].filter (fun y => ! [r].any fun z => decide (z.f.seq = y.f.seq)) = [] by simp]
  exact State.pumpAll_of_empty empty

/-- What a response leaves of a state, besides what it does to its line. -/
structure LineSettled (s t : State) (p l d : Nat) (x : SatLine) : Prop where
  line : t.sat p l = x
  sent : (t.pair (p + 1) d).sent = []
  memory : SameMemory s t
  regs : SameRegs s t

/-- A line is set once its request has left its pair, in a block that has nothing else to do. -/
theorem LineSettled.of_setSat (h : DieQuiet (s.dep p)) (l d : Nat) {x : SatLine} (hx : x.fail = none) :
    LineSettled s (((s.pairFree (p + 1) d).setSat p l x).settleDep p) p l d x := by
  rw [State.settleDep_of_quiet (DieQuiet.setSat (s := s.pairFree (p + 1) d) h l hx)]
  refine ⟨?_, ?_, SameMemory.of_mem rfl, fun _ => rfl⟩
  · rw [State.sat_setSat, if_pos rfl]
  · show ((s.pairFree (p + 1) d).pair (p + 1) d).sent = []
    rw [State.pairFree, State.pair_setPair]

theorem State.cohResponse_unasked (h : ∀ r ∈ (s.pair (p + 1) f.src.toNat).sent, r.f.seq ≠ f.seq) (st : BitVec 5) :
    s.cohResponse p { f with status := st } = s := by
  have none : s.answered p { f with status := st } = none := List.find?_eq_none.mpr fun r hr => by simpa using h r hr
  rw [State.cohResponse, none]

/-- In a block without die requests no access waits for a line. -/
theorem State.causeOf_of_quiet (h : DieQuiet (s.dep p)) (l : Nat) : s.causeOf p l = none := by
  simp [State.causeOf, h.1]

theorem State.grantLine_quiet (h : DieQuiet (s.dep p)) {l g : Nat} {data : List Byte} (hwaits : (s.sat p l).st.waits = true)
    (hheld : (s.sat p l).held = none) (hg : g ≠ 0) : s.grantLine p l g data = s.setSat p l
      { st := if g = 1 then .s else if g = 2 then .e else .m, data := if data.length = 64 then data else (s.sat p l).data,
        used := (s.sat p l).used, nearAt := if (s.sat p l).near then some s.now else (s.sat p l).nearAt } := by
  simp only [State.grantLine, State.causeOf_of_quiet h, hwaits, hheld, State.releaseHeld, if_neg hg, if_true]

theorem State.retryLine_again {l : Nat} (hwaits : (s.sat p l).st.waits = true) (hnear : (s.sat p l).near = false)
    (htries : (s.sat p l).tries + 1 < s.epF p eRetryLimit 0 8) :
    s.retryLine p l = s.setSat p l { s.sat p l with tries := (s.sat p l).tries + 1, backing := true } := by
  have near : ¬ (s.sat p l).near = true := by simp [hnear]
  simp only [State.retryLine, hwaits, Bool.not_true, Bool.false_eq_true, if_false, if_neg near, if_neg (Nat.not_le.mpr htries)]

/-- How a coherence response goes on from the state in which its request has left. -/
theorem State.cohResponse_lone (h : LoneAsked s p f r) {st : BitVec 5} (hst : st = stOk ∨ st = stRetry) {u : State}
    (hu : (if st = stRetry then (s.pairFree (p + 1) f.src.toNat).retryLine p (lineOf r.f)
      else if st ≠ stOk then s.pairFree (p + 1) f.src.toNat
      else if 0x63 ≤ r.f.opcode.toNat then (if ((s.pairFree (p + 1) f.src.toNat).sat p (lineOf r.f)).st.leaves then
        (s.pairFree (p + 1) f.src.toNat).setSat p (lineOf r.f) {} else s.pairFree (p + 1) f.src.toNat)
      else (s.pairFree (p + 1) f.src.toNat).grantLine p (lineOf r.f) (f.flags.toNat % 4) f.payload) = u) :
    s.cohResponse p { f with status := st } = u.settleDep p := by
  rw [State.cohResponse, State.answered_lone h]
  dsimp only
  rw [State.takeResponse_lone h hst, hu]

/-- A line asks again where its home is held: the request waits in its pair. -/
theorem State.submit_held (e : Nat) (f : Frame) (o : Owner) (h : s.isHeld (e + 1) f.dst.toNat = true) :
    s.submit (e + 1) f o = State.setPair { s with fab := { s.fab with nextId := s.fab.nextId + 1 } } (e + 1) f.dst.toNat
      { s.pair (e + 1) f.dst.toNat with waiting := (s.pair (e + 1) f.dst.toNat).waiting ++
        [{ f := f, charge := chargeOf f, tx := 0, aged := false, owner := o, id := s.fab.nextId }] } := by
  rw [State.submit]
  exact State.pump_of_held (by exact h) pumpFuel

/-- The state in which a line has asked its held home again. -/
theorem State.resendLine_held (hq : DieQuiet (s.dep p)) {l : Nat} (hb : (s.sat p l).backing = true) (hw : (s.sat p l).st.waits = true)
    (hheld : s.isHeld (p + 1) s.node.toNat = true) : ∃ x : Fab, ∃ r : SrcReq,
      s.resendLine p l = { s.setSat p l { s.sat p l with backing := false } with fab := x } ∧
      tget pairDefault x.pairs (4096 * (p + 1) + s.node.toNat) =
        { s.pair (p + 1) s.node.toNat with waiting := (s.pair (p + 1) s.node.toNat).waiting ++ [r] } ∧
      r.owner = .satchel l ∧ r.f.opcode = (if (s.sat p l).st = .is then 0x60 else if (s.sat p l).st = .im then 0x61 else 0x62) := by
  have held : (s.setSat p l { s.sat p l with backing := false }).isHeld (p + 1) s.node.toNat = true := by
    have regs : ((s.setSat p l { s.sat p l with backing := false }).dep p).regs = (s.dep p).regs := by
      rw [State.setSat, State.dep_setDep, if_pos rfl]
    rw [State.isHeld, if_neg (Nat.succ_ne_zero p), State.epBit, State.epF, State.ep] at hheld ⊢
    rw [Nat.add_sub_cancel] at hheld ⊢
    rw [regs]
    exact hheld
  have resend : s.resendLine p l = (s.setSat p l { s.sat p l with backing := false }).askHome p l
      (if (s.sat p l).st = .is then 0x60 else if (s.sat p l).st = .im then 0x61 else 0x62) 0 [] := by
    simp only [State.resendLine, hb, hw, State.causeOf_of_quiet hq, Bool.not_true, Bool.false_eq_true, or_self, if_false]
  rw [resend, State.askHome, State.submit_held _ _ _ (by exact held)]
  refine ⟨_, _, rfl, (tget_tput ..).trans (if_pos rfl), rfl, ?_⟩
  dsimp only
  split
  · rfl
  · split
    · rfl
    · rfl

theorem State.causes_of_quiet (hreqs : (s.dep p).reqs = []) (l : Tab SatLine) : l.filterMap (fun e => s.causeOf p e.1) = [] := by
  refine List.filterMap_eq_nil_iff.mpr fun e _ => ?_
  simp [State.causeOf, hreqs]

theorem State.depRound_idle (hreqs : (s.dep p).reqs = []) (hsat : (s.dep p).sat = []) : s.depRound p = s.flushStep p := by
  simp only [State.depRound, hsat, hreqs, List.filterMap_nil, State.forAll, List.foldl_nil, State.finishReqs, List.filter_nil]

theorem State.flushStep_idle (hsat : (s.dep p).sat = []) (hflush : (s.dep p).flush = some f) :
    s.flushStep p = (s.setDep p { s.dep p with flush := none }).depAnswer p f 0 0 [] := by
  simp only [State.flushStep, hflush, hsat, State.forAll, List.foldl_nil, List.isEmpty_nil, if_true]

/-- A FLUSH under the fence of the memory domain, in a block without die requests: the Satchel is emptied (R168). -/
theorem State.takeFlush_fenced (hreqs : (s.dep p).reqs = []) (hflush : (s.dep p).flush = none) (hfen : s.fenced 2 = true) (f : Frame) :
    ((s.takeFlush p f).dep p).sat = [] ∧ SameMemory s (s.takeFlush p f) ∧ SameRegs s (s.takeFlush p f) := by
  rw [State.takeFlush, if_pos hfen, State.causes_of_quiet hreqs]
  dsimp only [State.forAll, List.foldl_nil]
  generalize hx : ({ s.pair (p + 1) s.node.toNat with sent := _, waiting := _ } : Pair) = x
  have sent := LinkOnly.depAnswer ((s.setPair (p + 1) s.node.toNat x).setDep p { (s.setPair (p + 1) s.node.toNat x).dep p with sat := [] })
    p f 0 0 []
  have emptied : ((s.setPair (p + 1) s.node.toNat x).setDep p { (s.setPair (p + 1) s.node.toNat x).dep p with sat := [] }).dep p =
      { s.dep p with sat := [] } := by
    rw [State.dep_setDep, if_pos rfl]
    rfl
  have quiet : DieQuiet (((s.setPair (p + 1) s.node.toNat x).setDep p { (s.setPair (p + 1) s.node.toNat x).dep p with sat := [] }).dep p) := by
    rw [emptied]
    exact ⟨hreqs, hflush, by simp⟩
  rw [State.settleDep_of_quiet (quiet.of_sameButLink sent.block)]
  exact ⟨sent.block.sat.trans (by rw [emptied]), sent.rest.sameMemory, sent.rest.sameRegs⟩

/-- A FLUSH that finds the block idle is answered at once. -/
theorem State.settleDep_flush (hreqs : (s.dep p).reqs = []) (hsat : (s.dep p).sat = []) (f : Frame) :
    (s.setDep p { s.dep p with flush := some f }).settleDep p =
      (s.setDep p { s.dep p with flush := none }).depAnswer p f 0 0 [] := by
  have dep : (s.setDep p { s.dep p with flush := some f }).dep p = { s.dep p with flush := some f } := by rw [State.dep_setDep, if_pos rfl]
  have round : (s.setDep p { s.dep p with flush := some f }).depRound p = (s.setDep p { s.dep p with flush := none }).depAnswer p f 0 0 [] := by
    rw [State.depRound_idle (by rw [dep]; exact hreqs) (by rw [dep]; exact hsat),
      State.flushStep_idle (f := f) (by rw [dep]; exact hsat) (by rw [dep]), State.setDep_setDep, dep]
  have quiet : DieQuiet (((s.setDep p { s.dep p with flush := none }).depAnswer p f 0 0 []).dep p) := by
    refine DieQuiet.of_sameButLink ?_ (LinkOnly.depAnswer _ p f 0 0 []).block
    rw [State.dep_setDep, if_pos rfl]
    exact ⟨hreqs, rfl, by simp [hsat]⟩
  have rounds : ((s.setDep p { s.dep p with flush := some f }).dep p).reqs.length + 2 = 2 := by
    rw [dep]
    exact congrArg (fun l : List DieReq => l.length + 2) hreqs
  rw [State.settleDep, rounds, State.depRounds, round, State.depRounds_of_quiet quiet]

end

/-- Settles O33: each response is taken by the request it answers, and the rest of the block has nothing to do. -/
theorem satchelResponses : Obligations.SatchelResponses := by
  have ask {s : State} {p : Fin 64} {f : Frame} {r : SrcReq} (h : (s.pair (p.val + 1) f.src.toNat).sent = [r] ∧ r.f.seq = f.seq ∧
      (s.pair (p.val + 1) f.src.toNat).waiting = [] ∧ r.owner = .satchel (lineOf r.f) ∧
      s.pairsOf (p.val + 1) = [(4096 * (p.val + 1) + f.src.toNat, s.pair (p.val + 1) f.src.toNat)]) : LoneAsked s p.val f r := by
    obtain ⟨hsent, hseq, hwaiting, howner, hpairs⟩ := h
    exact ⟨hsent, hseq, hwaiting, howner, hpairs⟩
  refine ⟨fun p f s h => ⟨?_, ?_, ?_⟩, fun p f r s hq hl hop hw hheld hg => ?_, fun p f r s hq hl hop hw hnear htries => ?_,
    fun p f r s hq hl hop hleaves => ?_, fun p l s h => ?_, fun p l s hq hb hw hheld => ?_, fun p set s h => ?_, fun p set s h => ?_,
    fun p f s h => ?_, fun p f s hreqs hsat hfen => ?_, fun p f s hreqs hflush hfen => ?_⟩
  · exact congrArg Host.Outcome.next (State.cohResponse_unasked h 0)
  · exact congrArg Host.Outcome.next (State.cohResponse_unasked h stRetry)
  · exact congrArg Host.Outcome.next (State.cohResponse_unasked h 0)
  · have quiet : DieQuiet ((s.pairFree (p.val + 1) f.src.toNat).dep p.val) := hq
    have settled := LineSettled.of_setSat hq (lineOf r.f) f.src.toNat (x :=
      { st := if f.flags.toNat % 4 = 1 then .s else if f.flags.toNat % 4 = 2 then .e else .m,
        data := if f.payload.length = 64 then f.payload else (s.sat p.val (lineOf r.f)).data, used := (s.sat p.val (lineOf r.f)).used,
        nearAt := if (s.sat p.val (lineOf r.f)).near then some s.now else (s.sat p.val (lineOf r.f)).nearAt }) rfl
    refine ⟨_, congrArg Host.Outcome.next (State.cohResponse_lone (ask hl) (.inl rfl) ?_), settled.sent, settled.memory, settled.regs,
      congrArg SatLine.st settled.line, fun hd => (congrArg SatLine.data settled.line).trans (if_pos hd)⟩
    rw [if_neg (by decide), if_neg (fun g => g rfl), if_neg (Nat.not_le.mpr hop)]
    exact State.grantLine_quiet quiet hw hheld hg
  · have settled := LineSettled.of_setSat hq (lineOf r.f) f.src.toNat
      (x := { s.sat p.val (lineOf r.f) with tries := (s.sat p.val (lineOf r.f)).tries + 1, backing := true }) (DieQuiet.fail hq _)
    refine ⟨_, congrArg Host.Outcome.next (State.cohResponse_lone (ask hl) (.inr rfl) ?_), settled.sent, settled.memory, settled.regs,
      settled.line⟩
    exact (if_pos rfl).trans (State.retryLine_again (s := s.pairFree (p.val + 1) f.src.toNat) hw hnear htries)
  · have settled := LineSettled.of_setSat hq (lineOf r.f) f.src.toNat (x := {}) rfl
    refine ⟨_, congrArg Host.Outcome.next (State.cohResponse_lone (ask hl) (.inl rfl) ?_), settled.line, settled.sent, settled.memory,
      settled.regs⟩
    rw [if_neg (by decide), if_neg (fun g => g rfl), if_pos hop]
    exact if_pos hleaves
  · refine congrArg Host.Outcome.next (congrArg (State.settleDep · p.val) ?_)
    exact if_pos (.inl (by simp [h]))
  · obtain ⟨x, r, hresend, hpair, howner, hop⟩ := State.resendLine_held hq hb hw hheld
    have quiet : DieQuiet ((s.setSat p.val l { s.sat p.val l with backing := false }).dep p.val) :=
      DieQuiet.setSat hq l (DieQuiet.fail hq l)
    refine ⟨_, congrArg Host.Outcome.next (congrArg (State.settleDep · p.val) hresend), ?_⟩
    dsimp only
    rw [State.settleDep_of_quiet (s := { s.setSat p.val l { s.sat p.val l with backing := false } with fab := x }) quiet]
    refine ⟨?_, SameMemory.of_mem rfl, fun _ => rfl, r, ?_, ?_, howner, hop⟩
    · exact (State.sat_setSat (s := s) (p := p.val) l _ l).trans (if_pos rfl)
    · refine (congrArg (r ∈ ·.waiting) hpair).mpr ?_
      exact List.mem_append_right _ List.mem_cons_self
    · exact congrArg Pair.waiting hpair
  · exact congrArg Host.Outcome.next (if_pos (by simp [h]))
  · refine congrArg Host.Outcome.next ?_
    obtain hq | ⟨hbusy, hfull⟩ := h
    · split
      · exact State.settleDep_of_quiet hq
      · rfl
    · refine if_neg ?_
      simp only [Bool.or_eq_true, List.any_eq_true, Bool.not_eq_true', decide_eq_true_eq, not_or, not_exists, not_and, Nat.not_lt]
      exact ⟨fun e he => by simp [hbusy e he], hfull⟩
  · refine congrArg Host.Outcome.next ?_
    exact if_neg (by rw [h]; decide)
  · have sent := LinkOnly.depAnswer (s.setDep p.val { s.dep p.val with flush := none }) p.val { f with opcode := 0x6B } 0 0 []
    refine ⟨_, congrArg Host.Outcome.next ((if_neg (by rw [hfen]; decide)).trans (State.settleDep_flush hreqs hsat { f with opcode := 0x6B })), ?_⟩
    refine ⟨sent.block.flush.trans (by rw [State.dep_setDep, if_pos rfl]), sent.block.sat.trans ?_, (OnlyDeps.refl s).setDep _ _ |>.trans sent.rest⟩
    rw [State.dep_setDep, if_pos rfl]
    exact hsat
  · exact ⟨_, rfl, State.takeFlush_fenced hreqs hflush hfen { f with opcode := 0x6B }⟩

end Sys2Proof.Machine
end

section
/-! SUPPORT. Registers of a DEP-7, and requests that come in at its block. -/

namespace Sys2Proof.Machine

section
variable {s t : State} {p : Nat}

/-! ### Registers of the window -/

theorem State.dep_emit (o : Out) (q : Nat) : (s.emit o).dep q = s.dep q := rfl

theorem State.ep_setEpF (a lo len v b : Nat) :
    (s.setEpF p a lo len v).ep p b = if a = b then fset (s.ep p a) lo len v else s.ep p b := State.ep_setEp ..

theorem State.ep_setEpF_ne {a b : Nat} (lo len v : Nat) (h : a ≠ b) : (s.setEpF p a lo len v).ep p b = s.ep p b := by
  rw [State.ep_setEpF, if_neg h]

theorem State.epF_setEpF (a lo len v : Nat) (h : lo + len ≤ 64) : (s.setEpF p a lo len v).epF p a lo len = v % 2 ^ len := by
  rw [State.epF, State.ep_setEpF, if_pos rfl, fget_fset_same _ _ _ _ h]

theorem State.epBit_setEpBit (a i : Nat) (b : Bool) (h : i < 64) : (s.setEpBit p a i b).epBit p a i = b := by
  have bit : (s.setEpBit p a i b).epF p a i 1 = b.toNat % 2 ^ 1 := State.epF_setEpF a i 1 b.toNat h
  rw [State.epBit, bit]
  cases b
  · rfl
  · rfl

/-- A field reads as before where its register does. -/
theorem State.epF_congr {a : Nat} (h : t.ep p a = s.ep p a) (lo len : Nat) : t.epF p a lo len = s.epF p a lo len :=
  congrArg (fget · lo len) h

theorem State.epBit_congr {a : Nat} (h : t.ep p a = s.ep p a) (i : Nat) : t.epBit p a i = s.epBit p a i :=
  congrArg (fun n : Nat => decide (n = 1)) (State.epF_congr h i 1)

theorem State.ep_epIrq_ne (i : Nat) {b : Nat} (h : eIntStatus ≠ b) : (s.epIrq p i).ep p b = s.ep p b := by
  have set : (s.setEpBit p eIntStatus i true).ep p b = s.ep p b := State.ep_setEpF_ne i 1 true.toNat h
  unfold State.epIrq
  dsimp only
  split
  · exact set
  · exact set

theorem OnlyDeps.setEpF (h : OnlyDeps s t) (p a lo len v : Nat) : OnlyDeps s (t.setEpF p a lo len v) := h
theorem OnlyDeps.setEpBit (h : OnlyDeps s t) (p a i : Nat) (b : Bool) : OnlyDeps s (t.setEpBit p a i b) := h

theorem OnlyDeps.epIrq (h : OnlyDeps s t) (p i : Nat) : OnlyDeps s (t.epIrq p i) := by
  unfold State.epIrq
  dsimp only
  split
  · exact h
  · exact h

theorem State.inb_setEpBit (a i : Nat) (b : Bool) : ((s.setEpBit p a i b).dep p).inb = (s.dep p).inb := by
  rw [State.setEpBit, State.setEpF, State.setEp, State.dep_setDep, if_pos rfl]

theorem State.inb_epIrq (i : Nat) : ((s.epIrq p i).dep p).inb = (s.dep p).inb := by
  unfold State.epIrq
  dsimp only
  split
  · exact State.inb_setEpBit ..
  · exact State.inb_setEpBit ..

/-- An exposed range is found by registers alone. -/
theorem State.exposed_congr (h : (t.dep p).regs = (s.dep p).regs) (off n : Nat) : t.exposed p off n = s.exposed p off n := by
  have ep (a : Nat) : t.ep p a = s.ep p a := congrArg (tget epReset · a) h
  unfold State.exposed
  simp only [ep]

/-! ### Requests that come in -/

section
variable {f : Frame}

/-- What an answer of the block leaves as it was: memory, the registers, and of its DEP-7 all but what its link keeps. -/
structure BlockAnswered (s t : State) (p : Nat) : Prop where
  memory : SameMemory s t
  regs : SameRegs s t
  block : (s.dep p).sameButLink (t.dep p)

theorem BlockAnswered.of_linkOnly (h : LinkOnly s t p) : BlockAnswered s t p := ⟨h.rest.sameMemory, h.rest.sameRegs, h.block⟩

theorem BlockAnswered.answerInbound (s : State) (p : Nat) (f : Frame) (st : BitVec 5) (data : List Byte) :
    BlockAnswered s (s.answerInbound p f st data) p := by
  unfold State.answerInbound
  dsimp only
  obtain ⟨hrest, hblock, -⟩ := LinkOnly.depAnswer (if f.vc = 0 then s else s.remember (p + 1) f st
    (if f.opcode = 3 then leBytes 2 (if st = 0 then 0 else 1) else if st = 0 then data else [])) p f st 0
    (if f.opcode = 3 then leBytes 2 (if st = 0 then 0 else 1) else if st = 0 then data else [])
  revert hrest hblock
  split
  · exact fun hrest hblock => ⟨hrest.sameMemory, hrest.sameRegs, hblock⟩
  · exact fun hrest hblock => ⟨hrest.sameMemory, hrest.sameRegs, hblock⟩

theorem State.presentIq_of_empty (h : (s.dep p).iqWait = []) (k : Nat) : s.presentIq p k = s := by
  cases k with
  | zero => rfl
  | succ k =>
    unfold State.presentIq
    dsimp only
    rw [h]

/-- The one request that waits is presented under the first ITAG. -/
theorem State.presentIq_first (hwait : (s.dep p).iqWait = [f]) (hinb : (s.dep p).inb = []) (k : Nat) :
    s.presentIq p (k + 1) = (s.setDep p { s.dep p with iqWait := [], inb := [{ itag := 0, f := f, dead := false }] }).emit
      (.iq p 0 (if f.opcode = 3 then 2 else f.opcode.toNat)
        ((s.exposed p (f.fpa.toNat % 2 ^ 44) (max 1 f.length.toNat)).getD 0) f.length.toNat f.payload) := by
  unfold State.presentIq
  have free : (List.range 256).find? (fun i => !(s.dep p).inb.any (fun x => x.itag = i)) = some 0 := by
    rw [hinb]
    rfl
  dsimp only
  rw [hwait, free, hinb]
  refine State.presentIq_of_empty ?_ k
  show ((s.setDep p _).dep p).iqWait = []
  rw [State.dep_setDep, if_pos rfl]

/-- What the block takes of a frame that is in order and is for it. -/
theorem State.depAccept_own (hup : s.epBit p eStatus 11 = true) (hnode : s.epBit p eNode 63 = true) (hptr : f.hopPtr = f.hopCount)
    (hhdr : Frame.headerOk f = true) (hcrc : f.crc = Frame.goodCrc f) : s.depAccept p f =
      if f.dst ≠ s.engNode (p + 1) then (if isAnswerable f.opcode.toNat then s.depAnswer p f stNoRoute 0 (failData f 1) else s)
      else if isMemReq f.opcode.toNat then s.inbound p f else s.emit (.depDeliver p f) := by
  unfold State.depAccept
  rw [if_neg (by simp [hup]), if_neg (by simp [hhdr, hptr]), if_neg (by simp [hnode, ← hcrc])]

theorem State.inboundStatus_part (h : f.part ≠ s.epPart p) : s.inboundStatus p f = stPartition := if_pos h

/-- Only a request in an exposed range that the block serves reaches the die. -/
theorem State.inboundStatus_ok (h : s.inboundStatus p f = stOk) : isRed f.opcode.toNat = false ∧ isFpFadd f.opcode.toNat = false ∧
    (s.exposed p (f.fpa.toNat % 2 ^ 44) (max 1 f.length.toNat)).isSome = true := by
  unfold State.inboundStatus at h
  dsimp only at h
  split at h
  · exact absurd h (by decide)
  split at h
  · exact absurd h (by decide)
  split at h
  · exact absurd h (by decide)
  split at h
  · exact absurd h (by decide)
  split at h
  · exact absurd h (by decide)
  split at h
  · exact absurd h (by decide)
  rename_i hexp _ hred
  simp only [Bool.or_eq_true, not_or, Bool.not_eq_true] at hred
  exact ⟨hred.1, hred.2, by simpa [Option.isSome_iff_ne_none] using hexp⟩

/-- The die's answer frees its ITAG. -/
theorem State.isAnswer_found {k : Nat} {x : Inbound} (hwait : (s.dep p).iqWait = []) (h : (s.dep p).inb.find? (fun x => x.itag = k) = some x)
    (st : BitVec 5) (data : List Byte) : ((s.isAnswer p k st data).dep p).inb = (s.dep p).inb.filter (fun y => y.itag ≠ k) ∧
      SameMemory s (s.isAnswer p k st data) ∧ SameRegs s (s.isAnswer p k st data) := by
  have dep : (s.setDep p { s.dep p with inb := (s.dep p).inb.filter (fun y => y.itag ≠ k) }).dep p =
      { s.dep p with inb := (s.dep p).inb.filter (fun y => y.itag ≠ k) } := by
    rw [State.dep_setDep, if_pos rfl]
  have done {u : State} (hu : BlockAnswered (s.setDep p { s.dep p with inb := (s.dep p).inb.filter (fun y => y.itag ≠ k) }) u p) :
      (u.dep p).inb = (s.dep p).inb.filter (fun y => y.itag ≠ k) ∧ (u.dep p).iqWait = [] := by
    refine ⟨hu.block.inb.trans (by rw [dep]), hu.block.iqWait.trans ?_⟩
    rw [dep]
    exact hwait
  unfold State.isAnswer
  rw [h]
  dsimp only
  split
  · have kept : BlockAnswered (s.setDep p { s.dep p with inb := (s.dep p).inb.filter (fun y => y.itag ≠ k) }) _ p :=
      .of_linkOnly (LinkOnly.refl _ p)
    rw [State.presentIq_of_empty (done kept).2]
    exact ⟨(done kept).1, kept.memory, kept.regs⟩
  · have kept := BlockAnswered.answerInbound (s.setDep p { s.dep p with inb := (s.dep p).inb.filter (fun y => y.itag ≠ k) }) p x.f
      (if st = stOk ∨ st = stDataErr ∨ st = stPerm then st else stDataErr) data
    rw [State.presentIq_of_empty (done kept).2]
    exact ⟨(done kept).1, kept.memory, kept.regs⟩

/-- An ITAG that is not answered in time is dead, and the timeout bit is set. -/
theorem State.inExpired_found {k : Nat} {x : Inbound} (h : (s.dep p).inb.find? (fun x => x.itag = k && !x.dead) = some x) :
    (s.inExpired p k).epBit p eStatus 13 = true ∧ SameMemory s (s.inExpired p k) ∧ SameRegs s (s.inExpired p k) ∧
      ∀ y ∈ ((s.inExpired p k).dep p).inb, y.itag = k → y.dead = true := by
  let aged : List Inbound := (s.dep p).inb.map (fun (y : Inbound) => if y.itag = k then { y with dead := true } else y)
  have kept := BlockAnswered.answerInbound (s.setDep p { s.dep p with inb := aged }) p x.f stDataErr []
  have inb : (((s.setDep p { s.dep p with inb := aged }).answerInbound p x.f stDataErr []).dep p).inb = aged :=
    kept.block.inb.trans (by rw [State.dep_setDep, if_pos rfl])
  have eq : s.inExpired p k = (((s.setDep p { s.dep p with inb := aged }).answerInbound p x.f stDataErr []).setEpBit p eStatus 13 true).epIrq p 2 := by
    unfold State.inExpired
    rw [h]
  have rest := (OnlyDeps.refl ((s.setDep p { s.dep p with inb := aged }).answerInbound p x.f stDataErr [])).setEpBit p eStatus 13 true |>.epIrq p 2
  rw [eq]
  refine ⟨?_, fun a => (rest.sameMemory a).trans (kept.memory a), fun a => (rest.sameRegs a).trans (kept.regs a), fun y hy hk => ?_⟩
  · exact (State.epBit_congr (State.ep_epIrq_ne 2 (by decide)) 13).trans (State.epBit_setEpBit eStatus 13 true (by decide))
  · rw [State.inb_epIrq, State.inb_setEpBit, inb] at hy
    obtain ⟨z, -, rfl⟩ := List.mem_map.mp hy
    split at hk
    · rw [if_pos ‹_›]
    · exact absurd hk ‹_›

end

end

/-- Settles O34: what the block takes, answers and presents, and how an ITAG ends. -/
theorem inboundRequests : Obligations.InboundRequests := by
  refine ⟨fun p f s h => ?_, fun p f s hup hnode hptr hhdr hcrc hdst hop => ?_, fun p f s hup hnode hptr hhdr hcrc hdst hop => ?_,
    fun p f s hup hnode hptr hhdr hcrc hdst hop => ?_, fun p f s hup h => ?_,
    fun p f s hup hnode hptr hhdr hcrc hdst hop hvc hst hwait hinb => ?_, fun s p f h => ?_, fun s p f h => State.inboundStatus_part h,
    fun s p f hpart h => ?_, fun s p f h => State.inboundStatus_ok h, fun p k st data s h => ?_, fun p k st data x s hwait h => ?_,
    fun p k x s h => ?_, fun p k s h => ?_⟩
  · exact congrArg Host.Outcome.next (if_pos (by simp [h]))
  · refine congrArg Host.Outcome.next ((State.depAccept_own hup hnode hptr hhdr hcrc).trans ?_)
    rw [if_neg (fun g => g hdst), if_pos hop]
  · refine ⟨_, congrArg Host.Outcome.next ((State.depAccept_own hup hnode hptr hhdr hcrc).trans ((if_pos hdst).trans (if_pos hop))), rfl,
      (LinkOnly.depAnswer ..).rest⟩
  · refine congrArg Host.Outcome.next ((State.depAccept_own hup hnode hptr hhdr hcrc).trans ?_)
    rw [if_neg (fun g => g hdst), if_neg (by simp [hop])]
  · refine ⟨_, congrArg Host.Outcome.next ((if_neg (by simp [hup])).trans (if_pos ?_)), ?_, rfl, rfl⟩
    · simpa using h
    · rw [State.dep_setDep, if_pos rfl]
  · have served : s.depAccept p f = (s.setDep p { s.dep p with iqWait := (s.dep p).iqWait ++ [f] }).presentIq p (255 + 1) := by
      rw [State.depAccept_own hup hnode hptr hhdr hcrc, if_neg (fun g => g hdst), if_pos hop, State.inbound, if_pos hvc, State.serveInbound]
      exact if_neg (fun g => g hst)
    have dep : (s.setDep p { s.dep p with iqWait := (s.dep p).iqWait ++ [f] }).dep p = { s.dep p with iqWait := (s.dep p).iqWait ++ [f] } := by
      rw [State.dep_setDep, if_pos rfl]
    refine ⟨_, congrArg Host.Outcome.next (served.trans (State.presentIq_first (f := f) ?_ ?_ 255)), rfl, ?_, ?_, ?_⟩
    · rw [dep, hwait]
      rfl
    · rw [dep]
      exact hinb
    · rw [State.dep_emit, State.dep_setDep, if_pos rfl]
    · rw [State.dep_emit, State.dep_setDep, if_pos rfl]
    · rw [State.exposed_congr (s := s) (by rw [dep])]
      rfl
  · have served : s.serveInbound p f = s.answerInbound p f (s.inboundStatus p f) [] := if_pos h
    rw [served]
    have block := (BlockAnswered.answerInbound s p f (s.inboundStatus p f) []).block
    exact ⟨block.inb, block.iqWait, block.reqs⟩
  · unfold State.inboundStatus
    rw [if_neg (fun g => g hpart)]
    exact if_pos h
  · have none : (s.dep p.val).inb.find? (fun x => x.itag = k.toNat) = none := List.find?_eq_none.mpr fun x hx => by simpa using h x hx
    refine congrArg Host.Outcome.next ?_
    rw [State.isAnswer, none]
  · exact ⟨_, rfl, State.isAnswer_found hwait h st data⟩
  · exact ⟨_, rfl, State.inExpired_found h⟩
  · have none : (s.dep p.val).inb.find? (fun x => x.itag = k.toNat && !x.dead) = none :=
      List.find?_eq_none.mpr fun x hx => by simpa using h x hx
    refine congrArg Host.Outcome.next ?_
    rw [State.inExpired, none]

end Sys2Proof.Machine
end

section
/-! SUPPORT. A DEP-7's own registers, its link and its reset pin. -/

namespace Sys2Proof.Machine

section
variable {s t : State} {p : Nat}

theorem State.predFar_setEpBit (a i : Nat) (b : Bool) : ((s.setEpBit p a i b).dep p).predFar = (s.dep p).predFar := by
  rw [State.setEpBit, State.setEpF, State.setEp, State.dep_setDep, if_pos rfl]

/-- The registers of a block whose other state alone has been set. -/
theorem State.ep_setDep_regs {d : Dep} (h : d.regs = (s.dep p).regs) (a : Nat) : (s.setDep p d).ep p a = s.ep p a := by
  rw [State.ep, State.dep_setDep, if_pos rfl, h]
  rfl

theorem State.epEnable_on (h : s.epBit p eCtl 0 = false) : s.epEnable p true = (s.setEpBit p eCtl 0 true).setEpState p 1 := by
  simp only [State.epEnable, h, if_true, Bool.false_eq_true, if_false]

theorem State.epEnable_off : s.epEnable p false = ((s.setEpBit p eCtl 0 false).depLinkDown p).setEpState p 0 := by
  simp only [State.epEnable, Bool.false_eq_true, if_false]

/-- The module's STRICT and PRED_FAR as a link word brings them. -/
theorem State.strictWord_takes (s : State) (p : Nat) (a b : Bool) : (s.strictWord p a b).epBit p eMode 0 = a ∧
    (s.strictWord p a b).epBit p eStatus 12 = a ∧ ((s.strictWord p a b).dep p).predFar = b ∧ OnlyDeps s (s.strictWord p a b) := by
  let u := (s.setEpBit p eMode 0 a).setEpBit p eStatus 12 a
  let v := u.setDep p { u.dep p with predFar := b }
  have reg (r : Nat) : v.ep p r = u.ep p r := State.ep_setDep_regs (d := { u.dep p with predFar := b }) rfl r
  have mode : v.epBit p eMode 0 = a := (State.epBit_congr (reg eMode) 0).trans
    ((State.epBit_congr (State.ep_setEpF_ne 12 1 _ (by decide)) 0).trans (State.epBit_setEpBit eMode 0 a (by decide)))
  have status : v.epBit p eStatus 12 = a := (State.epBit_congr (reg eStatus) 12).trans (State.epBit_setEpBit eStatus 12 a (by decide))
  have far : (v.dep p).predFar = b := by rw [State.dep_setDep, if_pos rfl]
  have rest : OnlyDeps s v := (((OnlyDeps.refl s).setEpBit p eMode 0 a).setEpBit p eStatus 12 a).setDep p _
  have eq : s.strictWord p a b = if s.epBit p eMode 0 = a then v else v.emit (.depPin p "EP_STRICT" a) := rfl
  clear_value v
  rw [eq]
  split
  · exact ⟨mode, status, far, rest⟩
  · exact ⟨mode, status, far, rest.emit _⟩

/-- A pin that falls is an output. -/
theorem State.lowPin_eq (was : Bool) (name : String) : ∃ o, (if was then s.emit (.depPin p name false) else s) = { s with out := o } := by
  split
  · exact ⟨_, rfl⟩
  · exact ⟨_, rfl⟩

theorem State.depReset_eq (s : State) (p : Nat) : ∃ o x, s.depReset p = { s with
    out := o, deps := tput depDefault s.deps p {}, xl := x, fab := { s.fab with
      pairs := s.fab.pairs.filter (fun x => x.1 / 4096 ≠ p + 1), expect := s.fab.expect.filter (fun x => x.1 / 4096 ≠ p + 1),
      replies := s.fab.replies.filter (fun r => r.eng ≠ p + 1), buckets := s.fab.buckets.filter (fun x => x.1 / 16 ≠ p + 1) } } := by
  obtain ⟨o, ho⟩ := s.lowPin_eq (p := p) (decide ((s.ep p eIntStatus &&& s.ep p eIntEn) ≠ 0)) "EP_IRQ"
  obtain ⟨o', ho'⟩ := State.lowPin_eq (s := { s with out := o }) (p := p) (s.epBit p eMode 0) "EP_STRICT"
  obtain ⟨o'', ho''⟩ := State.lowPin_eq (s := { s with out := o' }) (p := p) (s.epBit p eStatus 11) "EP_LINK_UP"
  unfold State.depReset
  dsimp only
  rw [ho, ho', ho'']
  exact ⟨_, _, rfl⟩

/-- The block has nothing to do after a write of one of its registers. -/
theorem DieIdle.setEp (h : DieIdle (s.dep p)) (a : Nat) (v : Word) : DieQuiet ((s.setEp p a v).dep p) := by
  rw [State.setEp, State.dep_setDep, if_pos rfl]
  exact DieIdle.quiet h

/-- A refused write leaves every other register and sets the error bit of its status. -/
theorem State.epCfgErr_refuses (s : State) (p : Nat) : (s.epCfgErr p).epBit p eStatus 15 = true ∧ OnlyDeps s (s.epCfgErr p) ∧
    ∀ b, eStatus ≠ b → eIntStatus ≠ b → (s.epCfgErr p).ep p b = s.ep p b := by
  refine ⟨?_, ((OnlyDeps.refl s).setEpBit p eStatus 15 true).epIrq p 5, fun b hb hi => ?_⟩
  · exact (State.epBit_congr (State.ep_epIrq_ne 5 (by decide)) 15).trans (State.epBit_setEpBit eStatus 15 true (by decide))
  · exact (State.ep_epIrq_ne 5 hi).trans (State.ep_setEpF_ne 15 1 _ hb)

/-- A route entry reads as before where both of its words do. -/
theorem State.depRoute_congr {d : BitVec 12} (hlo : t.ep p (eRt + 16 * d.toNat) = s.ep p (eRt + 16 * d.toNat))
    (hhi : t.ep p (eRt + 16 * d.toNat + 8) = s.ep p (eRt + 16 * d.toNat + 8)) : t.depRoute p d = s.depRoute p d := by
  unfold State.depRoute
  rw [hlo, hhi]

/-- A refused route entry is reported (R525). -/
theorem State.writeEpRt_refused {d : BitVec 12} {lo hi : Word} (h : s.isHeld (p + 1) d.toNat = false ∨
    0 < Pair.charged (s.pair (p + 1) d.toNat) ∨ epRouteBad d.toNat lo hi = true) :
    s.writeEpRt p d.toNat lo hi = ((s.setEpBit p eStatus 14 true).setEpF p eStatus 16 12 d.toNat).epIrq p 1 :=
  if_pos (by simpa [or_assoc] using h)

theorem State.writeEpRt_taken {d : BitVec 12} {lo hi : Word} (hheld : s.isHeld (p + 1) d.toNat = true)
    (hfree : Pair.charged (s.pair (p + 1) d.toNat) = 0) (hgood : epRouteBad d.toNat lo hi = false) :
    s.writeEpRt p d.toNat lo hi =
      (s.setEp p (eRt + 16 * d.toNat) lo).setEp p (eRt + 16 * d.toNat + 8) (hi &&& 0x0000008FFFFFFFFF) :=
  if_neg (by simp [hheld, hfree, hgood])

/-- No hold bit is cleared by a write that keeps them all. -/
theorem State.writeEpHold_kept {k : Nat} {v : Word} (h : s.ep p (eRtHold + 8 * k) &&& ~~~v = 0) :
    s.writeEpHold p k v = (s.setEp p (eRtHold + 8 * k) v).settleDep p := by
  have none : (List.range 64).filter (fun i => (s.ep p (eRtHold + 8 * k)).getLsbD i && !v.getLsbD i) = [] := by
    refine List.filter_eq_nil_iff.mpr fun i hi => ?_
    have bit := congrArg (·.getLsbD i) h
    have lt : i < 64 := List.mem_range.mp hi
    simpa [lt] using bit
  rw [State.writeEpHold]
  simp only [none, State.forAll, List.foldl_nil]

end

/-- Settles O35: each row writes its own registers, and a block that has nothing to do stays as it is. -/
theorem endPointRegisters : Obligations.EndPointRegisters := by
  have route {d : BitVec 12} {o : Nat} {a : Nat} (ha : a < eRt) : a ≠ eRt + 16 * d.toNat + o := by omega
  refine ⟨fun p a b s => ?_, fun p s h => ?_, fun p s => ?_, fun p s => ?_, fun p s h => ?_, fun p s => ?_, fun p d lo hi s h => ?_,
    fun p d lo hi s hheld hfree hgood => ?_, fun p v s h => ?_, fun p v s h => ?_, fun p v s h hidle => ?_, fun p word v s h => ?_,
    fun p word v s h hidle => ?_, fun p v s hlo hhi hwin => ?_, fun p v s h => ?_, fun p v s hlo hhi hwin => ?_, fun p v s h => ?_⟩
  · exact ⟨_, rfl, State.strictWord_takes s p.val a b⟩
  · exact congrArg Host.Outcome.next (congrArg (State.setEpState · p.val 0) (if_pos (by simp [h])))
  · exact ⟨_, rfl, State.epF_setEpF eElecStatus 0 4 0 (by decide), rfl⟩
  · obtain ⟨o, x, h⟩ := s.depReset_eq p.val
    refine ⟨_, congrArg Host.Outcome.next h, ?_, SameMemory.of_mem rfl, fun _ => rfl, fun q hq => ?_, fun y hy => ?_, rfl, rfl⟩
    · exact (tget_tput ..).trans (if_pos rfl)
    · exact (tget_tput ..).trans (if_neg hq.symm)
    · simpa using (List.mem_filter.mp hy).2
  · refine ⟨_, congrArg Host.Outcome.next (State.epEnable_on h), ?_, State.epF_setEpF eElecStatus 0 4 1 (by decide), rfl⟩
    exact (State.epBit_congr (State.ep_setEpF_ne 0 4 1 (show eElecStatus ≠ eCtl by decide)) 0).trans (State.epBit_setEpBit eCtl 0 true (by decide))
  · exact ⟨_, congrArg Host.Outcome.next State.epEnable_off, State.epF_setEpF eElecStatus 0 4 0 (by decide)⟩
  · refine ⟨_, congrArg Host.Outcome.next (State.writeEpRt_refused h), ?_, ?_, ?_,
      (((OnlyDeps.refl s).setEpBit p.val eStatus 14 true).setEpF p.val eStatus 16 12 d.toNat).epIrq p.val 1⟩
    · refine (State.epBit_congr (State.ep_epIrq_ne 1 (by decide)) 14).trans ?_
      have below := fget_fset_below ((s.setEpBit p.val eStatus 14 true).ep p.val eStatus) 16 12 d.toNat 14 1 (by decide) (by decide)
      have kept : ((s.setEpBit p.val eStatus 14 true).setEpF p.val eStatus 16 12 d.toNat).epBit p.val eStatus 14 =
          (s.setEpBit p.val eStatus 14 true).epBit p.val eStatus 14 := by
        rw [State.epBit, State.epF, State.ep_setEpF, if_pos rfl, below]
        rfl
      exact kept.trans (State.epBit_setEpBit eStatus 14 true (by decide))
    · refine (State.epF_congr (State.ep_epIrq_ne 1 (by decide)) 16 12).trans ((State.epF_setEpF eStatus 16 12 d.toNat (by decide)).trans ?_)
      exact Nat.mod_eq_of_lt d.isLt
    · have kept (o : Nat) : (((s.setEpBit p.val eStatus 14 true).setEpF p.val eStatus 16 12 d.toNat).epIrq p.val 1).ep p.val
          (eRt + 16 * d.toNat + o) = s.ep p.val (eRt + 16 * d.toNat + o) := by
        rw [State.ep_epIrq_ne 1 (route (by decide)), State.ep_setEpF_ne _ _ _ (route (by decide))]
        exact State.ep_setEpF_ne _ _ _ (route (by decide))
      exact State.depRoute_congr (kept 0) (kept 8)
  · refine ⟨_, congrArg Host.Outcome.next (State.writeEpRt_taken hheld hfree hgood), ?_, ?_, rfl⟩
    · rw [State.ep_setEp, if_neg (by omega), State.ep_setEp, if_pos rfl]
    · rw [State.ep_setEp, if_pos rfl]
  · exact congrArg Host.Outcome.next (if_pos h)
  · exact congrArg Host.Outcome.next (if_neg (by simp [h]))
  · refine ⟨_, congrArg Host.Outcome.next ((if_neg (by simp [h])).trans (State.settleDep_of_quiet (hidle.setEp _ _))), ?_, rfl, fun a ha => ?_⟩
    · rw [State.ep_setEp, if_pos rfl]
    · rw [State.ep_setEp, if_neg ha.symm]
  · exact congrArg Host.Outcome.next (State.writeEpHold_kept h)
  · refine ⟨_, congrArg Host.Outcome.next ((State.writeEpHold_kept h).trans (State.settleDep_of_quiet (hidle.setEp _ _))), ?_, rfl, fun a ha => ?_⟩
    · rw [State.ep_setEp, if_pos rfl]
    · rw [State.ep_setEp, if_neg ha.symm]
  · refine ⟨_, congrArg Host.Outcome.next (if_pos ?_), ?_, rfl⟩
    · simp [inRange, hlo, hhi, hwin]
    · rw [State.ep_setEp, if_pos rfl]
  · obtain ⟨bit, rest, kept⟩ := State.epCfgErr_refuses s p
    refine ⟨_, congrArg Host.Outcome.next (if_neg ?_), bit, kept eRtx (by decide) (by decide), rest⟩
    simp only [Bool.and_eq_true, decide_eq_true_eq, not_and, Nat.not_le]
    exact fun _ => h
  · refine ⟨_, congrArg Host.Outcome.next (if_pos ?_), ?_, rfl⟩
    · simp [inRange, hlo, hhi, hwin]
    · rw [State.ep_setEp, if_pos rfl]
  · obtain ⟨bit, rest, kept⟩ := State.epCfgErr_refuses s p
    refine ⟨_, congrArg Host.Outcome.next (if_neg ?_), bit, kept eWinTimeout (by decide) (by decide), rest⟩
    simp only [inRange, Bool.and_eq_true, decide_eq_true_eq, not_and, Nat.not_le]
    omega

end Sys2Proof.Machine
end

section
/-! SUPPORT. Register writes with a check, and the registers of the Bell. -/

namespace Sys2Proof.Machine

section
variable {s t : State}

/-- A row that writes a register where a check admits the value, and else reports in another register, is a field write. -/
theorem fieldWrite_of_writeIf {c : BitVec 64 → Instr} {a lo len err bit : Nat} {ok : State → BitVec 64 → Prop} {chk : State → BitVec 64 → Bool}
    {report : State → State} (row : ∀ v s, exec (c v) s = .next (s.bar0 (fun s => s.writeIf a v (chk s v) report)))
    (hchk : ∀ s v, chk s v = true ↔ ok s v) (h64 : lo + len ≤ 64)
    (hmask : ∀ i : Fin 64, lo ≤ i.val → i.val < lo + len → (regSpec a).rw.getLsbD i.val = true ∧ (regSpec a).w1c.getLsbD i.val = false)
    (hreport : ∀ s, (report s).regBit err bit = true ∧ OnlyRegs s (report s) [err]) (hne : a ≠ err) : FieldWrite c a lo len ok err bit := by
  intro v s hrec
  have run : exec (c v) s = .next (s.writeIf a v (chk s v) report) := by rw [row, s.bar0_eq_of_not_recovery _ hrec]
  refine ⟨fun h => ⟨_, run, ?_⟩, fun h => ⟨_, run, ?_⟩⟩
  · rw [(hchk s v).mpr h]
    exact ⟨s.regF_writePlain a v lo len h64 hmask, s.onlyRegs_writePlain a v allBits⟩
  · rw [show chk s v = false from Bool.eq_false_iff.mpr fun g => h ((hchk s v).mp g), s.writeIf_false]
    obtain ⟨hbit, hrest, hreg⟩ := hreport s
    exact ⟨hbit, hreg a (by simpa using hne), hrest, hreg⟩

theorem State.regBit_congr {a : Nat} (h : t.reg a = s.reg a) (i : Nat) : t.regBit a i = s.regBit a i := by
  rw [State.regBit, State.regF, h]
  rfl

theorem State.regF_congr {a : Nat} (h : t.reg a = s.reg a) (lo len : Nat) : t.regF a lo len = s.regF a lo len :=
  congrArg (fget · lo len) h

/-- A row that is one BAR0 write is refused in the recovery state. -/
theorem refusedInRecovery_of_bar0 {c : Instr} {k : State → State} (row : ∀ s, exec c s = .next (s.bar0 k)) : RefusedInRecovery c :=
  fun s h => (row s).trans (congrArg Host.Outcome.next (if_pos h))

theorem State.bellCfgErr_reports (s : State) : s.bellCfgErr.regBit rBellStatus 1 = true ∧ OnlyRegs s s.bellCfgErr [rBellStatus] :=
  ⟨s.regBit_bellCfgErr, s.onlyRegs_bellCfgErr⟩

/-! ### BELL.CTL.PART -/

/-- The module is in a Bell partition, with no Bell to come and no edge, and is not its master. -/
def State.partWith (part : Nat) (m : Tab Byte) (t : State) : Prop :=
  t.bellPart = part ∧ t.isMaster = false ∧ t.bell.next = none ∧ t.bell.edge = false ∧ t.mem = m

theorem frameFree_partWith (part : Nat) (m : Tab Byte) : FrameFree False (State.partWith part m) where
  fab _ _ h := h
  out _ h := h
  reg {s} a v ha h := by
    obtain ⟨hpart, hmaster, hrest⟩ := h
    have ctl : rBellCtl ≠ a := (lt_of_lt_of_le (show rBellCtl < 0x100060 by decide) (fabricCounter_ge ha)).ne
    have status : rBellStatus ≠ a := (lt_of_lt_of_le (show rBellStatus < 0x100060 by decide) (fabricCounter_ge ha)).ne
    exact ⟨(s.regF_setReg_ne a v rBellCtl 8 6 ctl).trans hpart, (State.regBit_congr (s.reg_setReg_ne a v rBellStatus status) 28).trans hmaster, hrest⟩
  deps h := h.elim

theorem State.partWith.candidacyOut {part : Nat} {m : Tab Byte} (h : s.partWith part m) (c : Nat × Nat) (skip : Option Nat) :
    (s.candidacyOut c skip).partWith part m :=
  State.forAll_induct h fun _ _ ht => (frameFree_partWith part m).admitFrame (p := 139) (by decide) _ _ ht

theorem State.partWith.setElecting {part : Nat} {m : Tab Byte} (h : s.partWith part m) (b : Bool) :
    (s.setRegBit rBellStatus 6 b).partWith part m := by
  obtain ⟨hpart, hmaster, hrest⟩ := h
  exact ⟨(s.regF_setReg_ne rBellStatus _ rBellCtl 8 6 (by decide)).trans hpart,
    (s.regBit_setRegBit_other rBellStatus 6 b 28 (by decide) (by decide)).trans hmaster, hrest⟩

/-- What an election that begins keeps. -/
theorem State.partWith.startElection {part : Nat} {m : Tab Byte} (h : s.partWith part m) : s.startElection.partWith part m := by
  obtain ⟨hpart, hmaster, -, hedge, hmem⟩ := h
  have begun (best : Option (Nat × Nat)) : State.partWith part m (State.setRegBit { s.dropNext with bell :=
      { s.dropNext.bell with best := best, waiting := false, elected := false, led := false } } rBellStatus 6 true) :=
    State.partWith.setElecting (s := { s.dropNext with bell :=
      { s.dropNext.bell with best := best, waiting := false, elected := false, led := false } }) ⟨hpart, hmaster, rfl, hedge, hmem⟩ true
  unfold State.startElection
  dsimp only
  split
  · exact (begun _).candidacyOut _ _
  · exact begun _

theorem State.partWith.mapApplied {part : Nat} {m : Tab Byte} (h : s.partWith part m) : s.mapApplied.partWith part m := by
  unfold State.mapApplied
  dsimp only
  split
  · exact h
  · exact State.partWith.startElection (s := { s with bell := { s.bell with
      mapped := true, mappedOf := if s.hasBellPorts then s.bell.mappedOf ||| BitVec.twoPow 64 s.bellPart else s.bell.mappedOf } }) h

/-- The state in which the partition has changed, before its map takes effect. -/
def State.partMoved (s : State) (part : Nat) : State :=
  let t := ((s.dropNext.setRegF rBellCtl 8 6 part).setRegBit rBellStatus 28 false).setRegBit rBellStatus 6 false
  { t with bell := { t.bell with waiting := false, elected := false, best := none, edge := false, led := false, moved := true } }

theorem State.reg_partMoved (part a : Nat) : (s.partMoved part).reg a =
    (((s.dropNext.setRegF rBellCtl 8 6 part).setRegBit rBellStatus 28 false).setRegBit rBellStatus 6 false).reg a := by
  simp only [State.partMoved, State.reg]

theorem State.onlyBellRegs_partMoved (s : State) (part : Nat) : OnlyBellRegs s (s.partMoved part) [rBellCtl, rBellStatus] := by
  refine ⟨by simp only [State.partMoved, State.setRegBit, State.setRegF, State.setReg, State.dropNext], fun a ha => ?_⟩
  simp only [List.mem_cons, List.not_mem_nil, or_false, not_or] at ha
  rw [State.reg_partMoved, State.reg_setRegBit_ne _ _ _ _ _ ha.2, State.reg_setRegBit_ne _ _ _ _ _ ha.2, State.reg_setRegF_ne _ _ _ _ _ _ ha.1]
  rfl

theorem State.electing_partMoved (s : State) (part : Nat) : (s.partMoved part).electing = false := by
  rw [State.electing, State.regBit_congr (State.reg_partMoved part rBellStatus), State.regBit_setRegBit _ _ _ _ (by decide)]

theorem State.mapped_partMoved (s : State) (part : Nat) : (s.partMoved part).bell.mapped = s.bell.mapped := by
  simp only [State.partMoved, State.setRegBit, State.setRegF, State.setReg, State.dropNext]

theorem State.partMoved_with {part : Nat} (h : part < 64) : (s.partMoved part).partWith part s.mem := by
  have ctl : (s.partMoved part).reg rBellCtl = (s.dropNext.setRegF rBellCtl 8 6 part).reg rBellCtl := by
    rw [State.reg_partMoved, State.reg_setRegBit_ne _ _ _ _ _ (by decide), State.reg_setRegBit_ne _ _ _ _ _ (by decide)]
  have status : (s.partMoved part).regBit rBellStatus 28 =
      ((s.dropNext.setRegF rBellCtl 8 6 part).setRegBit rBellStatus 28 false).regBit rBellStatus 28 := by
    rw [State.regBit_congr (State.reg_partMoved part rBellStatus), State.regBit_setRegBit_other _ _ _ _ _ (by decide) (by decide)]
  have hpart : (s.dropNext.setRegF rBellCtl 8 6 part).regF rBellCtl 8 6 = part := by
    rw [State.regF_setRegF _ _ _ _ _ (by decide), show 2 ^ 6 = 64 from rfl, Nat.mod_eq_of_lt h]
  have hmaster : ((s.dropNext.setRegF rBellCtl 8 6 part).setRegBit rBellStatus 28 false).regBit rBellStatus 28 = false :=
    State.regBit_setRegBit _ _ _ _ (by decide)
  exact ⟨(State.regF_congr ctl 8 6).trans hpart, status.trans hmaster, rfl, rfl, rfl⟩

theorem State.writeBellPart_moved {part : Nat} (hne : part ≠ s.bellPart) (hpages : ∀ p, p < 2 → s.pageState p ≠ 3 ∧ s.pageState p ≠ 4) :
    s.writeBellPart part = if (s.partMoved part).bell.mapped then (s.partMoved part).mapApplied else s.partMoved part := by
  have free : ¬ (List.range 2).any (fun p => s.pageState p = 3 || s.pageState p = 4) = true := by
    simp only [List.any_eq_true, List.mem_range, Bool.or_eq_true, decide_eq_true_eq, not_exists, not_and, not_or]
    exact hpages
  unfold State.writeBellPart State.partMoved
  rw [if_neg free, if_neg hne]

theorem State.writeBellPart_held {part p : Nat} (hp : p < 2) (hstate : s.pageState p = 3 ∨ s.pageState p = 4) :
    s.writeBellPart part = s.bellCfgErr := by
  rw [State.writeBellPart, if_pos]
  simp only [List.any_eq_true, List.mem_range, Bool.or_eq_true, decide_eq_true_eq]
  exact ⟨p, hp, hstate⟩

end

/-- Settles O12: three checked fields, the change of the partition, and the writes of STRICT. -/
theorem bellRegisters : Obligations.BellRegisters := by
  refine ⟨fieldWrite_of_writeIf (fun _ _ => rfl) (fun s v => ?_) (by decide) (by decide) State.bellCfgErr_reports (by decide),
    fieldWrite_of_writeIf (fun _ _ => rfl) (fun s v => ?_) (by decide) (by decide) State.bellCfgErr_reports (by decide),
    fieldWrite_of_writeIf (fun _ _ => rfl) (fun s v => ?_) (by decide) (by decide) State.bellCfgErr_reports (by decide),
    fun part s hrec hne hpages => ?_, fun part s p hrec hp hstate => ?_, fun strict s hrec => ?_,
    fun v => ⟨refusedInRecovery_of_bar0 fun _ => rfl, refusedInRecovery_of_bar0 fun _ => rfl, refusedInRecovery_of_bar0 fun _ => rfl⟩,
    fun part => refusedInRecovery_of_bar0 fun _ => rfl, fun b => refusedInRecovery_of_bar0 fun _ => rfl,
    fun v n => refusedInRecovery_of_bar0 fun _ => rfl⟩
  · simp [inRange, bodyFits, and_assoc]
  · simp [inRange, bodyFits, and_assoc]
  · simp [inRange, and_assoc]
  · have run : exec (.bellCtlPartWrite part) s = .next (if (s.partMoved part.toNat).bell.mapped then (s.partMoved part.toNat).mapApplied
        else s.partMoved part.toNat) :=
      congrArg Host.Outcome.next ((s.bar0_eq_of_not_recovery _ hrec).trans (State.writeBellPart_moved hne hpages))
    have moved := State.partMoved_with (s := s) part.isLt
    have kept : State.partWith part.toNat s.mem (if (s.partMoved part.toNat).bell.mapped then (s.partMoved part.toNat).mapApplied
        else s.partMoved part.toNat) := by
      split
      · exact moved.mapApplied
      · exact moved
    obtain ⟨hpart, hmaster, hnext, hedge, hmem⟩ := kept
    refine ⟨_, run, hpart, hmaster, hnext, hedge, SameMemory.of_mem hmem, fun hmapped => ?_⟩
    rw [if_neg (by rw [s.mapped_partMoved, hmapped]; decide)]
    exact ⟨s.electing_partMoved _, s.onlyBellRegs_partMoved _⟩
  · have run : exec (.bellCtlPartWrite part) s = .next s.bellCfgErr :=
      congrArg Host.Outcome.next ((s.bar0_eq_of_not_recovery _ hrec).trans (State.writeBellPart_held hp hstate))
    exact ⟨_, run, s.regBit_bellCfgErr, State.regF_congr (s.reg_bellCfgErr_ne rBellCtl (by decide)) 8 6, s.onlyRegs_bellCfgErr⟩
  · exact ⟨_, congrArg Host.Outcome.next (s.bar0_eq_of_not_recovery _ hrec), rfl, rfl, rfl⟩

end Sys2Proof.Machine
end

section
/-! SUPPORT. The registers of the switch: buffering, arbitration, timers, markers and groups. -/

namespace Sys2Proof.Machine

/-! ### Which bits of a switch register are writable -/

/-- The switch registers of a port, external or internal. -/
theorem regSpec_swReg {n off : Nat} (hn : n < 140) (hoff : off < 0x78) : regSpec (swReg n off) = swSpec n off := by
  unfold swReg
  split
  · unfold rPortBlock
    have q : (0x800000 + n * 0x10000 + 0x100 + off - 0x800000) / 0x10000 = n := by omega
    have r : (0x800000 + n * 0x10000 + 0x100 + off - 0x800000) % 0x10000 = 0x100 + off := by omega
    rw [regSpec, if_neg (by omega), if_neg (by omega), if_neg (by omega), if_neg (by omega), if_neg (by omega), if_neg (by omega),
      if_neg (by omega), if_neg (by omega), if_neg (by omega), if_neg (by omega), if_neg (by omega),
      if_neg (by unfold rPortBlock; omega), if_pos (by unfold rWingBlock; omega)]
    dsimp only [rPortBlock]
    rw [q, r, if_pos (by omega), Nat.add_sub_cancel_left]
  · generalize ha : rIntPort + (n - 128) * 0x80 + off = a
    have lo : 0x144000 ≤ a := by
      unfold rIntPort at ha
      omega
    have hi : a < 0x144600 := by
      unfold rIntPort at ha
      omega
    have ne {c : Nat} (hc : c < 0x144000) : ¬ a = c := by omega
    have below {l n : Nat} (hc : l + n ≤ 0x144000) : ¬ (l ≤ a ∧ a < l + n) := by omega
    have q : 128 + (a - rIntPort) / 0x80 = n := by
      unfold rIntPort at ha ⊢
      omega
    have r : (a - rIntPort) % 0x80 = off := by
      unfold rIntPort at ha ⊢
      omega
    rw [regSpec, if_neg (by omega), if_neg (by omega), if_neg (by omega), if_neg (by omega), if_neg (by omega), if_neg (by omega),
      if_neg (by omega), if_neg (by omega), if_pos (by omega), swcSpec, if_neg (ne (by decide)), if_neg (ne (by decide)),
      if_neg (not_or.mpr ⟨ne (by decide), ne (by decide)⟩), if_neg (ne (by decide)), if_neg (ne (by decide)), if_neg (ne (by decide)),
      if_neg (ne (by decide)), if_neg (ne (by decide)), if_neg (ne (by decide)), if_neg (ne (by decide)), if_neg (below (by decide)),
      if_neg (ne (by decide)), if_neg (ne (by decide)), if_neg (ne (by decide)), if_neg (ne (by decide)), if_neg (ne (by decide)),
      if_neg (ne (by decide)), if_neg (by unfold rEjectMismatch rRespDrop; omega), if_neg (below (by decide)), if_neg (below (by decide)),
      if_neg (below (by decide)), if_neg (below (by decide)), if_neg (below (by decide)), if_neg (below (by decide)),
      if_pos (by unfold rIntPort; omega), q, r]

section
variable {s : State} {a : Nat}

theorem State.reg_writePlain_whole (hrw : (regSpec a).rw = BitVec.allOnes 64) (hw1c : (regSpec a).w1c = 0) (v : Word) :
    (s.writePlain a v allBits).reg a = v := by
  rw [State.writePlain, State.reg_setReg, if_pos rfl]
  refine BitVec.eq_of_getLsbD_eq fun i hi => ?_
  simp only [RegSpec.written, hrw, hw1c, allBits, BitVec.getLsbD_and, BitVec.getLsbD_or, BitVec.getLsbD_not, BitVec.getLsbD_allOnes, hi]
  simp

theorem State.regF_writePlain_of {m : Word} (hrw : (regSpec a).rw = m) (hw1c : (regSpec a).w1c = 0) (v : Word) {lo len : Nat}
    (h64 : lo + len ≤ 64) (hm : ∀ i : Fin 64, lo ≤ i.val → i.val < lo + len → m.getLsbD i.val = true) :
    (s.writePlain a v allBits).regF a lo len = fget v lo len :=
  s.regF_writePlain a v lo len h64 fun i h1 h2 => ⟨by rw [hrw]; exact hm i h1 h2, by rw [hw1c]; exact BitVec.getLsbD_zero⟩

/-! ### CFG_STATUS (R242) -/

/-- What a refused write of a switch register leaves. -/
theorem State.cfgErr_reports (s : State) {code port : Nat} (hcode : code < 16) (hport : port < 256) :
    (s.cfgErr code port).regBit rCfgStatus 15 = true ∧ (s.cfgErr code port).regF rCfgStatus 8 4 = code ∧
      (s.cfgErr code port).regF rCfgStatus 0 8 = port ∧ OnlyRegs s (s.cfgErr code port) [rCfgStatus] := by
  have err : (s.setRegBit rCfgStatus 15 true).regBit rCfgStatus 15 = true := State.regBit_setRegBit _ _ _ _ (by decide)
  have code' : ((s.setRegBit rCfgStatus 15 true).setRegF rCfgStatus 8 4 code).regF rCfgStatus 8 4 = code := by
    rw [State.regF_setRegF _ _ _ _ _ (by decide), show 2 ^ 4 = 16 from rfl, Nat.mod_eq_of_lt hcode]
  refine ⟨?_, ?_, ?_, ?_, fun b hb => ?_⟩
  · unfold State.cfgErr State.regBit at *
    rw [State.regF_setRegF_above _ _ _ _ _ _ _ (by decide) (by decide), State.regF_setRegF_above _ _ _ _ _ _ _ (by decide) (by decide)]
    exact err
  · rw [State.cfgErr, State.regF_setRegF_above _ _ _ _ _ _ _ (by decide) (by decide), code']
  · rw [State.cfgErr, State.regF_setRegF _ _ _ _ _ (by decide), show 2 ^ 8 = 256 from rfl, Nat.mod_eq_of_lt hport]
  · simp only [State.cfgErr, State.setRegBit, State.setRegF, State.setReg]
  · have hne : b ≠ rCfgStatus := by simpa using hb
    rw [State.cfgErr, State.reg_setRegF_ne _ _ _ _ _ _ hne, State.reg_setRegF_ne _ _ _ _ _ _ hne, State.reg_setRegBit_ne _ _ _ _ _ hne]

theorem State.cfgErr_flags {code port : Nat} (hcode : code < 16) (hport : port < 256) (s : State) :
    (s.cfgErr code port).regBit rCfgStatus 15 = true ∧ OnlyRegs s (s.cfgErr code port) [rCfgStatus] := by
  obtain ⟨hbit, -, -, honly⟩ := s.cfgErr_reports hcode hport
  exact ⟨hbit, honly⟩

/-- A port's checked register takes a value that suits its four VCs, and else reports its row. -/
theorem any_range4 {f : Nat → Bool} : (List.range 4).any f = false ↔ ∀ i, i < 4 → f i = false := by
  simp [List.any_eq_false]

end

theorem rulesBufferRegisters_holds : rulesBufferRegisters := by
  have min (p : Fin 140) : regSpec (swReg p.val swBufMin) = swSpec p.val swBufMin := regSpec_swReg p.isLt (by decide)
  have adv (p : Fin 140) : regSpec (swReg p.val swCreditAdv) = swSpec p.val swCreditAdv := regSpec_swReg p.isLt (by decide)
  have vc (p : Fin 140) : regSpec (swReg p.val swVcCfg) = swSpec p.val swVcCfg := regSpec_swReg p.isLt (by decide)
  refine ⟨fun p v s hrec h hsum => ?_, fun p v s i hrec hi h => ?_, fun p v s hrec h => ?_, fun p v s i hrec hi h => ?_,
    fun p v s hrec h => ?_,
    fieldWrite_of_writeIf (fun _ _ => rfl) (fun s v => by simp) (by decide) (by decide) (State.cfgErr_flags (by decide) (by decide)) (by decide),
    fieldWrite_of_writeIf (fun _ _ => rfl) (fun s v => by simp [and_assoc]) (by decide) (by decide) (State.cfgErr_flags (by decide) (by decide)) (by decide),
    fieldWrite_of_writeIf (fun _ _ => rfl) (fun s v => by simp [and_assoc]) (by decide) (by decide) (State.cfgErr_flags (by decide) (by decide)) (by decide)⟩
  · have run : s.writeBufMin p.val v = s.writePlain (swReg p.val swBufMin) v allBits := by
      rw [State.writeBufMin, if_neg, if_neg (Nat.not_lt.mpr hsum)]
      rw [Bool.not_eq_true, any_range4]
      intro i hi
      obtain ⟨hen, hadv⟩ := h i hi
      simpa [hadv] using hen
    refine ⟨_, congrArg Host.Outcome.next ((s.bar0_eq_of_not_recovery _ hrec).trans run), ?_, s.onlyRegs_writePlain _ v allBits⟩
    exact State.reg_writePlain_whole (by rw [min]; rfl) (by rw [min]; rfl) v
  · have run : s.writeBufMin p.val v = s.cfgErr 1 p.val := by
      refine if_pos (List.any_eq_true.mpr ⟨i, List.mem_range.mpr hi, ?_⟩)
      simp [h]
    exact ⟨_, congrArg Host.Outcome.next ((s.bar0_eq_of_not_recovery _ hrec).trans run), s.cfgErr_reports (by decide) (by omega)⟩
  · have run : s.writeCreditAdv p.val v = s.writePlain (swReg p.val swCreditAdv) v allBits := by
      rw [State.writeCreditAdv, State.writeIf, if_pos]
      rw [Bool.not_eq_true', any_range4]
      intro i hi
      obtain ⟨hen, hmin⟩ := h i hi
      simpa [hmin] using hen
    refine ⟨_, congrArg Host.Outcome.next ((s.bar0_eq_of_not_recovery _ hrec).trans run), ?_, s.onlyRegs_writePlain _ v allBits⟩
    exact State.reg_writePlain_whole (by rw [adv]; rfl) (by rw [adv]; rfl) v
  · have run : s.writeCreditAdv p.val v = s.cfgErr 3 p.val := by
      refine if_neg ?_
      rw [Bool.not_eq_true', Bool.not_eq_false]
      refine List.any_eq_true.mpr ⟨i, List.mem_range.mpr hi, ?_⟩
      simp [h]
    exact ⟨_, congrArg Host.Outcome.next ((s.bar0_eq_of_not_recovery _ hrec).trans run), s.cfgErr_reports (by decide) (by omega)⟩
  · have run : s.writeVcCfg p.val v = s.writePlain (swReg p.val swVcCfg) v allBits := by
      rw [State.writeVcCfg, State.writeIf, if_pos]
      rw [Bool.not_eq_true', any_range4]
      intro i hi
      cases hon : v.getLsbD i with
      | false => rfl
      | true =>
        cases hwas : (s.regF (swReg p.val swVcCfg) 0 4).testBit i with
        | true => rfl
        | false =>
          obtain ⟨hmin, hadv⟩ := h i hi hon hwas
          simp [hmin, hadv]
    refine ⟨_, congrArg Host.Outcome.next ((s.bar0_eq_of_not_recovery _ hrec).trans run), ?_, s.onlyRegs_writePlain _ v allBits⟩
    exact State.regF_writePlain_of (m := 0x770F) (by rw [vc]; rfl) (by rw [vc]; rfl) v (by decide) (by decide)

/-! ### The other checked registers -/

section
variable {s : State}

/-- A bit is a field of one bit. -/
theorem fget_bit (w : Word) (i : Nat) : decide (fget w i 1 = 1) = w.getLsbD i := by
  rw [fget, pow_one, ← BitVec.testBit_toNat, Nat.testBit_eq_decide_div_mod_eq]

theorem State.regBit_writePlain {a : Nat} (v : Word) {i : Nat} (hi : i < 64)
    (h : (regSpec a).rw.getLsbD i = true ∧ (regSpec a).w1c.getLsbD i = false) : (s.writePlain a v allBits).regBit a i = v.getLsbD i := by
  rw [State.regBit, s.regF_writePlain a v i 1 hi fun j h1 h2 => ?_, fget_bit]
  rw [show j.val = i by omega]
  exact h

/-- A value of WIN_TIMEOUT out of its range is reported, whatever else. -/
theorem State.writeWinTimeout_range {v : Word} (h : fget v 0 14 < 10 ∨ 10000 < fget v 0 14) :
    (s.writeWinTimeout v).regBit rCfgStatus 15 = true ∧ OnlyRegs s (s.writeWinTimeout v) [rCfgStatus, rRtStatus] := by
  have out : inRange 10 10000 (fget v 0 14) = false := by
    simp only [inRange, Bool.and_eq_false_iff, decide_eq_false_iff_not, Nat.not_le]
    exact h
  have keep : OnlyRegs s s.rtErr [rCfgStatus, rRtStatus] := s.onlyRegs_setReg rRtStatus _ _ (by simp)
  have range (u : State) : u.cfgRange.regBit rCfgStatus 15 = true ∧ OnlyRegs u u.cfgRange [rCfgStatus, rRtStatus] :=
    ⟨State.regBit_setRegBit _ _ _ _ (by decide), u.onlyRegs_setReg rCfgStatus _ _ (by simp)⟩
  simp only [State.writeWinTimeout, State.writeTimer, out, Bool.false_and, Bool.false_eq_true, if_false]
  split
  · exact range s
  · exact ⟨(range _).1, keep.trans (range _).2⟩

theorem State.writeTimer_fits {a : Nat} {v : Word} : s.writeTimer a v true true = s.writePlain a v allBits := rfl

theorem regSpec_wred (set : Fin 8) (colour : Fin 3) :
    ((regSpec (rWredSet + 48 * set.val + 16 * colour.val)).rw = 0x0FFFFFFF ∧ (regSpec (rWredSet + 48 * set.val + 16 * colour.val)).w1c = 0) ∧
    (regSpec (rWredSet + 48 * set.val + 16 * colour.val + 8)).rw = 0x800F01FF0FFFFFFF ∧
      (regSpec (rWredSet + 48 * set.val + 16 * colour.val + 8)).w1c = 0 := by
  revert set colour
  decide +kernel

theorem regSpec_marker (m : Fin 16) : (regSpec (rMarker + 16 * m.val)).rw = BitVec.allOnes 64 ∧ (regSpec (rMarker + 16 * m.val)).w1c = 0 := by
  revert m
  decide +kernel

/-- A marker's buckets are no registers. -/
theorem State.regs_fillBucket (e m : Nat) (lo hi : Word) : (s.fillBucket e m lo hi).regs = s.regs := by
  unfold State.fillBucket
  split
  · rfl
  · rfl

theorem State.regs_writeMarker {m : Nat} {lo hi : Word} (h : markerOk lo hi = true) : (s.writeMarker m lo hi).regs =
    (((s.fillBucket 0 m (s.reg (rMarker + 16 * m)) (s.reg (rMarker + 16 * m + 8))).writePlain (rMarker + 16 * m) lo allBits).writePlain
      (rMarker + 16 * m + 8) hi allBits).regs := by
  unfold State.writeMarker
  dsimp only
  rw [if_pos h]
  split
  · rfl
  · rfl

theorem State.mcBusy_reports (s : State) : s.mcBusy.regBit rColStatus 0 = true ∧ OnlyRegs s s.mcBusy [rColStatus] :=
  ⟨State.regBit_setRegBit _ _ _ _ (by decide), s.onlyRegs_setRegBit rColStatus 0 true⟩

/-- A 4-byte entry of a register table holds the word written to it. -/
theorem State.tabF_setTabF {a : Nat} (ha : a % 4 = 0) (v : BitVec 32) : (s.setTabF a 4 v.toNat).tabF a 4 = v.toNat := by
  have fits : a % 8 * 8 + 8 * 4 ≤ 64 := by omega
  rw [State.tabF, State.setTabF, State.regF_setRegF _ _ _ _ _ fits]
  exact Nat.mod_eq_of_lt v.isLt

end

theorem rulesSwitchRegisters_holds : rulesSwitchRegisters := by
  refine ⟨fieldWrite_of_writeIf (fun _ _ => rfl) (fun s v => by simp [inRange]) (by decide) (by decide)
      (State.cfgErr_flags (by decide) (by decide)) (by decide),
    fieldWrite_of_writeIf (fun _ _ => rfl) (fun s v => by simp [arbOk, inRange, and_assoc]) (by decide) (by decide)
      (State.cfgErr_flags (by decide) (by decide)) (by decide),
    fun v s hrec hlo hhi hfit => ?_, fun v s hrec hlo hhi hfit => ?_, fun v s hrec hlo hhi hfit => ?_, fun v s hrec h => ?_,
    fun v s hrec => ?_, fun word v s hrec h => ?_, fun set colour lo hi s hrec hp hon => ?_, fun m lo hi s hrec h => ?_,
    fun m lo hi s hrec hc hlo hhi => ?_, fun g v s hrec h => ?_, fun g v s hrec h => ?_⟩
  · have run : s.writeRtx v = s.writePlain rRtx v allBits := by simp [State.writeRtx, inRange, hlo, hhi, hfit, State.writeTimer_fits]
    exact ⟨_, congrArg Host.Outcome.next ((s.bar0_eq_of_not_recovery _ hrec).trans run), s.regF_writePlain rRtx v 0 10 (by decide) (by decide),
      s.regF_writePlain rRtx v 32 3 (by decide) (by decide), s.onlyRegs_writePlain rRtx v allBits⟩
  · have run : s.writeRtx v = s.rtErr := by
      rw [s.writeRtx_eq_of_short v hfit, s.writeTimer_false, if_pos (by simp [inRange, hlo, hhi])]
    exact ⟨_, congrArg Host.Outcome.next ((s.bar0_eq_of_not_recovery _ hrec).trans run), s.regBit_rtErr, s.onlyRegs_setRegBit rRtStatus 3 true⟩
  · have run : s.writeWinTimeout v = s.writePlain rWinTimeout v allBits := by
      simp [State.writeWinTimeout, inRange, hlo, hhi, hfit, State.writeTimer_fits]
    exact ⟨_, congrArg Host.Outcome.next ((s.bar0_eq_of_not_recovery _ hrec).trans run),
      s.regF_writePlain rWinTimeout v 0 14 (by decide) (by decide), s.onlyRegs_writePlain rWinTimeout v allBits⟩
  · obtain ⟨hbit, honly⟩ := State.writeWinTimeout_range (s := s) h
    exact ⟨_, congrArg Host.Outcome.next (s.bar0_eq_of_not_recovery _ hrec), hbit, honly.2 rWinTimeout (by decide), honly⟩
  · exact ⟨_, congrArg Host.Outcome.next (s.bar0_eq_of_not_recovery _ hrec), s.regF_writePlain rRtSwap v 0 32 (by decide) (by decide),
      State.regBit_writePlain v (by decide) (by decide), s.onlyRegs_writePlain rRtSwap v allBits⟩
  · have none : (List.range 64).filter (fun i => (s.reg (rRtHold + 8 * word.val)).getLsbD i && !v.getLsbD i) = [] := by
      refine List.filter_eq_nil_iff.mpr fun i hi => ?_
      have bit := congrArg (·.getLsbD i) h
      have lt : i < 64 := List.mem_range.mp hi
      simpa [lt] using bit
    have run : s.writeHold word.val v = s.setReg (rRtHold + 8 * word.val) v := by
      rw [State.writeHold]
      simp only [none, State.forAll, List.foldl_nil]
    exact ⟨_, congrArg Host.Outcome.next ((s.bar0_eq_of_not_recovery _ hrec).trans run), (State.reg_setReg ..).trans (if_pos rfl),
      s.onlyRegs_setReg _ _ _ (by simp)⟩
  · obtain ⟨⟨rwLo, w1cLo⟩, rwHi, w1cHi⟩ := regSpec_wred set colour
    have ok : wredOk lo hi = true := by
      cases h63 : hi.getLsbD 63 with
      | false =>
        rw [wredOk, h63]
        simp [hp]
      | true =>
        rw [wredOk, h63]
        simp [hp, hon h63]
    have run : s.writeWred (rWredSet + 48 * set.val + 16 * colour.val) lo hi = _ := if_pos ok
    refine ⟨_, congrArg Host.Outcome.next ((s.bar0_eq_of_not_recovery _ hrec).trans run), ?_, ?_, ?_⟩
    · exact (State.regF_setReg_ne _ _ _ _ _ _ (by omega)).trans (State.regF_writePlain_of rwLo w1cLo lo (by decide) (by decide))
    · exact State.regF_writePlain_of rwHi w1cHi hi (by decide) (by decide)
    · exact OnlyRegs.trans (s.onlyRegs_setReg _ _ _ (by simp)) (State.onlyRegs_setReg _ _ _ _ (by simp))
  · have run : s.writeMarker m.val lo hi = s.cfgErr 10 0 := by
      refine if_neg ?_
      simp only [markerOk, Bool.and_eq_true, decide_eq_true_eq, not_and, Nat.not_le]
      omega
    obtain ⟨hbit, hcode, -, honly⟩ := s.cfgErr_reports (code := 10) (port := 0) (by decide) (by decide)
    exact ⟨_, congrArg Host.Outcome.next ((s.bar0_eq_of_not_recovery _ hrec).trans run), hbit, hcode, honly⟩
  · obtain ⟨hrw, hw1c⟩ := regSpec_marker m
    have regs := State.regs_writeMarker (s := s) (m := m.val) (show markerOk lo hi = true by simp [markerOk, hc, hlo, hhi])
    have reg (b : Nat) : (s.writeMarker m.val lo hi).reg b = _ := congrArg (tget regReset · b) regs
    refine ⟨_, congrArg Host.Outcome.next (s.bar0_eq_of_not_recovery _ hrec), ?_, fun b hb hb' => ?_⟩
    · rw [reg]
      exact (State.reg_setReg_ne _ _ _ _ (by omega)).trans (State.reg_writePlain_whole hrw hw1c lo)
    · rw [reg]
      refine (State.reg_setReg_ne _ _ _ _ hb').trans ((State.reg_setReg_ne _ _ _ _ hb).trans ?_)
      exact congrArg (tget regReset · b) (State.regs_fillBucket ..)
  · have busy : s.writeMcGroup g.toNat v = s.mcBusy := if_pos h
    have busy' : s.writeMcOwner g.toNat v = s.mcBusy := if_pos h
    exact ⟨⟨_, congrArg Host.Outcome.next ((s.bar0_eq_of_not_recovery _ hrec).trans busy), s.mcBusy_reports⟩,
      ⟨_, congrArg Host.Outcome.next ((s.bar0_eq_of_not_recovery _ hrec).trans busy'), s.mcBusy_reports⟩⟩
  · have owner : s.writeMcOwner g.toNat v = s.setTabF (rMcOwner + 4 * g.toNat) 4 (v &&& 0x803F03FF).toNat := if_neg (by simp [h])
    refine ⟨⟨_, congrArg Host.Outcome.next ((s.bar0_eq_of_not_recovery _ hrec).trans owner), State.tabF_setTabF (by unfold rMcOwner; omega) _⟩,
      fun hv => ?_⟩
    have group : s.writeMcGroup g.toNat v = s.setTabF (rMcGroup + 4 * g.toNat) 4 (v &&& 0x9FFF3FFF).toNat := by
      rw [State.writeMcGroup, if_neg (by simp [h]), if_neg (fun k => Nat.not_lt.mpr k.1 hv)]
    exact ⟨_, congrArg Host.Outcome.next ((s.bar0_eq_of_not_recovery _ hrec).trans group), State.tabF_setTabF (by unfold rMcGroup; omega) _⟩

/-- Settles O13, by its two parts. -/
theorem switchSettings : Obligations.SwitchSettings := ⟨rulesBufferRegisters_holds, rulesSwitchRegisters_holds⟩

end Sys2Proof.Machine
end

section
/-! SUPPORT. Rings of an optical port. -/

namespace Sys2Proof.Machine

section
variable {s t : State} {i k : Nat}

/-! ### Registers and wavelengths of an optical port -/

theorem State.opt_setOpt (i : Nat) (o : Opt) (j : Nat) : (s.setOpt i o).opt j = if i = j then o else s.opt j := by
  simp [State.opt, State.setOpt, tget_tput]

theorem State.opt_congr (h : t.opts = s.opts) (i : Nat) : t.opt i = s.opt i := congrArg (tget optDefault · i) h
theorem State.wave_congr (h : t.opts = s.opts) (i k : Nat) : t.wave i k = s.wave i k := by
  rw [State.wave, State.opt_congr h, State.wave]

theorem State.wave_setWave (hk : k < 16) (w : Wave) : (s.setWave i k w).wave i k = w := by
  rw [State.wave, State.setWave, State.opt_setOpt, if_pos rfl]
  simp [vecPut, hk, List.getD_eq_getElem?_getD]

theorem Wave.ring_putRing (w : Wave) (rx : Bool) (r : Ring) : (w.putRing rx r).ring rx = r := by
  cases rx
  · rfl
  · rfl

theorem State.melium_setWave (w : Wave) : ((s.setWave i k w).opt i).melium = (s.opt i).melium := by
  rw [State.setWave, State.opt_setOpt, if_pos rfl]

theorem wlStat_ne_link {off : Nat} (h : off < 0x200) : wlStat i k ≠ linkReg (64 + i) off := by
  unfold wlStat wlReg linkReg
  omega

theorem wlReg_ne_link {n off off' : Nat} (h : off < 0x200) : wlReg n k off' ≠ linkReg n off := by
  unfold wlReg linkReg
  omega

theorem wlReg_ne_wlStat {off : Nat} (h : off ≠ 0) : wlReg (64 + i) k off ≠ wlStat i k := by
  unfold wlStat wlReg
  omega

/-- The bits of a ring's state lie in the register. -/
theorem ringSt_fits (rx : Bool) : (if rx then 16 else 20) + 4 ≤ 64 := by
  cases rx
  · decide
  · decide

theorem State.ringSt_setRingSt (rx : Bool) {v : Nat} (hv : v < 16) : (s.setRingSt i k rx v).ringSt i k rx = v := by
  rw [State.ringSt, State.setRingSt, State.regF_setRegF _ _ _ _ _ (ringSt_fits rx), show 2 ^ 4 = 16 from rfl, Nat.mod_eq_of_lt hv]

theorem State.ringSt_congr (h : t.reg (wlStat i k) = s.reg (wlStat i k)) (rx : Bool) : t.ringSt i k rx = s.ringSt i k rx :=
  State.regF_congr h _ _

/-- The state of the port follows its rings; nothing else changes. -/
theorem State.ringPhase_eq (s : State) (i : Nat) : s.ringPhase i = s ∨
    inRange 1 3 (s.optState i) = true ∧ ∃ v, v < 5 ∧ s.ringPhase i = s.setOptState i v := by
  cases h : inRange 1 3 (s.optState i) with
  | false =>
    left
    rw [State.ringPhase, h]
    rfl
  | true =>
    right
    rw [State.ringPhase, h]
    refine ⟨rfl, _, ?_, rfl⟩
    split
    · decide
    · split
      · decide
      · decide

theorem State.opts_ringPhase (s : State) (i : Nat) : (s.ringPhase i).opts = s.opts := by
  obtain h | ⟨-, v, -, h⟩ := s.ringPhase_eq i
  · rw [h]
  · rw [h]
    rfl

theorem State.reg_ringPhase_ne {a : Nat} (ha : a ≠ linkReg (64 + i) lStatus) : (s.ringPhase i).reg a = s.reg a := by
  obtain h | ⟨-, v, -, h⟩ := s.ringPhase_eq i
  · rw [h]
  · rw [h]
    exact State.reg_setRegF_ne _ _ _ _ _ _ ha

theorem State.ringPhase_not_up (h : s.optState i ≠ 7) : (s.ringPhase i).optState i ≠ 7 := by
  obtain he | ⟨-, v, hv, he⟩ := s.ringPhase_eq i
  · rw [he]
    exact h
  · rw [he, State.optState, State.setOptState, State.regF_setRegF _ _ _ _ _ (by decide), show 2 ^ 4 = 16 from rfl]
    omega

theorem State.offerJoin_of_down (h : s.optState i ≠ 7) : s.offerJoin i k = s := if_neg fun g => h g.1

theorem State.offerJoin_of_melium (h : (s.opt i).melium = true) : s.offerJoin i k = s := by
  refine if_neg fun g => ?_
  obtain ⟨-, -, -, -, -, -, g⟩ := g
  simp [h] at g

/-! ### What a ring's event may change -/

/-- The registers that the events of a ring write. -/
def ringRegs (i k : Nat) : List Nat :=
  [wlStat i k, linkReg (64 + i) lStatus, wlReg (64 + i) k 0x20, wlReg (64 + i) k 0x28]

/-- Nothing differs but a port's own state and the registers that the events of one of its rings write. -/
structure RingOnly (s t : State) (i k : Nat) : Prop where
  rest : { t with regs := s.regs, opts := s.opts } = s
  regs : ∀ a, a ∉ ringRegs i k → t.reg a = s.reg a

theorem RingOnly.refl (s : State) (i k : Nat) : RingOnly s s i k := ⟨rfl, fun _ _ => rfl⟩

theorem RingOnly.setReg (h : RingOnly s t i k) {a : Nat} (ha : a ∈ ringRegs i k) (v : Word) : RingOnly s (t.setReg a v) i k :=
  ⟨h.rest, fun b hb => (State.reg_setReg_ne _ _ _ _ (fun e => hb (by rw [e]; exact ha))).trans (h.regs b hb)⟩

theorem RingOnly.setRingSt (h : RingOnly s t i k) (rx : Bool) (v : Nat) : RingOnly s (t.setRingSt i k rx v) i k :=
  h.setReg (by simp [ringRegs]) _

theorem RingOnly.setWave (h : RingOnly s t i k) (w : Wave) : RingOnly s (t.setWave i k w) i k := ⟨h.rest, h.regs⟩

theorem RingOnly.ringPhase (h : RingOnly s t i k) : RingOnly s (t.ringPhase i) i k := by
  obtain he | ⟨-, v, -, he⟩ := t.ringPhase_eq i
  · rw [he]
    exact h
  · rw [he]
    exact h.setReg (by simp [ringRegs]) _

/-! ### A ring that locks, and one that returns -/

theorem State.leaveSet_of_out {rx : Bool} (h : (s.activeSet i rx).getLsbD k = false) : s.leaveSet i k rx = s := by
  rw [State.leaveSet]
  exact if_neg (by simp [h])

theorem State.activeSet_congr (h : t.reg (linkReg (64 + i) lActive) = s.reg (linkReg (64 + i) lActive)) (rx : Bool) :
    t.activeSet i rx = s.activeSet i rx := by
  rw [State.activeSet, State.regF_congr h, State.activeSet]

/-- The state in which a ring has locked. -/
def State.ringLocked (s : State) (i k : Nat) (rx : Bool) : State :=
  (s.setRingSt i k rx 4).setWave i k ((s.wave i k).putRing rx { (s.wave i k).ring rx with errs := 0, since := some s.lesson.toNat })

/-- A ring locks; a join is offered only by a port that is up and not a Melium port. -/
theorem State.ringLock_eq (h : s.optState i ≠ 7 ∨ (s.opt i).melium = true) {rx : Bool} :
    s.ringLock i k rx = (s.ringLocked i k rx).ringPhase i := by
  have state : (s.ringLocked i k rx).optState i = s.optState i :=
    State.regF_congr (State.reg_setRegF_ne _ _ _ _ _ _ (wlStat_ne_link (by decide)).symm) 0 4
  show ((s.ringLocked i k rx).ringPhase i).offerJoin i k = _
  obtain h | h := h
  · exact State.offerJoin_of_down (State.ringPhase_not_up (by rw [state]; exact h))
  · refine State.offerJoin_of_melium ?_
    rw [State.opt_congr (State.opts_ringPhase _ i), State.ringLocked, State.melium_setWave]
    exact h

theorem State.ringLocked_facts (hk : k < 16) (rx : Bool) : ((s.ringLocked i k rx).ringPhase i).ringSt i k rx = 4 ∧
    (((s.ringLocked i k rx).ringPhase i).wave i k).ring rx = { (s.wave i k).ring rx with errs := 0, since := some s.lesson.toNat } ∧
    RingOnly s ((s.ringLocked i k rx).ringPhase i) i k := by
  refine ⟨?_, ?_, (((RingOnly.refl s i k).setRingSt rx 4).setWave _).ringPhase⟩
  · exact (State.ringSt_congr (State.reg_ringPhase_ne (wlStat_ne_link (by decide))) rx).trans (State.ringSt_setRingSt rx (by decide))
  · rw [State.wave_congr (State.opts_ringPhase _ i), State.ringLocked, State.wave_setWave hk, Wave.ring_putRing]

/-- The counter of a ring's returns: wrong identities, or lost locks. -/
def returnReg (i k : Nat) (wrong : Bool) : Nat := wlReg (64 + i) k (if wrong then 0x20 else 0x28)

/-- The state in which a ring has returned to TABLE. -/
def State.ringReturned (s : State) (i k : Nat) (rx wrong : Bool) : State :=
  ((s.count (returnReg i k wrong)).setWave i k { (s.wave i k).putRing rx { (s.wave i k).ring rx with
    wrong := (if s.heldLesson ((s.wave i k).ring rx) then 0 else ((s.wave i k).ring rx).wrong) + wrong.toNat, errs := 0, since := none } with
    join := false, joinAck := none, rxJoin := none }).setRingSt i k rx 1

theorem returnReg_ne_wlStat (wrong : Bool) : returnReg i k wrong ≠ wlStat i k := by
  cases wrong
  · exact wlReg_ne_wlStat (by decide)
  · exact wlReg_ne_wlStat (by decide)

theorem returnReg_ne_link {off : Nat} (wrong : Bool) (h : off < 0x200) : returnReg i k wrong ≠ linkReg (64 + i) off := wlReg_ne_link h

/-- A ring returns whose wavelength is in no active set and that has not been wrong three times. -/
theorem State.ringReturn_eq {rx wrong : Bool} (hout : (s.activeSet i rx).getLsbD k = false)
    (hfew : wrong = true → s.heldLesson ((s.wave i k).ring rx) = true ∨ ((s.wave i k).ring rx).wrong < 2) :
    s.ringReturn i k rx wrong = (s.ringReturned i k rx wrong).ringPhase i := by
  have active : (s.ringReturned i k rx wrong).activeSet i rx = s.activeSet i rx := by
    refine State.activeSet_congr ((State.reg_setRegF_ne _ _ _ _ _ _ (wlStat_ne_link (by decide)).symm).trans ?_) rx
    exact State.reg_setReg_ne _ _ _ _ (returnReg_ne_link wrong (by decide)).symm
  have few : ¬ (wrong = true ∧ 3 ≤ (if s.heldLesson ((s.wave i k).ring rx) then 0 else ((s.wave i k).ring rx).wrong) + wrong.toNat) := by
    rintro ⟨rfl, hn⟩
    obtain h | h := hfew rfl
    · rw [if_pos h] at hn
      exact absurd hn (by decide)
    · split at hn
      · exact absurd hn (by decide)
      · simp only [Bool.toNat_true] at hn
        omega
  show (if _ ∧ _ then _ else ((s.ringReturned i k rx wrong).leaveSet i k rx).ringPhase i) = _
  rw [if_neg few, State.leaveSet_of_out (by rw [active]; exact hout)]

theorem State.ringReturned_facts (hk : k < 16) (rx wrong : Bool) : ((s.ringReturned i k rx wrong).ringPhase i).ringSt i k rx = 1 ∧
    ((s.ringReturned i k rx wrong).ringPhase i).reg (returnReg i k wrong) = s.reg (returnReg i k wrong) + 1 ∧
    (((s.ringReturned i k rx wrong).ringPhase i).wave i k).ring rx = { (s.wave i k).ring rx with
      wrong := (if s.heldLesson ((s.wave i k).ring rx) then 0 else ((s.wave i k).ring rx).wrong) + wrong.toNat, errs := 0, since := none } ∧
    RingOnly s ((s.ringReturned i k rx wrong).ringPhase i) i k := by
  have listed : returnReg i k wrong ∈ ringRegs i k := by
    cases wrong
    · simp [returnReg, ringRegs]
    · simp [returnReg, ringRegs]
  refine ⟨?_, ?_, ?_, ((((RingOnly.refl s i k).setReg listed _).setWave _).setRingSt rx 1).ringPhase⟩
  · exact (State.ringSt_congr (State.reg_ringPhase_ne (wlStat_ne_link (by decide))) rx).trans (State.ringSt_setRingSt rx (by decide))
  · rw [State.reg_ringPhase_ne (returnReg_ne_link wrong (by decide)), State.ringReturned]
    refine (State.reg_setRegF_ne _ _ _ _ _ _ (returnReg_ne_wlStat wrong)).trans ?_
    exact State.reg_count _ _
  · rw [State.wave_congr (State.opts_ringPhase _ i)]
    refine (congrArg (Wave.ring · rx) (State.wave_setWave (s := s.count (returnReg i k wrong)) hk _)).trans ?_
    cases rx
    · rfl
    · rfl

/-! ### Exclusion -/

/-- An event of a module that is no gateway's member: an output, or one that waits. -/
theorem State.raise_own (h : s.behindGateway = false) (v : Nat) : ∃ o x, s.raise v = { s with out := o, host := x } := by
  unfold State.raise
  dsimp only
  rw [if_neg (by simp [h])]
  split
  · exact ⟨_, _, rfl⟩
  · split
    · exact ⟨_, _, rfl⟩
    · exact ⟨_, _, rfl⟩

/-- The state in which a wavelength has been excluded, before the event is raised. -/
def State.waveOff (s : State) (i k reason : Nat) : State :=
  (((((s.setRegF (wlStat i k) 4 2 reason).setRegBit (wlStat i k) 3 true).setRingSt i k false 7).setRingSt i k true 7).spareDark i k).setWave i k
    { s.wave i k with lit := false, failed := false, swapAck := false, join := false, joinAck := none, rxJoin := none, pass := false }

theorem State.reg_spareDark_ne {a : Nat} (h : a ≠ wlStat i k) : (s.spareDark i k).reg a = s.reg a := by
  unfold State.spareDark
  split
  · exact State.reg_setRegF_ne _ _ _ _ _ _ h
  · rfl

/-- A spare that goes dark changes the laser's state alone. -/
theorem State.regF_spareDark {lo len : Nat} (h : lo + len ≤ 13 ∨ 16 ≤ lo) :
    (s.spareDark i k).regF (wlStat i k) lo len = s.regF (wlStat i k) lo len := by
  unfold State.spareDark
  split
  · obtain h | h := h
    · exact State.regF_setRegF_below _ _ _ _ _ _ _ (by decide) h
    · exact State.regF_setRegF_above _ _ _ _ _ _ _ (by decide) h
  · rfl

theorem State.reg_waveOff_ne {a reason : Nat} (h : a ≠ wlStat i k) : (s.waveOff i k reason).reg a = s.reg a := by
  refine (State.reg_spareDark_ne h).trans ?_
  unfold State.setRingSt
  rw [State.reg_setRegF_ne _ _ _ _ _ _ h, State.reg_setRegF_ne _ _ _ _ _ _ h, State.reg_setRegBit_ne _ _ _ _ _ h,
    State.reg_setRegF_ne _ _ _ _ _ _ h]

theorem State.opts_spareDark (s : State) (i k : Nat) : (s.spareDark i k).opts = s.opts := by
  unfold State.spareDark
  split
  · rfl
  · rfl

theorem State.host_spareDark (s : State) (i k : Nat) : (s.spareDark i k).host = s.host := by
  unfold State.spareDark
  split
  · rfl
  · rfl

/-- What WL_STATUS and the wavelength hold after an exclusion. -/
theorem State.waveOff_facts (hk : k < 16) {reason : Nat} (hr : reason < 4) : (s.waveOff i k reason).excluded i k = true ∧
    (s.waveOff i k reason).regF (wlStat i k) 4 2 = reason ∧ (s.waveOff i k reason).ringSt i k false = 7 ∧
    (s.waveOff i k reason).ringSt i k true = 7 ∧ ((s.waveOff i k reason).wave i k).lit = false := by
  let off := (((s.setRegF (wlStat i k) 4 2 reason).setRegBit (wlStat i k) 3 true).setRingSt i k false 7).setRingSt i k true 7
  have field {lo len : Nat} (h : lo + len ≤ 13 ∨ 16 ≤ lo) : (s.waveOff i k reason).regF (wlStat i k) lo len = off.regF (wlStat i k) lo len :=
    State.regF_spareDark h
  have below {lo len : Nat} (h : lo + len ≤ 16) : off.regF (wlStat i k) lo len =
      ((s.setRegF (wlStat i k) 4 2 reason).setRegBit (wlStat i k) 3 true).regF (wlStat i k) lo len :=
    (State.regF_setRegF_below _ _ _ _ _ _ _ (by decide) h).trans (State.regF_setRegF_below _ _ _ _ _ _ _ (by decide) (le_trans h (by decide)))
  refine ⟨?_, ?_, ?_, ?_, ?_⟩
  · have bit : (s.waveOff i k reason).regF (wlStat i k) 3 1 = true.toNat % 2 ^ 1 :=
      ((field (.inl (by decide))).trans (below (by decide))).trans (State.regF_setRegF _ _ _ _ _ (by decide))
    rw [State.excluded, State.regBit, bit]
    rfl
  · refine ((field (.inl (by decide))).trans (below (by decide))).trans ?_
    refine (State.regF_setRegF_above _ _ _ _ _ _ _ (by decide) (by decide)).trans ((State.regF_setRegF _ _ _ _ _ (by decide)).trans ?_)
    exact Nat.mod_eq_of_lt hr
  · refine (field (.inr (by decide))).trans ((State.regF_setRegF_above _ _ _ _ _ _ _ (by decide) (by decide)).trans ?_)
    exact State.regF_setRegF _ _ _ _ _ (by decide)
  · exact (field (.inr (by decide))).trans (State.regF_setRegF _ _ _ _ _ (by decide))
  · rw [State.waveOff, State.wave_setWave hk]

/-- A wavelength that is in no active set is excluded by a module that is no gateway's member. -/
theorem State.exclude_facts (hk : k < 16) {reason : Nat} (hr : reason < 4) (hgw : s.behindGateway = false)
    (hout : ∀ rx, (s.activeSet i rx).getLsbD k = false) : (s.exclude i k reason).excluded i k = true ∧
    (s.exclude i k reason).regF (wlStat i k) 4 2 = reason ∧ (s.exclude i k reason).ringSt i k false = 7 ∧
    (s.exclude i k reason).ringSt i k true = 7 ∧ ((s.exclude i k reason).wave i k).lit = false := by
  have host : (s.waveOff i k reason).host = s.host := State.host_spareDark _ i k
  have gw : (s.waveOff i k reason).behindGateway = false := by
    rw [← hgw, State.behindGateway, State.node, State.regF_congr (State.reg_waveOff_ne (a := rGwNode) ?_) 0 12,
      State.regF_congr (State.reg_waveOff_ne (a := rGlbNode) ?_) 0 12, host]
    · rfl
    · unfold wlStat wlReg rPortBlock rGlbNode
      omega
    · unfold wlStat wlReg rPortBlock rGwNode
      omega
  obtain ⟨o, x, raised⟩ := State.raise_own gw 10
  have regs : ((s.waveOff i k reason).raise 10).regs = (s.waveOff i k reason).regs := by rw [raised]
  have opts' : ((s.waveOff i k reason).raise 10).opts = (s.waveOff i k reason).opts := by rw [raised]
  have active (rx : Bool) : ((s.waveOff i k reason).raise 10).activeSet i rx = s.activeSet i rx :=
    State.activeSet_congr ((congrArg (tget regReset · _) regs).trans (State.reg_waveOff_ne (wlStat_ne_link (by decide)).symm)) rx
  have eq : s.exclude i k reason = ((s.waveOff i k reason).raise 10).ringPhase i := by
    show ((((s.waveOff i k reason).raise 10).leaveSet i k false).leaveSet i k true).ringPhase i = _
    have stays (rx : Bool) : ((s.waveOff i k reason).raise 10).leaveSet i k rx = (s.waveOff i k reason).raise 10 :=
      State.leaveSet_of_out (by rw [active]; exact hout rx)
    rw [stays, stays]
  have stat : (s.exclude i k reason).reg (wlStat i k) = (s.waveOff i k reason).reg (wlStat i k) := by
    rw [eq]
    exact (State.reg_ringPhase_ne (wlStat_ne_link (by decide))).trans (congrArg (tget regReset · _) regs)
  have opts : (s.exclude i k reason).opts = (s.waveOff i k reason).opts := by
    rw [eq]
    exact (State.opts_ringPhase _ i).trans opts'
  obtain ⟨hex, hreason, htx, hrx, hlit⟩ := s.waveOff_facts (i := i) hk hr
  exact ⟨(State.regBit_congr stat 3).trans hex, (State.regF_congr stat 4 2).trans hreason, (State.ringSt_congr stat false).trans htx,
    (State.ringSt_congr stat true).trans hrx, (congrArg Wave.lit (State.wave_congr opts i k)).trans hlit⟩

end

/-- Settles O37: each event of a ring locks it, returns it, moves it on, or excludes its wavelength. -/
theorem rings : Obligations.Rings := by
  have only {s t : State} {p : OptPort} {k : Fin 16} (h : RingOnly s t p.val k.val) : { t with regs := s.regs, opts := s.opts } = s ∧
      ∀ a, a ∉ [wlStat p.val k.val, linkReg (64 + p.val) lStatus, wlReg (64 + p.val) k.val 0x20, wlReg (64 + p.val) k.val 0x28] →
        t.reg a = s.reg a := ⟨h.rest, h.regs⟩
  have moved (p : OptPort) (k : Fin 16) (rx : Bool) (s : State) {v : Nat} (hv : v < 16) :
      ((s.setRingSt p.val k.val rx v).ringPhase p.val).ringSt p.val k.val rx = v :=
    (State.ringSt_congr (State.reg_ringPhase_ne (wlStat_ne_link (by decide))) rx).trans (State.ringSt_setRingSt rx hv)
  have returns (p : OptPort) (k : Fin 16) (rx wrong : Bool) (s : State) (hout : (s.activeSet p.val rx).getLsbD k.val = false)
      (hfew : wrong = true → s.heldLesson ((s.wave p.val k.val).ring rx) = true ∨ ((s.wave p.val k.val).ring rx).wrong < 2) :=
    And.intro (State.ringReturn_eq hout hfew) (State.ringReturned_facts (s := s) (i := p.val) k.isLt rx wrong)
  refine ⟨fun p k rx s h => ?_, fun p k rx s h => ?_, fun p k rx s h hm => ?_, fun p k rx s h hm => ?_, fun p k rx s h hout => ?_,
    fun p k rx s h hup => ?_, fun p k rx tone s h ht hfew => ?_, fun p k rx s h => ?_, fun p k rx s h hlt => ?_,
    fun p k rx s h hle hout => ?_, fun p k rx s => ?_, fun p k rx tone s h ht hm hfew => ?_, fun p k rx d s h h8 => ?_,
    fun p k rx s h h8 hgw htx hrx => ?_⟩
  · refine ⟨_, congrArg Host.Outcome.next (if_pos h), moved p k rx s (by decide), only ?_⟩
    exact ((RingOnly.refl s _ _).setRingSt rx 2).ringPhase
  · exact congrArg Host.Outcome.next (if_neg h)
  · refine ⟨_, congrArg Host.Outcome.next ((if_neg (fun g => g h)).trans (if_neg (by simp [hm]))), moved p k rx s (by decide), only ?_⟩
    exact ((RingOnly.refl s _ _).setRingSt rx 3).ringPhase
  · obtain ⟨hst, hring, honly⟩ := State.ringLocked_facts (s := s) (i := p.val) k.isLt rx
    refine ⟨_, congrArg Host.Outcome.next ((if_neg (fun g => g h)).trans ((if_pos hm).trans (State.ringLock_eq (.inr hm)))), hst, ?_, only honly⟩
    exact congrArg Ring.since hring
  · obtain ⟨hrun, hst, hreg, hring, honly⟩ := returns p k rx false s hout nofun
    exact ⟨_, congrArg Host.Outcome.next ((if_pos h).trans hrun), hst, hreg, congrArg Ring.since hring, congrArg Ring.errs hring, only honly⟩
  · obtain ⟨hst, hring, honly⟩ := State.ringLocked_facts (s := s) (i := p.val) k.isLt rx
    exact ⟨_, congrArg Host.Outcome.next ((if_neg (fun g => g h)).trans ((if_pos rfl).trans (State.ringLock_eq (.inl hup)))), hst,
      congrArg Ring.since hring, congrArg Ring.errs hring, only honly⟩
  · obtain ⟨hout, hfew⟩ := hfew
    obtain ⟨hrun, hst, hreg, hring, honly⟩ := returns p k rx true s hout fun _ => hfew
    exact ⟨_, congrArg Host.Outcome.next ((if_neg (fun g => g h)).trans ((if_neg ht).trans hrun)),
      ⟨hst, hreg, congrArg Ring.since hring, congrArg Ring.errs hring, only honly⟩, congrArg Ring.wrong hring⟩
  · refine ⟨_, congrArg Host.Outcome.next (if_neg (fun g => g h)), ?_, rfl⟩
    exact congrArg Ring.errs ((congrArg (Wave.ring · rx) (State.wave_setWave k.isLt _)).trans (Wave.ring_putRing _ rx _))
  · refine ⟨_, congrArg Host.Outcome.next ((if_neg (fun g => g h)).trans (if_neg (by simpa using hlt))), ?_, rfl⟩
    exact congrArg Ring.errs ((congrArg (Wave.ring · rx) (State.wave_setWave k.isLt _)).trans (Wave.ring_putRing _ rx _))
  · obtain ⟨hrun, hst, hreg, hring, honly⟩ := returns p k rx false s hout nofun
    exact ⟨_, congrArg Host.Outcome.next ((if_neg (fun g => g h)).trans ((if_pos (by simpa using hle)).trans hrun)), hst, hreg,
      congrArg Ring.since hring, congrArg Ring.errs hring, only honly⟩
  · exact congrArg Host.Outcome.next (if_pos (.inr (.inr rfl)))
  · obtain ⟨hout, hfew⟩ := hfew
    obtain ⟨hrun, hst, hreg, hring, honly⟩ := returns p k rx true s hout fun _ => hfew
    exact ⟨_, congrArg Host.Outcome.next ((if_neg (by simp [h, hm, ht])).trans hrun), hst, hreg, congrArg Ring.since hring,
      congrArg Ring.errs hring, only honly⟩
  · refine ⟨_, congrArg Host.Outcome.next (if_neg (by simp [h, h8])), ?_, ?_, only ?_⟩
    · exact (State.ringSt_congr (State.reg_ringPhase_ne (wlStat_ne_link (by decide))) rx).trans (State.ringSt_setRingSt (s := s) rx (by decide))
    · show Ring.off (Wave.ring (State.wave (State.ringPhase _ _) _ _) rx) = d
      rw [State.wave_congr (State.opts_ringPhase _ _)]
      refine congrArg Ring.off (a₂ := { (s.wave p.val k.val).ring rx with off := d }) ?_
      exact (congrArg (Wave.ring · rx) (State.wave_setWave k.isLt _)).trans (Wave.ring_putRing _ rx _)
    · exact (((RingOnly.refl s _ _).setRingSt rx 3).setWave _).ringPhase
  · exact ⟨_, congrArg Host.Outcome.next (if_neg (by simp [h, h8])), State.exclude_facts k.isLt (by decide) hgw
      fun rx => by cases rx <;> assumption⟩

end Sys2Proof.Machine
end

section
/-! SUPPORT. Registers of an electrical port, and its sleep. -/

namespace Sys2Proof.Machine

section
variable {s t : State} {p : Nat}

/-! ### ELEC_CTL and ELEC_STATUS -/

theorem linkReg_ne {off off' : Nat} (n : Nat) (h : off ≠ off') : linkReg n off ≠ linkReg n off' := by
  unfold linkReg
  omega

theorem State.elecState_setElecState {v : Nat} (hv : v < 16) : (s.setElecState p v).elecState p = v := by
  rw [State.elecState, State.setElecState, State.regF_setRegF _ _ _ _ _ (by decide), show 2 ^ 4 = 16 from rfl, Nat.mod_eq_of_lt hv]

theorem State.elecState_setElecFlag {i : Nat} (b : Bool) (h4 : 4 ≤ i) (h64 : i < 64) : (s.setElecFlag p i b).elecState p = s.elecState p :=
  State.regF_setRegF_below _ _ _ _ _ _ _ h64 h4

theorem State.elecState_setElecBit (i : Nat) (b : Bool) : (s.setElecBit p i b).elecState p = s.elecState p :=
  State.regF_setRegF_ne _ _ _ _ _ _ _ _ (linkReg_ne p (by decide))

theorem State.elecFlag_setElecFlag {i : Nat} (b : Bool) (h : i < 64) : (s.setElecFlag p i b).elecFlag p i = b := State.regBit_setRegBit _ _ _ _ h

theorem State.elecFlag_setElecFlag_other {i j : Nat} (b : Bool) (h : i < 64) (hj : j ≠ i) :
    (s.setElecFlag p i b).elecFlag p j = s.elecFlag p j := State.regBit_setRegBit_other _ _ _ _ _ h hj

theorem State.elecFlag_setElecState {i : Nat} (v : Nat) (h : 4 ≤ i) : (s.setElecState p v).elecFlag p i = s.elecFlag p i :=
  congrArg (fun n : Nat => decide (n = 1)) (State.regF_setRegF_above _ _ _ _ _ _ _ (by decide) h)

theorem State.elecBit_setElecState (v i : Nat) : (s.setElecState p v).elecBit p i = s.elecBit p i :=
  State.regBit_congr (State.reg_setRegF_ne _ _ _ _ _ _ (linkReg_ne p (by decide))) i

theorem State.elecBit_setElecFlag (j : Nat) (b : Bool) (i : Nat) : (s.setElecFlag p j b).elecBit p i = s.elecBit p i :=
  State.regBit_congr (State.reg_setRegBit_ne _ _ _ _ _ (linkReg_ne p (by decide))) i

theorem State.elecBit_setElecBit_other {i j : Nat} (b : Bool) (h : i < 64) (hj : j ≠ i) :
    (s.setElecBit p i b).elecBit p j = s.elecBit p j := State.regBit_setRegBit_other _ _ _ _ _ h hj

theorem State.elec_setElec (x : Elec) (q : Nat) : (s.setElec p x).elec q = if p = q then x else s.elec q := by
  simp [State.elec, State.setElec, tget_tput]

theorem State.elec_congr (h : t.elecs = s.elecs) (p : Nat) : t.elec p = s.elec p := congrArg (tget elecDefault · p) h

theorem State.elec_setElec_self (x : Elec) : (s.setElec p x).elec p = x := by rw [State.elec_setElec, if_pos rfl]

/-! ### Sleep -/

theorem State.sleepIdle_stays (h : s.maySleep p = false) : s.sleepIdle p = s.draw.2 := if_neg (by rw [h]; decide)

theorem State.depSleep_sleeps (hup : s.epBit p eStatus 11 = true) (hen : s.epBit p eElecCtl 6 = true) (hst : s.epBit p eElecStatus 12 = false) :
    s.depSleep p = (s.setEpBit p eElecStatus 12 true).emit (.depWord p (.sleep true)) := if_pos ⟨hup, hen, by rw [hst]; rfl⟩

theorem State.elecWake_begins (hfl : s.elecFlag p 12 = true) (hw : (s.elec p).waking = false) :
    s.elecWake p = (s.setElec p { s.elec p with waking := true }).emit (.word p (.sleep false)) := if_pos ⟨hfl, by rw [hw]; rfl⟩

theorem State.elecWake_awake (hfl : s.elecFlag p 12 = false) : s.elecWake p = s := if_neg fun g => by simp [hfl] at g

theorem State.wakeDone_ends (h : (s.elec p).waking = true) : s.wakeDone p =
    { (s.setElec p { s.elec p with waking := false }).setElecFlag p 12 false with
      fab := { s.fab with hold := tput (fun _ => false) s.fab.hold p (s.elec p).auditing } } := by
  have kept : ((s.setElec p { s.elec p with waking := false }).setElecFlag p 12 false).elec p = { s.elec p with waking := false } :=
    State.elec_setElec_self _
  rw [State.wakeDone, if_pos h]
  dsimp only
  rw [kept]
  rfl

theorem State.wakeDone_idle (h : (s.elec p).waking = false) : s.wakeDone p = s := if_neg (by rw [h]; decide)

/-- The state in which a transmit direction has gone to sleep. -/
theorem State.sleepIdle_sleeps (h : s.maySleep p = true) : s.sleepIdle p =
    { (s.draw.2.setElecFlag p 12 true).emit (.word p (.sleep true)) with fab := { s.fab with hold := tput (fun _ => false) s.fab.hold p true } } :=
  if_pos h

/-- Out of deep sleep: TEST holds the port, ENABLE wakes it. -/
theorem State.deepExit_eq (h : s.elecBit p ecDeep = true) : s.deepExit p = (s.setElecBit p ecDeep false).setElecState p
    (if s.elecBit p ecTest then 7 else if s.elecBit p ecEnable then 9 else 0) := by
  have bit {j : Nat} (hj : j ≠ ecDeep) : (s.setElecBit p ecDeep false).elecBit p j = s.elecBit p j :=
    State.elecBit_setElecBit_other false (by decide) hj
  rw [State.deepExit, h]
  rw [if_neg (by decide)]
  dsimp only
  rw [bit (by decide), bit (by decide)]
  cases s.elecBit p ecTest with
  | true => simp
  | false =>
    cases s.elecBit p ecEnable with
    | true => simp
    | false => simp

end

/-- Settles O42: each row of sleep, deep sleep and RESERVE writes the bits of its port. -/
theorem sleep : Obligations.Sleep := by
  refine ⟨fun p s h => ?_, fun p s h => ?_, fun p s h => ?_, fun p s hup hen hst => ?_, fun p c s hc hfl hw => ?_, fun p c s h => ?_,
    fun p s h => ?_, fun p s h => ?_, fun p b s => ⟨?_, ?_⟩, fun p s hrec hd hr htree huse hpage => ?_, fun p s hrec hd h => ?_,
    fun p s hrec h => ?_, fun p s hrec h => ?_, fun p on s hrec h => ?_, fun p s hrec h => ?_⟩
  · refine ⟨_, congrArg Host.Outcome.next (State.sleepIdle_sleeps h), State.elecFlag_setElecFlag true (by decide), rfl, ?_⟩
    exact (tget_tput ..).trans (if_pos rfl)
  · exact congrArg Host.Outcome.next (State.sleepIdle_stays h)
  · obtain h | h | h := h
    · simp [State.maySleep, h]
    · simp [State.maySleep, h]
    · simp [State.maySleep, h]
  · refine ⟨_, congrArg Host.Outcome.next (State.depSleep_sleeps hup hen hst), ?_, rfl, rfl⟩
    exact State.epBit_setEpBit eElecStatus 12 true (by decide)
  · refine ⟨_, congrArg Host.Outcome.next ((if_pos hc).trans (State.elecWake_begins hfl hw)), ?_, rfl, rfl⟩
    exact State.elec_setElec_self _
  · refine congrArg Host.Outcome.next ?_
    obtain h | h := h
    · exact if_neg (by simp [h])
    · split
      · exact State.elecWake_awake h
      · rfl
  · refine ⟨_, congrArg Host.Outcome.next (State.wakeDone_ends h), ?_, State.elecFlag_setElecFlag (s := s.setElec p.val _) false (by decide), ?_,
      rfl, rfl⟩
    · exact (congrArg Elec.waking (State.elec_setElec_self (s := s) (p := p.val) { s.elec p.val with waking := false }) :)
    · exact (tget_tput ..).trans (if_pos rfl)
  · exact congrArg Host.Outcome.next (State.wakeDone_idle h)
  · exact ⟨_, rfl, State.epBit_setEpBit eElecStatus 13 b (by decide), rfl⟩
  · exact ⟨_, rfl, State.elecFlag_setElecFlag (s := s) b (by decide), State.epBit_setEpBit eElecStatus 12 b (by decide), rfl⟩
  · have run : s.deepEnter p.val = ((s.draw.2.elecDown p.val).setElecBit p.val ecDeep true).setElecState p.val 8 := by
      rw [State.deepEnter, if_neg (by simp [hd]), if_neg (by simp [hr, htree, huse, hpage])]
    refine ⟨_, congrArg Host.Outcome.next ((s.bar0_eq_of_not_recovery _ hrec).trans run), ?_, State.elecState_setElecState (by decide)⟩
    exact (State.elecBit_setElecState _ _).trans (State.elecBit_setElecBit _ _ _ _ (by decide))
  · have run : s.deepEnter p.val = (s.elecErr p.val).draw.2 := by
      rw [State.deepEnter, if_neg (by simp [hd]), if_pos]
      obtain h | h | h := h
      · simp [h]
      · simp [h]
      · simp [h]
    obtain ⟨hrest, hregs⟩ := s.onlyRegs_elecErr p.val
    refine ⟨_, congrArg Host.Outcome.next ((s.bar0_eq_of_not_recovery _ hrec).trans run), s.elecFlag_elecErr p.val,
      (s.elecBit_elecErr p.val p.val ecDeep).trans hd, s.elecState_elecErr p.val, hrest, hregs⟩
  · refine ⟨_, congrArg Host.Outcome.next ((s.bar0_eq_of_not_recovery _ hrec).trans (State.deepExit_eq h)), ?_, ?_, ?_⟩
    · exact (State.elecBit_setElecState _ _).trans (State.elecBit_setElecBit _ _ _ _ (by decide))
    · refine State.elecState_setElecState ?_
      split
      · decide
      · split
        · decide
        · decide
    · exact OnlyRegs.trans (s.onlyRegs_setReg _ _ _ (by simp)) (State.onlyRegs_setReg _ _ _ _ (by simp))
  · exact congrArg Host.Outcome.next ((s.bar0_eq_of_not_recovery _ hrec).trans (if_pos (by simp [h])))
  · have run : s.reserveWrite p.val on = s.setElecBit p.val ecReserve on := by
      refine if_neg fun g => ?_
      obtain ⟨hon, hmany⟩ := g
      obtain h | h := h
      · rw [h] at hon
        exact Bool.false_ne_true hon
      · exact absurd h (Nat.not_lt.mpr hmany)
    exact ⟨_, congrArg Host.Outcome.next ((s.bar0_eq_of_not_recovery _ hrec).trans run), State.elecBit_setElecBit _ _ _ _ (by decide),
      s.onlyRegs_setRegBit _ _ _⟩
  · have run : s.reserveWrite p.val true = s.elecErr p.val := if_pos ⟨rfl, h⟩
    exact ⟨_, congrArg Host.Outcome.next ((s.bar0_eq_of_not_recovery _ hrec).trans run), s.elecFlag_elecErr p.val,
      s.elecBit_elecErr p.val p.val ecReserve, s.onlyRegs_elecErr p.val⟩

end Sys2Proof.Machine
end

section
/-! SUPPORT. TEST, loops, pattern checkers and audits of an electrical port. -/

namespace Sys2Proof.Machine

section
variable {s t : State} {p : Nat}

/-! ### A port that is not up goes down -/

theorem ready_ne_link {i n off : Nat} (hi : i < 0x10000) : rGlbReady + 8 * (i / 64) ≠ linkReg n off := by
  unfold rGlbReady linkReg rPortBlock
  omega

theorem State.ready_congr {i : Nat} (h : t.reg (rGlbReady + 8 * (i / 64)) = s.reg (rGlbReady + 8 * (i / 64))) : t.ready i = s.ready i :=
  State.regBit_congr h _

theorem State.portLost_of_down {n : Nat} (h : s.ready (readyPort n) = false) : s.portLost n = s := if_pos (by rw [h]; rfl)

/-- An electrical port that is not up is taken down: nothing but its own state and its ELEC_STATUS differs. -/
theorem State.elecDown_of_down (h : s.ready (readyPort p) = false) : s.elecDown p =
    (((s.setElecFlag p 12 false).setElecFlag p 13 false).setElecState p 0).setElec p
      { s.elec p with wait := false, checked := false, measured := false, low := Vector.replicate 4 0, auditing := false, waking := false } := by
  rw [State.elecDown, State.portLost_of_down h]
  rfl

/-! ### LOOP -/

/-- LOOP may put a far-end request on the link, and changes no register. -/
theorem State.regs_applyLoop (s : State) (p : Nat) : (s.applyLoop p).regs = s.regs := by
  unfold State.applyLoop
  dsimp only
  split
  · rfl
  · split
    · split
      · rfl
      · rfl
    · split
      · rfl
      · rfl

theorem State.mem_out_applyLoop {o : Out} (h : o ∈ s.out) : o ∈ (s.applyLoop p).out := by
  unfold State.applyLoop
  dsimp only
  split
  · exact h
  · split
    · split
      · exact h
      · exact List.mem_cons_of_mem _ h
    · split
      · exact List.mem_cons_of_mem _ h
      · exact h

theorem State.applyLoop_off (h : s.elecBit p ecTest = false) : s.applyLoop p = s := if_pos (by rw [h]; rfl)

theorem State.applyLoop_near (htest : s.elecBit p ecTest = true) (hv : s.elecCtl p 10 2 ≠ 3) (hloop : (s.elec p).loop ≠ 3)
    (hask : (s.elec p).loopAsk = false) : s.applyLoop p = s.setElec p { s.elec p with loop := s.elecCtl p 10 2, loopAsk := false } := by
  rw [State.applyLoop, if_neg (by rw [htest]; decide)]
  dsimp only
  rw [if_neg hv, if_neg (by simp [hloop, hask])]

theorem State.applyLoop_far (htest : s.elecBit p ecTest = true) (hv : s.elecCtl p 10 2 = 3) (hloop : (s.elec p).loop ≠ 3)
    (hask : (s.elec p).loopAsk = false) :
    s.applyLoop p = (s.setElec p { s.elec p with loop := 0, loopAsk := true }).emit (.word p (.loop 3)) := by
  rw [State.applyLoop, if_neg (by rw [htest]; decide)]
  dsimp only
  rw [if_pos hv, if_neg (by simp [hloop, hask])]

/-- LOOP as written, before it takes effect. -/
theorem State.elecCtl_setRegF_loop {v : Nat} (hv : v < 4) : (s.setRegF (linkReg p lCtl) 10 2 v).elecCtl p 10 2 = v := by
  rw [State.elecCtl, State.regF_setRegF _ _ _ _ _ (by decide), show 2 ^ 2 = 4 from rfl, Nat.mod_eq_of_lt hv]

theorem State.elecBit_setRegF_loop (v : Nat) {i : Nat} (h : i < 10) : (s.setRegF (linkReg p lCtl) 10 2 v).elecBit p i = s.elecBit p i :=
  congrArg (fun n : Nat => decide (n = 1)) (State.regF_setRegF_below _ _ _ _ _ _ _ (by decide) h)

/-! ### Pattern checkers -/

theorem laneReg_ne_link {l off off' : Nat} (h : off' < 0x200) : laneReg p l off ≠ linkReg p off' := wlReg_ne_link h

theorem State.countBits_unlocked {l : Nat} (h : (s.elec p).check l = none) : s.countBits p l = s := by
  rw [State.countBits, h]

theorem State.countBits_locked {l since : Nat} (h : (s.elec p).check l = some since) : s.countBits p l =
    State.setElec ((s.addReg (laneReg p l 0x10) (checkedBits since s.now)).addReg (laneReg p l 0x18)
      (Config.bitErrors s.freeCtr (checkedBits since s.now))).draw.2 p
      { s.elec p with checks := vecPut (s.elec p).checks l (some s.now) } := by
  rw [State.countBits, h]
  rfl

/-- Counting changes the two counters of its lane, and no other register. -/
theorem State.reg_countBits_ne {l a : Nat} (h1 : a ≠ laneReg p l 0x10) (h2 : a ≠ laneReg p l 0x18) : (s.countBits p l).reg a = s.reg a := by
  cases hc : (s.elec p).check l with
  | none => rw [State.countBits_unlocked hc]
  | some since =>
    rw [State.countBits_locked hc]
    exact (State.reg_setReg_ne _ _ _ _ h2).trans (State.reg_setReg_ne _ _ _ _ h1)

theorem State.countBits_rest (s : State) (p l : Nat) :
    { s.countBits p l with regs := s.regs, elecs := s.elecs, freeCtr := s.freeCtr } = s := by
  cases hc : (s.elec p).check l with
  | none => rw [State.countBits_unlocked hc]
  | some since =>
    rw [State.countBits_locked hc]
    rfl

theorem vecPut_get {α : Type} {n : Nat} (v : Vector α n) (k : Fin n) (x : α) : (vecPut v k.val x)[k] = x := by
  simp [vecPut]

theorem Elec.check_eq (x : Elec) (l : Fin 4) : x.check l.val = x.checks[l] := by
  simp [Elec.check, List.getD_eq_getElem?_getD]

theorem laneReg_ne (l : Nat) {off off' : Nat} (h : off ≠ off') : laneReg p l off ≠ laneReg p l off' := by
  unfold laneReg wlReg
  omega

theorem laneReg_ne_lane {l l' : Nat} (h : l ≠ l') {off off' : Nat} (ho : off < 0x40) (ho' : off' < 0x40) :
    laneReg p l off ≠ laneReg p l' off' := by
  unfold laneReg wlReg
  omega

theorem State.reg_unlock_ne {l a : Nat} (h0 : a ≠ laneReg p l 8) (h1 : a ≠ laneReg p l 0x10) (h2 : a ≠ laneReg p l 0x18) :
    (s.unlock p l).reg a = s.reg a :=
  (State.reg_setRegBit_ne (s.countBits p l) _ _ _ _ h0).trans (State.reg_countBits_ne h1 h2)

/-- A checker that stops has its counters brought up to date. -/
theorem State.bits_countBits (l : Fin 4) :
    (∀ since, (s.elec p).checks[l] = some since →
      (s.countBits p l.val).reg (laneReg p l.val 0x10) = s.reg (laneReg p l.val 0x10) + BitVec.ofNat 64 (checkedBits since s.now)) ∧
    ((s.elec p).checks[l] = none → (s.countBits p l.val).reg (laneReg p l.val 0x10) = s.reg (laneReg p l.val 0x10)) := by
  refine ⟨fun since h => ?_, fun h => ?_⟩
  · rw [State.countBits_locked (((s.elec p).check_eq l).trans h)]
    exact (State.reg_setReg_ne _ _ _ _ (laneReg_ne _ (by decide))).trans ((State.reg_setReg ..).trans (if_pos rfl))
  · rw [State.countBits_unlocked (((s.elec p).check_eq l).trans h)]

theorem State.reg_unlock_bits (l : Nat) : (s.unlock p l).reg (laneReg p l 0x10) = (s.countBits p l).reg (laneReg p l 0x10) :=
  State.reg_setRegBit_ne (s.countBits p l) _ _ _ _ (laneReg_ne _ (by decide))

theorem State.lock_unlock (l : Nat) : (s.unlock p l).regBit (laneReg p l 8) 11 = false :=
  State.regBit_setRegBit (s.countBits p l) _ _ _ (by decide)

/-- A lane whose pattern tools are turned off. -/
def State.laneOff (s : State) (p l : Nat) : State :=
  ((s.unlock p l).setRegBit (laneReg p l 8) 15 false).setRegBit (laneReg p l 8) 7 false

/-- A lane's generator and checker are off. -/
def State.laneIdle (p l : Nat) (t : State) : Prop :=
  t.regBit (laneReg p l 8) 15 = false ∧ t.regBit (laneReg p l 8) 7 = false ∧ t.regBit (laneReg p l 8) 11 = false

theorem State.laneIdle.of_reg {l : Nat} (h : s.laneIdle p l) (hr : t.reg (laneReg p l 8) = s.reg (laneReg p l 8)) : t.laneIdle p l := by
  obtain ⟨hchk, hgen, hlock⟩ := h
  exact ⟨(State.regBit_congr hr 15).trans hchk, (State.regBit_congr hr 7).trans hgen, (State.regBit_congr hr 11).trans hlock⟩

theorem State.laneIdle_laneOff (s : State) (p l : Nat) : (s.laneOff p l).laneIdle p l := by
  refine ⟨?_, State.regBit_setRegBit _ _ _ _ (by decide), ?_⟩
  · exact (State.regBit_setRegBit_other _ _ _ _ _ (by decide) (by decide)).trans (State.regBit_setRegBit _ _ _ _ (by decide))
  · exact (State.regBit_setRegBit_other _ _ _ _ _ (by decide) (by decide)).trans
      ((State.regBit_setRegBit_other _ _ _ _ _ (by decide) (by decide)).trans (State.lock_unlock l))

theorem State.reg_laneOff_ne {l a : Nat} (h0 : a ≠ laneReg p l 8) (h1 : a ≠ laneReg p l 0x10) (h2 : a ≠ laneReg p l 0x18) :
    (s.laneOff p l).reg a = s.reg a :=
  (State.reg_setRegBit_ne _ _ _ _ _ h0).trans ((State.reg_setRegBit_ne _ _ _ _ _ h0).trans (State.reg_unlock_ne h0 h1 h2))

theorem State.laneIdle.laneOff {l : Nat} (h : s.laneIdle p l) (l' : Nat) : (s.laneOff p l').laneIdle p l := by
  by_cases hl : l = l'
  · rw [hl]
    exact s.laneIdle_laneOff p l'
  · exact h.of_reg (State.reg_laneOff_ne (laneReg_ne_lane hl (by decide) (by decide)) (laneReg_ne_lane hl (by decide) (by decide))
      (laneReg_ne_lane hl (by decide) (by decide)))

/-- Every lane of a list is off once all of them have been turned off. -/
theorem State.laneIdle_forAll {l : Nat} (ls : List Nat) (h : l ∈ ls) : (s.forAll ls (fun s l => s.laneOff p l)).laneIdle p l := by
  induction ls generalizing s with
  | nil => exact absurd h List.not_mem_nil
  | cons x r ih =>
    rw [State.forAll_cons]
    obtain rfl | hr := List.mem_cons.mp h
    · exact State.forAll_induct (s.laneIdle_laneOff p l) fun _ x ht => ht.laneOff x
    · exact ih hr

theorem State.reg_forAll_laneOff {off : Nat} (hoff : off < 0x200) (ls : List Nat) :
    (s.forAll ls (fun s l => s.laneOff p l)).reg (linkReg p off) = s.reg (linkReg p off) :=
  State.forAll_induct (P := fun t => t.reg (linkReg p off) = s.reg (linkReg p off)) rfl fun _ _ ht =>
    (State.reg_laneOff_ne (laneReg_ne_link hoff).symm (laneReg_ne_link hoff).symm (laneReg_ne_link hoff).symm).trans ht

/-! ### Writes of TEST -/

theorem State.elecBit_elecDown (h : s.ready (readyPort p) = false) (i : Nat) : (s.elecDown p).elecBit p i = s.elecBit p i := by
  rw [State.elecDown_of_down h]
  refine (State.elecBit_setElecState (s := (s.setElecFlag p 12 false).setElecFlag p 13 false) 0 i).trans ?_
  rw [State.elecBit_setElecFlag, State.elecBit_setElecFlag]

theorem State.testWrite_on (htest : s.elecBit p ecTest = false) (hdeep : s.elecBit p ecDeep = false) (hp : p < 64)
    (hready : s.ready (readyPort p) = false) : s.testWrite p true =
      ((((s.setElecBit p ecTest true).elecDown p).setElecState p 7).emit (.word p (.test true))).applyLoop p := by
  have down : (s.setElecBit p ecTest true).ready (readyPort p) = false :=
    (State.ready_congr (State.reg_setRegBit_ne _ _ _ _ _ (ready_ne_link (by unfold readyPort; omega)))).trans hready
  have deep : ((s.setElecBit p ecTest true).elecDown p).elecBit p ecDeep = false := by
    rw [State.elecBit_elecDown down, State.elecBit_setElecBit_other true (by decide) (by decide), hdeep]
  simp only [State.testWrite, htest, Bool.false_eq_true, if_false, if_true, deep]

/-- The state in which TEST and the tools of all lanes are off. -/
def State.testLeft (s : State) (p : Nat) : State := (s.setElecBit p ecTest false).forAll lanes (fun s l => s.laneOff p l)

theorem State.elecBit_testLeft (i : Nat) : (s.testLeft p).elecBit p i = (s.setElecBit p ecTest false).elecBit p i :=
  State.regBit_congr (State.reg_forAll_laneOff (by decide) lanes) i

theorem State.elecBit_emit (o : Out) (q i : Nat) : (s.emit o).elecBit q i = s.elecBit q i := rfl
theorem State.elecBit_setElec (x : Elec) (q i : Nat) : (s.setElec p x).elecBit q i = s.elecBit q i := rfl

theorem State.elecCtl_setElec (x : Elec) (q i n : Nat) : (s.setElec p x).elecCtl q i n = s.elecCtl q i n := rfl
theorem State.reg_setElec (x : Elec) (a : Nat) : (s.setElec p x).reg a = s.reg a := rfl

/-- The state in which LOOP is off as well. -/
def State.testIdle (s : State) (p : Nat) : State :=
  ((s.testLeft p).setRegF (linkReg p lCtl) 10 2 0).setElec p { (s.testLeft p).elec p with loop := 0, loopAsk := false }

theorem State.elecBit_testIdle {i : Nat} (hi : i < 10) : (s.testIdle p).elecBit p i = (s.setElecBit p ecTest false).elecBit p i := by
  rw [State.testIdle, State.elecBit_setElec, State.elecBit_setRegF_loop 0 hi, State.elecBit_testLeft]

theorem State.testWrite_leaves (htest : s.elecBit p ecTest = true) : s.testWrite p false =
    (((s.testIdle p).setElecState p (if (s.testIdle p).elecBit p ecDeep then 8 else 0)).emit (.word p (.test false))).elecStart p := by
  unfold State.testWrite State.testIdle State.testLeft State.laneOff
  rw [htest, if_neg (by decide), if_neg (by decide)]

theorem State.elecStart_disabled (h : s.elecBit p ecEnable = false) : s.elecStart p = s := if_pos (.inl (by rw [h]; rfl))

theorem State.testWrite_off (htest : s.elecBit p ecTest = true) (hen : s.elecBit p ecEnable = false) (hdeep : s.elecBit p ecDeep = false) :
    s.testWrite p false = ((s.testIdle p).setElecState p 0).emit (.word p (.test false)) := by
  have bit {i : Nat} (hi : i < 10) (hne : i ≠ ecTest) : (s.testIdle p).elecBit p i = s.elecBit p i :=
    (State.elecBit_testIdle hi).trans (State.elecBit_setElecBit_other false (by decide) hne)
  rw [State.testWrite_leaves htest, (bit (by decide) (by decide)).trans hdeep, if_neg (by decide)]
  refine State.elecStart_disabled ?_
  rw [State.elecBit_emit, State.elecBit_setElecState, bit (by decide) (by decide), hen]

theorem State.reg_applyLoop (a : Nat) : (s.applyLoop p).reg a = s.reg a := congrArg (tget regReset · a) (State.regs_applyLoop s p)

theorem State.elecBit_applyLoop (i : Nat) : (s.applyLoop p).elecBit p i = s.elecBit p i := State.regBit_congr (State.reg_applyLoop _) i
theorem State.elecState_applyLoop : (s.applyLoop p).elecState p = s.elecState p := State.regF_congr (State.reg_applyLoop _) 0 4
theorem State.elecState_emit (o : Out) (q : Nat) : (s.emit o).elecState q = s.elecState q := rfl
theorem State.elecCtl_emit (o : Out) (q i n : Nat) : (s.emit o).elecCtl q i n = s.elecCtl q i n := rfl
theorem State.elecCtl_setElecState (v i n : Nat) : (s.setElecState p v).elecCtl p i n = s.elecCtl p i n :=
  State.regF_setRegF_ne _ _ _ _ _ _ _ _ (linkReg_ne p (by decide))

/-- A port with TEST on. -/
theorem State.testWrite_on_facts (htest : s.elecBit p ecTest = false) (hdeep : s.elecBit p ecDeep = false) (hp : p < 64)
    (hready : s.ready (readyPort p) = false) : (s.testWrite p true).elecBit p ecTest = true ∧ (s.testWrite p true).elecState p = 7 ∧
      Out.word p (.test true) ∈ (s.testWrite p true).out := by
  have down : (s.setElecBit p ecTest true).ready (readyPort p) = false :=
    (State.ready_congr (State.reg_setRegBit_ne _ _ _ _ _ (ready_ne_link (by unfold readyPort; omega)))).trans hready
  rw [State.testWrite_on htest hdeep hp hready]
  refine ⟨?_, ?_, State.mem_out_applyLoop List.mem_cons_self⟩
  · rw [State.elecBit_applyLoop, State.elecBit_emit, State.elecBit_setElecState, State.elecBit_elecDown down]
    exact State.elecBit_setElecBit _ _ _ _ (by decide)
  · rw [State.elecState_applyLoop, State.elecState_emit, State.elecState_setElecState (by decide)]

/-- A port with TEST off. -/
theorem State.testIdle_facts (s : State) (p : Nat) : (s.testIdle p).elecBit p ecTest = false ∧ (s.testIdle p).elecCtl p 10 2 = 0 ∧
    ((s.testIdle p).elec p).loop = 0 ∧ ((s.testIdle p).elec p).loopAsk = false ∧ ∀ l : Fin 4, (s.testIdle p).laneIdle p l.val := by
  have elec : (s.testIdle p).elec p = { (s.testLeft p).elec p with loop := 0, loopAsk := false } := by
    rw [State.testIdle, State.elec_setElec_self]
  have ctl : (s.testIdle p).elecCtl p 10 2 = 0 := by
    rw [State.testIdle, State.elecCtl_setElec, State.elecCtl_setRegF_loop (by decide)]
  refine ⟨?_, ctl, by rw [elec], by rw [elec], fun l => ?_⟩
  · rw [State.elecBit_testIdle (by decide)]
    exact State.elecBit_setElecBit _ _ _ _ (by decide)
  · have lane : (s.testLeft p).laneIdle p l.val := State.laneIdle_forAll lanes (by revert l; decide)
    refine lane.of_reg ?_
    rw [State.testIdle, State.reg_setElec, State.reg_setRegF_ne _ _ _ _ _ _ (laneReg_ne_link (by decide))]

/-- A port whose TEST has been turned off, and that starts nothing. -/
theorem State.testWrite_off_facts (htest : s.elecBit p ecTest = true) (hen : s.elecBit p ecEnable = false) (hdeep : s.elecBit p ecDeep = false) :
    (s.testWrite p false).elecBit p ecTest = false ∧ (s.testWrite p false).elecState p = 0 ∧ (s.testWrite p false).elecCtl p 10 2 = 0 ∧
      ((s.testWrite p false).elec p).loop = 0 ∧ ((s.testWrite p false).elec p).loopAsk = false ∧
      Out.word p (.test false) ∈ (s.testWrite p false).out ∧ ∀ l : Fin 4, (s.testWrite p false).laneIdle p l.val := by
  obtain ⟨hoff, hctl, hloop, hask, hlanes⟩ := s.testIdle_facts p
  rw [State.testWrite_off htest hen hdeep]
  generalize s.testIdle p = t at *
  refine ⟨?_, ?_, ?_, hloop, hask, List.mem_cons_self, fun l => ?_⟩
  · rw [State.elecBit_emit, State.elecBit_setElecState, hoff]
  · rw [State.elecState_emit, State.elecState_setElecState (by decide)]
  · rw [State.elecCtl_emit, State.elecCtl_setElecState, hctl]
  · exact ((hlanes l).of_reg (State.reg_setRegF_ne _ _ _ _ _ _ (laneReg_ne_link (by decide))) : (t.setElecState p 0).laneIdle p l.val)

/-! ### AUDIT -/

/-- The fields that AUDIT takes over as written, and its bit 62, which a write of 1 clears. -/
theorem auditWord_bit (v r : Word) (i : Fin 64) :
    ((v &&& 0x83000000FFFFFFFF) ||| (if v.getLsbD 62 then 0 else r &&& 0x4000000000000000)).getLsbD i.val =
      (v.getLsbD i.val && decide (i.val < 32 ∨ i.val = 56 ∨ i.val = 57 ∨ i.val = 63) ||
        (!v.getLsbD 62 && r.getLsbD i.val && decide (i.val = 62))) := by
  have mask : (0x83000000FFFFFFFF : Word).getLsbD i.val = decide (i.val < 32 ∨ i.val = 56 ∨ i.val = 57 ∨ i.val = 63) := by
    revert i
    decide
  have flag : (0x4000000000000000 : Word).getLsbD i.val = decide (i.val = 62) := by
    revert i
    decide
  cases h : v.getLsbD 62
  · rw [if_neg (by decide), BitVec.getLsbD_or, BitVec.getLsbD_and, BitVec.getLsbD_and, mask, flag]
    simp
  · rw [if_pos rfl, BitVec.getLsbD_or, BitVec.getLsbD_and, mask]
    simp

theorem auditWord_field (v r : Word) {lo len : Nat}
    (h : ∀ i : Fin 64, lo ≤ i.val → i.val < lo + len → i.val < 32 ∨ i.val = 56 ∨ i.val = 57 ∨ i.val = 63) (h64 : lo + len ≤ 64) :
    fget ((v &&& 0x83000000FFFFFFFF) ||| (if v.getLsbD 62 then 0 else r &&& 0x4000000000000000)) lo len = fget v lo len := by
  refine fget_congr _ _ _ _ fun i h1 h2 => ?_
  have hi := h ⟨i, by omega⟩ h1 h2
  refine (auditWord_bit v r ⟨i, by omega⟩).trans ?_
  rw [decide_eq_true hi, decide_eq_false (by simp only at hi ⊢; omega)]
  simp

theorem State.auditWrite_eq (s : State) (p : Nat) (v : Word) : ∃ x : State, s.auditWrite p v = x ∧
    x.reg (linkReg p lAudit) = (v &&& 0x83000000FFFFFFFF) ||| (if v.getLsbD 62 then 0 else s.reg (linkReg p lAudit) &&& 0x4000000000000000) ∧
    (x.elec p).acked = none ∧
    x.out = (if v.getLsbD 63 then [Out.word p (.audit (fget v 0 32) (fget v 56 2))] else []) ++ s.out := by
  refine ⟨_, rfl, ?_⟩
  unfold State.auditWrite
  dsimp only
  have reg (k : Word) : (s.setReg (linkReg p lAudit) k).reg (linkReg p lAudit) = k :=
    (State.reg_setReg ..).trans (if_pos rfl)
  have acked (k : Word) (y : Elec) : (((s.setReg (linkReg p lAudit) k).setElec p { y with acked := none }).elec p).acked = none := by
    rw [State.elec_setElec_self]
  split
  · exact ⟨reg _, acked _ _, rfl⟩
  · exact ⟨reg _, acked _ _, rfl⟩

end

/-- Settles O41: TEST, LOOP, the pattern tools and AUDIT, row by row. -/
theorem testAndAudit : Obligations.TestAndAudit := by
  have bar {s : State} {k : State → State} (h : s.recovery = false) : s.bar0 k = k s := s.bar0_eq_of_not_recovery k h
  refine ⟨fun p s hrec ht hd hr => ?_, fun p s hrec ht he hd => ?_, fun p v s hrec ht => ?_, fun p v s hrec ht hv hl ha => ?_,
    fun p s hrec ht hl ha => ?_, fun p s h => ⟨?_, ?_⟩, fun p s h => ⟨?_, ?_⟩, fun p l s hrec h => ?_, fun p l s hrec h => ?_,
    fun p l s hrec => ?_, fun p l s h hlock => ?_, fun p l s h => ?_, fun p l s => ?_, fun p s => ?_, fun p s h => ?_, fun p s => ?_,
    fun p v s hrec => ?_, fun p s h => ?_, fun p s h => ?_, fun p n l s => rfl⟩
  · exact ⟨_, congrArg Host.Outcome.next (bar hrec), State.testWrite_on_facts ht hd p.isLt hr⟩
  · exact ⟨_, congrArg Host.Outcome.next (bar hrec), State.testWrite_off_facts ht he hd⟩
  · have off : (s.setRegF (linkReg p.val lCtl) 10 2 v.val).elecBit p.val ecTest = false := (State.elecBit_setRegF_loop _ (by decide)).trans ht
    refine ⟨_, congrArg Host.Outcome.next ((bar hrec).trans (State.applyLoop_off off)), State.elecCtl_setRegF_loop v.isLt,
      s.onlyRegs_setReg _ _ _ (by simp)⟩
  · have on : (s.setRegF (linkReg p.val lCtl) 10 2 v.val).elecBit p.val ecTest = true := (State.elecBit_setRegF_loop _ (by decide)).trans ht
    have ctl : (s.setRegF (linkReg p.val lCtl) 10 2 v.val).elecCtl p.val 10 2 = v.val := State.elecCtl_setRegF_loop v.isLt
    have run := State.applyLoop_near on (by rw [ctl]; exact hv) hl ha
    rw [ctl] at run
    refine ⟨_, congrArg Host.Outcome.next ((bar hrec).trans run), ctl, ?_, ?_, rfl⟩
    · exact (congrArg Elec.loop (State.elec_setElec_self _) :)
    · exact (congrArg Elec.loopAsk (State.elec_setElec_self _) :)
  · have on : (s.setRegF (linkReg p.val lCtl) 10 2 3).elecBit p.val ecTest = true := (State.elecBit_setRegF_loop _ (by decide)).trans ht
    have ctl : (s.setRegF (linkReg p.val lCtl) 10 2 3).elecCtl p.val 10 2 = 3 := State.elecCtl_setRegF_loop (by decide)
    refine ⟨_, congrArg Host.Outcome.next ((bar hrec).trans (State.applyLoop_far on ctl hl ha)), ctl, ?_, ?_, rfl⟩
    · exact (congrArg Elec.loop (State.elec_setElec_self _) :)
    · exact (congrArg Elec.loopAsk (State.elec_setElec_self _) :)
  · exact ⟨_, congrArg Host.Outcome.next (if_pos h), State.elec_setElec_self _, rfl⟩
  · refine ⟨_, congrArg Host.Outcome.next (if_pos h), State.elec_setElec_self _, ?_, State.elecCtl_setRegF_loop (by decide), rfl⟩
    refine (State.regBit_congr (State.reg_setRegF_ne _ _ _ _ _ _ (linkReg_ne _ (by decide))) 15).trans ?_
    exact State.elecFlag_elecErr _ _
  · exact congrArg Host.Outcome.next (if_neg (by rw [h]; decide))
  · exact congrArg Host.Outcome.next (if_neg (by rw [h]; decide))
  · exact congrArg Host.Outcome.next ((bar hrec).trans (if_pos h))
  · exact congrArg Host.Outcome.next ((bar hrec).trans (if_neg (by rw [h]; decide)))
  · refine ⟨_, congrArg Host.Outcome.next (bar hrec), ?_, (State.reg_setReg ..).trans (if_pos rfl), fun a h1 h2 => ?_, s.countBits_rest p.val l.val⟩
    · exact (State.reg_setReg_ne _ _ _ _ (laneReg_ne _ (by decide))).trans ((State.reg_setReg ..).trans (if_pos rfl))
    · exact (State.reg_setReg_ne _ _ _ _ h2).trans ((State.reg_setReg_ne _ _ _ _ h1).trans (State.reg_countBits_ne h1 h2))
  · refine ⟨_, congrArg Host.Outcome.next (if_pos ⟨h, by rw [hlock]; rfl⟩), State.regBit_setRegBit s _ _ _ (by decide), ?_,
      fun a ha => State.reg_setRegBit_ne _ _ _ _ _ ha⟩
    exact (congrArg (fun x : Elec => x.checks[l]) (State.elec_setElec_self _)).trans (vecPut_get _ l _)
  · exact congrArg Host.Outcome.next (if_neg (by simp [h]))
  · obtain ⟨hsome, hnone⟩ := State.bits_countBits (s := s) (p := p.val) l
    refine ⟨_, rfl, State.lock_unlock l.val, ?_, fun since h => (State.reg_unlock_bits l.val).trans (hsome since h),
      fun h => (State.reg_unlock_bits l.val).trans (hnone h)⟩
    exact (congrArg (fun x : Elec => x.checks[l]) (State.elec_setElec_self _)).trans (vecPut_get _ l _)
  · exact ⟨_, rfl, State.epF_setEpF eElecStatus 0 4 7 (by decide)⟩
  · have enable : (s.setDep p.val { s.dep p.val with loop := false }).epBit p.val eCtl 0 = true := by
      refine (State.epBit_congr (State.ep_setDep_regs ?_ _) 0).trans h
      rfl
    have run : s.depTest p.val false = (s.setDep p.val { s.dep p.val with loop := false }).setEpState p.val 1 := by
      rw [State.depTest, if_neg (by decide)]
      exact if_pos enable
    refine ⟨_, congrArg Host.Outcome.next run, State.epF_setEpF eElecStatus 0 4 1 (by decide), ?_,
      (((OnlyDeps.refl s).setDep _ _).setEpF _ _ _ _ _)⟩
    rw [State.setEpState, State.setEpF, State.setEp, State.dep_setDep, if_pos rfl]
    rw [State.dep_setDep, if_pos rfl]
  · refine ⟨_, rfl, ?_, rfl, rfl⟩
    exact (State.dep_setDep ..).trans (if_pos rfl)
  · obtain ⟨x, hx, hreg, hacked, hout⟩ := s.auditWrite_eq p.val v
    refine ⟨x, congrArg Host.Outcome.next ((bar hrec).trans hx), ?_, ?_, ?_, ?_, hacked, hout⟩
    · rw [State.regBit, State.regF, hreg, auditWord_field v _ (by omega) (by decide), fget_bit]
    · rw [State.regF, hreg, auditWord_field v _ (by omega) (by decide)]
    · rw [State.regF, hreg, auditWord_field v _ (by omega) (by decide)]
    · rw [State.regBit, State.regF, hreg, fget_bit]
      refine (auditWord_bit v _ 62).trans ?_
      rw [State.regBit, State.regF, fget_bit]
      simp
  · exact ⟨_, congrArg Host.Outcome.next (if_pos h), State.elec_setElec_self _, rfl⟩
  · exact congrArg Host.Outcome.next (if_neg (by rw [h]; decide))

end Sys2Proof.Machine
end

section
/-! SUPPORT. Starts, figures of merit and the coming up of an electrical port. -/

namespace Sys2Proof.Machine

/-- Nothing but BAR0 registers and the state of electrical ports differs. -/
def ElecOnly (s t : State) : Prop := { t with regs := s.regs, elecs := s.elecs } = s

section
variable {s t u : State} {p : Nat}

theorem ElecOnly.refl (s : State) : ElecOnly s s := rfl
theorem ElecOnly.eq (h : ElecOnly s t) : { t with regs := s.regs, elecs := s.elecs } = s := h
theorem ElecOnly.setElec (h : ElecOnly s t) (q : Nat) (x : Elec) : ElecOnly s (t.setElec q x) := h
theorem ElecOnly.setReg (h : ElecOnly s t) (a : Nat) (v : Word) : ElecOnly s (t.setReg a v) := h
theorem ElecOnly.setRegF (h : ElecOnly s t) (a lo len v : Nat) : ElecOnly s (t.setRegF a lo len v) := h
theorem ElecOnly.setElecBit (h : ElecOnly s t) (q i : Nat) (b : Bool) : ElecOnly s (t.setElecBit q i b) := h
theorem ElecOnly.setElecFlag (h : ElecOnly s t) (q i : Nat) (b : Bool) : ElecOnly s (t.setElecFlag q i b) := h
theorem ElecOnly.setElecState (h : ElecOnly s t) (q v : Nat) : ElecOnly s (t.setElecState q v) := h

theorem ElecOnly.trans (h : ElecOnly s t) (g : ElecOnly t u) : ElecOnly s u := by
  have e := congrArg (fun x : State => { x with regs := s.regs, elecs := s.elecs }) g.eq
  exact e.trans h

theorem State.forAll_mem_induct {α : Type} {P : State → Prop} {op : State → α → State} {l : List α} (hs : P s)
    (h : ∀ u x, x ∈ l → P u → P (op u x)) : P (s.forAll l op) := by
  induction l generalizing s with
  | nil => exact hs
  | cons x r ih => exact ih (h s x List.mem_cons_self hs) fun u y hy => h u y (List.mem_cons_of_mem _ hy)

/-- What holds of one element of a list after its own step, and is kept by every other step, holds after all of them. -/
theorem State.forAll_of_mem {α : Type} {op : State → α → State} {P Q : State → Prop} {x : α} (l : List α) (h : x ∈ l) (hq : Q s)
    (inv : ∀ u y, y ∈ l → Q u → Q (op u y)) (own : ∀ u, Q u → P (op u x)) (keep : ∀ u y, y ∈ l → Q u → P u → y ≠ x → P (op u y)) :
    P (s.forAll l op) := by
  induction l generalizing s with
  | nil => exact absurd h List.not_mem_nil
  | cons y r ih =>
    rw [State.forAll_cons]
    have keep' : ∀ u z, z ∈ r → Q u → P u → z ≠ x → P (op u z) := fun u z hz => keep u z (List.mem_cons_of_mem _ hz)
    by_cases hr : x ∈ r
    · exact ih hr (inv s y List.mem_cons_self hq) (fun u z hz => inv u z (List.mem_cons_of_mem _ hz)) keep'
    · obtain rfl | hx := List.mem_cons.mp h
      · have both : Q ((op s x).forAll r op) ∧ P ((op s x).forAll r op) :=
          State.forAll_mem_induct (P := fun u => Q u ∧ P u) ⟨inv s x List.mem_cons_self hq, own s hq⟩ fun u z hz hu =>
            ⟨inv u z (List.mem_cons_of_mem _ hz) hu.1, keep' u z hz hu.1 hu.2 fun e => hr (e ▸ hz)⟩
        exact both.2
      · exact absurd hx hr

/-! ### Going down, starting, failing -/

theorem elecOnly_elecDown (h : s.ready (readyPort p) = false) : ElecOnly s (s.elecDown p) := by
  rw [State.elecDown_of_down h]
  exact ((((ElecOnly.refl s).setElecFlag p 12 false).setElecFlag p 13 false).setElecState p 0).setElec p _

theorem State.elec_elecDown (h : s.ready (readyPort p) = false) : (s.elecDown p).elec p =
    { s.elec p with wait := false, checked := false, measured := false, low := Vector.replicate 4 0, auditing := false, waking := false } := by
  rw [State.elecDown_of_down h, State.elec_setElec_self]

theorem State.elecState_setElec (x : Elec) (q : Nat) : (s.setElec p x).elecState q = s.elecState q := rfl
theorem State.elecFlag_setElec (x : Elec) (q i : Nat) : (s.setElec p x).elecFlag q i = s.elecFlag q i := rfl

theorem State.elecState_elecDown (s : State) (p : Nat) : (s.elecDown p).elecState p = 0 := by
  rw [State.elecDown, State.elecState_setElec, State.elecState_setElecState (by decide)]

theorem State.reg_elecDown_ne {a : Nat} (h : s.ready (readyPort p) = false) (ha : a ≠ linkReg p lStatus) : (s.elecDown p).reg a = s.reg a := by
  rw [State.elecDown_of_down h, State.reg_setElec, State.setElecState, State.reg_setRegF_ne _ _ _ _ _ _ ha, State.setElecFlag,
    State.reg_setRegBit_ne _ _ _ _ _ ha, State.setElecFlag, State.reg_setRegBit_ne _ _ _ _ _ ha]

/-- The state in which a port that is down begins a link start. -/
def State.elecDetects (s : State) (p : Nat) : State :=
  let t := (s.elecDown p).count (linkReg p lStarts)
  let miss := lanes.filter (fun l => t.lacksPreset p l)
  let t := t.setElec p { t.elec p with searched := miss.foldl (fun m l => m ||| BitVec.ofNat 4 (2 ^ l)) (t.elec p).searched }
  (t.setElecState p 1).setElecFlag p 14 (!miss.isEmpty)

theorem State.elecStart_held (h : s.elecBit p ecEnable = false ∨ s.elecBit p ecTest = true ∨ s.elecBit p ecDeep = true) : s.elecStart p = s :=
  if_pos (by simpa using h)

theorem State.elecStart_begins (hen : s.elecBit p ecEnable = true) (htest : s.elecBit p ecTest = false) (hdeep : s.elecBit p ecDeep = false) :
    s.elecStart p = s.elecDetects p := if_neg (by simp [hen, htest, hdeep])

theorem State.not_isEmpty_filter {α : Type} (l : List α) (f : α → Bool) : (!(l.filter f).isEmpty) = l.any f := by
  rw [Bool.eq_iff_iff]
  simp

theorem State.elecDetects_facts (h : s.ready (readyPort p) = false) : (s.elecDetects p).elecState p = 1 ∧
    (s.elecDetects p).reg (linkReg p lStarts) = s.reg (linkReg p lStarts) + 1 ∧
    (s.elecDetects p).elecFlag p 14 = lanes.any (fun l => s.lacksPreset p l) ∧ ((s.elecDetects p).elec p).wait = false ∧
    ((s.elecDetects p).elec p).checked = false ∧ ((s.elecDetects p).elec p).measured = false ∧ ElecOnly s (s.elecDetects p) := by
  have rest := elecOnly_elecDown h
  have elec := State.elec_elecDown h
  have starts := State.reg_elecDown_ne (a := linkReg p lStarts) h (linkReg_ne p (by decide))
  have lacks (l : Nat) : ((s.elecDown p).count (linkReg p lStarts)).lacksPreset p l = s.lacksPreset p l := by
    have bad : ((s.elecDown p).count (linkReg p lStarts)).gbBad 4 (4 * p + l) = s.gbBad 4 (4 * p + l) := (congrArg (State.gbBad · 4 (4 * p + l)) rest.eq :)
    rw [State.lacksPreset, bad, show ((s.elecDown p).count (linkReg p lStarts)).elec p = (s.elecDown p).elec p from rfl, elec]
    rfl
  unfold State.elecDetects
  simp only [lacks, State.not_isEmpty_filter]
  generalize s.elecDown p = t at *
  have kept : ((t.count (linkReg p lStarts)).elec p) = t.elec p := rfl
  have final (b : Bool) (x : Elec) : (((((t.count (linkReg p lStarts)).setElec p x).setElecState p 1).setElecFlag p 14 b).elec p) = x :=
    State.elec_setElec_self _
  refine ⟨?_, ?_, ?_, ?_, ?_, ?_, rest⟩
  · rw [State.elecState_setElecFlag _ (by decide) (by decide), State.elecState_setElecState (by decide)]
  · rw [State.setElecFlag, State.reg_setRegBit_ne _ _ _ _ _ (linkReg_ne p (by decide)), State.setElecState,
      State.reg_setRegF_ne _ _ _ _ _ _ (linkReg_ne p (by decide)), State.reg_setElec, State.reg_count, starts]
  · rw [State.elecFlag_setElecFlag _ (by decide)]
  · rw [final, kept, elec]
  · rw [final, kept, elec]
  · rw [final, kept, elec]

theorem State.elecBit_elecDetects (h : s.ready (readyPort p) = false) (i : Nat) : (s.elecDetects p).elecBit p i = s.elecBit p i := by
  refine State.regBit_congr ?_ i
  rw [State.elecDetects, State.setElecFlag, State.reg_setRegBit_ne _ _ _ _ _ (linkReg_ne p (by decide)), State.setElecState,
    State.reg_setRegF_ne _ _ _ _ _ _ (linkReg_ne p (by decide)), State.reg_setElec, State.reg_count_ne _ _ _ (linkReg_ne p (by decide)),
    State.reg_elecDown_ne h (linkReg_ne p (by decide))]

theorem State.ready_setElecBit {i : Nat} (b : Bool) (hp : p < 64) : (s.setElecBit p i b).ready (readyPort p) = s.ready (readyPort p) :=
  State.ready_congr (State.reg_setRegBit_ne _ _ _ _ _ (ready_ne_link (by unfold readyPort; omega)))

theorem State.epF_setEpBit_below {a i lo len : Nat} (b : Bool) (hi : i < 64) (h : lo + len ≤ i) :
    (s.setEpBit p a i b).epF p a lo len = s.epF p a lo len := by
  rw [State.setEpBit, State.epF, State.ep_setEpF, if_pos rfl, fget_fset_below _ _ _ _ _ _ hi h]
  rfl

theorem State.elecFail_waking (h : s.elecState p = 9) : s.elecFail p = s.elecStart p := if_pos h

theorem State.elecFail_starting (h1 : 1 ≤ s.elecState p) (h5 : s.elecState p ≤ 5) : (s.elecFail p).elecState p = 0 ∧
    ((s.elecFail p).elec p).wait = true ∧ (s.elecFail p).reg (linkReg p lFails) = s.reg (linkReg p lFails) + 1 ∧ ElecOnly s (s.elecFail p) := by
  have run : s.elecFail p = ((s.count (linkReg p lFails)).setElecState p 0).setElec p
      { s.elec p with wait := true, checked := false, measured := false } := by
    rw [State.elecFail, if_neg (by omega), if_pos (by simp [State.elecStarting, inRange, h1, h5])]
    rfl
  rw [run]
  refine ⟨?_, ?_, ?_, rfl⟩
  · rw [State.elecState_setElec, State.elecState_setElecState (by decide)]
  · rw [State.elec_setElec_self]
  · rw [State.reg_setElec, State.setElecState, State.reg_setRegF_ne _ _ _ _ _ _ (linkReg_ne p (by decide)), State.reg_count]

/-! ### Figures of merit -/

theorem elecOnly_putFom (h : ElecOnly s t) (p l fom : Nat) : ElecOnly s (t.putFom p l fom) := h

theorem State.elec_putFom (l fom q : Nat) : (s.putFom p l fom).elec q = s.elec q := rfl

theorem State.reg_putFom_ne {l fom a : Nat} (hl : a ≠ laneReg p l 0) (ha : a ≠ linkReg p lStatus) : (s.putFom p l fom).reg a = s.reg a := by
  rw [State.putFom, State.setElecFlag]
  rw [State.reg_setRegBit_ne _ _ _ _ _ ha, State.reg_setRegF_ne _ _ _ _ _ _ hl, State.reg_setRegF_ne _ _ _ _ _ _ hl]

theorem State.elecCtl_putFom (l fom i n : Nat) : (s.putFom p l fom).elecCtl p i n = s.elecCtl p i n :=
  State.regF_congr (State.reg_putFom_ne (laneReg_ne_link (by decide)).symm (linkReg_ne p (by decide))) i n

theorem State.elecState_putFom {l : Nat} (fom : Nat) (hl : l < 4) : (s.putFom p l fom).elecState p = s.elecState p := by
  rw [State.putFom, State.elecState_setElecFlag _ (by omega) (by omega)]
  refine State.regF_congr ?_ 0 4
  rw [State.reg_setRegF_ne _ _ _ _ _ _ (laneReg_ne_link (by decide)).symm, State.reg_setRegF_ne _ _ _ _ _ _ (laneReg_ne_link (by decide)).symm]

theorem State.fom_putFom {fom : Nat} (l : Nat) (h : fom < 256) : (s.putFom p l fom).regF (laneReg p l 0) 0 8 = fom ∧
    (s.putFom p l fom).regF (laneReg p l 0) 8 8 = min fom (s.regF (laneReg p l 0) 8 8) := by
  have lane (t : State) (i : Nat) (b : Bool) (lo : Nat) : (t.setElecFlag p i b).regF (laneReg p l 0) lo 8 = t.regF (laneReg p l 0) lo 8 :=
    State.regF_congr (State.reg_setRegBit_ne _ _ _ _ _ (laneReg_ne_link (by decide))) lo 8
  constructor
  · rw [State.putFom, lane, State.regF_setRegF_below _ _ _ _ _ _ _ (by decide) (by decide), State.regF_setRegF _ _ _ _ _ (by decide)]
    exact Nat.mod_eq_of_lt h
  · rw [State.putFom, lane, State.regF_setRegF _ _ _ _ _ (by decide)]
    exact Nat.mod_eq_of_lt (lt_of_le_of_lt (Nat.min_le_left _ _) h)

theorem State.flag_putFom {l : Nat} (fom : Nat) (hl : l < 4) : (s.putFom p l fom).elecFlag p (8 + l) = decide (fom < s.elecCtl p 24 8) := by
  rw [State.putFom, State.elecFlag_setElecFlag _ (by omega)]
  rw [State.elecCtl, State.regF_setRegF_ne _ _ _ _ _ _ _ _ (laneReg_ne_link (by decide)).symm,
    State.regF_setRegF_ne _ _ _ _ _ _ _ _ (laneReg_ne_link (by decide)).symm]
  rfl

/-- Another lane's figure of merit leaves this lane's. -/
theorem State.putFom_other {l l' : Nat} (fom : Nat) (hl' : l' < 4) (h : l' ≠ l) :
    (s.putFom p l' fom).reg (laneReg p l 0) = s.reg (laneReg p l 0) ∧ (s.putFom p l' fom).elecFlag p (8 + l) = s.elecFlag p (8 + l) := by
  refine ⟨State.reg_putFom_ne (laneReg_ne_lane (Ne.symm h) (by decide) (by decide)) (laneReg_ne_link (by decide)), ?_⟩
  rw [State.putFom, State.elecFlag_setElecFlag_other _ (by omega) (by omega)]
  refine State.regBit_congr ?_ _
  rw [State.reg_setRegF_ne _ _ _ _ _ _ (laneReg_ne_link (by decide)).symm, State.reg_setRegF_ne _ _ _ _ _ _ (laneReg_ne_link (by decide)).symm]

theorem State.fomCheck_eq {partnerOk : Bool} (foms : Vector Byte 4) (h : ¬ (s.elecState p ≠ 9 ∧ !s.elecStarting p)) :
    s.fomCheck p foms partnerOk =
      let t := s.forAll lanes (fun s l => s.putFom p l (foms.toList.getD l 0).toNat)
      if partnerOk && foms.toList.all (fun x => decide (t.elecCtl p 24 8 ≤ x.toNat)) then
        (t.setElec p { t.elec p with checked := true, measured := false }).setElecState p 5
      else t.elecFail p := if_neg h

theorem foms_all {foms : Vector Byte 4} {c : Nat} (h : ∀ l : Fin 4, c ≤ foms[l].toNat) : ∀ x ∈ foms.toList, decide (c ≤ x.toNat) = true := by
  intro x hx
  obtain ⟨i, hi, rfl⟩ := Vector.mem_iff_getElem.mp (Vector.mem_toList_iff.mp hx)
  exact decide_eq_true (h ⟨i, hi⟩)

/-- What step 3 of a link start leaves of every lane, when none falls short. -/
theorem State.putFoms_facts (s : State) (p : Nat) (foms : Vector Byte 4) :
    let t := s.forAll lanes (fun s l => s.putFom p l (foms.toList.getD l 0).toNat)
    t.elecCtl p 24 8 = s.elecCtl p 24 8 ∧ t.elecState p = s.elecState p ∧ t.reg (linkReg p lFails) = s.reg (linkReg p lFails) ∧
      ElecOnly s t ∧ ∀ l : Fin 4, t.regF (laneReg p l.val 0) 0 8 = foms[l].toNat ∧
        t.elecFlag p (8 + l.val) = decide (foms[l].toNat < s.elecCtl p 24 8) := by
  intro t
  have small {l : Nat} (h : l ∈ lanes) : l < 4 := by revert h; revert l; decide
  have state : t.elecState p = s.elecState p := State.forAll_mem_induct (P := fun u => u.elecState p = s.elecState p) rfl fun u l hl hu =>
    (State.elecState_putFom _ (small hl)).trans hu
  have fails : t.reg (linkReg p lFails) = s.reg (linkReg p lFails) := State.forAll_proj (fun u => u.reg (linkReg p lFails)) fun u l =>
    State.reg_putFom_ne (laneReg_ne_link (by decide)).symm (linkReg_ne p (by decide))
  have ctl : t.elecCtl p 24 8 = s.elecCtl p 24 8 := State.forAll_proj (fun u => u.elecCtl p 24 8) fun u l => State.elecCtl_putFom _ _ _ _
  refine ⟨ctl, state, fails, State.forAll_induct (P := ElecOnly s) (ElecOnly.refl s) fun u l hu => elecOnly_putFom hu p l _, fun l => ?_⟩
  have mem (l : Fin 4) : l.val ∈ lanes := by revert l; decide
  have lane : foms.toList.getD l.val 0 = foms[l] := by simp [List.getD_eq_getElem?_getD]
  refine State.forAll_of_mem (Q := fun u => u.elecCtl p 24 8 = s.elecCtl p 24 8) (P := fun u => u.regF (laneReg p l.val 0) 0 8 = foms[l].toNat ∧
    u.elecFlag p (8 + l.val) = decide (foms[l].toNat < s.elecCtl p 24 8)) lanes (mem l) rfl
    (fun u y _ hu => (State.elecCtl_putFom _ _ _ _).trans hu) (fun u hu => ?_) (fun u y hy _ hu hne => ?_)
  · rw [lane]
    exact ⟨(State.fom_putFom l.val foms[l].isLt).1, (State.flag_putFom _ l.isLt).trans (by rw [hu])⟩
  · obtain ⟨hreg, hflag⟩ := hu
    obtain ⟨hreg', hflag'⟩ := State.putFom_other (s := u) (p := p) (l := l.val) (foms.toList.getD y 0).toNat (small hy) hne
    exact ⟨(State.regF_congr hreg' 0 8).trans hreg, hflag'.trans hflag⟩

end

section
variable {s : State} {p : Nat}

/-! ### The port comes up -/

theorem State.setLinkUp_up (s : State) (p : Nat) : (s.setLinkUp p true).epBit p eStatus 11 = true ∧ OnlyDeps s (s.setLinkUp p true) ∧
    (s.setLinkUp p true).ep p eElecStatus = s.ep p eElecStatus := by
  by_cases h : s.epBit p eStatus 11 = true
  · rw [State.setLinkUp, if_pos h]
    exact ⟨h, OnlyDeps.refl s, rfl⟩
  · rw [State.setLinkUp, if_neg h]
    refine ⟨?_, (((OnlyDeps.refl s).setEpBit p eStatus 11 true).emit _).epIrq p 0, ?_⟩
    · refine (State.epBit_congr (State.ep_epIrq_ne 0 (by decide)) 11).trans ?_
      exact State.epBit_setEpBit eStatus 11 true (by decide)
    · refine (State.ep_epIrq_ne 0 (by decide)).trans ?_
      exact State.ep_setEpF_ne _ _ _ (by decide)

theorem State.portRises_facts (s : State) {n : Nat} (h : n < 128) : (s.portRises n).portUp n = true ∧
    (s.portRises n).fab.scrubbed.getLsbD n = false ∧ (s.portRises n).elecState p = s.elecState p := by
  refine ⟨?_, ?_, State.regF_congr (State.reg_setRegBit_ne _ _ _ _ _ (ready_ne_link (by unfold readyPort; omega)).symm) 0 4⟩
  · have ready : (s.portRises n).ready (readyPort n) = true := State.regBit_setRegBit s _ _ true (Nat.mod_lt _ (by decide))
    rw [State.portUp, ready, Bool.or_true]
  · have bit : (BitVec.ofNat 128 (2 ^ n)).getLsbD n = true := by
      rw [BitVec.getLsbD_ofNat, decide_eq_true h, Nat.testBit_two_pow_self]
      rfl
    rw [State.portRises, BitVec.getLsbD_and, BitVec.getLsbD_not, bit, Bool.not_true, Bool.and_false, Bool.and_false]

theorem State.depRises_facts (s : State) (p : Nat) : ((s.setEpState p 6).setLinkUp p true).epF p eElecStatus 0 4 = 6 ∧
    ((s.setEpState p 6).setLinkUp p true).epBit p eStatus 11 = true ∧ OnlyDeps s ((s.setEpState p 6).setLinkUp p true) := by
  obtain ⟨link, rest, status⟩ := (s.setEpState p 6).setLinkUp_up p
  refine ⟨(State.epF_congr status 0 4).trans (State.epF_setEpF eElecStatus 0 4 6 (by decide)), link, OnlyDeps.trans ?_ rest⟩
  exact (OnlyDeps.refl s).setEpF p eElecStatus 0 4 6

/-- The port and its DEP-7's side are up. -/
theorem State.rises_facts (hp : p < 64) (state : s.elecState p = 6) :
    let t := ((s.portRises p).setEpState p 6).setLinkUp p true
    t.elecState p = 6 ∧ t.portUp p = true ∧ t.epF p eElecStatus 0 4 = 6 ∧ t.epBit p eStatus 11 = true ∧ t.fab.scrubbed.getLsbD p = false := by
  obtain ⟨up, scrubbed, kept⟩ := s.portRises_facts (p := p) (n := p) (by omega)
  obtain ⟨status, link, rest⟩ := (s.portRises p).depRises_facts p
  have regs := rest.sameRegs
  refine ⟨(State.regF_congr (regs _) 0 4).trans (kept.trans state), ?_, status, link, ?_⟩
  · exact (congrArg (decide (128 ≤ p) || ·) (State.regBit_congr (regs _) _)).trans up
  · exact (congrArg (fun x : State => x.fab.scrubbed.getLsbD p) rest.eq :).trans scrubbed

/-! ### Updates of a lane -/

/-- The measured values of a lane are stored. -/
def State.fomStored (s : State) (p l snr eye uncorr : Nat) : State :=
  ((s.setReg (laneReg p l 0x30) (BitVec.ofNat 64 snr)).setReg (laneReg p l 0x38) (BitVec.ofNat 64 eye)).addReg (linkReg p lUncorr) uncorr

theorem State.reg_fomStored_ne {l snr eye uncorr a : Nat} (h1 : a ≠ laneReg p l 0x30) (h2 : a ≠ laneReg p l 0x38) (h3 : a ≠ linkReg p lUncorr) :
    (s.fomStored p l snr eye uncorr).reg a = s.reg a := by
  rw [State.fomStored, State.addReg, State.reg_setReg_ne _ _ _ _ h3, State.reg_setReg_ne _ _ _ _ h2, State.reg_setReg_ne _ _ _ _ h1]

theorem State.reg_fomStored (s : State) (p l snr eye uncorr : Nat) :
    (s.fomStored p l snr eye uncorr).reg (laneReg p l 0x30) = BitVec.ofNat 64 snr ∧
    (s.fomStored p l snr eye uncorr).reg (laneReg p l 0x38) = BitVec.ofNat 64 eye ∧
    (s.fomStored p l snr eye uncorr).reg (linkReg p lUncorr) = s.reg (linkReg p lUncorr) + BitVec.ofNat 64 uncorr := by
  have link {off : Nat} : laneReg p l off ≠ linkReg p lUncorr := laneReg_ne_link (by decide)
  refine ⟨?_, ?_, ?_⟩
  · rw [State.fomStored, State.addReg, State.reg_setReg_ne _ _ _ _ link, State.reg_setReg_ne _ _ _ _ (laneReg_ne l (by decide)),
      State.reg_setReg, if_pos rfl]
  · rw [State.fomStored, State.addReg, State.reg_setReg_ne _ _ _ _ link, State.reg_setReg, if_pos rfl]
  · rw [State.fomStored, State.addReg, State.reg_setReg, if_pos rfl, State.reg_setReg_ne _ _ _ _ link.symm, State.reg_setReg_ne _ _ _ _ link.symm]

/-- The registers of a lane after one update. -/
def State.fomSample (s : State) (p l snr eye uncorr : Nat) : State := (s.putFom p l (fomOf snr eye)).fomStored p l snr eye uncorr

theorem elecOnly_fomSample (s : State) (p l snr eye uncorr : Nat) : ElecOnly s (s.fomSample p l snr eye uncorr) :=
  (elecOnly_putFom (ElecOnly.refl s) p l (fomOf snr eye) : ElecOnly s (s.putFom p l (fomOf snr eye)))

theorem State.regsOnly_putFom (s : State) (p l fom : Nat) : { s.putFom p l fom with regs := s.regs } = s := rfl
theorem State.regsOnly_fomStored (s : State) (p l snr eye uncorr : Nat) : { s.fomStored p l snr eye uncorr with regs := s.regs } = s := rfl

theorem State.regsOnly_fomSample (s : State) (p l snr eye uncorr : Nat) : { s.fomSample p l snr eye uncorr with regs := s.regs } = s := by
  have stored := (s.putFom p l (fomOf snr eye)).regsOnly_fomStored p l snr eye uncorr
  exact (congrArg (fun x : State => { x with regs := s.regs }) stored).trans (s.regsOnly_putFom p l (fomOf snr eye))

theorem State.elec_fomSample (l snr eye uncorr : Nat) : (s.fomSample p l snr eye uncorr).elec p = s.elec p := rfl

theorem State.reg_fomSample_ne {l snr eye uncorr a : Nat} (h : a ∉ [laneReg p l 0, laneReg p l 0x30, laneReg p l 0x38, linkReg p lUncorr, linkReg p lStatus]) :
    (s.fomSample p l snr eye uncorr).reg a = s.reg a := by
  simp only [List.mem_cons, List.not_mem_nil, or_false, not_or] at h
  obtain ⟨h0, h30, h38, hu, hs⟩ := h
  rw [State.fomSample, State.reg_fomStored_ne h30 h38 hu, State.reg_putFom_ne h0 hs]

theorem State.elecState_fomSample {l : Nat} (snr eye uncorr : Nat) (hl : l < 4) : (s.fomSample p l snr eye uncorr).elecState p = s.elecState p := by
  have link {off : Nat} : linkReg p lStatus ≠ laneReg p l off := (laneReg_ne_link (by decide)).symm
  rw [State.fomSample, State.elecState, State.regF_congr (State.reg_fomStored_ne link link (linkReg_ne p (by decide)))]
  exact State.elecState_putFom _ hl

theorem State.elecCtl_fomSample (l snr eye uncorr i n : Nat) : (s.fomSample p l snr eye uncorr).elecCtl p i n = s.elecCtl p i n := by
  have link {off : Nat} : linkReg p lCtl ≠ laneReg p l off := (laneReg_ne_link (by decide)).symm
  rw [State.fomSample, State.elecCtl, State.regF_congr (State.reg_fomStored_ne link link (linkReg_ne p (by decide)))]
  exact State.elecCtl_putFom _ _ _ _

theorem State.fomSample_facts (s : State) (p l snr eye uncorr : Nat) :
    (s.fomSample p l snr eye uncorr).regF (laneReg p l 0) 0 8 = fomOf snr eye ∧
    (s.fomSample p l snr eye uncorr).regF (laneReg p l 0) 8 8 = min (fomOf snr eye) (s.regF (laneReg p l 0) 8 8) ∧
    (s.fomSample p l snr eye uncorr).reg (laneReg p l 0x30) = BitVec.ofNat 64 snr ∧
    (s.fomSample p l snr eye uncorr).reg (laneReg p l 0x38) = BitVec.ofNat 64 eye ∧
    (s.fomSample p l snr eye uncorr).reg (linkReg p lUncorr) = s.reg (linkReg p lUncorr) + BitVec.ofNat 64 uncorr := by
  have hfom : fomOf snr eye < 256 := lt_of_le_of_lt (Nat.min_le_left _ _) (by decide)
  obtain ⟨fom, low⟩ := s.fom_putFom (p := p) l hfom
  have link {off : Nat} : linkReg p lUncorr ≠ laneReg p l off := (laneReg_ne_link (by decide)).symm
  have unc := State.reg_putFom_ne (s := s) (fom := fomOf snr eye) (link (off := 0)) (linkReg_ne p (by decide))
  have lane (t : State) : (t.fomStored p l snr eye uncorr).reg (laneReg p l 0) = t.reg (laneReg p l 0) :=
    State.reg_fomStored_ne (laneReg_ne l (by decide)) (laneReg_ne l (by decide)) link.symm
  obtain ⟨at30, at38, atUncorr⟩ := (s.putFom p l (fomOf snr eye)).reg_fomStored p l snr eye uncorr
  unfold State.fomSample
  exact ⟨(State.regF_congr (lane _) 0 8).trans fom, (State.regF_congr (lane _) 8 8).trans low, at30, at38, atUncorr.trans (by rw [unc])⟩

/-- Low updates in a row of a lane. -/
def State.lowRun (s : State) (p l snr eye : Nat) : Nat := if fomOf snr eye < s.elecCtl p 32 8 then (s.elec p).low.toList.getD l 0 + 1 else 0

theorem State.fomUpdate_eq {l : Nat} (snr eye uncorr : Nat) (hl : l < 4) : s.fomUpdate p l snr eye uncorr =
    if s.elecState p ≠ 6 then s.fomSample p l snr eye uncorr
    else if 3 ≤ s.lowRun p l snr eye ∨ 16 < uncorr then (((s.fomSample p l snr eye uncorr).elecDown p).raise 11).elecStart p
    else (s.fomSample p l snr eye uncorr).setElec p { s.elec p with low := vecPut (s.elec p).low l (s.lowRun p l snr eye) } := by
  rw [← State.elecState_fomSample snr eye uncorr hl, State.lowRun, ← State.elecCtl_fomSample l snr eye uncorr 32 8]
  rfl

/-- An update after which the port stays up. -/
theorem State.fomUpdate_up {l : Fin 4} {snr eye uncorr : Nat} (hst : s.elecState p = 6) (hun : uncorr ≤ 16) (h : s.lowRun p l.val snr eye < 3) :
    ((s.fomUpdate p l.val snr eye uncorr).elec p).low[l] = s.lowRun p l.val snr eye ∧ (s.fomUpdate p l.val snr eye uncorr).elecState p = 6 ∧
      ElecOnly s (s.fomUpdate p l.val snr eye uncorr) := by
  rw [State.fomUpdate_eq snr eye uncorr l.isLt, if_neg (by simpa using hst), if_neg (by omega)]
  refine ⟨?_, ?_, (elecOnly_fomSample s p l.val snr eye uncorr).setElec p _⟩
  · rw [State.elec_setElec_self]
    exact vecPut_get _ l _
  · rw [State.elecState_setElec, State.elecState_fomSample snr eye uncorr l.isLt, hst]

theorem Elec.low_eq (x : Elec) (l : Fin 4) : x.low.toList.getD l.val 0 = x.low[l] := by
  simp [List.getD_eq_getElem?_getD]

end

/-- Settles O40: starts and failed starts, the port up at both ends, updates of a lane, replays and PORT_DOWN, row by row. -/
theorem electricalStarts : Obligations.ElectricalStarts := by
  have bar {s : State} {k : State → State} (h : s.recovery = false) : s.bar0 k = k s := s.bar0_eq_of_not_recovery k h
  refine ⟨fun p s h => ?_, fun p s hen ht hd hr => ?_, fun p s h => ?_, fun p s h => ?_, fun p s hrec hen ht hd => ?_,
    fun p s hrec hen ht hd hr => ?_, fun p s hrec hr => ?_, fun p foms s hst hfoms => ?_, fun p foms s h1 h5 => ?_, fun p s h1 h5 => ?_,
    fun p s h => ?_, fun p s h => ?_, fun p s hst hch hme hen => ?_, fun p l snr eye uncorr s h => ?_, fun p l snr eye uncorr s hst hun hfom hlow => ?_,
    fun p l snr eye uncorr s hst hun hfom => ?_, fun p s h => ?_, fun p s h => ?_, fun q s h => ?_, fun q p s h => ?_⟩
  · exact congrArg Host.Outcome.next (State.elecStart_held h)
  · exact ⟨_, congrArg Host.Outcome.next (State.elecStart_begins hen ht hd), State.elecDetects_facts hr⟩
  · exact congrArg Host.Outcome.next ((if_pos rfl).trans (if_neg (by rw [h]; decide)))
  · refine ⟨_, congrArg Host.Outcome.next ((if_pos rfl).trans (if_pos h)), ?_⟩
    refine (State.epF_setEpBit_below _ (by decide) (by decide)).trans ?_
    exact State.epF_setEpF eElecStatus 0 4 1 (by decide)
  · exact congrArg Host.Outcome.next (bar hrec)
  · have ready := (State.ready_setElecBit (p := p.val) (i := ecEnable) true p.isLt).trans hr
    have on : (s.setElecBit p.val ecEnable true).elecBit p.val ecEnable = true := State.elecBit_setElecBit _ _ _ _ (by decide)
    have bit {j : Nat} (hj : j ≠ ecEnable) : (s.setElecBit p.val ecEnable true).elecBit p.val j = s.elecBit p.val j :=
      State.elecBit_setElecBit_other true (by decide) hj
    have run : s.elecEnable p.val true = (s.setElecBit p.val ecEnable true).elecDetects p.val := by
      rw [State.elecEnable, hen]
      exact State.elecStart_begins on ((bit (by decide)).trans ht) ((bit (by decide)).trans hd)
    obtain ⟨state, -, -, -, -, -, rest⟩ := State.elecDetects_facts ready
    exact ⟨_, congrArg Host.Outcome.next ((bar hrec).trans run), (State.elecBit_elecDetects ready _).trans on, state,
      ((ElecOnly.refl s).setElecBit _ _ _).trans rest⟩
  · have ready := (State.ready_setElecBit (p := p.val) (i := ecEnable) false p.isLt).trans hr
    refine ⟨_, congrArg Host.Outcome.next (bar hrec), ?_, State.elecState_elecDown _ _, ((ElecOnly.refl s).setElecBit _ _ _).trans (elecOnly_elecDown ready)⟩
    exact (State.elecBit_elecDown ready _).trans (State.elecBit_setElecBit _ _ _ _ (by decide))
  · have waits : ¬ (s.elecState p.val ≠ 9 ∧ !s.elecStarting p.val) := by
      simp only [State.elecStarting, inRange]
      simp
      omega
    obtain ⟨hctl, -, -, hrest, hlanes⟩ := s.putFoms_facts p.val foms
    have run := State.fomCheck_eq (partnerOk := true) foms waits
    generalize s.forAll lanes _ = t at *
    rw [if_pos (by rw [hctl, List.all_eq_true.mpr (foms_all hfoms)]; rfl)] at run
    refine ⟨_, congrArg Host.Outcome.next run, State.elecState_setElecState (by decide), ?_, ?_, fun l => ⟨?_, ?_⟩, (hrest.setElec _ _).setElecState _ _⟩
    · exact (congrArg Elec.checked (State.elec_setElec_self _) :)
    · exact (congrArg Elec.measured (State.elec_setElec_self _) :)
    · refine (State.regF_congr (State.reg_setRegF_ne _ _ _ _ _ _ (laneReg_ne_link (by decide))) 0 8).trans (hlanes l).1
    · rw [State.elecFlag_setElecState _ (by omega), State.elecFlag_setElec, (hlanes l).2]
      exact decide_eq_false (Nat.not_lt.mpr (hfoms l))
  · have waits : ¬ (s.elecState p.val ≠ 9 ∧ !s.elecStarting p.val) := by
      simp [State.elecStarting, inRange, h1, h5]
    obtain ⟨-, hst, hfails, hrest, -⟩ := s.putFoms_facts p.val foms
    have run := State.fomCheck_eq (partnerOk := false) foms waits
    generalize s.forAll lanes _ = t at *
    rw [if_neg (by simp)] at run
    obtain ⟨state, wait, fails, rest⟩ := State.elecFail_starting (s := t) (p := p.val) (by omega) (by omega)
    exact ⟨_, congrArg Host.Outcome.next run, state, wait, fails.trans (by rw [hfails]), hrest.trans rest⟩
  · exact ⟨_, rfl, State.elecFail_starting h1 h5⟩
  · exact congrArg Host.Outcome.next (State.elecFail_waking h)
  · refine congrArg Host.Outcome.next (if_neg ?_)
    obtain h | h | h := h
    · exact fun g => h g.1
    · simp [h]
    · simp [h]
  · exact ⟨_, congrArg Host.Outcome.next (if_pos ⟨hst, hch, hme, hen⟩), State.rises_facts p.isLt (State.elecState_setElecState (by decide))⟩
  · obtain ⟨fom, low, snr', eye', unc⟩ := s.fomSample_facts p.val l.val snr eye uncorr
    exact ⟨_, congrArg Host.Outcome.next ((State.fomUpdate_eq snr eye uncorr l.isLt).trans (if_pos h)), fom, low, snr', eye', unc,
      State.regsOnly_fomSample s p.val l.val snr eye uncorr, fun a ha => State.reg_fomSample_ne ha⟩
  · have run : s.lowRun p.val l.val snr eye = (s.elec p.val).low[l] + 1 := by
      rw [State.lowRun, if_pos hfom, Elec.low_eq]
    obtain ⟨low, state, rest⟩ := State.fomUpdate_up (l := l) (snr := snr) (eye := eye) hst hun (by omega)
    exact ⟨_, rfl, low.trans run, state, rest⟩
  · have run : s.lowRun p.val l.val snr eye = 0 := if_neg (by omega)
    obtain ⟨low, state, rest⟩ := State.fomUpdate_up (l := l) (snr := snr) (eye := eye) hst hun (by omega)
    exact ⟨_, rfl, low.trans run, state, rest⟩
  · exact ⟨_, congrArg Host.Outcome.next (if_pos h), s.reg_count _, s.onlyRegs_setReg _ _ _ (by simp)⟩
  · exact congrArg Host.Outcome.next (if_neg (by rw [h]; decide))
  · exact ⟨_, congrArg Host.Outcome.next (if_pos h), rfl, State.elecState_elecDown s q.val⟩
  · have run : s.signalLost q.val = s.optDown p.val := by
      rw [State.signalLost, if_neg (by omega), h, Nat.add_sub_cancel_left]
    exact congrArg Host.Outcome.next run

end Sys2Proof.Machine
end

section
/-! SUPPORT. Lasers and active sets of an optical port. -/

namespace Sys2Proof.Machine

section
variable {s t u : State} {i k : Nat}

/-! ### Events of a module that is no gateway's member -/

theorem State.host_raise_own (h : s.behindGateway = false) (v : Nat) : (s.raise v).host.member = s.host.member := by
  unfold State.raise
  dsimp only
  rw [if_neg (by simp [h])]
  split
  · rfl
  · split
    · rfl
    · rfl

theorem State.behindGateway_congr (hm : t.host.member = s.host.member) (hn : t.reg rGwNode = s.reg rGwNode) (hg : t.reg rGlbNode = s.reg rGlbNode) :
    t.behindGateway = s.behindGateway := by
  rw [State.behindGateway, State.node, hm, State.regF_congr hn, State.regF_congr hg, State.behindGateway, State.node]

/-- What an event of the module leaves: every register, every optical port, and the module's place in the fabric. -/
theorem State.raise_leaves (h : s.behindGateway = false) (v : Nat) : (∀ a, (s.raise v).reg a = s.reg a) ∧ (s.raise v).opts = s.opts ∧
    (s.raise v).behindGateway = false := by
  obtain ⟨o, x, e⟩ := State.raise_own h v
  have regs (a : Nat) : (s.raise v).reg a = s.reg a := by
    rw [e]
    rfl
  refine ⟨regs, by rw [e], ?_⟩
  rw [State.behindGateway_congr (State.host_raise_own h v) (regs _) (regs _), h]

theorem gwNode_ne_wlStat : rGwNode ≠ wlStat i k := by
  unfold wlStat wlReg rPortBlock rGwNode
  omega

theorem glbNode_ne_wlStat : rGlbNode ≠ wlStat i k := by
  unfold wlStat wlReg rPortBlock rGlbNode
  omega

theorem gwNode_ne_link {n off : Nat} : rGwNode ≠ linkReg n off := by
  unfold linkReg rPortBlock rGwNode
  omega

theorem glbNode_ne_link {n off : Nat} : rGlbNode ≠ linkReg n off := by
  unfold linkReg rPortBlock rGlbNode
  omega

/-- A flag of WL_STATUS is set, and nothing else of the port's changes. -/
theorem State.wlFlag_facts (h : s.behindGateway = false) {bit : Nat} (hb : bit < 64) : (s.wlFlag i k bit).regBit (wlStat i k) bit = true ∧
    (∀ lo len, lo + len ≤ bit ∨ bit + 1 ≤ lo → (s.wlFlag i k bit).regF (wlStat i k) lo len = s.regF (wlStat i k) lo len) ∧
    (∀ a, a ≠ wlStat i k → (s.wlFlag i k bit).reg a = s.reg a) ∧ (s.wlFlag i k bit).opts = s.opts ∧ (s.wlFlag i k bit).behindGateway = false := by
  unfold State.wlFlag
  split
  case isTrue hset => exact ⟨hset, fun _ _ _ => rfl, fun _ _ => rfl, rfl, h⟩
  case isFalse =>
    have other {a : Nat} (ha : a ≠ wlStat i k) : (s.setRegBit (wlStat i k) bit true).reg a = s.reg a := State.reg_setRegBit_ne _ _ _ _ _ ha
    have gw : (s.setRegBit (wlStat i k) bit true).behindGateway = false := by
      rw [State.behindGateway_congr (s := s) (t := s.setRegBit (wlStat i k) bit true) rfl (other gwNode_ne_wlStat) (other glbNode_ne_wlStat), h]
    obtain ⟨regs, opts, gw'⟩ := State.raise_leaves gw 10
    refine ⟨(State.regBit_congr (regs _) bit).trans (State.regBit_setRegBit _ _ _ _ hb), fun lo len hf => ?_, fun a ha => (regs a).trans (other ha), opts,
      gw'⟩
    refine (State.regF_congr (regs _) lo len).trans ?_
    obtain hf | hf := hf
    · exact State.regF_setRegF_below _ _ _ _ _ _ _ hb hf
    · exact State.regF_setRegF_above _ _ _ _ _ _ _ hb hf

/-! ### The laser pair -/

theorem State.laser_setLaser {v : Nat} (hv : v < 8) : (s.setLaser i k v).laser i k = v := by
  rw [State.laser, State.setLaser, State.regF_setRegF _ _ _ _ _ (by decide), show 2 ^ 3 = 8 from rfl, Nat.mod_eq_of_lt hv]

theorem State.laser_congr (h : t.reg (wlStat i k) = s.reg (wlStat i k)) : t.laser i k = s.laser i k := State.regF_congr h 13 3

theorem State.wlBit_setLaser (v : Nat) {j : Nat} (h : j < 13) : (s.setLaser i k v).regBit (wlStat i k) j = s.regBit (wlStat i k) j :=
  congrArg (fun n : Nat => decide (n = 1)) (State.regF_setRegF_below _ _ _ _ _ _ _ (by decide) h)

theorem State.laser_setRegBit {j : Nat} (b : Bool) (h : j < 13) : (s.setRegBit (wlStat i k) j b).laser i k = s.laser i k :=
  State.regF_setRegF_above _ _ _ _ _ _ _ (by omega) h

theorem State.laser_setRingSt (rx : Bool) (v : Nat) : (s.setRingSt i k rx v).laser i k = s.laser i k :=
  State.regF_setRegF_below _ _ _ _ _ _ _ (ringSt_fits rx) (by cases rx <;> decide)

theorem State.wlBit_setRingSt (rx : Bool) (v : Nat) {j : Nat} (h : j < 16) : (s.setRingSt i k rx v).regBit (wlStat i k) j = s.regBit (wlStat i k) j :=
  congrArg (fun n : Nat => decide (n = 1)) (State.regF_setRegF_below _ _ _ _ _ _ _ (ringSt_fits rx) (by cases rx <;> simp <;> omega))

theorem State.laser_setWave (w : Wave) : (s.setWave i k w).laser i k = s.laser i k := rfl
theorem State.onSpare_setWave (w : Wave) : (s.setWave i k w).onSpare i k = s.onSpare i k := rfl
theorem State.ringSt_setWave (w : Wave) (rx : Bool) : (s.setWave i k w).ringSt i k rx = s.ringSt i k rx := rfl

theorem State.opts_setLaser (v : Nat) : (s.setLaser i k v).opts = s.opts := rfl

theorem State.reg_setLaser_ne {a : Nat} (v : Nat) (h : a ≠ wlStat i k) : (s.setLaser i k v).reg a = s.reg a := State.reg_setRegF_ne _ _ _ _ _ _ h

theorem State.fade_powers (hl : s.laser i k = 0) (hm : (s.opt i).melium = false) : s.fade i k = s.setLaser i k 1 := if_pos ⟨hl, by rw [hm]; rfl⟩

/-- A fading laser changes its own WL_STATUS alone. -/
theorem State.fade_leaves (h : s.behindGateway = false) : (∀ a, a ≠ wlStat i k → (s.fade i k).reg a = s.reg a) ∧ (s.fade i k).opts = s.opts := by
  unfold State.fade
  split
  · exact ⟨fun a ha => State.reg_setLaser_ne 1 ha, rfl⟩
  · split
    · obtain ⟨-, -, regs, opts, -⟩ := State.wlFlag_facts (i := i) (k := k) h (bit := 10) (by decide)
      exact ⟨regs, opts⟩
    · exact ⟨fun _ _ => rfl, rfl⟩

/-- A failed laser whose spare can take over. -/
def State.laserFailed (s : State) (i k : Nat) : State :=
  (s.setWave i k { s.wave i k with lit := false, failed := true, samples := [], join := false, joinAck := none }).setLaser i k 1

theorem State.laserFails_spared (hl : s.laser i k < 3) (hm : (s.opt i).melium = false) (hout : (s.activeSet i false).getLsbD k = false) :
    s.laserFails i k = s.laserFailed i k := by
  have stays : (s.setWave i k { s.wave i k with lit := false, failed := true, samples := [], join := false, joinAck := none }).leaveSet i k false =
      s.setWave i k { s.wave i k with lit := false, failed := true, samples := [], join := false, joinAck := none } := State.leaveSet_of_out hout
  rw [State.laserFails, if_pos ⟨hl, by rw [hm]; rfl⟩, State.laserFailed]
  exact congrArg (State.setLaser · i k 1) stays

theorem State.laserFailed_facts (hk : k < 16) : (s.laserFailed i k).laser i k = 1 ∧ ((s.laserFailed i k).wave i k).failed = true ∧
    ((s.laserFailed i k).wave i k).lit = false ∧ { s.laserFailed i k with regs := s.regs, opts := s.opts } = s := by
  have wave : (s.laserFailed i k).wave i k = { s.wave i k with lit := false, failed := true, samples := [], join := false, joinAck := none } :=
    (State.wave_congr (State.opts_setLaser 1) i k).trans (State.wave_setWave hk _)
  exact ⟨State.laser_setLaser (by decide), by rw [wave], by rw [wave], rfl⟩

/-! ### Samples and estimates -/

/-- The state after a sample that shows no failure, before flags are set. -/
def State.mpdKept (s : State) (i k : Nat) (v : Int) (fb : Option Int) : State :=
  (s.setWave i k { s.wave i k with samples := (v :: (s.wave i k).samples).take 16, fallback := fb }).setRegF (wlReg (64 + i) k 8) 0 16
    (BitVec.ofInt 16 (meanOf ((v :: (s.wave i k).samples).take 16))).toNat

theorem State.mpdKept_facts (hk : k < 16) (v : Int) (fb : Option Int) :
    ((s.mpdKept i k v fb).wave i k).samples = (v :: (s.wave i k).samples).take 16 ∧
    (s.mpdKept i k v fb).regF (wlReg (64 + i) k 8) 0 16 = (BitVec.ofInt 16 (meanOf ((v :: (s.wave i k).samples).take 16))).toNat := by
  have wave : (s.mpdKept i k v fb).wave i k = { s.wave i k with samples := (v :: (s.wave i k).samples).take 16, fallback := fb } :=
    State.wave_setWave hk _
  refine ⟨by rw [wave], ?_⟩
  rw [State.mpdKept, State.regF_setRegF _ _ _ _ _ (by decide)]
  exact Nat.mod_eq_of_lt (BitVec.isLt _)

theorem State.behindGateway_mpdKept (v : Int) (fb : Option Int) : (s.mpdKept i k v fb).behindGateway = s.behindGateway := by
  refine State.behindGateway_congr rfl (State.reg_setRegF_ne _ _ _ _ _ _ ?_) (State.reg_setRegF_ne _ _ _ _ _ _ ?_)
  · unfold wlReg rPortBlock rGwNode
    omega
  · unfold wlReg rPortBlock rGlbNode
    omega

/-- Flags and the fade that a kept sample brings touch WL_STATUS alone. -/
theorem State.mpdSample_leaves (hgw : s.behindGateway = false) (hlit : (s.wave i k).lit = true) {v : Int}
    (h : ∀ x ∈ (s.wave i k).samples.head?, x - v ≤ 600) : ∃ fb, (s.mpdSample i k v).reg (wlReg (64 + i) k 8) = (s.mpdKept i k v fb).reg (wlReg (64 + i) k 8) ∧
      (s.mpdSample i k v).opts = (s.mpdKept i k v fb).opts := by
  refine ⟨if (s.laserBase i k (s.onSpare i k)).isNone && (s.wave i k).fallback.isNone && ((v :: (s.wave i k).samples).take 16).length = 16 then
    some (meanOf ((v :: (s.wave i k).samples).take 16)) else (s.wave i k).fallback, ?_⟩
  unfold State.mpdSample
  extract_lets w l m spare fb t
  have gw : t.behindGateway = false := (State.behindGateway_mpdKept v fb).trans hgw
  have apart : wlReg (64 + i) k 8 ≠ wlStat i k := wlReg_ne_wlStat (by decide)
  rw [if_neg (by rw [hlit]; decide)]
  rw [if_neg]
  case hnc =>
    intro far
    split at far
    · next x r hs =>
      have near := h x (by rw [show (s.wave i k).samples = x :: r from hs]; rfl)
      exact absurd (of_decide_eq_true far) (by omega)
    · exact absurd far (by decide)
  split
  · exact ⟨rfl, rfl⟩
  next b _ =>
    extract_lets t'
    have flagged : (∀ a, a ≠ wlStat i k → t'.reg a = t.reg a) ∧ t'.opts = t.opts ∧ t'.behindGateway = false := by
      unfold t'
      split
      · obtain ⟨-, -, regs, opts, gw'⟩ := State.wlFlag_facts (i := i) (k := k) gw (bit := 8) (by decide)
        exact ⟨regs, opts, gw'⟩
      · exact ⟨fun _ _ => rfl, rfl, gw⟩
    clear_value t'
    obtain ⟨regs, opts, gw'⟩ := flagged
    split
    · obtain ⟨regs', opts'⟩ := State.fade_leaves (i := i) (k := k) gw'
      exact ⟨(regs' _ apart).trans (regs _ apart), opts'.trans opts⟩
    · exact ⟨regs _ apart, opts⟩

/-! ### Active sets -/

theorem State.onlyOptState_setRegF {lo len v : Nat} (h64 : lo + len ≤ 64) (h : 4 ≤ lo) : (s.setRegF (linkReg (64 + i) lStatus) lo len v).optState i = s.optState i :=
  State.regF_setRegF_below _ _ _ _ _ _ _ h64 h

/-- The wavelengths' ACTIVE bits, which follow the transmit set. -/
def State.putActiveBits (s : State) (i : Nat) (rx : Bool) (m : BitVec 16) : State :=
  if rx then s else s.forAll (List.range 16) (fun s k => s.setRegBit (wlStat i k) 2 (m.getLsbD k))

theorem State.reg_putActiveBits (rx : Bool) (m : BitVec 16) {a : Nat} (h : ∀ k, a ≠ wlStat i k) : (s.putActiveBits i rx m).reg a = s.reg a := by
  unfold State.putActiveBits
  split
  · rfl
  · exact State.forAll_proj (fun u => u.reg a) fun u k => State.reg_setRegBit_ne _ _ _ _ _ (h k)

theorem State.opts_host_putActiveBits (s : State) (i : Nat) (rx : Bool) (m : BitVec 16) :
    (s.putActiveBits i rx m).opts = s.opts ∧ (s.putActiveBits i rx m).host = s.host := by
  unfold State.putActiveBits
  split
  · exact ⟨rfl, rfl⟩
  · exact ⟨State.forAll_proj State.opts fun _ _ => rfl, State.forAll_proj State.host fun _ _ => rfl⟩

theorem activeSet_fits (rx : Bool) : (if rx then 16 else 0) + 16 ≤ 64 := by
  cases rx
  · decide
  · decide

theorem State.activeSet_setRegF (rx : Bool) (m : BitVec 16) :
    (s.setRegF (linkReg (64 + i) lActive) (if rx then 16 else 0) 16 m.toNat).activeSet i rx = m := by
  rw [State.activeSet, State.regF_setRegF _ _ _ _ _ (activeSet_fits rx), Nat.mod_eq_of_lt m.isLt, BitVec.ofNat_toNat, BitVec.setWidth_eq]

theorem State.activeSet_setRegF_other (rx : Bool) (m : BitVec 16) :
    (s.setRegF (linkReg (64 + i) lActive) (if rx then 16 else 0) 16 m.toNat).activeSet i (!rx) = s.activeSet i (!rx) := by
  refine congrArg (BitVec.ofNat 16) ?_
  cases rx
  · exact State.regF_setRegF_above _ _ _ _ _ _ _ (by decide) (by decide)
  · exact State.regF_setRegF_below _ _ _ _ _ _ _ (by decide) (by decide)

/-- An active set that is written, by a module that is no gateway's member. -/
theorem State.putActive_facts (h : s.behindGateway = false) (rx : Bool) (m : BitVec 16) : (s.putActive i rx m).activeSet i rx = m ∧
    (s.putActive i rx m).activeSet i (!rx) = s.activeSet i (!rx) ∧ (s.putActive i rx m).optState i = s.optState i ∧
    (s.putActive i rx m).opts = s.opts ∧ (s.putActive i rx m).behindGateway = false := by
  unfold State.putActive
  extract_lets n t1 t2 least u deg
  have bits : t2 = t1.putActiveBits i rx m := rfl
  have reg1 {a : Nat} (ha : a ≠ linkReg n lActive) : t1.reg a = s.reg a := State.reg_setRegF_ne _ _ _ _ _ _ ha
  have reg2 {a : Nat} (ha : ∀ k, a ≠ wlStat i k) : t2.reg a = t1.reg a := by
    rw [bits]
    exact State.reg_putActiveBits rx m ha
  have link {off : Nat} (ho : off < 0x200) (k : Nat) : linkReg n off ≠ wlStat i k := (wlStat_ne_link ho).symm
  have regU {a : Nat} (ha : a ≠ linkReg n lStatus) : u.reg a = t2.reg a := State.reg_setRegF_ne _ _ _ _ _ _ ha
  have active (r : Bool) : u.activeSet i r = t1.activeSet i r :=
    State.activeSet_congr ((regU (linkReg_ne n (by decide))).trans (reg2 (link (by decide)))) r
  have state : u.optState i = s.optState i := by
    refine (State.onlyOptState_setRegF (by decide) (by decide)).trans (State.regF_congr ?_ 0 4)
    exact (reg2 (link (by decide))).trans (reg1 (linkReg_ne n (by decide)))
  have opts : u.opts = s.opts := by
    have e : t2.opts = t1.opts := by
      rw [bits]
      exact (State.opts_host_putActiveBits t1 i rx m).1
    exact e
  have gw : u.behindGateway = false := by
    have e : t2.host = t1.host := by
      rw [bits]
      exact (State.opts_host_putActiveBits t1 i rx m).2
    refine (State.behindGateway_congr (t := u) (s := s) (congrArg (·.member) e) ?_ ?_).trans h
    · exact (regU gwNode_ne_link).trans ((reg2 fun k => gwNode_ne_wlStat).trans (reg1 gwNode_ne_link))
    · exact (regU glbNode_ne_link).trans ((reg2 fun k => glbNode_ne_wlStat).trans (reg1 glbNode_ne_link))
  have own : t1.activeSet i rx = m := State.activeSet_setRegF rx m
  have other : t1.activeSet i (!rx) = s.activeSet i (!rx) := State.activeSet_setRegF_other rx m
  clear_value u
  split
  · exact ⟨(active rx).trans own, (active !rx).trans other, state, opts, gw⟩
  · have regD {a : Nat} (ha : a ≠ linkReg n lStatus) : (u.setRegBit (linkReg n lStatus) 13 deg).reg a = u.reg a := State.reg_setRegBit_ne _ _ _ _ _ ha
    have gwD : (u.setRegBit (linkReg n lStatus) 13 deg).behindGateway = false := by
      rw [State.behindGateway_congr (s := u) (t := u.setRegBit (linkReg n lStatus) 13 deg) rfl (regD gwNode_ne_link) (regD glbNode_ne_link), gw]
    obtain ⟨regs, opts', gw'⟩ := State.raise_leaves gwD 10
    have act (r : Bool) := (State.activeSet_congr ((regs _).trans (regD (linkReg_ne n (by decide)))) r).trans (active r)
    refine ⟨(act rx).trans own, (act !rx).trans other, ?_, opts'.trans opts, gw'⟩
    exact ((State.regF_congr (regs _) 0 4).trans (State.regF_setRegF_below _ _ _ _ _ _ _ (by decide) (by decide))).trans state

/-! ### Spares -/

theorem State.spareWarm_other (h : s.laser i k ≠ 1) : s.spareWarm i k = s := if_pos h
theorem State.spareLost_other (h : s.laser i k ≠ 1) : s.spareLost i k = s := if_pos h

theorem State.spareWarm_announces (h : s.laser i k = 1) (hf : (s.wave i k).failed = false) : s.spareWarm i k =
    ((s.setLaser i k 2).setWave i k { s.wave i k with swapAck := false }).emit (.word (64 + i) (.swap k)) := by
  rw [State.spareWarm, if_neg (fun g => g h), if_neg (by rw [hf]; decide)]

theorem State.spareWarm_carries (h : s.laser i k = 1) (hf : (s.wave i k).failed = true) : s.spareWarm i k =
    (((s.setLaser i k 3).setRegBit (wlStat i k) 12 true).setRingSt i k false 1).setWave i k
      { s.wave i k with failed := false, lit := true, samples := [] } := by
  rw [State.spareWarm, if_neg (fun g => g h), if_pos hf]

theorem State.spareLost_lost (h : s.laser i k = 1) (hf : (s.wave i k).failed = false) : s.spareLost i k = (s.wlFlag i k 11).setLaser i k 4 := by
  rw [State.spareLost, if_neg (fun g => g h), if_neg (by rw [hf]; decide)]

/-- The spare carries after a failure. -/
theorem State.carries_facts (hk : k < 16) (w : Wave) :
    let t := (((s.setLaser i k 3).setRegBit (wlStat i k) 12 true).setRingSt i k false 1).setWave i k w
    t.laser i k = 3 ∧ t.onSpare i k = true ∧ t.ringSt i k false = 1 ∧ t.wave i k = w := by
  refine ⟨?_, ?_, ?_, State.wave_setWave hk w⟩
  · rw [State.laser_setWave, State.laser_setRingSt, State.laser_setRegBit _ (by decide), State.laser_setLaser (by decide)]
  · rw [State.onSpare_setWave, State.onSpare, State.wlBit_setRingSt _ _ (by decide), State.regBit_setRegBit _ _ _ _ (by decide)]
  · rw [State.ringSt_setWave, State.ringSt_setRingSt _ (by decide)]

/-- A wavelength that the partner takes out of the transmit set of a port left with enough of them. -/
theorem State.leaveSet_enough (hin : (s.activeSet i false).getLsbD k = true)
    (h : s.optState i = 7 → s.optMin i ≤ setCount (s.activeSet i false &&& ~~~(BitVec.ofNat 16 (2 ^ k)))) :
    s.leaveSet i k false = s.putActive i false (s.activeSet i false &&& ~~~(BitVec.ofNat 16 (2 ^ k))) := by
  rw [State.leaveSet, if_pos hin]
  exact if_neg fun g => absurd g.2 (Nat.not_lt.mpr (h g.1))

theorem State.fomEstimate_eq {v : Int} (hlit : (s.wave i k).lit = true) : s.fomEstimate i k v =
    let t := (s.setReg (wlReg (64 + i) k 0x10) (BitVec.ofInt 64 v)).setWave i k { s.wave i k with badWin := decide (v < 0) }
    if (s.wave i k).badWin ∧ v < 0 ∧ !s.excluded i k then t.exclude i k 3 else if v < 150 then t.fade i k else t := by
  unfold State.fomEstimate
  extract_lets w t t'
  exact if_neg (by rw [show w.lit = true from hlit]; decide)

/-- The state after an estimate, before it is judged. -/
def State.fomKept (s : State) (i k : Nat) (v : Int) : State :=
  (s.setReg (wlReg (64 + i) k 0x10) (BitVec.ofInt 64 v)).setWave i k { s.wave i k with badWin := decide (v < 0) }

theorem State.reg_fomKept_ne {v : Int} {a : Nat} (h : a ≠ wlReg (64 + i) k 0x10) : (s.fomKept i k v).reg a = s.reg a :=
  State.reg_setReg_ne _ _ _ _ h

theorem State.wave_fomKept (hk : k < 16) (v : Int) : (s.fomKept i k v).wave i k = { s.wave i k with badWin := decide (v < 0) } :=
  State.wave_setWave hk _

theorem wlReg_ne_gw {n off : Nat} : rGwNode ≠ wlReg n k off ∧ rGlbNode ≠ wlReg n k off := by
  unfold wlReg rPortBlock rGwNode rGlbNode
  omega

end

/-- Settles O39: samples, estimates, failures, spares, announcements and the transmit set, row by row. -/
theorem lasers : Obligations.Lasers := by
  refine ⟨fun p k v s h => ?_, fun p k v s hlit hgw h => ?_, fun p k v x s hlit hx hfar hl hm hout => ?_, fun p k s hlit hl hm hout => ?_,
    fun p k v s hv hlit => ?_, fun p k v s h0 hv hlit hl hm => ?_, fun p k v s hv hlit hbad hex hgw htx hrx => ?_, fun p k s h => ⟨?_, ?_⟩,
    fun p k s h hf => ?_, fun p k s h hf => ?_, fun p k s h hf hgw => ?_, fun p k s h => ?_, fun p k s h => ?_, fun p k s h => ?_,
    fun p k s hin hgw h => ?_, fun p k s h => ?_, fun p k s h => ?_, fun p k s h => ⟨?_, ?_⟩, fun p k s h => ⟨?_, ?_⟩⟩
  · exact congrArg Host.Outcome.next (if_pos (by rw [h]; rfl))
  · obtain ⟨fb, hreg, hopts⟩ := State.mpdSample_leaves hgw hlit h
    obtain ⟨samples, power⟩ := State.mpdKept_facts (s := s) (i := p.val) k.isLt v fb
    exact ⟨_, rfl, (congrArg Wave.samples (State.wave_congr hopts _ _)).trans samples, (State.regF_congr hreg 0 16).trans power⟩
  · have run : s.mpdSample p.val k.val v = s.laserFailed p.val k.val := by
      rw [← State.laserFails_spared hl hm hout]
      unfold State.mpdSample
      extract_lets w l m spare fb t
      rw [if_neg (by rw [show w.lit = true from hlit]; decide), if_pos]
      case hc =>
        split
        · next y r hs =>
          have same : some y = some x := (congrArg List.head? (show (s.wave p.val k.val).samples = y :: r from hs)).symm.trans hx
          rw [Option.some.inj same]
          exact decide_eq_true hfar
        · next hs => exact absurd ((congrArg List.head? (show (s.wave p.val k.val).samples = [] from hs)).symm.trans hx) (by simp)
    obtain ⟨laser, failed, lit, -⟩ := State.laserFailed_facts (s := s) (i := p.val) k.isLt
    exact ⟨_, congrArg Host.Outcome.next run, laser, failed, lit⟩
  · have run : s.laserFails p.val k.val = s.laserFailed p.val k.val := State.laserFails_spared hl hm hout
    exact ⟨_, congrArg Host.Outcome.next ((if_pos hlit).trans run), State.laserFailed_facts k.isLt⟩
  · have run : s.fomEstimate p.val k.val v = s.fomKept p.val k.val v := by
      rw [State.fomEstimate_eq hlit]
      exact (if_neg fun g => absurd g.2.1 (by omega)).trans (if_neg (by omega))
    refine ⟨_, congrArg Host.Outcome.next run, (State.reg_setReg ..).trans (if_pos rfl), ?_, rfl, fun a ha => State.reg_fomKept_ne ha⟩
    rw [State.wave_fomKept k.isLt]
    exact decide_eq_false (by omega)
  · have kept : (s.fomKept p.val k.val v).laser p.val k.val = s.laser p.val k.val := State.laser_congr (State.reg_fomKept_ne (wlReg_ne_wlStat (by decide)).symm)
    have melium : ((s.fomKept p.val k.val v).opt p.val).melium = false := (State.melium_setWave _).trans hm
    have run : s.fomEstimate p.val k.val v = (s.fomKept p.val k.val v).setLaser p.val k.val 1 := by
      rw [State.fomEstimate_eq hlit, ← State.fade_powers (kept.trans hl) melium]
      exact (if_neg fun g => absurd g.2.1 (by omega)).trans (if_pos hv)
    refine ⟨_, congrArg Host.Outcome.next run, State.laser_setLaser (by decide), ?_⟩
    rw [State.wave_congr (State.opts_setLaser (s := s.fomKept p.val k.val v) 1), State.wave_fomKept k.isLt]
    exact decide_eq_false (by omega)
  · have run : s.fomEstimate p.val k.val v = (s.fomKept p.val k.val v).exclude p.val k.val 3 := by
      rw [State.fomEstimate_eq hlit]
      exact if_pos ⟨hbad, hv, by rw [hex]; rfl⟩
    have gw : (s.fomKept p.val k.val v).behindGateway = false := by
      rw [State.behindGateway_congr (s := s) (t := s.fomKept p.val k.val v) rfl (State.reg_fomKept_ne wlReg_ne_gw.1)
        (State.reg_fomKept_ne wlReg_ne_gw.2), hgw]
    have out (rx : Bool) : ((s.fomKept p.val k.val v).activeSet p.val rx).getLsbD k.val = false := by
      rw [State.activeSet_congr (State.reg_fomKept_ne (wlReg_ne_link (by decide)).symm)]
      cases rx
      · exact htx
      · exact hrx
    obtain ⟨excl, reason, -, -, lit⟩ := State.exclude_facts (reason := 3) k.isLt (by decide) gw out
    exact ⟨_, congrArg Host.Outcome.next run, excl, reason, lit⟩
  · exact congrArg Host.Outcome.next (State.spareWarm_other h)
  · exact congrArg Host.Outcome.next (State.spareLost_other h)
  · refine ⟨_, congrArg Host.Outcome.next (State.spareWarm_announces h hf), State.laser_setLaser (s := s) (by decide), ?_, rfl⟩
    exact (congrArg Wave.swapAck (State.wave_setWave (s := s.setLaser p.val k.val 2) k.isLt _) :)
  · obtain ⟨laser, spare, ring, wave⟩ := State.carries_facts (s := s) (i := p.val) k.isLt
      { s.wave p.val k.val with failed := false, lit := true, samples := [] }
    exact ⟨_, congrArg Host.Outcome.next (State.spareWarm_carries h hf), laser, spare, ring, by rw [wave], by rw [wave]⟩
  · obtain ⟨flag, -⟩ := State.wlFlag_facts (i := p.val) (k := k.val) hgw (bit := 11) (by decide)
    exact ⟨_, congrArg Host.Outcome.next (State.spareLost_lost h hf), State.laser_setLaser (by decide), (State.wlBit_setLaser 4 (by decide)).trans flag⟩
  · exact ⟨_, congrArg Host.Outcome.next (if_pos h), State.wave_setWave k.isLt _, rfl⟩
  · exact congrArg Host.Outcome.next (if_neg h)
  · exact congrArg Host.Outcome.next (State.leaveSet_of_out h)
  · obtain ⟨tx, rx, -⟩ := State.putActive_facts (i := p.val) hgw false (s.activeSet p.val false &&& ~~~(BitVec.ofNat 16 (2 ^ k.val)))
    exact ⟨_, congrArg Host.Outcome.next (State.leaveSet_enough hin h), tx, rx⟩
  · exact ⟨_, congrArg Host.Outcome.next (if_pos h), State.wave_setWave k.isLt _, rfl⟩
  · exact congrArg Host.Outcome.next (if_neg (by rw [h]; decide))
  · exact ⟨_, congrArg Host.Outcome.next (if_pos h), State.wave_setWave k.isLt _, rfl, rfl⟩
  · exact ⟨_, congrArg Host.Outcome.next (if_pos h), State.wave_setWave k.isLt _, rfl, rfl⟩
  · exact congrArg Host.Outcome.next (if_neg h)
  · exact congrArg Host.Outcome.next (if_neg h)

end Sys2Proof.Machine
end

section
/-! SUPPORT. Link starts, restarts and recalibration of an optical port. -/

namespace Sys2Proof.Machine

/-- Nothing differs but BAR0 registers and the optical ports' own state. -/
def OptOnly (s t : State) : Prop := { t with regs := s.regs, opts := s.opts } = s

section
variable {s t u : State} {i k : Nat}

theorem OptOnly.refl (s : State) : OptOnly s s := rfl
theorem OptOnly.eq (h : OptOnly s t) : { t with regs := s.regs, opts := s.opts } = s := h
theorem OptOnly.setReg (h : OptOnly s t) (a : Nat) (v : Word) : OptOnly s (t.setReg a v) := h
theorem OptOnly.setOpt (h : OptOnly s t) (j : Nat) (o : Opt) : OptOnly s (t.setOpt j o) := h
theorem OptOnly.trans (h : OptOnly s t) (g : OptOnly t u) : OptOnly s u := by
  have e := congrArg (fun x : State => { x with regs := s.regs, opts := s.opts }) g.eq
  exact e.trans h

/-! ### What the wavelengths of a port hold -/

/-- Nothing differs but the wavelengths of one optical port and their WL_STATUS. -/
structure WaveOnly (s t : State) (i : Nat) : Prop where
  rest : OptOnly s t
  regs : ∀ a, (∀ k, a ≠ wlStat i k) → t.reg a = s.reg a
  opt : { t.opt i with waves := (s.opt i).waves } = s.opt i

theorem WaveOnly.refl (s : State) (i : Nat) : WaveOnly s s i := ⟨rfl, fun _ _ => rfl, rfl⟩

theorem WaveOnly.setReg (h : WaveOnly s t i) (k : Nat) (v : Word) : WaveOnly s (t.setReg (wlStat i k) v) i :=
  ⟨h.rest, fun a ha => (State.reg_setReg_ne _ _ _ _ (ha k)).trans (h.regs a ha), h.opt⟩

theorem WaveOnly.setRegF (h : WaveOnly s t i) (k lo len v : Nat) : WaveOnly s (t.setRegF (wlStat i k) lo len v) i := h.setReg k _
theorem WaveOnly.setRegBit (h : WaveOnly s t i) (k j : Nat) (b : Bool) : WaveOnly s (t.setRegBit (wlStat i k) j b) i := h.setReg k _
theorem WaveOnly.setRingSt (h : WaveOnly s t i) (k : Nat) (rx : Bool) (v : Nat) : WaveOnly s (t.setRingSt i k rx v) i := h.setReg k _
theorem WaveOnly.setLaser (h : WaveOnly s t i) (k v : Nat) : WaveOnly s (t.setLaser i k v) i := h.setReg k _

theorem WaveOnly.setWave (h : WaveOnly s t i) (k : Nat) (w : Wave) : WaveOnly s (t.setWave i k w) i :=
  ⟨h.rest, h.regs, by rw [State.setWave, State.opt_setOpt, if_pos rfl]; exact h.opt⟩

theorem WaveOnly.forAll {α : Type} {op : State → α → State} {l : List α} (h : WaveOnly s t i) (hop : ∀ u x, WaveOnly s u i → WaveOnly s (op u x) i) :
    WaveOnly s (t.forAll l op) i := State.forAll_induct h hop

theorem WaveOnly.link (h : WaveOnly s t i) {off : Nat} (ho : off < 0x200) : t.reg (linkReg (64 + i) off) = s.reg (linkReg (64 + i) off) :=
  h.regs _ fun _ => (wlStat_ne_link ho).symm

theorem WaveOnly.optState (h : WaveOnly s t i) : t.optState i = s.optState i := State.regF_congr (h.link (by decide)) 0 4

/-! ### Going down and failing -/

theorem State.optDown_of_down (h : s.optState i ≠ 7) : s.optDown i = s.setOptState i 0 := if_neg h

theorem State.optState_setOptState {v : Nat} (hv : v < 16) : (s.setOptState i v).optState i = v := by
  rw [State.optState, State.setOptState, State.regF_setRegF _ _ _ _ _ (by decide), show 2 ^ 4 = 16 from rfl, Nat.mod_eq_of_lt hv]

theorem State.optState_setOpt (o : Opt) (j : Nat) : (s.setOpt i o).optState j = s.optState j := rfl
theorem State.reg_setOpt (o : Opt) (a : Nat) : (s.setOpt i o).reg a = s.reg a := rfl

theorem State.opt_setOpt_self (o : Opt) : (s.setOpt i o).opt i = o := by rw [State.opt_setOpt, if_pos rfl]

theorem State.reg_setOptState_ne {off : Nat} (v : Nat) (h : off ≠ lStatus) : (s.setOptState i v).reg (linkReg (64 + i) off) = s.reg (linkReg (64 + i) off) :=
  State.reg_setRegF_ne _ _ _ _ _ _ (linkReg_ne _ h)

theorem State.optFail_other (h : s.optState i = 0 ∨ 6 < s.optState i) : s.optFail i = s := by
  refine if_neg ?_
  simp [State.optStarting, inRange]
  omega

theorem State.optFail_starting (h1 : 1 ≤ s.optState i) (h6 : s.optState i ≤ 6) : (s.optFail i).optState i = 0 ∧ ((s.optFail i).opt i).wait = true ∧
    (s.optFail i).reg (linkReg (64 + i) lFails) = s.reg (linkReg (64 + i) lFails) + 1 ∧ OptOnly s (s.optFail i) := by
  have counted : (s.count (linkReg (64 + i) lFails)).optState i = s.optState i :=
    State.regF_congr (State.reg_count_ne _ _ _ (linkReg_ne _ (by decide))) 0 4
  have run : s.optFail i = ((s.count (linkReg (64 + i) lFails)).setOptState i 0).setOpt i
      { s.opt i with wait := true, agreed := false, measured := false } := by
    rw [State.optFail, if_pos (by simp [State.optStarting, inRange, h1, h6]), State.optWait, State.optDown_of_down (by omega)]
    rfl
  rw [run]
  refine ⟨?_, ?_, ?_, rfl⟩
  · rw [State.optState_setOpt, State.optState_setOptState (by decide)]
  · rw [State.opt_setOpt_self]
  · rw [State.reg_setOpt, State.reg_setOptState_ne _ (by decide), State.reg_count]

/-! ### A link start -/

theorem waveOnly_startLaser (h : WaveOnly s t i) (k : Nat) : WaveOnly s (t.startLaser i k) i := (h.setLaser k _).setRegBit k 12 _

theorem waveOnly_startWave (h : WaveOnly s t i) (k : Nat) : WaveOnly s (t.startWave i k) i := by
  unfold State.startWave
  extract_lets w tx rx fresh t' go
  have cleared : WaveOnly s t' i := ((h.setRegBit k 3 false).setRegF k 4 2 0).setRegBit k 10 false
  have went {x : State} (hx : WaveOnly s x i) (rx : Bool) : WaveOnly s (go x rx) i := hx.setRingSt k rx _
  split
  · exact h.setWave k _
  · split
    · exact ((cleared.setRingSt k false 0).setRingSt k true 0).setWave k _
    · exact (went (went (waveOnly_startLaser cleared k) false) true).setWave k _

theorem State.optStart_held (h : s.optEnabled i = false ∨ s.optState i = 8) : s.optStart i = s := if_pos (by simpa using h)

/-- The state in which a link start begins at state 1. -/
def State.optBegins (s : State) (i : Nat) : State :=
  let t := (s.optDown i).count (linkReg (64 + i) lStarts)
  let t := t.setOpt i { t.opt i with melium := t.regBit (linkReg (64 + i) lCtl) 2, wait := false, agreed := false, measured := false, rxSet := 0 }
  let t := t.forAll (List.range 16) (fun s k => s.startWave i k)
  (t.setOptState i 1).setRegBit (linkReg (64 + i) lStatus) 14 ((List.range 16).any (fun k => t.ringSt i k false = 6 || t.ringSt i k true = 6))

theorem State.optStart_begins (he : s.optEnabled i = true) (h8 : s.optState i ≠ 8) : s.optStart i = s.optBegins i := if_neg (by simp [he, h8])

theorem State.optBegins_facts (h7 : s.optState i ≠ 7) : (s.optBegins i).optState i = 1 ∧
    (s.optBegins i).reg (linkReg (64 + i) lStarts) = s.reg (linkReg (64 + i) lStarts) + 1 ∧
    ((s.optBegins i).opt i).melium = s.regBit (linkReg (64 + i) lCtl) 2 ∧ ((s.optBegins i).opt i).wait = false ∧
    ((s.optBegins i).opt i).agreed = false ∧ ((s.optBegins i).opt i).measured = false ∧
    (s.optBegins i).reg (linkReg (64 + i) lCtl) = s.reg (linkReg (64 + i) lCtl) ∧ OptOnly s (s.optBegins i) := by
  unfold State.optBegins
  extract_lets t1 o t2 t3
  have down : t1 = (s.setOptState i 0).count (linkReg (64 + i) lStarts) := by
    unfold t1
    rw [State.optDown_of_down h7]
  have starts : t2.reg (linkReg (64 + i) lStarts) = s.reg (linkReg (64 + i) lStarts) + 1 := by
    show t1.reg _ = _
    rw [down, State.reg_count, State.reg_setOptState_ne _ (by decide)]
  have ctl : t2.reg (linkReg (64 + i) lCtl) = s.reg (linkReg (64 + i) lCtl) := by
    show t1.reg _ = _
    rw [down, State.reg_count_ne _ _ _ (linkReg_ne _ (by decide)), State.reg_setOptState_ne _ (by decide)]
  have opt : t2.opt i = { t1.opt i with
      melium := t1.regBit (linkReg (64 + i) lCtl) 2, wait := false, agreed := false, measured := false, rxSet := 0 } := State.opt_setOpt_self _
  have melium : (t2.opt i).melium = s.regBit (linkReg (64 + i) lCtl) 2 := by
    rw [opt]
    exact State.regBit_congr ctl 2
  have rest : OptOnly s t2 := by
    show OptOnly s t1
    rw [down]
    exact rfl
  have waves : WaveOnly t2 t3 i := (WaveOnly.refl t2 i).forAll fun u k hu => waveOnly_startWave hu k
  clear_value t3
  clear_value t2
  have kept := waves.opt
  refine ⟨?_, ?_, ?_, ?_, ?_, ?_, ?_, (rest.trans waves.rest : OptOnly s t3)⟩
  · exact (State.regF_setRegF_below _ _ _ _ _ _ _ (by decide) (by decide)).trans (State.optState_setOptState (by decide))
  · rw [State.reg_setRegBit_ne _ _ _ _ _ (linkReg_ne _ (by decide)), State.reg_setOptState_ne _ (by decide), waves.link (by decide), starts]
  · exact (congrArg Opt.melium kept :).trans melium
  · exact (congrArg Opt.wait kept :).trans (by rw [opt])
  · exact (congrArg Opt.agreed kept :).trans (by rw [opt])
  · exact (congrArg Opt.measured kept :).trans (by rw [opt])
  · rw [State.reg_setRegBit_ne _ _ _ _ _ (linkReg_ne _ (by decide)), State.reg_setOptState_ne _ (by decide), waves.link (by decide), ctl]

/-! ### The enable -/

theorem wlStat_ne_wlStat {j : Nat} (h : j ≠ k) : wlStat i k ≠ wlStat i j := by
  unfold wlStat wlReg
  omega

theorem State.wave_setWave_other {j : Nat} (h : j ≠ k) (w : Wave) : (s.setWave i j w).wave i k = s.wave i k := by
  rw [State.wave, State.setWave, State.opt_setOpt, if_pos rfl, State.wave, List.getD_eq_getElem?_getD, List.getD_eq_getElem?_getD]
  congr 1
  unfold vecPut
  split
  · simp [Vector.getElem?_set_ne _ h]
  · rfl

theorem State.ringSt_setRingSt_other (rx : Bool) (v : Nat) : (s.setRingSt i k rx v).ringSt i k (!rx) = s.ringSt i k (!rx) := by
  cases rx
  · exact State.regF_setRegF_below _ _ _ _ _ _ _ (by decide) (by decide)
  · exact State.regF_setRegF_above _ _ _ _ _ _ _ (by decide) (by decide)

/-- A wavelength's rings, warming spare and laser are turned off. -/
def State.waveDark (s : State) (i k : Nat) : State :=
  let u := (s.setRingSt i k false 0).setRingSt i k true 0
  let u := if u.laser i k = 1 then u.spareDark i k else u
  u.setWave i k { u.wave i k with lit := false }

/-- A wavelength's rings and laser are off. -/
def State.isDark (i k : Nat) (t : State) : Prop := t.ringSt i k false = 0 ∧ t.ringSt i k true = 0 ∧ (t.wave i k).lit = false

theorem waveOnly_spareDark (h : WaveOnly s t i) (k : Nat) : WaveOnly s (t.spareDark i k) i := by
  unfold State.spareDark
  split
  · exact h.setLaser k 0
  · exact h

theorem waveOnly_waveDark (h : WaveOnly s t i) (k : Nat) : WaveOnly s (t.waveDark i k) i := by
  unfold State.waveDark
  extract_lets u u'
  refine WaveOnly.setWave ?_ k _
  unfold u'
  split
  · exact waveOnly_spareDark ((h.setRingSt k false 0).setRingSt k true 0) k
  · exact (h.setRingSt k false 0).setRingSt k true 0

theorem State.isDark_waveDark (s : State) (i : Nat) (hk : k < 16) : (s.waveDark i k).isDark i k := by
  unfold State.waveDark
  extract_lets u u'
  have ring (rx : Bool) : u'.ringSt i k rx = u.ringSt i k rx := by
    unfold u'
    split
    · exact State.regF_spareDark (.inr (by cases rx <;> decide))
    · rfl
  refine ⟨?_, ?_, ?_⟩
  · rw [State.ringSt_setWave, ring]
    exact (State.ringSt_setRingSt_other (s := s.setRingSt i k false 0) true 0).trans (State.ringSt_setRingSt false (by decide))
  · rw [State.ringSt_setWave, ring]
    exact State.ringSt_setRingSt true (by decide)
  · rw [State.wave_setWave hk]

theorem State.isDark.waveDark (h : s.isDark i k) {j : Nat} (hj : j ≠ k) : (s.waveDark i j).isDark i k := by
  obtain ⟨htx, hrx, hlit⟩ := h
  unfold State.waveDark
  extract_lets u u'
  have reg : u.reg (wlStat i k) = s.reg (wlStat i k) := by
    unfold u State.setRingSt
    rw [State.reg_setRegF_ne _ _ _ _ _ _ (wlStat_ne_wlStat hj), State.reg_setRegF_ne _ _ _ _ _ _ (wlStat_ne_wlStat hj)]
  have both : u'.reg (wlStat i k) = u.reg (wlStat i k) ∧ u'.opts = s.opts := by
    unfold u'
    split
    · exact ⟨State.reg_spareDark_ne (wlStat_ne_wlStat hj), State.opts_spareDark u i j⟩
    · exact ⟨rfl, rfl⟩
  obtain ⟨reg', opts⟩ := both
  refine ⟨?_, ?_, ?_⟩
  · exact (State.ringSt_congr (reg'.trans reg) false).trans htx
  · exact (State.ringSt_congr (reg'.trans reg) true).trans hrx
  · rw [State.wave_setWave_other hj, State.wave_congr opts, hlit]

theorem State.optEnable_off (h : s.optState i ≠ 7) : s.optEnable i false =
    (((s.setRegBit (linkReg (64 + i) lCtl) 0 false).setOptState i 0).setOpt i
      { s.opt i with wait := false, agreed := false, measured := false }).forAll (List.range 16) (fun s k => s.waveDark i k) := by
  have state : (s.setRegBit (linkReg (64 + i) lCtl) 0 false).optState i ≠ 7 := by
    rw [State.optState, State.regF_congr (State.reg_setRegBit_ne _ _ _ _ _ (linkReg_ne _ (by decide)))]
    exact h
  unfold State.optEnable
  dsimp only
  rw [State.optDown_of_down state]
  rfl

/-- A port that is turned off. -/
theorem State.optEnable_off_facts (h : s.optState i ≠ 7) : (s.optEnable i false).optEnabled i = false ∧ (s.optEnable i false).optState i = 0 ∧
    (∀ k : Fin 16, (s.optEnable i false).isDark i k.val) ∧ OptOnly s (s.optEnable i false) := by
  rw [State.optEnable_off h]
  have state : ((s.setRegBit (linkReg (64 + i) lCtl) 0 false).setOptState i 0).optState i = 0 := State.optState_setOptState (by decide)
  have off : ((s.setRegBit (linkReg (64 + i) lCtl) 0 false).setOptState i 0).optEnabled i = false :=
    (State.regBit_congr (State.reg_setOptState_ne _ (by decide)) 0).trans (State.regBit_setRegBit s _ _ _ (by decide))
  have rest : OptOnly s ((s.setRegBit (linkReg (64 + i) lCtl) 0 false).setOptState i 0) := rfl
  generalize (s.setRegBit (linkReg (64 + i) lCtl) 0 false).setOptState i 0 = t at *
  have waves : WaveOnly (t.setOpt i { s.opt i with wait := false, agreed := false, measured := false })
      ((t.setOpt i { s.opt i with wait := false, agreed := false, measured := false }).forAll (List.range 16) (fun s k => s.waveDark i k)) i :=
    (WaveOnly.refl _ i).forAll fun u k hu => waveOnly_waveDark hu k
  refine ⟨(State.regBit_congr (waves.link (by decide)) 0).trans off, waves.optState.trans state, fun k => ?_, (rest.setOpt i _).trans waves.rest⟩
  exact State.forAll_of_mem (Q := fun _ => True) (P := State.isDark i k.val) _ (List.mem_range.mpr k.isLt) trivial (fun _ _ _ _ => trivial)
    (fun u _ => u.isDark_waveDark i k.isLt) fun u j _ _ hu hj => hu.waveDark hj

/-! ### Recalibration -/

/-- Both rings of a wavelength begin a sweep. -/
def State.waveSweeps (s : State) (i k : Nat) : State := (s.setRingSt i k false 6).setRingSt i k true 6

theorem State.recalStart_eq (h : s.optState i ≠ 7) : s.recalStart i = (((s.setOptState i 0).setOptState i 8).setOpt i
    { s.opt i with recalWait := false, wait := false }).forAll (List.range 16) (fun s k => s.waveSweeps i k) := by
  rw [State.recalStart, State.optDown_of_down h]
  rfl

theorem State.recalStart_facts (h : s.optState i ≠ 7) : (s.recalStart i).optState i = 8 ∧
    (∀ k : Fin 16, (s.recalStart i).ringSt i k.val false = 6 ∧ (s.recalStart i).ringSt i k.val true = 6) ∧ OptOnly s (s.recalStart i) := by
  rw [State.recalStart_eq h]
  have state : (((s.setOptState i 0).setOptState i 8).setOpt i { s.opt i with recalWait := false, wait := false }).optState i = 8 :=
    State.optState_setOptState (s := s.setOptState i 0) (by decide)
  have rest : OptOnly s (((s.setOptState i 0).setOptState i 8).setOpt i { s.opt i with recalWait := false, wait := false }) := rfl
  generalize ((s.setOptState i 0).setOptState i 8).setOpt i { s.opt i with recalWait := false, wait := false } = t at *
  have waves : WaveOnly t (t.forAll (List.range 16) (fun s k => s.waveSweeps i k)) i :=
    (WaveOnly.refl t i).forAll fun u k hu => (hu.setRingSt k false 6).setRingSt k true 6
  refine ⟨waves.optState.trans state, fun k => ?_, rest.trans waves.rest⟩
  refine State.forAll_of_mem (Q := fun _ => True) (P := fun u => u.ringSt i k.val false = 6 ∧ u.ringSt i k.val true = 6) _
    (List.mem_range.mpr k.isLt) trivial (fun _ _ _ _ => trivial) (fun u _ => ⟨?_, State.ringSt_setRingSt true (by decide)⟩) fun u j _ _ hu hj => ?_
  · exact (State.ringSt_setRingSt_other (s := u.setRingSt i k.val false 6) true 6).trans (State.ringSt_setRingSt false (by decide))
  · have reg : (u.waveSweeps i j).reg (wlStat i k.val) = u.reg (wlStat i k.val) := by
      unfold State.waveSweeps State.setRingSt
      rw [State.reg_setRegF_ne _ _ _ _ _ _ (wlStat_ne_wlStat hj), State.reg_setRegF_ne _ _ _ _ _ _ (wlStat_ne_wlStat hj)]
    obtain ⟨htx, hrx⟩ := hu
    exact ⟨(State.ringSt_congr reg false).trans htx, (State.ringSt_congr reg true).trans hrx⟩

/-- Nothing differs but the Gradebook, the wavelengths of one optical port, and their WL_STATUS. -/
structure RecalOnly (s t : State) (i : Nat) : Prop where
  rest : { t with regs := s.regs, opts := s.opts, gb := s.gb } = s
  regs : ∀ a, (∀ k, a ≠ wlStat i k) → t.reg a = s.reg a

theorem RecalOnly.refl (s : State) (i : Nat) : RecalOnly s s i := ⟨rfl, fun _ _ => rfl⟩
theorem RecalOnly.setGb (h : RecalOnly s t i) (g : Gb) : RecalOnly s { t with gb := g } i := ⟨h.rest, h.regs⟩
theorem RecalOnly.setWave (h : RecalOnly s t i) (k : Nat) (w : Wave) : RecalOnly s (t.setWave i k w) i := ⟨h.rest, h.regs⟩
theorem RecalOnly.setReg (h : RecalOnly s t i) (k : Nat) (v : Word) : RecalOnly s (t.setReg (wlStat i k) v) i :=
  ⟨h.rest, fun a ha => (State.reg_setReg_ne _ _ _ _ (ha k)).trans (h.regs a ha)⟩

theorem RecalOnly.lesson (h : RecalOnly s t i) : t.lesson = s.lesson := h.regs _ fun k => by
  unfold wlStat wlReg rPortBlock rLesson
  omega

/-- The table of the ring of number j reaches the Gradebook. -/
def State.ringStored (s : State) (i : Nat) (offs : List Int) (j : Nat) : State :=
  s.gbWrite 2 (ringIdx i (j / 2) (j % 2 = 1)) 1 (Config.ringBody (s.gbBody 2 (ringIdx i (j / 2) (j % 2 = 1))) (offs.getD j 0))

/-- The baseline of a wavelength's carrying laser reaches the Gradebook, and an exclusion of reason 2 clears. -/
def State.waveStored (s : State) (i k : Nat) : State :=
  let w := s.wave i k
  let idx := laserIdx i k (s.onSpare i k)
  let s := if w.samples.isEmpty then s
    else
      let m := meanOf w.samples
      let u := s.gbWrite 1 idx 1 (Config.laserBody (s.gbBody 1 idx) (some m) (tget (fun _ => false) s.gb.retired idx))
      { u with gb := { u.gb with base := tput (fun _ => none) u.gb.base idx (some m) } }
  let s := s.setWave i k { w with tx := {}, rx := {}, fallback := none }
  if s.excluded i k ∧ s.regF (wlStat i k) 4 2 = 2 then (s.setRegBit (wlStat i k) 3 false).setRegF (wlStat i k) 4 2 0 else s

/-- The state in which a recalibration's results are stored. -/
def State.recalStored (s : State) (i : Nat) (offs : List Int) : State :=
  (s.forAll (List.range 32) (fun s j => s.ringStored i offs j)).forAll (List.range 16) (fun s k => s.waveStored i k)

theorem State.recalEnd_eq (h : s.optState i = 8) (offs : List Int) : s.recalEnd i offs = ((s.recalStored i offs).setOptState i 0).optStart i :=
  if_neg fun g => g h

theorem RecalOnly.ringStored (h : RecalOnly s t i) (offs : List Int) (j : Nat) : RecalOnly s (t.ringStored i offs j) i := h.setGb _

theorem RecalOnly.waveStored (h : RecalOnly s t i) (k : Nat) : RecalOnly s (t.waveStored i k) i := by
  unfold State.waveStored
  extract_lets w idx m u g v x
  have hv : RecalOnly s v i := by
    unfold v
    split
    · exact h
    · exact (h.setGb (t.gbWrite 1 idx 1 _).gb).setGb _
  clear_value v
  have hx : RecalOnly s x i := hv.setWave k _
  split
  · exact (hx.setReg k _).setReg k _
  · exact hx

theorem State.gbEntry_gbWrite (kind idx origin kind' idx' : Nat) (body : List Byte) : (s.gbWrite kind idx origin body).gbEntry kind' idx' =
    if gbKey kind idx = gbKey kind' idx' then some { origin := origin, lesson := s.lesson, powerOn := s.gb.powerOns, body := body }
    else s.gbEntry kind' idx' := tget_tput ..

/-- The table of a ring in the Gradebook comes from this Lesson's calibration. -/
def State.tableStored (l : Word) (idx : Nat) (t : State) : Prop := ∃ e, t.gbEntry 2 idx = some e ∧ e.origin = 1 ∧ e.lesson = l

theorem State.tableStored_ringStored (offs : List Int) (j : Nat) : (s.ringStored i offs j).tableStored s.lesson (ringIdx i (j / 2) (j % 2 = 1)) :=
  ⟨_, (State.gbEntry_gbWrite ..).trans (if_pos rfl), rfl, rfl⟩

theorem State.tableStored.ringStored {l : Word} {idx : Nat} (h : s.tableStored l idx) (hl : s.lesson = l) (offs : List Int) (j : Nat) :
    (s.ringStored i offs j).tableStored l idx := by
  unfold State.tableStored State.ringStored
  rw [State.gbEntry_gbWrite]
  split
  · exact ⟨_, rfl, rfl, hl⟩
  · exact h

theorem State.tableStored.waveStored {l : Word} {idx : Nat} (h : s.tableStored l idx) (hi : i < 64) (hk : k < 16) :
    (s.waveStored i k).tableStored l idx := by
  unfold State.waveStored
  extract_lets w jdx m u g v x
  have hv : v.tableStored l idx := by
    unfold v
    split
    · exact h
    · have apart : gbKey 1 jdx ≠ gbKey 2 idx := by
        have small : (s.onSpare i k).toNat ≤ 1 := Bool.toNat_le _
        unfold gbKey jdx laserIdx
        omega
      obtain ⟨e, he, ho, hl⟩ := h
      exact ⟨e, ((State.gbEntry_gbWrite ..).trans (if_neg apart)).trans he, ho, hl⟩
  clear_value v
  split
  · exact hv
  · exact hv

/-- A wavelength is not excluded for a ring that found nothing. -/
def State.notLost (i k : Nat) (t : State) : Prop := t.excluded i k = true → t.regF (wlStat i k) 4 2 ≠ 2

theorem State.notLost_waveStored (s : State) (i k : Nat) : (s.waveStored i k).notLost i k := by
  unfold State.waveStored
  extract_lets w idx m u g v x
  split
  · intro hex
    have off : ((x.setRegBit (wlStat i k) 3 false).setRegF (wlStat i k) 4 2 0).excluded i k = false := by
      rw [State.excluded, State.regBit, State.regF_setRegF_below _ _ _ _ _ _ _ (by decide) (by decide)]
      exact State.regBit_setRegBit x (wlStat i k) 3 false (by decide)
    exact absurd (hex.symm.trans off) (by decide)
  · next h => exact fun hex hr => h ⟨hex, hr⟩

theorem State.reg_waveStored_ne {j : Nat} (h : j ≠ k) : (s.waveStored i j).reg (wlStat i k) = s.reg (wlStat i k) := by
  unfold State.waveStored
  extract_lets w idx m u g v x
  have hx : x.reg (wlStat i k) = s.reg (wlStat i k) := by
    unfold x v
    split
    · rfl
    · rfl
  clear_value x
  split
  · rw [State.reg_setRegF_ne _ _ _ _ _ _ (wlStat_ne_wlStat h), State.reg_setRegBit_ne _ _ _ _ _ (wlStat_ne_wlStat h), hx]
  · exact hx

theorem State.recalStored_facts (s : State) (hi : i < 64) (offs : List Int) : RecalOnly s (s.recalStored i offs) i ∧
    (∀ (k : Fin 16) (rx : Bool), (s.recalStored i offs).tableStored s.lesson (ringIdx i k.val rx)) ∧
    ∀ k : Fin 16, (s.recalStored i offs).notLost i k.val := by
  have tables : RecalOnly s (s.forAll (List.range 32) (fun s j => s.ringStored i offs j)) i :=
    State.forAll_induct (P := fun u => RecalOnly s u i) (RecalOnly.refl s i) fun u j hu => hu.ringStored offs j
  refine ⟨State.forAll_induct (P := fun u => RecalOnly s u i) tables fun u k hu => hu.waveStored k, fun k rx => ?_, fun k => ?_⟩
  · refine State.forAll_mem_induct ?_ fun u j hj hu => hu.waveStored hi (List.mem_range.mp hj)
    have number : 2 * k.val + rx.toNat ∈ List.range 32 := by
      have small : rx.toNat ≤ 1 := Bool.toNat_le _
      exact List.mem_range.mpr (by omega)
    have index : ringIdx i ((2 * k.val + rx.toNat) / 2) ((2 * k.val + rx.toNat) % 2 = 1) = ringIdx i k.val rx := by
      cases rx
      · simp
      · have half : (2 * k.val + 1) / 2 = k.val := by omega
        simp [half]
    refine State.forAll_of_mem (Q := fun u => u.lesson = s.lesson) (P := State.tableStored s.lesson (ringIdx i k.val rx)) _ number rfl
      (fun u j _ hu => hu) (fun u hu => ?_) fun u j _ hl hu _ => hu.ringStored hl offs j
    have own := State.tableStored_ringStored (s := u) (i := i) offs (2 * k.val + rx.toNat)
    rw [index, hu] at own
    exact own
  · refine State.forAll_of_mem (Q := fun _ => True) (P := State.notLost i k.val) _ (List.mem_range.mpr k.isLt) trivial (fun _ _ _ _ => trivial)
      (fun u _ => u.notLost_waveStored i k.val) fun u j _ _ hu hj => ?_
    intro hex
    have reg := State.reg_waveStored_ne (s := u) (i := i) hj
    rw [State.regF_congr reg]
    exact hu ((State.regBit_congr reg 3).symm.trans hex)

end

/-- Settles O36: link starts and failures, ENABLE, MELIUM and RECAL, and the end of a recalibration, row by row. -/
theorem opticalStarts : Obligations.OpticalStarts := by
  have bar {s : State} {k : State → State} (h : s.recovery = false) : s.bar0 k = k s := s.bar0_eq_of_not_recovery k h
  unfold Obligations.OpticalStarts
  intro n
  refine ⟨fun p s h => ?_, fun p s he h8 h7 => ?_, fun p s hrec he h8 => ⟨?_, rfl⟩, fun p s hrec he h7 h8 => ?_, fun p s hrec h7 => ?_,
    fun p on s hrec => ?_, fun p s h1 h6 => ?_, fun p s h => ?_, fun p q s hq hw => ?_, fun p q s hq hw => ?_, fun p s hrec h => ?_,
    fun p s hrec h hb => ?_, fun p s hrec h8 h7 hb => ?_, fun p offs s h => ?_, fun p offs s h hen => ?_⟩
  · exact congrArg Host.Outcome.next (State.optStart_held h)
  · obtain ⟨state, starts, melium, wait, agreed, measured, -, rest⟩ := State.optBegins_facts h7
    exact ⟨_, congrArg Host.Outcome.next (State.optStart_begins he h8), state, starts, melium, wait, agreed, measured, rest⟩
  · exact congrArg Host.Outcome.next (bar hrec)
  · have ready : (s.setRegBit (linkReg (64 + p.val) lCtl) 0 true).optState p.val = s.optState p.val :=
      State.regF_congr (State.reg_setRegBit_ne _ _ _ _ _ (linkReg_ne _ (by decide))) 0 4
    have on : (s.setRegBit (linkReg (64 + p.val) lCtl) 0 true).optEnabled p.val = true := State.regBit_setRegBit _ _ _ _ (by decide)
    have run : s.optEnable p.val true = (s.setRegBit (linkReg (64 + p.val) lCtl) 0 true).optBegins p.val := by
      rw [State.optEnable, he]
      exact State.optStart_begins on (by rw [ready]; exact h8)
    obtain ⟨state, -, -, -, -, -, ctl, rest⟩ := State.optBegins_facts (s := s.setRegBit (linkReg (64 + p.val) lCtl) 0 true) (by rw [ready]; exact h7)
    exact ⟨_, congrArg Host.Outcome.next ((bar hrec).trans run), (State.regBit_congr ctl 0).trans on, state,
      ((OptOnly.refl s).setReg _ _).trans rest⟩
  · obtain ⟨off, state, dark, rest⟩ := State.optEnable_off_facts h7
    exact ⟨_, congrArg Host.Outcome.next (bar hrec), off, state, dark, rest⟩
  · refine ⟨_, congrArg Host.Outcome.next (bar hrec), State.regBit_setRegBit _ _ _ _ (by decide), ?_, s.onlyRegs_setRegBit _ _ _⟩
    exact State.regBit_setRegBit_other _ _ _ _ _ (by decide) (by decide)
  · exact ⟨_, rfl, State.optFail_starting h1 h6⟩
  · exact congrArg Host.Outcome.next (State.optFail_other h)
  · have run : s.waitOver q.val = s.optStart p.val := by
      rw [State.waitOver, if_neg (by omega), hq, Nat.add_sub_cancel_left, if_pos hw]
    exact congrArg Host.Outcome.next run
  · have run : s.waitOver q.val = s.elecStart p.val := by
      rw [State.waitOver, if_pos (by omega), hq, if_pos hw]
    exact congrArg Host.Outcome.next run
  · exact congrArg Host.Outcome.next ((bar hrec).trans (if_pos h))
  · have run : s.recalWrite p.val = s.setOpt p.val { s.opt p.val with recalWait := true } := by
      rw [State.recalWrite, if_neg h, if_pos hb]
    exact ⟨_, congrArg Host.Outcome.next ((bar hrec).trans run), by rw [State.opt_setOpt_self], rfl⟩
  · have run : s.recalWrite p.val = s.recalStart p.val := by
      rw [State.recalWrite, if_neg h8, if_neg (by rw [hb]; decide)]
    exact ⟨_, congrArg Host.Outcome.next ((bar hrec).trans run), State.recalStart_facts h7⟩
  · exact congrArg Host.Outcome.next (if_pos h)
  · obtain ⟨kept, tables, lost⟩ := s.recalStored_facts p.isLt offs
    have run := State.recalEnd_eq h offs
    generalize s.recalStored p.val offs = t at *
    have off : (t.setOptState p.val 0).optEnabled p.val = false :=
      (State.regBit_congr ((State.reg_setOptState_ne _ (by decide)).trans (kept.regs _ fun _ => (wlStat_ne_link (by decide)).symm)) 0).trans hen
    rw [State.optStart_held (.inl off)] at run
    have stat (k : Nat) : (t.setOptState p.val 0).reg (wlStat p.val k) = t.reg (wlStat p.val k) :=
      State.reg_setRegF_ne _ _ _ _ _ _ (wlStat_ne_link (by decide))
    refine ⟨_, congrArg Host.Outcome.next run, State.optState_setOptState (by decide), kept.rest, tables, fun k hex => ?_⟩
    rw [State.regF_congr (stat k.val)]
    exact lost k ((State.regBit_congr (stat k.val) 3).symm.trans hex)

end Sys2Proof.Machine
end

section
/-! SUPPORT. The steps by which a link start ends. -/

namespace Sys2Proof.Machine

section
variable {s t u : State} {i k : Nat}

/-! ### The margin test -/

theorem OptOnly.setWave (h : OptOnly s t) (j k : Nat) (w : Wave) : OptOnly s (t.setWave j k w) := h
theorem OptOnly.setLaser (h : OptOnly s t) (j k v : Nat) : OptOnly s (t.setLaser j k v) := h

/-- The margin test of one wavelength's carrying laser. -/
def State.marginWave (s : State) (i : Nat) (errs : Vector Nat 16) (k : Nat) : State :=
  let e := errs.toList.getD k 0
  let w := s.wave i k
  if !w.lit then s
  else
    let s := s.setReg (wlReg (64 + i) k 0x18) (BitVec.ofNat 64 e)
    if e < marginLimit then s.setWave i k { w with pass := true }
    else if s.spareLeft i k then s.setLaser i k 1
    else s.exclude i k 1

/-- The test of one wavelength excludes none: its laser passes, or leaves a spare. -/
def marginSpared (s : State) (i : Nat) (errs : Vector Nat 16) : Prop :=
  ∀ k : Fin 16, (s.wave i k.val).lit = true → errs[k] < marginLimit ∨ s.spareLeft i k.val = true

/-- What the test of some wavelengths leaves of a port in which it excludes none. -/
structure MarginKept (s t : State) (i : Nat) (errs : Vector Nat 16) : Prop where
  rest : OptOnly s t
  lit : ∀ k : Fin 16, (t.wave i k.val).lit = (s.wave i k.val).lit
  spared : marginSpared t i errs

theorem State.spareLeft_congr (hr : t.reg (wlStat i k) = s.reg (wlStat i k)) (hm : (t.opt i).melium = (s.opt i).melium) :
    t.spareLeft i k = s.spareLeft i k := by
  rw [State.spareLeft, State.laser_congr hr, hm, State.spareLeft]

theorem State.wave_setReg (a : Nat) (v : Word) (j : Nat) : (s.setReg a v).wave i j = s.wave i j := rfl
theorem State.wave_setLaser (j v l : Nat) : (s.setLaser i j v).wave i l = s.wave i l := rfl
theorem State.reg_setWave (w : Wave) (a : Nat) : (s.setWave i k w).reg a = s.reg a := rfl

/-- A wavelength whose laser passed. -/
def State.marginPassed (s : State) (i k e : Nat) : State :=
  (s.setReg (wlReg (64 + i) k 0x18) (BitVec.ofNat 64 e)).setWave i k { s.wave i k with pass := true }

/-- A wavelength whose spare is to be tested. -/
def State.marginRetested (s : State) (i k e : Nat) : State := (s.setReg (wlReg (64 + i) k 0x18) (BitVec.ofNat 64 e)).setLaser i k 1

theorem errs_eq (errs : Vector Nat 16) (k : Fin 16) : errs.toList.getD k.val 0 = errs[k] := by simp [List.getD_eq_getElem?_getD]

theorem State.marginWave_dark {errs : Vector Nat 16} (h : (s.wave i k).lit = false) : s.marginWave i errs k = s := if_pos (by rw [h]; rfl)

theorem State.marginWave_passed {errs : Vector Nat 16} {k : Fin 16} (h : (s.wave i k.val).lit = true) (he : errs[k] < marginLimit) :
    s.marginWave i errs k.val = s.marginPassed i k.val errs[k] := by
  unfold State.marginWave
  rw [errs_eq]
  exact (if_neg (by rw [h]; decide)).trans (if_pos he)

theorem State.marginWave_retested {errs : Vector Nat 16} {k : Fin 16} (h : (s.wave i k.val).lit = true) (he : ¬ errs[k] < marginLimit)
    (hs : s.spareLeft i k.val = true) : s.marginWave i errs k.val = s.marginRetested i k.val errs[k] := by
  have left : (s.setReg (wlReg (64 + i) k.val 0x18) (BitVec.ofNat 64 errs[k])).spareLeft i k.val = true :=
    (State.spareLeft_congr (State.reg_setReg_ne _ _ _ _ (wlReg_ne_wlStat (by decide)).symm) rfl).trans hs
  unfold State.marginWave
  rw [errs_eq]
  exact (if_neg (by rw [h]; decide)).trans ((if_neg he).trans (if_pos left))

theorem wlReg_ne_wlReg {j off off' : Nat} (h : j ≠ k) (ho : off < 0x40) (ho' : off' < 0x40) : wlReg (64 + i) k off ≠ wlReg (64 + i) j off' :=
  laneReg_ne_lane (Ne.symm h) ho ho'

/-- The test of one wavelength leaves what the others need, and reads nothing of them. -/
theorem MarginKept.marginWave {errs : Vector Nat 16} (h : MarginKept s t i errs) (j : Fin 16) : MarginKept s (t.marginWave i errs j.val) i errs ∧
    ((t.wave i j.val).lit = true → (t.marginWave i errs j.val).reg (wlReg (64 + i) j.val 0x18) = BitVec.ofNat 64 errs[j] ∧
      (errs[j] < marginLimit → ((t.marginWave i errs j.val).wave i j.val).pass = true) ∧
      (marginLimit ≤ errs[j] → (t.marginWave i errs j.val).laser i j.val = 1)) ∧
    ∀ k : Nat, j.val ≠ k → (t.marginWave i errs j.val).reg (wlReg (64 + i) k 0x18) = t.reg (wlReg (64 + i) k 0x18) ∧
      (t.marginWave i errs j.val).reg (wlStat i k) = t.reg (wlStat i k) ∧ (t.marginWave i errs j.val).wave i k = t.wave i k := by
  cases hlit : (t.wave i j.val).lit with
  | false =>
    rw [State.marginWave_dark hlit]
    exact ⟨h, fun g => absurd g (by decide), fun k _ => ⟨rfl, rfl, rfl⟩⟩
  | true =>
    have stat18 {k : Nat} : wlStat i k ≠ wlReg (64 + i) j.val 0x18 := by
      unfold wlStat wlReg
      omega
    by_cases he : errs[j] < marginLimit
    · rw [State.marginWave_passed hlit he]
      have wave : (t.marginPassed i j.val errs[j]).wave i j.val = { t.wave i j.val with pass := true } := State.wave_setWave j.isLt _
      have other {k : Nat} (hk : j.val ≠ k) : (t.marginPassed i j.val errs[j]).wave i k = t.wave i k := State.wave_setWave_other hk _
      have lit (k : Fin 16) : ((t.marginPassed i j.val errs[j]).wave i k.val).lit = (t.wave i k.val).lit := by
        by_cases hk : j.val = k.val
        · rw [← hk, wave]
        · rw [other hk]
      have stat (k : Nat) : (t.marginPassed i j.val errs[j]).reg (wlStat i k) = t.reg (wlStat i k) :=
        (State.reg_setWave _ _).trans (State.reg_setReg_ne _ _ _ _ stat18)
      refine ⟨⟨h.rest, fun k => (lit k).trans (h.lit k), fun k hk => ?_⟩, fun _ => ⟨?_, fun _ => by rw [wave], fun g => absurd he (Nat.not_lt.mpr g)⟩,
        fun k hk => ⟨?_, stat k, other hk⟩⟩
      · rw [State.spareLeft_congr (stat k.val) (State.melium_setWave _)]
        exact h.spared k ((lit k).symm.trans hk)
      · exact (State.reg_setWave _ _).trans ((State.reg_setReg ..).trans (if_pos rfl))
      · exact (State.reg_setWave _ _).trans (State.reg_setReg_ne _ _ _ _ (wlReg_ne_wlReg hk (by decide) (by decide)))
    · have left := (h.spared j hlit).resolve_left he
      rw [State.marginWave_retested hlit he left]
      have wave (k : Nat) : (t.marginRetested i j.val errs[j]).wave i k = t.wave i k := rfl
      have stat {k : Nat} (hk : j.val ≠ k) : (t.marginRetested i j.val errs[j]).reg (wlStat i k) = t.reg (wlStat i k) :=
        (State.reg_setLaser_ne _ (wlStat_ne_wlStat hk)).trans (State.reg_setReg_ne _ _ _ _ stat18)
      have laser : (t.marginRetested i j.val errs[j]).laser i j.val = 1 := State.laser_setLaser (by decide)
      refine ⟨⟨h.rest, fun k => h.lit k, fun k hk => ?_⟩, fun _ => ⟨?_, fun g => absurd g he, fun _ => laser⟩, fun k hk => ⟨?_, stat hk, wave k⟩⟩
      · by_cases hjk : j.val = k.val
        · right
          have melium : ((t.marginRetested i j.val errs[j]).opt i).melium = false := by
            have both : decide (t.laser i j.val < 3) = true ∧ (!(t.opt i).melium) = true := by
              rw [State.spareLeft, Bool.and_eq_true] at left
              exact left
            exact (Bool.not_eq_true' _).mp both.2
          rw [← hjk, State.spareLeft, laser, melium]
          rfl
        · rw [State.spareLeft_congr (stat hjk) rfl]
          exact h.spared k hk
      · exact (State.reg_setLaser_ne _ (wlReg_ne_wlStat (by decide))).trans ((State.reg_setReg ..).trans (if_pos rfl))
      · refine (State.reg_setLaser_ne _ ?_).trans (State.reg_setReg_ne _ _ _ _ (wlReg_ne_wlReg hk (by decide) (by decide)))
        unfold wlStat wlReg
        omega

/-- What the test says of a wavelength whose laser is lit. -/
def marginTested (s : State) (i : Nat) (errs : Vector Nat 16) (k : Fin 16) (t : State) : Prop :=
  (s.wave i k.val).lit = true → t.reg (wlReg (64 + i) k.val 0x18) = BitVec.ofNat 64 errs[k] ∧
    (errs[k] < marginLimit → (t.wave i k.val).pass = true) ∧ (marginLimit ≤ errs[k] → t.laser i k.val = 1)

/-- The port once every wavelength has been tested. -/
def State.marginAll (s : State) (i : Nat) (errs : Vector Nat 16) : State := s.forAll (List.range 16) (fun s k => s.marginWave i errs k)

theorem State.marginAll_facts {errs : Vector Nat 16} (h : marginSpared s i errs) : MarginKept s (s.marginAll i errs) i errs ∧
    ∀ k : Fin 16, marginTested s i errs k (s.marginAll i errs) := by
  have start : MarginKept s s i errs := ⟨OptOnly.refl s, fun _ => rfl, h⟩
  have kept : MarginKept s (s.marginAll i errs) i errs :=
    State.forAll_mem_induct (P := fun u => MarginKept s u i errs) start fun u j hj hu => (hu.marginWave ⟨j, List.mem_range.mp hj⟩).1
  refine ⟨kept, fun k => ?_⟩
  refine State.forAll_of_mem (Q := fun u => MarginKept s u i errs) (P := marginTested s i errs k) _ (List.mem_range.mpr k.isLt) start
    (fun u j hj hu => (hu.marginWave ⟨j, List.mem_range.mp hj⟩).1) (fun u hu hlit => (hu.marginWave k).2.1 ((hu.lit k).trans hlit))
    fun u j hj hq hu hjk hlit => ?_
  obtain ⟨reg18, stat, wave⟩ := (hq.marginWave ⟨j, List.mem_range.mp hj⟩).2.2 k.val hjk
  obtain ⟨errors, pass, retest⟩ := hu hlit
  exact ⟨reg18.trans errors, fun he => (congrArg Wave.pass wave).trans (pass he), fun he => (State.laser_congr stat).trans (retest he)⟩

theorem State.marginEnd_eq {errs : Vector Nat 16} (h1 : 1 ≤ s.optState i) (h4 : s.optState i ≤ 4) : s.marginEnd i errs =
    (s.marginAll i errs).setOptState i (if (List.range 16).any (fun k => (s.marginAll i errs).laser i k = 1) then 5 else 6) :=
  if_neg (by simp [inRange, h1, h4])

/-! ### The retest of a spare -/

/-- A primary's retirement reaches the Gradebook, or waits for it. -/
theorem State.retire_facts (s : State) (i k : Nat) : { s.retire i k with gb := s.gb } = s ∧
    (s.regBit rPrinStatus 0 = false → (s.retire i k).retired i k = true) := by
  unfold State.retire
  dsimp only
  split
  · next h => exact ⟨rfl, fun g => absurd (h.symm.trans g) (by decide)⟩
  · exact ⟨rfl, fun _ => (tget_tput ..).trans (if_pos rfl)⟩

/-- The port's state follows a retest. -/
def State.retestClose (s : State) (i : Nat) : State := if (List.range 16).any (fun j => s.laser i j = 1) then s else s.setOptState i 6

theorem State.reg_retestClose_ne {a : Nat} (h : a ≠ linkReg (64 + i) lStatus) : (s.retestClose i).reg a = s.reg a := by
  unfold State.retestClose
  split
  · rfl
  · exact State.reg_setRegF_ne _ _ _ _ _ _ h

theorem State.rest_retestClose (s : State) (i : Nat) : { s.retestClose i with regs := s.regs } = s := by
  unfold State.retestClose
  split
  · rfl
  · rfl

/-- A spare that passed carries its wavelength. -/
def State.spareCarries (s : State) (i k errs : Nat) : State :=
  let s := s.setReg (wlReg (64 + i) k 0x18) (BitVec.ofNat 64 errs)
  ((s.setLaser i k 3).setRegBit (wlStat i k) 12 true).setWave i k { s.wave i k with pass := true }

theorem State.retestEnd_passed {errs : Nat} (h5 : s.optState i = 5) (hl : s.laser i k = 1) (he : errs < marginLimit) :
    s.retestEnd i k errs = ((s.spareCarries i k errs).retire i k).retestClose i := by
  unfold State.retestEnd
  rw [if_neg (by simp [h5, hl])]
  dsimp only
  rw [if_pos he]
  rfl

theorem State.retestEnd_failed {errs : Nat} (h5 : s.optState i = 5) (hl : s.laser i k = 1) (he : ¬ errs < marginLimit) :
    s.retestEnd i k errs = (((s.setReg (wlReg (64 + i) k 0x18) (BitVec.ofNat 64 errs)).setLaser i k 5).exclude i k 1).retestClose i := by
  unfold State.retestEnd
  rw [if_neg (by simp [h5, hl])]
  dsimp only
  rw [if_neg he]
  rfl

theorem State.spareCarries_facts (hk : k < 16) (errs : Nat) : (s.spareCarries i k errs).laser i k = 3 ∧ (s.spareCarries i k errs).onSpare i k = true ∧
    ((s.spareCarries i k errs).wave i k).pass = true ∧ (s.spareCarries i k errs).reg (wlReg (64 + i) k 0x18) = BitVec.ofNat 64 errs ∧
    (∀ a, a ≠ wlReg (64 + i) k 0x18 → a ≠ wlStat i k → (s.spareCarries i k errs).reg a = s.reg a) ∧ OptOnly s (s.spareCarries i k errs) := by
  unfold State.spareCarries
  extract_lets u
  have kept {a : Nat} (h : a ≠ wlStat i k) (w : Wave) : (((u.setLaser i k 3).setRegBit (wlStat i k) 12 true).setWave i k w).reg a = u.reg a := by
    rw [State.reg_setWave, State.reg_setRegBit_ne _ _ _ _ _ h, State.reg_setLaser_ne _ h]
  refine ⟨?_, ?_, ?_, ?_, fun a h1 h2 => ?_, rfl⟩
  · rw [State.laser_setWave, State.laser_setRegBit _ (by decide), State.laser_setLaser (by decide)]
  · rw [State.onSpare_setWave, State.onSpare, State.regBit_setRegBit _ _ _ _ (by decide)]
  · rw [State.wave_setWave hk]
  · rw [kept (wlReg_ne_wlStat (by decide))]
    exact (State.reg_setReg ..).trans (if_pos rfl)
  · rw [kept h2]
    exact State.reg_setReg_ne _ _ _ _ h1

theorem State.laser_waveOff {reason : Nat} (h : s.laser i k = 5) : (s.waveOff i k reason).laser i k = 5 := by
  have kept : ((((s.setRegF (wlStat i k) 4 2 reason).setRegBit (wlStat i k) 3 true).setRingSt i k false 7).setRingSt i k true 7).laser i k = 5 := by
    rw [State.laser_setRingSt, State.laser_setRingSt, State.laser_setRegBit _ (by decide), State.laser,
      State.regF_setRegF_above _ _ _ _ _ _ _ (by decide) (by decide)]
    exact h
  rw [State.waveOff, State.laser_setWave, State.spareDark, kept, if_neg (by decide), kept]

/-- An excluded wavelength's WL_STATUS is the one written when it was turned off. -/
theorem State.stat_exclude {reason : Nat} (hgw : s.behindGateway = false) (hout : ∀ rx, (s.activeSet i rx).getLsbD k = false) :
    (s.exclude i k reason).reg (wlStat i k) = (s.waveOff i k reason).reg (wlStat i k) := by
  have gw : (s.waveOff i k reason).behindGateway = false := by
    rw [State.behindGateway_congr (congrArg (·.member) (State.host_spareDark _ i k)) (State.reg_waveOff_ne gwNode_ne_wlStat)
      (State.reg_waveOff_ne glbNode_ne_wlStat), hgw]
  obtain ⟨regs, -, -⟩ := State.raise_leaves gw 10
  have stays (rx : Bool) : ((s.waveOff i k reason).raise 10).leaveSet i k rx = (s.waveOff i k reason).raise 10 := by
    refine State.leaveSet_of_out ?_
    rw [State.activeSet_congr ((regs _).trans (State.reg_waveOff_ne (wlStat_ne_link (by decide)).symm))]
    exact hout rx
  show (((((s.waveOff i k reason).raise 10).leaveSet i k false).leaveSet i k true).ringPhase i).reg _ = _
  rw [stays, stays, State.reg_ringPhase_ne (wlStat_ne_link (by decide)), regs]

/-! ### The link's delay -/

theorem swReg_ne {n off a : Nat} (hn : n < 128) (h : a ≠ rPortBlock + n * 0x10000 + 0x100 + off) : swReg n off ≠ a := by
  rw [swReg, if_pos hn]
  exact fun e => h e.symm

/-- A measured link: its delay is stored, and its written buffering takes effect. -/
theorem State.linkMeasured_facts {n : Nat} (hn : n < 128) (l : List Nat) : (s.linkMeasured n l).reg (linkReg n lDelay) = BitVec.ofNat 64 (oneWay l) ∧
    (s.linkMeasured n l).credAdv n = s.reg (swReg n swCreditAdv) ∧ (s.linkMeasured n l).bufMin n = s.reg (swReg n swBufMin) ∧
    (s.linkMeasured n l).out = .word n (.creditStart (s.reg (swReg n swCreditAdv))) :: s.out := by
  have apart {off : Nat} : linkReg n lDelay ≠ swReg n off := (swReg_ne hn (by unfold linkReg lDelay; omega)).symm
  have delay : linkReg n lDelay ≠ rSharedTotal := by
    unfold linkReg rSharedTotal rPortBlock
    omega
  have adv (u : State) : (u.applyBuffers n).credAdv n = u.reg (swReg n swCreditAdv) := (tget_tput ..).trans (if_pos rfl)
  have low (u : State) : (u.applyBuffers n).bufMin n = u.reg (swReg n swBufMin) := (tget_tput ..).trans (if_pos rfl)
  have kept (u : State) : (u.applyBuffers n).reg (linkReg n lDelay) = u.reg (linkReg n lDelay) := State.reg_setReg_ne _ _ _ _ delay
  have written {off : Nat} (v : Word) : (s.setReg (linkReg n lDelay) v).reg (swReg n off) = s.reg (swReg n off) := State.reg_setReg_ne _ _ _ _ apart.symm
  unfold State.linkMeasured
  extract_lets t
  have advT : t.credAdv n = s.reg (swReg n swCreditAdv) := (adv _).trans (written _)
  refine ⟨?_, advT, (low _).trans (written _), ?_⟩
  · exact (kept _).trans ((State.reg_setReg ..).trans (if_pos rfl))
  · show Out.word n (.creditStart (t.credAdv n)) :: s.out = _
    rw [advT]

/-! ### The port comes up -/

/-- The state in which an optical port has come up. -/
def State.optRises (s : State) (i : Nat) : State :=
  ((((s.setOptState i 7).setOpt i { s.opt i with agreed := false, measured := false }).putActive i false (s.passSet i)).putActive i true
    (s.opt i).rxSet).portRises (64 + i)

theorem State.portRises_optPort (s : State) {i : Nat} (hi : i < 64) : (s.portRises (64 + i)).optState i = s.optState i ∧
    ∀ rx, (s.portRises (64 + i)).activeSet i rx = s.activeSet i rx := by
  have kept {off : Nat} : (s.portRises (64 + i)).reg (linkReg (64 + i) off) = s.reg (linkReg (64 + i) off) :=
    State.reg_setRegBit_ne _ _ _ _ _ (ready_ne_link (by unfold readyPort; omega)).symm
  exact ⟨State.regF_congr kept 0 4, fun rx => State.activeSet_congr kept rx⟩

theorem State.optRises_facts (hi : i < 64) (hgw : s.behindGateway = false) : (s.optRises i).optState i = 7 ∧ (s.optRises i).portUp (64 + i) = true ∧
    (s.optRises i).activeSet i false = s.passSet i ∧ (s.optRises i).activeSet i true = (s.opt i).rxSet := by
  unfold State.optRises
  generalize hu : (s.setOptState i 7).setOpt i { s.opt i with agreed := false, measured := false } = u
  have state : u.optState i = 7 := by
    rw [← hu, State.optState_setOpt, State.optState_setOptState (by decide)]
  have gw : u.behindGateway = false := by
    rw [← hu, ← hgw]
    exact State.behindGateway_congr rfl (State.reg_setRegF_ne _ _ _ _ _ _ gwNode_ne_link) (State.reg_setRegF_ne _ _ _ _ _ _ glbNode_ne_link)
  obtain ⟨tx1, -, state1, -, gw1⟩ := State.putActive_facts (i := i) gw false (s.passSet i)
  generalize u.putActive i false (s.passSet i) = v at *
  obtain ⟨rx2, tx2, state2, -, -⟩ := State.putActive_facts (i := i) gw1 true (s.opt i).rxSet
  generalize v.putActive i true (s.opt i).rxSet = w at *
  obtain ⟨up, -, -⟩ := w.portRises_facts (p := i) (n := 64 + i) (by omega)
  obtain ⟨stateW, setW⟩ := w.portRises_optPort hi
  exact ⟨stateW.trans (state2.trans (state1.trans state)), up, (setW false).trans (tx2.trans tx1), (setW true).trans rx2⟩

end

/-- Settles O38: margin test, retest, exchanged results, delay and port up, row by row. -/
theorem opticalLinkTests : Obligations.OpticalLinkTests := by
  refine ⟨fun p errs s h1 h4 h => ?_, fun p k errs s h => ?_, fun p k errs s h5 hl he => ?_, fun p k errs s h5 hl he hgw htx hrx => ?_,
    fun p s h6 ha => ?_, fun p m s h6 ha hp hm => ?_, fun p m s h6 ha h => ?_, fun p q l s hq h6 ha hlen => ?_, fun p q l s hq h5 hc hlen => ?_,
    fun p s h => ?_, fun p s h6 ha hm hgw => ?_⟩
  · obtain ⟨kept, tested⟩ := State.marginAll_facts (s := s) (i := p.val) (errs := errs) h
    have run := State.marginEnd_eq (errs := errs) h1 h4
    generalize s.marginAll p.val errs = t at *
    have stat {k off v : Nat} : (t.setOptState p.val v).reg (wlReg (64 + p.val) k off) = t.reg (wlReg (64 + p.val) k off) :=
      State.reg_setRegF_ne _ _ _ _ _ _ (wlReg_ne_link (by decide))
    have laser {k v : Nat} : (t.setOptState p.val v).laser p.val k = t.laser p.val k := State.laser_congr stat
    refine ⟨_, congrArg Host.Outcome.next run, fun k hlit => ?_, fun hex => ?_, fun hno => ?_, kept.rest⟩
    · obtain ⟨errors, pass, retest⟩ := tested k hlit
      exact ⟨stat.trans errors, pass, fun he => laser.trans (retest he)⟩
    · obtain ⟨k, hk⟩ := hex
      rw [if_pos]
      · exact State.optState_setOptState (by decide)
      · exact List.any_eq_true.mpr ⟨k.val, List.mem_range.mpr k.isLt, decide_eq_true (laser.symm.trans hk)⟩
    · rw [if_neg]
      · exact State.optState_setOptState (by decide)
      · intro g
        obtain ⟨k, hk, hlaser⟩ := List.any_eq_true.mp g
        exact hno ⟨k, List.mem_range.mp hk⟩ (laser.trans (of_decide_eq_true hlaser))
  · exact congrArg Host.Outcome.next (if_pos h)
  · obtain ⟨laser, spare, pass, errors, other, rest⟩ := State.spareCarries_facts (s := s) (i := p.val) k.isLt errs
    have run := State.retestEnd_passed (errs := errs) h5 hl he
    have prin : (s.spareCarries p.val k.val errs).regBit rPrinStatus 0 = s.regBit rPrinStatus 0 := by
      refine State.regBit_congr (other _ ?_ ?_) 0
      · unfold wlReg rPortBlock rPrinStatus
        omega
      · unfold wlStat wlReg rPortBlock rPrinStatus
        omega
    generalize s.spareCarries p.val k.val errs = t at *
    obtain ⟨kept, retired⟩ := t.retire_facts p.val k.val
    generalize hu : t.retire p.val k.val = u at *
    have closed := u.rest_retestClose p.val
    have reg {off : Nat} : (u.retestClose p.val).reg (wlReg (64 + p.val) k.val off) = t.reg (wlReg (64 + p.val) k.val off) :=
      (State.reg_retestClose_ne (wlReg_ne_link (by decide))).trans (congrArg (State.reg · _) kept :)
    have opts : (u.retestClose p.val).opts = t.opts := (congrArg State.opts closed :).trans (congrArg State.opts kept :)
    refine ⟨_, congrArg Host.Outcome.next run, (State.laser_congr reg).trans laser, (State.regBit_congr reg 12).trans spare,
      (congrArg Wave.pass (State.wave_congr opts _ _)).trans pass, reg.trans errors, fun hidle => ?_, ?_⟩
    · exact (congrArg (fun g : Gb => tget (fun _ => false) g.retired _) (congrArg State.gb closed :)).trans (retired (prin.trans hidle))
    · have e1 := congrArg (fun x : State => { x with regs := s.regs, opts := s.opts, gb := s.gb }) closed
      have e2 := congrArg (fun x : State => { x with regs := s.regs, opts := s.opts, gb := s.gb }) kept
      exact e1.trans (e2.trans (congrArg (fun x : State => { x with gb := s.gb }) rest.eq))
  · have run := State.retestEnd_failed h5 hl (Nat.not_lt.mpr he)
    have five : ((s.setReg (wlReg (64 + p.val) k.val 0x18) (BitVec.ofNat 64 errs)).setLaser p.val k.val 5).laser p.val k.val = 5 :=
      State.laser_setLaser (by decide)
    have other {a : Nat} (h1 : a ≠ wlReg (64 + p.val) k.val 0x18) (h2 : a ≠ wlStat p.val k.val) :
        ((s.setReg (wlReg (64 + p.val) k.val 0x18) (BitVec.ofNat 64 errs)).setLaser p.val k.val 5).reg a = s.reg a :=
      (State.reg_setLaser_ne 5 h2).trans (State.reg_setReg_ne _ _ _ _ h1)
    have gw : ((s.setReg (wlReg (64 + p.val) k.val 0x18) (BitVec.ofNat 64 errs)).setLaser p.val k.val 5).behindGateway = false := by
      rw [← hgw]
      exact State.behindGateway_congr rfl (other wlReg_ne_gw.1 gwNode_ne_wlStat) (other wlReg_ne_gw.2 glbNode_ne_wlStat)
    have out (rx : Bool) : (((s.setReg (wlReg (64 + p.val) k.val 0x18) (BitVec.ofNat 64 errs)).setLaser p.val k.val 5).activeSet p.val rx).getLsbD
        k.val = false := by
      rw [State.activeSet_congr (other (wlReg_ne_link (by decide)).symm (wlStat_ne_link (by decide)).symm)]
      cases rx
      · exact htx
      · exact hrx
    generalize (s.setReg (wlReg (64 + p.val) k.val 0x18) (BitVec.ofNat 64 errs)).setLaser p.val k.val 5 = t at *
    obtain ⟨excluded, reason, -, -, lit⟩ := State.exclude_facts (reason := 1) k.isLt (by decide) gw out
    have laser : (t.exclude p.val k.val 1).laser p.val k.val = 5 := (State.laser_congr (State.stat_exclude gw out)).trans (State.laser_waveOff five)
    generalize t.exclude p.val k.val 1 = u at *
    have stat : (u.retestClose p.val).reg (wlStat p.val k.val) = u.reg (wlStat p.val k.val) := State.reg_retestClose_ne (wlStat_ne_link (by decide))
    have opts : (u.retestClose p.val).opts = u.opts := (congrArg State.opts (u.rest_retestClose p.val) :)
    exact ⟨_, congrArg Host.Outcome.next run, (State.laser_congr stat).trans laser, (State.regBit_congr stat 3).trans excluded,
      (State.regF_congr stat 4 2).trans reason, (congrArg Wave.lit (State.wave_congr opts _ _)).trans lit⟩
  · have run : s.exchangeEnd p.val none = s.optFail p.val := if_neg (by simp [h6, ha])
    obtain ⟨state, wait, fails, -⟩ := State.optFail_starting (s := s) (i := p.val) (by omega) (by omega)
    exact ⟨_, congrArg Host.Outcome.next run, state, wait, fails⟩
  · have run : s.exchangeEnd p.val (some m) = s.setOpt p.val { s.opt p.val with rxSet := m, agreed := true } := by
      rw [State.exchangeEnd, if_neg (by simp [h6, ha])]
      exact if_neg (by omega)
    exact ⟨_, congrArg Host.Outcome.next run, State.opt_setOpt_self _, rfl⟩
  · have run : s.exchangeEnd p.val (some m) = s.optFail p.val := by
      rw [State.exchangeEnd, if_neg (by simp [h6, ha])]
      exact if_pos h
    exact congrArg Host.Outcome.next run
  · have run : s.delayMeasured q.val l = (s.linkMeasured q.val l).setOpt p.val { (s.linkMeasured q.val l).opt p.val with measured := true } := by
      rw [State.delayMeasured, if_neg (by omega), hq, Nat.add_sub_cancel_left, if_pos ⟨h6, ha⟩]
    obtain ⟨delay, adv, low, out⟩ := State.linkMeasured_facts (s := s) (n := q.val) q.isLt l
    generalize s.linkMeasured q.val l = t at *
    exact ⟨_, congrArg Host.Outcome.next ((if_pos hlen).trans run), delay, by rw [State.opt_setOpt_self], adv, low, out⟩
  · have run : s.delayMeasured q.val l = (s.linkMeasured q.val l).setElec p.val { s.elec p.val with measured := true } := by
      rw [State.delayMeasured, if_pos (by omega), hq, if_pos ⟨h5, hc⟩]
    obtain ⟨delay, adv, low, out⟩ := State.linkMeasured_facts (s := s) (n := q.val) q.isLt l
    generalize s.linkMeasured q.val l = t at *
    exact ⟨_, congrArg Host.Outcome.next ((if_pos hlen).trans run), delay, by rw [State.elec_setElec_self], adv, out⟩
  · refine congrArg Host.Outcome.next (if_neg fun g => ?_)
    obtain ⟨g6, gagreed, gmeasured⟩ := g
    obtain h | h | h := h
    · exact h g6
    · exact absurd (gagreed.symm.trans h) (by decide)
    · exact absurd (gmeasured.symm.trans h) (by decide)
  · exact ⟨_, congrArg Host.Outcome.next (if_pos ⟨h6, ha, hm⟩), State.optRises_facts p.isLt hgw⟩

end Sys2Proof.Machine
end

section
/-! SUPPORT. The host link. -/

namespace Sys2Proof.Machine

section
variable {s t : State} {m : Nat}

/-! ### BAR2 and staging -/

theorem State.bar2_unserved {r : Bar2Req} (h : s.fnServed r.fn.val = false) (d : Option (List Byte)) : s.bar2 r d = s := if_pos (by rw [h]; rfl)

/-- A request that no aperture or no cohort takes. -/
theorem State.bar2_unsupported {r : Bar2Req} (h : s.fnServed r.fn.val = true)
    (hn : s.bar2Fpa r.fn.val r.off.toNat r.len = none ∨ s.bar2Cohort r.fn.val r.pasid = none) (d : Option (List Byte)) : s.bar2 r d =
    State.emit { s with host := { s.host with nextId := s.host.nextId + 1 } } (if d.isSome then .aer .unsupported else .bar2 s.host.nextId .unsupported []) := by
  unfold State.bar2
  rw [if_neg (by rw [h]; decide)]
  dsimp only
  split
  · next ha hc =>
    obtain hn | hn := hn
    · exact absurd (ha.symm.trans hn) (by simp)
    · exact absurd (hc.symm.trans hn) (by simp)
  · cases d with
    | none => rfl
    | some x => rfl

theorem State.bar2_queued {r : Bar2Req} {a : Nat} {c : BitVec 10} (h : s.fnServed r.fn.val = true)
    (ha : s.bar2Fpa r.fn.val r.off.toNat r.len = some a) (hc : s.bar2Cohort r.fn.val r.pasid = some c) (d : Option (List Byte)) : s.bar2 r d =
    State.settleHost { s with host := { s.host with nextId := s.host.nextId + 1, reads := s.host.reads ++
      [{ id := s.host.nextId, fn := r.fn.val, off := r.off.toNat, write := d.isSome, fpa := a, len := r.len, cohort := c, data := d.getD [] }] } } := by
  unfold State.bar2
  rw [if_neg (by rw [h]; decide)]
  dsimp only
  rw [ha, hc]

/-! ### Loss and return of the link -/

theorem State.linkReset_eq (s : State) : s.linkReset = { s with host := { s.host with cfg := [], msix := [] } } := by
  have none : s.host.cfg.filter (fun _ => !true) = [] := List.filter_eq_nil_iff.mpr fun _ _ => by decide
  exact congrArg (fun l => ({ s with host := { s.host with cfg := l, msix := [] } } : State)) none

theorem dead_deadReads (f : Nat → Bool) : ∀ b ∈ (s.deadReads f).host.reads, f b.fn = true → b.dead = true := by
  intro b hb hf
  obtain ⟨x, -, rfl⟩ := List.mem_map.mp hb
  split
  · rfl
  · next hx =>
    rw [if_neg hx] at hf
    exact absurd hf hx

theorem State.ready_setRegBit_pcie {a i : Nat} (b : Bool) (h : a ≠ rGlbReady) : (s.setRegBit a i b).ready 0 = s.ready 0 :=
  State.ready_congr (State.reg_setRegBit_ne _ _ _ _ _ (Ne.symm h))

theorem State.ready_setReady (b : Bool) : (s.setReady 0 b).ready 0 = b := State.regBit_setRegBit _ _ _ _ (by decide)

/-- Writes that waited go out in order. -/
theorem State.putHost_forAll (l : List (Nat × List Byte)) : s.forAll l (fun s x => { s with hostMem := putHost s.hostMem x.1 x.2 }) =
    { s with hostMem := l.foldl (fun m x => putHost m x.1 x.2) s.hostMem } := by
  induction l generalizing s with
  | nil => rfl
  | cons x r ih => exact ih

theorem State.msix_forAll (l : List Nat) : s.forAll l (fun s n => s.emit (.msix n)) = { s with out := (l.map Out.msix).reverse ++ s.out } := by
  induction l generalizing s with
  | nil => rfl
  | cons n r ih =>
    rw [State.forAll_cons, ih]
    simp [State.emit]

/-- What the host gets when its link returns. -/
theorem State.hostUp_eq (s : State) : ∃ u, s.hostUp false = u ∧ u.ready 0 = true ∧ u.host.buf = [] ∧ u.host.irqs = [] ∧
    u.out = (s.host.irqs.map Out.msix).reverse ++ s.out ∧ u.hostMem = s.host.buf.foldl (fun m x => putHost m x.1 x.2) s.hostMem ∧ u.mem = s.mem := by
  refine ⟨_, rfl, ?_⟩
  unfold State.hostUp
  rw [if_neg (by decide)]
  extract_lets t h u w
  have hw : w = { u with hostMem := t.host.buf.foldl (fun m x => putHost m x.1 x.2) u.hostMem } := State.putHost_forAll _
  rw [hw, State.msix_forAll]
  have ready : t.ready 0 = true := by
    refine (State.ready_congr ?_).trans (s.ready_setReady true)
    exact State.reg_setRegF_ne (s.setReady 0 true).draw.2 _ _ _ _ _ (by decide)
  exact ⟨ready, rfl, rfl, rfl, rfl, rfl⟩

/-! ### Relay slots -/

theorem relayAt_ne {k : Nat} (h : k ≠ 5) : relayAt m k ≠ relayAt m 5 := by
  unfold relayAt
  omega

theorem lt_relayAt {a : Nat} (k : Nat) (h : a < rRelay) : a ≠ relayAt m k := by
  unfold relayAt
  omega

/-- A slot that asks for an interrupt. -/
theorem State.relay_vector {m : Fin 64} {v : Word} (hm : (s.reg rGwMembers).getLsbD m.val = true) (hv : v.getLsbD 8 = true) (hr : s.ready 0 = true) :
    s.relay m.val m.val v = (s.setReg (relayAt m.val 5) v).emit (.msix (32 * m.val + fget v 16 5)) := by
  have ready : (s.setReg (relayAt m.val 5) v).ready 0 = true :=
    (State.ready_congr (State.reg_setReg_ne _ _ _ _ (lt_relayAt 5 (by decide)))).trans hr
  unfold State.relay
  rw [if_neg (by rw [hm, decide_eq_false (by omega)]; decide)]
  dsimp only
  rw [if_pos hv]
  exact if_pos ready

/-- A slot that carries data to host memory. -/
theorem State.relay_data {m : Fin 64} {v : Word} (hm : (s.reg rGwMembers).getLsbD m.val = true) (hv : v.getLsbD 8 = false) (h1 : 1 ≤ fget v 0 6)
    (h32 : fget v 0 6 ≤ 32) (hr : s.ready 0 = true) (hgw : s.behindGateway = false) : s.relay m.val m.val v =
    { (s.setReg (relayAt m.val 5) v) with
      hostMem := putHost s.hostMem (s.reg (relayAt m.val 4)).toNat
        (((List.range 4).flatMap (fun k => leBytes 8 (s.reg (relayAt m.val k)).toNat)).take (fget v 0 6)) } := by
  have low {a : Nat} (h : a < rRelay) : (s.setReg (relayAt m.val 5) v).reg a = s.reg a := State.reg_setReg_ne _ _ _ _ (lt_relayAt 5 h)
  have ready : (s.setReg (relayAt m.val 5) v).ready 0 = true := (State.ready_congr (low (by decide))).trans hr
  have gw : (s.setReg (relayAt m.val 5) v).behindGateway = false := by
    rw [← hgw]
    exact State.behindGateway_congr rfl (low (by decide)) (low (by decide))
  have slot {k : Nat} (h : k ≠ 5) : (s.setReg (relayAt m.val 5) v).reg (relayAt m.val k) = s.reg (relayAt m.val k) :=
    State.reg_setReg_ne _ _ _ _ (relayAt_ne h)
  have words : (List.range 4).flatMap (fun k => leBytes 8 ((s.setReg (relayAt m.val 5) v).reg (relayAt m.val k)).toNat) =
      (List.range 4).flatMap (fun k => leBytes 8 (s.reg (relayAt m.val k)).toNat) := by
    refine List.flatMap_congr fun k hk => ?_
    have small := List.mem_range.mp hk
    rw [slot (by omega)]
  unfold State.relay
  rw [if_neg (by rw [hm, decide_eq_false (by omega)]; decide)]
  dsimp only
  rw [if_neg (by rw [hv]; decide), if_pos (by simp [inRange, h1, h32]), words, slot (by decide), State.writeHost, if_neg (by rw [gw]; decide),
    if_pos ready]
  rfl

end

/-- Settles O43: BAR2 and staging, resets, loss and return of the link, the gateway's relay slots, and BIFURCATE, row by row. -/
theorem hostLink : Obligations.HostLink := by
  have bar {s : State} {k : State → State} (h : s.recovery = false) : s.bar0 k = k s := s.bar0_eq_of_not_recovery k h
  refine ⟨fun r d s h => ⟨?_, ?_⟩, fun r d s h hn => ⟨?_, ?_⟩, fun r d a c s h ha hc => ⟨?_, ?_⟩, fun off d s h0 hb => ?_, fun off d s h => ?_,
    fun s => ⟨?_, ?_⟩, fun fn s hfn => ?_, fun s => ?_, fun s h => ?_, fun s h => ⟨?_, ?_⟩, fun s => ?_, fun s h => ?_, fun m v s h => ?_,
    fun m v s hm hv hr => ?_, fun m v s hm hv h1 h32 hr hgw => ?_, fun on s hrec => ?_⟩
  · exact congrArg Host.Outcome.next (State.bar2_unserved h none)
  · exact congrArg Host.Outcome.next (State.bar2_unserved h (some d))
  · exact ⟨_, congrArg Host.Outcome.next (State.bar2_unsupported h hn none), rfl, rfl, rfl⟩
  · exact ⟨_, congrArg Host.Outcome.next (State.bar2_unsupported h hn (some d)), rfl, rfl, rfl⟩
  · exact congrArg Host.Outcome.next (State.bar2_queued h ha hc none)
  · exact congrArg Host.Outcome.next (State.bar2_queued h ha hc (some d))
  · exact congrArg Host.Outcome.next (if_pos (by rw [h0, hb]; rfl))
  · exact congrArg Host.Outcome.next (if_neg (by obtain h | h := h <;> simp [h]))
  · exact congrArg Host.Outcome.next s.linkReset_eq
  · exact congrArg Host.Outcome.next ((if_pos rfl).trans s.linkReset_eq)
  · have zero : fn.val ≠ 0 := fun e => hfn (Fin.ext e)
    refine ⟨_, congrArg Host.Outcome.next (if_neg zero), fun e he => ?_, fun e he hne => ?_, fun b hb hf => ?_, rfl, rfl⟩
    · simpa using (List.mem_filter.mp he).2
    · exact List.mem_filter.mpr ⟨he, by simpa using hne⟩
    · exact dead_deadReads (s := s.resetCfg _) _ b hb (decide_eq_true hf)
  · refine ⟨_, rfl, State.ready_setReady false, ?_, rfl, rfl, rfl, rfl⟩
    refine (State.regBit_congr (State.reg_setRegBit_ne _ _ _ _ _ (by decide)) 2).trans ?_
    exact State.regBit_setRegBit _ _ _ _ (by decide)
  · exact ⟨_, congrArg Host.Outcome.next ((if_pos rfl).trans (if_pos h)), rfl, rfl, rfl⟩
  · exact congrArg Host.Outcome.next ((if_pos rfl).trans (if_neg (by rw [h]; decide)))
  · exact congrArg Host.Outcome.next ((if_pos rfl).trans (if_neg (by rw [h]; decide)))
  · obtain ⟨u, hu, ready, buf, irqs, out, hostMem, mem⟩ := s.hostUp_eq
    exact ⟨u, congrArg Host.Outcome.next hu, ready, buf, irqs, out, hostMem, SameMemory.of_mem mem⟩
  · exact ⟨_, congrArg Host.Outcome.next ((if_pos rfl).trans (if_pos h)), rfl, rfl, SameMemory.of_mem rfl⟩
  · exact ⟨_, congrArg Host.Outcome.next (if_pos (by rw [h]; rfl)), s.reg_count _, s.onlyRegs_setReg _ _ _ (by simp)⟩
  · exact ⟨_, congrArg Host.Outcome.next (State.relay_vector hm hv hr), rfl, (State.reg_setReg ..).trans (if_pos rfl), rfl, fun a ha =>
      State.reg_setReg_ne _ _ _ _ (by simpa using ha)⟩
  · exact ⟨_, congrArg Host.Outcome.next (State.relay_data hm hv h1 h32 hr hgw), rfl, (State.reg_setReg ..).trans (if_pos rfl), rfl⟩
  · exact ⟨_, congrArg Host.Outcome.next (bar hrec), State.regBit_setRegBit _ _ _ _ (by decide), s.onlyRegs_setRegBit _ _ _⟩

end Sys2Proof.Machine
end

section
/-! SUPPORT. Requests of the reset domains. -/

namespace Sys2Proof.Machine

section
variable {s t : State}

/-! ### The reset log -/

/-- A log record writes its own entry and RST.LOG_HEAD, and nothing else. -/
theorem State.rest_logEvent (s : State) (kind domain cause arg : Nat) : { s.logEvent kind domain cause arg with regs := s.regs } = s := rfl

theorem State.reg_logEvent_ne {a : Nat} (kind domain cause arg : Nat) (hh : a ≠ rLogHead) (ha : a < rRstLog ∨ rRstLog + 0x1000 ≤ a) :
    (s.logEvent kind domain cause arg).reg a = s.reg a := by
  have small : s.regF rLogHead 0 7 < 128 := Nat.mod_lt _ (by decide)
  unfold State.logEvent State.logRecord
  dsimp only
  rw [State.reg_setRegF_ne _ _ _ _ _ _ hh, State.reg_setReg_ne _ _ _ _ (by omega), State.reg_setReg_ne _ _ _ _ (by omega),
    State.reg_setReg_ne _ _ _ _ (by omega), State.reg_setReg_ne _ _ _ _ (by omega)]

theorem State.logHead_logEvent (s : State) (kind domain cause arg : Nat) :
    (s.logEvent kind domain cause arg).regF rLogHead 0 7 = (s.regF rLogHead 0 7 + 1) % 128 := State.regF_setRegF _ _ _ _ _ (by decide)

/-! ### Domains -/

theorem fenced_of_fencing {d : Nat} (h : s.regBit rRstStatus (5 + d) = true) : s.fenced d = true := by rw [State.fenced, h, Bool.true_or]

theorem State.inReset_of_not_fenced {d : Nat} (h : s.fenced d = false) : s.inReset d = false := (Bool.or_eq_false_iff.mp h).2

theorem State.fenced_congr (h : t.reg rRstStatus = s.reg rRstStatus) (d : Nat) : t.fenced d = s.fenced d := by
  rw [State.fenced, State.regBit_congr h, State.regBit_congr h, State.fenced]

/-- A domain that is fenced keeps BUSY set. -/
theorem State.setDomain_fenced (s : State) {d : Nat} (hd : d < 3) : (s.setDomain d true false).fenced d = true ∧
    (s.setDomain d true false).inReset d = false ∧ (s.setDomain d true false).regBit rRstStatus 0 = true ∧
    (∀ a, a ≠ rRstStatus → (s.setDomain d true false).reg a = s.reg a) ∧ { s.setDomain d true false with regs := s.regs } = s := by
  have h5 : 5 + d < 64 := by omega
  have h2 : 2 + d < 64 := by omega
  have bits : (((s.setRegBit rRstStatus (5 + d) true).setRegBit rRstStatus (2 + d) false).regBit rRstStatus (5 + d)) = true :=
    (State.regBit_setRegBit_other _ _ _ _ _ h2 (by omega)).trans (State.regBit_setRegBit _ _ _ _ h5)
  have busy : ((s.setRegBit rRstStatus (5 + d) true).setRegBit rRstStatus (2 + d) false).regF rRstStatus 2 6 ≠ 0 := by
    intro h
    have bit := of_decide_eq_true bits
    unfold State.regF fget at h bit
    generalize ((s.setRegBit rRstStatus (5 + d) true).setRegBit rRstStatus (2 + d) false).reg rRstStatus = w at *
    have : d = 0 ∨ d = 1 ∨ d = 2 := by omega
    obtain rfl | rfl | rfl := this
    · simp only [Nat.reduceAdd, Nat.reducePow] at h bit
      omega
    · simp only [Nat.reduceAdd, Nat.reducePow] at h bit
      omega
    · simp only [Nat.reduceAdd, Nat.reducePow] at h bit
      omega
  unfold State.setDomain
  extract_lets t
  have eq : t.setRegBit rRstStatus 0 (decide (t.regF rRstStatus 2 6 ≠ 0)) = t.setRegBit rRstStatus 0 true := by
    rw [decide_eq_true (show t.regF rRstStatus 2 6 ≠ 0 from busy)]
  rw [eq]
  refine ⟨fenced_of_fencing ?_, ?_, State.regBit_setRegBit _ _ _ _ (by decide), fun a ha => ?_, rfl⟩
  · exact (State.regBit_setRegBit_other _ _ _ _ _ (by decide) (by omega)).trans bits
  · exact (State.regBit_setRegBit_other _ _ _ _ _ (by decide) (by omega)).trans (State.regBit_setRegBit _ _ _ _ h2)
  · rw [State.reg_setRegBit_ne _ _ _ _ _ ha, State.reg_setRegBit_ne _ _ _ _ _ ha, State.reg_setRegBit_ne _ _ _ _ _ ha]

/-! ### Requests -/

theorem State.nextReset_cons {d cause arg : Nat} {rest : List (Nat × Nat × Nat)} (hcur : s.rst.cur = none) (hq : s.rst.queue = (d, cause, arg) :: rest) (n : Nat) :
    s.nextReset (n + 1) = (fun u : State => if u.inReset d || u.rst.held.getLsbD d then u.nextReset n else u.serveReset d cause arg)
      { s with rst := { s.rst with queue := rest } } := by
  rw [State.nextReset]
  split
  · next hcons =>
    cases hcons.symm.trans hq
    rfl
  · next no => exact absurd hq (no d cause arg rest hcur)

/-- The next reset in the queue is served where none is in progress. -/
theorem State.serveNext_one {d cause arg : Nat} (hcur : s.rst.cur = none) (hq : s.rst.queue = []) (hf : s.fenced d = false)
    (hh : s.rst.held.getLsbD d = false) : State.serveNext { s with rst := { s.rst with queue := s.rst.queue ++ [(d, cause, arg)] } } =
      s.serveReset d cause arg := by
  have same : ({ s with rst := { s.rst with queue := [] } } : State) = s := by rw [← hq]
  have idle : ¬ (s.inReset d || s.rst.held.getLsbD d) = true := by
    rw [State.inReset_of_not_fenced hf, hh]
    decide
  rw [State.serveNext]
  refine (State.nextReset_cons (s := { s with rst := { s.rst with queue := s.rst.queue ++ [(d, cause, arg)] } }) (d := d) (cause := cause) (arg := arg)
    (rest := []) hcur (by rw [hq]; rfl) _).trans ?_
  exact (congrArg (fun u : State => if u.inReset d || u.rst.held.getLsbD d then u.nextReset _ else u.serveReset d cause arg) same).trans (if_neg idle)

/-- A reset that nothing holds back is served. -/
theorem State.requestReset_serves {d cause arg : Nat} (hcur : s.rst.cur = none) (hq : s.rst.queue = []) (hf : s.fenced d = false)
    (hh : s.rst.held.getLsbD d = false) (hout : d = 0 → s.outOfService = false) (hauto : cause = 0 ∨ cause = 5 ∨ s.regBit rRstCtl 0 = true)
    (hw : s.withheld d cause = false) : s.requestReset d cause arg = s.serveReset d cause arg := by
  have service : (d = 0 && s.outOfService) = false := by
    by_cases hd : d = 0
    · rw [hout hd, Bool.and_false]
    · rw [decide_eq_false hd, Bool.false_and]
  have auto : ((cause ≠ 0 && cause ≠ 5) && !s.regBit rRstCtl 0) = false := by
    obtain h | h | h := hauto
    · simp [h]
    · simp [h]
    · simp [h]
  rw [State.requestReset, if_neg (by rw [service]; decide), if_neg (by rw [auto]; decide), if_neg (by rw [hh, Bool.and_false]; decide),
    if_neg (by rw [hf, hq, List.any_nil]; decide), if_neg (by rw [hw]; decide)]
  exact State.serveNext_one hcur hq hf hh

/-- A reset of a fenced domain is merged. -/
theorem State.requestReset_merged {d arg : Nat} (hf : s.fenced d = true) (hh : s.rst.held = 0) : s.requestReset d 0 arg = s := by
  have held : s.rst.held.getLsbD d = false := by rw [hh]; simp
  unfold State.requestReset
  split
  · rfl
  · rw [if_neg (by simp), if_neg (by rw [held, Bool.and_false]; decide), if_pos (by rw [hf]; rfl)]

theorem State.requestReset_outOfService (h : s.outOfService = true) (cause arg : Nat) : s.requestReset 0 cause arg = s := if_pos (by rw [h]; rfl)

/-- A reset that hardware asks for is only reported while AUTO is 0. -/
theorem State.requestReset_reported {d cause arg : Nat} (hd : d < 3) (h0 : cause ≠ 0) (h5 : cause ≠ 5) (hauto : s.regBit rRstCtl 0 = false)
    (hout : d = 0 → s.outOfService = false) (hgw : s.behindGateway = false) : (s.requestReset d cause arg).regBit rRstStatus (8 + d) = true ∧
    (s.requestReset d cause arg).fenced d = s.fenced d ∧ (s.requestReset d cause arg).rst = s.rst := by
  have service : (d = 0 && s.outOfService) = false := by
    by_cases hd : d = 0
    · rw [hout hd, Bool.and_false]
    · rw [decide_eq_false hd, Bool.false_and]
  have run : s.requestReset d cause arg = ((s.setRegBit rRstStatus (8 + d) true).logEvent 0 d cause arg).raise 14 := by
    rw [State.requestReset, if_neg (by rw [service]; decide), if_pos (by simp [h0, h5, hauto])]
  have other {a : Nat} (ha : a ≠ rRstStatus) (hh : a ≠ rLogHead) (hl : a < rRstLog ∨ rRstLog + 0x1000 ≤ a) :
      ((s.setRegBit rRstStatus (8 + d) true).logEvent 0 d cause arg).reg a = s.reg a :=
    (State.reg_logEvent_ne _ _ _ _ hh hl).trans (State.reg_setRegBit_ne _ _ _ _ _ ha)
  have stat : ((s.setRegBit rRstStatus (8 + d) true).logEvent 0 d cause arg).reg rRstStatus = (s.setRegBit rRstStatus (8 + d) true).reg rRstStatus :=
    State.reg_logEvent_ne _ _ _ _ (by decide) (by decide)
  have gw : ((s.setRegBit rRstStatus (8 + d) true).logEvent 0 d cause arg).behindGateway = false := by
    rw [← hgw]
    exact State.behindGateway_congr rfl (other (by decide) (by decide) (by decide)) (other (by decide) (by decide) (by decide))
  have rst : ((s.setRegBit rRstStatus (8 + d) true).logEvent 0 d cause arg).rst = s.rst := rfl
  obtain ⟨o, x, raised⟩ := State.raise_own gw 14
  obtain ⟨regs, -, -⟩ := State.raise_leaves gw 14
  rw [run]
  generalize (s.setRegBit rRstStatus (8 + d) true).logEvent 0 d cause arg = u at *
  have all := (regs rRstStatus).trans stat
  refine ⟨(State.regBit_congr all _).trans (State.regBit_setRegBit _ _ _ _ (by omega)), ?_, by rw [raised]; exact rst⟩
  rw [State.fenced_congr all, State.fenced, State.fenced, State.regBit_setRegBit_other _ _ _ _ _ (by omega) (by omega),
    State.regBit_setRegBit_other _ _ _ _ _ (by omega) (by omega)]

/-- A reset of the switch and links is counted and logged. -/
def State.countedLogged (s : State) : State := (s.countWrap rRstCount 16 16).logEvent 0 1 0 0

theorem State.countedLogged_facts (s : State) : s.countedLogged.regF rRstCount 16 16 = (s.regF rRstCount 16 16 + 1) % 2 ^ 16 ∧
    s.countedLogged.regF rLogHead 0 7 = (s.regF rLogHead 0 7 + 1) % 128 ∧ { s.countedLogged with regs := s.regs } = s := by
  have counted : { s.countWrap rRstCount 16 16 with regs := s.regs } = s := rfl
  have logged := congrArg (fun x : State => { x with regs := s.regs }) ((s.countWrap rRstCount 16 16).rest_logEvent 0 1 0 0)
  unfold State.countedLogged
  refine ⟨?_, ?_, logged.trans counted⟩
  · rw [State.regF_congr (State.reg_logEvent_ne _ _ _ _ (by decide) (by decide)), State.countWrap, State.regF_setRegF _ _ _ _ _ (by decide)]
  · rw [State.logHead_logEvent, State.countWrap, State.regF_setRegF_ne _ _ _ _ _ _ _ _ (by decide)]

/-- The switch and links are fenced at once. -/
theorem State.serveReset_switch (s : State) : (s.serveReset 1 0 0).fenced 1 = true ∧ (s.serveReset 1 0 0).inReset 1 = false ∧
    (s.serveReset 1 0 0).regBit rRstStatus 0 = true ∧ (s.serveReset 1 0 0).rst.cur = some (1, 0) ∧
    (s.serveReset 1 0 0).regF rRstCount 16 16 = (s.regF rRstCount 16 16 + 1) % 2 ^ 16 ∧
    (s.serveReset 1 0 0).regF rLogHead 0 7 = (s.regF rLogHead 0 7 + 1) % 128 ∧ { s.serveReset 1 0 0 with regs := s.regs, rst := s.rst } = s := by
  have run : s.serveReset 1 0 0 = (State.countedLogged { s with rst := { s.rst with cur := some (1, 0) } }).setDomain 1 true false := rfl
  obtain ⟨count, head, kept⟩ := State.countedLogged_facts { s with rst := { s.rst with cur := some (1, 0) } }
  rw [run]
  generalize State.countedLogged { s with rst := { s.rst with cur := some (1, 0) } } = u at *
  obtain ⟨fenced, reset, busy, regs, kept'⟩ := u.setDomain_fenced (d := 1) (by decide)
  refine ⟨fenced, reset, busy, ?_, (State.regF_congr (regs _ (by decide)) 16 16).trans count,
    (State.regF_congr (regs _ (by decide)) 0 7).trans head, ?_⟩
  · exact (congrArg (fun x : State => x.rst.cur) kept' :).trans (congrArg (fun x : State => x.rst.cur) kept :)
  · have e := congrArg (fun x : State => { x with regs := s.regs, rst := s.rst }) kept'
    exact e.trans (congrArg (fun x : State => { x with rst := s.rst }) kept)

end

/-- Settles O48: requests of the three domains, and the watchdogs, row by row. -/
theorem resetRequests : Obligations.ResetRequests := by
  have bar {s : State} {k : State → State} (h : s.recovery = false) : s.bar0 k = k s := s.bar0_eq_of_not_recovery k h
  have written {s : State} {d : Nat} (h : s.recovery = false) : s.resetRow d .hostWrite = s.requestReset d 0 0 :=
    (if_pos rfl).trans (bar h)
  have asked {s : State} {d : Nat} {c : ResetCause} (h : c ≠ .hostWrite) : s.resetRow d c = s.requestReset d (causeCode c) 0 := if_neg h
  have code {c : ResetCause} (h : c ≠ .hostWrite) (h' : c ≠ .thermalHold) : causeCode c ≠ 0 ∧ causeCode c ≠ 5 := by
    cases c with
    | hostWrite => exact absurd rfl h
    | thermalHold => exact absurd rfl h'
    | overrunLimit => decide
    | routerStall => decide
    | internalPort => decide
    | homeWatchdog => decide
  refine ⟨fun s hrec hout ⟨hcur, hq, hf, hh⟩ => ?_, fun s hrec ⟨hcur, hq, hf, hh⟩ => ?_, fun s hrec ⟨hcur, hq, hf, hh⟩ => ?_, fun s hout hrec c => ?_,
    fun s hrec hh => ⟨fun hout hf => ?_, fun hf => ?_, fun hf => ?_⟩, fun c s hc hc' hauto hgw => ⟨fun hout => ?_, ?_, ?_⟩, fun p s h => ?_, fun p s h => ?_,
    fun c s h => ?_, fun c s h => ?_, fun d arg s hauto hcur hq hf hh hw hout => ?_, fun p s hup hq => ?_, fun p s h => ?_, fun s h hgw => ?_, fun s h => ?_⟩
  · exact congrArg Host.Outcome.next ((written hrec).trans (State.requestReset_serves hcur hq hf hh (fun _ => hout) (.inl rfl) rfl))
  · refine ⟨_, congrArg Host.Outcome.next ((written hrec).trans (State.requestReset_serves hcur hq hf hh (fun h => absurd h (by decide)) (.inl rfl) rfl)),
      rfl, s.serveReset_switch⟩
  · exact congrArg Host.Outcome.next ((written hrec).trans (State.requestReset_serves hcur hq hf hh (fun h => absurd h (by decide)) (.inl rfl) rfl))
  · refine congrArg Host.Outcome.next ?_
    by_cases hc : c = .hostWrite
    · rw [hc]
      exact (written hrec).trans (State.requestReset_outOfService hout 0 0)
    · exact (asked hc).trans (State.requestReset_outOfService hout _ 0)
  · exact congrArg Host.Outcome.next ((written hrec).trans (State.requestReset_merged hf hh))
  · exact congrArg Host.Outcome.next ((written hrec).trans (State.requestReset_merged hf hh))
  · exact congrArg Host.Outcome.next ((written hrec).trans (State.requestReset_merged hf hh))
  · exact ⟨_, congrArg Host.Outcome.next (asked hc), State.requestReset_reported (by decide) (code hc hc').1 (code hc hc').2 hauto (fun _ => hout) hgw⟩
  · exact ⟨_, congrArg Host.Outcome.next (asked hc), State.requestReset_reported (by decide) (code hc hc').1 (code hc hc').2 hauto
      (fun h => absurd h (by decide)) hgw⟩
  · exact ⟨_, congrArg Host.Outcome.next (asked hc), State.requestReset_reported (by decide) (code hc hc').1 (code hc hc').2 hauto
      (fun h => absurd h (by decide)) hgw⟩
  · exact congrArg Host.Outcome.next (if_pos h)
  · exact congrArg Host.Outcome.next (if_neg (by rw [h]; decide))
  · exact congrArg Host.Outcome.next (if_pos h)
  · exact congrArg Host.Outcome.next (if_neg (by rw [h]; decide))
  · exact State.requestReset_serves hcur hq hf hh hout (.inr (.inr hauto)) hw
  · exact congrArg Host.Outcome.next (if_pos (by rw [hup, hq]; rfl))
  · refine congrArg Host.Outcome.next (if_neg ?_)
    obtain h | h := h
    · simp [h]
    · simp [h]
  · refine ⟨_, congrArg Host.Outcome.next (if_pos h), ?_, rfl⟩
    refine (State.ready_congr (State.reg_logEvent_ne _ _ _ _ (by decide) (by decide))).trans ?_
    exact State.regBit_setRegBit _ _ _ _ (by decide)
  · exact congrArg Host.Outcome.next (if_neg (by rw [h]; decide))

end Sys2Proof.Machine
end

section
/-! SUPPORT. The mailbox of the Principal and the Gradebook's commands. -/

namespace Sys2Proof.Machine

section
variable {s t u : State}

/-! ### The end of a command -/

/-- Nothing waits for a Gradebook command to end. -/
def State.gbIdle (s : State) : Prop := s.gb.waits = [] ∧ ∀ p : OptPort, (s.opt p.val).recalWait = false

theorem State.gbFlush_idle (h : s.gbIdle) : s.gbFlush = s := by
  obtain ⟨hw, hp⟩ := h
  have same : ({ s with gb := { s.gb with waits := [] } } : State) = s := by rw [← hw]
  have none : (List.range 64).filter (fun i => (s.opt i).recalWait) = [] :=
    List.filter_eq_nil_iff.mpr fun i hi => by rw [hp ⟨i, List.mem_range.mp hi⟩]; decide
  unfold State.gbFlush
  rw [hw, same]
  exact congrArg (fun l => s.forAll l (fun s i => (s.setOpt i { s.opt i with recalWait := false }).recalStart i)) none

/-- A Principal that is no gateway's member, and for which nothing waits. -/
structure MailReady (s : State) : Prop where
  own : s.behindGateway = false
  idle : s.gbIdle

theorem MailReady.congr (h : MailReady s) (hm : t.host.member = s.host.member) (hn : t.reg rGwNode = s.reg rGwNode)
    (hg : t.reg rGlbNode = s.reg rGlbNode) (hw : t.gb.waits = s.gb.waits) (ho : t.opts = s.opts) : MailReady t :=
  ⟨(State.behindGateway_congr hm hn hg).trans h.own, hw.trans h.idle.1, fun p => by rw [State.opt_congr ho]; exact h.idle.2 p⟩

/-- PRIN.RESULT of a command that has ended. -/
def State.resulted (s : State) (code : Nat) (value : Option Nat) : State :=
  let t := s.setRegF rPrinResult 0 8 code
  (match value with
    | some v => t.setRegF rPrinResult 32 32 v
    | none => t).setRegBit rPrinStatus 0 false

theorem State.resulted_facts (s : State) {code : Nat} (hc : code < 256) (value : Option Nat) : (s.resulted code value).regF rPrinResult 0 8 = code ∧
    (s.resulted code value).regF rPrinResult 32 32 = (match value with
      | some v => v % 2 ^ 32
      | none => s.regF rPrinResult 32 32) ∧ (s.resulted code value).regBit rPrinStatus 0 = false ∧
    (∀ a, a ≠ rPrinResult → a ≠ rPrinStatus → (s.resulted code value).reg a = s.reg a) ∧ { s.resulted code value with regs := s.regs } = s := by
  have busy (u : State) : (u.setRegBit rPrinStatus 0 false).reg rPrinResult = u.reg rPrinResult := State.reg_setRegBit_ne _ _ _ _ _ (by decide)
  cases value with
  | none =>
    refine ⟨?_, ?_, State.regBit_setRegBit _ _ _ _ (by decide), fun a h1 h2 => ?_, rfl⟩
    · exact (State.regF_congr (busy _) 0 8).trans ((State.regF_setRegF _ _ _ _ _ (by decide)).trans (Nat.mod_eq_of_lt hc))
    · exact (State.regF_congr (busy _) 32 32).trans (State.regF_setRegF_above _ _ _ _ _ _ _ (by decide) (by decide))
    · exact (State.reg_setRegBit_ne _ _ _ _ _ h2).trans (State.reg_setRegF_ne _ _ _ _ _ _ h1)
  | some v =>
    refine ⟨?_, ?_, State.regBit_setRegBit _ _ _ _ (by decide), fun a h1 h2 => ?_, rfl⟩
    · exact (State.regF_congr (busy _) 0 8).trans ((State.regF_setRegF_below _ _ _ _ _ _ _ (by decide) (by decide)).trans
        ((State.regF_setRegF _ _ _ _ _ (by decide)).trans (Nat.mod_eq_of_lt hc)))
    · exact (State.regF_congr (busy _) 32 32).trans (State.regF_setRegF _ _ _ _ _ (by decide))
    · exact (State.reg_setRegBit_ne _ _ _ _ _ h2).trans ((State.reg_setRegF_ne _ _ _ _ _ _ h1).trans (State.reg_setRegF_ne _ _ _ _ _ _ h1))

/-- What the end of a command leaves. -/
structure MailEnded (s t : State) (code : Nat) (value : Option Nat) : Prop where
  code : t.regF rPrinResult 0 8 = code
  value : t.regF rPrinResult 32 32 = (match value with
    | some v => v % 2 ^ 32
    | none => s.regF rPrinResult 32 32)
  busy : t.regBit rPrinStatus 0 = false
  regs : ∀ a, a ≠ rPrinResult → a ≠ rPrinStatus → t.reg a = s.reg a
  rest : { t with regs := s.regs, out := s.out, host := s.host } = s

theorem State.mailEnd_eq (code : Nat) (value : Option Nat) : s.mailEnd code value = ((s.resulted code value).raise 13).gbFlush := by
  cases value with
  | none => rfl
  | some v => rfl

theorem mailEnded (h : MailReady s) {code : Nat} (hc : code < 256) (value : Option Nat) : MailEnded s (s.mailEnd code value) code value := by
  obtain ⟨hcode, hvalue, hbusy, hregs, hrest⟩ := s.resulted_facts hc value
  rw [State.mailEnd_eq]
  generalize s.resulted code value = u at *
  have ready : MailReady u := h.congr (congrArg (fun x : State => x.host.member) hrest :) (hregs _ (by decide) (by decide))
    (hregs _ (by decide) (by decide)) (congrArg (fun x : State => x.gb.waits) hrest :) (congrArg State.opts hrest :)
  obtain ⟨o, x, e⟩ := State.raise_own ready.own 13
  obtain ⟨regs, opts, own⟩ := State.raise_leaves ready.own 13
  have gb : (u.raise 13).gb = u.gb := by rw [e]
  have idle : (u.raise 13).gbIdle := ⟨by rw [gb]; exact ready.idle.1, fun p => by rw [State.opt_congr opts]; exact ready.idle.2 p⟩
  rw [State.gbFlush_idle idle]
  refine ⟨(State.regF_congr (regs _) 0 8).trans hcode, (State.regF_congr (regs _) 32 32).trans hvalue, (State.regBit_congr (regs _) 0).trans hbusy,
    fun a h1 h2 => (regs a).trans (hregs a h1 h2), ?_⟩
  rw [e]
  exact (congrArg (fun y : State => { y with out := s.out, host := s.host }) hrest :)

theorem MailEnded.gb {code : Nat} {value : Option Nat} (h : MailEnded s t code value) : t.gb = s.gb := (congrArg State.gb h.rest :)
theorem MailEnded.prin {code : Nat} {value : Option Nat} (h : MailEnded s t code value) : t.prin = s.prin := (congrArg State.prin h.rest :)
theorem MailEnded.mem {code : Nat} {value : Option Nat} (h : MailEnded s t code value) : t.mem = s.mem := (congrArg State.mem h.rest :)
theorem MailEnded.svn {code : Nat} {value : Option Nat} (h : MailEnded s t code value) : t.svn = s.svn := by rw [State.svn, h.prin, State.svn]
theorem MailEnded.ends {code : Nat} {value : Option Nat} (h : MailEnded s t code value) : t.regF rPrinResult 0 8 = code ∧ t.regBit rPrinStatus 0 = false :=
  ⟨h.code, h.busy⟩

theorem mailFailed (h : MailReady s) {code : Nat} (hc : code < 256) : ∃ v, MailEnded (s.freeNum 4).2 (s.mailFail code) code (some v) := by
  have ready : MailReady (s.freeNum 4).2 := h.congr rfl rfl rfl rfl rfl
  exact ⟨(s.freeNum 4).1, mailEnded ready hc (some (s.freeNum 4).1)⟩

/-! ### A write of PRIN.CMD -/

/-- The state in which a command runs. -/
def State.mailBusy (s : State) : State := s.setRegBit rPrinStatus 0 true

theorem State.reg_mailBusy_ne {a : Nat} (h : a ≠ rPrinStatus) : s.mailBusy.reg a = s.reg a := State.reg_setRegBit_ne _ _ _ _ _ h

theorem State.arg_mailBusy (k : Nat) : s.mailBusy.arg k = s.arg k := State.reg_mailBusy_ne (by unfold rPrinArg rPrinStatus; omega)

theorem State.mail_busy (h : s.regBit rPrinStatus 0 = true) (i : PrinCmd) : s.mail i = s.setRegBit rPrinStatus 7 true := if_pos h

theorem State.mail_runs (hb : s.regBit rPrinStatus 0 = false) (hr : s.ready 1 = true) (i : PrinCmd) : s.mail i = s.mailBusy.runPrin i := by
  have ready : s.mailBusy.ready 1 = true := (State.ready_congr (State.reg_mailBusy_ne (by decide))).trans hr
  rw [State.mail, if_neg (by rw [hb]; decide)]
  exact if_pos (by rw [show (s.setRegBit rPrinStatus 0 true).ready 1 = true from ready]; rfl)

theorem State.recovery_mailBusy : s.mailBusy.recovery = s.recovery := State.regBit_congr (State.reg_mailBusy_ne (by decide)) 13

theorem State.mail_waits (hb : s.regBit rPrinStatus 0 = false) (hr : s.ready 1 = false) (hrec : s.recovery = false) (i : PrinCmd) : s.mail i =
    State.setRegBit { s.mailBusy with prin := { s.prin with waits := s.prin.waits ++ [i] } } rSecStatus 8 true := by
  have ready : s.mailBusy.ready 1 = false := (State.ready_congr (State.reg_mailBusy_ne (by decide))).trans hr
  rw [State.mail, if_neg (by rw [hb]; decide)]
  exact if_neg (by
    rw [show (s.setRegBit rPrinStatus 0 true).ready 1 = false from ready,
      show (s.setRegBit rPrinStatus 0 true).recovery = false from State.recovery_mailBusy.trans hrec]
    decide)

theorem MailReady.mailBusy (h : MailReady s) : MailReady s.mailBusy :=
  h.congr rfl (State.reg_mailBusy_ne (by decide)) (State.reg_mailBusy_ne (by decide)) rfl rfl

/-! ### Security version and firmware -/

theorem State.svnRaise_refused (h : (s.arg 0).toNat ≤ s.svn.toNat) : s.svnRaise = s.mailEnd 7 (some s.svn.toNat) := if_pos h

theorem State.svnRaise_raises (h : s.svn.toNat < (s.arg 0).toNat) : s.svnRaise =
    State.mailEnd { s with prin := { s.prin with svn := some (s.arg 0) } } 0 (some (s.arg 0).toNat) := if_neg (by omega)

/-- The image after a chunk of n bytes at an offset. -/
def State.chunked (s : State) (off n : Nat) : List (Nat × Option Byte) :=
  (List.range n).foldl (fun t i => tput noByte t (off + i) (some (s.bufByte i))) s.prin.image

theorem State.chunked_succ (off n : Nat) : s.chunked off (n + 1) = tput noByte (s.chunked off n) (off + n) (some (s.bufByte n)) := by
  rw [State.chunked, List.range_succ, List.foldl_append]
  rfl

theorem State.tget_chunked (off : Nat) {n i : Nat} (h : i < n) : tget noByte (s.chunked off n) (off + i) = some (s.bufByte i) := by
  induction n with
  | zero => exact absurd h (Nat.not_lt_zero i)
  | succ n ih =>
    rw [State.chunked_succ, tget_tput]
    split
    · next e => rw [show n = i by omega]
    · exact ih (by omega)

theorem State.fwChunk_refused (h : (s.arg 1).toNat = 0 ∨ 32768 < (s.arg 1).toNat) : s.fwChunk = s.mailFail 2 := by
  refine if_pos ?_
  simp [inRange]
  omega

/-- The state in which a chunk has been received. -/
def State.chunkKept (s : State) : State := { s with prin := { s.prin with image := s.chunked (s.arg 0).toNat (s.arg 1).toNat } }

theorem State.fwChunk_more (h1 : 1 ≤ (s.arg 1).toNat) (h2 : (s.arg 1).toNat ≤ 32768) (hl : (s.arg 2).getLsbD 0 = false) :
    s.fwChunk = s.chunkKept.mailEnd 0 (some (s.chunked (s.arg 0).toNat (s.arg 1).toNat).length) :=
  (if_neg (by simp [inRange, h1, h2])).trans (if_pos (by rw [hl]; rfl))

/-- The state in which a whole image has been written to the other bank. -/
def State.imageKept (s : State) : State :=
  { s.chunkKept with
    freeCtr := s.freeCtr + s.chunkKept.received.length
    prin := { s.chunkKept.prin with
      image := [], prefer := some (if s.imageOk s.chunkKept.received then !s.prin.bank else s.prin.bank)
      loaded := tput (fun _ => none) s.prin.loaded (!s.prin.bank).toNat (some s.chunkKept.received) } }

theorem State.fwChunk_last (h1 : 1 ≤ (s.arg 1).toNat) (h2 : (s.arg 1).toNat ≤ 32768) (hl : (s.arg 2).getLsbD 0 = true) :
    s.fwChunk = s.imageKept.mailEnd (if s.imageOk s.chunkKept.received then 0 else if !imageSignedOk s.chunkKept.received then 4 else 5)
      (some (s.chunked (s.arg 0).toNat (s.arg 1).toNat).length) :=
  (if_neg (by simp [inRange, h1, h2])).trans (if_neg (by rw [hl]; decide))

/-! ### Gradebook -/

/-- A Gradebook entry changes the entries and their checks alone. -/
theorem State.rest_gbWrite (s : State) (kind idx origin : Nat) (body : List Byte) :
    { s.gbWrite kind idx origin body with gb := { (s.gbWrite kind idx origin body).gb with entries := s.gb.entries, bad := s.gb.bad } } = s := rfl

/-- What commands on the Gradebook leave: registers, what is pending and what waits, and everything outside it. -/
structure GbOnly (s t : State) : Prop where
  rest : { t with gb := s.gb } = s
  pending : t.gb.pending = s.gb.pending
  waits : t.gb.waits = s.gb.waits

theorem GbOnly.refl (s : State) : GbOnly s s := ⟨rfl, rfl, rfl⟩
theorem GbOnly.gbWrite (h : GbOnly s t) (kind idx origin : Nat) (body : List Byte) : GbOnly s (t.gbWrite kind idx origin body) :=
  ⟨h.rest, h.pending, h.waits⟩

theorem GbOnly.gbInstall (h : GbOnly s t) (kind idx : Nat) (body : List Byte) : GbOnly s (t.gbInstall kind idx body) := by
  unfold State.gbInstall
  split
  · exact ⟨h.rest, h.pending, h.waits⟩
  · exact h.gbWrite kind idx 3 body

/-- Entries that await a commit. -/
def State.toCommit (s : State) : List (Nat × GbEntry) := s.gb.pending.filterMap (fun e => e.2.map (fun x => (e.1, x)))

/-- The state in which the entries that awaited a commit are in the flash. -/
def State.committed (s : State) : State :=
  let t := s.forAll s.toCommit (fun s e => s.gbWrite 3 e.1 e.2.origin e.2.body)
  ({ t with gb := { t.gb with pending := [] } }).setRegF rCalStatus 8 5 0

theorem State.commit_eq (s : State) : s.commit = (s.toCommit.length, s.committed) := rfl

theorem State.committed_facts (s : State) : s.committed.gb.pending = [] ∧ s.committed.gb.waits = s.gb.waits ∧
    s.committed.regF rCalStatus 8 5 = 0 ∧ (∀ a, a ≠ rCalStatus → s.committed.reg a = s.reg a) ∧ { s.committed with regs := s.regs, gb := s.gb } = s := by
  have written : GbOnly s (s.forAll s.toCommit (fun s e => s.gbWrite 3 e.1 e.2.origin e.2.body)) :=
    State.forAll_induct (GbOnly.refl s) fun u e hu => hu.gbWrite 3 e.1 e.2.origin e.2.body
  unfold State.committed
  generalize s.forAll s.toCommit _ = t at *
  obtain ⟨rest, -, waits⟩ := written
  refine ⟨rfl, waits, State.regF_setRegF _ _ _ _ _ (by decide), fun a ha => ?_,
    (congrArg (fun x : State => { x with regs := s.regs }) rest :)⟩
  exact (State.reg_setRegF_ne _ _ _ _ _ _ ha).trans (congrArg (State.reg · a) rest :)

theorem MailReady.committed (h : MailReady s) : MailReady s.committed := by
  obtain ⟨-, waits, -, regs, rest⟩ := s.committed_facts
  exact h.congr (congrArg (fun x : State => x.host.member) rest :) (regs _ (by decide)) (regs _ (by decide)) waits (congrArg State.opts rest :)

theorem State.importCheck_range (h : (s.arg 0).toNat % 64 ≠ 0 ∨ (s.arg 1).toNat < 128) : s.importCheck = .inl 2 := by
  refine if_pos ?_
  obtain h | h := h
  · simp [h]
  · simp [h]

theorem State.importCheck_unserved (h0 : (s.arg 0).toNat % 64 = 0) (h1 : 128 ≤ (s.arg 1).toNat)
    (hr : s.generalRange (s.arg 0).toNat (s.arg 1).toNat = true) (hp : s.poolServed = false) : s.importCheck = .inl 7 :=
  (if_neg (by simp [h0, hr]; omega)).trans (if_pos (by rw [hp]; rfl))

/-- Entries that an import installs. -/
def State.picked (s : State) (es : List (Nat × Nat × List Byte)) : List (Nat × Nat × List Byte) :=
  es.filter (fun e => decide (1 ≤ e.1) && (s.arg 2).getLsbD (e.1 - 1))

/-- The state in which an import's entries are installed. -/
def State.imported (s : State) (es : List (Nat × Nat × List Byte)) : State :=
  let t := s.forAll (s.picked es) (fun s e => s.gbInstall e.1 e.2.1 e.2.2)
  if decide (1 ≤ 3) && (s.arg 2).getLsbD (3 - 1) then
    ({ t with gb := { t.gb with pending := [] }, omu := { t.omu with images := [] } }).setRegBit rCalStatus 10 false
  else t

theorem State.gbImport_refused {c : Nat} (h : s.importCheck = .inl c) : s.gbImport = s.mailEnd c (some 0) := by
  rw [State.gbImport, h]

theorem State.gbImport_takes {es : List (Nat × Nat × List Byte)} (h : s.importCheck = .inr es) :
    s.gbImport = (s.imported es).mailEnd 0 (some (s.picked es).length) := by
  rw [State.gbImport, h]
  rfl

theorem MailReady.imported (h : MailReady s) (es : List (Nat × Nat × List Byte)) : MailReady (s.imported es) := by
  have written : GbOnly s (s.forAll (s.picked es) (fun s e => s.gbInstall e.1 e.2.1 e.2.2)) :=
    State.forAll_induct (GbOnly.refl s) fun u e hu => hu.gbInstall e.1 e.2.1 e.2.2
  unfold State.imported
  generalize s.forAll (s.picked es) _ = t at *
  obtain ⟨rest, -, waits⟩ := written
  have reg (a : Nat) : t.reg a = s.reg a := (congrArg (State.reg · a) rest :)
  have member : t.host.member = s.host.member := (congrArg (fun x : State => x.host.member) rest :)
  have opts : t.opts = s.opts := (congrArg State.opts rest :)
  dsimp only
  split
  · exact h.congr member ((State.reg_setRegBit_ne _ _ _ _ _ (by decide)).trans (reg _)) ((State.reg_setRegBit_ne _ _ _ _ _ (by decide)).trans (reg _))
      waits opts
  · exact h.congr member (reg _) (reg _) waits opts

/-! ### A command that runs reads the state it was written in -/

theorem State.generalRange_mailBusy (a n : Nat) : s.mailBusy.generalRange a n = s.generalRange a n := by
  rw [State.generalRange, State.ovfRegion, State.ttRegion, State.regF_congr (State.reg_mailBusy_ne (by decide)),
    State.regF_congr (State.reg_mailBusy_ne (by decide)), State.regF_congr (State.reg_mailBusy_ne (by decide)),
    State.regF_congr (State.reg_mailBusy_ne (by decide)), State.generalRange, State.ovfRegion, State.ttRegion]

theorem State.poolServed_mailBusy : s.mailBusy.poolServed = s.poolServed := by
  have ready {c : Nat} (hc : c < 64) : s.mailBusy.ready (readyCh c) = s.ready (readyCh c) :=
    State.ready_congr (State.reg_mailBusy_ne (by unfold rGlbReady rPrinStatus readyCh; omega))
  have channels : s.mailBusy.channelsReady = s.channelsReady := by
    rw [State.channelsReady, State.channelsReady, Bool.eq_iff_iff, List.all_eq_true, List.all_eq_true]
    exact forall₂_congr fun c hc => by rw [ready (List.mem_range.mp hc)]
  rw [State.poolServed, State.fenced_congr (State.reg_mailBusy_ne (by decide)), channels, State.poolServed]

theorem State.peek_mailBusy (a n : Nat) : s.mailBusy.peek a n = s.peek a n := by
  have bytes : s.mailBusy.bytes a n = s.bytes a n := State.bytes_of_mem (s := s) (t := s.mailBusy) rfl a n
  have merged (cover : List (Nat × List Byte)) : s.mailBusy.readOver cover a n = s.readOver cover a n := by
    unfold State.readOver
    rw [bytes]
    rfl
  unfold State.peek
  rw [bytes, merged]
  rfl

theorem State.lineBad_mailBusy (l : Nat) : s.mailBusy.lineBad l = s.lineBad l := by
  have index : s.mailBusy.errIndex l = s.errIndex l := by
    have entry (i : Nat) : s.mailBusy.reg (errEntry (channelOf (64 * l)) i) = s.reg (errEntry (channelOf (64 * l)) i) :=
      State.reg_mailBusy_ne (by unfold errEntry chReg rChan rPrinStatus; omega)
    unfold State.errIndex
    simp only [entry]
  unfold State.lineBad
  rw [index, State.regF_congr (State.reg_mailBusy_ne (by unfold chReg rChan rPrinStatus; omega))]
  rfl

theorem State.peekBad_mailBusy (a n : Nat) : s.mailBusy.peekBad a n = s.peekBad a n := by
  have bad : s.mailBusy.lineBad = s.lineBad := funext State.lineBad_mailBusy
  rw [State.peekBad, bad, State.peekBad]

theorem State.importCheck_mailBusy : s.mailBusy.importCheck = s.importCheck := by
  unfold State.importCheck
  dsimp only
  rw [State.arg_mailBusy, State.arg_mailBusy, State.generalRange_mailBusy, State.poolServed_mailBusy, State.peek_mailBusy, State.peekBad_mailBusy]

/-- An import's code is one of R603's. -/
theorem State.importCheck_code {c : Nat} (h : s.importCheck = .inl c) : c < 256 := by
  unfold State.importCheck at h
  dsimp only at h
  have code {n : Nat} (hn : n < 256) (e : (.inl n : Nat ⊕ List (Nat × Nat × List Byte)) = .inl c) : c < 256 := by
    rw [← Sum.inl.inj e]
    exact hn
  split at h
  · exact code (by decide) h
  · split at h
    · exact code (by decide) h
    · split at h
      · exact code (by decide) h
      · split at h
        · exact code (by decide) h
        · split at h
          · exact code (by decide) h
          · split at h
            · exact code (by decide) h
            · exact absurd h (by simp)

theorem State.gbImage_mailBusy : s.mailBusy.gbImage = s.gbImage := by
  have lesson : s.mailBusy.lesson = s.lesson := State.reg_mailBusy_ne (by decide)
  unfold State.gbImage
  rw [lesson]
  rfl

theorem State.gbExport_eq (h0 : (s.arg 0).toNat % 64 = 0) (hp : s.poolServed = true) : s.gbExport =
    if s.gbImage.length ≤ (s.arg 1).toNat ∧ s.generalRange (s.arg 0).toNat s.gbImage.length = true then
      (((s.poke (s.arg 0).toNat s.gbImage).setRegBit rCalStatus 16 true).mailEnd 0 (some s.gbImage.length))
    else s.mailFail 2 := by
  unfold State.gbExport
  dsimp only
  rw [if_neg (fun g => g h0), if_neg (by rw [hp]; decide)]
  by_cases hc : s.gbImage.length ≤ (s.arg 1).toNat ∧ s.generalRange (s.arg 0).toNat s.gbImage.length = true
  · obtain ⟨hl, hr⟩ := hc
    rw [if_neg (by rw [hr]; simp; omega), if_pos ⟨hl, hr⟩]
  · rw [if_pos, if_neg hc]
    by_cases hl : (s.arg 1).toNat < s.gbImage.length
    · exact .inl hl
    · refine .inr ?_
      cases hr : s.generalRange (s.arg 0).toNat s.gbImage.length with
      | false => rfl
      | true => exact absurd ⟨by omega, hr⟩ hc

theorem State.bufByte_mailBusy (i : Nat) : s.mailBusy.bufByte i = s.bufByte i := by
  rw [State.bufByte, State.tabF, State.regF_congr (State.reg_mailBusy_ne (by unfold rPrinBuf rPrinStatus; omega)), State.bufByte, State.tabF]

/-! ### Recalibration of a Prism -/

/-- A Prism that has been calibrated afresh: it is locked, and its tables await the next commit. -/
def State.prismTuned (s : State) (p : Fin 4) : State :=
  let (n, t) := (s.setPrism p { s.prism p with unlocked := false, errors := 0 }).draw
  let e : GbEntry := { origin := 2, lesson := t.lesson, powerOn := t.gb.powerOns, body := Config.prismBody (t.gbBody 3 p.val) n }
  let t := { t with omu := { t.omu with recalAt := some s.lesson }, gb := { t.gb with pending := tput (fun _ => none) t.gb.pending p.val (some e) } }
  ((t.setRegBit (prismStat p) 3 false).setRegBit (prismStat p) 2 false).setRegBit (prismStat p) 1 true

/-- The state after the recalibration of a Prism. -/
def State.prismRecal (s : State) (p : Fin 4) : State :=
  let t := if s.prismDown p && !s.fenced 0 then (s.prismTuned p).setReady (readyPrism p.val) true else s.prismTuned p
  (t.setRegF rCalLast (16 * p.val) 16 s.lesson.toNat).setRegBit rCalStatus 10 true

theorem State.prismTuned_facts (s : State) (p : Fin 4) : (s.prismTuned p).omu.recalAt = some s.lesson ∧ ((s.prismTuned p).prism p).unlocked = false ∧
    (∃ e, tget (fun _ => none) (s.prismTuned p).gb.pending p.val = some e ∧ e.origin = 2 ∧ e.lesson = s.lesson) ∧
    (s.prismTuned p).regBit (prismStat p) 1 = true := by
  refine ⟨rfl, ?_, ⟨_, (tget_tput ..).trans (if_pos rfl), rfl, rfl⟩, State.regBit_setRegBit _ _ _ _ (by decide)⟩
  have prism : (s.prismTuned p).prism p = { s.prism p with unlocked := false, errors := 0 } := Vector.getElem_set_self ..
  rw [prism]

theorem State.prismRecal_facts (s : State) (p : Fin 4) : (s.prismRecal p).omu.recalAt = some s.lesson ∧ ((s.prismRecal p).prism p).unlocked = false ∧
    (∃ e, tget (fun _ => none) (s.prismRecal p).gb.pending p.val = some e ∧ e.origin = 2 ∧ e.lesson = s.lesson) ∧
    (s.prismRecal p).regF rCalLast (16 * p.val) 16 = s.lesson.toNat % 2 ^ 16 ∧ (s.prismRecal p).regBit rCalStatus 10 = true ∧
    (s.prismRecal p).regBit (prismStat p) 1 = true := by
  obtain ⟨recal, unlocked, pending, locked⟩ := s.prismTuned_facts p
  unfold State.prismRecal
  generalize s.prismTuned p = u at *
  extract_lets t
  have kept : { t with regs := u.regs } = u ∧ t.reg (prismStat p) = u.reg (prismStat p) := by
    unfold t
    split
    · refine ⟨rfl, State.reg_setRegBit_ne _ _ _ _ _ ?_⟩
      unfold prismStat rPrismStatus rGlbReady readyPrism
      omega
    · exact ⟨rfl, rfl⟩
  clear_value t
  obtain ⟨rest, stat⟩ := kept
  have omu : t.omu = u.omu := (congrArg State.omu rest :)
  have gb : t.gb = u.gb := (congrArg State.gb rest :)
  refine ⟨(congrArg (·.recalAt) omu).trans recal, ?_, ?_, ?_, State.regBit_setRegBit _ _ _ _ (by decide), ?_⟩
  · exact (congrArg (fun o => (o.prisms[p] : Prism).unlocked) omu).trans unlocked
  · obtain ⟨e, he, rest⟩ := pending
    exact ⟨e, (congrArg (fun g : Gb => tget (fun _ => none) g.pending p.val) gb).trans he, rest⟩
  · refine (State.regF_congr (State.reg_setRegBit_ne _ _ _ _ _ (by decide)) _ 16).trans (State.regF_setRegF _ _ _ _ _ (by omega))
  · refine (State.regBit_congr ?_ 1).trans ((State.regBit_congr stat 1).trans locked)
    refine (State.reg_setRegBit_ne _ _ _ _ _ ?_).trans (State.reg_setRegF_ne _ _ _ _ _ _ ?_)
    · unfold prismStat rPrismStatus rCalStatus
      omega
    · unfold prismStat rPrismStatus rCalLast
      omega

end

/-- Settles O51: the mailbox, its commands, the commit timer and the recalibration of a Prism, row by row. -/
theorem principalMailbox : Obligations.PrincipalMailbox := by
  unfold Obligations.PrincipalMailbox
  intro quiet ends all
  have sent {c : Instr × PrinCmd} (hc : c ∈ all) (s : State) : exec c.1 s = .next (s.mail c.2) := by
    simp only [all, List.mem_cons, List.not_mem_nil, or_false] at hc
    obtain rfl | rfl | rfl | rfl | rfl | rfl := hc
    · rfl
    · rfl
    · rfl
    · rfl
    · rfl
    · rfl
  have mail {s : State} (h : quiet s) : MailReady s.mailBusy := by
    obtain ⟨-, -, -, hgw, hw, ho⟩ := h
    exact MailReady.mailBusy ⟨hgw, hw, ho⟩
  have runs {s : State} {f : State → State} {i : PrinCmd} (h : quiet s) (hf : s.mailBusy.runPrin i = if s.mailBusy.recovery then s.mailBusy.mailFail 7 else f s.mailBusy) :
      s.mail i = f s.mailBusy := by
    obtain ⟨hrec, hr, hb, -⟩ := h
    rw [State.mail_runs hb hr, hf, if_neg (by rw [State.recovery_mailBusy, hrec]; decide)]
  have chunk {s : State} (h : quiet s) : s.mail .fwChunk = s.mailBusy.fwChunk := by
    obtain ⟨-, hr, hb, -⟩ := h
    exact State.mail_runs hb hr _
  refine ⟨fun c hc s h => ?_, fun c hc s hb hr hrec => ?_, fun s h hle => ?_, fun s h hlt => ?_, fun s h => ?_, fun s h hn => ?_, fun s h h1 h2 hl => ?_,
    fun s h h1 h2 hl => ?_, fun s h => ?_, fun s h ha => ?_, fun s h ha hp => ?_, fun s h => ?_, fun s _ h => State.importCheck_range h,
    fun s h0 h1 hr hp => State.importCheck_unserved h0 h1 hr hp, fun b s h => ?_, fun s hr hb => ?_, fun s h => ?_, fun p s h => ?_, fun p s h1 h2 h3 => ?_⟩
  · exact ⟨_, (sent hc s).trans (congrArg Host.Outcome.next (State.mail_busy h c.2)), State.regBit_setRegBit _ _ _ _ (by decide), s.onlyRegs_setRegBit _ _ _⟩
  · refine ⟨_, (sent hc s).trans (congrArg Host.Outcome.next (State.mail_waits hb hr hrec c.2)), rfl, ?_, State.regBit_setRegBit _ _ _ _ (by decide), rfl,
      fun a ha => ?_⟩
    · exact (State.regBit_congr (State.reg_setRegBit_ne _ _ _ _ _ (by decide)) 0).trans (State.regBit_setRegBit s _ _ _ (by decide))
    · simp only [List.mem_cons, List.not_mem_nil, or_false, not_or] at ha
      exact (State.reg_setRegBit_ne s.mailBusy _ _ _ _ ha.2).trans (State.reg_mailBusy_ne ha.1)
  · have fused : s.mailBusy.svn = s.svn := rfl
    have ended := mailEnded (mail h) (code := 7) (by decide) (some s.svn.toNat)
    exact ⟨_, congrArg Host.Outcome.next ((runs h rfl).trans (State.svnRaise_refused (by rw [State.arg_mailBusy]; exact hle))), ended.ends, ended.svn, ended.value⟩
  · have ready : MailReady { s.mailBusy with prin := { s.mailBusy.prin with svn := some (s.mailBusy.arg 0) } } := (mail h).congr rfl rfl rfl rfl rfl
    have ended := mailEnded ready (code := 0) (by decide) (some (s.mailBusy.arg 0).toNat)
    refine ⟨_, congrArg Host.Outcome.next ((runs h rfl).trans (State.svnRaise_raises (by rw [State.arg_mailBusy]; exact hlt))), ended.ends, ended.svn.trans ?_⟩
    exact State.arg_mailBusy 0
  · have ready : MailReady { s.mailBusy with prin := { s.mailBusy.prin with prefer := some ((s.mailBusy.arg 0).getLsbD 0) } } :=
      (mail h).congr rfl rfl rfl rfl rfl
    have ended := mailEnded ready (code := 0) (by decide) (some ((s.mailBusy.arg 0).getLsbD 0).toNat)
    refine ⟨_, congrArg Host.Outcome.next (runs h rfl), ended.ends, ?_, ?_⟩
    · exact (congrArg (·.prefer) ended.prin).trans (congrArg (fun w : Word => some (w.getLsbD 0)) (State.arg_mailBusy 0))
    · refine ended.value.trans ?_
      rw [State.arg_mailBusy]
      cases (s.arg 0).getLsbD 0
      · rfl
      · rfl
  · obtain ⟨v, ended⟩ := mailFailed (mail h) (code := 2) (by decide)
    exact ⟨_, congrArg Host.Outcome.next ((chunk h).trans (State.fwChunk_refused (by rw [State.arg_mailBusy]; exact hn))), ended.ends, by rw [ended.prin]; rfl⟩
  · have ready : MailReady s.mailBusy.chunkKept := (mail h).congr rfl rfl rfl rfl rfl
    have ended := mailEnded ready (code := 0) (by decide) (some (s.mailBusy.chunked (s.mailBusy.arg 0).toNat (s.mailBusy.arg 1).toNat).length)
    refine ⟨_, congrArg Host.Outcome.next ((chunk h).trans (State.fwChunk_more (by rw [State.arg_mailBusy]; exact h1) (by rw [State.arg_mailBusy]; exact h2)
      (by rw [State.arg_mailBusy]; exact hl))), ended.ends, fun i hi => ?_⟩
    have image := congrArg (·.image) ended.prin
    refine (congrArg (tget noByte · ((s.arg 0).toNat + i)) image).trans ?_
    show tget noByte (s.mailBusy.chunked (s.mailBusy.arg 0).toNat (s.mailBusy.arg 1).toNat) _ = _
    rw [State.arg_mailBusy, State.arg_mailBusy, State.tget_chunked _ hi, State.bufByte_mailBusy]
  · have ready : MailReady s.mailBusy.imageKept := (mail h).congr rfl rfl rfl rfl rfl
    have same : s.mailBusy.imageOk s.mailBusy.chunkKept.received = s.imageOk s.mailBusy.chunkKept.received := rfl
    have ended := mailEnded ready (code := if s.mailBusy.imageOk s.mailBusy.chunkKept.received then 0
      else if !imageSignedOk s.mailBusy.chunkKept.received then 4 else 5) (by split; decide; split <;> decide)
      (some (s.mailBusy.chunked (s.mailBusy.arg 0).toNat (s.mailBusy.arg 1).toNat).length)
    refine ⟨_, congrArg Host.Outcome.next ((chunk h).trans (State.fwChunk_last (by rw [State.arg_mailBusy]; exact h1) (by rw [State.arg_mailBusy]; exact h2)
      (by rw [State.arg_mailBusy]; exact hl))), congrArg (·.image) ended.prin, ended.busy, s.mailBusy.chunkKept.received, ?_, ?_, congrArg (·.prefer) ended.prin⟩
    · exact (congrArg (fun x => tget (fun _ => none) x.loaded (!s.prin.bank).toNat) ended.prin).trans ((tget_tput ..).trans (if_pos rfl))
    · rw [ended.code, same]
      cases imageSignedOk s.mailBusy.chunkKept.received
      · rfl
      · rfl
  · obtain ⟨pending, -, cal, -, -⟩ := s.mailBusy.committed_facts
    have ended := mailEnded (mail h).committed (code := 0) (by decide) (some s.mailBusy.toCommit.length)
    refine ⟨_, congrArg Host.Outcome.next (runs h rfl), ended.ends, ?_, ?_, ended.value⟩
    · exact (congrArg Gb.pending ended.gb).trans pending
    · exact (State.regF_congr (ended.regs _ (by decide) (by decide)) 8 5).trans cal
  · obtain ⟨v, ended⟩ := mailFailed (mail h) (code := 2) (by decide)
    have run : s.mailBusy.gbExport = s.mailBusy.mailFail 2 := if_pos (by rw [State.arg_mailBusy]; exact ha)
    exact ⟨_, congrArg Host.Outcome.next ((runs h rfl).trans run), ended.ends, SameMemory.of_mem ended.mem⟩
  · refine congrArg Host.Outcome.next ((runs h rfl).trans ?_)
    rw [State.gbExport_eq (by rw [State.arg_mailBusy]; exact ha) (by rw [State.poolServed_mailBusy]; exact hp), State.gbImage_mailBusy, State.arg_mailBusy,
      State.arg_mailBusy, State.generalRange_mailBusy]
    rfl
  · refine ⟨_, congrArg Host.Outcome.next (runs h rfl), s.importCheck, rfl, fun c hc => ?_, fun es hes => ?_⟩
    · have check : s.mailBusy.importCheck = .inl c := State.importCheck_mailBusy.trans hc
      have ended := mailEnded (mail h) (State.importCheck_code hc) (some 0)
      rw [State.gbImport_refused check]
      exact ⟨ended.ends, ended.value, ended.gb⟩
    · have check : s.mailBusy.importCheck = .inr es := State.importCheck_mailBusy.trans hes
      have ended := mailEnded ((mail h).imported es) (code := 0) (by decide) (some (s.mailBusy.picked es).length)
      rw [State.gbImport_takes check]
      refine ⟨ended.ends, ended.value.trans ?_⟩
      rw [State.picked, State.arg_mailBusy]
  · have ended := mailEnded (mail h) (code := 7) (by decide) none
    obtain ⟨-, hr, hb, -⟩ := h
    exact ⟨_, congrArg Host.Outcome.next (State.mail_runs hb hr _), ended.ends, ended.value.trans (State.regF_congr (State.reg_mailBusy_ne (by decide)) 32 32)⟩
  · obtain ⟨pending, -, cal, regs, rest⟩ := s.committed_facts
    refine ⟨_, congrArg Host.Outcome.next (if_pos (by rw [hr, hb]; rfl)), pending, cal, rest, fun a ha => regs a (by simpa using ha)⟩
  · refine congrArg Host.Outcome.next (if_neg ?_)
    obtain h | h := h
    · simp [h]
    · simp [h]
  · refine congrArg Host.Outcome.next (if_pos ?_)
    obtain ⟨hs, hp⟩ | h | h := h
    · simp [hs, Option.isSome_iff_ne_none.mpr hp]
    · simp [h]
    · simp [h]
  · have idle : ¬ ((!s.strict && (s.planOf p).isSome) || s.regBit rPrinStatus 0 || s.omu.recalAt = some s.lesson) = true := by
      obtain h1 | h1 := h1
      · simp [h1, h2, h3]
      · simp [h1, h2, h3]
    exact ⟨s.prismRecal p, congrArg Host.Outcome.next (if_neg idle), s.prismRecal_facts p⟩

end Sys2Proof.Machine
end

section
/-! SUPPORT. A store that waits for a bank's hold to end. -/

namespace Sys2Proof.Machine

/-- A store of one byte to the first line of pooled memory, from node 5. -/
def waitingStore : Req := { via := .fabric 128, f := { blankFrame with opcode := 2, src := 5, length := 1, payload := [1] } }

/-- The state after reset, with the bank of that line held for another row, and that store waiting for it. -/
def heldStore : State :=
  { State.reset with
    g7m := { State.reset.g7m with chan := [(0, { holds := [(0, 1)] })] }
    coh := { State.reset.coh with waitq := [.access waitingStore 0 false 0] } }

theorem heldStore_waits : heldStore.mustWait waitingStore = true := by decide +kernel

/-- Once the hold has ended, the store is performed. -/
theorem byte_heldStore : ((heldStore.endHold 0 0).runWaiting).settleStreams.byte 0 = 1 ∧ heldStore.byte 0 = 0 := by decide +kernel

/-- Refutes O29, in the clause of BANK_HOLD_END: the requests that waited for the bank go on with the end of its hold (R646), so a store
that waited is performed and memory changes, where the clause keeps every byte in every state. -/
theorem not_pooledMemory : ¬ Obligations.PooledMemory := by
  intro h
  obtain ⟨-, -, hend, -⟩ := h
  obtain ⟨t, e, -, -, -, -, hmem⟩ := hend 0 0 heldStore
  have run : t = ((heldStore.endHold 0 0).runWaiting).settleStreams := (Host.Outcome.next.inj e).symm
  obtain ⟨after, before⟩ := byte_heldStore
  have same := hmem 0
  rw [run, after, before] at same
  exact absurd same (by decide)

end Sys2Proof.Machine
end

section
/-! SUPPORT. The end of a fence and of a reset. -/

namespace Sys2Proof.Machine

section
variable {s t : State}

/-! ### READY bits -/

theorem State.ready_setReady_same (i : Nat) (b : Bool) : (s.setReady i b).ready i = b :=
  State.regBit_setRegBit _ _ _ _ (Nat.mod_lt _ (by decide))

theorem State.ready_setReady_other {i j : Nat} (b : Bool) (h : j ≠ i) : (s.setReady i b).ready j = s.ready j := by
  by_cases word : i / 64 = j / 64
  · unfold State.ready State.setReady
    rw [word]
    exact State.regBit_setRegBit_other _ _ _ _ _ (Nat.mod_lt _ (by decide)) (by omega)
  · exact State.regBit_setRegBit_ne (s := s) _ _ _ (rGlbReady + 8 * (j / 64)) _ (by omega)

/-- GLB.READY ends below the other registers. -/
theorem State.reg_setReady_ne {i a : Nat} (b : Bool) (hi : i < 0x400) (ha : rGlbReady + 0x80 ≤ a) : (s.setReady i b).reg a = s.reg a :=
  State.reg_setRegBit_ne _ _ _ _ _ (by omega)

/-- READY bits that a list of others leaves alone, and one that is in it. -/
theorem State.ready_forAll_setReady {α : Type} {f : α → Nat} {x : α} (l : List α) (h : x ∈ l) :
    (s.forAll l (fun s y => s.setReady (f y) true)).ready (f x) = true :=
  State.forAll_of_mem (P := fun u => u.ready (f x) = true) (Q := fun _ => True) l h trivial (fun _ _ _ _ => trivial)
    (fun _ _ => State.ready_setReady_same _ true) fun u y _ _ hu _ => by
      by_cases same : f x = f y
      · rw [same]
        exact State.ready_setReady_same _ true
      · rw [State.ready_setReady_other true same]
        exact hu

/-! ### A reset that ends -/

/-- The domain has left its reset, and no reset of it is in progress. -/
def State.leftReset (s : State) (d : Nat) : State :=
  let t := s.setDomain d false false
  { t with rst := { t.rst with cur := if (t.rst.cur.map Prod.fst) = some d then none else t.rst.cur } }

/-- A state with no request queued, RST.STATUS as the end of domain `d`'s reset leaves it, and nothing but registers and the reset logic unlike `s`. -/
def ResetOver (s : State) (d : Nat) (t : State) : Prop :=
  t.reg rRstStatus = (s.leftReset d).reg rRstStatus ∧ t.rst.queue = [] ∧ { t with regs := s.regs, rst := s.rst } = s

theorem ResetOver.onlyRegs {d : Nat} {u : State} (h : ResetOver s d t) (hr : u.reg rRstStatus = t.reg rRstStatus) (hu : { u with regs := t.regs } = t) :
    ResetOver s d u := by
  obtain ⟨status, queue, rest⟩ := h
  have rst : u.rst = t.rst := (congrArg State.rst hu :)
  refine ⟨hr.trans status, rst ▸ queue, ?_⟩
  exact (congrArg (fun x : State => { x with regs := s.regs, rst := s.rst }) hu).trans rest

theorem ResetOver.setReady {d : Nat} (h : ResetOver s d t) {i : Nat} (hi : i < 0x400) (b : Bool) : ResetOver s d (t.setReady i b) :=
  h.onlyRegs (State.reg_setReady_ne _ hi (by decide)) rfl

/-- The domain that is taken out of both states is open. -/
theorem State.setDomain_open (s : State) {d : Nat} (hd : d < 3) : (s.setDomain d false false).fenced d = false := by
  have h5 : 5 + d < 64 := by omega
  have h2 : 2 + d < 64 := by omega
  have fence : (s.setDomain d false false).regBit rRstStatus (5 + d) = false :=
    (State.regBit_setRegBit_other _ _ _ _ _ (by decide) (by omega)).trans
      ((State.regBit_setRegBit_other _ _ _ _ _ h2 (by omega)).trans (State.regBit_setRegBit _ _ _ _ h5))
  have reset : (s.setDomain d false false).regBit rRstStatus (2 + d) = false :=
    (State.regBit_setRegBit_other _ _ _ _ _ (by decide) (by omega)).trans (State.regBit_setRegBit _ _ _ _ h2)
  rw [State.fenced, fence, reset]
  rfl

theorem State.setDomain_resets (s : State) {d : Nat} (hd : d < 3) : (s.setDomain d false true).inReset d = true ∧
    (s.setDomain d false true).fencing d = false :=
  ⟨(State.regBit_setRegBit_other _ _ _ _ _ (by decide) (by omega)).trans (State.regBit_setRegBit _ _ _ _ (by omega)),
    (State.regBit_setRegBit_other _ _ _ _ _ (by decide) (by omega)).trans
      ((State.regBit_setRegBit_other _ _ _ _ _ (by omega) (by omega)).trans (State.regBit_setRegBit _ _ _ _ (by omega)))⟩

theorem State.reg_setDomain_ne {a : Nat} (s : State) (d : Nat) (fence reset : Bool) (ha : a ≠ rRstStatus) :
    (s.setDomain d fence reset).reg a = s.reg a :=
  (State.reg_setRegBit_ne _ _ _ _ _ ha).trans ((State.reg_setRegBit_ne _ _ _ _ _ ha).trans (State.reg_setRegBit_ne _ _ _ _ _ ha))

/-- Neither the fence nor the reset of the domain holds the others' bits of RST.STATUS. -/
theorem State.leftReset_bit (s : State) {d i : Nat} (hd : d < 3) (hi : 8 ≤ i) : (s.leftReset d).regBit rRstStatus i = s.regBit rRstStatus i :=
  (State.regBit_setRegBit_other _ _ _ _ _ (by decide) (by omega)).trans
    ((State.regBit_setRegBit_other _ _ _ _ _ (by omega) (by omega)).trans (State.regBit_setRegBit_other _ _ _ _ _ (by omega) (by omega)))

theorem ResetOver.fenced {d : Nat} (h : ResetOver s d t) (hd : d < 3) : t.fenced d = false :=
  (State.fenced_congr (t := t) (s := s.leftReset d) h.1 d).trans (s.setDomain_open hd)

/-- With nothing queued, no further reset is served. -/
theorem State.serveNext_none (h : s.rst.queue = []) : s.serveNext = s := by
  rw [State.serveNext, State.nextReset]
  split
  · next hcons => exact absurd (h.symm.trans hcons) (by simp)
  · rfl

/-- The loader that goes on writes RST-free registers alone: the state of its pages. -/
theorem State.loaderStarts_onlyPages (s : State) : (∀ a, a ≠ rTtState → s.loaderStarts.reg a = s.reg a) ∧ { s.loaderStarts with regs := s.regs } = s := by
  have page (u : State) (p : Fin 2) (st : Nat) : (∀ a, a ≠ rTtState → (u.setPageState p st 0).reg a = u.reg a) ∧
      { u.setPageState p st 0 with regs := u.regs } = u :=
    ⟨fun a ha => (State.reg_setRegF_ne _ _ _ _ _ _ ha).trans (State.reg_setRegF_ne _ _ _ _ _ _ ha), rfl⟩
  unfold State.loaderStarts
  split
  · exact ⟨fun _ _ => rfl, rfl⟩
  · refine State.forAll_induct (P := fun u => (∀ a, a ≠ rTtState → u.reg a = s.reg a) ∧ { u with regs := s.regs } = s) ⟨fun _ _ => rfl, rfl⟩ ?_
    intro u p hu
    obtain ⟨regs, rest⟩ := hu
    split
    · exact ⟨fun a ha => ((page u p 2).1 a ha).trans (regs a ha),
        (congrArg (fun x : State => { x with regs := s.regs }) (page u p 2).2).trans rest⟩
    · exact ⟨regs, rest⟩

/-- What follows a reset's end, once nothing is queued. -/
theorem ResetOver.loaderStarts {d : Nat} (h : ResetOver s d t) : ResetOver s d t.loaderStarts.serveNext ∧
    ∀ a, a ≠ rTtState → t.loaderStarts.serveNext.reg a = t.reg a := by
  obtain ⟨regs, rest⟩ := t.loaderStarts_onlyPages
  have ended : ResetOver s d t.loaderStarts := h.onlyRegs (regs rRstStatus (by decide)) rest
  obtain ⟨-, queue, -⟩ := id ended
  rw [State.serveNext_none queue]
  exact ⟨ended, regs⟩

theorem State.leftReset_over {d : Nat} (hq : s.rst.queue = []) : ResetOver s d (s.leftReset d) :=
  ⟨rfl, hq, rfl⟩

theorem State.endReset_compute (hq : s.rst.queue = []) : (s.endReset 0).fenced 0 = false ∧ (s.endReset 0).thermalHeld = s.thermalHeld ∧ (∀ w : Fin 4, (s.endReset 0).ready (readyWing w.val) = true) ∧
    { s.endReset 0 with regs := s.regs, rst := s.rst } = s := by
  let op := fun (s : State) (i : Nat) =>
    let u := s.setReady (readyWing i) true
    if u.regBit (rPrismStatus + 8 * i) 1 then u.setReady (readyPrism i) true else u
  have eq : s.endReset 0 = ((s.leftReset 0).forAll (List.range 4) op).loaderStarts.serveNext := rfl
  have ended : ResetOver s 0 ((s.leftReset 0).forAll (List.range 4) op) := by
    refine State.forAll_mem_induct (State.leftReset_over hq) fun u i hi hu => ?_
    have small := List.mem_range.mp hi
    have wing : readyWing i < 0x400 := by
      rw [readyWing]
      omega
    have prism : readyPrism i < 0x400 := by
      rw [readyPrism]
      omega
    dsimp only [op]
    split
    · exact (hu.setReady wing true).setReady prism true
    · exact hu.setReady wing true
  obtain ⟨ended', regs⟩ := ended.loaderStarts
  have held := (State.regBit_congr ended'.1 14).trans (s.leftReset_bit (by decide) (by decide))
  rw [eq]
  refine ⟨ended'.fenced (by decide), held, fun w => ?_, ended'.2.2⟩
  have prism : ∀ i, i < 4 → ∀ j, readyWing i ≠ readyPrism j := by
    intro i hi j
    simp only [readyWing, readyPrism]
    omega
  have word : rGlbReady + 8 * (readyWing w.val / 64) ≠ rTtState := by
    have := w.isLt
    simp only [readyWing, rGlbReady, rTtState]
    omega
  refine (State.ready_congr (regs _ word)).trans ?_
  refine State.forAll_of_mem (P := fun u => u.ready (readyWing w.val) = true) (Q := fun _ => True) _ (List.mem_range.mpr w.isLt) trivial
    (fun _ _ _ _ => trivial) (fun u _ => ?_) fun u y hy _ hu hne => ?_
  · dsimp only [op]
    split
    · exact (State.ready_setReady_other true (prism w.val w.isLt w.val)).trans (State.ready_setReady_same _ true)
    · exact State.ready_setReady_same _ true
  · have wing : readyWing w.val ≠ readyWing y := by
      simp only [readyWing]
      omega
    have step := (State.ready_setReady_other (s := u) true wing).trans hu
    dsimp only [op]
    split
    · exact (State.ready_setReady_other true (prism w.val w.isLt y)).trans step
    · exact step

theorem State.endReset_memory (hq : s.rst.queue = []) : (s.endReset 2).fenced 2 = false ∧
    (∀ c : Fin 64, s.regBit (chReg c.val 0) 0 = true → (s.endReset 2).ready (readyCh c.val) = true) ∧
    { s.endReset 2 with regs := s.regs, rst := s.rst } = s := by
  let l := (List.range 64).filter (fun c => (s.leftReset 2).regBit (chReg c 0) 0)
  have eq : s.endReset 2 = ((s.leftReset 2).forAll l (fun s c => s.setReady (readyCh c) true)).loaderStarts.serveNext := rfl
  have ended : ResetOver s 2 ((s.leftReset 2).forAll l (fun s c => s.setReady (readyCh c) true)) :=
    State.forAll_mem_induct (State.leftReset_over hq) fun u i hi hu => hu.setReady (by
      have small := List.mem_range.mp (List.mem_of_mem_filter hi)
      rw [readyCh]
      omega) true
  obtain ⟨ended', regs⟩ := ended.loaderStarts
  rw [eq]
  refine ⟨ended'.fenced (by decide), fun c hc => ?_, ended'.2.2⟩
  have lt := c.isLt
  have word : rGlbReady + 8 * (readyCh c.val / 64) ≠ rTtState := by
    simp only [readyCh, rGlbReady, rTtState]
    omega
  have channel : chReg c.val 0 ≠ rRstStatus := by
    simp only [chReg, rChan, rRstStatus]
    omega
  have mem : c.val ∈ l := by
    refine List.mem_filter.mpr ⟨List.mem_range.mpr lt, ?_⟩
    exact (State.regBit_congr (s.reg_setDomain_ne 2 false false channel) 0).trans hc
  exact (State.ready_congr (regs _ word)).trans (State.ready_forAll_setReady (f := readyCh) l mem)

end

/-- Settles O49: how fences and resets end, row by row. -/
theorem fencesAndResets : Obligations.FencesAndResets := by
  unfold Obligations.FencesAndResets
  intro serving
  have ends {s : State} {d : Nat} (hd : d < 3) (h : serving s d) (b : Bool) : s.endFence d b =
      if b then (s.answerAll d).beginReset d else if s.drained d then s.beginReset d else s := by
    obtain ⟨fencing, cur⟩ := h
    exact if_neg (by simp [fencing, cur, hd])
  have idle {s : State} {d : Nat} (h : s.fencing d = false) (b : Bool) : s.endFence d b = s := if_pos (by simp [h])
  have begun (s : State) {d : Domain} (h : d = .switchLinks ∨ d = .memory) : (s.beginReset (domainCode d)).inReset (domainCode d) = true ∧
      (s.beginReset (domainCode d)).fencing (domainCode d) = false := by
    obtain rfl | rfl := h
    · exact State.setDomain_resets _ (by decide)
    · exact State.setDomain_resets _ (by decide)
  have code {d : Domain} (h : d ≠ .module) : domainCode d < 3 := by
    cases d with
    | compute => decide
    | switchLinks => decide
    | memory => decide
    | module => exact absurd rfl h
  have inner {d : Domain} (h : d = .switchLinks ∨ d = .memory) : domainCode d < 3 := by
    obtain rfl | rfl := h
    · decide
    · decide
  refine ⟨fun s => ⟨rfl, rfl, rfl⟩, fun d s h => ⟨congrArg Host.Outcome.next (idle h false), congrArg Host.Outcome.next (idle h true)⟩,
    fun d s hd h hdr => ⟨_, congrArg Host.Outcome.next ((ends (inner hd) h false).trans (if_pos hdr)), rfl, begun s hd⟩,
    fun s h hdr => congrArg Host.Outcome.next ((ends (d := 0) (by decide) h false).trans (if_pos hdr)),
    fun d s hd h hdr => congrArg Host.Outcome.next ((ends (code hd) h false).trans ((if_neg (by decide)).trans (if_neg (by rw [hdr]; decide)))),
    fun d s hd h => ⟨_, congrArg Host.Outcome.next (ends (inner hd) h true), rfl, begun _ hd⟩,
    fun s h => congrArg Host.Outcome.next (ends (by decide) h true),
    fun d s h => congrArg Host.Outcome.next (if_pos (by rw [h]; simp)), fun s h => congrArg Host.Outcome.next (if_pos ?_),
    fun s h => congrArg Host.Outcome.next (if_pos (by simp [h, domainCode])), fun s hr hth hout hq => ?_, fun s hr hq => ?_, fun s hr hm hq => ?_, fun s h => ?_,
    fun s hth hr hout hq => ?_, fun s hth hr hout => ?_⟩
  · obtain h | h := h
    · simp [h, domainCode]
    · simp [h, domainCode]
  · obtain ⟨open', -, wings, rest⟩ := State.endReset_compute hq
    exact ⟨_, congrArg Host.Outcome.next (if_neg (by simp [hr, hth, hout, domainCode])), open', wings, rest⟩
  · exact ⟨_, congrArg Host.Outcome.next (if_neg (by simp [hr, domainCode])), rfl⟩
  · exact ⟨_, congrArg Host.Outcome.next (if_neg (by simp [hr, hm, domainCode])), State.endReset_memory hq⟩
  · refine congrArg Host.Outcome.next (if_pos ?_)
    obtain h | h := h
    · simp [h]
    · simp [h]
  · have held : (s.setRegBit rRstStatus 14 false).thermalHeld = false := State.regBit_setRegBit _ _ _ _ (by decide)
    have service : (s.setRegBit rRstStatus 14 false).outOfService = false :=
      (State.regBit_setRegBit_other _ _ _ _ _ (by decide) (by decide)).trans hout
    obtain ⟨open', kept, wings, rest⟩ := State.endReset_compute (s := s.setRegBit rRstStatus 14 false) hq
    refine ⟨_, congrArg Host.Outcome.next ((if_neg (by simp [hth, hr])).trans (if_neg (by rw [service]; decide))), ?_, open', wings, ?_⟩
    · exact kept.trans held
    · exact congrArg (fun x : State => { x with regs := s.regs }) rest
  · have service : (s.setRegBit rRstStatus 14 false).outOfService = true :=
      (State.regBit_setRegBit_other _ _ _ _ _ (by decide) (by decide)).trans hout
    refine ⟨_, congrArg Host.Outcome.next ((if_neg (by simp [hth, hr])).trans (if_pos service)), State.regBit_setRegBit _ _ _ _ (by decide),
      (State.regBit_setRegBit_other _ _ _ _ _ (by decide) (by decide)).trans hr, s.onlyRegs_setRegBit _ _ _⟩

end Sys2Proof.Machine
end

section
/-! SUPPORT. The module domain: what a module reset leaves of memory and of the registers. -/

namespace Sys2Proof.Machine

section
variable {s t : State}

/-! ### Tables that are cut -/

/-- A table of which only the keys that satisfy `p` are kept. -/
theorem tget_filter {α : Type} (d : Nat → α) (p : Nat → Bool) (l : Tab α) (k : Nat) :
    tget d (l.filter (fun e => p e.1)) k = if p k then tget d l k else d k := by
  induction l with
  | nil => simp [tget]
  | cons e r ih =>
    obtain ⟨k', v⟩ := e
    have keeps : (List.filter (fun e => p e.1) ((k', v) :: r)) = if p k' then (k', v) :: r.filter (fun e => p e.1) else r.filter (fun e => p e.1) :=
      List.filter_cons
    rw [keeps]
    by_cases keep : p k' = true
    · rw [if_pos keep]
      by_cases same : k' = k
      · rw [tget, tget, if_pos same, if_pos same, if_pos (same ▸ keep)]
      · rw [tget, tget, if_neg same, if_neg same, ih]
    · rw [if_neg keep, ih]
      by_cases same : k' = k
      · rw [if_neg (same ▸ keep), if_neg (same ▸ keep)]
      · rw [tget, if_neg same]

/-! ### Scrubbed ranges -/

/-- A line that is healed touches the error table of its channel alone. -/
theorem State.reg_heal {a : Nat} (l : Nat) (h : a < rChan) : (s.heal l).reg a = s.reg a := by
  have ne (c x : Nat) : a ≠ chReg c x := by
    rw [chReg]
    omega
  have ne' (c i : Nat) : a ≠ errEntry c i := by
    have := ne c 0x800
    simp only [errEntry, chReg] at this ⊢
    omega
  unfold State.heal
  dsimp only
  split
  · split
    · exact (State.reg_setRegF_ne _ _ _ _ _ _ (ne _ _)).trans (State.reg_setReg_ne _ _ _ _ (ne' _ _))
    · rfl
  · rfl

theorem State.reg_scrubRange {a : Nat} (b n : Nat) (h : a < rChan) : (s.scrubRange b n).reg a = s.reg a :=
  State.forAll_proj (fun u => u.reg a) fun _ l => State.reg_heal l h

theorem State.byte_scrubRange (b n c : Nat) : (s.scrubRange b n).byte c = if b ≤ c ∧ c < b + n then 0 else s.byte c :=
  (congrArg (tget memDefault · c) (State.forAll_mem _ State.heal_mem)).trans (s.byte_zero b n c)

theorem State.sealEntry_congr {i : Nat} (h : ∀ a, a < rChan → t.reg a = s.reg a) (hi : i < 64) : t.sealEntry i = s.sealEntry i := by
  have low : ∀ x, x ≤ 16 → t.reg (rSeal + 32 * i + x) = s.reg (rSeal + 32 * i + x) := fun x hx => h _ (by
    simp only [rSeal, rChan]
    omega)
  have low0 : t.reg (rSeal + 32 * i) = s.reg (rSeal + 32 * i) := low 0 (by decide)
  unfold State.sealEntry
  rw [low 16 (by decide), low 8 (by decide), low0]

/-- The byte lies in the range of seal entry `i`, which is in use. -/
def State.sealedBy (s : State) (i a : Nat) : Prop :=
  (s.sealEntry i).2.2.2.2 ≠ 0 ∧ (s.sealEntry i).1 ≤ a ∧ a < (s.sealEntry i).1 + (s.sealEntry i).2.1

/-- Pooled memory with every sealed region zeroed. -/
def State.unsealed (s : State) : State :=
  s.forAll ((List.range 64).filter (fun i => (s.sealEntry i).2.2.2.2 ≠ 0)) (fun s i => s.scrubRange (s.sealEntry i).1 (s.sealEntry i).2.1)

theorem State.byte_unsealed_of_not {a : Nat} (h : ∀ i < 64, ¬ s.sealedBy i a) : s.unsealed.byte a = s.byte a := by
  have both : (∀ b, b < rChan → s.unsealed.reg b = s.reg b) ∧ s.unsealed.byte a = s.byte a := by
    refine State.forAll_mem_induct (P := fun u => (∀ b, b < rChan → u.reg b = s.reg b) ∧ u.byte a = s.byte a) ⟨fun _ _ => rfl, rfl⟩ fun u i hi hu => ?_
    obtain ⟨regs, byte⟩ := hu
    obtain ⟨lt, used⟩ := List.mem_filter.mp hi
    have small := List.mem_range.mp lt
    refine ⟨fun b hb => (State.reg_scrubRange _ _ hb).trans (regs b hb), ?_⟩
    rw [State.sealEntry_congr regs small, State.byte_scrubRange, if_neg fun inside => h i small ⟨of_decide_eq_true used, inside⟩, byte]
  exact both.2

theorem State.byte_unsealed {a i : Nat} (hi : i < 64) (h : s.sealedBy i a) : s.unsealed.byte a = 0 := by
  obtain ⟨used, inside⟩ := h
  refine State.forAll_of_mem (P := fun u => u.byte a = 0) (Q := fun u => ∀ b, b < rChan → u.reg b = s.reg b) _
    (List.mem_filter.mpr ⟨List.mem_range.mpr hi, decide_eq_true used⟩) (fun _ _ => rfl)
    (fun u y _ hu b hb => (State.reg_scrubRange _ _ hb).trans (hu b hb)) (fun u hu => ?_) fun u y _ _ hb _ => ?_
  · rw [State.sealEntry_congr hu hi, State.byte_scrubRange, if_pos inside]
  · rw [State.byte_scrubRange, hb, ite_self]

/-! ### A module reset -/

theorem State.reg_moduleReset (keep : Bool) (a : Nat) : (s.moduleReset keep).reg a = if inFlash a then s.reg a else regReset a :=
  tget_filter regReset inFlash s.regs a

theorem State.byte_moduleReset_kept (a : Nat) : (s.moduleReset true).byte a = if a < 2 ^ 40 then s.unsealed.byte a else 0 := by
  refine (tget_filter memDefault (fun k => decide (k < 2 ^ 40)) s.unsealed.mem a).trans ?_
  simp only [decide_eq_true_eq]
  rfl

theorem State.byte_moduleReset_lost (a : Nat) : (s.moduleReset false).byte a = 0 := rfl

/-! ### Power-on -/

/-- What the module comes up from: the state as it stands, or a cold module. -/
def State.beforeStart (s : State) (cold : Bool) : State := if cold then s.moduleReset false else s

theorem State.startUp_facts {cold : Bool} (h : (s.rst.tripped && cold) = false) : (s.startUp cold).rst.down = false ∧
    (s.startUp cold).rst.rail = none ∧ (s.startUp cold).rst.since = (s.beforeStart cold).now ∧
    (s.startUp cold).host.split = (s.beforeStart cold).regBit rPcieCtl 0 ∧
    (s.startUp cold).gb.powerOns = (s.beforeStart cold).gb.powerOns + cold.toNat ∧
    (s.startUp cold).regF rLogHead 0 7 = ((s.beforeStart cold).regF rLogHead 0 7 + 1) % 128 ∧ (s.startUp cold).mem = (s.beforeStart cold).mem := by
  have same : (s.beforeStart cold).rst.tripped = s.rst.tripped := by
    cases cold with
    | false => rfl
    | true => rfl
  unfold State.startUp
  have base : (if cold = true then s.moduleReset false else s) = s.beforeStart cold := rfl
  rw [base]
  generalize s.beforeStart cold = u at *
  extract_lets start fault alerted trip v bell host gb prin w pins logged
  have emitted : ∃ o, alerted = { u with out := o } := by
    dsimp only [alerted, start]
    split
    · exact ⟨_, rfl⟩
    · exact ⟨_, rfl⟩
  obtain ⟨o, alertedOut⟩ := emitted
  have noTrip : trip = false := by rw [show trip = (alerted.rst.tripped && cold) from rfl, alertedOut, ← h, same]
  have vOut : v = { u with out := o } := (if_neg (by rw [noTrip]; decide)).trans alertedOut
  have restLog : { logged with regs := pins.regs } = pins := pins.rest_logEvent _ _ _ _
  have head : logged.regF rLogHead 0 7 = (pins.regF rLogHead 0 7 + 1) % 128 := pins.logHead_logEvent _ _ _ _
  have restPins : { pins with regs := w.regs } = w := rfl
  have regs {a : Nat} (ha : a ≠ rExtStatus) : pins.reg a = w.reg a := (State.reg_setRegBit_ne _ _ _ _ _ ha).trans (State.reg_setRegBit_ne _ _ _ _ _ ha)
  have restW : w.rst = { since := v.now, tripped := v.rst.tripped && !trip } ∧ w.host.split = v.regBit rPcieCtl 0 ∧
      w.gb.powerOns = v.gb.powerOns + cold.toNat ∧ w.regs = v.regs ∧ w.mem = v.mem := ⟨rfl, rfl, rfl, rfl, rfl⟩
  clear_value logged pins w
  rw [if_neg (by rw [noTrip]; decide)]
  obtain ⟨rst, split, count, wRegs, mem⟩ := restW
  have fields : logged.rst = w.rst ∧ logged.host = w.host ∧ logged.gb = w.gb ∧ logged.mem = w.mem := by
    rw [← restPins, ← restLog]
    exact ⟨rfl, rfl, rfl, rfl⟩
  obtain ⟨loggedRst, loggedHost, loggedGb, loggedMem⟩ := fields
  have head' : w.regF rLogHead 0 7 = u.regF rLogHead 0 7 := by
    rw [State.regF, State.reg, wRegs, vOut]
    rfl
  rw [loggedRst, loggedHost, loggedGb, loggedMem, head, State.regF_congr (regs (a := rLogHead) (by decide)), head', rst, split, count, mem, vOut]
  exact ⟨rfl, rfl, rfl, rfl, rfl, rfl, rfl⟩

end

/-- Settles O46: what PERST_N, loss of power and a rail fault leave, and power-on. -/
theorem moduleReset : Obligations.ModuleReset := by
  unfold Obligations.ModuleReset
  intro fresh sealed'
  have after (s : State) (keep : Bool) : fresh s (s.moduleReset keep) :=
    ⟨rfl, rfl, rfl, rfl, rfl, rfl, rfl, rfl, rfl, rfl, fun a ha => (State.reg_moduleReset keep a).trans (if_pos ha),
      fun a ha => (State.reg_moduleReset keep a).trans (if_neg (by rw [ha]; decide))⟩
  refine ⟨fun s => ⟨_, rfl, after s true, fun a ha hs => ?_, fun a ha hs => ?_, fun a ha => ?_⟩, fun s => ⟨_, rfl, after s false, State.byte_moduleReset_lost⟩,
    fun r s h => ?_, fun r s hd hr => ?_, fun s hd hb => ?_, fun s hd => ?_, fun s ht => ?_⟩
  · rw [State.byte_moduleReset_kept, if_pos ha]
    exact State.byte_unsealed_of_not fun i hi hsealed => hs ⟨⟨i, hi⟩, hsealed⟩
  · obtain ⟨i, inside⟩ := hs
    rw [State.byte_moduleReset_kept, if_pos ha]
    exact State.byte_unsealed i.isLt inside
  · exact (State.byte_moduleReset_kept a).trans (if_neg (by omega))
  · refine congrArg Host.Outcome.next (if_pos ?_)
    obtain h | h := h
    · simp [h]
    · simp [h]
  · refine ⟨_, congrArg Host.Outcome.next (if_neg (by simp [hd, hr])), rfl, rfl, rfl, fun a ha => ?_⟩
    exact (State.reg_moduleReset (r ≠ .vddqG7) a).trans (if_neg (by rw [ha]; decide))
  · exact congrArg Host.Outcome.next (if_neg (by simpa [hd] using hb))
  · obtain ⟨down, rail, since, split, count, head, mem⟩ := State.startUp_facts (s := s) (cold := false) (Bool.and_false _)
    exact ⟨_, congrArg Host.Outcome.next (if_pos (by simp [hd])), down, rail, since, split, count, head, fun a => congrArg (tget memDefault · a) mem⟩
  · obtain ⟨down, rail, -, split, count, head, mem⟩ := State.startUp_facts (s := s) (cold := true) (by rw [ht]; rfl)
    have kept (a : Nat) (ha : inFlash a = true) : (s.moduleReset false).reg a = s.reg a := (State.reg_moduleReset false a).trans (if_pos ha)
    refine ⟨_, congrArg Host.Outcome.next (if_pos rfl), down, rail, split.trans (State.regBit_congr (kept _ (by decide)) 0), count, ?_, ?_⟩
    · exact head.trans (by rw [show (s.beforeStart true).regF rLogHead 0 7 = _ from State.regF_congr (kept _ (by decide)) 0 7])
    · exact fun a => (congrArg (tget memDefault · a) mem).trans (State.byte_moduleReset_lost a)

end Sys2Proof.Machine
end

section
/-! SUPPORT. Boot: measured stages, the other bank, and the self-test of a Wing. -/

namespace Sys2Proof.Machine

section
variable {s t : State}

/-! ### Blocks of registers -/

/-- A block of registers holds the bytes that were written into it. -/
theorem State.reg_putRegs {a n i : Nat} (l : List Byte) (h : i < n) :
    (s.putRegs a n l).reg (a + 8 * i) = BitVec.ofNat 64 (leAt l (8 * i) 8) := by
  refine State.forAll_of_mem (P := fun u => u.reg (a + 8 * i) = BitVec.ofNat 64 (leAt l (8 * i) 8)) (Q := fun _ => True) _ (List.mem_range.mpr h) trivial
    (fun _ _ _ _ => trivial) (fun u _ => (State.reg_setReg u _ _ _).trans (if_pos rfl)) fun u y _ _ hu hne => ?_
  exact (State.reg_setReg_ne _ _ _ _ (by omega)).trans hu

theorem State.reg_putRegs_ne {a n b : Nat} (l : List Byte) (h : ∀ i < n, b ≠ a + 8 * i) : (s.putRegs a n l).reg b = s.reg b :=
  State.forAll_mem_induct (P := fun u => u.reg b = s.reg b) rfl fun _ i hi hu => (State.reg_setReg_ne _ _ _ _ (h i (List.mem_range.mp hi))).trans hu

theorem State.rest_putRegs (a n : Nat) (l : List Byte) : { s.putRegs a n l with regs := s.regs } = s :=
  State.forAll_induct (P := fun u => { u with regs := s.regs } = s) rfl fun _ _ h => h

/-! ### Measurements and refusals -/

/-- A stage that is measured is booted, and its register extended by the digest. -/
theorem State.measure_facts (s : State) (k : Nat) (d : List Byte) : (s.measure k d).sec.booted = s.sec.booted ||| BitVec.ofNat 5 (2 ^ k) ∧
    (∀ i : Fin 4, (s.measure k d).reg (rMeas + 32 * k + 8 * i.val) =
      BitVec.ofNat 64 (leAt (Config.sha256 (s.regBytes (rMeas + 32 * k) 4 ++ d)) (8 * i.val) 8)) ∧
    { s.measure k d with regs := s.regs, sec := s.sec } = s := by
  let u : State := { s with sec := { s.sec with booted := s.sec.booted ||| BitVec.ofNat 5 (2 ^ k) } }
  have rest : { s.measure k d with regs := u.regs } = u := State.rest_putRegs (s := u) _ _ _
  exact ⟨(congrArg (fun x : State => x.sec.booted) rest :), fun i => State.reg_putRegs (s := u) _ i.isLt, (congrArg (fun x : State => { x with sec := s.sec }) rest :)⟩

theorem State.refuseBank_first (h : s.prin.fell = false) (hrec : s.recovery = false) : s.refuseBank.prin.fell = true ∧
    (s.refuseBank.prin.bank = !s.prin.bank) ∧ s.refuseBank.sec.booted = s.sec.booted &&& 1 ∧ s.refuseBank.recovery = false := by
  let u : State := { s with sec := { s.sec with booted := s.sec.booted &&& 1 }, prin := { s.prin with fell := true, bank := !s.prin.bank } }
  have eq : s.refuseBank = u.forAll (List.range 12) (fun s i => s.setReg (rMeas + 32 + 8 * i) 0) := if_neg (by rw [h]; decide)
  have rest : { s.refuseBank with regs := u.regs } = u := by
    rw [eq]
    exact State.forAll_induct (P := fun x => { x with regs := u.regs } = u) rfl fun _ _ h => h
  have status : s.refuseBank.reg rRstStatus = s.reg rRstStatus := by
    rw [eq]
    refine State.forAll_mem_induct (P := fun x => x.reg rRstStatus = s.reg rRstStatus) rfl fun x i hi hx => ?_
    have small := List.mem_range.mp hi
    refine (State.reg_setReg_ne _ _ _ _ ?_).trans hx
    simp only [rRstStatus, rMeas]
    omega
  exact ⟨(congrArg (fun x : State => x.prin.fell) rest :), (congrArg (fun x : State => x.prin.bank) rest :),
    (congrArg (fun x : State => x.sec.booted) rest :), (State.regBit_congr status 13).trans hrec⟩

theorem State.refuseBank_second (h : s.prin.fell = true) : s.refuseBank.recovery = true ∧ OnlyRegs s s.refuseBank [rRstStatus] := by
  rw [show s.refuseBank = s.setRegBit rRstStatus 13 true from if_pos h]
  exact ⟨State.regBit_setRegBit _ _ _ _ (by decide), s.onlyRegs_setRegBit _ _ _⟩

/-- Which stages are taken: with no recovery and no image of the Principal run again, the first one that is not booted yet. -/
theorem State.bootStage_next (hrec : s.recovery = false) (ha : s.prin.again = false) {k : Nat} (hk : s.sec.booted.getLsbD k = false)
    (hp : 0 < k → s.sec.booted.getLsbD (k - 1) = true) (im : List Byte) : s.bootStage k im =
      if k = 0 then s.measure 0 Config.romDigest
      else if k = 4 then s.measure 4 (Config.sha256 im)
      else if !s.imageOk im then s.refuseBank
      else if k = 3 then (s.measure k (Config.sha256 im)).startLinks.principalUp else s.measure k (Config.sha256 im) := by
  have taken : ¬ (s.sec.booted.getLsbD k || (decide (0 < k) && !s.sec.booted.getLsbD (k - 1))) = true := by
    by_cases pos : 0 < k
    · simp [hk, hp pos]
    · simp [hk, pos]
  unfold State.bootStage
  dsimp only
  rw [if_neg (by rw [hrec]; decide), if_neg (by simp [ha]), if_neg taken]

theorem State.bootStage_idle (hrec : s.recovery = false) (ha : s.prin.again = false) {k : Nat}
    (h : s.sec.booted.getLsbD k = true ∨ 0 < k ∧ s.sec.booted.getLsbD (k - 1) = false) (im : List Byte) : s.bootStage k im = s := by
  have taken : (s.sec.booted.getLsbD k || (decide (0 < k) && !s.sec.booted.getLsbD (k - 1))) = true := by
    obtain hk | ⟨pos, hk⟩ := h
    · simp [hk]
    · simp [hk, pos]
  unfold State.bootStage
  dsimp only
  rw [if_neg (by rw [hrec]; decide), if_neg (by simp [ha]), if_pos taken]

/-! ### The self-test of a Wing -/

theorem State.byte_selfTest (w : Fin 4) (a : Nat) :
    (((s.zero (bbBase (300 * w.val)) 0x8000000).zero (slateBase (300 * 256 * w.val)) 0x40000000).setReady (readyWing w.val) true).byte a =
      if slateBase (300 * 256 * w.val) ≤ a ∧ a < slateBase (300 * 256 * w.val) + 0x40000000 then 0
      else if bbBase (300 * w.val) ≤ a ∧ a < bbBase (300 * w.val) + 0x8000000 then 0 else s.byte a :=
  (State.byte_zero _ _ _ a).trans (by rw [State.byte_zero])

end

/-- Settles O47: the stages of boot in order, the other bank, and the self-test of a Wing. -/
theorem boot : Obligations.Boot := by
  unfold Obligations.Boot
  intro measured runs
  refine ⟨fun k im s ⟨hrec, ha⟩ h => ?_, fun im s ⟨hrec, ha⟩ h => ?_, fun k im s ⟨hrec, ha⟩ h1 h3 hk hp => ?_, fun im s ⟨hrec, ha⟩ h4 h3 => ?_,
    fun im s => ⟨?_, ?_⟩, fun w s hd hrec hf hr => ?_, fun w s h => ?_⟩
  · exact congrArg Host.Outcome.next (State.bootStage_idle hrec ha h im)
  · obtain ⟨booted, regs, rest⟩ := s.measure_facts 0 Config.romDigest
    exact ⟨_, congrArg Host.Outcome.next (State.bootStage_next hrec ha h (fun h => absurd h (by decide)) im), ⟨booted, regs⟩, rest⟩
  · have run := State.bootStage_next hrec ha hk (fun _ => hp) im
    rw [if_neg (by omega), if_neg (by omega)] at run
    refine ⟨_, congrArg Host.Outcome.next run, ?_⟩
    cases ok : s.imageOk im with
    | true =>
      obtain ⟨booted, regs, rest⟩ := s.measure_facts k.val (Config.sha256 im)
      refine ⟨fun lt => ?_, fun three => ?_⟩
      · rw [if_neg (by decide), if_neg (by omega)]
        exact ⟨⟨booted, regs⟩, rest⟩
      · rw [if_neg (by decide), if_pos three, three]
    | false => exact ⟨fun fell => State.refuseBank_first fell hrec, State.refuseBank_second⟩
  · obtain ⟨booted, regs, rest⟩ := s.measure_facts 4 (Config.sha256 im)
    exact ⟨_, congrArg Host.Outcome.next (State.bootStage_next hrec ha h4 (fun _ => h3) im), ⟨booted, regs⟩, rest⟩
  · rw [State.imageOk, Bool.and_assoc, ← Bool.decide_and, decide_eq_false (by omega), Bool.and_false]
  · rw [State.imageOk, imageSignedOk]
    cases Config.keyRevoked (Config.imageKey im % 4) with
    | true => rfl
    | false => exact Bool.and_false _
  · refine ⟨_, congrArg Host.Outcome.next (if_neg (by simp [hd, hrec, hf, hr])), State.ready_setReady_same _ true, fun a lo hi => ?_, fun a lo hi => ?_, fun a ha => ?_⟩
    · rw [State.byte_selfTest, if_pos (c := bbBase (300 * w.val) ≤ a ∧ a < bbBase (300 * w.val) + 0x8000000) ⟨lo, hi⟩, ite_self]
    · rw [State.byte_selfTest, if_pos ⟨lo, hi⟩]
    · have board : 2 ^ 40 ≤ bbBase (300 * w.val) := by
        rw [bbBase]
        omega
      have slate : 2 ^ 40 ≤ slateBase (300 * 256 * w.val) := by
        rw [slateBase]
        omega
      rw [State.byte_selfTest, if_neg (by omega), if_neg (by omega)]
  · refine congrArg Host.Outcome.next (if_pos ?_)
    obtain h | h | h | h := h
    · simp [h]
    · simp [h]
    · simp [h]
    · simp [h]

end Sys2Proof.Machine
end

section
/-! SUPPORT. Junction temperatures, a thermal trip, and the power of a window. -/

namespace Sys2Proof.Machine

section
variable {s t : State}

/-! ### Registers beside other parts of the state -/

theorem State.reg_withPrin (u : State) (x : Prin) (a : Nat) : ({ u with prin := x } : State).reg a = u.reg a := rfl
theorem State.reg_withRst (u : State) (x : Rst) (a : Nat) : ({ u with rst := x } : State).reg a = u.reg a := rfl
theorem State.reg_withBell (u : State) (x : Bell) (a : Nat) : ({ u with bell := x } : State).reg a = u.reg a := rfl

/-! ### Junctions -/

theorem le_foldl_max {x : Nat} (l : List Nat) (a : Nat) (h : x ≤ a ∨ x ∈ l) : x ≤ l.foldl max a := by
  induction l generalizing a with
  | nil =>
    obtain h | h := h
    · exact h
    · exact absurd h List.not_mem_nil
  | cons y r ih =>
    rw [List.foldl_cons]
    obtain h | h := h
    · exact ih _ (.inl (h.trans (Nat.le_max_left _ _)))
    · obtain rfl | h := List.mem_cons.mp h
      · exact ih _ (.inl (Nat.le_max_right _ _))
      · exact ih _ (.inr h)

theorem prism_le_junctionMax (j : JunctionTemps) (p : Fin 4) : j.prisms[p] ≤ junctionMax j := by
  refine le_foldl_max _ _ (.inr ?_)
  have mem : j.prisms[p] ∈ j.prisms.toList := by simp
  simp only [List.mem_append]
  exact .inl (.inl (.inr mem))

/-- The mask whose bits below `n` are those of `f`. -/
theorem testBit_mask (f : Nat → Bool) (n : Nat) : ((List.range n).foldl (fun m i => m + (if f i then 2 ^ i else 0)) 0 < 2 ^ n) ∧
    ∀ i < n, ((List.range n).foldl (fun m i => m + (if f i then 2 ^ i else 0)) 0).testBit i = f i := by
  induction n with
  | zero => exact ⟨Nat.one_pos, fun i hi => absurd hi (Nat.not_lt_zero i)⟩
  | succ n ih =>
    obtain ⟨small, bits⟩ := ih
    rw [List.range_succ, List.foldl_append, List.foldl_cons, List.foldl_nil]
    generalize (List.range n).foldl (fun m i => m + (if f i then 2 ^ i else 0)) 0 = m at *
    have pow : 2 ^ (n + 1) = 2 ^ n + 2 ^ n := by rw [Nat.pow_succ]; omega
    cases top : f n with
    | false =>
      refine ⟨by simp only [Bool.false_eq_true, if_false]; omega, fun i hi => ?_⟩
      rw [if_neg (by decide), Nat.add_zero]
      obtain rfl | lt := Nat.eq_or_lt_of_le (Nat.le_of_lt_succ hi)
      · rw [top, Nat.testBit_lt_two_pow small]
      · exact bits i lt
    | true =>
      refine ⟨by simp only [if_true]; omega, fun i hi => ?_⟩
      rw [if_pos rfl, Nat.add_comm]
      obtain rfl | lt := Nat.eq_or_lt_of_le (Nat.le_of_lt_succ hi)
      · rw [top, Nat.testBit_two_pow_add_eq, Nat.testBit_lt_two_pow small]
        rfl
      · rw [Nat.testBit_two_pow_add_gt lt]
        exact bits i lt

/-- The other Prisms stay as they are. -/
theorem State.prism_setPrism (p q : Fin 4) (x : Prism) : (s.setPrism p x).prism q = if q = p then x else s.prism q := by
  refine (Vector.getElem_set p.isLt q.isLt).trans ?_
  simp only [Fin.ext_iff, eq_comm]
  rfl

/-- A Prism at 100 °C or less keeps its reading, and may hold a matrix again. -/
theorem State.prismHeat_cool {c : Nat} (p : Fin 4) (hc : c ≤ 100) : s.prismHeat p c =
    (s.setReg (prismReg p.val 0x28) (BitVec.ofNat 64 c)).setPrism p { s.prism p with hot := false } := by
  unfold State.prismHeat
  dsimp only
  rw [if_neg (by omega), if_pos hc]

/-- What a state holds in which Prism p has been read as cool. -/
def PrismCool (s : State) (p : Fin 4) (c : Nat) : Prop := s.reg (prismReg p.val 0x28) = BitVec.ofNat 64 c ∧ (s.prism p).hot = false

theorem prismReg_ne {p q : Nat} (off : Nat) (h : p ≠ q) : prismReg p off ≠ prismReg q off := by
  simp only [prismReg]
  omega

theorem State.prismCool_forAll (f : Fin 4 → Nat) (hf : ∀ p, f p ≤ 100) (p : Fin 4) :
    PrismCool (s.forAll allPrisms (fun s p => s.prismHeat p (f p))) p (f p) := by
  have listed : p ∈ allPrisms := by
    revert p
    decide
  refine State.forAll_of_mem (P := fun u => PrismCool u p (f p)) (Q := fun _ => True) _ listed trivial (fun _ _ _ _ => trivial) (fun u _ => ?_)
    fun u y _ _ hu hne => ?_
  · rw [State.prismHeat_cool p (hf p)]
    exact ⟨(State.reg_setReg _ _ _ _).trans (if_pos rfl), congrArg Prism.hot ((State.prism_setPrism _ _ _).trans (if_pos rfl))⟩
  · obtain ⟨reg, cool⟩ := hu
    rw [State.prismHeat_cool y (hf y)]
    exact ⟨(State.reg_setReg_ne _ _ _ _ (prismReg_ne _ (fun e => hne (Fin.ext e.symm)))).trans reg,
      (congrArg Prism.hot ((State.prism_setPrism _ _ _).trans (if_neg (Ne.symm hne)))).trans cool⟩

/-- A round of cool Prisms changes their own registers and the matrix unit alone. -/
theorem State.prismHeat_rest (f : Fin 4 → Nat) (hf : ∀ p, f p ≤ 100) : let t := s.forAll allPrisms (fun s p => s.prismHeat p (f p))
    { t with regs := s.regs, omu := s.omu } = s ∧ t.omu.queue = s.omu.queue ∧ ∀ a, a < rPrism → t.reg a = s.reg a := by
  refine State.forAll_induct (P := fun u => { u with regs := s.regs, omu := s.omu } = s ∧ u.omu.queue = s.omu.queue ∧ ∀ a, a < rPrism → u.reg a = s.reg a)
    ⟨rfl, rfl, fun _ _ => rfl⟩ fun u p ⟨rest, queue, regs⟩ => ?_
  rw [State.prismHeat_cool p (hf p)]
  refine ⟨rest, queue, fun a ha => (State.reg_setReg_ne u _ _ _ ?_).trans (regs a ha)⟩
  simp only [prismReg]
  omega

theorem State.dropUnserved_empty (h : s.omu.queue = []) : s.dropUnserved = s := by
  unfold State.dropUnserved State.dropVecs
  dsimp only
  rw [h]
  exact congrArg (fun q => ({ s with omu := { s.omu with queue := q } } : State)) h.symm

theorem State.thermWarn_cool {hot : Nat} (h : hot + 5 ≤ s.regF rTherm 0 8) : s.thermWarn hot = s.setRegBit rPrinStatus 1 false :=
  (if_neg fun ⟨warn, _⟩ => by omega).trans (if_pos h)

/-- The bits of the memory chips at 85 °C or more. -/
def warmMask (j : JunctionTemps) : BitVec 16 :=
  BitVec.ofNat 16 ((List.range 16).foldl (fun n i => n + (if 85 ≤ j.gddr.toList.getD i 0 then 2 ^ i else 0)) 0)

theorem warmMask_bit (j : JunctionTemps) (i : Fin 16) : (warmMask j).getLsbD i.val = decide (85 ≤ j.gddr[i]) := by
  have bit := (testBit_mask (fun i => decide (85 ≤ j.gddr.toList.getD i 0)) 16).2 i.val i.isLt
  simp only [decide_eq_true_eq] at bit
  rw [warmMask, BitVec.getLsbD_ofNat, bit, decide_eq_true i.isLt, Bool.true_and]
  simp

/-- What a cool round leaves before the Prisms are looked at. -/
def State.readBase (s : State) (j : JunctionTemps) : State :=
  { (s.setRegF rExtStatus 16 8 (junctionMax j)).setRegBit rPrinStatus 1 false with rst := { s.rst with warm := warmMask j } }

/-- A round of readings below 100 °C, with nothing queued at the matrix unit and no other cause. -/
theorem State.readJunctions_cool {j : JunctionTemps} (hj : junctionMax j < 100) (hw : junctionMax j + 5 ≤ s.regF rTherm 0 8) (hb : s.bell.hot = false)
    (ho : s.ownCode = s.bell.own) (hq : s.omu.queue = []) : s.readJunctions j =
      (s.readBase j).forAll allPrisms (fun s p => s.prismHeat p (j.prisms.toList.getD p.val 0)) := by
  have f (p : Fin 4) : j.prisms.toList.getD p.val 0 ≤ 100 := by
    have le := prism_le_junctionMax j p
    simp at le ⊢
    omega
  have warned : (s.setRegF rExtStatus 16 8 (min (junctionMax j) 255)).thermWarn (junctionMax j) =
      (s.setRegF rExtStatus 16 8 (junctionMax j)).setRegBit rPrinStatus 1 false := by
    rw [Nat.min_eq_left (by omega)]
    exact State.thermWarn_cool (by rwa [State.regF_setRegF_ne _ _ _ _ _ _ _ _ (by decide)])
  unfold State.readJunctions
  extract_lets hot warm0 rst warm bell hottest changed u
  let v := (s.setRegF rExtStatus 16 8 (junctionMax j)).setRegBit rPrinStatus 1 false
  have warmEq : warm = { v with rst := { s.rst with warm := warmMask j } } := by
    rw [show warm = { warm0 with rst := { warm0.rst with warm := warmMask j } } from rfl, show warm0 = v from warned]
    rfl
  have cool : ({ warm with bell := { warm.bell with hot := decide (100 ≤ hot) } } : State) = warm := by
    have off : warm.bell.hot = decide (100 ≤ hot) := by
      rw [decide_eq_false (show ¬ 100 ≤ hot from by omega), warmEq]
      exact hb
    rw [← off]
  have hottestEq : hottest = warm := by
    refine (congrArg State.causeChanged cool).trans (if_pos ?_)
    rw [warmEq]
    exact ho
  have queue : (hottest.forAll allPrisms (fun s p => s.prismHeat p (j.prisms.toList.getD p.val 0))).omu.queue = [] := by
    refine (State.prismHeat_rest (s := hottest) (fun p => j.prisms.toList.getD p.val 0) f).2.1.trans ?_
    rw [hottestEq, warmEq]
    exact hq
  have changedEq : changed = hottest.forAll allPrisms (fun s p => s.prismHeat p (j.prisms.toList.getD p.val 0)) := State.dropUnserved_empty queue
  rw [if_neg (fun h => by omega), changedEq, hottestEq, warmEq]
  rfl

/-- What a round of readings below 100 °C leaves. -/
theorem State.readJunctions_facts {j : JunctionTemps} (hj : junctionMax j < 100) (hw : junctionMax j + 5 ≤ s.regF rTherm 0 8) (hb : s.bell.hot = false)
    (ho : s.ownCode = s.bell.own) (hq : s.omu.queue = []) : (s.readJunctions j).regF rExtStatus 16 8 = junctionMax j ∧
      (s.readJunctions j).regBit rPrinStatus 1 = false ∧ (s.readJunctions j).thermalHeld = s.thermalHeld ∧ (s.readJunctions j).bell = s.bell ∧
      (∀ i : Fin 16, (s.readJunctions j).rst.warm.getLsbD i.val = decide (85 ≤ j.gddr[i])) ∧
      (∀ p : Fin 4, (s.readJunctions j).reg (prismReg p.val 0x28) = BitVec.ofNat 64 j.prisms[p] ∧ ((s.readJunctions j).prism p).hot = false) ∧
      { s.readJunctions j with regs := s.regs, rst := s.rst, omu := s.omu } = s := by
  have cool (p : Fin 4) : j.prisms.toList.getD p.val 0 = j.prisms[p] := by simp
  have f (p : Fin 4) : j.prisms.toList.getD p.val 0 ≤ 100 := by
    have le := prism_le_junctionMax j p
    have eq := cool p
    omega
  have base (a : Nat) : (s.readBase j).reg a = ((s.setRegF rExtStatus 16 8 (junctionMax j)).setRegBit rPrinStatus 1 false).reg a := State.reg_withRst _ _ a
  have baseBell : (s.readBase j).bell = s.bell := rfl
  have baseWarm : (s.readBase j).rst.warm = warmMask j := rfl
  have baseRest : { s.readBase j with regs := s.regs, rst := s.rst } = s := rfl
  have low : ∀ a, a < rPrism → _ := (State.prismHeat_rest (s := s.readBase j) (fun p => j.prisms.toList.getD p.val 0) f).2.2
  have rest := (State.prismHeat_rest (s := s.readBase j) (fun p => j.prisms.toList.getD p.val 0) f).1
  have prisms := State.prismCool_forAll (s := s.readBase j) (fun p => j.prisms.toList.getD p.val 0) f
  rw [State.readJunctions_cool hj hw hb ho hq]
  generalize State.forAll (s.readBase j) allPrisms (fun s p => s.prismHeat p (j.prisms.toList.getD p.val 0)) = t at *
  refine ⟨?_, ?_, ?_, (congrArg State.bell rest :).trans baseBell, fun i => ?_, fun p => ?_, ?_⟩
  · rw [State.regF_congr (low _ (by decide)), State.regF_congr (base _), State.regF_congr (State.reg_setRegBit_ne _ _ _ _ _ (by decide)),
      State.regF_setRegF _ _ _ _ _ (by decide), Nat.mod_eq_of_lt (by omega)]
  · rw [State.regBit_congr (low _ (by decide)), State.regBit_congr (base _), State.regBit_setRegBit _ _ _ _ (by decide)]
  · exact State.regBit_congr (((low _ (by decide)).trans (base _)).trans
      ((State.reg_setRegBit_ne _ _ _ _ _ (by decide)).trans (State.reg_setRegF_ne _ _ _ _ _ _ (by decide)))) 14
  · rw [show t.rst = (s.readBase j).rst from (congrArg State.rst rest :), baseWarm]
    exact warmMask_bit j i
  · obtain ⟨reading, hot⟩ := prisms p
    rw [cool p] at reading
    exact ⟨reading, hot⟩
  · exact (congrArg (fun x : State => { x with regs := s.regs, rst := s.rst }) rest :).trans baseRest

/-! ### The trip -/

/-- Only registers and the ports' own states differ. -/
def PortsOnly (s t : State) : Prop := { t with regs := s.regs, elecs := s.elecs, opts := s.opts } = s

/-- No port is up. -/
def PortsDown (s : State) : Prop := (∀ n < 128, s.ready (readyPort n) = false) ∧ ∀ i < 64, s.optState i ≠ 7

theorem linkReg_ne_port {p q : Nat} (off : Nat) (h : p ≠ q) : linkReg p off ≠ linkReg q off := by
  unfold linkReg
  omega

theorem PortsOnly.trans {u : State} (h : PortsOnly s t) (g : PortsOnly t u) : PortsOnly s u := by
  have e := congrArg (fun x : State => { x with regs := s.regs, elecs := s.elecs, opts := s.opts })
    (show { u with regs := t.regs, elecs := t.elecs, opts := t.opts } = t from g)
  exact e.trans h

theorem State.elecDown_ports {p : Nat} (hp : p < 64) (h : PortsDown s) : PortsDown (s.elecDown p) ∧ PortsOnly s (s.elecDown p) ∧ (s.elecDown p).elecState p = 0 := by
  obtain ⟨down, optical⟩ := h
  have off := down p (by omega)
  refine ⟨⟨fun n hn => ?_, fun i hi => ?_⟩, ?_, ?_⟩
  · refine (State.ready_congr (State.reg_elecDown_ne off ?_)).trans (down n hn)
    exact ready_ne_link (by rw [readyPort]; omega)
  · refine fun e => optical i hi ((State.regF_congr (State.reg_elecDown_ne off ?_) 0 4).symm.trans e)
    exact linkReg_ne_port _ (by omega)
  · rw [State.elecDown_of_down off]
    rfl
  · rw [State.elecDown_of_down off]
    exact State.elecState_setElecState (by decide)

/-- Every electrical port of a module whose ports are down is taken down. -/
theorem State.elecDown_all (h : PortsDown s) : let t := s.forAll (List.range 64) (fun s p => s.elecDown p)
    PortsOnly s t ∧ (∀ i < 64, t.optState i ≠ 7) ∧ ∀ p < 64, t.elecState p = 0 := by
  have inv : ∀ u y, y ∈ List.range 64 → PortsDown u ∧ PortsOnly s u → PortsDown (u.elecDown y) ∧ PortsOnly s (u.elecDown y) := by
    intro u y hy ⟨down, only⟩
    obtain ⟨down', only', -⟩ := State.elecDown_ports (List.mem_range.mp hy) down
    exact ⟨down', only.trans only'⟩
  obtain ⟨⟨-, optical⟩, only⟩ := State.forAll_mem_induct (P := fun u => PortsDown u ∧ PortsOnly s u) ⟨h, rfl⟩ inv
  refine ⟨only, optical, fun p hp => ?_⟩
  refine State.forAll_of_mem (P := fun u => u.elecState p = 0) (Q := fun u => PortsDown u ∧ PortsOnly s u) _ (List.mem_range.mpr hp) ⟨h, rfl⟩ inv
    (fun u ⟨down, _⟩ => (State.elecDown_ports hp down).2.2) fun u y hy ⟨⟨down, _⟩, _⟩ hu hne => ?_
  exact (State.regF_congr (State.reg_elecDown_ne (down y (by have := List.mem_range.mp hy; omega)) (linkReg_ne_port _ (Ne.symm hne))) 0 4).trans hu

theorem State.optDown_all (h : ∀ i < 64, s.optState i ≠ 7) : let t := s.forAll (List.range 64) (fun s i => s.optDown i)
    PortsOnly s t ∧ (∀ p < 64, t.elecState p = s.elecState p) ∧ ∀ i < 64, t.optState i = 0 := by
  let Q : State → Prop := fun u => PortsOnly s u ∧ (∀ p < 64, u.elecState p = s.elecState p) ∧ ∀ i < 64, u.optState i ≠ 7
  have other {u : State} {y i : Nat} (hne : i ≠ y) : (u.setOptState y 0).optState i = u.optState i :=
    State.regF_congr (State.reg_setRegF_ne _ _ _ _ _ _ (linkReg_ne_port _ (by omega))) 0 4
  have inv : ∀ u y, y ∈ List.range 64 → Q u → Q (u.optDown y) := by
    intro u y hy ⟨only, electrical, optical⟩
    rw [State.optDown_of_down (optical y (List.mem_range.mp hy))]
    refine ⟨only, fun p hp => (State.regF_congr (State.reg_setRegF_ne _ _ _ _ _ _ (linkReg_ne_port _ (by omega))) 0 4).trans (electrical p hp), fun i hi => ?_⟩
    by_cases same : i = y
    · rw [same, State.optState_setOptState (by decide)]
      decide
    · rw [other same]
      exact optical i hi
  have base : Q s := ⟨rfl, fun _ _ => rfl, h⟩
  obtain ⟨only, electrical, -⟩ := State.forAll_mem_induct (P := Q) base inv
  refine ⟨only, electrical, fun i hi => ?_⟩
  refine State.forAll_of_mem (P := fun u => u.optState i = 0) (Q := Q) _ (List.mem_range.mpr hi) base inv
    (fun u ⟨_, _, optical⟩ => ?_) fun u y hy ⟨_, _, optical⟩ hu hne => ?_
  · rw [State.optDown_of_down (optical i hi)]
    exact State.optState_setOptState (by decide)
  · rw [State.optDown_of_down (optical y (List.mem_range.mp hy))]
    exact (other (Ne.symm hne)).trans hu

/-- Every carrying laser of an optical port is dark. -/
def Opt.dark (o : Opt) : Opt := { o with waves := o.waves.map (fun (w : Wave) => { w with lit := false }) }

theorem Opt.dark_lit (o : Opt) (k : Fin 16) : (o.dark.waves.toList.getD k.val {}).lit = false := by
  simp [Opt.dark]

theorem State.dark_all : let t := s.forAll (List.range 64) (fun s i => s.setOpt i (s.opt i).dark)
    PortsOnly s t ∧ t.regs = s.regs ∧ ∀ i < 64, ∀ k : Fin 16, (t.wave i k.val).lit = false := by
  obtain ⟨only, regs⟩ := State.forAll_induct (P := fun u => PortsOnly s u ∧ u.regs = s.regs) (op := fun s i => s.setOpt i (s.opt i).dark)
    (l := List.range 64) ⟨rfl, rfl⟩ fun _ _ h => h
  refine ⟨only, regs, fun i hi k => ?_⟩
  refine State.forAll_of_mem (P := fun u => (u.wave i k.val).lit = false) (Q := fun _ => True) _ (List.mem_range.mpr hi) trivial (fun _ _ _ _ => trivial)
    (fun u _ => ?_) fun u y _ _ hu hne => ?_
  · rw [State.wave, State.opt_setOpt, if_pos rfl]
    exact Opt.dark_lit _ k
  · rw [State.wave, State.opt_setOpt, if_neg hne]
    exact hu

/-- THERMTRIP_N has fallen. -/
def State.trippedOut (s : State) : State := ({ s with rst := { s.rst with tripped := true } }).emit (.pin "THERMTRIP_N" false)

theorem State.trip_eq (s : State) : s.trip = ((s.trippedOut.forAll (List.range 64) (fun s p => s.elecDown p)).forAll (List.range 64) (fun s i => s.optDown i)).forAll
    (List.range 64) (fun s i => s.setOpt i (s.opt i).dark) := rfl

/-- A trip of a module whose ports are down. -/
theorem State.trip_facts (h : PortsDown s) : PortsOnly s.trippedOut s.trip ∧ (∀ p < 64, s.trip.elecState p = 0) ∧ ∀ i < 64, s.trip.optState i = 0 := by
  obtain ⟨only1, optical1, electrical1⟩ := State.elecDown_all (s := s.trippedOut) h
  rw [State.trip_eq]
  generalize s.trippedOut.forAll (List.range 64) (fun s p => s.elecDown p) = a at *
  obtain ⟨only2, electrical2, optical2⟩ := State.optDown_all optical1
  generalize a.forAll (List.range 64) (fun s i => s.optDown i) = b at *
  obtain ⟨only3, regs3, -⟩ := State.dark_all (s := b)
  generalize b.forAll (List.range 64) (fun s i => s.setOpt i (s.opt i).dark) = c at *
  have regs (r : Nat) : c.reg r = b.reg r := congrArg (tget regReset · r) regs3
  exact ⟨(only1.trans only2).trans only3, fun p hp => (State.regF_congr (regs _) 0 4).trans ((electrical2 p hp).trans (electrical1 p hp)),
    fun i hi => (State.regF_congr (regs _) 0 4).trans (optical2 i hi)⟩

/-! ### The power of a window -/

/-- The registers of a window. -/
def State.powered (s : State) (mean : Nat) : State :=
  (s.setRegF rPower 0 16 mean).setRegF rPower 16 16 (max mean (s.regF rPower 16 16))

theorem State.powered_facts {mean : Nat} (h : mean < 2 ^ 16) : (s.powered mean).regF rPower 0 16 = mean ∧
    (s.powered mean).regF rPower 16 16 = max mean (s.regF rPower 16 16) ∧
    (∀ a, a ≠ rPower → (s.powered mean).reg a = s.reg a) ∧ { s.powered mean with regs := s.regs } = s := by
  have peak : s.regF rPower 16 16 < 2 ^ 16 := Nat.mod_lt _ (by decide)
  refine ⟨?_, ?_, fun a ha => ?_, rfl⟩
  · rw [State.powered, State.regF_setRegF_below _ _ _ _ _ _ _ (by decide) (by decide), State.regF_setRegF _ _ _ _ _ (by decide), Nat.mod_eq_of_lt h]
  · rw [State.powered, State.regF_setRegF _ _ _ _ _ (by decide), Nat.mod_eq_of_lt (by omega)]
  · rw [State.powered, State.reg_setRegF_ne _ _ _ _ _ _ ha, State.reg_setRegF_ne _ _ _ _ _ _ ha]

/-- The window is measured, and compared with the cap. -/
def State.metered (s : State) (mean : Nat) : State :=
  { s.powered mean with prin := { (s.powered mean).prin with capped := decide (s.regF rPcap 0 11 < mean) } }

/-- What the measurement of a window leaves. -/
def Metered (s : State) (mean : Nat) (t : State) : Prop :=
  t.regF rPower 0 16 = mean ∧ t.regF rPower 16 16 = max mean (s.regF rPower 16 16) ∧ t.prin.capped = decide (s.regF rPcap 0 11 < mean) ∧
    (∀ a, a ≠ rPower → a ≠ rPrinStatus → t.reg a = s.reg a) ∧ { t with regs := s.regs, prin := s.prin, bell := s.bell } = s

theorem State.metered_facts {mean : Nat} (h : mean < 2 ^ 16) : Metered s mean (s.metered mean) ∧ (s.metered mean).reg rPrinStatus = s.reg rPrinStatus ∧
    { s.metered mean with regs := s.regs, prin := s.prin } = s := by
  obtain ⟨power, peak, regs, rest⟩ := s.powered_facts h
  have same (a : Nat) : (s.metered mean).reg a = (s.powered mean).reg a := State.reg_withPrin _ _ a
  have rest' : { s.metered mean with regs := s.regs, prin := s.prin } = s := (congrArg (fun x : State => { x with prin := s.prin }) rest :)
  have capped : (s.metered mean).prin.capped = decide (s.regF rPcap 0 11 < mean) := rfl
  generalize s.metered mean = m at *
  exact ⟨⟨(State.regF_congr (same _) 0 16).trans power, (State.regF_congr (same _) 16 16).trans peak, capped,
    fun a ha _ => (same a).trans (regs a ha), (congrArg (fun x : State => { x with bell := s.bell }) rest' :)⟩, (same _).trans (regs _ (by decide)), rest'⟩

theorem Metered.setBit {mean : Nat} (h : Metered s mean t) (i : Nat) (b : Bool) : Metered s mean (t.setRegBit rPrinStatus i b) := by
  obtain ⟨power, peak, capped, regs, rest⟩ := h
  have field (lo len : Nat) : (t.setRegBit rPrinStatus i b).regF rPower lo len = t.regF rPower lo len :=
    State.regF_congr (State.reg_setRegBit_ne t _ _ _ _ (by decide)) lo len
  exact ⟨(field 0 16).trans power, (field 16 16).trans peak, capped, fun a ha hs => (State.reg_setRegBit_ne t _ _ _ _ hs).trans (regs a ha hs), rest⟩

/-- EXEC is gated for power. -/
def State.gate (s : State) : State := { s with bell := { s.bell with gated := true } }

theorem Metered.member {mean : Nat} (h : Metered s mean t) : t.host.member = s.host.member := by
  obtain ⟨-, -, -, -, rest⟩ := h
  exact (congrArg (fun x : State => x.host.member) rest :)

theorem Metered.gate {mean : Nat} (h : Metered s mean t) : Metered s mean t.gate := h

/-- The window is above the cap. -/
def State.overCap (s : State) (mean : Nat) : State := ((s.metered mean).setRegBit rPrinStatus 2 true).gate

theorem State.overCap_facts {mean : Nat} (h : mean < 2 ^ 16) : Metered s mean (s.overCap mean) ∧ (s.overCap mean).regBit rPrinStatus 2 = true ∧
    (s.overCap mean).bell.gated = true := by
  have metered := ((State.metered_facts (s := s) h).1.setBit 2 true).gate
  have warn : ((s.metered mean).setRegBit rPrinStatus 2 true).regBit rPrinStatus 2 = true := State.regBit_setRegBit _ _ _ _ (by decide)
  have same (v : State) : v.gate.regBit rPrinStatus 2 = v.regBit rPrinStatus 2 := rfl
  have gated (v : State) : v.gate.bell.gated = true := rfl
  exact ⟨metered, (same _).trans warn, gated _⟩

theorem State.prin_powered (s : State) (mean : Nat) : (s.powered mean).prin = s.prin := rfl

theorem State.powerWindow_eq {mean : Nat} (h : s.ready 1 = true) : s.powerWindow mean =
    if s.regF rPcap 0 11 < mean then
      if s.prin.capped ∧ !(s.overCap mean).regBit rPrinStatus 3 then ((s.overCap mean).setRegBit rPrinStatus 3 true).raise 15 else s.overCap mean
    else if mean * 100 < s.regF rPcap 0 11 * 95 then ((s.metered mean).setRegBit rPrinStatus 2 false).setRegBit rPrinStatus 3 false
    else s.metered mean := by
  have cap : (s.powered mean).regF rPcap 0 11 = s.regF rPcap 0 11 := by
    rw [State.powered, State.regF_setRegF_ne _ _ _ _ _ _ _ _ (by decide), State.regF_setRegF_ne _ _ _ _ _ _ _ _ (by decide)]
  unfold State.powerWindow
  rw [if_neg (by rw [h]; decide)]
  dsimp only
  rw [show ((s.setRegF rPower 0 16 mean).setRegF rPower 16 16 (max mean (s.regF rPower 16 16))).regF rPcap 0 11 = s.regF rPcap 0 11 from cap,
    ← s.prin_powered mean]
  rfl

/-- A window above the cap. -/
theorem State.powerWindow_over {w : BitVec 16} (h : s.ready 1 = true) (hgw : s.behindGateway = false) (hcap : s.regF rPcap 0 11 < w.toNat) :
    (s.powerWindow w.toNat).regF rPower 0 16 = w.toNat ∧ (s.powerWindow w.toNat).regF rPower 16 16 = max w.toNat (s.regF rPower 16 16) ∧
    (s.powerWindow w.toNat).regBit rPrinStatus 2 = true ∧ (s.powerWindow w.toNat).bell.gated = true ∧ (s.powerWindow w.toNat).prin.capped = true ∧
    (s.prin.capped = true → (s.powerWindow w.toNat).regBit rPrinStatus 3 = true) := by
  obtain ⟨metered, warn, gated⟩ := State.overCap_facts (s := s) w.isLt
  rw [(State.powerWindow_eq h).trans (if_pos hcap)]
  generalize s.overCap w.toNat = u at *
  split
  · have member := (metered.setBit 3 true).member
    obtain ⟨power, peak, capped, regs, -⟩ := metered.setBit 3 true
    have warn' : (u.setRegBit rPrinStatus 3 true).regBit rPrinStatus 2 = true :=
      (State.regBit_setRegBit_other _ _ _ _ _ (by decide) (by decide)).trans warn
    have gw : (u.setRegBit rPrinStatus 3 true).behindGateway = false :=
      (State.behindGateway_congr (s := s) (t := u.setRegBit rPrinStatus 3 true) member (regs _ (by decide) (by decide)) (regs _ (by decide) (by decide))).trans hgw
    have second : (u.setRegBit rPrinStatus 3 true).regBit rPrinStatus 3 = true := State.regBit_setRegBit _ _ _ _ (by decide)
    have gated' : (u.setRegBit rPrinStatus 3 true).bell.gated = true := (congrArg Bell.gated (State.setRegBit_bell ..)).trans gated
    generalize u.setRegBit rPrinStatus 3 true = v at *
    obtain ⟨raised, -, -⟩ := State.raise_leaves gw 15
    have rest : (v.raise 15).bell = v.bell ∧ (v.raise 15).prin = v.prin := by
      obtain ⟨o, x, e⟩ := State.raise_own gw 15
      rw [e]
      exact ⟨rfl, rfl⟩
    obtain ⟨bell, prin⟩ := rest
    exact ⟨(State.regF_congr (raised _) 0 16).trans power, (State.regF_congr (raised _) 16 16).trans peak, (State.regBit_congr (raised _) 2).trans warn',
      (congrArg Bell.gated bell).trans gated', (congrArg Prin.capped prin).trans (capped.trans (decide_eq_true hcap)),
      fun _ => (State.regBit_congr (raised _) 3).trans second⟩
  · next known =>
    obtain ⟨power, peak, capped, -, -⟩ := metered
    exact ⟨power, peak, warn, gated, capped.trans (decide_eq_true hcap), fun was => by simpa [was] using known⟩

/-- A window at or below the cap. -/
theorem State.powerWindow_under {w : BitVec 16} (h : s.ready 1 = true) (hcap : w.toNat ≤ s.regF rPcap 0 11) :
    (s.powerWindow w.toNat).regF rPower 0 16 = w.toNat ∧ (s.powerWindow w.toNat).prin.capped = false ∧
    (w.toNat * 100 < s.regF rPcap 0 11 * 95 → (s.powerWindow w.toNat).regBit rPrinStatus 2 = false ∧ (s.powerWindow w.toNat).regBit rPrinStatus 3 = false) ∧
    (s.regF rPcap 0 11 * 95 ≤ w.toNat * 100 → (s.powerWindow w.toNat).regBit rPrinStatus 2 = s.regBit rPrinStatus 2 ∧
      (s.powerWindow w.toNat).regBit rPrinStatus 3 = s.regBit rPrinStatus 3) ∧
    OnlyRegs s { s.powerWindow w.toNat with prin := s.prin } [rPower, rPrinStatus] := by
  obtain ⟨metered, status, rest⟩ := State.metered_facts (s := s) w.isLt
  have calm : decide (s.regF rPcap 0 11 < w.toNat) = false := decide_eq_false (by omega)
  rw [(State.powerWindow_eq h).trans (if_neg (by omega))]
  generalize s.metered w.toNat = u at *
  have listed {a : Nat} (ha : a ∉ [rPower, rPrinStatus]) : a ≠ rPower ∧ a ≠ rPrinStatus := by simpa using ha
  split
  · next low =>
    obtain ⟨power, -, capped, regs, -⟩ := (metered.setBit 2 false).setBit 3 false
    exact ⟨power, capped.trans calm, fun _ => ⟨(State.regBit_setRegBit_other _ _ _ _ _ (by decide) (by decide)).trans (State.regBit_setRegBit _ _ _ _ (by decide)),
      State.regBit_setRegBit _ _ _ _ (by decide)⟩, fun high => by omega, rest, fun a ha => regs a (listed ha).1 (listed ha).2⟩
  · next high =>
    obtain ⟨power, -, capped, regs, -⟩ := metered
    exact ⟨power, capped.trans calm, fun low => absurd low high, fun _ => ⟨State.regBit_congr status 2, State.regBit_congr status 3⟩, rest,
      fun a ha => regs a (listed ha).1 (listed ha).2⟩

end

/-- Settles O50: junction readings, the trip, the heartbeat and the power of a window. -/
theorem temperatureAndPower : Obligations.TemperatureAndPower := by
  refine ⟨?_, fun s => ⟨_, rfl, fun p k => ?_⟩, fun s hr ho => ⟨_, rfl, ?_⟩, fun s => ⟨_, rfl, State.regBit_setRegBit _ _ _ _ (by decide), s.onlyRegs_setRegBit _ _ _⟩,
    fun s h => congrArg Host.Outcome.next (if_pos h), fun s h hgw => ⟨_, congrArg Host.Outcome.next (if_neg (by rw [h]; decide)), ?_⟩,
    fun w s h => congrArg Host.Outcome.next (if_pos (by rw [h]; rfl)), ?_, ?_⟩
  · exact fun j s hj hw hb ho hq => ⟨_, rfl, State.readJunctions_facts hj hw hb ho hq⟩
  · rw [State.trip_eq]
    exact State.dark_all.2.2 p.val p.isLt k
  · obtain ⟨only, electrical, optical⟩ := State.trip_facts (s := s) ⟨fun n hn => hr ⟨n, hn⟩, fun i hi => ho ⟨i, hi⟩⟩
    have rest : { s.trip with regs := s.regs, elecs := s.elecs, opts := s.opts } = s.trippedOut := only
    generalize s.trip = t at *
    refine ⟨(congrArg (fun x : State => x.rst.tripped) rest :), (congrArg State.out rest :), fun p => electrical p.val p.isLt, fun p => optical p.val p.isLt, ?_⟩
    exact (congrArg (fun x : State => { x with rst := s.rst, out := s.out }) rest :)
  · let u := (s.setRegBit rExtStatus 2 true).logEvent 3 3 10 0
    have reg (a : Nat) (ha : a ≠ rExtStatus) (h1 : a ≠ rLogHead) (h2 : a < rRstLog ∨ rRstLog + 0x1000 ≤ a) : u.reg a = s.reg a :=
      (State.reg_logEvent_ne _ _ _ _ h1 h2).trans (State.reg_setRegBit_ne _ _ _ _ _ ha)
    have gw : u.behindGateway = false :=
      (State.behindGateway_congr (s := s) (t := u) rfl (reg rGwNode (by decide) (by decide) (by decide)) (reg rGlbNode (by decide) (by decide) (by decide))).trans hgw
    obtain ⟨regs, -, -⟩ := State.raise_leaves gw 15
    refine ⟨(State.regBit_congr (regs _) 2).trans ?_, (State.regF_congr (regs _) 0 7).trans ?_⟩
    · exact (State.regBit_congr (State.reg_logEvent_ne _ _ _ _ (by decide) (by decide)) 2).trans (State.regBit_setRegBit _ _ _ _ (by decide))
    · rw [State.logHead_logEvent, State.setRegBit, State.regF_setRegF_ne _ _ _ _ _ _ _ _ (by decide)]
  · exact fun w s h hgw hcap => ⟨_, rfl, State.powerWindow_over h hgw hcap⟩
  · exact fun w s h hcap => ⟨_, rfl, State.powerWindow_under h hcap⟩

end Sys2Proof.Machine
end

section
/-! SUPPORT. A partition swap by which the module gains ports of a Bell partition that no map gave it before. -/

namespace Sys2Proof.Machine

/-- The state after reset, with a map applied once already, and port 0 staged for partition 0, the Bell partition. -/
def stagedPort : State :=
  { State.reset with
    regs := [(rPortPartStage, 0x80)]
    bell := { State.reset.bell with mapped := true } }

/-- ARM. -/
def armSwap : Word := 0x8000000000000000

theorem stagedPort_arms : stagedPort.recovery = false ∧ armSwap.getLsbD 63 = true ∧ stagedPort.bell.governed = false ∧ stagedPort.bell.mapped = true := by
  decide +kernel

theorem stagedPort_unoffending : ∀ p : Fin 128, stagedPort.swapOffends p.val = false := by decide +kernel

/-- The swap gives the module a port of its Bell partition, and that partition's election begins. -/
theorem mappedOf_stagedPort : ((stagedPort.writePlain rPartSwap armSwap allBits).partSwapFree).bell.mappedOf = 1 ∧ stagedPort.bell.mappedOf = 0 := by
  decide +kernel

/-- Refutes O44, in the clause of a swap taken at once: where the new map is the first to give the module ports of its Bell partition, that
partition's election begins (R51, R536), so the Bell logic changes, where the clause keeps everything but registers once any map has been applied. -/
theorem not_identityAndPartitions : ¬ Obligations.IdentityAndPartitions := by
  intro h
  obtain ⟨-, -, hswap, -⟩ := h
  obtain ⟨rec, arm, free, mapped⟩ := stagedPort_arms
  obtain ⟨t, e, -, -, -, hrest⟩ := hswap armSwap stagedPort rec arm free mapped stagedPort_unoffending
  have run : t = (stagedPort.writePlain rPartSwap armSwap allBits).partSwapFree :=
    (Host.Outcome.next.inj e).symm.trans (stagedPort.bar0_eq_of_not_recovery _ rec)
  have same : t.bell.mappedOf = stagedPort.bell.mappedOf := (congrArg (fun x : State => x.bell.mappedOf) hrest :)
  obtain ⟨after, before⟩ := mappedOf_stagedPort
  rw [run, after, before] at same
  exact absurd same (by decide)

end Sys2Proof.Machine
end

section
/-! SUPPORT. The Principal's security services: attestation, the Locker, sealed regions and teardown. -/

namespace Sys2Proof.Machine

section
variable {s t : State}

/-! ### The end of a command -/

/-- Nothing but registers, outputs and the host's side differs. -/
def Loud (s t : State) : Prop := { t with regs := s.regs, out := s.out, host := s.host } = s

theorem Loud.trans {u : State} (h : Loud s t) (g : Loud t u) : Loud s u := by
  have e := congrArg (fun x : State => { x with regs := s.regs, out := s.out, host := s.host })
    (show { u with regs := t.regs, out := t.out, host := t.host } = t from g)
  exact e.trans h

/-- SEC.STATUS with a command's code and BUSY at 0. -/
def State.secStatus (s : State) (code : Nat) : State := (s.setRegF rSecStatus 0 4 code).setRegBit rSecStatus 8 false

theorem State.secStatus_facts (s : State) {code : Nat} (h : code < 16) : (s.secStatus code).regF rSecStatus 0 4 = code ∧
    (s.secStatus code).regBit rSecStatus 8 = false ∧ ∀ a, a ≠ rSecStatus → (s.secStatus code).reg a = s.reg a := by
  refine ⟨?_, State.regBit_setRegBit _ _ _ _ (by decide), fun a ha => ?_⟩
  · rw [State.secStatus, State.setRegBit, State.regF_setRegF_below _ _ _ _ _ _ _ (by decide) (by decide), State.regF_setRegF _ _ _ _ _ (by decide)]
    exact Nat.mod_eq_of_lt h
  · rw [State.secStatus, State.reg_setRegBit_ne _ _ _ _ _ ha, State.reg_setRegF_ne _ _ _ _ _ _ ha]

theorem State.loud_raise_own (h : s.behindGateway = false) (v : Nat) : Loud s (s.raise v) := by
  obtain ⟨o, x, e⟩ := State.raise_own h v
  rw [e]
  rfl

theorem State.raise_ready (h : s.behindGateway = false) (hr : s.ready 0 = true) (v : Nat) :
    (s.raise v).out = .msix (32 * (s.node.toNat % 64) + v) :: s.out := by
  unfold State.raise
  dsimp only
  rw [if_neg (by simp [h]), if_pos hr]
  rfl

/-- What the end of a command with a code leaves. -/
structure SecEnded (s t : State) (code : Nat) : Prop where
  code : t.regF rSecStatus 0 4 = code
  idle : t.regBit rSecStatus 8 = false
  regs : ∀ a, a ≠ rSecStatus → t.reg a = s.reg a
  rest : Loud s t

theorem State.secEnd_ended {code : Nat} (h : code < 16) (hgw : s.behindGateway = false) : SecEnded s (s.secEnd code) code := by
  obtain ⟨field, idle, regs⟩ := s.secStatus_facts h
  have gw : (s.secStatus code).behindGateway = false :=
    (State.behindGateway_congr (s := s) (t := s.secStatus code) rfl (regs rGwNode (by decide)) (regs rGlbNode (by decide))).trans hgw
  have rest : Loud s (s.secStatus code) := rfl
  have eq : s.secEnd code = if (s.secStatus code).regBit rSecCtl 0 then (s.secStatus code).raise 13 else s.secStatus code := rfl
  rw [eq]
  generalize s.secStatus code = u at *
  split
  · obtain ⟨raised, -, -⟩ := State.raise_leaves gw 13
    exact ⟨(State.regF_congr (raised _) 0 4).trans field, (State.regBit_congr (raised _) 8).trans idle, fun a ha => (raised a).trans (regs a ha),
      rest.trans (State.loud_raise_own gw 13)⟩
  · exact ⟨field, idle, regs, rest⟩

theorem State.out_secEnd {code : Nat} (h : code < 16) (hgw : s.behindGateway = false) (hr : s.ready 0 = true) : (s.secEnd code).out =
    (if s.regBit rSecCtl 0 then [Out.msix (32 * (s.node.toNat % 64) + 13)] else []) ++ s.out := by
  obtain ⟨-, -, regs⟩ := s.secStatus_facts h
  have gw : (s.secStatus code).behindGateway = false :=
    (State.behindGateway_congr (s := s) (t := s.secStatus code) rfl (regs rGwNode (by decide)) (regs rGlbNode (by decide))).trans hgw
  have ready : (s.secStatus code).ready 0 = true := (State.ready_congr (regs _ (by decide))).trans hr
  have node : (s.secStatus code).node = s.node := congrArg (BitVec.ofNat 12) (State.regF_congr (regs rGlbNode (by decide)) 0 12)
  have ctl : (s.secStatus code).regBit rSecCtl 0 = s.regBit rSecCtl 0 := State.regBit_congr (regs rSecCtl (by decide)) 0
  have out : (s.secStatus code).out = s.out := rfl
  have eq : s.secEnd code = if (s.secStatus code).regBit rSecCtl 0 then (s.secStatus code).raise 13 else s.secStatus code := rfl
  rw [eq, ctl]
  generalize s.secStatus code = u at *
  split
  · rw [State.raise_ready gw ready, node, out]
    rfl
  · exact out

theorem SecEnded.sec {code : Nat} (h : SecEnded s t code) : t.sec = s.sec := (congrArg State.sec (show { t with regs := s.regs, out := s.out, host := s.host } = s from h.rest) :)
theorem SecEnded.mem {code : Nat} (h : SecEnded s t code) : t.mem = s.mem := (congrArg State.mem (show { t with regs := s.regs, out := s.out, host := s.host } = s from h.rest) :)

/-- A command that changes registers and the security services' state, and then ends. -/
theorem Loud.withSec {u : State} (h : { u with regs := s.regs, sec := s.sec } = s) (g : Loud u t) :
    { t with out := s.out, host := s.host, regs := s.regs, sec := s.sec } = s := by
  have e := congrArg (fun x : State => { x with regs := s.regs, sec := s.sec, out := s.out, host := s.host })
    (show { t with regs := u.regs, out := u.out, host := u.host } = u from g)
  exact e.trans (congrArg (fun x : State => { x with out := s.out, host := s.host }) h)

/-! ### Waiting for the Principal -/

theorem State.viaPrincipal_absent (h : s.ready 1 = false) (i : PrinCmd) (k : State → State) : (s.viaPrincipal i k).prin.waits = s.prin.waits ++ [i] ∧
    (s.viaPrincipal i k).regBit rSecStatus 8 = true ∧ OnlyRegs s { s.viaPrincipal i k with prin := s.prin } [rSecStatus] := by
  rw [show s.viaPrincipal i k = ({ s with prin := { s.prin with waits := s.prin.waits ++ [i] } } : State).setRegBit rSecStatus 8 true from
    if_neg (by rw [h]; decide)]
  refine ⟨rfl, State.regBit_setRegBit _ _ _ _ (by decide), rfl, fun a ha => ?_⟩
  exact State.reg_setRegBit_ne { s with prin := { s.prin with waits := s.prin.waits ++ [i] } } _ _ _ _ (by simpa using ha)

theorem State.viaPrincipal_present (h : s.ready 1 = true) (i : PrinCmd) (k : State → State) : s.viaPrincipal i k = k s := if_pos h

/-! ### Attestation -/

/-- The report stands in its registers, and a fresh key pair behind it. -/
def State.attested (s : State) (c : BitVec 10) (nonce : List Byte) : State :=
  { s with sec := { s.sec with attest := none, pairs := s.sec.pairs + 1, eph := tput (fun _ => none) s.sec.eph c.toNat (some (s.sec.pairs, nonce)) } }

theorem State.attested_facts (s : State) (c : BitVec 10) (nonce : List Byte) : (s.attested c nonce).sec.attest = none ∧
    (s.attested c nonce).sec.pairs = s.sec.pairs + 1 ∧ tget (fun _ => none) (s.attested c nonce).sec.eph c.toNat = some (s.sec.pairs, nonce) ∧
    { s.attested c nonce with regs := s.regs, sec := s.sec } = s :=
  ⟨rfl, rfl, (tget_tput _ _ _ _ _).trans (if_pos rfl), rfl⟩

theorem State.reportReady_eq {c : BitVec 10} {nonce : List Byte} (h : s.sec.attest = some (c, nonce)) :
    ∃ body, s.reportReady = ((s.attested c nonce).putRegs rReport 57 body).secEnd 0 := by
  unfold State.reportReady
  rw [h]
  exact ⟨_, rfl⟩

theorem State.gateway_putRegs {a n : Nat} (l : List Byte) (h : a + 8 * n ≤ rGwNode) (h' : rGlbNode < a) :
    (s.putRegs a n l).behindGateway = s.behindGateway := by
  have rest : { s.putRegs a n l with regs := s.regs } = s := s.rest_putRegs a n l
  exact State.behindGateway_congr (congrArg (fun x : State => x.host.member) rest :) (State.reg_putRegs_ne l fun i hi => by omega)
    (State.reg_putRegs_ne l fun i hi => by omega)

/-! ### The Locker -/

/-- The key pair behind a report is gone. -/
def State.ephGone (s : State) (c : Nat) : State := { s with sec := { s.sec with eph := tput (fun _ => none) s.sec.eph c none } }

/-- A key stands in a slot. -/
def State.keyStored (s : State) (slot : Nat) (key : List Byte) (w : Word) : State :=
  ({ s with sec := { s.sec with keys := tput (fun _ => []) s.sec.keys slot key } } : State).setReg (rLocker + 8 * slot) w

/-- The state of an entry that is in use: bit 63, the cohort, and the use of the key. -/
theorem locker_used (c n : Nat) (hc : c < 2 ^ 10) (hn : n < 2 ^ 32) : (BitVec.ofNat 64 (2 ^ 63 + c * 2 ^ 32 + n)).getLsbD 63 = true := by
  rw [BitVec.getLsbD_ofNat, Nat.testBit_eq_decide_div_mod_eq]
  have : (2 ^ 63 + c * 2 ^ 32 + n) / 2 ^ 63 = 1 := by omega
  rw [this]
  rfl

/-- The wrapped key of an import opens under the key pair behind the report. -/
def importOpens (b nonce : List Byte) (k : Nat) : Option (List Byte) :=
  Config.gcmOpen (Config.hkdf nonce (Config.ecdhX k (b.take 64)) (lockerInfo ++ (b.drop 76).take 8)) ((b.drop 64).take 12) ((b.drop 76).take 12)
    ((b.drop 88).take 32) (b.drop 120)

/-- What an import does of which the key pair is known. -/
def State.importWith (s : State) (c k : Nat) (nonce : List Byte) : State :=
  let b := s.latchBytes rImport 17
  if s.cohortState c ≠ 1 then (s.ephGone c).secEnd 5
  else if (s.reg (rLocker + 8 * leAt b 78 1)).getLsbD 63 then (s.ephGone c).secEnd 4
  else match importOpens b nonce k with
    | none => (s.ephGone c).secEnd 3
    | some key => ((s.ephGone c).keyStored (leAt b 78 1) key (BitVec.ofNat 64 (2 ^ 63 + c * 2 ^ 32 + leAt b 80 4))).secEnd 0

theorem State.secImport_some {c k : Nat} {nonce : List Byte} (hc : c = leAt (s.latchBytes rImport 17) 76 2 % 1024)
    (h : tget (fun _ => none) s.sec.eph c = some (k, nonce)) : s.secImport = s.importWith c k nonce := by
  unfold State.secImport
  dsimp only
  rw [← hc, h]
  rfl

theorem State.secImport_none (h : tget (fun _ => none) s.sec.eph (leAt (s.latchBytes rImport 17) 76 2 % 1024) = none) :
    s.secImport = s.secEnd (if s.cohortState (leAt (s.latchBytes rImport 17) 76 2 % 1024) ≠ 1 then 5 else 2) := by
  unfold State.secImport
  dsimp only
  rw [h]

theorem State.gateway_ephGone (c : Nat) : (s.ephGone c).behindGateway = s.behindGateway := rfl

theorem State.eph_ephGone (c : Nat) : tget (fun _ => none) (s.ephGone c).sec.eph c = none := (tget_tput _ _ _ _ _).trans (if_pos rfl)

theorem State.keyStored_facts (s : State) {slot : Nat} (h : slot < 256) (key : List Byte) (w : Word) :
    (s.keyStored slot key w).behindGateway = s.behindGateway ∧ (s.keyStored slot key w).sec.eph = s.sec.eph ∧
    tget (fun _ => []) (s.keyStored slot key w).sec.keys slot = key ∧ (s.keyStored slot key w).reg (rLocker + 8 * slot) = w := by
  let u : State := { s with sec := { s.sec with keys := tput (fun _ => []) s.sec.keys slot key } }
  have regs {a : Nat} (ha : a ≠ rLocker + 8 * slot) : (s.keyStored slot key w).reg a = s.reg a := State.reg_setReg_ne u _ _ _ ha
  refine ⟨State.behindGateway_congr rfl (regs ?_) (regs ?_), rfl, (tget_tput _ _ _ _ _).trans (if_pos rfl), (State.reg_setReg u _ _ _).trans (if_pos rfl)⟩
  · simp only [rGwNode, rLocker]
    omega
  · simp only [rGlbNode, rLocker]
    omega

theorem State.clearSlot_facts (s : State) (slot : Nat) : (s.clearSlot slot).reg (rLocker + 8 * slot) = 0 ∧
    tget (fun _ => []) (s.clearSlot slot).sec.keys slot = [] ∧ OnlyRegs s { s.clearSlot slot with sec := s.sec } [rLocker + 8 * slot] := by
  obtain ⟨rest, regs⟩ := s.onlyRegs_setReg (rLocker + 8 * slot) 0 [rLocker + 8 * slot] (by simp)
  exact ⟨(State.reg_setReg s _ _ _).trans (if_pos rfl), (tget_tput _ _ _ _ _).trans (if_pos rfl), rest, regs⟩

/-! ### Sealed regions -/

/-- Entry `i` describes a region that is to be zeroed. -/
def State.sealedAs (s : State) (i : Nat) (base len : Word) (cohort slot : Nat) : State :=
  ((s.setReg (rSeal + 32 * i) base).setReg (rSeal + 32 * i + 8) len).setReg (rSeal + 32 * i + 16) (BitVec.ofNat 64 (cohort + slot * 2 ^ 16 + 2 ^ 24))

theorem fget_seal {cohort slot : Nat} (hc : cohort < 2 ^ 10) (hs : slot < 2 ^ 8) : fget (BitVec.ofNat 64 (cohort + slot * 2 ^ 16 + 2 ^ 24)) 0 10 = cohort ∧
    fget (BitVec.ofNat 64 (cohort + slot * 2 ^ 16 + 2 ^ 24)) 16 8 = slot ∧ fget (BitVec.ofNat 64 (cohort + slot * 2 ^ 16 + 2 ^ 24)) 24 2 = 1 := by
  simp only [fget, BitVec.toNat_ofNat]
  omega

theorem State.sealEntry_of_regs {i : Nat} {base len w : Word} (h0 : s.reg (rSeal + 32 * i) = base) (h1 : s.reg (rSeal + 32 * i + 8) = len)
    (h2 : s.reg (rSeal + 32 * i + 16) = w) : s.sealEntry i = (base.toNat, len.toNat, fget w 0 10, fget w 16 8, fget w 24 2) := by
  rw [State.sealEntry, h0, h1, h2]

theorem State.sealedAs_facts {i : Nat} (hi : i < 64) (base len : Word) {cohort slot : Nat} (hc : cohort < 2 ^ 10) (hs : slot < 2 ^ 8) :
    (s.sealedAs i base len cohort slot).sealEntry i = (base.toNat, len.toNat, cohort, slot, 1) ∧
    (∀ a, a < rSeal ∨ rSeal + 0x800 ≤ a → (s.sealedAs i base len cohort slot).reg a = s.reg a) ∧ { s.sealedAs i base len cohort slot with regs := s.regs } = s := by
  obtain ⟨hcohort, hslot, hstate⟩ := fget_seal hc hs
  refine ⟨?_, fun a ha => ?_, rfl⟩
  · have r0 : (s.sealedAs i base len cohort slot).reg (rSeal + 32 * i) = base := by
      rw [State.sealedAs, State.reg_setReg_ne _ _ _ _ (by omega), State.reg_setReg_ne _ _ _ _ (by omega), State.reg_setReg, if_pos rfl]
    have r1 : (s.sealedAs i base len cohort slot).reg (rSeal + 32 * i + 8) = len := by
      rw [State.sealedAs, State.reg_setReg_ne _ _ _ _ (by omega), State.reg_setReg, if_pos rfl]
    have r2 : (s.sealedAs i base len cohort slot).reg (rSeal + 32 * i + 16) = BitVec.ofNat 64 (cohort + slot * 2 ^ 16 + 2 ^ 24) := by
      rw [State.sealedAs, State.reg_setReg, if_pos rfl]
    rw [State.sealEntry_of_regs r0 r1 r2, hcohort, hslot, hstate]
  · rw [State.sealedAs, State.reg_setReg_ne _ _ _ _ (by omega), State.reg_setReg_ne _ _ _ _ (by omega), State.reg_setReg_ne _ _ _ _ (by omega)]

theorem State.recallRange_none (h : s.coh.dir = []) (a n : Nat) : s.recallRange a n = s := by
  rw [State.recallRange, h]
  rfl

theorem State.sealEntry_state (i : Nat) : (s.sealEntry i).2.2.2.2 = s.regF (rSeal + 32 * i + 16) 24 2 := rfl

/-! ### Teardown -/

/-- The node of the gateway and of the module, and the host's side, stand as before. -/
def SamePlace (s t : State) : Prop := t.host = s.host ∧ t.sec = s.sec ∧ t.reg rGwNode = s.reg rGwNode ∧ t.reg rGlbNode = s.reg rGlbNode

theorem SamePlace.trans {u : State} (h : SamePlace s t) (g : SamePlace t u) : SamePlace s u := by
  obtain ⟨h1, h2, h3, h4⟩ := h
  obtain ⟨g1, g2, g3, g4⟩ := g
  exact ⟨g1.trans h1, g2.trans h2, g3.trans h3, g4.trans h4⟩

theorem SamePlace.gateway (h : SamePlace s t) : t.behindGateway = s.behindGateway := by
  obtain ⟨host, -, gw, node⟩ := h
  exact State.behindGateway_congr (congrArg HostSt.member host) gw node

theorem SamePlace.of_regs (rest : { t with regs := s.regs } = s) (hg : t.reg rGwNode = s.reg rGwNode) (hn : t.reg rGlbNode = s.reg rGlbNode) :
    SamePlace s t := ⟨(congrArg State.host rest :), (congrArg State.sec rest :), hg, hn⟩

theorem State.mem_of_regs (rest : { t with regs := s.regs } = s) : t.mem = s.mem := (congrArg State.mem rest :)

theorem SamePlace.setReg {a : Nat} (h : SamePlace s t) (v : Word) (hg : rGwNode ≠ a) (hn : rGlbNode ≠ a) : SamePlace s (t.setReg a v) := by
  obtain ⟨host, sec, gw, node⟩ := h
  exact ⟨host, sec, (State.reg_setReg_ne _ _ _ _ hg).trans gw, (State.reg_setReg_ne _ _ _ _ hn).trans node⟩

theorem cohortAt_ne_secStatus {c : Nat} (h : c < 2 ^ 10) : cohortAt c + 24 ≠ rSecStatus := by
  simp only [cohortAt, rCohort, rSecStatus]
  omega

/-- With no page that holds a timetable, no page names the cohort. -/
theorem State.teardown_unnamed (h : ∀ p : Fin 2, s.bell.pages[p].tt = none) (c : Nat) : s.teardown c =
    if s.cohortState c ≠ 1 then s.secEnd 5
    else
      let t := (s.setRegF (cohortAt c + 24) 12 3 2).setRegBit rSecStatus 8 true
      { t with sec := { t.sec with
          torn := c :: t.sec.torn.filter (· ≠ c)
          tears := t.sec.tears ++ [({ cohort := c, start := t.lesson, nonce := t.latchBytes rNonce 4, listed := t.scrubListed 64 0, scrub := false,
                                      areas := [], sealed := 0, local_ := 0, slots := 0 } : Tear)] } } := by
  have h0 : s.bell.pages[(0 : Nat)].tt = none := h 0
  have h1 : s.bell.pages[(1 : Nat)].tt = none := h 1
  unfold State.teardown
  rw [if_neg (by simp [h0, h1])]

/-- The state of a cohort whose teardown has begun. -/
def State.tearMark (s : State) (c : Nat) : State := (s.setRegF (cohortAt c + 24) 12 3 2).setRegBit rSecStatus 8 true

def State.tearing (s : State) (c : Nat) : State :=
  { s.tearMark c with sec := { s.sec with
      torn := c :: s.sec.torn.filter (· ≠ c)
      tears := s.sec.tears ++ [({ cohort := c, start := (s.tearMark c).lesson, nonce := s.latchBytes rNonce 4, listed := (s.tearMark c).scrubListed 64 0,
                                  scrub := false, areas := [], sealed := 0, local_ := 0, slots := 0 } : Tear)] } }

theorem State.tearing_facts {c : Nat} (h : c < 2 ^ 10) : (s.tearing c).cohortState c = 2 ∧ (s.tearing c).regBit rSecStatus 8 = true ∧
    c ∈ (s.tearing c).sec.torn ∧ (∃ x ∈ (s.tearing c).sec.tears, x.cohort = c ∧ x.start = s.lesson ∧ x.nonce = s.latchBytes rNonce 4) ∧
    { s.tearing c with regs := s.regs, sec := s.sec } = s := by
  have regs (a : Nat) : (s.tearing c).reg a = (s.tearMark c).reg a := rfl
  have lesson : (s.tearMark c).lesson = s.lesson := by
    refine (State.reg_setRegBit_ne _ _ _ _ _ (by decide)).trans (State.reg_setRegF_ne _ _ _ _ _ _ ?_)
    simp only [cohortAt, rCohort, rLesson]
    omega
  refine ⟨?_, (State.regBit_congr (regs _) 8).trans (State.regBit_setRegBit _ _ _ _ (by decide)), List.mem_cons_self,
    ⟨_, List.mem_append_right _ List.mem_cons_self, rfl, lesson, rfl⟩, rfl⟩
  refine (State.regF_congr (regs _) 12 3).trans ((State.regF_congr (State.reg_setRegBit_ne _ _ _ _ _ (cohortAt_ne_secStatus h)) 12 3).trans ?_)
  exact State.regF_setRegF _ _ _ _ 2 (by decide)

/-- A heal touches the registers of its channel, and the lines in error. -/
theorem State.heal_facts (l : Nat) : (∀ a, a < rChan ∨ rChan + 0x40000 ≤ a → (s.heal l).reg a = s.reg a) ∧ (s.heal l).host = s.host ∧ (s.heal l).sec = s.sec := by
  have chan : channelOf (64 * l) < 64 := BitVec.isLt _
  unfold State.heal
  dsimp only
  split
  · split
    · next i hi =>
      have small := List.mem_range.mp (List.mem_of_find?_eq_some hi)
      refine ⟨fun a ha => ?_, rfl, rfl⟩
      refine (State.reg_setRegF_ne _ _ _ _ _ _ ?_).trans (State.reg_setReg_ne _ _ _ _ ?_)
      · rw [chReg]
        omega
      · rw [errEntry, chReg]
        omega
    · exact ⟨fun _ _ => rfl, rfl, rfl⟩
  · exact ⟨fun _ _ => rfl, rfl, rfl⟩

theorem State.samePlace_scrubRange (a n : Nat) : SamePlace s (s.scrubRange a n) := by
  refine State.forAll_induct (P := fun u => SamePlace s u) ⟨rfl, rfl, rfl, rfl⟩ fun u l hu => hu.trans ?_
  obtain ⟨regs, host, sec⟩ := State.heal_facts (s := u) l
  exact ⟨host, sec, regs _ (by decide), regs _ (by decide)⟩

/-- The teardown of cohort `c` is no longer in progress, and its areas are zero. -/
def State.tornZero (s : State) (c : Nat) (x : Tear) : State :=
  State.forAll { s with sec := { s.sec with tears := s.sec.tears.filter (fun y => y.cohort ≠ c) } } x.areas (fun s r => s.scrubRange r.1 r.2)

theorem State.byte_tornZero (c : Nat) (x : Tear) {r : Nat × Nat} (hr : r ∈ x.areas) {a : Nat} (h : r.1 ≤ a ∧ a < r.1 + r.2) : (s.tornZero c x).byte a = 0 := by
  refine State.forAll_of_mem (P := fun u => u.byte a = 0) (Q := fun _ => True) _ hr trivial (fun _ _ _ _ => trivial) (fun u _ => ?_) fun u y _ _ hu _ => ?_
  · rw [State.byte_scrubRange, if_pos h]
  · rw [State.byte_scrubRange, hu, ite_self]

/-- Nothing but registers, and none of the module's place among them. -/
def PlainRegs (s t : State) : Prop := SamePlace s t ∧ t.mem = s.mem

theorem PlainRegs.setReg {a : Nat} (h : PlainRegs s t) (v : Word) (hg : rGwNode ≠ a) (hn : rGlbNode ≠ a) : PlainRegs s (t.setReg a v) :=
  ⟨h.1.setReg v hg hn, h.2⟩

/-- The seal entries and Classroom ranges of the cohort are free. -/
def State.tornFree (s : State) (c : Nat) : State :=
  let u := s.forAll ((List.range 64).filter (fun i => (s.sealEntry i).2.2.2.2 = 3 && (s.sealEntry i).2.2.1 = c)) (fun s i => s.setSeal i 0)
  u.forAll u.touchedRooms (fun s r => s.forAll (List.range 4) (fun s k =>
    let a := roomReg r crBbOwner + 8 * k
    if (s.reg a).getLsbD 63 ∧ fget (s.reg a) 48 10 = c then s.setReg a 0 else s))

theorem State.tornFree_plain (c : Nat) : PlainRegs s (s.tornFree c) := by
  refine State.forAll_induct (P := fun u => PlainRegs s u) ?_ fun u room hu => ?_
  · refine State.forAll_mem_induct (P := fun u => PlainRegs s u) ⟨⟨rfl, rfl, rfl, rfl⟩, rfl⟩ fun u i hi hu => ?_
    have small := List.mem_range.mp (List.mem_of_mem_filter hi)
    refine hu.setReg _ ?_ ?_
    · simp only [rGwNode, rSeal]
      omega
    · simp only [rGlbNode, rSeal]
      omega
  · refine State.forAll_induct (P := fun u => PlainRegs s u) hu fun u k hu => ?_
    dsimp only
    split
    · refine hu.setReg _ ?_ ?_
      · simp only [roomReg, crReg, rWingBlock, rGwNode]
        omega
      · simp only [roomReg, crReg, rWingBlock, rGlbNode]
        omega
    · exact hu

/-- What a teardown leaves once its report is written. -/
theorem State.tornReport_facts (s : State) {c : Nat} (h : c < 2 ^ 10) (x : Tear) (body : List Byte) :
    let t := (((s.tornZero c x).tornFree c).setRegF (cohortAt c + 24) 12 3 0).putRegs rScrubReport 20 body
    t.cohortState c = 0 ∧ t.sec.tears = s.sec.tears.filter (fun y => y.cohort ≠ c) ∧ t.mem = (s.tornZero c x).mem ∧ t.behindGateway = s.behindGateway := by
  have zeroed : SamePlace { s with sec := { s.sec with tears := s.sec.tears.filter (fun y => y.cohort ≠ c) } } (s.tornZero c x) :=
    State.forAll_induct (P := fun u => SamePlace { s with sec := { s.sec with tears := s.sec.tears.filter (fun y => y.cohort ≠ c) } } u)
      ⟨rfl, rfl, rfl, rfl⟩ fun u r hu => hu.trans (State.samePlace_scrubRange _ _)
  obtain ⟨freePlace, freeMem⟩ := (s.tornZero c x).tornFree_plain c
  generalize s.tornZero c x = a at *
  generalize a.tornFree c = b at *
  have gwNode : rGwNode ≠ cohortAt c + 24 := by
    simp only [cohortAt, rCohort, rGwNode]
    omega
  have glbNode : rGlbNode ≠ cohortAt c + 24 := by
    simp only [cohortAt, rCohort, rGlbNode]
    omega
  have marked : SamePlace b (b.setRegF (cohortAt c + 24) 12 3 0) := SamePlace.setReg ⟨rfl, rfl, rfl, rfl⟩ _ gwNode glbNode
  have state : (b.setRegF (cohortAt c + 24) 12 3 0).cohortState c = 0 := State.regF_setRegF _ _ _ _ 0 (by decide)
  have markedMem : (b.setRegF (cohortAt c + 24) 12 3 0).mem = b.mem := rfl
  generalize b.setRegF (cohortAt c + 24) 12 3 0 = d at *
  have rest : { d.putRegs rScrubReport 20 body with regs := d.regs } = d := State.rest_putRegs _ _ _
  have place := (zeroed.trans freePlace).trans marked
  have whole : SamePlace d (d.putRegs rScrubReport 20 body) := by
    refine SamePlace.of_regs rest (State.reg_putRegs_ne _ fun i hi => ?_) (State.reg_putRegs_ne _ fun i hi => ?_)
    · simp only [rScrubReport, rGwNode]
      omega
    · simp only [rScrubReport, rGlbNode]
      omega
  intro t
  refine ⟨?_, ?_, ?_, (place.trans whole).gateway⟩
  · refine (State.regF_congr (State.reg_putRegs_ne _ fun i hi => ?_) 12 3).trans state
    simp only [rScrubReport, cohortAt, rCohort]
    omega
  · obtain ⟨-, sec, -, -⟩ := place.trans whole
    exact congrArg Sec.tears sec
  · exact (State.mem_of_regs rest).trans (markedMem.trans freeMem)

theorem State.teardownDone_eq {c : Nat} {x : Tear} (h : s.sec.tears.find? (fun t => t.cohort = c && t.scrub) = some x) (b : Bool) :
    ∃ body, s.teardownDone c b = ((((s.tornZero c x).tornFree c).setRegF (cohortAt c + 24) 12 3 0).putRegs rScrubReport 20 body).secEnd 0 := by
  unfold State.teardownDone
  rw [h]
  exact ⟨_, rfl⟩

end

/-- Settles O45: attestation, the Locker, sealed regions and teardown, row by row. -/
theorem securityServices : Obligations.SecurityServices := by
  unfold Obligations.SecurityServices
  intro waits ends eph up loud
  have quiet {s t : State} {code : Nat} (h : SecEnded s t code) : OnlyRegs s (loud s t) [rSecStatus] :=
    ⟨h.rest, fun a ha => h.regs a (by simpa using ha)⟩
  have ended {u t : State} {code : Nat} (h : SecEnded u t code) : ends code t := ⟨h.code, h.idle⟩
  refine ⟨fun v => ⟨fun s h => ⟨_, rfl, State.viaPrincipal_absent h _ _⟩, fun s h => ⟨_, rfl, State.viaPrincipal_absent h _ _⟩,
    fun s h => ⟨_, rfl, State.viaPrincipal_absent h _ _⟩⟩, fun s h => ⟨_, rfl, State.viaPrincipal_absent h _ _⟩,
    fun i a n c k s h => ⟨_, rfl, State.viaPrincipal_absent h _ _⟩, fun v s ⟨hr, hgw⟩ hc => ?_, fun v s ⟨hr, hgw⟩ hc => ?_, fun s h => ?_,
    fun c n s h hgw => ?_, fun c s => ?_, fun s ⟨hr, hgw⟩ h => ?_, fun c k nonce s ⟨hr, hgw⟩ hc h => ?_, fun v s hr => ?_, fun i a n c k s hr h => ?_,
    fun i a n c k s ⟨hr, hgw⟩ h ho => ?_, fun i a n c k s ⟨hr, hgw⟩ h ho hov htt hle hn ha hl hc hd => ?_, fun i s h => ?_, fun i s h => ?_,
    fun v s ⟨hr, hgw⟩ hp hc => ?_, fun v s ⟨hr, hgw⟩ hp hc => ?_, fun c b s h => ?_, fun c b x s h0 h2 hgw h => ?_⟩
  · refine ⟨_, congrArg Host.Outcome.next ((State.viaPrincipal_present hr _ _).trans (if_neg (by rw [hc]; decide))), rfl,
      State.regBit_setRegBit _ _ _ _ (by decide), rfl⟩
  · have run : s.secAttest (fget v 0 10) = s.secEnd 5 := if_pos hc
    have done := State.secEnd_ended (s := s) (code := 5) (by decide) hgw
    refine ⟨_, congrArg Host.Outcome.next ((State.viaPrincipal_present hr _ _).trans run), ended done, quiet done, fun h0 => State.out_secEnd (by decide) hgw h0⟩
  · refine congrArg Host.Outcome.next ?_
    rw [State.reportReady, h]
  · obtain ⟨body, e⟩ := State.reportReady_eq h
    have gw : ((s.attested c n).putRegs rReport 57 body).behindGateway = false := (State.gateway_putRegs body (by decide) (by decide)).trans hgw
    have done := State.secEnd_ended (code := 0) (by decide) gw
    have rest : { (s.attested c n).putRegs rReport 57 body with regs := (s.attested c n).regs } = s.attested c n := State.rest_putRegs _ _ _
    obtain ⟨none0, pairs0, key0, rest0⟩ := s.attested_facts c n
    refine ⟨_, congrArg Host.Outcome.next e, ?_⟩
    generalize s.attested c n = v at *
    generalize v.putRegs rReport 57 body = u at *
    have secs : (u.secEnd 0).sec = v.sec := done.sec.trans (congrArg State.sec rest :)
    have rest' : { u with regs := s.regs, sec := s.sec } = s := (congrArg (fun x : State => { x with regs := s.regs, sec := s.sec }) rest :).trans rest0
    refine ⟨(congrArg Sec.attest secs).trans none0, ?_, (congrArg Sec.pairs secs).trans pairs0, ended done, Loud.withSec rest' done.rest⟩
    exact (congrArg (fun x : Sec => tget (fun _ => none) x.eph c.toNat) secs).trans key0
  · refine ⟨_, rfl, ?_, fun d hd => ?_, rfl⟩
    · exact (tget_tput _ _ _ _ _).trans (if_pos rfl)
    · exact (tget_tput _ _ _ _ _).trans (if_neg fun e => hd (BitVec.eq_of_toNat_eq e.symm))
  · have key : tget (fun _ => none) s.sec.eph (leAt (s.latchBytes rImport 17) 76 2 % 1024) = none := by
      have small : leAt (s.latchBytes rImport 17) 76 2 % 1024 < 2 ^ 10 := Nat.mod_lt _ (by decide)
      have at' := h
      dsimp only [eph] at at'
      rwa [BitVec.toNat_ofNat, Nat.mod_eq_of_lt small] at at'
    have done := State.secEnd_ended (s := s) (code := if s.cohortState (leAt (s.latchBytes rImport 17) 76 2 % 1024) ≠ 1 then 5 else 2)
      (by split <;> decide) hgw
    exact ⟨_, congrArg Host.Outcome.next ((State.viaPrincipal_present hr _ _).trans (State.secImport_none key)), ended done, done.sec⟩
  · have run : exec .secImportGo s = .next (s.importWith c.toNat k nonce) :=
      congrArg Host.Outcome.next ((State.viaPrincipal_present hr .importGo State.secImport).trans (State.secImport_some hc h))
    have gone {code : Nat} (hcode : code < 16) := State.secEnd_ended (s := s.ephGone c.toNat) (code := code) hcode hgw
    have nokey {t u : State} {code : Nat} (d : SecEnded u t code) (hu : tget (fun _ => none) u.sec.eph c.toNat = none) : eph t c = none := by
      dsimp only [eph]
      rw [d.sec, hu]
    by_cases state : s.cohortState c.toNat ≠ 1
    · have done := gone (code := 5) (by decide)
      refine ⟨_, run.trans (congrArg Host.Outcome.next (if_pos state)), nokey done (State.eph_ephGone _), ?_⟩
      exact (if_pos state).mpr (ended done)
    · by_cases used : (s.reg (rLocker + 8 * leAt (s.latchBytes rImport 17) 78 1)).getLsbD 63 = true
      · have done := gone (code := 4) (by decide)
        refine ⟨_, run.trans (congrArg Host.Outcome.next ((if_neg state).trans (if_pos used))), nokey done (State.eph_ephGone _), ?_⟩
        exact (if_neg state).mpr ((if_pos used).mpr (ended done))
      · have free := run.trans (congrArg Host.Outcome.next ((if_neg state).trans (if_neg used)))
        refine ⟨_, free, ?_⟩
        have slot : leAt (s.latchBytes rImport 17) 78 1 < 256 := leAt_lt _ _ _
        cases opened : importOpens (s.latchBytes rImport 17) nonce k with
        | none =>
          have done := gone (code := 3) (by decide)
          refine ⟨nokey done (State.eph_ephGone _), ?_⟩
          refine (if_neg state).mpr ((if_neg used).mpr ⟨none, opened.symm, fun _ => ended done, fun key e => absurd e (by simp)⟩)
        | some key =>
          obtain ⟨gw, lost, stored, word⟩ := (s.ephGone c.toNat).keyStored_facts slot key
            (BitVec.ofNat 64 (2 ^ 63 + c.toNat * 2 ^ 32 + leAt (s.latchBytes rImport 17) 80 4))
          have done := State.secEnd_ended (code := 0) (by decide) (gw.trans hgw)
          have bit := locker_used c.toNat _ c.isLt (leAt_lt (s.latchBytes rImport 17) 80 4)
          refine ⟨nokey done ((congrArg (tget (fun _ => none) · c.toNat) lost).trans (State.eph_ephGone _)), ?_⟩
          refine (if_neg state).mpr ((if_neg used).mpr ⟨some key, opened.symm, fun e => absurd e (by simp), fun key' e => ?_⟩)
          cases e
          refine ⟨ended done, ?_, ?_⟩
          · rw [done.sec]
            exact stored
          · rw [done.regs _ (by simp only [rLocker, rSecStatus]; omega), word]
            exact bit
  · have run : s.viaPrincipal (.lockerClear (fget v 0 8)) (fun s => s.clearSlot (fget v 0 8)) = s.clearSlot (fget v 0 8) := State.viaPrincipal_present hr _ _
    refine ⟨_, congrArg Host.Outcome.next run, s.clearSlot_facts (fget v 0 8)⟩
  · refine congrArg Host.Outcome.next ((State.viaPrincipal_present hr _ _).trans (if_pos h))
  · have run : s.sealCreate i.val a n c.toNat k.toNat = s.secEnd 6 := by
      unfold State.sealCreate
      dsimp only
      rw [if_neg (by rw [h]; decide), if_pos (by simp [Option.isSome_iff_ne_none.mpr ho])]
    have done := State.secEnd_ended (s := s) (code := 6) (by decide) hgw
    exact ⟨_, congrArg Host.Outcome.next ((State.viaPrincipal_present hr _ _).trans run), ended done, quiet done⟩
  · obtain ⟨entry, regs, rest⟩ := State.sealedAs_facts (s := s) i.isLt a n (cohort := c.toNat) (slot := k.toNat) c.isLt k.isLt
    have n0 : n.toNat ≠ 0 := fun e => hn (BitVec.eq_of_toNat_eq e)
    have run : s.sealCreate i.val a n c.toNat k.toNat = ((s.sealedAs i.val a n c.toNat k.toNat).recallRange a.toNat n.toNat).secEnd 0 := by
      unfold State.sealCreate
      dsimp only
      rw [if_neg (by rw [h]; decide), if_neg (by simp [ho, hov, htt]), if_neg (by simp [n0, hc]; omega)]
      rfl
    have dir : (s.sealedAs i.val a n c.toNat k.toNat).coh.dir = [] := (congrArg (fun x : State => x.coh.dir) rest :).trans hd
    have host : (s.sealedAs i.val a n c.toNat k.toNat).host = s.host := (congrArg State.host rest :)
    rw [State.recallRange_none dir] at run
    generalize s.sealedAs i.val a n c.toNat k.toNat = u at *
    have gw : u.behindGateway = false :=
      (State.behindGateway_congr (congrArg HostSt.member host) (regs rGwNode (by decide)) (regs rGlbNode (by decide))).trans hgw
    have done := State.secEnd_ended (s := u) (code := 0) (by decide) gw
    have last : Loud s (u.secEnd 0) := Loud.trans (s := s) (t := u) (by rw [Loud, ← rest]) done.rest
    refine ⟨_, congrArg Host.Outcome.next ((State.viaPrincipal_present hr _ _).trans run), ended done, ?_, ?_, last⟩
    · refine (State.sealEntry_of_regs (done.regs _ ?_) (done.regs _ ?_) (done.regs _ ?_)).trans entry
      · simp only [rSeal, rSecStatus]
        omega
      · simp only [rSeal, rSecStatus]
        omega
      · simp only [rSeal, rSecStatus]
        omega
    · exact fun x => congrArg (tget memDefault · x) (done.mem.trans (congrArg State.mem rest :))
  · exact congrArg Host.Outcome.next (if_neg h)
  · have run : s.sealZeroed i.val = (s.scrubRange (s.sealEntry i.val).1 (s.sealEntry i.val).2.1).setSeal i.val 2 := if_pos h
    refine ⟨_, congrArg Host.Outcome.next run, ?_, fun x lo hi => ?_, fun x hx => ?_⟩
    · exact State.regF_setRegF _ _ _ _ 2 (by decide)
    · exact (State.byte_scrubRange _ _ x).trans (if_pos ⟨lo, hi⟩)
    · exact (State.byte_scrubRange _ _ x).trans (if_neg (by omega))
  · have run : s.teardown (fget v 0 10) = s.secEnd 5 := (State.teardown_unnamed hp _).trans (if_pos hc)
    have done := State.secEnd_ended (s := s) (code := 5) (by decide) hgw
    exact ⟨_, congrArg Host.Outcome.next ((State.viaPrincipal_present hr _ _).trans run), ended done, quiet done⟩
  · have run : s.teardown (fget v 0 10) = s.tearing (fget v 0 10) := (State.teardown_unnamed hp _).trans (if_neg (by rw [hc]; decide))
    have small : fget v 0 10 < 2 ^ 10 := Nat.mod_lt _ (by decide)
    exact ⟨_, congrArg Host.Outcome.next ((State.viaPrincipal_present hr _ _).trans run), s.tearing_facts small⟩
  · refine congrArg Host.Outcome.next ?_
    obtain h | h | h := h
    · exact if_pos (by rw [h]; rfl)
    · exact if_pos (by rw [h, Bool.or_true])
    · split
      · rfl
      · have none' : s.sec.tears.find? (fun t => t.cohort = c.toNat && t.scrub) = none := by
          refine List.find?_eq_none.mpr fun x hx => ?_
          by_cases same : x.cohort = c.toNat
          · simp [h x hx same]
          · simp [same]
        rw [State.teardownDone, none']
  · have idle : ¬ (s.fenced 0 || s.fenced 2) = true := by rw [h0, h2]; decide
    obtain ⟨body, e⟩ := State.teardownDone_eq h b
    obtain ⟨state, sec, mem, gw⟩ := s.tornReport_facts c.isLt x body
    have done := State.secEnd_ended (code := 0) (by decide) (gw.trans hgw)
    refine ⟨_, congrArg Host.Outcome.next ((if_neg idle).trans e), ended done, ?_, fun y hy => ?_, fun r hr a lo hi => ?_⟩
    · exact (State.regF_congr (done.regs _ (cohortAt_ne_secStatus c.isLt)) 12 3).trans state
    · rw [done.sec, sec] at hy
      simpa using (List.mem_filter.mp hy).2
    · exact (congrArg (tget memDefault · a) (done.mem.trans mem)).trans (State.byte_tornZero c.toNat x hr ⟨lo, hi⟩)

end Sys2Proof.Machine
end

section
/-! SUPPORT. The opportunities of a Centroid output: one cell sent, and the quota arbiter. -/

namespace Sys2Proof.Machine

section
variable {s : State} {q : QFrame}

/-- The queue, the credits, the optical ports and memory, which taking a cell from its buffer leaves. -/
structure CellsKept (s t : State) : Prop where
  voq : t.fab.voq = s.fab.voq
  entry : t.fab.entry = s.fab.entry
  opts : t.opts = s.opts
  mem : t.mem = s.mem

theorem CellsKept.trans {t u : State} (h : CellsKept s t) (k : CellsKept t u) : CellsKept s u :=
  ⟨k.voq.trans h.voq, k.entry.trans h.entry, k.opts.trans h.opts, k.mem.trans h.mem⟩

/-- The state in which a frame whose first cell goes has taken its credits (R182). -/
def State.payCell (s : State) (q : QFrame) : State :=
  if q.sent = 0 ∧ q.out < 128 then s.setCredit q.out (s.creditVc q.out q.vc) (s.credit q.out (s.creditVc q.out q.vc) - q.cells) else s

/-- The state in which a frame whose first cell goes has been counted in its queue (R233). -/
def State.countCell (s : State) (q : QFrame) : State :=
  if q.sent = 0 ∧ q.vc ≠ 0 then
    (s.addReg (swReg q.out swQueueSclk) ((s.now - q.since) / 2)).count (swReg q.out swQueueFrames) else s

/-- The state in which the buffer that the cell leaves has given back its credit (R182, R219). -/
def State.freeCell (s : State) (q : QFrame) : State :=
  if q.place = .minimum ∨ q.place = .waitOverflow then s.returnCredit q.inp q.vc 1 else s

/-- Sending a cell pays and counts it, frees its buffer, and then ends or goes on with its frame. -/
theorem State.sendCell_eq (s : State) (q : QFrame) : s.sendCell q =
    if q.sent + 1 = q.cells then
      ((((s.payCell q).countCell q).freeCell q).dequeue q.id).emit
        (if (((s.payCell q).countCell q).freeCell q).melium q.out then
          .tunnel q.out (q.f.route.toList.getD (q.f.hopPtr.toNat - 1) 0).toNat (if q.vc = 1 then 0 else 1) q.f
         else if q.out < 128 then .frame q.out q.f else .deliver (.port q.out) q.f)
    else { ((s.payCell q).countCell q).freeCell q with fab := { (((s.payCell q).countCell q).freeCell q).fab with
      voq := (((s.payCell q).countCell q).freeCell q).fab.voq.map (fun (x : QFrame) => if x.id = q.id then
        { x with sent := x.sent + 1, place := if x.place = .waitOverflow then .minimum else x.place } else x) } } := rfl

theorem State.payCell_kept (s : State) (q : QFrame) : CellsKept s (s.payCell q) := by
  unfold State.payCell
  split <;> exact ⟨rfl, rfl, rfl, rfl⟩

theorem State.countCell_kept (s : State) (q : QFrame) : CellsKept s (s.countCell q) := by
  unfold State.countCell
  split <;> exact ⟨rfl, rfl, rfl, rfl⟩

theorem State.countCell_fab (s : State) (q : QFrame) : (s.countCell q).fab = s.fab := by
  unfold State.countCell
  split <;> rfl

/-- Giving back a cell's credit is for the port that sent it: the DEP-7s and the outputs alone change. -/
theorem State.freeCell_only (s : State) (q : QFrame) : ∃ ds out, s.freeCell q = { s with deps := ds, out := out } := by
  unfold State.freeCell
  split
  · exact s.returnCredit_only ..
  · exact ⟨_, _, rfl⟩

theorem State.freeCell_kept (s : State) (q : QFrame) : CellsKept s (s.freeCell q) := by
  obtain ⟨ds, out, h⟩ := s.freeCell_only q
  rw [h]
  exact ⟨rfl, rfl, rfl, rfl⟩

/-- The state in which a cell has left and its frame still stands in its queue. -/
theorem State.cellLeft_kept (s : State) (q : QFrame) : CellsKept s (((s.payCell q).countCell q).freeCell q) :=
  ((s.payCell_kept q).trans (State.countCell_kept ..)).trans (State.freeCell_kept ..)

theorem State.melium_congr {s t : State} (h : t.opts = s.opts) (p : Nat) : t.melium p = s.melium p :=
  congrArg (fun o => 64 ≤ p && p < 128 && (tget optDefault o (p - 64)).melium) h

/-- Sending a cell does not touch memory. -/
theorem State.sendCell_mem (s : State) (q : QFrame) : (s.sendCell q).mem = s.mem := by
  rw [State.sendCell_eq]
  split <;> exact (s.cellLeft_kept q).mem

theorem State.sendCell_entry (s : State) (q : QFrame) : (s.sendCell q).fab.entry = s.fab.entry := by
  rw [State.sendCell_eq]
  split <;> exact (s.cellLeft_kept q).entry

/-- After its last cell no frame of this number is queued. -/
theorem State.sendCell_last_voq (hlast : q.sent + 1 = q.cells) : ∀ x ∈ (s.sendCell q).fab.voq, x.id ≠ q.id := by
  rw [State.sendCell_eq, if_pos hlast]
  intro x hx
  exact of_decide_eq_true (List.mem_filter.mp hx).2

/-- The last cell of a frame puts it on its output (R182). -/
theorem State.sendCell_last_out (hlast : q.sent + 1 = q.cells) (hm : s.melium q.out = false) :
    (s.sendCell q).out.head? = some (if q.out < 128 then .frame q.out q.f else .deliver (.port q.out) q.f) := by
  rw [State.sendCell_eq, if_pos hlast, State.melium_congr (s.cellLeft_kept q).opts, hm]
  rfl

/-- A frame's first cell takes the credits of all its cells (R182). -/
theorem State.sendCell_credit (hfirst : q.sent = 0) (hout : q.out < 128) (hm : s.melium q.out = false) :
    (s.sendCell q).credit q.out q.vc = s.credit q.out q.vc - q.cells := by
  have hvc : s.creditVc q.out q.vc = q.vc := by simp [State.creditVc, hm]
  have left : (((s.payCell q).countCell q).freeCell q).fab.credits = (s.payCell q).fab.credits := by
    obtain ⟨ds, out, h⟩ := ((s.payCell q).countCell q).freeCell_only q
    rw [h]
    exact congrArg Fab.credits (State.countCell_fab ..)
  have paid : (s.payCell q).credit q.out q.vc = s.credit q.out q.vc - q.cells := by
    rw [State.payCell, if_pos ⟨hfirst, hout⟩, hvc]
    exact (tget_tput ..).trans (if_pos rfl)
  have sent : (s.sendCell q).fab.credits = (s.payCell q).fab.credits := by
    rw [State.sendCell_eq]
    split <;> exact left
  exact (congrArg (fun c => tget (fun _ => 0) c (4 * q.out + q.vc)) sent).trans paid

/-- With nothing waiting at the internal ports, none enters. -/
theorem State.enter_eq_self (h : s.fab.entry = []) : s.enter = s := by
  simp [State.enter, h]

theorem State.outputGrant_of_vc0Control {o : Nat} (h : s.vc0Control o = some q) : s.opportunity o = (s.sendCell q).enter := by
  rw [State.opportunity, h]

theorem State.outputGrant_of_none {o : Nat} (h : s.vc0Control o = none) : s.opportunity o = (s.arbitrate o).enter := by
  rw [State.opportunity, h]

theorem State.reservedOutput_timed {o : Nat} (hc : s.vc0Control o = none) (ht : s.vc0Timed o = some q) :
    s.reservedOutput o = (s.sendCell q).enter := by
  rw [State.reservedOutput, hc, ht]

theorem State.reservedOutput_free {o : Nat} (h : (s.vc0Control o).isSome = true ∨ s.vc0Timed o = none) :
    s.reservedOutput o = s.opportunity o := by
  unfold State.reservedOutput
  split
  next hc ht => simp [hc, ht] at h
  next => rfl

end

/-! ### The quota arbiter (R234) -/

section
variable {n : Nat} {c : ArbCfg} {req high mid : Nat → Bool} {a : Arb}

theorem arbTake_owner (c : ArbCfg) (a : Arb) (g : Nat) : (arbTake c a g).owner = some g := by
  unfold arbTake
  split <;> rfl

theorem firstFrom_holds {start g : Nat} {p : Nat → Bool} (h : firstFrom n start p = some g) : p g = true :=
  List.find?_some h

theorem firstFrom_none (start : Nat) {p : Nat → Bool} (h : ∀ g, p g = false) : firstFrom n start p = none :=
  List.find?_eq_none.mpr fun g _ => by simp [h g]

/-- A grant to a new owner: the high requesters within their quota first, then any. -/
def arbFresh (n : Nat) (c : ArbCfg) (req high : Nat → Bool) (a : Arb) : Arb × Option Nat :=
  match (if a.used < c.quota then firstFrom n a.hptr (fun r => req r && high r) else none) with
  | some g => (arbTake c { a with owner := none, hptr := (g + 1) % n, used := a.used + 1 } g, some g)
  | none =>
    match firstFrom n a.eptr req with
    | some g => (arbTake c { a with owner := none, eptr := (g + 1) % n } g, some g)
    | none => ({ a with owner := none }, none)

theorem arbStep_none (h : a.owner = none) : arbStep n c req high mid a = arbFresh n c req high a := by
  unfold arbStep
  rw [h]
  rfl

theorem arbStep_owner {o : Nat} (h : a.owner = some o) : arbStep n c req high mid a =
    if req o && (decide (a.sent < c.burst) || mid o) then ({ a with sent := a.sent + 1 }, some o) else arbFresh n c req high a := by
  unfold arbStep
  rw [h]
  rfl

/-- The requester that a fresh grant goes to asks for it and is the owner. -/
theorem arbFresh_grant {g : Nat} (h : (arbFresh n c req high a).2 = some g) :
    req g = true ∧ (arbFresh n c req high a).1.owner = some g := by
  unfold arbFresh at h ⊢
  split at h
  next g' hh =>
    obtain rfl : g' = g := Option.some.inj h
    have hg : firstFrom n a.hptr (fun r => req r && high r) = some g' := by
      split at hh
      · exact hh
      · exact absurd hh (by simp)
    exact ⟨(Bool.and_eq_true_iff.mp (firstFrom_holds hg)).1, arbTake_owner ..⟩
  next =>
    split at h
    next g' hg =>
      obtain rfl : g' = g := Option.some.inj h
      exact ⟨firstFrom_holds hg, arbTake_owner ..⟩
    next => exact absurd h (by simp)

/-- The requester served asks for the opportunity and owns the output. -/
theorem arbStep_grant {g : Nat} (h : (arbStep n c req high mid a).2 = some g) :
    req g = true ∧ (arbStep n c req high mid a).1.owner = some g := by
  cases ho : a.owner with
  | none =>
    rw [arbStep_none ho] at h ⊢
    exact arbFresh_grant h
  | some o =>
    rw [arbStep_owner ho] at h ⊢
    by_cases hreq : (req o && (decide (a.sent < c.burst) || mid o)) = true
    · rw [if_pos hreq] at h ⊢
      obtain rfl : o = g := Option.some.inj h
      exact ⟨(Bool.and_eq_true_iff.mp hreq).1, ho⟩
    · rw [if_neg hreq] at h ⊢
      exact arbFresh_grant h

/-- With no requester nothing is granted. -/
theorem arbStep_idle (ho : a.owner = none) (h : ∀ g, req g = false) : (arbStep n c req high mid a).2 = none := by
  have hi : (if a.used < c.quota then firstFrom n a.hptr (fun r => req r && high r) else none) = none := by
    rw [firstFrom_none _ fun g => by simp [h g], ite_self]
  rw [arbStep_none ho, arbFresh, hi, firstFrom_none _ h]

end

/-- An output with an empty queue, owned by none, keeps its queues and its credits. -/
theorem State.arbitrate_idle {s : State} {o : Nat} (hq : s.fab.voq = []) (ho : (tget arbDefault s.fab.arb o).owner = none) :
    { s.arbitrate o with fab := s.fab } = s ∧ (s.arbitrate o).fab.voq = s.fab.voq ∧ (s.arbitrate o).fab.credits = s.fab.credits ∧
      (s.arbitrate o).fab.entry = s.fab.entry := by
  have none_heads (i v : Nat) : s.head i o v = none := by rw [State.head, hq]; rfl
  unfold State.arbitrate
  dsimp only
  rw [arbStep_idle ho fun g => by rw [none_heads]]
  exact ⟨rfl, rfl, rfl, rfl⟩

/-- Settles O22: a sendable VC0 control frame goes first, a reserved slot takes the timetabled frame, credit is taken with the first
cell and the frame is put on the output with the last. -/
theorem outputSlots : Obligations.OutputSlots := by
  unfold Obligations.OutputSlots
  refine ⟨fun o q s h => ?_, fun o s h => ?_, fun o s hq he ho => ?_, fun o q s h hlast hout hm he => ?_, fun o q s hc ht => ?_,
    fun o q s hc ht hlast hout he => ?_, fun o s h => ?_, fun w c b s => rfl, fun ch s => rfl, fun p s => rfl,
    fun s q h0 hout hm _ => ⟨State.sendCell_credit h0 hout hm, SameMemory.of_mem (s.sendCell_mem q)⟩,
    fun s q hlast => State.sendCell_last_voq hlast, fun n c req high mid a g => arbStep_grant, fun n c req high mid a o ho hr hm => ?_⟩
  · exact congrArg Host.Outcome.next (State.outputGrant_of_vc0Control h)
  · exact congrArg Host.Outcome.next (State.outputGrant_of_none h)
  · obtain ⟨hall, hvoq, hcred, hentry⟩ := State.arbitrate_idle hq ho
    have hc : s.vc0Control o.val = none := by rw [State.vc0Control, hq]; rfl
    have hstep : s.opportunity o.val = s.arbitrate o.val :=
      (State.outputGrant_of_none hc).trans (State.enter_eq_self (hentry.trans he))
    exact ⟨_, congrArg Host.Outcome.next hstep, hall, hvoq.trans hq, hcred⟩
  · have hstep : s.opportunity o.val = s.sendCell q :=
      (State.outputGrant_of_vc0Control h).trans (State.enter_eq_self ((s.sendCell_entry q).trans he))
    refine ⟨_, congrArg Host.Outcome.next hstep, ?_, State.sendCell_last_voq hlast, SameMemory.of_mem (s.sendCell_mem q)⟩
    rw [State.sendCell_last_out hlast hm, if_pos hout]
  · exact congrArg Host.Outcome.next (State.reservedOutput_timed hc ht)
  · have hm : s.melium q.out = false := by simp [State.melium, show ¬ q.out < 128 by omega]
    have hstep : s.reservedOutput o.val = s.sendCell q :=
      (State.reservedOutput_timed hc ht).trans (State.enter_eq_self ((s.sendCell_entry q).trans he))
    refine ⟨_, congrArg Host.Outcome.next hstep, ?_, State.sendCell_last_voq hlast, SameMemory.of_mem (s.sendCell_mem q)⟩
    rw [State.sendCell_last_out hlast hm, if_neg (by omega)]
  · exact congrArg Host.Outcome.next (State.reservedOutput_free h)
  · rw [arbStep_owner ho, if_pos (by simp [hr, hm])]

end Sys2Proof.Machine
end

section
/-! SUPPORT. Stream engines: what each stage of a transfer does. -/

namespace Sys2Proof.Machine

section
variable {s : State} {w e : Nat} {c : Xfer}

@[simp] theorem State.strm_setStrm (s : State) (w e : Nat) (x : Strm) : (s.setStrm w e x).strm w e = x :=
  (tget_tput ..).trans (if_pos rfl)

theorem State.setStrm_setStrm (s : State) (w e : Nat) (x y : Strm) : (s.setStrm w e x).setStrm w e y = s.setStrm w e y :=
  congrArg (fun l => { s with strms := l }) (tput_tput ..)

/-- Memory and the registers read as before. -/
structure EngineOnly (s t : State) : Prop where
  mem : t.mem = s.mem
  regs : t.regs = s.regs

theorem EngineOnly.sameMemory {t : State} (h : EngineOnly s t) : SameMemory s t := SameMemory.of_mem h.mem

theorem EngineOnly.sameRegs {t : State} (h : EngineOnly s t) : SameRegs s t := fun a => congrArg (fun l => tget regReset l a) h.regs

/-! ### An engine with no completion word to write -/

theorem State.endsGo_of_nil (h : (s.strm w e).ends = []) : s.endsGo w e = s := by
  rw [State.endsGo, h]
  rfl

theorem State.startXfer_busy (h : (s.strm w e).cur ≠ none ∨ s.streamsRun = false) : s.startXfer w e = s := by
  unfold State.startXfer
  dsimp only
  split
  next hc _ =>
    obtain h | h := h
    · exact absurd hc h
    · simp [h]
  next => rfl

/-- An engine that takes up a descriptor with no refusal and nothing to resume looks for its first tile's pages (R388). -/
theorem State.startXfer_fresh {d : StreamDesc} {n : Nat} {loose : Bool} {l : List (StreamDesc × Nat × Bool)}
    (hends : (s.strm w e).ends = []) (hcur : (s.strm w e).cur = none) (hq : (s.strm w e).queue = (d, n, loose) :: l)
    (hrun : s.streamsRun = true) (hres : descResume d = false) (hok : s.startRefusal d = none) :
    s.startXfer w e = (s.setStrm w e { s.strm w e with queue := l, cur := some (freshXfer d n loose) }).seek w e := by
  have hok' (x : Strm) : (s.setStrm w e x).startRefusal d = none := hok
  unfold State.startXfer
  dsimp only
  rw [hcur, hq]
  simp only [hrun, hends, hres, hok', State.strm_setStrm, State.setStrm_setStrm, Bool.not_true, List.isEmpty_nil, Bool.or_self,
    Bool.false_and, Bool.false_eq_true, ↓reduceIte]

/-! ### An idle engine -/

theorem State.seek_idle (h : (s.strm w e).cur = none) : s.seek w e = s := by
  simp [State.seek, h]

theorem State.beginTile_idle (h : (s.strm w e).cur = none) : s.beginTile w e = s := by
  simp [State.beginTile, h]

theorem State.sendTile_idle (h : (s.strm w e).cur = none) : s.sendTile w e = s := by
  simp [State.sendTile, h]

theorem State.tileDone_idle (h : (s.strm w e).cur = none) : s.tileDone w e = s := by
  simp [State.tileDone, h]

theorem State.parkXfer_idle (h : (s.strm w e).cur = none) : s.parkXfer w e = s := by
  simp [State.parkXfer, h]

/-! ### A transfer that waits for a walk -/

theorem State.seek_walking (h : (s.strm w e).cur = some c) (hw : c.walks ≠ []) : s.seek w e = s := by
  simp [State.seek, h, hw]

theorem State.beginTile_walking (h : (s.strm w e).cur = some c) (hw : c.walks ≠ []) : s.beginTile w e = s := by
  simp [State.beginTile, h, hw]

theorem State.sendTile_of_stage (h : (s.strm w e).cur = some c) (hs : c.stage ≠ .sending) : s.sendTile w e = s := by
  simp [State.sendTile, h, hs]

theorem State.tileDone_of_stage (h : (s.strm w e).cur = some c) (hs : c.stage ≠ .sending) : s.tileDone w e = s := by
  simp [State.tileDone, h, hs]

/-! ### Looking for a tile's pages -/

/-- Filling the maps changes the two maps alone, and each page adds at most one entry. -/
theorem State.fillMaps_only (s : State) (w : Nat) (c : Xfer) (l : List (Nat × Bool)) :
    ∃ sm dm, (s.fillMaps w c l).1 = { c with smap := sm, dmap := dm } ∧ sm.length ≤ c.smap.length + l.length ∧
      dm.length ≤ c.dmap.length + l.length := by
  induction l generalizing c with
  | nil => exact ⟨c.smap, c.dmap, rfl, Nat.le_refl _, Nat.le_refl _⟩
  | cons p r ih =>
    unfold State.fillMaps
    split
    · obtain ⟨sm, dm, h, h1, h2⟩ := ih c
      exact ⟨sm, dm, h, by simp only [List.length_cons]; omega, by simp only [List.length_cons]; omega⟩
    · split
      next t _ =>
        split
        · obtain ⟨sm, dm, h, h1, h2⟩ := ih { c with dmap := c.dmap ++ [t] }
          refine ⟨sm, dm, h, ?_, ?_⟩ <;> simp only [List.length_append, List.length_cons, List.length_nil] at h1 h2 ⊢ <;> omega
        · obtain ⟨sm, dm, h, h1, h2⟩ := ih { c with smap := c.smap ++ [t] }
          refine ⟨sm, dm, h, ?_, ?_⟩ <;> simp only [List.length_append, List.length_cons, List.length_nil] at h1 h2 ⊢ <;> omega
      next => exact ⟨c.smap, c.dmap, rfl, Nat.le_add_right .., Nat.le_add_right ..⟩

/-- A tile of at most 512 pages, outside STRICT, goes on in translation: its engine keeps its queue and its descriptor. -/
theorem State.seek_translates (h : (s.strm w e).cur = some c) (hst : c.stage = .translating) (hw : c.walks = [])
    (hsm : c.smap = []) (hdm : c.dmap = []) (hstrict : s.strict = false) (hn : (tilePages c.d c.tile).length ≤ 512) :
    ((s.seek w e).strm w e).queue = (s.strm w e).queue ∧ EngineOnly s (s.seek w e) ∧
      ∃ y, ((s.seek w e).strm w e).cur = some y ∧ y.d = c.d ∧ y.tile = c.tile ∧ y.stage = .translating := by
  obtain ⟨sm, dm, hf, h1, h2⟩ := s.fillMaps_only w c (tilePages c.d c.tile)
  rw [hsm] at h1
  rw [hdm] at h2
  simp only [List.length_nil, Nat.zero_add] at h1 h2
  have step : ∃ (u : State) (y : Xfer), s.seek w e = u.setStrm w e { s.strm w e with cur := some y } ∧ u.mem = s.mem ∧ u.regs = s.regs ∧
      y.d = c.d ∧ y.tile = c.tile ∧ y.stage = .translating := by
    unfold State.seek
    dsimp only
    rw [h]
    simp only [hst, hw, hstrict, hf, List.isEmpty_nil, and_self, ↓reduceIte, Bool.and_false, Bool.false_and, Bool.false_eq_true]
    rw [if_neg (by omega)]
    split
    · exact ⟨s, _, rfl, rfl, rfl, rfl, rfl, rfl⟩
    · exact ⟨_, _, rfl, rfl, rfl, rfl, rfl, rfl⟩
  obtain ⟨u, y, hu, hmem, hregs, hd, ht, hs⟩ := step
  rw [hu, State.strm_setStrm]
  exact ⟨rfl, ⟨hmem, hregs⟩, y, rfl, hd, ht, hs⟩

/-! ### A tile's frames -/

/-- A frame that has been sent is not sent again. -/
theorem State.sendTileFrame_sent {k : Nat} (h : (s.strm w e).cur = some c) (hs : ∀ x ∈ c.frames, x.sent = true) :
    s.sendTileFrame w e k = s := by
  unfold State.sendTileFrame
  dsimp only
  rw [h]
  dsimp only
  split
  · rfl
  next t ht => simp [hs t (List.mem_of_getElem? ht)]

theorem State.sendTile_sent (h : (s.strm w e).cur = some c) (hs : ∀ x ∈ c.frames, x.sent = true) : s.sendTile w e = s := by
  unfold State.sendTile
  rw [h]
  dsimp only
  split
  · exact State.forAll_induct (P := fun t => t = s) rfl fun t k ht => by rw [ht]; exact State.sendTileFrame_sent h hs
  · rfl

theorem tileStatus_ok {fs : List TileFrame} (h : ∀ x ∈ fs, ∃ d, x.done = some (stOk, d)) : tileStatus fs = some stOk := by
  have hwait : fs.any (fun x => x.done.isNone && (x.sent || x.offered || !x.dead fs)) = false := by
    refine List.any_eq_false.mpr fun x hx => ?_
    obtain ⟨d, hd⟩ := h x hx
    simp [hd]
  have hfail : (fs.filterMap (fun x => x.done.map Prod.fst)).find? (fun st => st ≠ stOk) = none := by
    refine List.find?_eq_none.mpr fun st hst => ?_
    obtain ⟨x, hx, hxs⟩ := List.mem_filterMap.mp hst
    obtain ⟨d, hd⟩ := h x hx
    rw [hd] at hxs
    simpa using (Option.some.inj hxs).symm
  simp only [tileStatus, hwait, hfail, Bool.false_eq_true, ↓reduceIte, Option.getD_none]

theorem tileStatus_waiting {fs : List TileFrame} {x : TileFrame} (hx : x ∈ fs) (hd : x.done = none) (hs : x.sent = true) :
    tileStatus fs = none := by
  have hwait : fs.any (fun x => x.done.isNone && (x.sent || x.offered || !x.dead fs)) = true :=
    List.any_eq_true.mpr ⟨x, hx, by simp [hd, hs]⟩
  simp only [tileStatus, hwait, ↓reduceIte]

/-- The transfer at its next tile, which is to be translated. -/
def Xfer.nextTile (c : Xfer) : Xfer := { c with tile := c.tile + 1, stage := .translating, smap := [], dmap := [], frames := [] }

/-- A tile that is done, and not the last of a transfer that is not to park, is followed by the next. -/
theorem State.tileDone_next (h : (s.strm w e).cur = some c) (hs : c.stage = .sending) (hok : tileStatus c.frames = some stOk)
    (hmore : c.tile + 1 < c.d.tiles.toNat) (hp : c.parking = false) :
    s.tileDone w e = (s.setStrm w e { s.strm w e with cur := some c.nextTile }).seek w e := by
  simp [State.tileDone, h, hs, hok, hp, Nat.not_le.mpr hmore, Xfer.nextTile]

/-! ### Parking -/

theorem State.parkXfer_unasked (h : (s.strm w e).cur = some c) (hp : c.parking = false) : s.parkXfer w e = s := by
  simp [State.parkXfer, h, hp]

theorem State.parkXfer_asked (h : (s.strm w e).cur = some c) (hp : c.parking = true) (hs : c.stage ≠ .sending) :
    s.parkXfer w e = s.parkAt w e c c.tile := by
  simp [State.parkXfer, h, hp, hs]

end

/-- The current transfer of a stream engine has left it, and its queue stands. -/
theorem State.parkAt_leaves {s : State} {w e i : Nat} (c : Xfer) (t : Nat) (h : s.freeSave = some i) :
    ((s.parkAt w e c t).strm w e).cur = none ∧ ((s.parkAt w e c t).strm w e).queue = (s.strm w e).queue := by
  rw [State.parkAt, h]
  dsimp only
  rw [State.strm_setStrm]
  exact ⟨rfl, rfl⟩

/-- Settles O28: an engine takes up one transfer at a time, a tile is translated, sent and followed by the next, and a transfer
parks into a save record. -/
theorem streamEngines : Obligations.StreamEngines := by
  unfold Obligations.StreamEngines
  intro quiet
  refine ⟨fun w e s hq h => ?_, fun w e d n loose l s hq hc hd hr hres hok => ?_, fun w e d n loose l s hq hc hd hr hres hok hst hn => ?_,
    fun w e s hq hc => ⟨?_, ?_, ?_⟩, fun w e s => rfl, fun w e c s hc hs hw => ?_, fun w e c s hq hc hs => ?_, fun w e s => rfl,
    fun w e c s hq hc hs hf hm hp hst hn hw => ?_, fun w e c s hc hp => congrArg Host.Outcome.next (State.parkXfer_unasked hc hp),
    fun w e c s hc hp hs => congrArg Host.Outcome.next (State.parkXfer_asked hc hp hs), fun w e c i s hc hp hs hi => ?_,
    fun fs => tileStatus_ok, fun fs x => tileStatus_waiting⟩
  · refine congrArg Host.Outcome.next ?_
    rw [State.endsGo_of_nil hq, State.startXfer_busy h]
  · refine congrArg Host.Outcome.next ?_
    rw [State.endsGo_of_nil hq, State.startXfer_fresh hq hc hd hr hres hok]
  · have hstep : (s.endsGo w.val e.val).startXfer w.val e.val =
        (s.setStrm w.val e.val { s.strm w.val e.val with queue := l, cur := some (freshXfer d n loose) }).seek w.val e.val := by
      rw [State.endsGo_of_nil hq, State.startXfer_fresh hq hc hd hr hres hok]
    obtain ⟨hqueue, honly, y, hy, hyd, hyt, hys⟩ := State.seek_translates (w := w.val) (e := e.val) (c := freshXfer d n loose)
      (s := s.setStrm w.val e.val { s.strm w.val e.val with queue := l, cur := some (freshXfer d n loose) })
      (congrArg Strm.cur (State.strm_setStrm ..)) rfl rfl rfl rfl hst hn
    exact ⟨_, congrArg Host.Outcome.next hstep, hqueue.trans (congrArg Strm.queue (State.strm_setStrm ..)), honly.sameMemory,
      honly.sameRegs, y, hy, hyd, hyt, hys⟩
  · refine congrArg Host.Outcome.next ?_
    rw [State.seek_idle hc, State.beginTile_idle hc, State.sendTile_idle hc]
  · refine congrArg Host.Outcome.next ?_
    rw [State.sendTile_idle hc, State.endsGo_of_nil hq, State.tileDone_idle hc]
  · exact congrArg Host.Outcome.next (State.parkXfer_idle hc)
  · refine congrArg Host.Outcome.next ?_
    rw [State.seek_walking hc hw, State.beginTile_walking hc hw, State.sendTile_of_stage hc (by rw [hs]; decide)]
  · have hne : c.stage ≠ .sending := by rw [hs]; decide
    refine congrArg Host.Outcome.next ?_
    rw [State.sendTile_of_stage hc hne, State.endsGo_of_nil hq, State.tileDone_of_stage hc hne]
  · have hstep : ((s.sendTile w.val e.val).endsGo w.val e.val).tileDone w.val e.val =
        (s.setStrm w.val e.val { s.strm w.val e.val with cur := some c.nextTile }).seek w.val e.val := by
      rw [State.sendTile_sent hc fun x hx => (hf x hx).1, State.endsGo_of_nil hq,
        State.tileDone_next hc hs (tileStatus_ok fun x hx => (hf x hx).2) hm hp]
    obtain ⟨-, honly, y, hy, hyd, hyt, hys⟩ := State.seek_translates (w := w.val) (e := e.val)
      (c := c.nextTile)
      (s := s.setStrm w.val e.val { s.strm w.val e.val with cur := some c.nextTile })
      (congrArg Strm.cur (State.strm_setStrm ..)) rfl hw rfl rfl hst hn
    exact ⟨_, congrArg Host.Outcome.next hstep, honly.sameMemory, y, hy, hyd, hyt, hys⟩
  · obtain ⟨hcur, hqueue⟩ := State.parkAt_leaves (w := w.val) (e := e.val) c c.tile hi
    exact ⟨_, congrArg Host.Outcome.next (State.parkXfer_asked hc hp hs), hcur, hqueue⟩

end Sys2Proof.Machine
end

section
/-! SUPPORT. A Prism that unlocks at a member of a gateway, where a response waits for its turn to the gateway. -/

namespace Sys2Proof.Machine

/-- An access to node 0 that is outstanding, of a stream engine far outside the four Wings. -/
def farAccess : SrcReq := { f := blankFrame, charge := 0, tx := 1, aged := false, owner := .stream 7104 0, id := 0 }

/-- A response to node 0 that waits in the pair of the gateway, node 5. -/
def waitingResponse : SrcReq := { f := { blankFrame with opcode := 0x82 }, charge := 0, tx := 0, aged := false, owner := .relay 5, id := 1 }

/-- The state after reset of a member of gateway 5, to which a route of one hop leads, with WRED on, UNLOCK_IE set, Prism 0 holding a
matrix and one error short of its limit, and that response waiting. -/
def strayResponse : State :=
  let s := ((((((State.reset.setReg rGwNode 5).setReg rWredSet 0).setReg (rWredSet + 8) (2 ^ 63)).setReg (rRtActive + 16 * 5) 0xFF).setReg
    (rRtActive + 16 * 5 + 8) (2 ^ 39 + 2 ^ 32)).setReg (prismStat 0) 1).setReg rOmuCtl 3
  { s with
    host := { s.host with member := true }
    fab := { s.fab with pairs := [(0, { st := .opened, sent := [farAccess] }), (5, { st := .opened, waiting := [waitingResponse] })] }
    omu := { s.omu with prisms := s.omu.prisms.set 0 { errors := 2 } } }

/-- The Prism unlocked, with its frames bad. -/
def Prism.lost (x : Prism) : Prism :=
  { x with errors := 0, unlocked := true, frames := x.frames.map (fun (f : PrismFrame) => { f with bad := true }) }

/-- The state in which the Prism has unlocked, before OMU_UNLOCK is raised. -/
def State.unlocks (s : State) (p : Fin 4) : State :=
  ((s.setPrism p (s.prism p).lost).count (prismReg p.val 0x18)).setRegBit (prismStat p) 1 false

theorem exec_prismLockLoopUpdate_third {s : State} {p : Fin 4} {e : Nat} (hl : (s.prism p).unlocked = false) (he : 30000 < e)
    (hn : (s.prism p).errors = 2) : exec (.prismLockLoopUpdate p e) s = .next (s.unlocks p).omuUnlock := by
  refine congrArg Host.Outcome.next ?_
  rw [hl, hn, if_neg (by decide), if_neg (by omega), if_neg (by decide)]
  rfl

/-- The event sends the response on its way, to the port of that engine; WRED drops it there and counts it, in the word of the Prism's status. -/
theorem strayResponse_locked : (strayResponse.unlocks 0).omuUnlock.regBit (prismStat 0) 1 = true := by decide +kernel

/-- Refutes O30, in the clause of the third error above the lock limit: OMU_UNLOCK of a member is a store to its gateway (R503), behind a
response that is dropped and counted at port 14336. That port's counter of drops is the word of Prism 0's status, whose LOCKED bit the count
sets again. -/
theorem not_prisms : ¬ Obligations.Prisms := by
  intro h
  obtain ⟨-, -, -, -, -, -, -, -, -, -, -, -, third, -⟩ := h
  have unlocked : (strayResponse.prism 0).unlocked = false := by decide +kernel
  have errors : (strayResponse.prism 0).errors = 2 := by decide +kernel
  obtain ⟨t, e, -, locked, -⟩ := third 0 30001 strayResponse unlocked (by decide) errors
  have run : t = (strayResponse.unlocks 0).omuUnlock :=
    Host.Outcome.next.inj (e.symm.trans (exec_prismLockLoopUpdate_third unlocked (by decide) errors))
  rw [run, strayResponse_locked] at locked
  exact absurd locked (by decide)

end Sys2Proof.Machine
end

section
/-! SUPPORT. Table walks, fault records and resumes. -/

namespace Sys2Proof.Machine

section
variable {s t : State}

/-! ### What a store of a unit of the module touches -/

/-- Nothing differs but memory and its channels, the home, the registers and the DEP-7s. -/
def StoreOnly (s t : State) : Prop :=
  { t with mem := s.mem, g7m := s.g7m, coh := s.coh, regs := s.regs, deps := s.deps } = s

theorem StoreOnly.trans {u : State} (h : StoreOnly s t) (g : StoreOnly t u) : StoreOnly s u := by
  have e := congrArg (fun x : State => { x with mem := s.mem, g7m := s.g7m, coh := s.coh, regs := s.regs, deps := s.deps })
    (show { u with mem := t.mem, g7m := t.g7m, coh := t.coh, regs := t.regs, deps := t.deps } = t from g)
  exact e.trans h

theorem StoreOnly.forAll {α : Type} {op : State → α → State} (l : List α) (h : ∀ u x, StoreOnly u (op u x)) : StoreOnly s (s.forAll l op) :=
  State.forAll_induct (P := StoreOnly s) rfl fun u x hu => hu.trans (h u x)

theorem StoreOnly.setDir {l : Nat} {d : Dir} (h : StoreOnly s t) : StoreOnly s (t.setDir l d) := h

theorem State.storeOnly_setBytes (a : Nat) (l : List Byte) : StoreOnly s (s.setBytes a l) := by
  induction l generalizing s a with
  | nil => rfl
  | cons b r ih => exact StoreOnly.trans (t := s.setByte a b) rfl (ih _)

theorem State.storeOnly_dropSlot (s : State) (l : Nat) : StoreOnly s (s.dropSlot l) := by
  unfold State.dropSlot
  split
  · split <;> rfl
  · rfl

theorem State.storeOnly_heal (s : State) (l : Nat) : StoreOnly s (s.heal l) := by
  unfold State.heal
  dsimp only
  split
  · split <;> rfl
  · rfl

theorem State.storeOnly_burst (s : State) (l : Nat) (rd wr : Bool) : StoreOnly s (s.burst l rd wr) := by
  unfold State.burst
  dsimp only
  split
  · split <;> split <;> split <;> rfl
  · rfl

theorem State.storeOnly_storeLine (s : State) (a : Nat) (data : List Byte) (l : Nat) : StoreOnly s (s.storeLine a data l) := by
  have stored := (s.storeOnly_dropSlot l).trans (State.storeOnly_setBytes (span a data.length l).1
    ((data.drop ((span a data.length l).1 - a)).take ((span a data.length l).2 - (span a data.length l).1)))
  unfold State.storeLine
  dsimp only
  split
  · exact stored.trans (State.storeOnly_heal _ _)
  · exact stored

theorem State.storeOnly_storeMem (s : State) (a : Nat) (data : List Byte) : StoreOnly s (s.storeMem a data).2 := by
  have lines : StoreOnly s (s.forAll (linesOf a data.length) (fun u l =>
      if ((linesOf a data.length).filter (fun l => s.lineBad l && decide ((span a data.length l).2 - (span a data.length l).1 < 64))).contains l
      then u else (u.storeLine a data l).burst l false true)) := by
    refine StoreOnly.forAll _ fun u l => ?_
    split
    · rfl
    · exact (u.storeOnly_storeLine a data l).trans (State.storeOnly_burst _ _ _ _)
  unfold State.storeMem
  dsimp only
  split
  · exact lines
  · exact lines.trans (StoreOnly.forAll _ fun u l => rfl)

theorem State.storeOnly_takeLine (s : State) (l : Nat) : StoreOnly s (s.takeLine l) := by
  have back (x : List Byte) : StoreOnly s (s.writeBack l x) := by
    unfold State.writeBack
    split
    · exact (s.storeOnly_storeLine _ _ _).trans (State.storeOnly_burst _ _ _ _)
    · rfl
  unfold State.takeLine
  dsimp only
  split
  · rfl
  · refine StoreOnly.trans (?_ : StoreOnly s (match s.ownerData l with
      | some x => s.writeBack l x
      | none => s)) (StoreOnly.setDir ?_)
    · split
      · exact back _
      · rfl
    · exact StoreOnly.forAll (op := fun u p => u.setDep p { u.dep p with sat := tput (fun _ => ({} : SatLine)) (u.dep p).sat l {} }) _ fun u p => rfl

theorem State.storeOnly_poke (s : State) (a : Nat) (d : List Byte) : StoreOnly s (s.poke a d) :=
  StoreOnly.trans (t := (s.forAll (linesOf a d.length) (fun s l => s.takeLine l)).tellTrans a d)
    (StoreOnly.trans (StoreOnly.forAll _ fun u l => u.storeOnly_takeLine l) rfl) (State.storeOnly_storeMem _ _ _)

/-! ### A table read at this module's memory -/

/-- What a burst of a read at a channel leaves: every register but the channel's counters of bursts, what memory holds, and which of its
lines are in error. -/
structure ReadOnly (s t : State) : Prop where
  regs : ∀ a, (∀ c off, off = 0x28 ∨ off = 0x38 → a ≠ chReg c off) → t.reg a = s.reg a
  mem : t.mem = s.mem
  coh : t.coh = s.coh
  deps : t.deps = s.deps
  sec : t.sec = s.sec
  xl : t.xl = s.xl
  bad : t.g7m.bad = s.g7m.bad

theorem ReadOnly.low (h : ReadOnly s t) {a : Nat} (ha : a < rChan) : t.reg a = s.reg a := h.regs a fun c off _ => by
  rw [chReg]
  omega

theorem State.readOnly_table (s : State) (q l : Nat) : ReadOnly s ((s.burst l true false).chanTake q l) := by
  have taken {u : State} (h : ReadOnly s u) : ReadOnly s (u.chanTake q l) := by
    obtain ⟨regs, mem, coh, deps, sec, xl, bad⟩ := h
    unfold State.chanTake
    dsimp only
    split
    · exact ⟨regs, mem, coh, deps, sec, xl, bad⟩
    · exact ⟨regs, mem, coh, deps, sec, xl, bad⟩
  have counted {u : State} {off : Nat} (hoff : off = 0x28 ∨ off = 0x38) (c : Nat) (h : ReadOnly s u) : ReadOnly s (u.count (chReg c off)) := by
    obtain ⟨regs, mem, coh, deps, sec, xl, bad⟩ := h
    exact ⟨fun a ha => (State.reg_count_ne _ _ _ (ha c off hoff)).trans (regs a ha), mem, coh, deps, sec, xl, bad⟩
  refine taken ?_
  have start : ReadOnly s s := ⟨fun _ _ => rfl, rfl, rfl, rfl, rfl, rfl, rfl⟩
  unfold State.burst
  split
  · have read : ReadOnly s (if tget (fun _ => none) (s.chan (channelOf (64 * l))).rows (bankOf (64 * l)) = some (rowOf (64 * l))
        then s.count (chReg (channelOf (64 * l)) 0x28)
        else (s.count (chReg (channelOf (64 * l)) 0x28)).count (chReg (channelOf (64 * l)) 0x38)) := by
      split
      · exact counted (.inl rfl) _ start
      · exact counted (.inr rfl) _ (counted (.inl rfl) _ start)
    obtain ⟨regs, mem, coh, deps, sec, xl, bad⟩ := read
    exact ⟨regs, mem, coh, deps, sec, xl, bad⟩
  · exact start

theorem ReadOnly.lineBad (h : ReadOnly s t) (l : Nat) : t.lineBad l = s.lineBad l := by
  have count : t.reg (chReg (channelOf (64 * l)) 0x48) = s.reg (chReg (channelOf (64 * l)) 0x48) := h.regs _ fun c off ho => by
    simp only [chReg]
    omega
  have entry (i : Nat) (hi : i < 256) : t.reg (errEntry (channelOf (64 * l)) i) = s.reg (errEntry (channelOf (64 * l)) i) :=
    h.regs _ fun c off ho => by
      simp only [errEntry, chReg]
      omega
  have index : t.errIndex l = s.errIndex l := by
    unfold State.errIndex
    refine List.find?_congr fun i hi => ?_
    dsimp only
    rw [entry i (List.mem_range.mp hi)]
  rw [State.lineBad, State.lineBad, index, h.bad, State.regF_congr count]

theorem ReadOnly.peekBad (h : ReadOnly s t) (a n : Nat) : t.peekBad a n = s.peekBad a n :=
  congrArg (linesOf a n).any (funext h.lineBad)

theorem ReadOnly.whereIs (h : ReadOnly s t) (a : Nat) : t.whereIs a = s.whereIs a := by
  have tt : t.ttRegion = s.ttRegion := by
    rw [State.ttRegion, State.ttRegion, State.regF_congr (h.low (by decide : rTtRegion < rChan)),
      State.regF_congr (h.low (by decide : rTtRegion < rChan))]
  have ovf : t.ovfRegion = s.ovfRegion := by
    rw [State.ovfRegion, State.ovfRegion, State.regF_congr (h.low (by decide : rOvfBase < rChan)),
      State.regF_congr (h.low (by decide : rOvfSize < rChan))]
  rw [State.whereIs, State.whereIs, tt, ovf]

theorem ReadOnly.fenced (h : ReadOnly s t) (d : Nat) : t.fenced d = s.fenced d := by
  have rst := h.low (by decide : rRstStatus < rChan)
  rw [State.fenced, State.fenced, State.regBit_congr rst, State.regBit_congr rst]

theorem ReadOnly.ready (h : ReadOnly s t) {i : Nat} (hi : i < 0x400) : t.ready i = s.ready i :=
  State.regBit_congr (h.low (by simp only [rGlbReady, rChan]; omega)) _

theorem ReadOnly.beingZeroed (h : ReadOnly s t) (a n : Nat) : t.beingZeroed a n = s.beingZeroed a n := by
  rw [State.beingZeroed, State.beingZeroed, h.sec]

/-- The rooms of the module's offset space are those of its four Wings. -/
theorem State.whereIs_room {a : Nat} : (∀ r o, s.whereIs a = .blackboard r o → r / 300 < 4) ∧ (∀ d o, s.whereIs a = .slate d o → roomOf d / 300 < 4) ∧
    (∀ d o, s.whereIs a = .inbox d o → roomOf d / 300 < 4) := by
  unfold State.whereIs
  dsimp only
  refine ⟨fun r o h => ?_, fun d o h => ?_, fun d o h => ?_⟩
  · split at h
    · split at h
      · cases h
      · split at h <;> cases h
    · split at h
      · split at h
        · cases h
          omega
        · cases h
      · split at h
        · split at h
          · cases h
          · split at h
            · cases h
            · split at h <;> cases h
        · split at h <;> cases h
  · split at h
    · split at h
      · cases h
      · split at h <;> cases h
    · split at h
      · split at h <;> cases h
      · split at h
        · split at h
          · cases h
          · split at h
            · cases h
              rw [roomOf]
              omega
            · split at h <;> cases h
        · split at h <;> cases h
  · split at h
    · split at h
      · cases h
      · split at h <;> cases h
    · split at h
      · split at h <;> cases h
      · split at h
        · split at h
          · cases h
          · split at h
            · cases h
            · split at h
              · cases h
                rw [roomOf]
                omega
              · cases h
        · split at h <;> cases h

theorem ReadOnly.isFenced (h : ReadOnly s t) (a n : Nat) : t.isFenced (t.whereIs a) a n = s.isFenced (s.whereIs a) a n := by
  have wing {w : Nat} (hw : w < 4) : t.ready (readyWing w) = s.ready (readyWing w) := h.ready (by simp only [readyWing]; omega)
  have channels : ((linesOf a (max n 1)).any fun l => !t.ready (readyCh (channelOf (64 * l)))) =
      (linesOf a (max n 1)).any fun l => !s.ready (readyCh (channelOf (64 * l))) := by
    refine congrArg (linesOf a (max n 1)).any (funext fun l => ?_)
    have chan : channelOf (64 * l) < 64 := BitVec.isLt _
    rw [h.ready (by simp only [readyCh]; omega)]
  obtain ⟨board, slate, inbox⟩ := s.whereIs_room (a := a)
  rw [h.whereIs]
  cases hw : s.whereIs a with
  | general | timetable | overflow => simp only [State.isFenced, channels, h.fenced, h.beingZeroed]
  | blackboard r o => simp only [State.isFenced, h.fenced, h.beingZeroed, wing (board r o hw)]
  | slate d o => simp only [State.isFenced, h.fenced, h.beingZeroed, wing (slate d o hw)]
  | inbox d o => simp only [State.isFenced, h.fenced, wing (inbox d o hw)]
  | mirror o => rfl
  | hole => rfl

theorem ReadOnly.peekNum (h : ReadOnly s t) (a n : Nat) : t.peekNum a n = s.peekNum a n := by
  have owner (l : Nat) : t.ownerData l = s.ownerData l := by
    rw [State.ownerData, State.ownerData, State.dirOf, State.dirOf, h.coh, State.dep, State.dep, h.deps]
  have bytes : t.bytes a n = s.bytes a n := State.bytes_of_mem h.mem a n
  have cover (c : List (Nat × List Byte)) : t.readOver c a n = s.readOver c a n := by
    unfold State.readOver
    rw [bytes]
    simp only [State.byte_of_mem h.mem]
  rw [State.peekNum, State.peekNum, State.peek, State.peek, h.coh, bytes]
  simp only [owner, cover]

end

/-! ### Walks -/

section
variable {s : State} {w v : Walk} {id : Nat}

theorem State.setWalk_setWalk (h : w.id = v.id) : (s.setWalk w).setWalk v = s.setWalk v := by
  have maps : (s.xl.walks.map fun (x : Walk) => if x.id = w.id then w else x).map (fun (x : Walk) => if x.id = v.id then v else x) =
      s.xl.walks.map fun (x : Walk) => if x.id = v.id then v else x := by
    rw [List.map_map]
    refine List.map_congr_left fun x _ => ?_
    rw [Function.comp_apply, h]
    by_cases hx : x.id = v.id
    · rw [if_pos hx, if_pos h, if_pos hx]
    · rw [if_neg hx, if_neg hx]
  exact congrArg (fun l => ({ s with xl := { s.xl with walks := l } } : State)) maps

theorem List.find?_map_walk {l : List Walk} (h : l.find? (fun x => x.id = id) = some w) (hv : v.id = id) :
    (l.map fun (x : Walk) => if x.id = v.id then v else x).find? (fun x => x.id = id) = some v := by
  induction l with
  | nil => exact absurd h (by simp)
  | cons x r ih =>
    rw [List.map_cons]
    by_cases hx : x.id = id
    · rw [if_pos (hx.trans hv.symm), List.find?_cons_of_pos (by simpa using hv)]
    · rw [if_neg (fun e => hx (e.trans hv)), List.find?_cons_of_neg (by simpa using hx)]
      rw [List.find?_cons_of_neg (by simpa using hx)] at h
      exact ih h

/-- The walk, now run by the walker. -/
def Walk.run (w : Walk) : Walk := { w with running := true }

theorem State.walkRead_none (e : Option Word) (h : ∀ w ∈ s.xl.walks, w.id ≠ id) : s.walkRead id e = s := by
  have none : s.xl.walks.find? (fun w => w.id = id) = none := List.find?_eq_none.mpr fun w hw => by simpa using h w hw
  simp only [State.walkRead, none]

theorem State.walkRead_waits (e : Option Word) (h : s.xl.walks.find? (fun w => w.id = id) = some w) (hr : s.walkRuns w = false) :
    s.walkRead id e = s := by
  simp only [State.walkRead, h, hr, Bool.not_false, Bool.or_true, if_true]

/-- What a walk that runs does where the walk cache does not hold its entry. -/
def State.walkFetch (s : State) (w : Walk) (entry : Option Word) : State :=
  let lo := (s.reg rTblHbase).toNat
  if w.entryAddr < lo ∨ lo + (s.reg rTblLen).toNat ≤ w.entryAddr then s.setWalk (w.fail stUnmapped 4 w.level)
  else
    let fpa := s.regF rTblFpa 0 56 + (w.entryAddr - lo)
    let off := fpa % 2 ^ 44
    if fpa / 2 ^ 44 = s.node.toNat ∧ s.fenced 2 then s
    else if fpa / 2 ^ 44 = s.node.toNat then
      let t := (s.burst (off / 64) true false).chanTake 8 (off / 64)
      if t.peekBad off 8 || t.isFenced (t.whereIs off) off 8 then
        (if t.peekBad off 8 then t.countBad [off / 64] else t).setWalk (w.fail stDataErr 4 w.level)
      else t.useEntry w (BitVec.ofNat 64 (t.peekNum off 8))
    else match w.got with
      | some (st, e) => if st = 0 then s.useEntry w e else s.setWalk (w.fail stDataErr 4 w.level)
      | none =>
        match entry with
        | some e => s.useEntry w e
        | none =>
          if w.asked then s
          else (s.setWalk { w with asked := true }).submit 0 { blankFrame with
            cohort := w.cohort, part := BitVec.ofNat 6 (s.cohortPart w.cohort.toNat), dst := BitVec.ofNat 12 (fpa / 2 ^ 44),
            src := s.node, opcode := 1, vc := 1, length := 8, fpa := BitVec.ofNat 56 fpa } (.walk w.id w.gen)

/-- A walk that runs takes its entry from the walk cache, or fetches it. -/
theorem State.walkRead_runs (e : Option Word) (h : s.xl.walks.find? (fun w => w.id = id) = some w) (hl : w.level ≠ 0)
    (hr : s.walkRuns w = true) : s.walkRead id e =
      match s.xl.cache.find? (fun k => k.stage2 = w.stage2 && k.owner = s.cacheOwner w && k.addr = w.entryAddr) with
      | some k => (s.setWalk w.run).useEntry w.run k.entry
      | none => (s.setWalk w.run).walkFetch w.run e := by
  have busy : ¬ ((decide (w.level = 0) || !s.walkRuns w) = true) := by simp [hl, hr]
  have named : w.id = id := by simpa using List.find?_some h
  unfold State.walkRead
  rw [h]
  dsimp only
  rw [if_neg busy, ← named]
  rfl

theorem State.walkRead_cached (e : Option Word) {k : WalkEntry} (h : s.xl.walks.find? (fun w => w.id = id) = some w) (hl : w.level ≠ 0)
    (hr : s.walkRuns w = true)
    (hc : s.xl.cache.find? (fun k => k.stage2 = w.stage2 && k.owner = s.cacheOwner w && k.addr = w.entryAddr) = some k) :
    s.walkRead id e = (s.setWalk w.run).useEntry w.run k.entry := by
  rw [State.walkRead_runs e h hl hr, hc]

theorem State.walkRead_uncached (e : Option Word) (h : s.xl.walks.find? (fun w => w.id = id) = some w) (hl : w.level ≠ 0)
    (hr : s.walkRuns w = true) (hc : s.xl.cache = []) : s.walkRead id e = (s.setWalk w.run).walkFetch w.run e := by
  rw [State.walkRead_runs e h hl hr, hc]
  rfl

theorem State.walkFetch_below (e : Option Word) (h : w.entryAddr < (s.reg rTblHbase).toNat) :
    s.walkFetch w e = s.setWalk (w.fail stUnmapped 4 w.level) := if_pos (.inl h)

/-- A table below the table window ends its walk (R374). -/
theorem State.walkRead_below (e : Option Word) (h : s.xl.walks.find? (fun w => w.id = id) = some w) (hl : w.level ≠ 0)
    (hr : s.walkRuns w = true) (hc : s.xl.cache = []) (hlow : w.entryAddr < (s.reg rTblHbase).toNat) :
    s.walkRead id e = s.setWalk (w.run.fail stUnmapped 4 w.level) := by
  have low : w.run.entryAddr < ((s.setWalk w.run).reg rTblHbase).toNat := hlow
  rw [State.walkRead_uncached e h hl hr hc, State.walkFetch_below e low]
  exact State.setWalk_setWalk rfl

/-- An entry that is not present ends its walk (R375). -/
theorem Walk.use_absent {e : Word} (h : e.getLsbD (pfdOf (if w.stage2 then w.pfd2 else w.pfd1)).pPos = false) :
    w.use e = w.fail stUnmapped 0 w.level := if_pos (by rw [h]; rfl)

theorem State.useEntry_absent {e : Word} (h : e.getLsbD (pfdOf (if w.stage2 then w.pfd2 else w.pfd1)).pPos = false) :
    s.useEntry w e = s.setWalk (w.fail stUnmapped 0 w.level) := by
  unfold State.useEntry
  rw [Walk.use_absent h]
  rfl

/-- The offset at which this module holds a table address. -/
def State.tableOff (s : State) (w : Walk) : Nat := (s.regF rTblFpa 0 56 + (w.entryAddr - (s.reg rTblHbase).toNat)) % 2 ^ 44

/-- An entry in this module's memory that is not present ends its walk. -/
theorem State.walkFetch_absent (e : Option Word) (hf : s.fenced 2 = false) (hlo : (s.reg rTblHbase).toNat ≤ w.entryAddr)
    (hhi : w.entryAddr < (s.reg rTblHbase).toNat + (s.reg rTblLen).toNat)
    (hnode : (s.regF rTblFpa 0 56 + (w.entryAddr - (s.reg rTblHbase).toNat)) / 2 ^ 44 = s.node.toNat)
    (hbad : s.peekBad (s.tableOff w) 8 = false) (hfen : s.isFenced (s.whereIs (s.tableOff w)) (s.tableOff w) 8 = false)
    (hp : (BitVec.ofNat 64 (s.peekNum (s.tableOff w) 8)).getLsbD (pfdOf (if w.stage2 then w.pfd2 else w.pfd1)).pPos = false) :
    s.walkFetch w e = ((s.burst (s.tableOff w / 64) true false).chanTake 8 (s.tableOff w / 64)).setWalk (w.fail stUnmapped 0 w.level) := by
  have read := s.readOnly_table 8 (s.tableOff w / 64)
  have good : ((s.burst (s.tableOff w / 64) true false).chanTake 8 (s.tableOff w / 64)).peekBad (s.tableOff w) 8 = false :=
    (read.peekBad _ _).trans hbad
  have free := (read.isFenced (s.tableOff w) 8).trans hfen
  have entry := read.peekNum (s.tableOff w) 8
  rw [State.tableOff] at good free entry hp
  unfold State.walkFetch
  dsimp only
  rw [if_neg (by omega), if_neg (by simp [hf]), if_pos hnode, good, free, entry]
  exact State.useEntry_absent hp

/-! ### The end of a walk -/

theorem State.walkEnd_none (h : ∀ w ∈ s.xl.walks, ¬ (w.id = id ∧ w.level = 0)) : s.walkEnd id = s := by
  have none : s.xl.walks.find? (fun w => w.id = id && w.level = 0) = none :=
    List.find?_eq_none.mpr fun w hw => by simpa using h w hw
  rw [State.walkEnd, none]

theorem State.walkEnd_found (h : s.xl.walks.find? (fun w => w.id = id && w.level = 0) = some w) :
    s.walkEnd id = ((s.walkGone w).walkTold w).settleStreams := by
  rw [State.walkEnd, h]

/-- The walker without the walk. -/
theorem State.walkGone_xl (w : Walk) : (s.walkGone w).xl = { s.xl with walks := s.xl.walks.filter (fun x => x.id ≠ w.id) } := by
  unfold State.walkGone
  dsimp only
  split <;> rfl

theorem State.walkGone_rest (w : Walk) : (s.walkGone w).mem = s.mem ∧ (s.walkGone w).strms = s.strms := by
  unfold State.walkGone
  dsimp only
  split <;> exact ⟨rfl, rfl⟩

theorem State.walkGone_counts (w : Walk) : (s.walkGone w).reg rWalks = s.reg rWalks + 1 := by
  have ended : ((State.count { s with xl := { s.xl with walks := s.xl.walks.filter (fun x => x.id ≠ w.id) } } rWalks).addReg rWalkSclk
      ((s.now - w.since) / 2)).reg rWalks = s.reg rWalks + 1 :=
    (State.reg_setReg_ne _ _ _ _ (by decide)).trans (State.reg_count _ _)
  unfold State.walkGone
  dsimp only
  split
  · exact (State.reg_count_ne _ _ _ (by decide)).trans ended
  · exact ended

theorem State.walkGone_counts_prefetch {n : Nat} (h : w.who = .prefetch n) : (s.walkGone w).reg rPfWalks = s.reg rPfWalks + 1 := by
  unfold State.walkGone
  rw [h]
  refine (State.reg_count _ _).trans (congrArg (· + 1) ?_)
  exact (State.reg_setReg_ne _ _ _ _ (by decide)).trans (State.reg_count_ne _ _ _ (by decide))

theorem State.walkGone_others (hw : w.id = id) : ∀ x ∈ (s.walkGone w).xl.walks, x.id ≠ id := by
  rw [State.walkGone_xl, ← hw]
  intro x hx
  exact of_decide_eq_true (List.mem_filter.mp hx).2

theorem State.walkTold_prefetch {n : Nat} {k : Tlb} (h : w.who = .prefetch n) (hf : w.failed = none) (hd : w.done = some k) :
    s.walkTold w = s.putWing n k := by
  unfold State.walkTold
  rw [h]
  dsimp only
  rw [hf, hd]

/-- A translation enters an empty Wing TLB alone. -/
theorem State.wingTlb_putWing (n : Nat) (k : Tlb) (h : s.wingTlb n = []) : (s.putWing n k).wingTlb n = [k] := by
  refine (tget_tput ..).trans ((if_pos rfl).trans ?_)
  rw [h]
  rfl

end

/-! ### Resumes and the fault queue's tail -/

section
variable {s : State}

theorem State.badResume_reports (s : State) : s.badResume.regBit rFltStatus 3 = true ∧ OnlyRegs s s.badResume [rFltStatus] :=
  ⟨State.regBit_setRegBit _ _ _ _ (by decide), s.onlyRegs_setRegBit _ _ _⟩

theorem State.resumeRecord_refused {i : Nat} (retry : Bool) (h : s.saveState i ≠ 1) : s.resumeRecord i retry = s.badResume := if_pos (.inr h)

theorem State.resumeRecord_retry {i : Nat} (hi : i < min s.saveCount 4096) (h : s.saveState i = 1) (hs : s.strict = false) :
    s.resumeRecord i true = s.setSaveState i 2 := by
  unfold State.resumeRecord
  rw [if_neg (by omega), hs]
  simp

theorem State.fltResume_loader (retry : Bool) (h : ∀ p, s.loaderStalled p = false) : s.fltResume 0xFFFF retry = s.badResume := by
  have none : bothPages.find? s.loaderStalled = none := List.find?_eq_none.mpr fun p _ => by simp [h p]
  rw [State.fltResume, if_pos rfl, State.resumeLoader, none]

theorem State.fltResume_record {token : BitVec 16} (retry : Bool) (h : token ≠ 0xFFFF) :
    s.fltResume token.toNat retry = s.resumeRecord token.toNat retry :=
  if_neg fun e => h (BitVec.eq_of_toNat_eq e)

/-- A change of a save record's state leaves the Desks and the stream engines. -/
theorem State.setSaveState_leaves (s : State) (i st : Nat) : (s.setSaveState i st).desks = s.desks ∧ (s.setSaveState i st).strms = s.strms := by
  have stored : StoreOnly s (s.setSaveState i st) := s.storeOnly_poke _ _
  exact ⟨(congrArg State.desks stored :), (congrArg State.strms stored :)⟩

theorem State.loaderAgain_none (h : ∀ p : Fin 2, (s.page p).stalled ≠ 2) : s.loaderAgain = s :=
  State.forAll_induct (P := fun t => t = s) rfl fun t p ht => by
    rw [ht]
    exact if_neg fun e => h p e.2

theorem State.writeFltTail_idle (v : Word) (h : s.strms = []) : s.writeFltTail v = s.setReg rFltTail v := by
  show State.forAll (s.setReg rFltTail v) s.strms _ = _
  rw [h]
  rfl

end

/-- The walks, the page-format descriptors and the resumes of R372 to R397. -/
theorem rulesWalks_holds : rulesWalks := by
  unfold rulesWalks
  intro runs run
  refine ⟨fun id e s h => congrArg Host.Outcome.next (State.walkRead_none e h),
    fun id e w s h hr => congrArg Host.Outcome.next (State.walkRead_waits e h hr),
    fun id e w s ⟨h, hl, hr⟩ hc hlow => ?_, fun id e w k s ⟨h, hl, hr⟩ hc => congrArg Host.Outcome.next (State.walkRead_cached e h hl hr hc),
    fun id e w s ⟨h, hl, hr⟩ hc hf hlo hhi => ?_, fun id s h => congrArg Host.Outcome.next (State.walkEnd_none h),
    fun id w s h => ?_, fun id n w k s h hwho hfail hdone hwing hstrm => ?_, fun i v s hrec hok => ?_, fun i v s hrec hok => ?_,
    fun v s hrec => congrArg Host.Outcome.next (State.bar0_eq_of_not_recovery s _ hrec), fun v s hrec hstrm hpage => ?_,
    fun token s hrec ht => ⟨?_, ?_⟩, fun token s hrec ht hst => ⟨?_, ?_⟩, fun token s hrec ht hst hi hs => ?_, fun s hrec hl => ⟨?_, ?_⟩⟩
  · exact ⟨s.setWalk (w.run.fail stUnmapped 4 w.level), congrArg Host.Outcome.next (State.walkRead_below e h hl hr hc hlow), rfl,
      fun _ => rfl, fun _ => rfl⟩
  · intro fpa hnode hbad hfen hp
    refine ⟨_, congrArg Host.Outcome.next ((State.walkRead_uncached e h hl hr hc).trans
      (State.walkFetch_absent (s := s.setWalk w.run) (w := w.run) e hf hlo hhi hnode hbad hfen hp)), ?_, ?_⟩
    · exact SameMemory.of_mem ((s.setWalk w.run).readOnly_table 8 ((s.setWalk w.run).tableOff w.run / 64)).mem
    · have named : w.id = id := by simpa using List.find?_some h
      have walks := congrArg Xlat.walks ((s.setWalk w.run).readOnly_table 8 ((s.setWalk w.run).tableOff w.run / 64)).xl
      have started : (s.setWalk w.run).xl.walks.find? (fun x => x.id = id) = some w.run := List.find?_map_walk h named
      rw [← walks] at started
      exact List.find?_map_walk started named
  · have named : w.id = id ∧ w.level = 0 := by simpa using List.find?_some h
    exact ⟨congrArg Host.Outcome.next (State.walkEnd_found h), State.walkGone_others named.1, State.walkGone_counts w⟩
  · have named : w.id = id ∧ w.level = 0 := by simpa using List.find?_some h
    have told := State.walkTold_prefetch (s := s.walkGone w) hwho hfail hdone
    obtain ⟨hmem, hst⟩ := State.walkGone_rest (s := s) w
    have still : ((s.walkGone w).walkTold w).strms = [] := by rw [told]; exact hst.trans hstrm
    refine ⟨_, congrArg Host.Outcome.next ((State.walkEnd_found h).trans ((State.settleStreams_of_idle still).trans told)), ?_,
      State.walkGone_others named.1, State.walkGone_counts w, State.walkGone_counts_prefetch hwho, SameMemory.of_mem hmem⟩
    refine State.wingTlb_putWing n k ?_
    rw [State.wingTlb, State.walkGone_xl]
    exact hwing
  · exact ⟨_, congrArg Host.Outcome.next ((State.bar0_eq_of_not_recovery s _ hrec).trans (if_pos hok)), (State.reg_setReg ..).trans (if_pos rfl),
      s.onlyRegs_setReg _ _ _ List.mem_cons_self⟩
  · exact ⟨_, congrArg Host.Outcome.next ((State.bar0_eq_of_not_recovery s _ hrec).trans (if_neg (by rw [hok]; decide))),
      State.regBit_setRegBit _ _ _ _ (by decide), s.onlyRegs_setRegBit _ _ _⟩
  · refine ⟨_, congrArg Host.Outcome.next ((State.bar0_eq_of_not_recovery s _ hrec).trans (?_ : _ = s.setReg rFltTail v)),
      (State.reg_setReg ..).trans (if_pos rfl), s.onlyRegs_setReg _ _ _ List.mem_cons_self⟩
    rw [State.writeFltTail_idle v hstrm]
    exact State.loaderAgain_none hpage
  · exact congrArg Host.Outcome.next ((State.bar0_eq_of_not_recovery s _ hrec).trans (State.fltResume_record true ht))
  · exact congrArg Host.Outcome.next ((State.bar0_eq_of_not_recovery s _ hrec).trans (State.fltResume_record false ht))
  · exact ⟨_, congrArg Host.Outcome.next ((State.bar0_eq_of_not_recovery s _ hrec).trans ((State.fltResume_record true ht).trans
      (State.resumeRecord_refused true hst))), s.badResume_reports⟩
  · exact ⟨_, congrArg Host.Outcome.next ((State.bar0_eq_of_not_recovery s _ hrec).trans ((State.fltResume_record false ht).trans
      (State.resumeRecord_refused false hst))), s.badResume_reports⟩
  · exact ⟨_, congrArg Host.Outcome.next ((State.bar0_eq_of_not_recovery s _ hrec).trans ((State.fltResume_record true ht).trans
      (State.resumeRecord_retry hi hst hs))), rfl, s.setSaveState_leaves _ _⟩
  · exact ⟨_, congrArg Host.Outcome.next ((State.bar0_eq_of_not_recovery s _ hrec).trans (State.fltResume_loader true hl)), s.badResume_reports⟩
  · exact ⟨_, congrArg Host.Outcome.next ((State.bar0_eq_of_not_recovery s _ hrec).trans (State.fltResume_loader false hl)), s.badResume_reports⟩

end Sys2Proof.Machine
end

section
/-! SUPPORT. Invalidations: tickets, caches and acknowledgements. -/

namespace Sys2Proof.Machine

section
variable {s : State}

/-! ### Tickets -/

theorem State.startInval_full {k a n p : Nat} {c : BitVec 10} (h : 16 ≤ s.xl.tickets.length) :
    s.startInval k a n c p = s.setRegBit rInvStatus 16 true := if_pos h

/-- So many tickets are outstanding, and XLT.INV_STATUS reads so. -/
def State.ticketsAre (n : Nat) (v : Word) (t : State) : Prop := t.xl.tickets.length = n ∧ t.reg rInvStatus = v

theorem frameFree_ticketsAre (n : Nat) (v : Word) : FrameFree False (State.ticketsAre n v) where
  fab _ _ h := h
  out _ h := h
  reg {s} a w ha h := by
    obtain ⟨hn, hv⟩ := h
    have ne : rInvStatus ≠ a := (lt_of_lt_of_le (show rInvStatus < 0x100060 by decide) (fabricCounter_ge ha)).ne
    exact ⟨hn, (State.reg_setReg_ne _ _ _ _ ne).trans hv⟩
  deps h := h.elim

theorem State.ticketsAre.applyInval {n : Nat} {v : Word} {t : State} (h : t.ticketsAre n v) (i : Inval) : (t.applyInval i).ticketsAre n v := h

/-- A start takes the next ticket number (R402). -/
theorem State.startInval_starts (k a n : Nat) (c : BitVec 10) (p : Nat) (h : s.xl.tickets.length < 16) :
    (s.startInval k a n c p).xl.tickets.length = s.xl.tickets.length + 1 ∧
      (s.startInval k a n c p).regF rInvStatus 0 16 = (s.regF rInvStatus 0 16 + 1) % 2 ^ 16 := by
  have started : (s.startInval k a n c p).ticketsAre (s.xl.tickets.length + 1)
      (((s.setRegF rInvStatus 0 16 (s.regF rInvStatus 0 16 + 1)).setRegF rInvStatus (48 + s.regF rInvStatus 0 16 % 16) 1 0).reg rInvStatus) := by
    unfold State.startInval
    rw [if_neg (by omega)]
    refine State.ticketsAre.applyInval ?_ _
    refine State.forAll_induct ?_ fun u m hu => (frameFree_ticketsAre _ _).sendRouted (p := 139) (by decide) _ _ hu
    exact ⟨by simp, rfl⟩
  obtain ⟨tickets, status⟩ := started
  refine ⟨tickets, (State.regF_congr (t := s.startInval k a n c p) status 0 16).trans ?_⟩
  exact (State.regF_setRegF_below _ _ _ _ _ _ _ (by omega) (by omega)).trans (State.regF_setRegF _ _ _ _ _ (by decide))

/-! ### The caches of an engine (R402, R403) -/

theorem State.cohortPart_congr {t : State} (h : ∀ a, t.reg a = s.reg a) (c : Nat) : t.cohortPart c = s.cohortPart c := State.regF_congr (h _) 0 6

theorem State.covers_congr {t : State} (h : ∀ a, t.reg a = s.reg a) (i : Inval) (e : Tlb) : t.covers i e = s.covers i e := by
  rw [State.covers, State.covers, State.cohortPart_congr h]

/-- An INVAL at the module leaves no covered entry in its caches. -/
theorem State.applyInval_clears (i : Inval) : (∀ k ∈ (s.applyInval i).xl.cache, s.coversCache i k = false) ∧
    (∀ e ∈ (s.applyInval i).xl.wing, ∀ x ∈ e.2, s.covers i x = false) ∧ ∀ x ∈ (s.applyInval i).xl.pins, s.covers i x.2.2.2 = false := by
  refine ⟨fun k hk => ?_, fun e he x hx => ?_, fun x hx => ?_⟩
  · simpa using (List.mem_filter.mp hk).2
  · obtain ⟨y, -, rfl⟩ := List.mem_map.mp (List.mem_filter.mp he).1
    simpa using (List.mem_filter.mp hx).2
  · simpa using (List.mem_filter.mp hx).2

/-- An INVAL at a DEP-7 leaves no covered entry in its TLB. -/
theorem State.applyInvalDep_clears (p : Nat) (i : Inval) : ∀ x ∈ ((s.applyInvalDep p i).dep p).tlb, s.covers i x = false := by
  unfold State.applyInvalDep
  dsimp only
  rw [State.dep_setDep, if_pos rfl]
  intro x hx
  simpa using (List.mem_filter.mp hx).2

/-! ### Acknowledgements (R403, R404) -/

/-- The jobs of the engines, and memory. -/
def State.jobsAre (l : List InvalJob) (m : Tab Byte) (t : State) : Prop := t.xl.jobs = l ∧ t.mem = m

theorem resultFree_jobsAre (l : List InvalJob) (m : Tab Byte) : ResultFree (State.jobsAre l m) where
  fab _ _ h := h
  fabric _ h := h
  out _ h := h
  reg _ _ h := h
  deps _ _ _ h := h
  seat d k id st data h := by
    obtain ⟨hj, hm⟩ := h
    refine ⟨?_, (State.resultDesk_mem ..).trans hm⟩
    unfold State.resultDesk
    split
    · dsimp only
      split <;> exact hj
    · exact hj
  strm _ _ _ _ _ h := h
  walks _ h := h
  reads _ h := h
  irqs _ h := h

theorem State.jobsAre.ackTicket {l : List InvalJob} {m : Tab Byte} (h : s.jobsAre l m) (k : BitVec 32) (n : BitVec 12) (st : BitVec 5) :
    (s.ackTicket k n st).jobsAre l m := by
  unfold State.ackTicket
  split
  · exact h
  · dsimp only
    split
    · exact (resultFree_jobsAre l m).raise 4 h
    · exact h

theorem State.invalDone_none {e : Nat} {k : BitVec 32} (h : ∀ j ∈ s.xl.jobs, ¬ (j.eng = e ∧ j.ticket = k)) : s.invalDone e k = s := by
  have none : s.xl.jobs.find? (fun j => j.eng = e ∧ j.ticket = k) = none :=
    List.find?_eq_none.mpr fun j hj => by simpa using h j hj
  rw [State.invalDone, none]

/-- The one job of an engine ends with its acknowledgement. -/
theorem State.invalDone_last {j : InvalJob} (h : s.xl.jobs = [j]) : (s.invalDone j.eng j.ticket).jobsAre [] s.mem := by
  have found : s.xl.jobs.find? (fun x => x.eng = j.eng ∧ x.ticket = j.ticket) = some j := by
    rw [h]
    simp
  have ended : State.jobsAre [] s.mem { s with xl := { s.xl with jobs := s.xl.jobs.filter (· ≠ j) } } := ⟨by simp [h], rfl⟩
  unfold State.invalDone
  rw [found]
  dsimp only
  split
  · exact ended.ackTicket _ _ _
  · split
    · exact (resultFree_jobsAre [] s.mem).sendRouted (fun _ => trivial) _ _ ended
    · split
      · exact (resultFree_jobsAre [] s.mem).launch _ _ _ ended
      · exact ended

theorem State.ackTicket_none {k : BitVec 32} (n : BitVec 12) (st : BitVec 5) (h : ∀ t ∈ s.xl.tickets, t.id ≠ k) : s.ackTicket k n st = s := by
  have none : s.xl.tickets.find? (fun t => t.id = k) = none := List.find?_eq_none.mpr fun t ht => by simpa using h t ht
  rw [State.ackTicket, none]

/-- A ticket for which another member has yet to answer stays outstanding. -/
theorem State.ackTicket_waits {k : BitVec 32} {t : Ticket} {n : BitVec 12} (st : BitVec 5) (h : s.xl.tickets.find? (fun x => x.id = k) = some t)
    (hw : ∃ m ∈ t.waits, m ≠ n) : (s.ackTicket k n st).xl.tickets.length = s.xl.tickets.length ∧ SameRegs s (s.ackTicket k n st) := by
  obtain ⟨m, hm, hne⟩ := hw
  have waits : ¬ (t.waits.filter (· ≠ n)).isEmpty = true := by
    rw [List.isEmpty_iff]
    exact List.ne_nil_of_mem (List.mem_filter.mpr ⟨hm, by simpa using hne⟩)
  unfold State.ackTicket
  rw [h]
  dsimp only
  rw [if_neg waits]
  exact ⟨List.length_map _, fun _ => rfl⟩

theorem State.ticketTimeout_none {k : BitVec 32} (h : ∀ t ∈ s.xl.tickets, t.id ≠ k) : s.ticketTimeout k = s := by
  have none : s.xl.tickets.find? (fun t => t.id = k) = none := List.find?_eq_none.mpr fun t ht => by simpa using h t ht
  rw [State.ticketTimeout, none]

/-- No ticket of this number is outstanding. -/
def State.noTicket (k : BitVec 32) (t : State) : Prop := ∀ x ∈ t.xl.tickets, x.id ≠ k

theorem resultFree_noTicket (k : BitVec 32) : ResultFree (State.noTicket k) where
  fab _ _ h := h
  fabric _ h := h
  out _ h := h
  reg _ _ h := h
  deps _ _ _ h := h
  seat d i id st data h := by
    unfold State.resultDesk
    split
    · dsimp only
      split <;> exact h
    · exact h
  strm _ _ _ _ _ h := h
  walks _ h := h
  reads _ h := h
  irqs _ h := h

/-- A ticket that is completed is outstanding no longer. -/
theorem State.endTicket_ends (t : Ticket) (st : BitVec 5) (n : BitVec 12) : (s.endTicket t st n).noTicket t.id := by
  refine (resultFree_noTicket t.id).raise 4 fun x hx => ?_
  exact of_decide_eq_true (List.mem_filter.mp hx).2

theorem State.ticketTimeout_ends {k : BitVec 32} {t : Ticket} (h : s.xl.tickets.find? (fun x => x.id = k) = some t) :
    (s.ticketTimeout k).noTicket k := by
  have named : t.id = k := by simpa using List.find?_some h
  rw [State.ticketTimeout, h, ← named]
  exact State.endTicket_ends _ _ _

end

/-- A row that starts an invalidation: outside the recovery state it does so, and with sixteen tickets outstanding it starts none. -/
theorem startInval_row {c : Instr} {k a n p : Nat} {h : BitVec 10} (row : ∀ s, exec c s = .next (s.bar0 (fun s => s.startInval k a n h p))) :
    (∀ s : State, s.recovery = false → 16 ≤ s.xl.tickets.length →
      Does c s (fun t => t.regBit rInvStatus 16 = true ∧ OnlyRegs s t [rInvStatus])) ∧
    ∀ s : State, s.recovery = false → exec c s = .next (s.startInval k a n h p) := by
  have starts (s : State) (hr : s.recovery = false) : exec c s = .next (s.startInval k a n h p) :=
    (row s).trans (congrArg Host.Outcome.next (State.bar0_eq_of_not_recovery s _ hr))
  refine ⟨fun s hr hfull => ⟨_, (starts s hr).trans (congrArg Host.Outcome.next (State.startInval_full hfull)), ?_⟩, starts⟩
  exact ⟨State.regBit_setRegBit _ _ _ _ (by decide), s.onlyRegs_setRegBit _ _ _⟩

/-- The rules of invalidations, R381 and R402 to R404. -/
theorem rulesInvalidations_holds : rulesInvalidations := by
  unfold rulesInvalidations
  intro full starts
  refine ⟨fun a n c => startInval_row fun s => rfl, fun c => startInval_row fun s => rfl, fun a n p => startInval_row fun s => rfl,
    fun p => startInval_row fun s => rfl, (startInval_row (c := .invWalkCaches) fun s => rfl).1, (startInval_row fun s => rfl).2,
    fun s k a n c p => State.startInval_starts k a n c p, fun f s => ?_, fun p f s => ?_,
    fun e k s h => congrArg Host.Outcome.next (State.invalDone_none h), fun e k s => rfl, fun e j s h he => ?_,
    fun f s h => congrArg Host.Outcome.next (State.ackTicket_none _ _ h), fun f t s h hw => ⟨_, rfl, State.ackTicket_waits _ h hw⟩,
    fun k s h => congrArg Host.Outcome.next (State.ticketTimeout_none h), fun k t s h => ⟨_, rfl, State.ticketTimeout_ends h⟩⟩
  · obtain ⟨cache, wing, pins⟩ := State.applyInval_clears (Inval.ofBytes f.payload) (s := { s with xl := { s.xl with
      jobs := s.xl.jobs ++ [({ eng := 0, ticket := (Inval.ofBytes f.payload).ticket, gate := (Inval.ofBytes f.payload).gate } : InvalJob)] } })
    exact ⟨_, rfl, cache, wing, pins, List.length_append, fun _ => rfl, fun _ => rfl⟩
  · exact ⟨_, rfl, State.applyInvalDep_clears p.val (Inval.ofBytes f.payload) (s := { s with xl := { s.xl with
      jobs := s.xl.jobs ++ [({ eng := p.val + 1, ticket := (Inval.ofBytes f.payload).ticket, gate := (Inval.ofBytes f.payload).gate } : InvalJob)] } }),
      fun _ => rfl, fun _ => rfl⟩
  · obtain ⟨jobs, mem⟩ := State.invalDone_last h
    exact ⟨_, congrArg (fun n => Host.Outcome.next (s.invalDone n j.ticket)) he.symm, jobs, SameMemory.of_mem mem⟩

/-- Settles O27: walks end as their entries say and are counted, a resume that none waits for is refused, and an INVAL leaves no covered
entry behind. -/
theorem translation : Obligations.Translation := ⟨rulesWalks_holds, rulesInvalidations_holds⟩

end Sys2Proof.Machine
end

section
/-! SUPPORT. Events of the module's source engine. -/

namespace Sys2Proof.Machine

section
variable {s t : State} {d : BitVec 12} {f : Frame}

/-- No stream engine has anything, and the host awaits no read. -/
def State.calm (s : State) : Prop := s.strms = [] ∧ s.host.reads = []

theorem State.settleHost_calm (h : s.host.reads = []) : s.settleHost = s := by
  have round : s.hostRound = s := by
    have kept : (s.forAll (s.host.reads.filter (fun (b : Bar2) => b.sent && b.parts.all (fun x => x.2.isSome))) State.endBar2) = s := by
      rw [h]
      rfl
    unfold State.hostRound
    dsimp only
    rw [kept, h]
    rfl
  rw [State.settleHost, h]
  exact round

theorem State.settle_calm (h : s.calm) : s.settle 0 = s := by
  obtain ⟨hs, hr⟩ := h
  rw [State.settle, State.settleStreams_of_idle hs]
  exact State.settleHost_calm hr

/-- Only the Desks differ, as after a Seat's access has been given its result. -/
theorem State.resultDesk_only (s : State) (i k id : Nat) (st : BitVec 5) (data : List Byte) :
    { s.resultDesk i k id st data with desks := s.desks } = s := by
  unfold State.resultDesk
  split
  · dsimp only
    split <;> rfl
  · rfl

theorem State.resultDesk_fab (s : State) (i k id : Nat) (st : BitVec 5) (data : List Byte) : (s.resultDesk i k id st data).fab = s.fab :=
  (congrArg State.fab (s.resultDesk_only i k id st data) :)

theorem State.reg_resultDesk (s : State) (i k id : Nat) (st : BitVec 5) (data : List Byte) (a : Nat) :
    (s.resultDesk i k id st data).reg a = s.reg a :=
  congrArg (tget regReset · a) (congrArg State.regs (s.resultDesk_only i k id st data) :)

theorem State.calm.resultDesk (h : s.calm) (i k id : Nat) (st : BitVec 5) (data : List Byte) : (s.resultDesk i k id st data).calm := by
  obtain ⟨hs, hr⟩ := h
  exact ⟨(congrArg State.strms (s.resultDesk_only i k id st data) :).trans hs,
    (congrArg (fun u : State => u.host.reads) (s.resultDesk_only i k id st data) :).trans hr⟩

theorem State.calm.withFab (h : s.calm) (x : Fab) : ({ s with fab := x } : State).calm := h

theorem State.calm.colourOf (h : s.calm) (e : Nat) (c : BitVec 10) (n : Nat) : (s.colourOf e c n).2.calm := by
  have either {b : Bool} {x y : BitVec 2 × State} (hx : x.2.calm) (hy : y.2.calm) : (if b then x else y).2.calm := by
    cases b
    · exact hy
    · exact hx
  exact either h h

/-! ### Frames that the module's engine launches -/

/-- The port at which a frame of the module's engine enters the Centroid. -/
def State.launchPort (s : State) (o : Owner) : Nat :=
  match ownerSink s o with
  | .port q => q
  | _ => 139

theorem State.launch_module (o : Owner) (f : Frame) : s.launch 0 o f = s.sendOwn (s.launchPort o) false (Frame.sealed f) := rfl

theorem FrameFree.launchModule {P : State → Prop} (hP : FrameFree True P) (o : Owner) (f : Frame) (h : P s) : P (s.launch 0 o f) := by
  rw [State.launch_module]
  exact hP.sendOwn (fun _ => trivial) _ _ h

/-- One pair of the module's engine, a register below the fabric's counters, memory, and that the state is calm. -/
def State.pairWith (k : Nat) (x : Pair) (v : Word) (m : Tab Byte) (t : State) : Prop :=
  tget pairDefault t.fab.pairs k = x ∧ t.reg rRtxCount = v ∧ t.mem = m ∧ t.calm

theorem rRtxCount_ne {a : Nat} (h : fabricCounter a) : rRtxCount ≠ a := by
  have sw (n off : Nat) : rRtxCount < swReg n off := by
    simp only [swReg, rPortBlock, rIntPort, rRtxCount]
    split <;> omega
  obtain ⟨n, rfl⟩ | ⟨n, c, -, rfl⟩ | rfl | rfl | rfl | rfl := h
  · exact (sw _ _).ne
  · exact (sw _ _).ne
  · decide
  · decide
  · decide
  · decide

theorem frameFree_pairWith (k : Nat) (x : Pair) (v : Word) (m : Tab Byte) : FrameFree True (State.pairWith k x v m) where
  fab y hy h := by
    obtain ⟨hp, hrest⟩ := h
    exact ⟨(congrArg (fun z : Fab => tget pairDefault z.pairs k) hy :).trans hp, hrest⟩
  out _ h := h
  reg w ha h := by
    obtain ⟨hp, hv, hrest⟩ := h
    exact ⟨hp, (State.reg_setReg_ne _ _ _ _ (rRtxCount_ne ha)).trans hv, hrest⟩
  deps _ _ _ h := h

/-! ### Answers to a SYNC, and timeouts -/

theorem State.syncAnswer_ok (hok : f.status = stOk) (hs : (s.pair 0 f.src.toNat).st = .syncing) (hw : (s.pair 0 f.src.toNat).waiting = []) :
    s.syncAnswer 0 f = s.setPair 0 f.src.toNat { s.pair 0 f.src.toNat with st := .opened, answer := none } := by
  unfold State.syncAnswer
  dsimp only
  rw [if_pos hok, if_neg (by simp [hs]), if_neg (by simp [hok])]
  refine State.pump_of_empty ?_ _
  rw [State.pair_setPair]
  exact hw

theorem State.syncAnswer_unasked (hok : f.status = stOk) (hs : (s.pair 0 f.src.toNat).st ≠ .syncing) : s.syncAnswer 0 f = s := by
  unfold State.syncAnswer
  dsimp only
  rw [if_pos hok, if_pos hs]

theorem Frame.fpa_node (f : Frame) : (BitVec.ofNat 12 (f.fpa.toNat / 2 ^ 44)).toNat = f.fpa.toNat / 2 ^ 44 := by
  have := f.fpa.isLt
  rw [BitVec.toNat_ofNat]
  omega

theorem State.syncAnswer_refused (hno : f.status ≠ stOk) (hs : (s.pair 0 (f.fpa.toNat / 2 ^ 44)).st = .syncing) :
    s.syncAnswer 0 f = s.setPair 0 (f.fpa.toNat / 2 ^ 44) { s.pair 0 (f.fpa.toNat / 2 ^ 44) with answer := some f.status } := by
  unfold State.syncAnswer
  dsimp only
  rw [if_neg hno, Frame.fpa_node, if_neg (fun h => h hs), if_pos hno]

theorem State.rtxExpired_unrouted (h : s.engRoute 0 d = none) : s.rtxExpired 0 d = s := by
  unfold State.rtxExpired
  dsimp only
  split
  · rw [State.resend, h]
  · rw [h]
  · rw [h]

/-- A retransmission counts and sends the one outstanding request again. -/
theorem State.rtxExpired_resends {r : SrcReq} (hroute : (s.engRoute 0 d).isSome = true) (ho : (s.pair 0 d.toNat).st = .opened)
    (hsent : (s.pair 0 d.toNat).sent = [r]) (htx : r.tx ≤ s.rtxLimit 0) (hc : s.calm) :
    (s.rtxExpired 0 d).pairWith d.toNat { s.pair 0 d.toNat with sent := [{ r with tx := r.tx + 1 }] } (s.reg rRtxCount + 1) s.mem := by
  obtain ⟨rt, hrt⟩ := Option.isSome_iff_exists.mp hroute
  have go : (decide (r.tx < s.rtxLimit 0 + 1)) = true := decide_eq_true (Nat.lt_succ_of_le htx)
  have step : s.rtxExpired 0 d = s.resend 0 d (fun _ => true) true := by
    unfold State.rtxExpired
    dsimp only
    rw [ho]
  rw [step]
  unfold State.resend
  rw [hrt]
  dsimp only
  simp only [hsent, List.map_cons, List.map_nil, List.filter_cons, List.filter_nil, Bool.true_and, go, if_true]
  refine FrameFree.launchModule (frameFree_pairWith _ _ _ _) _ _ ⟨?_, State.reg_count _ _, rfl, hc⟩
  exact (congrArg (tget pairDefault _) (Nat.zero_add _).symm).trans (State.pair_setPair 0 d.toNat _)

theorem State.winExpired_unknown {id : Nat} (hs : ∀ r ∈ (s.pair 0 d.toNat).sent, r.id ≠ id) (hw : ∀ r ∈ (s.pair 0 d.toNat).waiting, r.id ≠ id) :
    s.winExpired 0 d id = s := by
  have sent : (s.pair 0 d.toNat).sent.find? (fun r => r.id = id) = none := List.find?_eq_none.mpr fun r hr => by simpa using hs r hr
  have waiting : (s.pair 0 d.toNat).waiting.find? (fun r => r.id = id) = none := List.find?_eq_none.mpr fun r hr => by simpa using hw r hr
  unfold State.winExpired
  dsimp only
  rw [sent]
  dsimp only
  rw [waiting]

/-- With one pair alone, in which nothing waits, the engine has nothing to send. -/
theorem State.pumpAll_lone {x : Pair} (hpairs : s.pairsOf 0 = [(d.toNat, s.pair 0 d.toNat)]) (hw : x.waiting = [])
    (ht : t.fab = (s.setPair 0 d.toNat x).fab) : t.pumpAll 0 = t := by
  refine State.pumpAll_of_empty fun y hy => ?_
  have same : t.pairsOf 0 = (s.setPair 0 d.toNat x).pairsOf 0 := by rw [State.pairsOf, State.pairsOf, ht]
  rw [same] at hy
  obtain ⟨hmem, hkey⟩ := List.mem_filter.mp hy
  have key : y.1 = d.toNat := by
    obtain rfl | hold := mem_tput _ _ _ _ _ hmem
    · exact Nat.zero_add _
    · have listed : y ∈ s.pairsOf 0 := List.mem_filter.mpr ⟨hold, hkey⟩
      rw [hpairs, List.mem_singleton] at listed
      rw [listed]
  have pair : t.pair 0 (y.1 % 4096) = x := by
    rw [key, Nat.mod_eq_of_lt d.isLt]
    exact (congrArg (fun z : Fab => tget pairDefault z.pairs (4096 * 0 + d.toNat)) ht).trans (State.pair_setPair _ _ _)
  rw [pair]
  exact hw

/-- The one outstanding request of the one pair leaves it, and its Seat's access has the result. -/
theorem State.winExpired_desk {r : SrcReq} {w : DeskId} {k : Fin 4} {n id : Nat} (hsent : (s.pair 0 d.toNat).sent = [r]) (hid : r.id = id)
    (ho : (s.pair 0 d.toNat).st = .opened) (hw : (s.pair 0 d.toNat).waiting = []) (hown : r.owner = .desk (DeskId.idx w) k.val n)
    (hop : r.f.opcode ≠ 3) (hpairs : s.pairsOf 0 = [(d.toNat, s.pair 0 d.toNat)]) :
    s.winExpired 0 d id = (s.setPair 0 d.toNat { s.pair 0 d.toNat with sent := [], st := .syncPending }).resultDesk (DeskId.idx w) k.val n
      (if r.aged then stAged else stWindow) [] := by
  have found : [r].find? (fun r => r.id = id) = some r := by simp [hid]
  have left : [r].filter (fun y => y.id ≠ id) = [] := by simp [hid]
  have none : failData r.f 0 = [] := if_neg hop
  unfold State.winExpired
  dsimp only
  rw [hsent, found]
  dsimp only
  rw [left, if_pos ho, none, hown]
  exact State.pumpAll_lone (x := { s.pair 0 d.toNat with sent := [], st := .syncPending }) hpairs hw (State.resultDesk_fab _ _ _ _ _ _)

/-- An AGED notice outside OPEN marks its request alone. -/
theorem State.agedNotice_marks (hown : s.answeredPair 0 f = none) (ho : (s.pair 0 f.src.toNat).st ≠ .opened) :
    s.agedNotice 0 f = s.setPair 0 f.src.toNat { s.pair 0 f.src.toNat with
      sent := (s.pair 0 f.src.toNat).sent.map (fun (r : SrcReq) => if r.f.seq = f.seq then { r with aged := true } else r) } := by
  have node : (BitVec.ofNat 12 (s.answeredNode 0 f)).toNat = f.src.toNat := by
    rw [State.answeredNode, hown, Option.getD_none, BitVec.toNat_ofNat, Nat.mod_eq_of_lt f.src.isLt]
  unfold State.agedNotice
  dsimp only
  rw [node]
  exact if_neg fun h => ho h.1

/-! ### Room in a window -/

/-- The first waiting request of an OPEN pair, sent with its sequence number, and no other. -/
theorem State.pump_one {r : SrcReq} (hc : s.calm) (hw : (s.pair 0 d.toNat).waiting = [r]) (ho : (s.pair 0 d.toNat).st = .opened)
    (hroute : (s.engRoute 0 d).isSome = true) (hheld : s.isHeld 0 d.toNat = false) (hown : s.isOwnMst 0 r = false)
    (hmst : s.mstAllows 0 r = true) (hfit : s.windowFits 0 d.toNat r = true) :
    ∃ q x v m, (s.pump 0 d pumpFuel).pairWith d.toNat x v m ∧ x.waiting = [] ∧ x.nextSeq = (s.pair 0 d.toNat).nextSeq + 1 ∧
      x.sent = (s.pair 0 d.toNat).sent ++ [q] ∧ q.id = r.id ∧ q.f.seq = (s.pair 0 d.toNat).nextSeq ∧ q.f.payload = r.f.payload := by
  obtain ⟨rt, hrt⟩ := Option.isSome_iff_exists.mp hroute
  have sends : ∃ t q x v m, s.sendFirst 0 d rt = some t ∧ t.pairWith d.toNat x v m ∧ x.waiting = [] ∧
      x.nextSeq = (s.pair 0 d.toNat).nextSeq + 1 ∧ x.sent = (s.pair 0 d.toNat).sent ++ [q] ∧ q.id = r.id ∧
      q.f.seq = (s.pair 0 d.toNat).nextSeq ∧ q.f.payload = r.f.payload := by
    unfold State.sendFirst
    dsimp only
    rw [hw]
    simp only [hheld, hmst, hfit, hown, Bool.not_true, Bool.or_self, Bool.false_eq_true, if_false]
    have coloured (b : BitVec 2 × State) (hb : b.2.calm) (c : Nat) (x : Pair) (o : Owner) (g : Frame) :
        ((b.2.setPair 0 d.toNat x).launch 0 o g).pairWith d.toNat x (b.2.reg rRtxCount) b.2.mem :=
      FrameFree.launchModule (frameFree_pairWith _ _ _ _) _ _ ⟨(tget_tput ..).trans (if_pos (by omega)), rfl, rfl, hb⟩
    refine ⟨_, _, _, _, _, rfl, coloured _ ?_ 0 _ _ _, rfl, rfl, rfl, rfl, rfl, rfl⟩
    split
    · exact hc
    · split
      · exact hc
      · exact hc.colourOf _ _ _
  obtain ⟨t, q, x, v, m, ht, hx, hwait, hrest⟩ := sends
  refine ⟨q, x, v, m, ?_, hwait, hrest⟩
  have first : s.pump 0 d pumpFuel = t.pump 0 d (pumpFuel - 1) := by
    show s.pump 0 d ((pumpFuel - 1) + 1) = _
    rw [State.pump]
    rw [hw, hheld]
    simp only [List.take_succ_cons, List.take_zero, List.any_cons, List.any_nil, hown, hrt, ho, ht, List.isEmpty_cons, Bool.or_self,
      Bool.false_eq_true, if_false]
  have still : (t.pair 0 d.toNat).waiting = [] := by
    have pair : t.pair 0 d.toNat = x := (congrArg (tget pairDefault t.fab.pairs) (Nat.zero_add _)).trans hx.1
    rw [pair]
    exact hwait
  rw [first, State.pump_of_empty still]
  exact hx

/-! ### Responses -/

theorem State.ttAnswered_none (hvc : f.vc = 0) (h : ∀ r ∈ s.fab.tt, ¬ (r.dest = f.src ∧ r.index = f.seq)) : s.moduleResponse f = s.count rRespDrop := by
  have none : s.ttAnswered f = none := by
    rw [State.ttAnswered, if_pos hvc]
    exact List.find?_eq_none.mpr fun r hr => by simpa using h r hr
  rw [State.moduleResponse, none]
  exact if_pos hvc

theorem State.moduleResponse_taken (hvc : f.vc ≠ 0) (hown : mayBeGenerated f = false) : s.moduleResponse f = s.takeResponse 0 f := by
  have none : s.ttAnswered f = none := by
    rw [State.ttAnswered, if_neg hvc, hown]
    rfl
  rw [State.moduleResponse, none]
  exact if_neg hvc

theorem State.answeredNode_src (hown : mayBeGenerated f = false) : s.answeredNode 0 f = f.src.toNat := by
  rw [State.answeredNode, State.answeredPair, hown]
  rfl

theorem State.takeResponse_unknown (hown : mayBeGenerated f = false) (h : ∀ r ∈ (s.pair 0 f.src.toNat).sent, r.f.seq ≠ f.seq) :
    s.takeResponse 0 f = s.count rRespDrop := by
  have none : (s.pair 0 f.src.toNat).sent.find? (fun r => r.f.seq = f.seq) = none := List.find?_eq_none.mpr fun r hr => by simpa using h r hr
  unfold State.takeResponse
  dsimp only
  rw [State.answeredNode_src hown, none]
  rfl

theorem State.moduleResponse_timed {r : TtReq} {w : DeskId} {k : Fin 4} {n : Nat} (hvc : f.vc = 0)
    (hf : s.fab.tt.find? (fun r => r.dest = f.src ∧ r.index = f.seq) = some r) (hown : r.owner = .desk (DeskId.idx w) k.val n) :
    s.moduleResponse f = ({ s with fab := { s.fab with tt := s.fab.tt.erase r } } : State).resultDesk (DeskId.idx w) k.val n f.status f.payload := by
  have found : s.ttAnswered f = some r := by
    rw [State.ttAnswered, if_pos hvc]
    exact hf
  rw [State.moduleResponse, found]
  dsimp only
  rw [hown]
  rfl

/-- The answer to the one outstanding request of the one pair frees it. -/
theorem State.takeResponse_desk {r : SrcReq} {w : DeskId} {k : Fin 4} {n : Nat} (hok : f.status = stOk)
    (hpairs : s.pairsOf 0 = [(f.src.toNat, s.pair 0 f.src.toNat)]) (hsent : (s.pair 0 f.src.toNat).sent = [r])
    (hw : (s.pair 0 f.src.toNat).waiting = []) (hseq : r.f.seq = f.seq) (hown : r.owner = .desk (DeskId.idx w) k.val n) :
    s.takeResponse 0 f = (s.pairFree 0 f.src.toNat).resultDesk (DeskId.idx w) k.val n stOk f.payload := by
  have own : mayBeGenerated f = false := by
    rw [mayBeGenerated, hok]
    rfl
  have uncut : ¬ (f.status = stNoRoute ∨ f.status = stPartition) := by
    rw [hok]
    decide
  unfold State.takeResponse
  dsimp only
  rw [State.answeredNode_src own]
  simp only [hsent, List.find?_cons, hseq, decide_true, if_neg uncut, State.forAll_cons, if_true]
  rw [if_neg fun g => uncut g.1, hown, hok, show [r].filter (fun y => ! [r].any fun z => decide (z.f.seq = y.f.seq)) = [] by simp]
  exact State.pumpAll_lone (x := (s.pairFree 0 f.src.toNat).pair 0 f.src.toNat) hpairs
    ((congrArg Pair.waiting (State.pair_setPair _ _ _)).trans hw) (by rw [State.pairFree, State.pair_setPair]; exact State.resultDesk_fab _ _ _ _ _ _)

theorem State.count_respDrop (s : State) : (s.count rRespDrop).reg rRespDrop = s.reg rRespDrop + 1 ∧ OnlyRegs s (s.count rRespDrop) [rRespDrop] :=
  ⟨State.reg_count _ _, s.onlyRegs_setReg _ _ _ List.mem_cons_self⟩

end

/-- The rules of the source engine's events, R84, R186, R196, R197 and R206. -/
theorem rulesSourceEvents_holds : rulesSourceEvents := by
  unfold rulesSourceEvents
  intro calm
  refine ⟨fun e f s => rfl, fun f s hc hok hs hw => ?_, fun f s hc hno hs => ?_, fun f s hc hok hs => congrArg Host.Outcome.next ?_,
    fun e d s => rfl, fun d s hc hr => congrArg Host.Outcome.next ?_, fun d r s hc hr ho hsent htx => ?_, fun e d id s => rfl,
    fun d id s hc hs hw => congrArg Host.Outcome.next ?_, fun d id r w k n s hc hsent hid ho hw hown hop hpairs => ?_, fun e f s => rfl,
    fun f s hc ha ho => ?_, fun e d s => rfl, fun d s hc h => congrArg Host.Outcome.next ?_,
    fun d r s hc hw ho hr hh hown hm hfit => ?_, fun f s hc hvc h => ?_, fun f s hc hvc hown h => ?_,
    fun f r w k n s hc hvc hf hown => ?_, fun f r w k n s hc hvc hok hpairs hsent hw hseq hown => ?_, fun p f s => rfl⟩
  · have step := State.syncAnswer_ok hok hs hw
    refine ⟨_, congrArg Host.Outcome.next ((congrArg (State.settle · 0) step).trans (State.settle_calm hc)), rfl, State.pair_setPair _ _ _⟩
  · have step := State.syncAnswer_refused hno hs
    refine ⟨_, congrArg Host.Outcome.next ((congrArg (State.settle · 0) step).trans (State.settle_calm hc)), rfl, State.pair_setPair _ _ _⟩
  · exact (congrArg (State.settle · 0) (State.syncAnswer_unasked hok hs)).trans (State.settle_calm hc)
  · exact (congrArg (State.settle · 0) (State.rtxExpired_unrouted hr)).trans (State.settle_calm hc)
  · obtain ⟨pair, count, mem, still⟩ := State.rtxExpired_resends hr ho hsent htx hc
    refine ⟨_, congrArg Host.Outcome.next (State.settle_calm still), ?_, count, SameMemory.of_mem mem⟩
    exact congrArg Pair.sent ((congrArg (tget pairDefault (s.rtxExpired 0 d).fab.pairs) (Nat.zero_add _)).trans pair)
  · exact (congrArg (State.settle · 0) (State.winExpired_unknown hs hw)).trans (State.settle_calm hc)
  · have step := State.winExpired_desk hsent hid ho hw hown hop hpairs
    refine ⟨_, congrArg Host.Outcome.next ((congrArg (State.settle · 0) step).trans (State.settle_calm (State.calm.resultDesk (State.calm.withFab hc _) _ _ _ _ _))), ?_,
      answered_resultDesk _ _ _⟩
    rw [State.pair, State.resultDesk_fab]
    exact State.pair_setPair _ _ _
  · have step := State.agedNotice_marks ha ho
    refine ⟨_, congrArg Host.Outcome.next ((congrArg (State.settle · 0) step).trans (State.settle_calm hc)), rfl, State.pair_setPair _ _ _⟩
  · have step : s.pump 0 d pumpFuel = s := h.elim (fun hw => State.pump_of_empty hw _) fun hh => State.pump_of_held hh _
    exact (congrArg (State.settle · 0) step).trans (State.settle_calm hc)
  · obtain ⟨q, x, v, m, ⟨pair, -, -, still⟩, hwait, hnext, hsent, hid, hseq, hpay⟩ := State.pump_one hc hw ho hr hh hown hm hfit
    have read : (s.pump 0 d pumpFuel).pair 0 d.toNat = x := (congrArg (tget pairDefault _) (Nat.zero_add _)).trans pair
    refine ⟨s.pump 0 d pumpFuel, congrArg Host.Outcome.next (State.settle_calm still), ?_⟩
    dsimp only
    rw [read]
    exact ⟨hwait, hnext, q, by simp [hsent], hsent, hid, hseq, hpay⟩
  · exact ⟨_, congrArg Host.Outcome.next ((congrArg (State.settle · 0) (State.ttAnswered_none hvc h)).trans (State.settle_calm hc)), s.count_respDrop⟩
  · have step := (State.moduleResponse_taken hvc hown).trans (State.takeResponse_unknown hown h)
    exact ⟨_, congrArg Host.Outcome.next ((congrArg (State.settle · 0) step).trans (State.settle_calm hc)), s.count_respDrop⟩
  · have step := State.moduleResponse_timed hvc hf hown
    refine ⟨_, congrArg Host.Outcome.next ((congrArg (State.settle · 0) step).trans (State.settle_calm (State.calm.resultDesk (State.calm.withFab hc _) _ _ _ _ _))), ?_,
      answered_resultDesk _ _ _, SameMemory.of_mem (State.resultDesk_mem ..), State.reg_resultDesk _ _ _ _ _ _⟩
    rw [State.resultDesk_fab]
  · have own : mayBeGenerated f = false := by
      rw [mayBeGenerated, hok]
      rfl
    have step := (State.moduleResponse_taken hvc own).trans (State.takeResponse_desk hok hpairs hsent hw hseq hown)
    refine ⟨_, congrArg Host.Outcome.next ((congrArg (State.settle · 0) step).trans (State.settle_calm (State.calm.resultDesk (State.calm.withFab hc _) _ _ _ _ _))), ?_,
      answered_resultDesk _ _ _, SameMemory.of_mem (State.resultDesk_mem ..), State.reg_resultDesk _ _ _ _ _ _⟩
    rw [State.pair, State.resultDesk_fab]
    exact congrArg Pair.sent (State.pair_setPair _ _ _)

end Sys2Proof.Machine
end

section
/-! SUPPORT. Frames at the Centroid: ingress, credits, the overflow region, averages and the age clock. -/

namespace Sys2Proof.Machine

section
variable {s t : State} {f : Frame} {p id : Nat} {q : QFrame}

/-! ### Ingress -/

/-- What is put back to the sender of a frame: beside the DEP-7s, the listed registers and outputs alone. -/
theorem State.onlyRegsOut_returnCredit {l : List Nat} (h : OnlyRegs s t l) (v n : Nat) : OnlyRegsOut s { t.returnCredit p v n with deps := s.deps } l := by
  obtain ⟨rest, regs⟩ := h
  obtain ⟨ds, out, e⟩ := t.returnCredit_only p v n
  rw [e]
  have deps : t.deps = s.deps := (congrArg State.deps rest :)
  refine ⟨?_, regs⟩
  have base := congrArg (fun u : State => ({ u with deps := s.deps, out := s.out } : State)) rest
  exact base

theorem State.reg_returnCredit (s : State) (p v n a : Nat) : (s.returnCredit p v n).reg a = s.reg a := by
  obtain ⟨ds, out, e⟩ := s.returnCredit_only p v n
  rw [e]
  rfl

theorem State.arrive_badHeader (h : Frame.headerOk f = false) : s.arrive p f = (s.count (swReg p swHdrErr)).returnCredit p f.vc.toNat (Frame.cells f) := by
  unfold State.arrive
  dsimp only
  rw [h]
  rfl

theorem State.bellIngress_passes (hp : s.portPart p = some f.part.toNat) (hh : Frame.headerOk f = true) (hc : f.crc = Frame.goodCrc f) :
    s.bellIngress p f = (true, s) := by
  rw [State.bellIngress, if_neg (by simp [hp]), if_neg (by simp [hh]), if_neg (by simp [← hc])]

theorem State.bellIngress_foreign (hp : s.portPart p ≠ some f.part.toNat) : s.bellIngress p f = (false, s.count (swReg p swPartDrop)) := if_pos hp

theorem exec_frameArrival_bell {p : Fin 140} (h : f.opcode = 0x70 ∨ f.opcode = 0x71) : exec (.frameArrival p f) s =
    .next (if (s.bellIngress p.val f).1 then (((s.bellIngress p.val f).2.returnCredit p.val f.vc.toNat (Frame.cells f)).emit (.deliver .bell f))
      else (s.bellIngress p.val f).2.returnCredit p.val f.vc.toNat (Frame.cells f)) := if_pos h

/-! ### Credits -/

theorem State.credit_setCredit (p v n a b : Nat) : (s.setCredit p v n).credit a b = if 4 * p + v = 4 * a + b then n else s.credit a b := by
  simp [State.credit, State.setCredit, tget_tput]

/-! ### The overflow region -/

/-- The queue in which the frame has another place. -/
def replaced (id : Nat) (l : Place) (voq : List QFrame) : List QFrame :=
  voq.map (fun (x : QFrame) => if x.id = id then { x with place := l } else x)

theorem find?_replaced {l : Place} {voq : List QFrame} (h : voq.find? (fun q => q.id = id) = some q) :
    (replaced id l voq).find? (fun q => q.id = id) = some { q with place := l } := by
  induction voq with
  | nil => exact absurd h (by simp)
  | cons x r ih =>
    rw [replaced, List.map_cons]
    by_cases hx : x.id = id
    · rw [List.find?_cons_of_pos (by simpa using hx)] at h
      obtain rfl : x = q := Option.some.inj h
      rw [if_pos hx, List.find?_cons_of_pos (by simpa using hx)]
    · rw [List.find?_cons_of_neg (by simpa using hx)] at h
      rw [if_neg hx, List.find?_cons_of_neg (by simpa using hx)]
      exact ih h

/-- The state in which the frame has another place. -/
def State.place (s : State) (id : Nat) (l : Place) : State := { s with fab := { s.fab with voq := replaced id l s.fab.voq } }

theorem exec_overflowWrite_fits (hf : s.fab.voq.find? (fun q => q.id = id) = some q) (hp : q.place = .waitOverflow) (hs : q.sent = 0)
    (hr : s.ovfRoom q.cells = true) : exec (.overflowWrite id) s =
      .next ((((s.place id .overflow).count (swReg q.out swOvfFrames)).returnCredit q.inp q.vc q.cells).enter) := by
  have run : execOverflowWrite id s =
      .next ((((s.place id .overflow).count (swReg q.out swOvfFrames)).returnCredit q.inp q.vc q.cells).enter) := by
    unfold execOverflowWrite
    rw [hf]
    exact if_pos ⟨hp, hs, hr⟩
  exact run

theorem exec_overflowReadback_fits (hf : s.fab.voq.find? (fun q => q.id = id) = some q) (hp : q.place = .overflow)
    (hh : s.head q.inp q.out q.vc = some q) (hr : q.cells ≤ s.sharedFree) : exec (.overflowReadback id) s = .next (s.place id .shared) := by
  have run : execOverflowReadback id s = .next (s.place id .shared) := by
    unfold execOverflowReadback
    rw [hf]
    exact if_pos ⟨hp, hh, hr⟩
  exact run

theorem exec_overflowReadback_full (hf : s.fab.voq.find? (fun q => q.id = id) = some q) (hr : s.sharedFree < q.cells) :
    exec (.overflowReadback id) s = .next s := by
  have run : execOverflowReadback id s = .next s := by
    unfold execOverflowReadback
    rw [hf]
    exact if_neg fun h => by omega
  exact run

/-! ### Averages and the age clock (R228, R229) -/

/-- What one update of WRED averages leaves: the queues, and all but the fabric. -/
structure AvgOnly (s t : State) : Prop where
  voq : t.fab.voq = s.fab.voq
  rest : { t with fab := s.fab } = s

/-- The average that queue `k` moves to. -/
def State.wredNext (s : State) (k : Nat) : Nat :=
  wredUpdate (s.wredAvg (k / 2) (k % 2 + 1)) (s.cellsOf (fun q => q.out = k / 2 && q.vc = k % 2 + 1)) (s.regF (s.wredAt (k / 2) (k % 2 + 1) 0 + 8) 48 4)

theorem State.wredMove_avgOnly (s : State) (k : Nat) : AvgOnly s (s.wredMove k) := ⟨rfl, rfl⟩

theorem State.wred_wredMove (s : State) (k j : Nat) : tget (fun _ => 0) (s.wredMove k).fab.wred j = if k = j then s.wredNext k else tget (fun _ => 0) s.fab.wred j :=
  tget_tput ..

theorem AvgOnly.wredNext (h : AvgOnly s t) {k : Nat} (hk : tget (fun _ => 0) t.fab.wred k = tget (fun _ => 0) s.fab.wred k) : t.wredNext k = s.wredNext k := by
  obtain ⟨voq, rest⟩ := h
  have index : 2 * (k / 2) + (k % 2 + 1) - 1 = k := by omega
  have avg : t.wredAvg (k / 2) (k % 2 + 1) = s.wredAvg (k / 2) (k % 2 + 1) := by
    rw [State.wredAvg, State.wredAvg, index]
    exact hk
  have regs (a : Nat) : t.reg a = s.reg a := (congrArg (fun u : State => u.reg a) rest :)
  have address (o v c : Nat) : t.wredAt o v c = s.wredAt o v c := by
    rw [State.wredAt, State.wredAt, State.regF_congr (regs _)]
  rw [State.wredNext, State.wredNext, avg, State.cellsOf, State.cellsOf, voq, address, State.regF_congr (regs _)]

/-- Updates of distinct queues move each of them once. -/
theorem State.wred_forAll (l : List Nat) (hn : l.Nodup) : AvgOnly s (s.forAll l State.wredMove) ∧
    ∀ k, tget (fun _ => 0) (s.forAll l State.wredMove).fab.wred k = if k ∈ l then s.wredNext k else tget (fun _ => 0) s.fab.wred k := by
  induction l generalizing s with
  | nil => exact ⟨⟨rfl, rfl⟩, fun k => by simp only [List.not_mem_nil, if_false]; rfl⟩
  | cons x r ih =>
    obtain ⟨hx, hr⟩ := List.nodup_cons.mp hn
    obtain ⟨⟨voq, rest⟩, avg⟩ := ih (s := s.wredMove x) hr
    rw [State.forAll_cons]
    refine ⟨⟨voq, ?_⟩, fun k => ?_⟩
    · have e := congrArg (fun u : State => ({ u with fab := s.fab } : State)) rest
      exact e
    · rw [avg k]
      by_cases hk : k ∈ r
      · have other : x ≠ k := fun e => hx (e ▸ hk)
        rw [if_pos hk, if_pos (List.mem_cons_of_mem _ hk)]
        exact (s.wredMove_avgOnly x).wredNext ((s.wred_wredMove x k).trans (if_neg other))
      · rw [if_neg hk, State.wred_wredMove]
        by_cases same : x = k
        · rw [if_pos same, if_pos (same ▸ List.mem_cons_self), same]
        · rw [if_neg same, if_neg (by simp [hk, Ne.symm same])]

theorem State.wredAvg_update (s : State) {o v : Nat} (ho : o < 140) (hv : v = 1 ∨ v = 2) :
    (s.forAll (List.range 280) State.wredMove).wredAvg o v =
      wredUpdate (s.wredAvg o v) (s.cellsOf (fun q => q.out = o && q.vc = v)) (s.regF (s.wredAt o v 0 + 8) 48 4) := by
  have out : (2 * o + v - 1) / 2 = o := by omega
  have vc : (2 * o + v - 1) % 2 + 1 = v := by omega
  have moved := (State.wred_forAll (s := s) (List.range 280) List.nodup_range).2 (2 * o + v - 1)
  rw [if_pos (List.mem_range.mpr (by omega)), State.wredNext, out, vc] at moved
  exact moved

end

/-- The rules of frames at the Centroid, R178, R182, R203, R223, R228, R229 and R649. -/
theorem rulesCentroidEvents_holds : rulesCentroidEvents := by
  unfold rulesCentroidEvents
  intro only
  refine ⟨fun p f s h70 h71 hh => ?_, fun p f s hop hp hh hc => ?_, fun p f s hop hp => ?_, fun p v n s => ?_, fun id q s hf hp hs hr he => ?_,
    fun id q s hf hp hh hr => ?_, fun id q s hf hr => exec_overflowReadback_full hf hr, fun s => ?_, fun s => ?_⟩
  · have run : exec (.frameArrival p f) s = .next (s.arrive p.val f) := if_neg fun h => h.elim h70 h71
    refine ⟨_, run.trans (congrArg Host.Outcome.next (State.arrive_badHeader hh)), ?_, ?_⟩
    · exact (State.reg_returnCredit _ _ _ _ _).trans (State.reg_count _ _)
    · exact State.onlyRegsOut_returnCredit (s.onlyRegs_setReg _ _ _ List.mem_cons_self) _ _
  · refine ⟨(s.returnCredit p.val f.vc.toNat (Frame.cells f)).emit (.deliver .bell f), (exec_frameArrival_bell hop).trans ?_, rfl, ?_⟩
    · rw [State.bellIngress_passes hp hh hc]
      rfl
    · exact State.onlyRegsOut_returnCredit (t := s) ⟨rfl, fun _ _ => rfl⟩ _ _
  · refine ⟨(s.count (swReg p.val swPartDrop)).returnCredit p.val f.vc.toNat (Frame.cells f), (exec_frameArrival_bell hop).trans ?_, ?_, ?_⟩
    · rw [State.bellIngress_foreign hp]
      rfl
    · exact (State.reg_returnCredit _ _ _ _ _).trans (State.reg_count _ _)
    · exact State.onlyRegsOut_returnCredit (s.onlyRegs_setReg _ _ _ List.mem_cons_self) _ _
  · refine ⟨_, rfl, (State.credit_setCredit _ _ _ _ _).trans (if_pos rfl), rfl, fun a b hb hne => (State.credit_setCredit _ _ _ _ _).trans (if_neg ?_)⟩
    have hv := v.isLt
    omega
  · have left := (((s.place id .overflow).count (swReg q.out swOvfFrames))).returnCredit_only q.inp q.vc q.cells
    obtain ⟨ds, out, e⟩ := left
    have entry : (((s.place id .overflow).count (swReg q.out swOvfFrames)).returnCredit q.inp q.vc q.cells).fab.entry = [] := by
      rw [e]
      exact he
    refine ⟨_, (exec_overflowWrite_fits hf hp hs hr).trans (congrArg Host.Outcome.next (State.enter_eq_self entry)), ?_, ?_, ?_⟩
    · rw [e]
      exact find?_replaced hf
    · exact (State.reg_returnCredit _ _ _ _ _).trans (State.reg_count _ _)
    · rw [e]
      exact ⟨rfl, fun a ha => State.reg_count_ne _ _ _ (by simpa using ha)⟩
  · exact ⟨_, exec_overflowReadback_fits hf hp hh hr, find?_replaced hf, rfl⟩
  · exact ⟨_, rfl, fun o v ho hv => s.wredAvg_update ho hv, (State.wred_forAll (List.range 280) List.nodup_range).1.rest⟩
  · exact ⟨_, rfl, State.regF_setRegF _ _ _ _ _ (by decide), s.onlyRegs_setReg _ _ _ List.mem_cons_self⟩

/-- Settles O21: each event is taken at its pair, and the Centroid counts, credits, averages and ages as its rows say. -/
theorem fabricEvents : Obligations.FabricEvents := ⟨rulesSourceEvents_holds, rulesCentroidEvents_holds⟩

end Sys2Proof.Machine
end

section
/-! SUPPORT. Missed Bells and the election of a master. -/

namespace Sys2Proof.Machine

section
variable {s t : State}

/-- The state's Bell is `b`, its status register reads `w`, and beside registers, the fabric, outputs and the Bell it is `s`. -/
def State.bellStands (s : State) (b : Bell) (w : Word) (t : State) : Prop :=
  t.bell = b ∧ t.reg rBellStatus = w ∧ { t with bell := s.bell, regs := s.regs, fab := s.fab, out := s.out } = s

theorem frameFree_bellStands (s : State) (b : Bell) (w : Word) : FrameFree False (s.bellStands b w) where
  fab _ _ h := h
  out _ h := h
  reg {t} a v ha h := by
    obtain ⟨hbell, hreg, hrest⟩ := h
    have status : rBellStatus ≠ a := (lt_of_lt_of_le (show rBellStatus < 0x100060 by decide) (fabricCounter_ge ha)).ne
    exact ⟨hbell, (t.reg_setReg_ne a v rBellStatus status).trans hreg, hrest⟩
  deps h := h.elim

theorem State.bellStands.candidacyOut {b : Bell} {w : Word} (h : s.bellStands b w t) (c : Nat × Nat) (skip : Option Nat) :
    s.bellStands b w (t.candidacyOut c skip) :=
  State.forAll_induct h fun _ _ ht => (frameFree_bellStands s b w).admitFrame (p := 139) (by decide) _ _ ht

/-- Where no port of the Bell partition is up no candidacy goes out. -/
theorem State.candidacyOut_of_no_ports (h : s.bellPorts = []) (c : Nat × Nat) (skip : Option Nat) : s.candidacyOut c skip = s := by
  unfold State.candidacyOut
  rw [h]
  rfl

/-- The state at which a candidacy of an election that begins goes out. -/
def State.electionBegun (s : State) : State :=
  State.setRegBit { s with bell := { s.dropNext.bell with
    best := if s.regBit rBellCtl 0 then some (s.regF rPrio 0 8, s.node.toNat) else none,
    waiting := false, elected := false, led := false } } rBellStatus 6 true

theorem State.startElection_eq (s : State) : s.startElection =
    if s.regBit rBellCtl 0 then s.electionBegun.candidacyOut (s.regF rPrio 0 8, s.node.toNat) none else s.electionBegun := by
  unfold State.startElection State.electionBegun State.dropNext
  split <;> rfl

theorem State.onlyBellRegs_electionBegun (s : State) : OnlyBellRegs s s.electionBegun [rBellStatus] :=
  ⟨rfl, fun a ha => State.reg_setRegBit_ne _ _ _ _ a (by simpa using ha)⟩

theorem State.bellPorts_electionBegun (s : State) : s.electionBegun.bellPorts = s.bellPorts := by
  have reg {a : Nat} (h : a ≠ rBellStatus) : s.electionBegun.reg a = s.reg a := s.onlyBellRegs_electionBegun.2 a (by simpa using h)
  have part : s.electionBegun.bellPart = s.bellPart := State.regF_congr (s.onlyBellRegs_electionBegun.2 rBellCtl (by decide)) 8 6
  unfold State.bellPorts
  rw [part]
  exact List.filter_congr fun p hp => by
    have hp := List.mem_range.mp hp
    have hup : s.electionBegun.portUp p = s.portUp p := by
      unfold State.portUp State.ready
      rw [State.regBit_congr (reg (by unfold rGlbReady readyPort rBellStatus; omega))]
    have hmap : s.electionBegun.portPart p = s.portPart p := by
      unfold State.portPart State.tabF
      rw [State.regF_congr (reg (by unfold rPortPart rBellStatus; omega))]
    rw [hup, hmap]
    rfl

theorem State.bellStands_electionBegun (s : State) :
    s.bellStands s.electionBegun.bell (s.electionBegun.reg rBellStatus) s.electionBegun := ⟨rfl, rfl, rfl⟩

theorem State.electing_electionBegun (s : State) : s.electionBegun.electing = true := State.regBit_setRegBit _ _ _ _ (by decide)

/-- What an election that begins leaves. -/
theorem State.bellStands_startElection (s : State) :
    s.bellStands s.electionBegun.bell (s.electionBegun.reg rBellStatus) s.startElection := by
  rw [s.startElection_eq]
  split
  · exact s.bellStands_electionBegun.candidacyOut _ _
  · exact s.bellStands_electionBegun

/-- No port of the Bell partition: an election that begins sends nothing. -/
theorem State.startElection_of_no_ports (h : s.bellPorts = []) : s.startElection = s.electionBegun := by
  rw [s.startElection_eq, State.candidacyOut_of_no_ports (s.bellPorts_electionBegun.trans h), ite_self]

/-- A candidacy beats the best heard. -/
def State.candidacyBeats (s : State) (c : Nat × Nat) : Bool :=
  match s.bell.best with
  | some b => better c b
  | none => true

/-! ### The end of an election -/

theorem State.execElectionEnd_of_no_winner (he : s.electing = true) (hw : s.winner = none) :
    exec .electionEnd s = .next (((s.setRegBit rBellStatus 6 false).setRegBit rBellStatus 3 true).setRegBit rBellStatus 28 false) := by
  show execElectionEnd s = _
  unfold execElectionEnd
  rw [he, hw]
  rfl

/-- The registers of an election that ends without a master. -/
theorem State.no_winner_leaves (s : State) :
    let t := ((s.setRegBit rBellStatus 6 false).setRegBit rBellStatus 3 true).setRegBit rBellStatus 28 false
    t.electing = false ∧ t.regBit rBellStatus 3 = true ∧ t.isMaster = false ∧ OnlyRegs s t [rBellStatus] := by
  intro t
  refine ⟨?_, ?_, State.regBit_setRegBit _ _ _ _ (by decide), rfl, fun a ha => ?_⟩
  · simp [t, State.electing, State.regBit_setRegBit_other, State.regBit_setRegBit]
  · simp [t, State.regBit_setRegBit_other, State.regBit_setRegBit]
  · have hne : a ≠ rBellStatus := by simpa using ha
    exact ((State.reg_setRegBit_ne _ _ _ _ _ hne).trans (State.reg_setRegBit_ne _ _ _ _ _ hne)).trans (State.reg_setRegBit_ne _ _ _ _ _ hne)

/-- The status of a module that wins its own election. -/
def State.wonStatus (s : State) : State :=
  ((((s.setRegBit rBellStatus 6 false).setRegBit rBellStatus 3 false).setRegF rBellStatus 16 12 s.node.toNat).setRegBit rBellStatus 28 true)

theorem State.onlyRegs_wonStatus (s : State) : OnlyRegs s s.wonStatus [rBellStatus] :=
  ⟨rfl, fun a ha => by
    have hne : a ≠ rBellStatus := by simpa using ha
    rw [State.wonStatus, State.reg_setRegBit_ne _ _ _ _ _ hne, State.reg_setRegF_ne _ _ _ _ _ _ hne, State.reg_setRegBit_ne _ _ _ _ _ hne,
      State.reg_setRegBit_ne _ _ _ _ _ hne]⟩

theorem State.sendRequest_of_master (h : s.isMaster = true) : s.sendRequest = s.recordRequest s.node.toNat s.bell.own := if_pos h

/-- The Bell's state of a module that wins its own election, before it records its own request. -/
def State.wonBell (s : State) : Bell :=
  { s.bell with elected := true, best := none, halt := none, requests := [], held := 0, placed := s.wonStatus.stretchCode, led := true }

theorem State.execElectionEnd_own {pr : Nat} (he : s.electing = true) (hw : s.winner = some (pr, s.node.toNat)) :
    exec .electionEnd s = .next (State.sendRequest { s.wonStatus with bell := s.wonBell }) := by
  have own : decide (s.node.toNat = (s.setRegBit rBellStatus 6 false).node.toNat) = true := by
    rw [show (s.setRegBit rBellStatus 6 false).node = s.node from
      congrArg (BitVec.ofNat 12) (s.regF_setRegF_ne rBellStatus 6 1 _ _ _ _ (by decide))]
    exact decide_eq_true rfl
  show execElectionEnd s = _
  unfold execElectionEnd
  rw [he, hw, Bool.not_true, if_neg Bool.false_ne_true]
  dsimp only
  rw [own]
  rfl

theorem State.isMaster_wonStatus (s : State) : s.wonStatus.isMaster = true := State.regBit_setRegBit _ _ _ _ (by decide)

/-- The fields of the status of a module that wins its own election. -/
theorem State.fields_wonStatus (s : State) : s.wonStatus.electing = false ∧ s.wonStatus.regBit rBellStatus 3 = false ∧ s.wonStatus.masterNode = s.node := by
  refine ⟨?_, ?_, ?_⟩
  · rw [State.electing, State.wonStatus, State.regBit_setRegBit_other _ _ _ _ _ (by decide) (by decide), State.regBit,
      State.regF_setRegF_below _ _ _ _ _ _ _ (by decide) (by decide)]
    exact (State.regBit_setRegBit_other _ _ _ _ _ (by decide) (by decide)).trans (State.regBit_setRegBit _ _ _ _ (by decide))
  · rw [State.wonStatus, State.regBit_setRegBit_other _ _ _ _ _ (by decide) (by decide), State.regBit,
      State.regF_setRegF_below _ _ _ _ _ _ _ (by decide) (by decide)]
    exact State.regBit_setRegBit _ _ _ _ (by decide)
  · rw [State.masterNode, State.wonStatus, State.setRegBit, State.regF_setRegF_below _ _ _ _ _ _ _ (by decide) (by decide),
      State.regF_setRegF _ _ _ _ _ (by decide), Nat.mod_eq_of_lt s.node.isLt, BitVec.ofNat_toNat, BitVec.setWidth_eq]

/-- A master of which only the Bell's state is set anew records its own request. -/
theorem State.sendRequest_at_master (b : Bell) (h : t.isMaster = true) (ho : OnlyRegs s t [rBellStatus]) :
    ∃ u, State.sendRequest { t with bell := b } = u ∧ u.regs = t.regs ∧ u.bell.elected = b.elected ∧ u.bell.led = b.led ∧ u.bell.best = b.best ∧
      OnlyBellRegs s u [rBellStatus] := by
  obtain ⟨hrest, hreg⟩ := ho
  exact ⟨_, State.sendRequest_of_master (s := { t with bell := b }) h, rfl, rfl, rfl, rfl,
    congrArg (fun u : State => { u with bell := s.bell, out := s.out }) hrest, hreg⟩

/-- What a module that wins its own election leaves. -/
theorem State.wins_own_election {pr : Nat} (he : s.electing = true) (hb : s.bell.best = some (pr, s.node.toNat)) (hc : s.regBit rBellCtl 0 = true) :
    Does .electionEnd s (fun t => t.electing = false ∧ t.regBit rBellStatus 3 = false ∧ t.isMaster = true ∧ t.masterNode = s.node ∧
      t.bell.elected = true ∧ t.bell.led = true ∧ t.bell.best = none ∧ OnlyBellRegs s t [rBellStatus]) := by
  have hw : s.winner = some (pr, s.node.toNat) := by
    rw [State.winner, hb]
    exact if_neg fun h => h.2 hc
  obtain ⟨helecting, hmissing, hnode⟩ := s.fields_wonStatus
  obtain ⟨u, sends, hregs, helected, hled, hbest, honly⟩ := State.sendRequest_at_master s.wonBell s.isMaster_wonStatus s.onlyRegs_wonStatus
  have same : u.reg rBellStatus = s.wonStatus.reg rBellStatus := congrArg (fun r => tget _ r rBellStatus) hregs
  refine ⟨u, (State.execElectionEnd_own he hw).trans (congrArg Host.Outcome.next sends), ?_, ?_, ?_, ?_, helected, hled, hbest, honly⟩
  · exact (State.regBit_congr same 6).trans helecting
  · exact (State.regBit_congr same 3).trans hmissing
  · exact (State.regBit_congr same 28).trans s.isMaster_wonStatus
  · exact (congrArg (BitVec.ofNat 12) (State.regF_congr same 16 12)).trans hnode

end

/-- Settles O10: by what an election that begins leaves, and by the two ends of an election. -/
theorem election : Obligations.Election := by
  have status {s : State} {i : Nat} : OnlyRegs s (s.setRegBit rBellStatus i true) [rBellStatus] := s.onlyRegs_setRegBit rBellStatus i true
  unfold Obligations.Election
  intro only
  refine ⟨fun s hm he hp hn hel hw hedge => ?_, fun s h => congrArg Host.Outcome.next (if_pos ?_), fun s hw he => ?_, fun p f s hp => ?_,
    fun p f s hp he => ?_, fun s he => ?_, fun s he hb => ?_, fun s pr he hb hc => ?_, fun s pr he hb hc => State.wins_own_election he hb hc⟩
  · have run : exec .bellMissed s = .next s.missBell := by
      refine congrArg Host.Outcome.next (if_neg ?_)
      simp [hm, he, hp, hn, hel, hw, hedge]
    exact ⟨_, run, rfl, s.regBit_setRegBit rBellStatus 2 true (by decide), rfl, status.2⟩
  · obtain h | h | h | h := h <;> simp [h]
  · have run : exec .masterLost s = .next ({ s with bell := { s.bell with lost := true } }).startElection :=
      congrArg Host.Outcome.next (if_pos ⟨hw, by simp [he]⟩)
    obtain ⟨hbell, hreg, hrest⟩ := State.bellStands_startElection { s with bell := { s.bell with lost := true } }
    refine ⟨_, run, ?_, ?_, ?_, ?_, ?_, ?_, fun hports => ?_⟩
    · exact (State.regBit_congr hreg 6).trans (State.electing_electionBegun _)
    · rw [hbell]
      rfl
    · rw [hbell]
      rfl
    · rw [hbell]
      rfl
    · rw [hbell]
      rfl
    · exact congrArg (fun u : State => { u with bell := s.bell }) hrest
    · rw [State.startElection_of_no_ports (s := { s with bell := { s.bell with lost := true } }) hports]
      exact ⟨rfl, (State.onlyBellRegs_electionBegun { s with bell := { s.bell with lost := true } }).2⟩
  · have run : exec (.candidacy p f) s = .next s.treeErr := congrArg Host.Outcome.next (if_pos hp)
    exact ⟨_, run, s.regBit_setRegBit rBellStatus 4 true (by decide), status⟩
  · have run : exec (.candidacy p f) s = .next
        (if s.candidacyBeats (leAt f.payload 0 1, leAt f.payload 2 2 % 4096) then
          ({ s with bell := { s.bell with best := some (leAt f.payload 0 1, leAt f.payload 2 2 % 4096) } }).candidacyOut
            (leAt f.payload 0 1, leAt f.payload 2 2 % 4096) (some p.val)
        else s) := by
      show execCandidacy p f s = _
      unfold execCandidacy
      rw [if_neg (not_not.mpr hp), if_pos he]
      rfl
    rw [Does, run]
    split_ifs with hbetter
    · have sent := State.bellStands.candidacyOut (s := s) (t := { s with bell := { s.bell with best := some (leAt f.payload 0 1, leAt f.payload 2 2 % 4096) } })
        ⟨rfl, rfl, rfl⟩ (leAt f.payload 0 1, leAt f.payload 2 2 % 4096) (some p.val)
      obtain ⟨hbell, -, hrest⟩ := sent
      refine ⟨_, rfl, hrest, ?_⟩
      rw [hbell]
      cases hb : s.bell.best with
      | none => rfl
      | some b =>
        rw [State.candidacyBeats, hb] at hbetter
        exact congrArg some (if_pos hbetter).symm
    · refine ⟨s, rfl, rfl, ?_⟩
      cases hb : s.bell.best with
      | none => exact absurd (by rw [State.candidacyBeats, hb]) hbetter
      | some b =>
        rw [State.candidacyBeats, hb] at hbetter
        exact congrArg some (if_neg hbetter).symm
  · show execElectionEnd s = _
    unfold execElectionEnd
    rw [he]
    rfl
  · exact ⟨_, State.execElectionEnd_of_no_winner he (by rw [State.winner, hb]), s.no_winner_leaves⟩
  · refine ⟨_, State.execElectionEnd_of_no_winner he ?_, s.no_winner_leaves⟩
    rw [State.winner, hb]
    exact if_pos ⟨rfl, by simp [hc]⟩

end Sys2Proof.Machine
end

section
/-! SUPPORT. Bell frames, alert pins and stretches. -/

namespace Sys2Proof.Machine

section
variable {s t : State}

/-- The state's Bell is `b`, whether or not an election has been called for, and its pooled memory `m`. -/
def State.rings (b : Bell) (m : Tab Byte) (t : State) : Prop := { t.bell with lost := false } = b ∧ t.mem = m

theorem resultFree_rings (b : Bell) (m : Tab Byte) : ResultFree (State.rings b m) where
  fab _ _ h := h
  fabric _ h := h
  out _ h := h
  reg _ _ h := h
  deps _ _ _ h := h
  seat {s} d k id st data h := by
    have only := s.resultDesk_only d k id st data
    exact ⟨(congrArg (fun u : State => { u.bell with lost := false }) only).trans h.1, (congrArg State.mem only).trans h.2⟩
  strm _ _ _ _ _ h := h
  walks _ h := h
  reads _ h := h
  irqs _ h := h

theorem State.rings_bellOut {b : Bell} {m : Tab Byte} (h : t.rings b m) (x : BellInfo) (skip : Option Nat) : (t.bellOut x skip).rings b m :=
  State.forAll_induct h fun _ _ ht => (resultFree_rings b m).admitFrame (fun _ => trivial) _ _ ht

theorem State.rings_toMaster {b : Bell} {m : Tab Byte} (h : t.rings b m) (op : BitVec 8) (v : Nat) : (t.toMaster op v).rings b m :=
  (resultFree_rings b m).sendRouted (fun _ => trivial) _ _ h

/-- A Bell frame that goes out or comes in ends a loss that was declared. -/
theorem State.rings_found {b : Bell} {m : Tab Byte} (h : t.rings b m) (c : Bool) :
    (if c then State.raise { t with bell := { t.bell with lost := false } } 1 else t).rings b m := by
  split
  · exact (resultFree_rings b m).raise 1 h
  · exact h

theorem State.rings_sendRequest {b : Bell} {m : Tab Byte} (h : t.rings b m) :
    ∃ requests held, t.sendRequest.rings { b with requests := requests, held := held } m := by
  obtain ⟨hbell, hmem⟩ := h
  subst hbell
  unfold State.sendRequest
  split
  · exact ⟨_, _, rfl, hmem⟩
  · split
    · exact ⟨t.bell.requests, t.bell.held, rfl, hmem⟩
    · exact ⟨t.bell.requests, t.bell.held, State.rings_toMaster ⟨rfl, hmem⟩ _ _⟩

/-- A cause that changes leaves the alert pins. -/
theorem State.rings_causeChanged {b : Bell} {m : Tab Byte} (h : t.rings b m) :
    ∃ own gate gated requests held,
      t.causeChanged.rings { b with own := own, gate := gate, gated := gated, requests := requests, held := held } m := by
  obtain ⟨hbell, hmem⟩ := h
  subst hbell
  unfold State.causeChanged
  dsimp only
  split
  · exact ⟨t.bell.own, t.bell.gate, t.bell.gated, t.bell.requests, t.bell.held, rfl, hmem⟩
  · obtain ⟨requests, held, hsent⟩ := State.rings_sendRequest (t := { t with bell := { t.bell with
        own := t.ownCode,
        gate := if t.stretchCode < t.ownCode then true else if t.ownCode ≤ t.stretchCode then false else t.bell.gate,
        gated := t.bell.gated || (if t.stretchCode < t.ownCode then true else if t.ownCode ≤ t.stretchCode then false else t.bell.gate) } })
      ⟨rfl, hmem⟩
    exact ⟨_, _, _, _, _, hsent⟩

/-! ### Bell frames -/

/-- The master sends the frame of the next Bell. -/
theorem State.does_bellFrameSend (hm : s.isMaster = true) :
    Does .bellFrameSend s (fun t => ∃ b : BellInfo, t.bell.next = some b ∧ b.lesson = s.lesson + 1 ∧
      b.n = s.regF rLessonLen 0 17 ∧ b.guard = s.regF rGuard 0 17 ∧ b.lead = s.regF rLead 0 10 ∧ b.master = s.node ∧ b.delay = 0 ∧
      b.strict = s.strictToSend ∧ t.bell.governed = true ∧ t.bell.strictNext = (if b.halt then s.bell.strictNext else none) ∧
      t.bell.due = s.bellDue b.lead 0) := by
  refine ⟨_, congrArg Host.Outcome.next (if_neg (by simp [hm])), ?_⟩
  extract_lets lead halt want raised code held b was u is v
  obtain ⟨hbell, -⟩ := State.rings_bellOut (State.rings_found (t := u) ⟨rfl, rfl⟩ s.bell.lost) { b with hops := 1 } none
  refine ⟨b, ?_, rfl, rfl, rfl, rfl, rfl, rfl, rfl, ?_, ?_, ?_⟩
  · exact congrArg Bell.next hbell
  · exact congrArg Bell.governed hbell
  · exact congrArg Bell.strictNext hbell
  · exact congrArg Bell.due hbell

/-- A member takes a Bell frame. -/
theorem State.takeBell_next (s : State) (p : Nat) (f : Frame) :
    ∃ b : BellInfo, (s.takeBell p f).bell.next = some b ∧ b.lesson = (BellInfo.ofBytes f.payload).lesson ∧ b.n = (BellInfo.ofBytes f.payload).n ∧
        b.delay = (BellInfo.ofBytes f.payload).delay + s.linkDelay p ∧ (s.takeBell p f).bell.due = s.bellDue b.lead b.delay ∧
        (b.lead * 640 < b.delay + 12800 → b.halt = true) := by
  unfold State.takeBell
  extract_lets b0 d b late t0 was u is v w
  have taken : w.rings { u.bell with lost := false } u.mem := State.rings_bellOut (State.rings_found (t := u) ⟨rfl, rfl⟩ s.bell.lost) _ _
  have sent : (if late = true then (w.setRegBit rBellStatus 5 true).toMaster 0x75 d else w).rings { u.bell with lost := false } u.mem := by
    split
    · exact State.rings_toMaster (t := w.setRegBit rBellStatus 5 true) taken _ _
    · exact taken
  obtain ⟨hbell, -⟩ := sent
  refine ⟨{ b with halt := b.halt || late }, congrArg Bell.next hbell, rfl, rfl, rfl, congrArg Bell.due hbell, fun hlate => ?_⟩
  have : late = true := decide_eq_true hlate
  simp [this]

/-! ### Alert pins -/

/-- The Bell with an alert pin asserted in a Lesson. -/
def Bell.alerted (b : Bell) (coolant : Bool) (l : Word) : Bell :=
  if coolant then { b with coolPin := true, cool := true, coolAt := some l } else { b with pwrPin := true, pwr := true, pwrAt := some l }

/-- An alert pin that is asserted is kept, is logged, and may change the request. -/
theorem State.alertPin_on {coolant : Bool} (h : (if coolant then s.bell.coolPin else s.bell.pwrPin) = false) :
    s.alertPin coolant true = (State.logEvent (State.setRegBit { s with bell := s.bell.alerted coolant s.lesson } rExtStatus coolant.toNat true)
      3 3 (if coolant then 12 else 11) 0).causeChanged := by
  have hne : ¬ (if coolant then s.bell.coolPin else s.bell.pwrPin) = true := by simp [h]
  exact if_neg hne

theorem State.rings_alertPin {coolant : Bool} (h : (if coolant then s.bell.coolPin else s.bell.pwrPin) = false) :
    ∃ own gate gated requests held, (s.alertPin coolant true).rings { s.bell.alerted coolant s.lesson with
      lost := false, own := own, gate := gate, gated := gated, requests := requests, held := held } s.mem := by
  rw [State.alertPin_on h]
  exact State.rings_causeChanged (t := State.logEvent (State.setRegBit { s with bell := s.bell.alerted coolant s.lesson } rExtStatus coolant.toNat true)
      3 3 (if coolant then 12 else 11) 0) ⟨rfl, rfl⟩

end

theorem bellFrames : rulesBellFrames := by
  refine ⟨fun s h => congrArg Host.Outcome.next (if_pos (by simp [h])), fun s h => State.does_bellFrameSend h, fun p f s h => ?_, fun p f s hp ht hm => ?_,
    fun f s hm hh => ?_, fun f s hm => congrArg Host.Outcome.next (if_neg (by simp [hm]))⟩
  · refine ⟨_, congrArg Host.Outcome.next (if_pos ?_), s.regBit_setRegBit rBellStatus 4 true (by decide), s.onlyRegs_setRegBit rBellStatus 4 true⟩
    obtain h | h | h := h
    · exact .inl h
    · exact .inr (.inl (by simp [h]))
    · exact .inr (.inr h)
  · exact ⟨_, congrArg Host.Outcome.next (if_neg (by simp [hp, ht, hm])), s.takeBell_next p.val f⟩
  · exact ⟨_, congrArg Host.Outcome.next (if_pos ⟨hm, hh⟩), rfl, rfl⟩

theorem pinsAndStretches : rulesPinsAndStretches := by
  refine ⟨fun s h => ⟨_, congrArg Host.Outcome.next (if_pos h), rfl, rfl⟩,
    fun s h => ⟨congrArg Host.Outcome.next (if_neg (by simp [h])), congrArg Host.Outcome.next (if_neg (by simp [h]))⟩,
    fun s h hn he => ?_, fun s h => ?_, fun s h => ?_, fun s on h => congrArg Host.Outcome.next (if_pos h), fun f s hm => ?_, fun s hm hw hh => ?_,
    fun s hm hh => congrArg Host.Outcome.next (if_neg fun g => absurd g.2.2 (Nat.not_le.mpr hh))⟩
  · exact ⟨_, congrArg Host.Outcome.next (if_pos ⟨h, hn, by simp [he]⟩), rfl, rfl, s.regBit_setRegBit rBellStatus 2 true (by decide), rfl,
      (s.onlyRegs_setRegBit rBellStatus 2 true).2⟩
  · obtain ⟨own, gate, gated, requests, held, hbell, hmem⟩ := State.rings_alertPin (s := s) (coolant := false) h
    exact ⟨_, rfl, (congrArg Bell.pwrPin hbell :), (congrArg Bell.pwr hbell :), (congrArg Bell.pwrAt hbell :), SameMemory.of_mem hmem⟩
  · obtain ⟨own, gate, gated, requests, held, hbell, hmem⟩ := State.rings_alertPin (s := s) (coolant := true) h
    exact ⟨_, rfl, (congrArg Bell.coolPin hbell :), (congrArg Bell.cool hbell :), (congrArg Bell.coolAt hbell :), SameMemory.of_mem hmem⟩
  · exact ⟨_, congrArg Host.Outcome.next (if_pos hm), rfl, (tget_tput _ _ _ _ _).trans (if_pos rfl),
      fun n hn => (tget_tput _ _ _ _ _).trans (if_neg hn.symm)⟩
  · exact ⟨_, congrArg Host.Outcome.next (if_pos ⟨hm, hw, hh⟩), rfl, rfl, rfl⟩

/-- Settles O11: Bell frames at the master and at a member, and the pins and stretches. -/
theorem bellFramesAndPins : Obligations.BellFramesAndPins := ⟨bellFrames, pinsAndStretches⟩

end Sys2Proof.Machine
end

section
/-! SUPPORT. Timetable pages: posted, loaded and checked. -/

namespace Sys2Proof.Machine

section
variable {s t : State}

/-- The state and the reason of a page that was put in a state, and what that changes. -/
theorem State.setPageState_leaves (s : State) (p : Fin 2) {st reason : Nat} (hst : st < 8) (hr : reason < 8) :
    (s.setPageState p st reason).pageState p.val = st ∧ (s.setPageState p st reason).regF rTtState (16 * p.val + 4) 3 = reason ∧
      OnlyRegs s (s.setPageState p st reason) [rTtState] := by
  have h16 : 16 * p.val + 3 ≤ 16 * p.val + 4 := by omega
  have h64 : 16 * p.val + 4 + 3 ≤ 64 := by omega
  refine ⟨?_, ?_, rfl, fun a ha => ?_⟩
  · rw [State.pageState, State.setPageState, State.regF_setRegF_below _ _ _ _ _ _ _ h64 h16, State.regF_setRegF _ _ _ _ _ (by omega),
      show 2 ^ 3 = 8 from rfl, Nat.mod_eq_of_lt hst]
  · rw [State.setPageState, State.regF_setRegF _ _ _ _ _ h64, show 2 ^ 3 = 8 from rfl, Nat.mod_eq_of_lt hr]
  · have hne : a ≠ rTtState := by simpa using ha
    rw [State.setPageState, State.reg_setRegF_ne _ _ _ _ _ _ hne, State.reg_setRegF_ne _ _ _ _ _ _ hne]

theorem State.page_setPage (s : State) (p : Fin 2) (x : Page) : (s.setPage p x).page p = x := Vector.getElem_set_self ..

/-! ### The check of R43 -/

theorem State.pageRefusal_of_bad_format {tt : Timetable} (h : s.formatOk tt = false) : s.pageRefusal tt = some 1 := by
  rw [State.pageRefusal, h]
  rfl

theorem State.pageRefusal_of_format {tt : Timetable} (h : s.formatOk tt = true) :
    s.pageRefusal tt = if s.strict ≠ s.bell.frameStrict ∨ tt.strict ≠ s.strict then some 2 else s.lengthFault tt := by
  rw [State.pageRefusal, h, State.modeDiffers]
  simp only [Bool.not_true, Bool.false_eq_true, if_false, Bool.or_eq_true, bne_iff_ne]

theorem State.pageRefusal_lt {tt : Timetable} {r : Nat} (h : s.pageRefusal tt = some r) : r < 8 := by
  cases hf : s.formatOk tt with
  | false =>
    rw [State.pageRefusal_of_bad_format hf] at h
    cases h
    decide
  | true =>
    rw [State.pageRefusal_of_format hf, State.lengthFault] at h
    split at h
    · cases h
      decide
    · split at h
      · cases h
        decide
      · split at h
        · cases h
          decide
        · cases h

/-- Pages that wait for the end of the run change only the Bell's state. -/
theorem State.aged_leaves (l : List (Fin 2)) (s : State) :
    { s.forAll l (fun s q => s.setPage q { s.page q with at_ := 0 }) with bell := s.bell } = s :=
  State.forAll_induct (P := fun t => { t with bell := s.bell } = s) rfl fun _ _ h => h

theorem State.checkPage_refused {p : Fin 2} {tt : Timetable} {r : Nat} (hs : s.pageState p.val = 3) (ht : (s.page p).tt = some tt)
    (hr : s.pageRefusal tt = some r) :
    s.checkPage p = { s.refusePage p r with bell := { (s.refusePage p r).bell with change := none } } := by
  unfold State.checkPage
  dsimp only
  rw [if_pos hs, ht]
  dsimp only
  rw [hr]

theorem State.checkPage_passed {p : Fin 2} {tt : Timetable} (hs : s.pageState p.val = 3) (ht : (s.page p).tt = some tt)
    (hr : s.pageRefusal tt = none) : ∃ b, s.checkPage p = { s with bell := b } ∧ b.passed = some p := by
  unfold State.checkPage
  dsimp only
  rw [if_pos hs, ht]
  dsimp only
  rw [hr]
  dsimp only
  generalize hl : bothPages.filter _ = l
  have aged := State.aged_leaves l s
  exact ⟨_, congrArg (fun u : State => { u with bell := { (s.forAll l (fun s q => s.setPage q { s.page q with at_ := 0 })).bell with passed := some p } }) aged,
    rfl⟩

/-! ### Posting and loading -/

/-- The state's Bell is `b`, its page states `w` and its pooled memory `m`. -/
def State.timetabled (b : Bell) (w : Word) (m : Tab Byte) (t : State) : Prop := t.bell = b ∧ t.reg rTtState = w ∧ t.mem = m

theorem resultFree_timetabled (b : Bell) (w : Word) (m : Tab Byte) : ResultFree (State.timetabled b w m) where
  fab _ _ h := h
  fabric _ h := h
  out _ h := h
  reg {t} a v ha h := by
    obtain ⟨hbell, hreg, hmem⟩ := h
    have state : rTtState ≠ a := (lt_of_lt_of_le (show rTtState < 0x100060 by decide) (fabricCounter_ge ha)).ne
    exact ⟨hbell, (t.reg_setReg_ne a v rTtState state).trans hreg, hmem⟩
  deps _ _ _ h := h
  seat {s} d k id st data h := by
    have only := s.resultDesk_only d k id st data
    obtain ⟨hbell, hreg, hmem⟩ := h
    exact ⟨(congrArg State.bell only).trans hbell, (congrArg (State.reg · rTtState) only).trans hreg, (congrArg State.mem only).trans hmem⟩
  strm _ _ _ _ _ h := h
  walks _ h := h
  reads _ h := h
  irqs _ h := h

/-- The state in which the loader has read a page. -/
def State.pageRead (s : State) (p : Fin 2) (tt : Timetable) : State :=
  ((s.setPageState p 2 0).setPage p { s.page p with tt := some tt, pre := 0, stalled := 0 }).writePlan tt (fun w => match s.activeRange with
    | some r => !rangesMeet r (w.addr.toNat, 1)
    | none => true)

theorem State.loaded_unread {p : Fin 2} (hl : s.loaderHeld = false) (hu : s.pageState p.val = 1 ∨ s.pageState p.val = 2 ∧ (s.page p).tt = none)
    (tt : Timetable) : s.loaded p tt = (s.pageRead p tt).preloadNext p := by
  have unread : s.pageUnread p = true := by
    obtain h | ⟨h, htt⟩ := hu
    · simp [State.pageUnread, h]
    · simp [State.pageUnread, h, htt]
  unfold State.loaded
  rw [if_neg (by simp [hl]), if_pos unread]
  rfl

/-- What reading a page leaves. -/
theorem State.pageRead_leaves (s : State) (p : Fin 2) (tt : Timetable) :
    (s.pageRead p tt).page p = { s.page p with tt := some tt, pre := 0, stalled := 0 } ∧ (s.pageRead p tt).pageState p.val = 2 ∧
      (s.pageRead p tt).mem = s.mem ∧ (s.pageRead p tt).bell.run = s.bell.run ∧ (s.pageRead p tt).imagesReady = s.imagesReady :=
  ⟨State.page_setPage .., (s.setPageState_leaves p (st := 2) (reason := 0) (by decide) (by decide)).1, rfl, rfl, rfl⟩

/-- A page with no preload entry left is LOADED where its images are cached, and else waits. -/
theorem State.preloadNext_end {p : Fin 2} {tt : Timetable} (ht : (s.page p).tt = some tt) (he : tt.preloads = []) :
    s.preloadNext p = s.tryLoaded p := by
  unfold State.preloadNext
  dsimp only
  rw [ht]
  simp only [he, List.getElem?_nil]

theorem State.preloadNext_entry {p : Fin 2} {tt : Timetable} (ht : (s.page p).tt = some tt) (hp : (s.page p).pre = 0) (he : tt.preloads ≠ []) :
    ∃ x, s.preloadNext p = { s with xl := x } := by
  obtain ⟨e, r, her⟩ := List.exists_cons_of_ne_nil he
  unfold State.preloadNext
  dsimp only
  rw [ht]
  simp only [hp, her, List.getElem?_cons_zero]
  exact ⟨_, rfl⟩

theorem State.tryLoaded_ready {p : Fin 2} {tt : Timetable} (ht : (s.page p).tt = some tt) (hs : s.pageState p.val = 2)
    (h0 : (s.page p).stalled = 0) (he : tt.preloads = []) (hi : s.imagesReady tt = true) : s.tryLoaded p = (s.setPageState p 3 0).raise 0 := by
  unfold State.tryLoaded
  dsimp only
  rw [ht]
  exact if_pos ⟨hs, h0, by simp [he], hi⟩

theorem State.tryLoaded_unready {p : Fin 2} {tt : Timetable} (ht : (s.page p).tt = some tt) (hi : s.imagesReady tt = false) : s.tryLoaded p = s := by
  unfold State.tryLoaded
  dsimp only
  rw [ht]
  exact if_neg fun h => by simp [hi] at h

/-- A page whose content is all there is LOADED. -/
theorem State.loaded_ready {p : Fin 2} {tt : Timetable} (hl : s.loaderHeld = false)
    (hu : s.pageState p.val = 1 ∨ s.pageState p.val = 2 ∧ (s.page p).tt = none) (he : tt.preloads = []) (hi : s.imagesReady tt = true) :
    (s.loaded p tt).pageState p.val = 3 ∧ ((s.loaded p tt).page p).tt = some tt ∧ (s.loaded p tt).mem = s.mem ∧
      (s.loaded p tt).bell.run = s.bell.run := by
  obtain ⟨hpage, hstate, hmem, hrun, himages⟩ := s.pageRead_leaves p tt
  have htt : ((s.pageRead p tt).page p).tt = some tt := by rw [hpage]
  have run : s.loaded p tt = ((s.pageRead p tt).setPageState p 3 0).raise 0 := by
    rw [State.loaded_unread hl hu, State.preloadNext_end htt he,
      State.tryLoaded_ready htt hstate (by rw [hpage]) he ((congrFun himages tt).trans hi)]
  obtain ⟨hbell, hreg, hm⟩ := (resultFree_timetabled _ _ _).raise 0
    (show ((s.pageRead p tt).setPageState p 3 0).timetabled (s.pageRead p tt).bell _ (s.pageRead p tt).mem from ⟨rfl, rfl, rfl⟩)
  rw [run]
  refine ⟨?_, ?_, hm.trans hmem, (congrArg Bell.run hbell).trans hrun⟩
  · exact (State.regF_congr hreg (16 * p.val) 3).trans ((s.pageRead p tt).setPageState_leaves p (st := 3) (by decide) (by decide)).1
  · exact (congrArg (fun b : Bell => b.pages[p].tt) hbell).trans htt

/-- A page that lacks something stays LOADING. -/
theorem State.loaded_waits {p : Fin 2} {tt : Timetable} (hl : s.loaderHeld = false)
    (hu : s.pageState p.val = 1 ∨ s.pageState p.val = 2 ∧ (s.page p).tt = none) (hw : tt.preloads ≠ [] ∨ s.imagesReady tt = false) :
    (s.loaded p tt).pageState p.val = 2 ∧ ((s.loaded p tt).page p).tt = some tt ∧ (s.loaded p tt).mem = s.mem ∧
      (s.loaded p tt).bell.run = s.bell.run := by
  obtain ⟨hpage, hstate, hmem, hrun, himages⟩ := s.pageRead_leaves p tt
  have htt : ((s.pageRead p tt).page p).tt = some tt := by rw [hpage]
  have same : ∃ x, s.loaded p tt = { s.pageRead p tt with xl := x } := by
    rw [State.loaded_unread hl hu]
    by_cases he : tt.preloads = []
    · rw [State.preloadNext_end htt he, State.tryLoaded_unready htt ((congrFun himages tt).trans (hw.resolve_left (not_not.mpr he)))]
      exact ⟨_, rfl⟩
    · exact State.preloadNext_entry htt (by rw [hpage]) he
  obtain ⟨x, same⟩ := same
  rw [same]
  exact ⟨hstate, htt, hmem, hrun⟩

theorem State.postPage_refused {v : Word} {len : Nat}
    (h : s.pageBusy (Fin.ofNat 2 v.toNat) = true ∨ s.pageInside (Fin.ofNat 2 v.toNat) len = false) : s.postPage v len = s.bellCfgErr :=
  if_pos (by simpa using h)

/-- The state of a page that has been posted. -/
def State.posted (s : State) (p : Fin 2) (x : Page) : State :=
  let t := (s.setPageState p (if s.loaderHeld then 1 else 2) 0).setPage p x
  { t with bell := { t.bell with posts := t.bell.posts + 1 }, xl := { t.xl with pins := t.xl.pins.filter (fun x => x.1 ≠ p) } }

theorem State.postPage_taken {v : Word} {len : Nat} (hb : s.pageBusy (Fin.ofNat 2 v.toNat) = false)
    (hi : s.pageInside (Fin.ofNat 2 v.toNat) len = true) : s.postPage v len =
      s.posted (Fin.ofNat 2 v.toNat) { at_ := v.toNat / 2, order := s.bell.posts, fresh := s.inRollCall } :=
  if_neg (by rw [hb, hi]; decide)

end

theorem postAndLoad : rulesPostAndLoad := by
  unfold rulesPostAndLoad
  intro unread
  refine ⟨fun v len s hrec hb hi => ?_, fun v len s hrec h => ?_, fun p im s hl hu he hi => ?_, fun p im s hl hu hw => ?_,
    fun p im s hl => congrArg Host.Outcome.next (if_pos hl), fun r => ?_⟩
  · have run : exec (.ttPost v len) s = .next (s.posted (Fin.ofNat 2 v.toNat) { at_ := v.toNat / 2, order := s.bell.posts, fresh := s.inRollCall }) :=
      congrArg Host.Outcome.next ((s.bar0_eq_of_not_recovery _ hrec).trans (State.postPage_taken hb hi))
    have small : (if s.loaderHeld then 1 else 2) < 8 := by split <;> decide
    obtain ⟨hstate, -, hrest, hreg⟩ := s.setPageState_leaves (Fin.ofNat 2 v.toNat) (reason := 0) small (by decide)
    refine ⟨_, run, hstate, ?_, ?_, SameMemory.of_mem rfl, fun a ha => hreg a (by simpa using ha)⟩
    · exact congrArg Page.at_ (State.page_setPage ..)
    · exact congrArg Page.fresh (State.page_setPage ..)
  · exact ⟨_, congrArg Host.Outcome.next ((s.bar0_eq_of_not_recovery _ hrec).trans (State.postPage_refused h)), s.regBit_bellCfgErr, s.onlyRegs_bellCfgErr⟩
  · obtain ⟨hstate, htt, hmem, hrun⟩ := State.loaded_ready (tt := PageImage.timetable im) hl hu he hi
    exact ⟨_, rfl, hstate, htt, SameMemory.of_mem hmem, hrun⟩
  · obtain ⟨hstate, htt, hmem, hrun⟩ := State.loaded_waits (tt := PageImage.timetable im) hl hu hw
    exact ⟨_, rfl, hstate, htt, SameMemory.of_mem hmem, hrun⟩
  · refine ⟨?_, ?_, ?_, fun k => ?_⟩
    · exact BitVec.eq_of_toNat_eq (by simp [RoleImage.role])
    · simp [RoleImage.role, Nat.shiftRight_eq_div_pow]
    · simp [RoleImage.role, Nat.shiftRight_eq_div_pow]
    · simp [RoleImage.role, Nat.shiftRight_eq_div_pow]

theorem pageCheck : rulesPageCheck := by
  refine ⟨fun s p tt r hs ht hr => ?_, fun s p tt hs ht hr => ?_, fun s p hs => ?_, fun s tt h => State.pageRefusal_of_bad_format h,
    fun s tt h hne => ?_, fun s tt h heq hown hd => ?_, fun s tt h heq hown hd hg => ?_⟩
  · obtain ⟨hstate, hreason, honly⟩ := s.setPageState_leaves p (st := 6) (by decide) (State.pageRefusal_lt hr)
    intro t
    have run : t = { s.refusePage p r with bell := { (s.refusePage p r).bell with change := none } } := State.checkPage_refused hs ht hr
    rw [run]
    exact ⟨hstate, hreason, rfl, rfl, honly.2⟩
  · obtain ⟨b, run, hpassed⟩ := State.checkPage_passed hs ht hr
    rw [run]
    exact ⟨hpassed, rfl, fun _ _ => rfl⟩
  · have run : s.checkPage p = s.countSat rBellStatus 32 16 := by
      unfold State.checkPage
      dsimp only
      rw [if_neg hs]
    rw [run]
    exact ⟨rfl, fun a ha => State.reg_setRegF_ne _ _ _ _ _ _ (by simpa using ha)⟩
  · rw [State.pageRefusal_of_format h, if_pos (.inl hne)]
  · rw [State.pageRefusal_of_format h, if_neg (by simp [heq, hown]), State.lengthFault, if_pos hd]
  · rw [State.pageRefusal_of_format h, if_neg (by simp [heq, hown]), State.lengthFault, if_neg (by simp [hd]), if_pos hg]

/-- Settles O9: the check of R43, and posting and loading. -/
theorem timetablePages : Obligations.TimetablePages := ⟨pageCheck, postAndLoad⟩

end Sys2Proof.Machine
end

section
/-! SUPPORT. Homeroom coherence at the home. -/

namespace Sys2Proof.Machine

section
variable {s t u : State} {p : Nat} {f : Frame}

/-- The home's state, the pooled memory, the stream engines and the registers below the switch's counters are as before. -/
def State.sameHome (s t : State) : Prop := t.coh = s.coh ∧ t.mem = s.mem ∧ t.strms = s.strms ∧ ∀ a, a < 0x100060 → t.reg a = s.reg a

theorem State.sameHome_rfl (s : State) : s.sameHome s := ⟨rfl, rfl, rfl, fun _ _ => rfl⟩

theorem frameFree_sameHome (s : State) : FrameFree False s.sameHome where
  fab _ _ h := h
  out _ h := h
  reg {t} a v ha h := by
    obtain ⟨hcoh, hmem, hstrm, hreg⟩ := h
    exact ⟨hcoh, hmem, hstrm, fun b hb => (t.reg_setReg_ne a v b (lt_of_lt_of_le hb (fabricCounter_ge ha)).ne).trans (hreg b hb)⟩
  deps h := h.elim

theorem port_not_dep (n : Nat) : 136 + n % 2 < 64 → False := fun h => absurd h (by omega)

/-- An answer of the home leaves its own state. -/
theorem State.sameHome_cohAnswer (s : State) (f : Frame) (st : BitVec 5) (flags : BitVec 3) (data : List Byte) :
    s.sameHome (s.cohAnswer f st flags data) :=
  (frameFree_sameHome s).sendRouted (s := s.remember 0 f st []) (port_not_dep _) _ _ ⟨rfl, rfl, rfl, fun _ _ => rfl⟩

theorem State.sameHome_sendSnoop (h : s.sameHome t) (op line p : Nat) : s.sameHome (t.sendSnoop op line p) := by
  unfold State.sendSnoop
  dsimp only
  split
  · exact (frameFree_sameHome s).admitFrame (port_not_dep _) _ _ h
  · exact h

/-! ### Requests -/

theorem State.cohRequest_behind_free (hr : s.cohRefusal p f = none) (hl : s.lostFrom (lineOf f) = 0) (hb : s.behind (.coherence p f) = false) :
    s.cohRequest p f = if s.inHs (lineOf f) || s.rsvBlocks (lineOf f) f.src then s.answerRetry p f
      else if (cohSnoops f.opcode.toNat p (s.noCache (64 * lineOf f)) (s.dirOf (lineOf f))).isEmpty then s.grantCoh p f none
      else s.beginTrans (.coherence p f) [lineOf f]
        ((cohSnoops f.opcode.toNat p (s.noCache (64 * lineOf f)) (s.dirOf (lineOf f))).map (fun x => (lineOf f, x.1, x.2))) := by
  unfold State.cohRequest
  rw [hr]
  dsimp only
  rw [if_neg (by simp [hb]), if_neg (by simp [hl])]

/-- A RETRY is counted for the requester. -/
theorem State.answerRetry_leaves (s : State) (p : Nat) (f : Frame) :
    (s.answerRetry p f).reg rRetryCount = s.reg rRetryCount + 1 ∧ (s.answerRetry p f).coh.dir = s.coh.dir ∧
      tget (fun _ => 0) (s.answerRetry p f).coh.retries (64 * lineOf f + p) = tget (fun _ => 0) s.coh.retries (64 * lineOf f + p) + 1 := by
  unfold State.answerRetry
  extract_lets l k n c grant was t0 t1 t2
  obtain ⟨hcoh, -, -, hreg⟩ := t2.sameHome_cohAnswer f stRetry (if grant then 4 else 0) []
  have counted : t2.reg rRetryCount = s.reg rRetryCount + 1 ∧ t2.coh = t0.coh := by
    have one : t1.reg rRetryCount = s.reg rRetryCount + 1 := (State.reg_setReg ..).trans (if_pos rfl)
    unfold t2
    split
    · exact ⟨(t1.reg_count_ne _ _ (by decide)).trans one, rfl⟩
    · exact ⟨one, rfl⟩
  obtain ⟨hcount, hsame⟩ := counted
  refine ⟨(hreg _ (by decide)).trans hcount, ?_, ?_⟩
  · rw [hcoh, hsame]
  · rw [hcoh, hsame]
    exact (tget_tput _ _ _ _ _).trans (if_pos rfl)

/-- A line whose entry was set and that was then answered. -/
theorem State.dirOf_answered {l : Nat} {d : Dir} (hcoh : t.coh = (u.setDir l d).coh) (hdir : u.coh.dir = s.coh.dir) :
    t.dirOf l = d ∧ ∀ k, k ≠ l → t.dirOf k = s.dirOf k := by
  have table : t.coh.dir = tput dirDefault s.coh.dir l d := by
    rw [hcoh, ← hdir]
    rfl
  have entry (k : Nat) : t.dirOf k = if l = k then d else s.dirOf k := by
    rw [State.dirOf, table, tget_tput]
    rfl
  exact ⟨(entry l).trans (if_pos rfl), fun k hk => (entry k).trans (if_neg hk.symm)⟩

/-- A line granted with its data from memory: the directory entry is the one given, and no other and no byte changes. -/
theorem State.grantMem_leaves (hbad : s.lineBad (lineOf f) = false) (g : Nat) (d e : Dir) :
    ((s.grantMem p f g d e).dirOf (lineOf f) = d ∧ ∀ l, l ≠ lineOf f → (s.grantMem p f g d e).dirOf l = s.dirOf l) ∧
      (s.grantMem p f g d e).mem = s.mem := by
  have read := (s.served p f).readOnly_table (f.src.toNat % 2) (lineOf f)
  have good : (((s.served p f).burst (lineOf f) true false).chanTake (f.src.toNat % 2) (lineOf f)).lineBad (lineOf f) = false :=
    (read.lineBad _).trans hbad
  unfold State.grantMem
  dsimp only
  rw [if_neg (by simp [good])]
  obtain ⟨hcoh, hmem, -, -⟩ := State.sameHome_cohAnswer
    ((((s.served p f).burst (lineOf f) true false).chanTake (f.src.toNat % 2) (lineOf f)).setDir (lineOf f) d) f stOk (grantFlags g true)
    (((((s.served p f).burst (lineOf f) true false).chanTake (f.src.toNat % 2) (lineOf f)).setDir (lineOf f) d).bytes (64 * lineOf f) 64)
  exact ⟨State.dirOf_answered hcoh (congrArg Coh.dir read.coh :), hmem.trans read.mem⟩

/-- A request that finds its line in U is granted the line to own. -/
theorem State.grantCoh_of_u (hn : s.noCache (64 * lineOf f) = false) (hk : (s.dirOf (lineOf f)).kind = .u) :
    ∃ g, s.grantCoh p f none = s.grantMem p f g { kind := .ex, owner := p } {} := by
  have upg : isUpg f.opcode.toNat (s.dirOf (lineOf f)) p = false := by simp [isUpg, upgOk, hk]
  unfold State.grantCoh
  dsimp only
  rw [if_neg (by simp [upg]), if_neg (by simp [hn]), hk]
  split
  · exact ⟨2, rfl⟩
  · exact ⟨3, rfl⟩

/-- An RDS of a line that DEP-7s share adds its requester. -/
theorem State.grantCoh_of_sh (hop : f.opcode = 0x60) (hn : s.noCache (64 * lineOf f) = false) (hk : (s.dirOf (lineOf f)).kind = .sh) :
    s.grantCoh p f none = s.grantMem p f 1 (Dir.share (s.dirOf (lineOf f)) p) (s.dirOf (lineOf f)) := by
  have upg : isUpg f.opcode.toNat (s.dirOf (lineOf f)) p = false := by rw [hop]; rfl
  unfold State.grantCoh
  dsimp only
  rw [if_neg (by simp [upg]), if_neg (by simp [hn]), hk, if_pos (by rw [hop]; rfl)]

/-- No Satchel has to be asked about a line in U, or about a line that RDS finds shared. -/
theorem cohSnoops_none {op p : Nat} {d : Dir} (h : d.kind = .u ∨ d.kind = .sh ∧ op = 0x60) : cohSnoops op p false d = [] := by
  obtain h | ⟨h, rfl⟩ := h
  · have upg : isUpg op d p = false := by simp [isUpg, upgOk, h]
    simp [cohSnoops, upg, accessSnoops, h]
  · simp [cohSnoops, isUpg, h]

/-- A request for which no Satchel has to be asked is granted at once. -/
theorem State.cohRequest_granted (hr : s.cohRefusal p f = none ∧ s.lostFrom (lineOf f) = 0 ∧ s.behind (.coherence p f) = false)
    (hs : s.inHs (lineOf f) = false) (hrsv : s.rsvBlocks (lineOf f) f.src = false) (hn : s.noCache (64 * lineOf f) = false)
    (hk : (s.dirOf (lineOf f)).kind = .u ∨ (s.dirOf (lineOf f)).kind = .sh ∧ f.opcode.toNat = 0x60) : s.cohRequest p f = s.grantCoh p f none := by
  obtain ⟨hr, hl, hb⟩ := hr
  rw [State.cohRequest_behind_free hr hl hb, if_neg (by simp [hs, hrsv]), hn, cohSnoops_none hk]
  rfl

/-- The row of a coherence request: the sequence check, and its own opcode. -/
theorem cohRow {c : Fin 64 → Frame → Instr} {op : BitVec 8} {k : State → Nat → Frame → State}
    (row : ∀ p f s, exec (c p f) s = .next (s.cohChecked { f with opcode := op } (fun t => k t p.val { f with opcode := op })))
    (p : Fin 64) (f : Frame) (s : State) :
    (∀ t, s.seqCheck 0 { f with opcode := op } = (.accept, t) → exec (c p f) s = .next (k t p.val { f with opcode := op })) ∧
      (∀ t, s.seqCheck 0 { f with opcode := op } = (.drop, t) → exec (c p f) s = .next t) := by
  refine ⟨fun t h => ?_, fun t h => ?_⟩
  · rw [row, State.cohChecked, h]
  · rw [row, State.cohChecked, h]

end

theorem coherenceRequests : rulesCoherenceRequests := by
  unfold rulesCoherenceRequests
  intro row ready stable
  refine ⟨cohRow fun _ _ _ => rfl, cohRow fun _ _ _ => rfl, cohRow fun _ _ _ => rfl, cohRow fun _ _ _ => rfl, cohRow fun _ _ _ => rfl,
    cohRow fun _ _ _ => rfl, fun s p f hr hs => ?_, fun s p f hr hst hk => ?_, fun s p f hop hr hst hk => ?_, fun s p f hr hs => ?_⟩
  · obtain ⟨href, hlost, hbehind⟩ := hr
    rw [State.cohRequest_behind_free href hlost hbehind, if_pos (by simp [hs])]
    exact s.answerRetry_leaves p f
  · obtain ⟨hhs, hrsv, hnc, hbad⟩ := hst
    obtain ⟨g, hg⟩ := State.grantCoh_of_u (p := p) hnc hk
    rw [State.cohRequest_granted hr hhs hrsv hnc (.inl hk), hg]
    obtain ⟨⟨hdir, hother⟩, hmem⟩ := State.grantMem_leaves (p := p) hbad g { kind := .ex, owner := p } {}
    exact ⟨hdir, SameMemory.of_mem hmem, hother⟩
  · obtain ⟨hhs, hrsv, hnc, hbad⟩ := hst
    rw [State.cohRequest_granted hr hhs hrsv hnc (.inr ⟨hk, by rw [hop]; rfl⟩), State.grantCoh_of_sh hop hnc hk]
    exact (State.grantMem_leaves hbad _ _ _).1.1
  · unfold State.cohPut
    rw [hr]
    exact if_pos (by simp [hs])

/-! ### Members, lost lines, reservations -/

section
variable {s t u : State} {p : Nat} {f : Frame}

theorem getLsbD_two_pow_self {p : Nat} (hp : p < 64) : (BitVec.ofNat 64 (2 ^ p)).getLsbD p = true := by
  rw [BitVec.getLsbD_ofNat, decide_eq_true hp, Nat.testBit_two_pow_self]
  rfl

theorem getLsbD_clear_two_pow {w : BitVec 64} {p : Nat} (hp : p < 64) : (w &&& ~~~(BitVec.ofNat 64 (2 ^ p))).getLsbD p = false := by
  rw [BitVec.getLsbD_and, BitVec.getLsbD_not, getLsbD_two_pow_self hp, Bool.not_true, Bool.and_false, Bool.and_false]

theorem State.isMember_eq (s : State) (p : Nat) : s.isMember p = (s.reg rCohMembers).getLsbD p := fget_bit _ _

/-- Where no member's bit is cleared, COH.MEMBERS takes the bits written. -/
theorem State.writeMembers_joins {v : Word} (h : s.reg rCohMembers &&& ~~~v = 0) :
    (s.writeMembers v).reg rCohMembers = v ∧ ∀ a, a ≠ rCohMembers → (s.writeMembers v).reg a = s.reg a := by
  have all : s.reg rCohMembers ||| v = v := by
    refine BitVec.eq_of_getLsbD_eq fun i _ => ?_
    have bit := congrArg (BitVec.getLsbD · i) h
    simp only [BitVec.getLsbD_and, BitVec.getLsbD_not] at bit
    simp only [BitVec.getLsbD_or]
    revert bit
    cases (s.reg rCohMembers).getLsbD i <;> cases v.getLsbD i <;> simp
    omega
  have run : ∃ c, s.writeMembers v = { s.setReg rCohMembers v with coh := c } := by
    have nobody : (List.range 64).filter (fun p => BitVec.getLsbD (0 : Word) p) = [] := by simp
    unfold State.writeMembers
    dsimp only
    rw [h, all, if_neg (not_not.mpr rfl), nobody]
    exact ⟨_, rfl⟩
  obtain ⟨c, run⟩ := run
  rw [run]
  exact ⟨(s.reg_setReg _ _ _).trans (if_pos rfl), fun a ha => s.reg_setReg_ne _ _ _ ha⟩

/-- The members that leave, and the registers, stay while FLUSHes go out. -/
def State.leavesAs (l : BitVec 64) (m w : Word) (t : State) : Prop :=
  t.coh.leaving = l ∧ t.reg rCohMembers = m ∧ t.reg rCohStatus = w

/-- A FLUSH is outstanding to its member, and to no fewer than before. -/
theorem State.sendFlush_leaves (s : State) (p : Nat) :
    (s.sendFlush p).coh = { s.coh with flushes := s.coh.flushes ||| BitVec.ofNat 64 (2 ^ p) } ∧ (s.sendFlush p).reg rCohMembers = s.reg rCohMembers ∧
      (s.sendFlush p).reg rCohStatus = s.reg rCohStatus := by
  obtain ⟨hcoh, -, -, hreg⟩ := State.sameHome_sendSnoop
    (State.sameHome_rfl { s with coh := { s.coh with flushes := s.coh.flushes ||| BitVec.ofNat 64 (2 ^ p) } }) 0x6B 0 p
  exact ⟨hcoh, hreg _ (by decide), hreg _ (by decide)⟩

theorem State.leavesAs.flush {l : BitVec 64} {m w : Word} (h : s.leavesAs l m w) (p : Nat) :
    (if s.coh.flushes.getLsbD p then s else s.sendFlush p).leavesAs l m w := by
  split
  · exact h
  · obtain ⟨hleave, hmem, hstat⟩ := h
    obtain ⟨hcoh, hm, hs⟩ := s.sendFlush_leaves p
    exact ⟨(congrArg Coh.leaving hcoh).trans hleave, hm.trans hmem, hs.trans hstat⟩

/-- Once a FLUSH is outstanding it stays so while others go out. -/
theorem State.flushes_flush {p : Nat} (h : s.coh.flushes.getLsbD p = true) (q : Nat) :
    (if s.coh.flushes.getLsbD q then s else s.sendFlush q).coh.flushes.getLsbD p = true := by
  split
  · exact h
  · rw [(s.sendFlush_leaves q).1]
    simp [h]

theorem State.flushes_own {p : Nat} (hp : p < 64) :
    (if s.coh.flushes.getLsbD p then s else s.sendFlush p).coh.flushes.getLsbD p = true := by
  split
  case isTrue h => exact h
  case isFalse h =>
    rw [(s.sendFlush_leaves p).1]
    exact (BitVec.getLsbD_or ..).trans (by rw [getLsbD_two_pow_self hp, Bool.or_true])

/-- A bit that is cleared starts an orderly leave: its FLUSH goes out, and the bit still reads 1. -/
theorem State.writeMembers_leaves {v : Word} {p : Nat} (hp : p < 64) (hold : (s.reg rCohMembers).getLsbD p = true) (hv : v.getLsbD p = false) :
    (s.writeMembers v).coh.leaving.getLsbD p = true ∧ (s.writeMembers v).coh.flushes.getLsbD p = true ∧ (s.writeMembers v).isMember p = true ∧
      (s.writeMembers v).regBit rCohStatus 0 = true := by
  have going : (s.reg rCohMembers &&& ~~~v).getLsbD p = true := by
    rw [BitVec.getLsbD_and, BitVec.getLsbD_not, hold, hv, decide_eq_true hp]
    rfl
  have some : s.reg rCohMembers &&& ~~~v ≠ 0 := fun h => by
    rw [h] at going
    simp at going
  have start : ∃ u : State, s.writeMembers v =
      u.forAll ((List.range 64).filter (fun p => (s.reg rCohMembers &&& ~~~v).getLsbD p)) (fun s p => if s.coh.flushes.getLsbD p then s else s.sendFlush p) ∧
      u.coh.leaving = s.coh.leaving ||| (s.reg rCohMembers &&& ~~~v) ∧ u.reg rCohMembers = s.reg rCohMembers ||| v ∧ u.regBit rCohStatus 0 = true := by
    refine ⟨State.setRegBit { s.setReg rCohMembers (s.reg rCohMembers ||| v) with coh :=
      { s.coh with leaving := s.coh.leaving ||| (s.reg rCohMembers &&& ~~~v) } } rCohStatus 0 true, ?_, rfl, ?_, State.regBit_setRegBit _ _ _ _ (by decide)⟩
    · unfold State.writeMembers
      dsimp only
      rw [if_pos some]
      rfl
    · exact (State.reg_setRegBit_ne _ _ _ _ _ (by decide)).trans ((s.reg_setReg _ _ _).trans (if_pos rfl))
  obtain ⟨u, run, hleave, hmem, hstat⟩ := start
  have held : (s.writeMembers v).leavesAs u.coh.leaving (u.reg rCohMembers) (u.reg rCohStatus) := by
    rw [run]
    exact State.forAll_induct ⟨rfl, rfl, rfl⟩ fun _ q h => h.flush q
  have flushed : (s.writeMembers v).coh.flushes.getLsbD p = true := by
    rw [run]
    exact State.forAll_of_mem (Q := fun _ => True) (P := fun w => w.coh.flushes.getLsbD p = true) _
      (List.mem_filter.mpr ⟨List.mem_range.mpr hp, going⟩) trivial (fun _ _ _ _ => trivial) (fun _ _ => State.flushes_own hp)
      fun _ q _ _ h _ => State.flushes_flush h q
  obtain ⟨hl, hm, hs⟩ := held
  refine ⟨?_, flushed, ?_, (State.regBit_congr hs 0).trans hstat⟩
  · rw [hl, hleave, BitVec.getLsbD_or, going, Bool.or_true]
  · rw [State.isMember_eq, hm, hmem, BitVec.getLsbD_or, hold, Bool.true_or]

/-! ### The end of a leave, and lost lines -/

theorem State.leaveDone_of_leaving {p : Nat} (hp : p < 64) (h : s.coh.leaving.getLsbD p = true) :
    (s.leaveDone p).isMember p = false ∧ (s.leaveDone p).coh = { s.coh with leaving := s.coh.leaving &&& ~~~(BitVec.ofNat 64 (2 ^ p)) } := by
  have some : s.coh.leaving &&& BitVec.ofNat 64 (2 ^ p) ≠ 0 := fun h0 => by
    have bit : (s.coh.leaving &&& BitVec.ofNat 64 (2 ^ p)).getLsbD p = true := by
      rw [BitVec.getLsbD_and, h, getLsbD_two_pow_self hp]
      rfl
    rw [h0] at bit
    simp at bit
  unfold State.leaveDone
  dsimp only
  rw [if_pos some]
  exact ⟨(State.regBit_setRegBit_ne _ _ _ _ _ _ (by decide)).trans (State.regBit_setRegBit _ _ _ _ hp), rfl⟩

/-- Reading a canonical table of which every entry of one value has gone back to its default. -/
theorem tget_filter_value (l : Tab Nat) (c k : Nat) (hok : tableOk (fun _ => 0) l = true) :
    tget (fun _ => 0) (l.filter (fun e => e.2 ≠ c)) k = if tget (fun _ => 0) l k = c then 0 else tget (fun _ => 0) l k := by
  have absent {l : Tab Nat} {k : Nat} (h : ∀ e ∈ l, k < e.1) : tget (fun _ => 0) l k = 0 := by
    induction l with
    | nil => rfl
    | cons e r ih =>
      have hne : ¬ e.1 = k := (h e List.mem_cons_self).ne'
      exact (if_neg hne).trans (ih fun x hx => h x (List.mem_cons_of_mem _ hx))
  induction l with
  | nil =>
    show 0 = if 0 = c then 0 else 0
    rw [ite_self]
  | cons e r ih =>
    obtain ⟨k', v⟩ := e
    obtain ⟨-, later, hr⟩ := (tableOk_cons _ k' v r).mp hok
    have ih := ih hr
    have gone : tget (fun _ => 0) (r.filter (fun e => e.2 ≠ c)) k' = 0 := absent fun e he => later e (List.mem_filter.mp he).1
    rw [List.filter_cons]
    by_cases hk : k' = k
    · subst hk
      rw [show tget (fun _ => 0) ((k', v) :: r) k' = v from if_pos rfl]
      by_cases hv : v = c
      · rw [if_neg (by simp [hv]), if_pos hv]
        exact gone
      · rw [if_pos (by simp [hv]), if_neg hv]
        exact if_pos rfl
    · rw [show tget (fun _ => 0) ((k', v) :: r) k = tget (fun _ => 0) r k from if_neg hk, ← ih]
      split
      · exact if_neg hk
      · rfl

/-! ### The end of a transaction -/

/-- With nothing that waits at the home and no stream engine in use, nothing goes on. -/
theorem State.rests (hw : s.coh.waitq = []) (hs : s.strms = []) : s.runMirrors.settleStreams = s := by
  have none : s.runMirrors = s := by
    unfold State.runMirrors
    rw [hw]
    show { s with coh := { s.coh with waitq := [] } } = s
    rw [← hw]
  rw [none, State.settleStreams_of_idle hs]

/-- Work that waits alone, with no transaction, is behind nothing. -/
theorem State.behind_nothing (ht : s.coh.trans = []) (hw : s.coh.waitq = []) (p : Nat) (f : Frame) : s.behind (.coherence p f) = false := by
  rw [State.behind, ht, hw]
  rfl

/-- A PUT that waits alone for its line is served once the line is stable. -/
theorem State.homeGoes_put {line : Nat} (hw : s.coh.waitq = [.coherence p f]) (ht : s.coh.trans = []) (hop : f.opcode = 0x65) :
    exec (.homeLineStable line) s = .next
      ((State.servePut { s with coh := { s.coh with waitq := [] } } p f).runMirrors).settleStreams := by
  have stable : s.inHs line = false := by
    rw [State.inHs, ht]
    rfl
  have free : State.behind { s with coh := { s.coh with waitq := [] } } (.coherence p f) = false :=
    State.behind_nothing (s := { s with coh := { s.coh with waitq := [] } }) ht rfl p f
  have served : s.runWaiting = State.servePut { s with coh := { s.coh with waitq := [] } } p f := by
    unfold State.runWaiting
    rw [hw]
    have late : ¬ f.opcode.toNat ≤ 0x62 := by
      rw [hop]
      decide
    refine (if_neg ?_).trans (if_neg late)
    rw [free]
    simp [State.inHs, ht]
  show execHomeLineStable line s = _
  unfold execHomeLineStable
  rw [stable, if_neg Bool.false_ne_true, State.homeGoes, hw, served]
  rfl

/-- A PUTC of a Satchel that is listed, and is not an owner that shares, takes it off the list. -/
theorem State.servePut_putc (hop : f.opcode = 0x65) (hl : s.lostFrom (lineOf f) = 0) (hk : (s.dirOf (lineOf f)).kind ≠ .ow)
    (hlist : Dir.lists (s.dirOf (lineOf f)) p = true) :
    s.servePut p f = (s.setDir (lineOf f) (Dir.without (s.dirOf (lineOf f)) p)).cohAnswer f stOk 0 [] := by
  unfold State.servePut
  dsimp only
  rw [if_neg (by simp [hl]), if_neg (by simp [hlist]), if_pos (by rw [hop]; rfl), if_neg fun h => hk h.2]

/-- A transaction with the snoop response of a Satchel that met no error. -/
def Trans.heard (x : Trans) (p : Nat) (f : Frame) : Trans :=
  { x with pend := x.pend.filter (· ≠ (lineOf f, p))
           data := if f.flags.getLsbD 2 ∧ f.payload.length = 64 then x.data ++ [(lineOf f, f.payload)] else x.data
           kept := x.kept ++ [(p, f.flags.toNat % 4)] }

theorem State.snoopAnswered_unasked (h : ∀ x ∈ s.coh.trans, (lineOf f, p) ∉ x.pend) : s.snoopAnswered p f = s := by
  have none : s.coh.trans.find? (fun t => t.pend.contains (lineOf f, p)) = none :=
    List.find?_eq_none.mpr fun x hx => by simpa using h x hx
  unfold State.snoopAnswered
  dsimp only
  rw [none]

/-- The one transaction hears a snoop response; with the last one it ends. -/
theorem State.snoopAnswered_heard {x : Trans} (hx : s.coh.trans = [x]) (hp : (lineOf f, p) ∈ x.pend) (hst : f.status = stOk) (hop : f.opcode = 0xE8) :
    s.snoopAnswered p f =
      if (x.heard p f).pend.isEmpty then State.endTrans { s with coh := { s.coh with trans := [x.heard p f] } } (x.heard p f)
      else { s with coh := { s.coh with trans := [x.heard p f] } } := by
  have found : s.coh.trans.find? (fun t => t.pend.contains (lineOf f, p)) = some x := by
    rw [hx, List.find?_cons_of_pos (by simpa using hp)]
  have good : (f.status = stDataErr) = False := by
    rw [hst]
    exact eq_false (by decide)
  have kept : (f.opcode = 0xE9) = False := by
    rw [hop]
    exact eq_false (by decide)
  unfold State.snoopAnswered
  dsimp only
  rw [found]
  dsimp only
  simp only [good, kept, false_or, if_false, hx, List.map_singleton, if_true, not_false_eq_true, and_true]
  rfl

/-- An RDS of a line whose one owner has answered with its data: owner and requester share it. -/
theorem State.grantCoh_of_ex {q l o : Nat} {g : Frame} {data : List Byte} (hg : lineOf g = l) (hop : g.opcode = 0x60)
    (hdir : s.dirOf l = { kind := .ex, owner := o }) (hn : s.noCache (64 * l) = false) :
    s.grantCoh q g (some data) = s.grantData q g 1 { kind := .ow, owner := o, sharers := BitVec.ofNat 64 (2 ^ q) } data := by
  subst hg
  have upg : isUpg g.opcode.toNat (s.dirOf (lineOf g)) q = false := by
    rw [hop]
    rfl
  have shared : Dir.share { kind := .ow, owner := o } q = { kind := .ow, owner := o, sharers := BitVec.ofNat 64 (2 ^ q) } := by
    simp [Dir.share]
  unfold State.grantCoh
  dsimp only
  rw [if_neg (by simp [upg]), if_neg (by simp [hn]), if_pos (by rw [hop]; rfl), hdir, ← shared]
  rfl

/-- The last response to an RDS of a line that one Satchel owned, with its data. -/
theorem State.endTrans_rds {x : Trans} {g : Frame} {q l o : Nat} {data : List Byte} (ht : s.coh.trans = [x]) (hw : x.work = .coherence q g) (hg : lineOf g = l)
    (hop : g.opcode = 0x60) (hd : x.data = [(l, data)]) (he : x.errs = []) (hl : x.lost = false) (ho : x.orphan = false)
    (hdir : s.dirOf l = { kind := .ex, owner := o }) (hn : s.noCache (64 * l) = false) :
    (s.endTrans x).coh.trans = [] ∧ (s.endTrans x).coh.waitq = s.coh.waitq ∧ (s.endTrans x).strms = s.strms ∧ (s.endTrans x).mem = s.mem ∧
      (s.endTrans x).dirOf l = { kind := .ow, owner := o, sharers := BitVec.ofNat 64 (2 ^ q) } := by
  have out : ∃ u : State, s.endTrans x = u.grantCoh q g (some (pokedLine x.pokes l data)) ∧ u.coh.trans = [] ∧ u.coh.waitq = s.coh.waitq ∧
      u.strms = s.strms ∧ u.mem = s.mem ∧ u.coh.dir = s.coh.dir ∧ u.regs = s.regs := by
    refine ⟨State.stableNow { s with coh := { s.coh with trans := s.coh.trans.filter (· ≠ x) } } x.lines, ?_, ?_, rfl, rfl, rfl, rfl, rfl⟩
    · have got : (x.lineData.find? (fun y => y.1 = lineOf g)).map Prod.snd = some (pokedLine x.pokes l data) := by
        rw [Trans.lineData, hd, hg]
        simp
      unfold State.endTrans
      dsimp only
      rw [hw]
      dsimp only
      rw [hl, he, ho, got]
      rfl
    · show s.coh.trans.filter (· ≠ x) = []
      rw [ht]
      simp
  obtain ⟨u, run, htrans, hwaitq, hstrm, hmem, hd', hregs⟩ := out
  have dirs : u.dirOf l = { kind := .ex, owner := o } := by rw [State.dirOf, hd', ← State.dirOf, hdir]
  have windows : u.noCache (64 * l) = false := by
    have reg (a : Nat) : u.reg a = s.reg a := by rw [State.reg, State.reg, hregs]
    rw [← hn]
    unfold State.noCache
    simp only [State.regBit_congr (reg _), reg]
  rw [run, State.grantCoh_of_ex hg hop dirs windows]
  obtain ⟨hcoh, hm, hst, -⟩ := State.sameHome_cohAnswer
    ((u.served q g).setDir (lineOf g) { kind := .ow, owner := o, sharers := BitVec.ofNat 64 (2 ^ q) }) g stOk (grantFlags 1 true) (pokedLine x.pokes l data)
  refine ⟨(congrArg Coh.trans hcoh).trans htrans, (congrArg Coh.waitq hcoh).trans hwaitq, hst.trans hstrm, hm.trans hmem, ?_⟩
  subst hg
  exact (State.dirOf_answered (s := s) hcoh hd').1

end

theorem coherenceMembers : rulesCoherenceMembers := by
  refine ⟨fun v s hrec hv => ?_, fun v s p hrec hp hv => ?_, fun p f s hp hf => ?_, fun v s hrec hn => ?_, fun v s hrec hok => ?_, fun line s => ?_,
    fun line s h => ?_, fun line p f s hw ht hst hop hl hk hlist => ?_, fun p f s hx hw hst => ?_, fun p f x s hx hp hy hst hop hw hs => ?_,
    fun p f g q x s hx hp hw hg hgo hd he hl ho hdir hn hst hop hfl hlen hwait hs => ?_⟩
  · obtain ⟨hreg, hrest⟩ := State.writeMembers_joins hv
    exact ⟨_, congrArg Host.Outcome.next (s.bar0_eq_of_not_recovery _ hrec), hreg, hrest⟩
  · exact ⟨_, congrArg Host.Outcome.next (s.bar0_eq_of_not_recovery _ hrec), State.writeMembers_leaves p.isLt hp hv⟩
  · have run : exec (.flushResponse p f) s =
        .next (State.leaveDone { s with coh := { s.coh with flushes := s.coh.flushes &&& ~~~(BitVec.ofNat 64 (2 ^ p.val)) } } p.val) := by
      show execFlushResponse p f s = _
      unfold execFlushResponse
      rw [hf]
      rfl
    obtain ⟨hmember, hcoh⟩ := State.leaveDone_of_leaving
      (s := { s with coh := { s.coh with flushes := s.coh.flushes &&& ~~~(BitVec.ofNat 64 (2 ^ p.val)) } }) p.isLt hp
    refine ⟨_, run, hmember, ?_, ?_, ?_⟩
    · rw [hcoh]
      exact getLsbD_clear_two_pow p.isLt
    · rw [hcoh]
      exact getLsbD_clear_two_pow p.isLt
    · rw [hcoh]
  · have run : exec (.cohLineRelease v) s = .next (s.releaseLine (v.toNat % 2 ^ 44 / 64)) :=
      congrArg Host.Outcome.next ((s.bar0_eq_of_not_recovery _ hrec).trans (if_pos hn))
    have lost (l : Nat) : (s.releaseLine (v.toNat % 2 ^ 44 / 64)).lostFrom l = if v.toNat % 2 ^ 44 / 64 = l then 0 else s.lostFrom l := tget_tput _ _ _ _ _
    exact ⟨_, run, (lost _).trans (if_pos rfl), rfl, rfl, fun l hl => (lost l).trans (if_neg hl.symm)⟩
  · exact ⟨_, congrArg Host.Outcome.next (s.bar0_eq_of_not_recovery _ hrec), fun l => tget_filter_value _ _ _ hok⟩
  · intro ripe
    refine ⟨_, rfl, fun r => ?_, ?_, fun a ha => ?_⟩
    · exact List.mem_filter.trans (and_congr_right fun _ => iff_of_eq (Bool.not_eq_true' (ripe r)))
    · exact (State.reg_setReg _ _ _ _).trans (if_pos rfl)
    · exact State.reg_setReg_ne _ _ _ _ ha
  · have run : exec (.homeLineStable line) s = .next s := by
      show execHomeLineStable line s = _
      unfold execHomeLineStable
      split
      · rfl
      · obtain h | ⟨hw, hs⟩ := h
        · contradiction
        · rw [State.homeGoes, hw]
          exact congrArg Host.Outcome.next (State.settleStreams_of_idle hs)
    exact run
  · have served := State.servePut_putc (s := { s with coh := { s.coh with waitq := [] } }) hop hl hk hlist
    have run := (State.homeGoes_put (line := line) hw ht hop).trans
      (congrArg (fun u : State => Host.Outcome.next u.runMirrors.settleStreams) served)
    obtain ⟨hcoh, hmem, hstrm, -⟩ := State.sameHome_cohAnswer
      (State.setDir { s with coh := { s.coh with waitq := [] } } (lineOf f) (Dir.without (s.dirOf (lineOf f)) p)) f stOk 0 []
    refine ⟨_, run.trans (congrArg Host.Outcome.next (State.rests (congrArg Coh.waitq hcoh) (hstrm.trans hst))), congrArg Coh.waitq hcoh, ?_,
      SameMemory.of_mem hmem⟩
    exact (State.dirOf_answered (s := s) hcoh rfl).1
  · have run : exec (.snoopResponse p f) s = .next s.runMirrors.settleStreams :=
      congrArg (fun u : State => Host.Outcome.next u.runMirrors.settleStreams) (State.snoopAnswered_unasked hx)
    exact run.trans (congrArg Host.Outcome.next (State.rests hw hst))
  · have left : ¬ (x.heard p.val f).pend.isEmpty = true := by
      obtain ⟨y, hy, hne⟩ := hy
      have : y ∈ (x.heard p.val f).pend := List.mem_filter.mpr ⟨hy, decide_eq_true hne⟩
      intro h
      rw [List.isEmpty_iff.mp h] at this
      exact List.not_mem_nil this
    have heard := (State.snoopAnswered_heard hx hp hst hop).trans (if_neg left)
    have run : exec (.snoopResponse p f) s = .next { s with coh := { s.coh with trans := [x.heard p.val f] } } := by
      refine (congrArg (fun u : State => Host.Outcome.next u.runMirrors.settleStreams) heard).trans ?_
      exact congrArg Host.Outcome.next (State.rests (s := { s with coh := { s.coh with trans := [x.heard p.val f] } }) hw hs)
    refine ⟨_, run, rfl, congrArg (· :: []) ?_⟩
    unfold Trans.heard
    split
    · rfl
    · rw [List.append_nil]
  · have last : (x.heard p.val f).pend = [] := by
      rw [Trans.heard, hp]
      simp
    have heard := (State.snoopAnswered_heard hx (by rw [hp]; exact List.mem_singleton_self _) hst hop).trans
      (if_pos (List.isEmpty_iff.mpr last))
    have data : (x.heard p.val f).data = [(lineOf f, f.payload)] := by
      rw [Trans.heard, hd]
      exact if_pos ⟨hfl, hlen⟩
    obtain ⟨htrans, hwaitq, hstrm, hmem, hdir'⟩ := State.endTrans_rds (s := { s with coh := { s.coh with trans := [x.heard p.val f] } })
      (x := x.heard p.val f) (l := lineOf f) rfl hw hg hgo data he hl ho hdir hn
    have run : exec (.snoopResponse p f) s = .next _ := (congrArg (fun u : State => Host.Outcome.next u.runMirrors.settleStreams) heard).trans
      (congrArg Host.Outcome.next (State.rests (hwaitq.trans hwait) (hstrm.trans hs)))
    exact ⟨_, run, htrans, SameMemory.of_mem hmem, hdir'⟩

/-- Settles O19: requests at the home, and members, lost lines and transactions. -/
theorem homeroomCoherence : Obligations.HomeroomCoherence := ⟨coherenceRequests, coherenceMembers⟩

end Sys2Proof.Machine
end

section
/-! SUPPORT. What the units of the module leave of the Bell: a property that looks at the Bell's state, the registers of its block and what a
Seat holds beside results is kept. -/

namespace Sys2Proof.Machine

/-- A register of the BELL block, or GLB.MODE. -/
def bellReg (a : Nat) : Prop := a = rGlbMode ∨ 0x10000 ≤ a ∧ a < 0x20000

/-- A property that looks at the Bell's state, at the registers of its block and at the Desks, and that a result given to a Seat does not
touch. -/
structure LessonFree (P : State → Prop) : Prop where
  other : ∀ {s t : State}, P s → t.bell = s.bell → t.regs = s.regs → t.desks = s.desks → P t
  reg : ∀ {s : State} {a : Nat} (v : Word), ¬ bellReg a → P s → P (s.setReg a v)
  seat : ∀ {s : State} (d k id : Nat) (st : BitVec 5) (data : List Byte), P s → P (s.resultDesk d k id st data)

theorem not_bellReg_of_ge {a : Nat} (h : 0x20000 ≤ a) : ¬ bellReg a := by
  unfold bellReg rGlbMode
  omega

theorem not_bellReg_roomReg (room off : Nat) : ¬ bellReg (roomReg room off) := not_bellReg_of_ge (by unfold roomReg crReg rWingBlock; omega)
theorem not_bellReg_chReg (c off : Nat) : ¬ bellReg (chReg c off) := not_bellReg_of_ge (by unfold chReg rChan; omega)

namespace LessonFree

variable {P : State → Prop} {s : State}

theorem toResultFree (hP : LessonFree P) : ResultFree P where
  fab _ _ h := hP.other h rfl rfl rfl
  fabric _ h := hP.other h rfl rfl rfl
  out _ h := hP.other h rfl rfl rfl
  reg v ha h := hP.reg v (not_bellReg_of_ge (by have := fabricCounter_ge ha; omega)) h
  deps _ _ _ h := hP.other h rfl rfl rfl
  seat d k id st data h := hP.seat d k id st data h
  strm _ _ _ _ _ h := hP.other h rfl rfl rfl
  walks _ h := hP.other h rfl rfl rfl
  reads _ h := hP.other h rfl rfl rfl
  irqs _ h := hP.other h rfl rfl rfl

/-! ### Memory -/

theorem burst (hP : LessonFree P) (l : Nat) (rd wr : Bool) (h : P s) : P (s.burst l rd wr) := by
  have counts {u : State} (b : Bool) (c off : Nat) (hu : P u) : P (if b then u.count (chReg c off) else u) := by
    split
    · exact hP.reg _ (not_bellReg_chReg _ _) hu
    · exact hu
  unfold State.burst
  dsimp only
  split
  · refine hP.other (s := if _ then _ else _) ?_ rfl rfl rfl
    split
    · exact counts wr _ _ (counts rd _ _ h)
    · exact hP.reg _ (not_bellReg_chReg _ _) (counts wr _ _ (counts rd _ _ h))
  · exact h

theorem heal (hP : LessonFree P) (l : Nat) (h : P s) : P (s.heal l) := by
  unfold State.heal
  dsimp only
  split
  · split
    · exact hP.reg _ (not_bellReg_chReg _ _) (hP.reg _ (by unfold errEntry; exact not_bellReg_of_ge (by unfold chReg rChan; omega)) (hP.other h rfl rfl rfl))
    · exact hP.other h rfl rfl rfl
  · exact hP.other h rfl rfl rfl

theorem dropSlot (hP : LessonFree P) (l : Nat) (h : P s) : P (s.dropSlot l) := by
  unfold State.dropSlot
  split
  · split
    · exact hP.other h rfl rfl rfl
    · exact h
  · exact h

theorem setBytes (hP : LessonFree P) (a : Nat) (l : List Byte) (h : P s) : P (s.setBytes a l) := by
  induction l generalizing s a with
  | nil => exact h
  | cons b r ih => exact ih _ (hP.other (s := s) h rfl rfl rfl)

theorem storeLine (hP : LessonFree P) (a : Nat) (data : List Byte) (l : Nat) (h : P s) : P (s.storeLine a data l) := by
  unfold State.storeLine
  dsimp only
  split
  · exact hP.heal _ (hP.setBytes _ _ (hP.dropSlot _ h))
  · exact hP.setBytes _ _ (hP.dropSlot _ h)

theorem storeMem (hP : LessonFree P) (a : Nat) (data : List Byte) (h : P s) : P (s.storeMem a data).2 := by
  have lines : P (s.forAll (linesOf a data.length) (fun u l =>
      if ((linesOf a data.length).filter (fun l => s.lineBad l && decide ((span a data.length l).2 - (span a data.length l).1 < 64))).contains l then u
      else (u.storeLine a data l).burst l false true)) :=
    State.forAll_induct h fun u l hu => by
      split
      · exact hu
      · exact hP.burst _ _ _ (hP.storeLine _ _ _ hu)
  unfold State.storeMem
  dsimp only
  split
  · exact lines
  · exact State.forAll_induct lines fun u l hu => hP.reg _ (not_bellReg_chReg _ _) hu

theorem setDir (hP : LessonFree P) (l : Nat) (d : Dir) (h : P s) : P (s.setDir l d) := hP.other h rfl rfl rfl
theorem setDep (hP : LessonFree P) (q : Nat) (d : Dep) (h : P s) : P (s.setDep q d) := hP.other h rfl rfl rfl

theorem takeLine (hP : LessonFree P) (l : Nat) (h : P s) : P (s.takeLine l) := by
  have merged (x : List Byte) : P (s.writeBack l x) := by
    unfold State.writeBack
    split
    · exact hP.burst _ _ _ (hP.storeLine _ _ _ h)
    · exact h
  unfold State.takeLine
  dsimp only
  split
  · exact h
  · refine hP.setDir _ _ (State.forAll_induct ?_ fun u q hu => hP.setDep _ _ hu)
    split
    · exact merged _
    · exact h

theorem poke (hP : LessonFree P) (a : Nat) (d : List Byte) (h : P s) : P (s.poke a d) :=
  hP.storeMem _ _ (hP.other (s := s.forAll _ _) (State.forAll_induct h fun _ l hu => hP.takeLine l hu) rfl rfl rfl)

/-! ### Multicast and collectives -/

theorem sendTimed (hP : LessonFree P) (f : Frame) (o : Owner) (h : P s) : P (s.sendTimed f o) := by
  unfold State.sendTimed
  split
  · exact hP.toResultFree.tellOwner _ _ _ _ _ h
  · exact hP.toResultFree.launch _ _ _ (hP.other h rfl rfl rfl)

theorem pumpAll (hP : LessonFree P) (e : Nat) (h : P s) : P (s.pumpAll e) :=
  State.forAll_induct h fun _ _ hu => hP.toResultFree.pump _ _ _ hu

theorem mstStart (hP : LessonFree P) (r : Req) (h : P s) : P (s.mstStart r) := by
  unfold State.mstStart
  dsimp only
  split
  · exact hP.pumpAll _ (hP.toResultFree.mcAnswer _ _ _ h)
  · refine State.forAll_induct (hP.reg _ (not_bellReg_of_ge (by decide)) (hP.other h rfl rfl rfl)) fun u m hu => ?_
    split
    · exact hP.sendTimed _ _ hu
    · exact hP.toResultFree.submit _ _ _ hu

theorem mstRelease (hP : LessonFree P) (f : Frame) (h : P s) : P (s.mstRelease f) := by
  unfold State.mstRelease
  split
  · exact hP.toResultFree.returnCredit (fun _ => trivial) _ _ (hP.other h rfl rfl rfl)
  · exact h

theorem mstTake (hP : LessonFree P) (r : Req) (h : P s) : P (s.mstTake r) := by
  unfold State.mstTake
  split
  · unfold State.mstGo
    dsimp only
    split
    · exact hP.pumpAll _ (hP.toResultFree.mcAnswer _ _ _ (hP.mstRelease _ h))
    · exact hP.mstStart _ (hP.mstRelease _ h)
  · exact hP.reg _ (not_bellReg_of_ge (by decide)) (hP.other h rfl rfl rfl)

theorem collNotice (hP : LessonFree P) (d : CollDesc) (st : BitVec 5) (h : P s) : P (s.collNotice d st) := by
  unfold State.collNotice
  dsimp only
  refine hP.mstTake _ ?_
  split
  · exact hP.poke _ _ h
  · exact hP.toResultFree.submit _ _ _ (hP.poke _ _ h)

theorem collFenced (hP : LessonFree P) (h : P s) : P s.collFenced :=
  State.forAll_induct h fun u e hu => by
    split
    · unfold State.collAbort
      split
      · exact hP.collNotice _ _ (hP.other hu rfl rfl rfl)
      · exact hu
    · exact hu

theorem collBell (hP : LessonFree P) (l : Nat) (h : P s) : P (s.collBell l) :=
  State.forAll_induct h fun u e hu => by
    split
    · exact hP.other hu rfl rfl rfl
    · exact hu

/-! ### Faults, the reset log, requests of a reset -/

theorem classFault (hP : LessonFree P) (room bit : Nat) (h : P s) : P (s.classFault room bit) :=
  hP.toResultFree.classFault _ _ (fun _ ht => hP.reg _ (not_bellReg_roomReg _ _) ht) h

theorem logRecord (hP : LessonFree P) (kind domain cause arg : Nat) (v : Word) (h : P s) : P (s.logRecord kind domain cause arg v) := by
  have entry (x : Nat) : ¬ bellReg (rRstLog + 32 * s.regF rLogHead 0 7 + x) := not_bellReg_of_ge (by unfold rRstLog; omega)
  unfold State.logRecord
  exact hP.reg _ (not_bellReg_of_ge (by decide)) (hP.reg _ (entry 24) (hP.reg _ (entry 16) (hP.reg _ (entry 8) (hP.reg _ (entry 0) h))))

theorem logEvent (hP : LessonFree P) (kind domain cause arg : Nat) (h : P s) : P (s.logEvent kind domain cause arg) := hP.logRecord _ _ _ _ _ h

theorem noteReset (hP : LessonFree P) (d cause arg : Nat) (h : P s) : P (s.noteReset d cause arg) := by
  have logged : P (if d = 0 then s.logFaults cause else s) := by
    split
    · exact State.forAll_induct h fun _ _ hu => hP.logRecord _ _ _ _ _ hu
    · exact h
  have counted : P (((if d = 0 then s.logFaults cause else s).countWrap rRstCount (16 * d) 16).logEvent 0 d cause arg) :=
    hP.logEvent _ _ _ _ (hP.reg _ (not_bellReg_of_ge (by decide)) logged)
  have escalate {u : State} (hu : P u) : P (u.escalate cause arg) := by
    unfold State.escalate
    dsimp only
    split
    · exact hP.logEvent _ _ _ _ (hP.reg _ (not_bellReg_of_ge (by decide)) (hP.other hu rfl rfl rfl))
    · exact hP.other hu rfl rfl rfl
  have marked : P (let t := ((if d = 0 then s.logFaults cause else s).countWrap rRstCount (16 * d) 16).logEvent 0 d cause arg;
      if cause = 3 ∨ cause = 4 then { t with rst := { t.rst with wd := tput (fun _ => none) t.rst.wd d (some t.now) } } else t) := by
    dsimp only
    split
    · exact hP.other counted rfl rfl rfl
    · exact counted
  unfold State.noteReset
  dsimp only
  split
  · exact escalate marked
  · exact marked

theorem setDomain (hP : LessonFree P) (d : Nat) (fence reset : Bool) (h : P s) : P (s.setDomain d fence reset) := by
  have status : ¬ bellReg rRstStatus := not_bellReg_of_ge (by decide)
  exact hP.reg _ status (hP.reg _ status (hP.reg _ status h))

theorem loseOverflow (hP : LessonFree P) (h : P s) : P s.loseOverflow :=
  State.forAll_induct h fun u q hu => by
    have lost : P ((u.dequeue q.id).count rOvfLost) := hP.reg _ (not_bellReg_of_ge (by decide)) (hP.other hu rfl rfl rfl)
    dsimp only
    split
    · unfold State.answerGen
      dsimp only
      refine hP.toResultFree.sendRouted (fun _ => trivial) _ _ ?_
      split
      · exact hP.reg _ (not_bellReg_of_ge (by decide)) lost
      · exact lost
    · exact lost

theorem sendFlush (hP : LessonFree P) (p : Nat) (h : P s) : P (s.sendFlush p) := by
  have out : P { s with coh := { s.coh with flushes := s.coh.flushes ||| BitVec.ofNat 64 (2 ^ p) } } := hP.other h rfl rfl rfl
  unfold State.sendFlush State.sendSnoop
  dsimp only
  split
  · exact hP.toResultFree.admitFrame (fun _ => trivial) _ _ out
  · exact out

theorem fence (hP : LessonFree P) (d : Nat) (h : P s) : P (s.fence d) := by
  have fenced : P (s.setDomain d true false) := hP.setDomain _ _ _ h
  unfold State.fence
  dsimp only
  split
  · exact hP.collFenced fenced
  · split
    · exact State.forAll_induct (hP.loseOverflow (hP.collFenced fenced)) fun _ p hu => hP.sendFlush p hu
    · exact fenced

theorem nextReset (hP : LessonFree P) (n : Nat) (h : P s) : P (s.nextReset n) := by
  induction n generalizing s with
  | zero => exact h
  | succ n ih =>
    unfold State.nextReset
    split
    · dsimp only
      split
      · exact ih (hP.other h rfl rfl rfl)
      · exact hP.fence _ (hP.noteReset _ _ _ (hP.other h rfl rfl rfl))
    · exact h

theorem requestReset (hP : LessonFree P) (d cause arg : Nat) (h : P s) : P (s.requestReset d cause arg) := by
  have status : ¬ bellReg rRstStatus := not_bellReg_of_ge (by decide)
  unfold State.requestReset
  dsimp only
  split
  · exact h
  · split
    · exact hP.toResultFree.raise _ (hP.logEvent _ _ _ _ (hP.reg _ status h))
    · split
      · exact hP.nextReset _ (hP.other (s := s.unhold d) (hP.reg _ status (hP.other h rfl rfl rfl)) rfl rfl rfl)
      · split
        · exact h
        · split
          · exact hP.fence _ (hP.reg _ status (hP.other h rfl rfl rfl))
          · exact hP.nextReset _ (hP.other h rfl rfl rfl)

theorem limitReset (hP : LessonFree P) (h : P s) : P s.limitReset := by
  unfold State.limitReset
  split
  · exact hP.requestReset _ _ _ h
  · exact h

/-! ### Prisms -/

theorem vecDone (hP : LessonFree P) (x : OmuVec) (st : BitVec 5) (hst : st ≠ stOk) (data : List Byte) (h : P s) : P (s.vecDone x st data) := by
  unfold State.vecDone
  split
  · dsimp only
    split
    · exact h
    · rw [if_neg fun g => hst g.1]
      exact hP.seat _ _ _ _ _ h
  · unfold State.streamResult
    dsimp only
    split
    · exact h
    · split
      · exact h
      · rw [if_neg fun g => hst g.1]
        exact hP.other h rfl rfl rfl
  · exact hP.toResultFree.sendRouted (fun _ => trivial) _ _ h

theorem prismHold (hP : LessonFree P) (p : Fin 4) (m : Option OmuImage) (h : P s) : P (s.prismHold p m) := by
  have stat : ¬ bellReg (prismStat p) := not_bellReg_of_ge (by unfold prismStat rPrismStatus; omega)
  have held : P (s.setPrism p { s.prism p with held := m }) := hP.other h rfl rfl rfl
  unfold State.prismHold State.prismShow
  dsimp only
  split
  · exact hP.reg _ stat (hP.reg _ stat (hP.reg _ stat held))
  · exact hP.reg _ stat (hP.reg _ stat (hP.reg _ stat held))

theorem dropVecs (hP : LessonFree P) (p : OmuVec → Bool) (st : BitVec 5) (hst : st ≠ stOk) (h : P s) : P (s.dropVecs p st) :=
  State.forAll_induct (hP.other h rfl rfl rfl) fun _ x hu => hP.vecDone x st hst [] hu

theorem prismDrop (hP : LessonFree P) (p : Fin 4) (h : P s) : P (s.prismDrop p) := by
  unfold State.prismDrop
  exact hP.prismHold _ _ (hP.other h rfl rfl rfl)

theorem prismsDrop (hP : LessonFree P) (h : P s) : P s.prismsDrop := by
  unfold State.prismsDrop State.dropUnserved
  exact hP.dropVecs _ _ (by decide) (State.forAll_induct h fun _ p hu => hP.prismDrop p hu)

end LessonFree
end Sys2Proof.Machine
end

section
/-! SUPPORT. The Bell rings. -/

namespace Sys2Proof.Machine

section
variable {s t u : State}

/-! ### Seats at the Bell -/

/-- A Desk whose Seats are idle, with nothing outstanding. -/
def Desk.rests (d : Desk) : Prop := ∀ k : Fin 4, d.seats[k].acc = [] ∧ d.seats[k].st = .idle
/-- Every Seat is idle, with nothing outstanding. -/
def State.seatsRest (s : State) : Prop := ∀ i : Nat, (s.desk i).rests

theorem Desk.rests_default (i : Nat) : (deskDefault i).rests := by
  intro k
  simp [deskDefault]

theorem Desk.rests_abort (d : Desk) : d.abort.rests := by
  intro k
  simp [Desk.abort]

theorem Desk.rests.set {d : Desk} (h : d.rests) (k : Fin 4) {x : Seat} (hx : x.acc = [] ∧ x.st = .idle) :
    Desk.rests { d with seats := d.seats.set k x } := by
  intro j
  by_cases hj : k = j
  · subst hj
    simpa using hx
  · have : k.val ≠ j.val := fun e => hj (Fin.ext e)
    simpa [Vector.getElem_set_ne _ _ this] using h j

theorem State.seatsRest.setDesk (h : s.seatsRest) (i : Nat) {d : Desk} (hd : d.rests) : (s.setDesk i d).seatsRest := by
  intro j
  rw [State.desk_setDesk]
  split
  · exact hd
  · exact h j

theorem State.seatsRest.resultDesk (h : s.seatsRest) (d k id : Nat) (st : BitVec 5) (data : List Byte) :
    (s.resultDesk d k id st data).seatsRest := by
  unfold State.resultDesk
  split
  case isTrue hk =>
    obtain ⟨hacc, hst⟩ := h d ⟨k, hk⟩
    have given : (s.setSeat d ⟨k, hk⟩ { s.seat d ⟨k, hk⟩ with
        acc := (s.seat d ⟨k, hk⟩).acc.map (fun (a : Access) => if a.id = id then { a with result := some (st, data) } else a) }).seatsRest :=
      h.setDesk d ((h d).set _ ⟨by rw [State.seat, hacc, List.map_nil], hst⟩)
    dsimp only
    split
    · exact given.setDesk d (given d)
    · exact given
  case isFalse => exact h

/-- A Desk that the table does not list is as at reset. -/
theorem tget_of_not_mem {α : Type} (d : Nat → α) (l : Tab α) (k : Nat) (h : ∀ e ∈ l, e.1 ≠ k) : tget d l k = d k := by
  induction l with
  | nil => rfl
  | cons e r ih => exact (if_neg (h e List.mem_cons_self)).trans (ih fun x hx => h x (List.mem_cons_of_mem _ hx))

/-- At the Bell every Desk loses what its Seats had outstanding. -/
theorem State.seatsRest_abort (s : State) : (s.forAll s.desks (fun s e => s.setDesk e.1 (Desk.abort e.2))).seatsRest := by
  intro i
  by_cases hi : ∃ e ∈ s.desks, e.1 = i
  · obtain ⟨e, he, rfl⟩ := hi
    refine State.forAll_of_mem (Q := fun _ => True) (P := fun u => (u.desk e.1).rests) _ he trivial (fun _ _ _ _ => trivial) (fun u _ => ?_)
      fun u y _ _ hu _ => ?_
    · rw [State.desk_setDesk, if_pos rfl]
      exact Desk.rests_abort _
    · rw [State.desk_setDesk]
      split
      · exact Desk.rests_abort _
      · exact hu
  · have absent : ∀ e ∈ s.desks, e.1 ≠ i := fun e he h => hi ⟨e, he, h⟩
    refine State.forAll_mem_induct (P := fun u => (u.desk i).rests) ?_ fun u y hy hu => ?_
    · rw [State.desk, tget_of_not_mem _ _ _ absent]
      exact Desk.rests_default i
    · rw [State.desk_setDesk, if_neg (absent y hy)]
      exact hu

/-! ### Before the Bell's content is in force -/

/-- What STRICT at the Bell follows. -/
def State.strictSource (m st : Bool) (w : Option Bool) (t : State) : Prop := t.isMaster = m ∧ t.strict = st ∧ t.bell.strictNext = w

theorem State.regBit_of_regs (h : t.regs = s.regs) (a i : Nat) : t.regBit a i = s.regBit a i :=
  State.regBit_congr (by rw [State.reg, State.reg, h]) i

theorem bellReg_status : bellReg rBellStatus := .inr (by decide)
theorem bellReg_mode : bellReg rGlbMode := .inl rfl
theorem bellReg_lesson : bellReg rLesson := .inr (by decide)

theorem State.reg_setReg_bell {a b : Nat} (v : Word) (ha : ¬ bellReg a) (hb : bellReg b) : (s.setReg a v).reg b = s.reg b :=
  s.reg_setReg_ne a v b fun e => ha (e ▸ hb)

theorem lessonFree_strictSource (m st : Bool) (w : Option Bool) : LessonFree (State.strictSource m st w) where
  other h hbell hregs _ := by
    obtain ⟨hm, hs, hw⟩ := h
    exact ⟨(State.regBit_of_regs hregs _ _).trans hm, (State.regBit_of_regs hregs _ _).trans hs, hbell ▸ hw⟩
  reg v ha h := by
    obtain ⟨hm, hs, hw⟩ := h
    exact ⟨(State.regBit_congr (State.reg_setReg_bell v ha bellReg_status) 28).trans hm,
      (State.regBit_congr (State.reg_setReg_bell v ha bellReg_mode) 0).trans hs, hw⟩
  seat {s} d k id x data h := by
    have only := s.resultDesk_only d k id x data
    obtain ⟨hm, hs, hw⟩ := h
    exact ⟨(congrArg State.isMaster only).trans hm, (congrArg State.strict only).trans hs, (congrArg (fun u : State => u.bell.strictNext) only).trans hw⟩

theorem lessonFree_seatsRest : LessonFree State.seatsRest where
  other h _ _ hdesks i := by
    rw [State.desk, hdesks]
    exact h i
  reg _ _ h := h
  seat d k id st data h := h.resultDesk d k id st data

theorem LessonFree.timedOut {P : State → Prop} (hP : LessonFree P) (h : P s) : P s.timedOut := by
  unfold State.timedOut
  exact State.forAll_induct (hP.other h rfl rfl rfl) fun _ _ hu => hP.toResultFree.tellOwner _ _ _ _ _ hu

theorem LessonFree.countOverrun {P : State → Prop} (hP : LessonFree P) (i : Nat) (d : Desk) (h : P s) : P (s.countOverrun i d) := by
  have room (x : Nat) : ¬ bellReg (roomReg (roomOf i) x) := not_bellReg_roomReg _ _
  unfold State.countOverrun
  dsimp only
  split
  · exact hP.classFault _ _ (hP.reg _ (room _) (hP.reg _ (room _) h))
  · exact hP.classFault _ _ (hP.reg _ (room _) (hP.reg _ (room _) h))

/-- The Desks as they were counted at the Bell. -/
def State.overrunsCounted (s : State) : State :=
  State.forAll { s with bell := { s.bell with ovr := if s.fenced 0 || s.fenced 2 then s.bell.ovr else s.overrunCounts } }
    (s.desks.filter (fun e => e.2.notAtEnd)) (fun s e => s.countOverrun e.1 e.2)

theorem State.abortDesks_eq (s : State) : s.abortDesks =
    (s.overrunsCounted.forAll s.overrunsCounted.desks (fun s e => s.setDesk e.1 (Desk.abort e.2))).forAll
      (s.overrunsCounted.forAll s.overrunsCounted.desks (fun s e => s.setDesk e.1 (Desk.abort e.2))).rooms
      (fun s e => s.setRoom e.1 (Room.endLesson e.2)) := rfl

theorem State.seatsRest_abortDesks (s : State) : s.abortDesks.seatsRest := by
  rw [State.abortDesks_eq]
  exact State.forAll_induct (State.seatsRest_abort _) fun _ _ hu => hu

theorem State.strictSource.abortDesks {m st : Bool} {w : Option Bool} (h : s.strictSource m st w) : s.abortDesks.strictSource m st w := by
  have counted : s.overrunsCounted.strictSource m st w :=
    State.forAll_induct h fun _ e hu => (lessonFree_strictSource m st w).countOverrun _ _ hu
  rw [State.abortDesks_eq]
  exact State.forAll_induct (State.forAll_induct counted fun _ _ hu => hu) fun _ _ hu => hu

theorem State.strictSource.endRun {m st : Bool} {w : Option Bool} (h : s.strictSource m st w) (r : Nat) : (s.endRun r).strictSource m st w := by
  unfold State.endRun
  split
  · exact h
  case h_2 x _ =>
    obtain ⟨hm, hs, hw⟩ := h
    have reg {a : Nat} (ha : a ≠ rTtState) : (s.setPageState x.page 5 r).reg a = s.reg a :=
      (State.reg_setRegF_ne _ _ _ _ _ _ ha).trans (State.reg_setRegF_ne _ _ _ _ _ _ ha)
    exact ⟨(State.regBit_congr (reg (a := rBellStatus) (by decide)) 28).trans hm, (State.regBit_congr (reg (a := rGlbMode) (by decide)) 0).trans hs, hw⟩

theorem State.strictSource.runOn {m st : Bool} {w : Option Bool} (h : s.strictSource m st w) : s.runOn.strictSource m st w := by
  unfold State.runOn
  dsimp only
  split
  · exact h
  · split
    · exact State.strictSource.endRun (s := { s with bell := { s.bell with ranged := none } }) h 0
    · exact h

theorem State.seatsRest.runOn (h : s.seatsRest) : s.runOn.seatsRest := by
  unfold State.runOn State.endRun
  dsimp only
  split
  · exact h
  · split
    · split <;> exact h
    · exact h

/-- The state at which the content of the Bell is put in force. -/
def State.lessonEnded (s : State) : State := (((s.timedOut.abortDesks).streamsTimedOut).collBell s.lesson.toNat).runOn

theorem State.seatsRest_lessonEnded (s : State) : s.lessonEnded.seatsRest :=
  State.seatsRest.runOn (lessonFree_seatsRest.collBell _ (lessonFree_seatsRest.other (s.timedOut.seatsRest_abortDesks) rfl rfl rfl))

theorem State.strictAt_lessonEnded (s : State) (b : BellInfo) : s.lessonEnded.strictAt b = s.strictAt b := by
  have free := lessonFree_strictSource s.isMaster s.strict s.bell.strictNext
  have start : s.strictSource s.isMaster s.strict s.bell.strictNext := ⟨rfl, rfl, rfl⟩
  have aborted := State.strictSource.abortDesks (free.timedOut start)
  obtain ⟨hm, hs, hw⟩ := State.strictSource.runOn (free.collBell s.lesson.toNat
    (free.other (t := s.timedOut.abortDesks.streamsTimedOut) aborted rfl rfl rfl))
  rw [State.strictAt, State.strictAt, State.lessonEnded, hm, hs, hw]

/-! ### The content of a Bell in force -/

/-- The content of a Bell is in force, and every Seat is idle. -/
structure State.rungWith (b : BellInfo) (st : Bool) (t : State) : Prop where
  lesson : t.lesson = b.lesson
  strict : t.strict = st
  phase : t.bell.phase = .rung
  n : t.bell.n = b.n
  guard : t.bell.guard = b.guard
  lead : t.bell.lead = b.lead
  stretch : t.bell.stretch = stretchFactor b.stretch
  next : t.bell.next = none
  edge : t.bell.edge = false
  seats : t.seatsRest

/-- What the Bell puts in force. -/
theorem State.bellTakes_leaves (s : State) (b : BellInfo) :
    (s.bellTakes b).lesson = b.lesson ∧ (s.bellTakes b).regF rStretch 0 2 = b.stretch % 4 ∧ (s.bellTakes b).strict = s.strictAt b ∧
      OnlyBellRegs s (s.bellTakes b) [rLesson, rStretch, rGlbMode] := by
  have low {a : Nat} (ha : a ≠ rStretch ∧ a ≠ rGlbMode) : (s.bellTakes b).reg a = (s.setReg rLesson b.lesson).reg a :=
    (State.reg_setRegBit_ne _ _ _ _ _ ha.2).trans (State.reg_setRegF_ne _ _ _ _ _ _ ha.1)
  refine ⟨?_, ?_, ?_, rfl, fun a ha => ?_⟩
  · exact (low (by decide)).trans ((s.reg_setReg _ _ _).trans (if_pos rfl))
  · have kept : (s.bellTakes b).reg rStretch = ((s.setReg rLesson b.lesson).setRegF rStretch 0 2 b.stretch).reg rStretch :=
      State.reg_setRegBit_ne _ _ _ _ _ (by decide)
    exact (State.regF_congr kept 0 2).trans (State.regF_setRegF _ _ _ _ _ (by decide))
  · exact State.regBit_setRegBit _ _ _ _ (by decide)
  · simp only [List.mem_cons, List.not_mem_nil, or_false, not_or] at ha
    obtain ⟨hl, hs, hm⟩ := ha
    exact (low ⟨hs, hm⟩).trans (s.reg_setReg_ne _ _ _ hl)

theorem State.rungWith.bell {b : BellInfo} {st : Bool} (h : s.rungWith b st) (x : Bell) (hx : x.phase = s.bell.phase ∧ x.n = s.bell.n ∧
    x.guard = s.bell.guard ∧ x.lead = s.bell.lead ∧ x.stretch = s.bell.stretch ∧ x.next = s.bell.next ∧ x.edge = s.bell.edge) :
    State.rungWith b st { s with bell := x } := by
  obtain ⟨hphase, hn, hguard, hlead, hstretch, hnext, hedge⟩ := hx
  exact ⟨h.lesson, h.strict, hphase.trans h.phase, hn.trans h.n, hguard.trans h.guard, hlead.trans h.lead, hstretch.trans h.stretch,
    hnext.trans h.next, hedge.trans h.edge, h.seats⟩

theorem lessonFree_rungWith (b : BellInfo) (st : Bool) : LessonFree (State.rungWith b st) where
  other h hbell hregs hdesks :=
    ⟨(congrArg (fun r => tget regReset r rLesson) hregs).trans h.lesson, (State.regBit_of_regs hregs _ _).trans h.strict, hbell ▸ h.phase, hbell ▸ h.n,
      hbell ▸ h.guard, hbell ▸ h.lead, hbell ▸ h.stretch, hbell ▸ h.next, hbell ▸ h.edge, lessonFree_seatsRest.other h.seats hbell hregs hdesks⟩
  reg v ha h :=
    ⟨(State.reg_setReg_bell v ha bellReg_lesson).trans h.lesson, (State.regBit_congr (State.reg_setReg_bell v ha bellReg_mode) 0).trans h.strict,
      h.phase, h.n, h.guard, h.lead, h.stretch, h.next, h.edge, h.seats⟩
  seat {s} d k id x data h := by
    have only := s.resultDesk_only d k id x data
    have bell : (s.resultDesk d k id x data).bell = s.bell := (congrArg State.bell only :)
    exact ⟨(congrArg State.lesson only).trans h.lesson, (congrArg State.strict only).trans h.strict, bell ▸ h.phase, bell ▸ h.n, bell ▸ h.guard,
      bell ▸ h.lead, bell ▸ h.stretch, bell ▸ h.next, bell ▸ h.edge, h.seats.resultDesk d k id x data⟩

theorem State.rungWith.status {b : BellInfo} {st : Bool} (h : s.rungWith b st) (v : Word) : (s.setReg rBellStatus v).rungWith b st :=
  ⟨(s.reg_setReg_ne _ v rLesson (by decide)).trans h.lesson, (State.regBit_congr (s.reg_setReg_ne _ v rGlbMode (by decide)) 0).trans h.strict,
    h.phase, h.n, h.guard, h.lead, h.stretch, h.next, h.edge, h.seats⟩

theorem State.rungWith_bellTakes (h : s.seatsRest) (b : BellInfo) : (s.bellTakes b).rungWith b (s.strictAt b) := by
  obtain ⟨hlesson, -, hstrict, -⟩ := s.bellTakes_leaves b
  exact ⟨hlesson, hstrict, rfl, rfl, rfl, rfl, rfl, rfl, rfl, h⟩

theorem State.rungWith.sendRequest {b : BellInfo} {st : Bool} (h : s.rungWith b st) : s.sendRequest.rungWith b st := by
  unfold State.sendRequest
  split
  · exact h.bell _ ⟨rfl, rfl, rfl, rfl, rfl, rfl, rfl⟩
  · split
    · exact h
    · exact (lessonFree_rungWith b st).toResultFree.sendRouted (fun _ => trivial) _ _ h

theorem State.rungWith.causeChanged {b : BellInfo} {st : Bool} (h : s.rungWith b st) : s.causeChanged.rungWith b st := by
  unfold State.causeChanged
  dsimp only
  split
  · exact h
  · exact State.rungWith.sendRequest (h.bell _ ⟨rfl, rfl, rfl, rfl, rfl, rfl, rfl⟩)

/-- What the Bell does besides putting its content in force leaves that content. -/
theorem State.rungWith_ring (s : State) (b : BellInfo) : (s.ring b).rungWith b (s.strictAt b) := by
  have free := lessonFree_rungWith b (s.strictAt b)
  unfold State.ring
  extract_lets ended nof t0 t1 t2 was t3 t4 t5
  have taken : t1.rungWith b (s.strictAt b) := by
    rw [← s.strictAt_lessonEnded b]
    exact State.rungWith_bellTakes s.seatsRest_lessonEnded b
  have counted : t2.rungWith b (s.strictAt b) := by
    unfold t2
    split
    · exact taken.status _
    · exact taken
  have pinned : t3.rungWith b (s.strictAt b) := by
    unfold t3
    split
    · exact free.other (counted.bell { t2.bell with pinOut := true } ⟨rfl, rfl, rfl, rfl, rfl, rfl, rfl⟩) rfl rfl rfl
    · exact counted
  have told : t4.rungWith b (s.strictAt b) :=
    State.rungWith.bell (s := t3.strictWords) (State.forAll_induct pinned fun _ _ hu => free.other hu rfl rfl rfl) _ ⟨rfl, rfl, rfl, rfl, rfl, rfl, rfl⟩
  have dropped : t5.rungWith b (s.strictAt b) := by
    unfold t5
    split
    · exact free.prismsDrop told
    · exact told
  split
  · exact dropped.causeChanged
  · split
    · exact dropped.sendRequest
    · exact dropped

theorem State.execBell_rings {b : BellInfo} (hm : s.bellMayRing = true) (hr : s.ringing = some b) : exec .bell s = .next ((s.ring b).limitReset) := by
  show execBell s = _
  unfold execBell
  rw [hm, hr]
  rfl

end

/-- Settles O7: every part of the Bell keeps what its content puts in force, and a Seat that was cut off gets nothing. -/
theorem bellRings : Obligations.BellRings := by
  refine ⟨fun s b hm hr => State.execBell_rings hm hr, fun s b hm hr _ => ?_, fun s hm hr => ?_, fun s hm => ?_, fun s b => ?_⟩
  · have rung := (lessonFree_rungWith b (s.strictAt b)).limitReset (State.rungWith_ring s b)
    exact ⟨_, State.execBell_rings hm hr, rung.lesson, rung.strict, rung.phase, rung.n, rung.guard, rung.lead, rung.stretch, rung.next, rung.edge,
      fun i k => rung.seats i k⟩
  · have run : exec .bell s = .next s.bellWithheld := by
      show execBell s = _
      unfold execBell
      rw [hm, hr]
      rfl
    exact ⟨_, run, rfl, rfl, rfl, rfl⟩
  · show execBell s = _
    unfold execBell
    rw [hm]
    rfl
  · obtain ⟨hlesson, hstretch, hstrict, honly⟩ := s.bellTakes_leaves b
    exact ⟨hlesson, hstretch, hstrict, rfl, rfl, rfl, rfl, rfl, rfl, rfl, honly⟩

end Sys2Proof.Machine
end

section
/-! SUPPORT. The roll call at DCLK 32, 96 and 128, and the closing guard. -/

namespace Sys2Proof.Machine

section
variable {s t u : State}

/-! ### DCLK 32 -/

theorem State.execRollCallCheck_of_rung (h : s.bell.phase = .rung) :
    exec .rollCallCheck s = .next { s.rollCheck with bell := { s.rollCheck.bell with phase := .checked } } :=
  congrArg Host.Outcome.next (if_pos h)

/-- The state at DCLK 32 once the active run has been looked at. -/
def State.runChecked (s : State) : State :=
  if s.modeDiffers then (s.setRegBit rGlbMode 8 true).endRun 2
  else match s.bell.run with
    | none => s
    | some r => match s.lengthFault r.tt with
      | some reason => s.endRun reason
      | none => s

/-- The state at DCLK 32 once the pending page has been looked at. -/
def State.pageChecked (s : State) : State :=
  match s.pendingPage with
  | some p => s.runChecked.checkPage p
  | none => s.runChecked

theorem State.rollCheck_eq (s : State) : s.rollCheck =
    if s.pageChecked.bell.pinOut then State.emit { s.pageChecked with bell := { s.pageChecked.bell with pinOut := false } } (.pin "BELL_OUT" false)
    else s.pageChecked := rfl

/-- What ending a run leaves. -/
theorem State.endRun_leaves (s : State) (r : Nat) :
    (s.endRun r).bell.run = none ∧ (s.endRun r).bell.pinOut = s.bell.pinOut ∧ ∀ a, a ≠ rTtState → (s.endRun r).reg a = s.reg a := by
  unfold State.endRun
  split
  · next h => exact ⟨h, rfl, fun _ _ => rfl⟩
  · exact ⟨rfl, rfl, fun a ha => (State.reg_setRegF_ne _ _ _ _ _ _ ha).trans (State.reg_setRegF_ne _ _ _ _ _ _ ha)⟩

theorem State.endRun_page {r : Run} (h : s.bell.run = some r) {reason : Nat} (hr : reason < 8) :
    (s.endRun reason).pageState r.page.val = 5 ∧ (s.endRun reason).regF rTtState (16 * r.page.val + 4) 3 = reason := by
  obtain ⟨hstate, hreason, -⟩ := s.setPageState_leaves r.page (st := 5) (by decide) hr
  unfold State.endRun
  rw [h]
  exact ⟨hstate, hreason⟩

/-- What looking at the pending page leaves. -/
theorem State.checkPage_leaves (s : State) (p : Fin 2) :
    (s.checkPage p).bell.run = s.bell.run ∧ (s.checkPage p).bell.pinOut = s.bell.pinOut ∧
      ∀ a, a ≠ rTtState → a ≠ rBellStatus → (s.checkPage p).reg a = s.reg a := by
  have aged (l : List (Fin 2)) (u : State) := State.forAll_induct (l := l) (s := u)
    (P := fun v => v.bell.run = u.bell.run ∧ v.bell.pinOut = u.bell.pinOut ∧ ∀ a, v.reg a = u.reg a)
    (op := fun s q => s.setPage q { s.page q with at_ := 0 }) ⟨rfl, rfl, fun _ => rfl⟩ fun _ _ h => h
  unfold State.checkPage
  dsimp only
  split
  · split
    · exact ⟨rfl, rfl, fun a ha _ => (State.reg_setRegF_ne _ _ _ _ _ _ ha).trans (State.reg_setRegF_ne _ _ _ _ _ _ ha)⟩
    · obtain ⟨hrun, hpin, hreg⟩ := aged (bothPages.filter (fun q => q ≠ p && s.pageDue q)) s
      exact ⟨hrun, hpin, fun a _ _ => hreg a⟩
  · exact ⟨rfl, rfl, fun a _ ha => State.reg_setRegF_ne _ _ _ _ _ _ ha⟩

theorem State.runChecked_leaves (s : State) : s.runChecked.bell.pinOut = s.bell.pinOut := by
  unfold State.runChecked
  split
  · exact (State.endRun_leaves _ _).2.1
  · split
    · rfl
    · split
      · exact (State.endRun_leaves _ _).2.1
      · rfl

theorem State.pageChecked_leaves (s : State) : s.pageChecked.bell.run = s.runChecked.bell.run ∧ s.pageChecked.bell.pinOut = s.bell.pinOut ∧
    ∀ a, a ≠ rTtState → a ≠ rBellStatus → s.pageChecked.reg a = s.runChecked.reg a := by
  unfold State.pageChecked
  split
  · obtain ⟨hrun, hpin, hreg⟩ := s.runChecked.checkPage_leaves ‹_›
    exact ⟨hrun, hpin.trans s.runChecked_leaves, hreg⟩
  · exact ⟨rfl, s.runChecked_leaves, fun _ _ _ => rfl⟩

/-- BELL_OUT falling leaves the run and the registers. -/
theorem State.rollCheck_leaves (s : State) : s.rollCheck.bell.run = s.pageChecked.bell.run ∧ ∀ a, s.rollCheck.reg a = s.pageChecked.reg a := by
  rw [State.rollCheck_eq]
  split
  · exact ⟨rfl, fun _ => rfl⟩
  · exact ⟨rfl, fun _ => rfl⟩

theorem State.rollCheck_pin (h : s.bell.pinOut = true) :
    s.rollCheck.bell.pinOut = false ∧ s.rollCheck.out.head? = some (.pin "BELL_OUT" false) := by
  rw [State.rollCheck_eq, if_pos (s.pageChecked_leaves.2.1.trans h)]
  exact ⟨rfl, rfl⟩

theorem State.rollCheck_quiet (hp : s.pendingPage = none) (hr : s.bell.run = none) (hm : s.modeDiffers = false) (ho : s.bell.pinOut = false) :
    s.rollCheck = s := by
  have same : s.pageChecked = s := by
    rw [State.pageChecked, hp]
    show s.runChecked = s
    rw [State.runChecked, hm, hr]
    rfl
  rw [State.rollCheck_eq, same, ho]
  rfl

theorem State.rollCheck_mode (hm : s.modeDiffers = true) : s.rollCheck.regBit rGlbMode 8 = true ∧ s.rollCheck.bell.run = none := by
  have ended : s.runChecked = (s.setRegBit rGlbMode 8 true).endRun 2 := if_pos hm
  obtain ⟨hrun, -, hreg⟩ := (s.setRegBit rGlbMode 8 true).endRun_leaves 2
  obtain ⟨hrun', -, hreg'⟩ := s.pageChecked_leaves
  obtain ⟨hrun'', hreg''⟩ := s.rollCheck_leaves
  refine ⟨?_, hrun''.trans (hrun'.trans (ended ▸ hrun))⟩
  have mode : s.rollCheck.reg rGlbMode = (s.setRegBit rGlbMode 8 true).reg rGlbMode :=
    (hreg'' _).trans ((hreg' _ (by decide) (by decide)).trans (ended ▸ hreg _ (by decide)))
  exact (State.regBit_congr mode 8).trans (State.regBit_setRegBit _ _ _ _ (by decide))

theorem State.rollCheck_length {r : Run} {reason : Nat} (hp : s.pendingPage = none) (hm : s.modeDiffers = false) (hr : s.bell.run = some r)
    (hl : s.lengthFault r.tt = some reason) : s.rollCheck.bell.run = none ∧ s.rollCheck.pageState r.page.val = 5 ∧
      s.rollCheck.regF rTtState (16 * r.page.val + 4) 3 = reason := by
  have ended : s.pageChecked = s.endRun reason := by
    rw [State.pageChecked, hp]
    show s.runChecked = _
    rw [State.runChecked, hm, hr]
    show (match s.lengthFault r.tt with | some reason => s.endRun reason | none => s) = _
    rw [hl]
  have small : reason < 8 := by
    unfold State.lengthFault at hl
    split at hl
    · cases hl
      decide
    · split at hl
      · cases hl
        decide
      · cases hl
  obtain ⟨hrun, hreg⟩ := s.rollCheck_leaves
  obtain ⟨hstate, hreason⟩ := State.endRun_page hr small
  rw [ended] at hrun hreg
  exact ⟨hrun.trans (s.endRun_leaves reason).1, (State.regF_congr (hreg _) _ _).trans hstate, (State.regF_congr (hreg _) _ _).trans hreason⟩

/-! ### DCLK 96 -/

theorem State.execRollCallSwap_of_activated (h : s.bell.phase = .activated) :
    exec .rollCallSwap s = .next { s.routeSwap.partSwapLesson with bell := { s.routeSwap.partSwapLesson.bell with phase := .swapped } } :=
  congrArg Host.Outcome.next (if_pos h)

theorem State.routeSwap_unarmed (h : s.regBit rRtSwap 63 = false) : s.routeSwap = s := by
  unfold State.routeSwap
  rw [if_neg (by simp [h])]

theorem State.partSwapLesson_unarmed (h : s.partArmed = false) : s.partSwapLesson = s := by
  unfold State.partSwapLesson
  rw [if_neg (by simp [h])]

theorem regReset_rtActive {a : Nat} (h1 : rRtActive ≤ a) (h2 : a < rRtActive + 0x10000) : regReset a = 0 := by
  unfold rRtActive at h1 h2
  have ne {c : Nat} (hc : c < 0x110000) : ¬ a = c := by omega
  have below {lo n : Nat} (hc : lo + n ≤ 0x110000) : ¬ (lo ≤ a ∧ a < lo + n) := by omega
  have beyond {lo n : Nat} (hc : 0x120000 ≤ lo) : ¬ (lo ≤ a ∧ a < lo + n) := by omega
  rw [regReset, regSpec, if_neg (by omega), if_neg (by omega), if_neg (by omega), if_neg (by omega), if_neg (by omega), if_neg (by omega),
    if_neg (by omega), if_neg (by omega), if_pos (by omega), swcSpec, if_neg (ne (by decide)), if_neg (ne (by decide)),
    if_neg (not_or.mpr ⟨ne (by decide), ne (by decide)⟩), if_neg (ne (by decide)), if_neg (ne (by decide)), if_neg (ne (by decide)),
    if_neg (ne (by decide)), if_neg (ne (by decide)), if_neg (ne (by decide)), if_neg (ne (by decide)), if_neg (below (by decide)),
    if_neg (ne (by decide)), if_neg (ne (by decide)), if_neg (ne (by decide)), if_neg (ne (by decide)), if_neg (ne (by decide)),
    if_neg (ne (by decide)), if_neg (by unfold rEjectMismatch rRespDrop; omega), if_neg (below (by decide)), if_neg (below (by decide)),
    if_neg (below (by decide)), if_neg (beyond (by decide)), if_neg (beyond (by decide)), if_neg (beyond (by decide)), if_neg (beyond (by decide)),
    if_neg (beyond (by decide))]
  rfl

theorem regReset_rtStage {a : Nat} (h1 : rRtStage ≤ a) (h2 : a < rRtStage + 0x10000) : regReset a = 0 := by
  rw [regReset, regSpec_rtStage h1 h2]
  split <;> rfl

/-- The staged entries, each written at its place in the active table. -/
def State.copyStaged (t : State) (l : Tab Word) : State := t.forAll l (fun s e => s.setReg (e.1 - rRtStage + rRtActive) e.2)

/-- A table's listed value is what it reads. -/
theorem tget_of_listed {α : Type} [DecidableEq α] {d : Nat → α} {l : Tab α} (hok : tableOk d l = true) {e : Nat × α} (he : e ∈ l) :
    tget d l e.1 = e.2 := by
  induction l with
  | nil => exact absurd he List.not_mem_nil
  | cons x r ih =>
    obtain ⟨k, v⟩ := x
    obtain ⟨-, later, hr⟩ := (tableOk_cons d k v r).mp hok
    obtain rfl | he := List.mem_cons.mp he
    · exact if_pos rfl
    · exact (if_neg (later e he).ne).trans (ih hr he)

theorem State.reg_copyStaged {l : Tab Word} {a : Nat} (hl : ∀ e ∈ l, rRtStage ≤ e.1 ∧ e.1 < rRtStage + 0x10000) (ha : a < 0x10000)
    (hok : tableOk regReset l = true) (ht : t.reg (rRtActive + a) = 0) : (t.copyStaged l).reg (rRtActive + a) = tget regReset l (rRtStage + a) := by
  by_cases hex : ∃ e ∈ l, e.1 = rRtStage + a
  · obtain ⟨e, he, hea⟩ := hex
    rw [← hea, tget_of_listed hok he]
    have place : rRtActive + a = e.1 - rRtStage + rRtActive := by omega
    rw [place]
    refine State.forAll_of_mem (Q := fun _ => True) (P := fun u => u.reg (e.1 - rRtStage + rRtActive) = e.2) l he trivial
      (fun _ _ _ _ => trivial) (fun u _ => (u.reg_setReg _ _ _).trans (if_pos rfl)) fun u y hy _ hu hne => ?_
    refine (u.reg_setReg_ne _ _ _ fun hsame => hne ?_).trans hu
    obtain ⟨hle, -⟩ := hl y hy
    have key : y.1 = e.1 := by omega
    exact Prod.ext key ((tget_of_listed hok hy).symm.trans ((congrArg (tget regReset l) key).trans (tget_of_listed hok he)))
  · have absent : ∀ e ∈ l, e.1 ≠ rRtStage + a := fun e he h => hex ⟨e, he, h⟩
    rw [tget_of_not_mem _ _ _ absent, regReset_rtStage (by omega) (by omega)]
    refine State.forAll_mem_induct (P := fun u => u.reg (rRtActive + a) = 0) ht fun u y hy hu => ?_
    refine (u.reg_setReg_ne _ _ _ fun hsame => absent y hy ?_).trans hu
    obtain ⟨hle, -⟩ := hl y hy
    omega

/-- An entry of the route table is staged. -/
def isStaged (a : Nat) : Bool := rRtStage ≤ a && a < rRtStage + 0x10000

theorem State.routeSwap_armed (h : s.regBit rRtSwap 63 = true) (hl : s.regF rRtSwap 0 32 = s.lesson.toNat % 2 ^ 32) (he : s.regBit rRtStatus 2 = false) :
    s.routeSwap = (((State.copyStaged { s with regs := tclear s.regs rRtActive (rRtActive + 0x10000) } (s.regs.filter (fun e => isStaged e.1))).setRegBit
      rRtSwap 63 false).setRegBit rRtStatus 1 true) := by
  unfold State.routeSwap
  rw [if_pos (by simp [h, hl, he])]
  rfl

/-- Registers outside the active table stay while staged entries are copied, and so does all else. -/
theorem State.copyStaged_leaves (t : State) (l : Tab Word) :
    { t.copyStaged l with regs := t.regs } = t ∧ ∀ a, a < rRtActive → (t.copyStaged l).reg a = t.reg a := by
  have both := State.forAll_mem_induct (l := l) (s := t) (P := fun u => { u with regs := t.regs } = t ∧ ∀ a, a < rRtActive → u.reg a = t.reg a)
    (op := fun s e => s.setReg (e.1 - rRtStage + rRtActive) e.2) ⟨rfl, fun _ _ => rfl⟩ fun u y _ hu =>
      ⟨hu.1, fun a ha => (u.reg_setReg_ne _ _ _ (by omega)).trans (hu.2 a ha)⟩
  exact both

theorem isStaged_iff (a : Nat) : isStaged a = true ↔ rRtStage ≤ a ∧ a < rRtStage + 0x10000 := by
  simp [isStaged]

/-- An armed route table, swapped in its Lesson. -/
theorem State.routeSwap_leaves (h : s.regBit rRtSwap 63 = true) (hl : s.regF rRtSwap 0 32 = s.lesson.toNat % 2 ^ 32) (he : s.regBit rRtStatus 2 = false)
    (hok : tableOk regReset s.regs = true) : s.routeSwap.regBit rRtSwap 63 = false ∧ s.routeSwap.regBit rRtStatus 1 = true ∧
      s.routeSwap.mem = s.mem ∧ s.routeSwap.reg rPartSwap = s.reg rPartSwap ∧
      ∀ a, a < 0x10000 → s.routeSwap.reg (rRtActive + a) = s.reg (rRtStage + a) := by
  have staged : ∀ e ∈ s.regs.filter (fun e => isStaged e.1), rRtStage ≤ e.1 ∧ e.1 < rRtStage + 0x10000 := fun e he =>
    (isStaged_iff e.1).mp (List.mem_filter.mp he).2
  obtain ⟨hrest, hlow⟩ := State.copyStaged_leaves { s with regs := tclear s.regs rRtActive (rRtActive + 0x10000) } (s.regs.filter (fun e => isStaged e.1))
  have cleared (a : Nat) : State.reg { s with regs := tclear s.regs rRtActive (rRtActive + 0x10000) } a =
      if rRtActive ≤ a ∧ a < rRtActive + 0x10000 then regReset a else s.reg a := tget_tclear _ _ _ _ _
  rw [State.routeSwap_armed h hl he]
  refine ⟨?_, State.regBit_setRegBit _ _ _ _ (by decide), ?_, ?_, fun a ha => ?_⟩
  · exact (State.regBit_setRegBit_ne _ _ _ _ _ _ (by decide)).trans (State.regBit_setRegBit _ _ _ _ (by decide))
  · exact (congrArg State.mem hrest :)
  · exact (State.reg_setRegBit_ne _ _ _ _ _ (by decide)).trans ((State.reg_setRegBit_ne _ _ _ _ _ (by decide)).trans
      ((hlow _ (by decide)).trans ((cleared _).trans (if_neg (by decide)))))
  · have copied := State.reg_copyStaged (t := { s with regs := tclear s.regs rRtActive (rRtActive + 0x10000) }) staged ha (tableOk_filter _ _ _ hok)
      ((cleared _).trans ((if_pos (by omega)).trans (regReset_rtActive (by omega) (by omega))))
    rw [tget_filter regReset isStaged, if_pos ((isStaged_iff _).mpr (by omega))] at copied
    exact (State.reg_setRegBit_ne _ _ _ _ _ (by unfold rRtActive rRtStatus; omega)).trans
      ((State.reg_setRegBit_ne _ _ _ _ _ (by unfold rRtActive rRtSwap; omega)).trans copied)

/-! ### DCLK 96: the port map -/

/-- Registers below the switch's are as before. -/
def State.sameLow (s t : State) : Prop := ∀ a, a < 0x10000 → t.reg a = s.reg a

theorem frameFree_sameLow (s : State) : FrameFree False s.sameLow where
  fab _ _ h := h
  out _ h := h
  reg {t} a v ha h b hb := (t.reg_setReg_ne a v b (by have := fabricCounter_ge ha; omega)).trans (h b hb)
  deps h := h.elim

theorem State.sameLow_mapApplied (h : s.sameLow t) : s.sameLow t.mapApplied := by
  have begun {u : State} (hu : s.sameLow u) : s.sameLow u.electionBegun := fun a ha =>
    (u.onlyBellRegs_electionBegun.2 a (by simp only [List.mem_singleton, rBellStatus]; omega)).trans (hu a ha)
  have started {u : State} (hu : s.sameLow u) : s.sameLow u.startElection := by
    rw [State.startElection_eq]
    split
    · exact State.forAll_induct (begun hu) fun _ _ hv => (frameFree_sameLow s).admitFrame (p := 139) (by decide) _ _ hv
    · exact begun hu
  unfold State.mapApplied
  dsimp only
  split
  · exact h
  · exact started h

/-- The active map with the staged words in place. -/
def State.mapCopied (s : State) : State :=
  s.forAll (List.range 16) (fun s i => s.setReg (rPortPart + 8 * i) (s.reg (rPortPartStage + 8 * i)))

theorem State.mapCopied_leaves (s : State) : (∀ a, rPortPartStage ≤ a → s.mapCopied.reg a = s.reg a) ∧
    ∀ i, i < 16 → s.mapCopied.reg (rPortPart + 8 * i) = s.reg (rPortPartStage + 8 * i) := by
  have off {u : State} {i : Nat} (hi : i ∈ List.range 16) (v : Word) {a : Nat} (ha : rPortPartStage ≤ a) :
      (u.setReg (rPortPart + 8 * i) v).reg a = u.reg a :=
    u.reg_setReg_ne _ _ _ (by have := List.mem_range.mp hi; unfold rPortPartStage at ha; unfold rPortPart; omega)
  refine ⟨fun a ha => ?_, fun i hi => ?_⟩
  · exact State.forAll_mem_induct (P := fun u => u.reg a = s.reg a) rfl fun u i hi hu => (off hi _ ha).trans hu
  · refine State.forAll_of_mem (Q := fun u => ∀ a, rPortPartStage ≤ a → u.reg a = s.reg a)
      (P := fun u => u.reg (rPortPart + 8 * i) = s.reg (rPortPartStage + 8 * i)) _ (List.mem_range.mpr hi) (fun _ _ => rfl)
      (fun u j hj hu a ha => (off hj _ ha).trans (hu a ha)) (fun u hu => ?_) fun u j _ _ hu hne => ?_
    · exact ((u.reg_setReg _ _ _).trans (if_pos rfl)).trans (hu _ (by omega))
    · exact (u.reg_setReg_ne _ _ _ (by omega)).trans hu

theorem State.partSwap_clean (h : ∀ p : Fin 128, s.swapOffends p.val = false) :
    s.partSwap = ((s.mapCopied.setRegBit rPartSwap 63 false).setRegBit rPartStatus 0 true).mapApplied := by
  have none : (List.range 128).find? s.swapOffends = none :=
    List.find?_eq_none.mpr fun p hp => by simp [h ⟨p, List.mem_range.mp hp⟩]
  unfold State.partSwap
  rw [none]
  rfl

theorem State.partSwap_leaves (h : ∀ p : Fin 128, s.swapOffends p.val = false) :
    s.partSwap.partArmed = false ∧ s.partSwap.regBit rPartStatus 0 = true ∧
      ∀ p : Fin 128, s.partSwap.tabF (rPortPart + p.val) 1 = s.tabF (rPortPartStage + p.val) 1 := by
  obtain ⟨-, copied⟩ := s.mapCopied_leaves
  rw [State.partSwap_clean h]
  have low := State.sameLow_mapApplied (s := (s.mapCopied.setRegBit rPartSwap 63 false).setRegBit rPartStatus 0 true) fun _ _ => rfl
  refine ⟨?_, ?_, fun p => ?_⟩
  · exact (State.regBit_congr (low rPartSwap (by decide)) 63).trans
      ((State.regBit_setRegBit_ne _ _ _ _ _ _ (by decide)).trans (State.regBit_setRegBit _ _ _ _ (by decide)))
  · exact (State.regBit_congr (low rPartStatus (by decide)) 0).trans (State.regBit_setRegBit _ _ _ _ (by decide))
  · have hp := p.isLt
    have word : (rPortPart + p.val) / 8 * 8 = rPortPart + 8 * (p.val / 8) ∧ (rPortPartStage + p.val) / 8 * 8 = rPortPartStage + 8 * (p.val / 8) ∧
        (rPortPart + p.val) % 8 = (rPortPartStage + p.val) % 8 := by
      unfold rPortPart rPortPartStage
      omega
    obtain ⟨hactive, hstaged, hbyte⟩ := word
    unfold State.tabF
    rw [hactive, hstaged, hbyte]
    unfold State.regF
    rw [low _ (by unfold rPortPart; omega), State.reg_setRegBit_ne _ _ _ _ _ (by unfold rPortPart rPartStatus; omega),
      State.reg_setRegBit_ne _ _ _ _ _ (by unfold rPortPart rPartSwap; omega), copied _ (by omega)]

theorem State.partSwapLesson_now (ha : s.partArmed = true) (hl : s.regF rPartSwap 0 32 = s.lesson.toNat % 2 ^ 32) : s.partSwapLesson = s.partSwap := by
  have now : decide ((s.lesson.toNat + 2 ^ 32 - s.regF rPartSwap 0 32) % 2 ^ 32 < 2 ^ 31) = true := by
    rw [hl]
    exact decide_eq_true (by omega)
  unfold State.partSwapLesson
  rw [ha, now]
  rfl

/-! ### DCLK 128 -/

theorem State.execRollCallGap_of_swapped (h : s.bell.phase = .swapped) :
    ∃ t : State, exec .rollCallGap s = .next { t with bell := { t.bell with phase := .gapped } } ∧
      t = (s.prismGap).opticalGap.forAll (List.range 64) (fun s p => s.auditStart p) :=
  ⟨_, congrArg Host.Outcome.next (if_pos h), rfl⟩

/-- The optical matrix unit is as given. -/
def State.omuIs (o : Omu) (t : State) : Prop := t.omu = o

theorem resultFree_omuIs (o : Omu) : ResultFree (State.omuIs o) where
  fab _ _ h := h
  fabric _ h := h
  out _ h := h
  reg _ _ h := h
  deps _ _ _ h := h
  seat {s} d k id st data h := (congrArg State.omu (s.resultDesk_only d k id st data) :).trans h
  strm _ _ _ _ _ h := h
  walks _ h := h
  reads _ h := h
  irqs _ h := h

theorem State.omuIs_putActive {o : Omu} (h : s.omuIs o) (i : Nat) (rx : Bool) (m : BitVec 16) : (s.putActive i rx m).omuIs o := by
  have bits {v : State} (hv : v.omuIs o) : (v.forAll (List.range 16) (fun s k => s.setRegBit (wlStat i k) 2 (m.getLsbD k))).omuIs o :=
    State.forAll_induct hv fun _ _ hu => hu
  unfold State.putActive
  extract_lets n t0 t1 least u deg
  have set : t1.omuIs o := by
    unfold t1
    split
    · exact h
    · exact bits h
  split
  · exact set
  · exact (resultFree_omuIs o).raise 10 set

theorem State.omuIs_swapWave {o : Omu} (h : s.omuIs o) (i k : Nat) : (s.swapWave i k).omuIs o := by
  unfold State.swapWave
  extract_lets w t0 t1
  split
  · have flagged : t0.omuIs o := by
      unfold t0 State.wlFlag
      split
      · exact h
      · exact (resultFree_omuIs o).raise 10 h
    have retired {v : State} (hv : v.omuIs o) : (v.retire i k).omuIs o := (congrArg State.omu (v.retire_facts i k).1 :).trans hv
    exact retired flagged
  · exact h

theorem State.omuIs_joinWave {o : Omu} (h : s.omuIs o) (i k : Nat) : (s.joinWave i k).omuIs o := by
  unfold State.joinWave
  extract_lets w ready m t w'
  have joined : t.omuIs o := by
    unfold t
    split
    · exact State.omuIs_putActive (s := s.setWave i k _) h i false _
    · exact h
  split
  · exact State.omuIs_putActive (s := t.setWave i k _) joined i true _
  · exact joined

theorem State.omuIs_opticalGap {o : Omu} (h : s.omuIs o) : s.opticalGap.omuIs o := by
  unfold State.opticalGap
  exact State.forAll_induct h fun _ i hu => State.forAll_induct hu fun _ k hv => State.omuIs_joinWave (State.omuIs_swapWave hv i k) i k

theorem State.omuIs_auditStart {o : Omu} (h : s.omuIs o) (p : Nat) : (s.auditStart p).omuIs o := by
  unfold State.auditStart
  dsimp only
  split
  · exact h
  · split <;> exact h

/-! ### DCLK 128: the Prisms -/

/-- A Prism holds no matrix and loads none. -/
def State.bare (s : State) (p : Fin 4) : Prop := (s.prism p).held = none ∧ (s.prism p).loading = none

/-- OMU.CTL.EN in force and STRICT are as given. -/
def State.gapsAs (e st : Bool) (t : State) : Prop := t.omu.en = e ∧ t.strict = st

theorem State.prismShow_leaves (s : State) (p : Fin 4) : (s.prismShow p).omu = s.omu ∧ (s.prismShow p).strict = s.strict := by
  have mode {v : State} (x lo len : Nat) : (v.setRegF (prismStat p) lo len x).strict = v.strict :=
    State.regBit_congr (v.reg_setRegF_ne _ _ _ _ _ (by unfold prismStat rPrismStatus rGlbMode; omega)) 0
  unfold State.prismShow
  dsimp only
  split
  · exact ⟨rfl, (mode _ _ _).trans ((mode _ _ _).trans (mode _ _ _))⟩
  · exact ⟨rfl, (mode _ _ _).trans ((mode _ _ _).trans (mode _ _ _))⟩

theorem State.gapsAs.gapOne {e st : Bool} (h : s.gapsAs e st) (p : Fin 4) : (s.prismGapOne p).gapsAs e st := by
  have hold {v : State} (hv : v.gapsAs e st) (m : Option OmuImage) : (v.prismHold p m).gapsAs e st := by
    obtain ⟨homu, hstrict⟩ := (v.setPrism p { v.prism p with held := m }).prismShow_leaves p
    exact ⟨(congrArg Omu.en homu).trans hv.1, hstrict.trans hv.2⟩
  unfold State.prismGapOne
  dsimp only
  split
  · exact hold (v := s.setPrism p { s.prism p with loading := none, plan := none }) h none
  · split
    · exact h
    · split
      · exact h
      · exact hold (v := s.setPrism p _) h none

theorem State.prismGapOne_strict {p : Fin 4} (h : s.strict = true) : s.prismGapOne p = s.prismDrop p := if_pos (by simp [h])

theorem State.prism_prismDrop (s : State) (p q : Fin 4) :
    (s.prismDrop p).prism q = if q = p then { s.prism p with held := none, loading := none, plan := none } else s.prism q := by
  have shown (v : State) : (v.prismShow p).prism q = v.prism q := congrArg (fun o : Omu => o.prisms[q]) (v.prismShow_leaves p).1
  unfold State.prismDrop State.prismHold
  rw [shown, State.prism_setPrism, State.prism_setPrism, State.prism_setPrism, if_pos rfl]
  split <;> rfl

theorem State.bare_prismDrop (s : State) (p : Fin 4) : (s.prismDrop p).bare p := by
  rw [State.bare, State.prism_prismDrop, if_pos rfl]
  exact ⟨rfl, rfl⟩

theorem State.bare.prismDrop {q : Fin 4} (h : s.bare q) (p : Fin 4) : (s.prismDrop p).bare q := by
  rw [State.bare, State.prism_prismDrop]
  split
  · exact ⟨rfl, rfl⟩
  · exact h

/-- Vectors that no Prism serves complete; the Prisms and OMU.CTL.EN stay. -/
theorem State.dropUnserved_leaves (s : State) : s.dropUnserved.omu.en = s.omu.en ∧ ∀ p, s.dropUnserved.prism p = s.prism p := by
  have done {o : Omu} {v : State} (hv : v.omuIs o) (x : OmuVec) : (v.vecDone x stNoRoute []).omuIs o := by
    unfold State.vecDone
    split
    · dsimp only
      split
      · exact hv
      · rw [if_neg fun g => absurd g.1 (by decide)]
        exact (resultFree_omuIs o).seat _ _ _ _ _ hv
    · unfold State.streamResult
      dsimp only
      split
      · exact hv
      · split
        · exact hv
        · rw [if_neg fun g => absurd g.1 (by decide)]
          exact hv
    · exact (resultFree_omuIs o).sendRouted (fun _ => trivial) _ _ hv
  have all : s.dropUnserved.omu = { s.omu with queue := s.omu.queue.filter (fun x => !!s.served_ x.v) } :=
    State.forAll_induct (P := State.omuIs { s.omu with queue := s.omu.queue.filter (fun x => !!s.served_ x.v) }) rfl fun _ x hv => done hv x
  exact ⟨(congrArg Omu.en all :), fun p => (congrArg (fun o : Omu => o.prisms[p]) all :)⟩

theorem State.prismGap_leaves (s : State) : s.prismGap.omu.en = s.regBit rOmuCtl 0 ∧ (s.strict = true → ∀ p, s.prismGap.bare p) := by
  obtain ⟨hen, hprism⟩ := State.dropUnserved_leaves
    (State.forAll { s with omu := { s.omu with en := s.regBit rOmuCtl 0 } } allPrisms (fun s p => s.prismGapOne p))
  have start : State.gapsAs (s.regBit rOmuCtl 0) s.strict { s with omu := { s.omu with en := s.regBit rOmuCtl 0 } } := ⟨rfl, rfl⟩
  refine ⟨hen.trans (State.forAll_induct start fun _ p hu => hu.gapOne p).1, fun hs p => ?_⟩
  have every : p ∈ allPrisms := by
    revert p
    decide
  have kept : State.bare (State.forAll { s with omu := { s.omu with en := s.regBit rOmuCtl 0 } } allPrisms (fun s p => s.prismGapOne p)) p :=
    State.forAll_of_mem (Q := State.gapsAs (s.regBit rOmuCtl 0) s.strict) (P := fun u => u.bare p) _ every start (fun _ q _ hu => hu.gapOne q)
      (fun u hu => by
        rw [State.prismGapOne_strict (hu.2.trans hs)]
        exact u.bare_prismDrop p)
      fun u q _ hu hb _ => by
        rw [State.prismGapOne_strict (hu.2.trans hs)]
        exact hb.prismDrop q
  rw [State.bare, State.prismGap, hprism]
  exact kept

theorem State.does_rollCallGap (h : s.bell.phase = .swapped) : Does .rollCallGap s (fun t => t.bell.phase = .gapped ∧ t.omu.en = s.regBit rOmuCtl 0 ∧
    (s.strict = true → ∀ p : Fin 4, (t.prism p).held = none ∧ (t.prism p).loading = none)) := by
  obtain ⟨t, run, ht⟩ := State.execRollCallGap_of_swapped h
  obtain ⟨hen, hbare⟩ := s.prismGap_leaves
  have same : t.omuIs s.prismGap.omu := by
    rw [ht]
    exact State.forAll_induct (State.omuIs_opticalGap rfl) fun _ p hu => State.omuIs_auditStart hu p
  refine ⟨_, run, rfl, (congrArg Omu.en same).trans hen, fun hs p => ?_⟩
  have prism : t.prism p = s.prismGap.prism p := congrArg (fun o : Omu => o.prisms[p]) same
  obtain ⟨hheld, hloading⟩ := hbare hs p
  exact ⟨(congrArg Prism.held prism).trans hheld, (congrArg Prism.loading prism).trans hloading⟩

/-! ### The closing guard -/

/-- The Bell's state is as given. -/
def State.bellIs (b : Bell) (t : State) : Prop := t.bell = b

theorem State.bellIs_unlock {b : Bell} (h : s.bellIs b) (p l : Nat) : (s.unlock p l).bellIs b := by
  have counted : (s.countBits p l).bell = b := by
    unfold State.countBits
    split
    · exact h
    · exact h
  exact counted

theorem State.bellIs_auditEnd {b : Bell} (h : s.bellIs b) (p : Nat) : (s.auditEnd p).bellIs b := by
  unfold State.auditEnd
  extract_lets t0 t1
  have unlocked : t0.bell = b := State.forAll_induct (P := State.bellIs b) h fun _ l hu => State.bellIs_unlock hu p l
  clear_value t0
  split
  · exact unlocked
  · exact h

theorem State.bellIs_elecWake {b : Bell} (h : s.bellIs b) (p : Nat) : (s.elecWake p).bellIs b := by
  unfold State.elecWake
  split <;> exact h

theorem State.does_closingGuard (h : s.bell.phase = .body) : Does .closingGuard s (fun t => t.bell.phase = .guard) := by
  refine ⟨_, congrArg Host.Outcome.next (if_pos h), ?_⟩
  extract_lets was t0 t1
  have ended : t1.bellIs { s.bell with phase := .guard } := State.forAll_induct (P := State.bellIs _) rfl fun _ p hu => State.bellIs_auditEnd hu p
  have woken := State.forAll_induct (P := State.bellIs { s.bell with phase := .guard }) (op := fun s p => s.elecWake p)
    (l := (List.range 64).filter (fun p => t1.elecFlag p 12 && t1.followingReserves p)) ended fun _ p hu => State.bellIs_elecWake hu p
  exact (congrArg Bell.phase woken :)

end
end Sys2Proof.Machine
end

section
/-! SUPPORT. The roll call at DCLK 64. -/

namespace Sys2Proof.Machine

namespace LessonFree

variable {P : State → Prop} {s : State}

/-! ### Collectives -/

theorem writeHost (hP : LessonFree P) (a : Nat) (d : List Byte) (h : P s) : P (s.writeHost a d) := by
  have relayed {u : State} (hu : P u) (b : Nat) (x : List Byte) : P (u.relayWrite b x) := by
    have words : P (u.forAll (List.range ((x.length + 7) / 8)) (fun s i =>
        s.relayWord i ((((x.drop (8 * i)).take 8) ++ List.replicate 8 0).take 8))) :=
      State.forAll_induct hu fun _ i hv => hP.toResultFree.relayWord _ _ hv
    exact hP.toResultFree.relayWord _ _ (hP.toResultFree.relayWord _ _ words)
  unfold State.writeHost
  split
  · exact State.forAll_induct h fun _ i hu => relayed hu _ _
  · split
    · exact hP.other h rfl rfl rfl
    · split
      · exact h
      · exact hP.other h rfl rfl rfl

theorem putColl (hP : LessonFree P) (i : Nat) (c : Option CollCtx) (h : P s) : P (s.putColl i c) := hP.other h rfl rfl rfl
theorem setSlot (hP : LessonFree P) (l : Nat) (x : Option Slot) (h : P s) : P (s.setSlot l x) := hP.other h rfl rfl rfl

theorem collRecord (hP : LessonFree P) (i : Nat) (c : CollCtx) (h : P s) : P (s.collRecord i c) := by
  unfold State.collRecord
  dsimp only
  split
  case h_1 u hu =>
    unfold State.ringPut at hu
    dsimp only at hu
    split at hu
    · cases hu
    · cases hu
      exact hP.toResultFree.raise 6 (hP.reg _ (not_bellReg_of_ge (by decide)) (hP.writeHost _ _ (hP.putColl _ _ h)))
  case h_2 => exact hP.reg _ (not_bellReg_of_ge (by decide)) (hP.putColl _ _ h)

theorem freeCollSlots (hP : LessonFree P) (i : Nat) (c : CollCtx) (h : P s) : P (s.freeCollSlots i c) := by
  unfold State.freeCollSlots
  refine hP.putColl _ _ (State.forAll_induct h fun u l hu => ?_)
  split
  · split
    · exact hP.setSlot _ _ hu
    · exact hu
  · exact hu

theorem collReleaseDone (hP : LessonFree P) (h : P s) : P s.collReleaseDone :=
  State.forAll_induct h fun u e hu => by
    split
    · exact hP.collRecord _ _ (hP.freeCollSlots _ _ hu)
    · exact hu

theorem collFail (hP : LessonFree P) (i : Nat) (c : CollCtx) (how : Nat) (st : BitVec 5) (cause : BitVec 12) (h : P s) :
    P (s.collFail i c how st cause) := by
  have counted {u : State} (hu : P u) : P (u.count (if how = 1 then rLaunchFail else rColAborts)) := by
    refine hP.reg _ (not_bellReg_of_ge ?_) hu
    split <;> decide
  have recorded : P (((s.freeCollSlots i { c with st := .failed, how := how, status := st, cause := cause }).count
      (if how = 1 then rLaunchFail else rColAborts)).collRecord i
      { c with st := .failed, how := how, status := st, cause := cause, held := false, slots := 0 }) :=
    hP.collRecord _ _ (counted (hP.freeCollSlots _ _ h))
  unfold State.collFail
  dsimp only
  split
  · exact hP.putColl _ _ recorded
  · exact recorded

theorem slotsSet (hP : LessonFree P) (l : List Nat) (d : CollDesc) (fmt : Fmt) (h : P s) :
    P (s.forAll l (fun s l => s.setSlot l (some (s.newSlot l d.type.toNat fmt (some d.id))))) :=
  State.forAll_induct h fun _ _ hu => hP.setSlot _ _ hu

theorem collLaunch (hP : LessonFree P) (i : Nat) (c : CollCtx) (h : P s) : P (s.collLaunch i c) := by
  have start : P (if c.desc.init then s else s.poke c.desc.region (List.replicate (64 * c.desc.lines) 0)) := by
    split
    · exact h
    · exact hP.poke _ _ h
  unfold State.collLaunch
  dsimp only
  refine hP.putColl _ _ ?_
  split
  · exact hP.slotsSet _ _ _ start
  · exact start

theorem collVerdict (hP : LessonFree P) (i : Nat) (c : CollCtx) (h : P s) : P (s.collVerdict i c) := by
  unfold State.collVerdict
  dsimp only
  split
  · exact hP.collLaunch _ _ h
  · split
    · exact hP.collFail _ _ _ _ _ h
    · exact hP.collNotice _ _ (hP.collFail _ _ _ _ _ h)

theorem collAdvance (hP : LessonFree P) (h : P s) : P s.collAdvance := by
  unfold State.collAdvance
  dsimp only
  refine State.forAll_induct (State.forAll_induct h fun u e hu => ?_) fun u e hu => ?_
  · split
    · exact hP.collFail _ _ _ _ _ hu
    · split
      · exact hP.collVerdict _ _ hu
      · exact hu
  · split
    · exact hP.putColl _ _ hu
    · exact hu

theorem collReserve (hP : LessonFree P) (k : Nat) (d : CollDesc) (base : Nat) (h : P s) : P (s.collReserve k d base) := by
  unfold State.collReserve
  extract_lets vote byte ok c t0 t1 t2
  have put : P t0 := hP.putColl _ _ h
  have slotted : P t1 := by
    unfold t1
    split
    · split
      · exact hP.slotsSet _ _ _ put
      · exact put
    · exact put
  split
  · exact hP.poke _ _ (hP.poke _ _ slotted)
  · exact hP.poke _ _ slotted

theorem reserveNow (hP : LessonFree P) (h : P s) : P s.reserveNow := by
  unfold State.reserveNow
  split
  · exact h
  · exact State.forAll_induct h fun u x hu => by
      split
      · exact hP.collReserve _ _ _ hu
      · exact hu

/-! ### Cohorts, Classrooms and stream engines -/

theorem not_bellReg_step (c : BitVec 10) : ¬ bellReg (cohortAt c.toNat + 16) := by
  have := c.isLt
  unfold bellReg cohortAt rCohort rGlbMode
  omega

theorem stepCohorts (hP : LessonFree P) (roles : List RoleEntry) (h : P s) : P (s.stepCohorts roles) := by
  unfold State.stepCohorts
  split
  · exact h
  · dsimp only
    refine State.forAll_induct (State.forAll_mem_induct h fun u c hc hu => ?_) fun u e hu => hP.reg _ (not_bellReg_step _) hu
    obtain ⟨e, -, rfl⟩ := List.mem_map.mp (List.mem_eraseDups.mp hc)
    exact hP.reg _ (not_bellReg_step _) hu

theorem loadWindows (hP : LessonFree P) (h : P s) : P s.loadWindows := by
  unfold State.loadWindows
  split
  · exact h
  · exact State.forAll_induct h fun _ _ hu => hP.other hu rfl rfl rfl

theorem recordOwners (hP : LessonFree P) (h : P s) : P s.recordOwners := by
  have place (room k : Nat) : ¬ bellReg (roomReg room crBbOwner + 8 * k) :=
    not_bellReg_of_ge (by unfold roomReg crReg rWingBlock; omega)
  unfold State.recordOwners
  split
  · exact h
  · refine State.forAll_induct h fun u o hu => ?_
    dsimp only
    split
    · exact hu
    · split
      · exact hP.reg _ (place _ _) hu
      · exact hu

theorem setStrm (hP : LessonFree P) (w e : Nat) (x : Strm) (h : P s) : P (s.setStrm w e x) := hP.other h rfl rfl rfl

theorem parkXfer (hP : LessonFree P) (w e : Nat) (h : P s) : P (s.parkXfer w e) := by
  have parked {c : Xfer} {t : Nat} : P (s.parkAt w e c t) := by
    unfold State.parkAt
    split
    · exact h
    · exact hP.setStrm _ _ _ (hP.poke _ _ h)
  unfold State.parkXfer
  split
  · exact h
  · split
    · exact h
    · split
      · split
        · exact h
        · split
          · exact parked
          · exact h
      · exact parked

theorem engineLesson (hP : LessonFree P) (w e : Nat) (h : P s) : P (s.engineLesson w e) := by
  unfold State.engineLesson
  dsimp only
  split
  · exact hP.setStrm _ _ _ h
  · split
    · exact hP.setStrm _ _ _ h
    · exact hP.parkXfer _ _ (hP.setStrm _ _ _ h)
  · exact hP.parkXfer _ _ (hP.setStrm _ _ _ h)

theorem requeueReady (hP : LessonFree P) (h : P s) : P s.requeueReady :=
  State.forAll_induct h fun u i hu => by
    split
    · dsimp only
      split
      · exact hu
      · exact hP.setStrm _ _ _ (hP.poke _ _ hu)
    · exact hu

theorem streamsLesson (hP : LessonFree P) (h : P s) : P s.streamsLesson := by
  unfold State.streamsLesson
  exact hP.requeueReady (State.forAll_induct h fun _ k hu => hP.engineLesson _ _ hu)

theorem spill (hP : LessonFree P) (i : Nat) (h : P s) : P (s.spill i) := by
  unfold State.spill
  dsimp only
  split
  · refine State.forAll_induct (hP.storeMem _ _ h) fun u l hu => ?_
    unfold State.bankTake
    split
    · exact hP.other hu rfl rfl rfl
    · exact hu
  · exact hP.classFault _ _ h

end LessonFree
end Sys2Proof.Machine
end

section
/-! SUPPORT. What the roll call gives Desks, and its steps in order. -/

namespace Sys2Proof.Machine

section
variable {s t u : State}

/-! ### Roles and scrubs -/

theorem LessonFree.bankTake {P : State → Prop} (hP : LessonFree P) (q l : Nat) (h : P s) : P (s.bankTake q l) := by
  unfold State.bankTake
  split
  · exact hP.other h rfl rfl rfl
  · exact h

theorem LessonFree.keepOrZero {P : State → Prop} (hP : LessonFree P) {i : Nat} (hd : ∀ {u : State} (d : Desk), P u → P (u.setDesk i d))
    (e : Option RoleEntry) (h : P s) : P (s.keepOrZero i e) := by
  unfold State.keepOrZero
  dsimp only
  split
  · exact hP.other (hd _ h) rfl rfl rfl
  · split
    · exact hd _ h
    · exact h

theorem LessonFree.fill {P : State → Prop} (hP : LessonFree P) {i : Nat} (hd : ∀ {u : State} (d : Desk), P u → P (u.setDesk i d))
    (e : RoleEntry) (h : P s) : P (s.fill i e) := by
  unfold State.fill
  split
  · dsimp only
    exact State.forAll_induct (hP.other (hd _ h) rfl rfl rfl) fun _ l hu => hP.bankTake _ _ hu
  · exact hP.classFault _ _ (hP.other (hd _ h) rfl rfl rfl)

theorem State.giveRole_sets (s : State) (i : Nat) (e : Option RoleEntry) : ∃ d, s.giveRole i e = s.setDesk i d := by
  unfold State.giveRole
  dsimp only
  split <;> exact ⟨_, rfl⟩

/-- Desks that are named keep a property of no Desk of theirs. -/
theorem LessonFree.assignRoles {P : State → Prop} (hP : LessonFree P) (hd : ∀ {u : State} (i : Nat) (d : Desk), P u → P (u.setDesk i d))
    (roles : List RoleEntry) (h : P s) : P (s.assignRoles roles) := by
  unfold State.assignRoles
  dsimp only
  refine State.forAll_induct (State.forAll_induct (State.forAll_induct (State.forAll_induct (State.forAll_induct h fun u i hu => ?_)
    fun u i hu => ?_) fun u i hu => ?_) fun u i hu => ?_) fun u i hu => ?_
  · exact hP.other hu rfl rfl rfl
  · split
    · exact hP.spill _ hu
    · exact hu
  · exact hP.keepOrZero (hd i) _ hu
  · split
    · split
      · exact hP.fill (hd i) _ hu
      · exact hu
    · exact hu
  · obtain ⟨d, he⟩ := u.giveRole_sets i (roles.find? (fun (e : RoleEntry) => DeskId.idx e.desk = i))
    rw [he]
    exact hd i d hu

/-- What the scrub of a torn-down cohort touches. -/
theorem LessonFree.scrubStart {P : State → Prop} (hP : LessonFree P) (x : Tear)
    (hdesk : ∀ {u : State} (i : Nat), P u → P (u.setDesk i { u.desk i with t0 := 0, t1 := 0 }))
    (hstate : ∀ {u : State}, P u → P (u.setRegF (cohortAt x.cohort + 24) 12 3 3))
    (hzero : ∀ {u : State} (k : Nat), k = 0 ∨ k = 8 ∨ k = 16 → P u → P (u.setReg (cohortAt x.cohort + k) 0)) (h : P s) : P (s.scrubStart x) := by
  have sealed (i : Nat) : ¬ bellReg (rSeal + 32 * i + 16) := not_bellReg_of_ge (by unfold rSeal; omega)
  have slotted (k : Nat) : ¬ bellReg (rLocker + 8 * k) := not_bellReg_of_ge (by unfold rLocker; omega)
  have seals {u : State} (l : List Nat) (hu : P u) : P (u.forAll l (fun s i => s.setSeal i 3)) :=
    State.forAll_induct hu fun _ i hv => hP.reg _ (sealed i) hv
  have locks {u : State} (l : List Nat) (hu : P u) : P (u.forAll l (fun s k => s.clearSlot k)) :=
    State.forAll_induct hu fun v k hv => hP.other (s := v.setReg (rLocker + 8 * k) 0) (hP.reg _ (slotted k) hv) rfl rfl rfl
  have saves {u : State} (l : List Nat) (hu : P u) : P (u.forAll l (fun s i => s.poke (s.saveBase + 64 * i) (List.replicate 64 0))) :=
    State.forAll_induct hu fun _ i hv => hP.poke _ _ hv
  have desks {u : State} (l : List Nat) (hu : P u) : P (u.forAll l (fun s d => s.setDesk d { s.desk d with t0 := 0, t1 := 0 })) :=
    State.forAll_induct hu fun _ d hv => hdesk d hv
  have regs {u : State} (hu : P u) : P (((u.setReg (cohortAt x.cohort) 0).setReg (cohortAt x.cohort + 8) 0).setReg (cohortAt x.cohort + 16) 0) :=
    hzero 16 (.inr (.inr rfl)) (hzero 8 (.inr (.inl rfl)) (hzero 0 (.inl rfl) hu))
  unfold State.scrubStart
  split
  · exact h
  · extract_lets c sl rooms bb ds slates areas sum lk sv u0 u1 u2 u3 u4 u5 t'
    have done : P u5 := regs (desks _ (saves _ (locks _ (seals _ (hstate h)))))
    clear_value u5
    exact hP.other done rfl rfl rfl

/-! ### The run -/

/-- The run and the state of a page are as given, and no page has passed. -/
def State.onRun (r : Option Run) (p : Fin 2) (w : Nat) (t : State) : Prop := t.bell.run = r ∧ t.bell.passed = none ∧ t.pageState p.val = w

theorem State.onRun.reg {r : Option Run} {p : Fin 2} {w : Nat} (h : s.onRun r p w) {a : Nat} (v : Word) (ha : a ≠ rTtState) :
    (s.setReg a v).onRun r p w := by
  obtain ⟨hrun, hpassed, hstate⟩ := h
  exact ⟨hrun, hpassed, (State.regF_congr (s.reg_setReg_ne a v rTtState (Ne.symm ha)) _ _).trans hstate⟩

theorem lessonFree_onRun (r : Option Run) (p : Fin 2) (w : Nat) : LessonFree (State.onRun r p w) where
  other {s t} h hbell hregs _ := by
    obtain ⟨hrun, hpassed, hstate⟩ := h
    have reg : t.reg rTtState = s.reg rTtState := by rw [State.reg, State.reg, hregs]
    exact ⟨hbell ▸ hrun, hbell ▸ hpassed, (State.regF_congr reg _ _).trans hstate⟩
  reg v ha h := h.reg v fun e => ha (e ▸ .inr (by decide))
  seat {s} d k id st data h := by
    have only := s.resultDesk_only d k id st data
    obtain ⟨hrun, hpassed, hstate⟩ := h
    exact ⟨(congrArg (fun u : State => u.bell.run) only :).trans hrun, (congrArg (fun u : State => u.bell.passed) only :).trans hpassed,
      (congrArg (fun u : State => u.pageState p.val) only :).trans hstate⟩

/-- The scrub of any cohort leaves the pages, as its registers do not share a field with a page's state. -/
theorem State.onRun.scrubStart {r : Option Run} {p : Fin 2} {w : Nat} (h : s.onRun r p w) (x : Tear) : (s.scrubStart x).onRun r p w := by
  refine (lessonFree_onRun r p w).scrubStart x (fun _ hu => hu) (fun {u} hu => ?_) (fun k hk hu => hu.reg _ ?_) h
  · by_cases ha : cohortAt x.cohort + 24 = rTtState
    · obtain ⟨hrun, hpassed, hstate⟩ := hu
      refine ⟨hrun, hpassed, ?_⟩
      rw [State.pageState, ha]
      refine Eq.trans ?_ hstate
      have cases : p.val = 0 ∨ p.val = 1 := by omega
      obtain hp | hp := cases
      · rw [hp]
        exact State.regF_setRegF_below _ _ _ _ _ _ _ (by decide) (by decide)
      · rw [hp]
        exact State.regF_setRegF_above _ _ _ _ _ _ _ (by decide) (by decide)
    · exact hu.reg _ ha
  · unfold cohortAt rCohort rTtState
    omega

/-- The roll call's work at DCLK 64 after the run is settled leaves the run. -/
theorem State.onRun.rollActivate {r : Option Run} {p : Fin 2} {w : Nat} (h : s.activate.onRun r p w) : s.rollActivate.onRun r p w := by
  have free := lessonFree_onRun r p w
  have seeded : s.activate.takeSeeds.onRun r p w := free.other h rfl rfl rfl
  have reserved : (s.activate.takeSeeds.collReleaseDone.collAdvance.releaseSlots.reserveNow).onRun r p w :=
    free.reserveNow (free.other (free.collAdvance (free.collReleaseDone seeded)) rfl rfl rfl)
  unfold State.rollActivate
  dsimp only
  exact State.forAll_induct (free.streamsLesson (free.recordOwners (free.loadWindows (free.assignRoles (fun _ _ hu => hu) _ (free.stepCohorts _ reserved)))))
    fun _ x hu => hu.scrubStart x

/-- A page that passed, with no run active and none that has just ended, begins its run. -/
theorem State.onRun_activate {p : Fin 2} {x : Timetable} (hp : s.bell.passed = some p) (hx : (s.page p).tt = some x) (hr : s.bell.run = none)
    (hg : s.bell.ranged = none) : s.activate.onRun (some { page := p, tt := x, index := 0 }) p 4 := by
  have range : s.activeRange = none := by
    rw [State.activeRange, hr]
    rfl
  have begun : s.activate = { s.beginRun p x with bell := { (s.beginRun p x).bell with
      empty := (s.beginRun p x).bell.run.isNone, passed := none, ranged := none } } := by
    unfold State.activate
    rw [hp]
    dsimp only
    rw [hx]
    dsimp only
    rw [range, hg, ite_self]
  have ended : s.endRun 0 = s := by
    unfold State.endRun
    rw [hr]
  have installed {v : State} : (v.installPins p).regs = v.regs := by
    have pins : (v.forAll (v.xl.pins.filter (fun x => x.1 = p)) (fun s x => match x.2.2.1 with
        | some room => s.putMicro room x.2.2.2
        | none => s.putWing x.2.1 x.2.2.2)).regs = v.regs :=
      State.forAll_induct (P := fun u => u.regs = v.regs) rfl fun u e hu => by
        split
        · exact hu
        · exact hu
    exact pins
  have state : (s.beginRun p x).regs = (s.setPageState p 4 0).regs :=
    (installed (v := (((s.endRun 0).setPageState p 4 0).writePlan x (fun _ => true)).dropPins)).trans
      (congrArg (fun u : State => (u.setPageState p 4 0).regs) ended)
  have reg : s.activate.reg rTtState = (s.setPageState p 4 0).reg rTtState := by
    rw [begun]
    exact congrArg (fun r => tget regReset r rTtState) state
  refine ⟨?_, ?_, ?_⟩
  · rw [begun]
    rfl
  · rw [begun]
  · exact (State.regF_congr reg _ _).trans (s.setPageState_leaves p (st := 4) (reason := 0) (by decide) (by decide)).1

theorem State.onRun_activate_none (hp : s.bell.passed = none) (hr : s.bell.run = none) : s.activate.onRun none 0 (s.pageState 0) := by
  unfold State.activate
  rw [hp]
  exact ⟨hr, rfl, rfl⟩

/-! ### Desks without a role -/

/-- A Desk has no role. -/
def Desk.vacant (d : Desk) : Prop := d.cohort = none ∧ d.started = 0 ∧ d.full = 0
def State.vacantAt (i : Nat) (t : State) : Prop := (t.desk i).vacant

theorem State.vacantAt.setDesk {i : Nat} (h : s.vacantAt i) {j : Nat} {d : Desk} (hd : j = i → d.vacant) : (s.setDesk j d).vacantAt i := by
  rw [State.vacantAt, State.desk_setDesk]
  split
  · exact hd ‹_›
  · exact h

theorem lessonFree_vacantAt (i : Nat) : LessonFree (State.vacantAt i) where
  other h _ _ hdesks := by
    rw [State.vacantAt, State.desk, hdesks]
    exact h
  reg _ _ h := h
  seat {s} d k id st data h := by
    unfold State.resultDesk
    split
    case isTrue hk =>
      have given : (s.setSeat d ⟨k, hk⟩ { s.seat d ⟨k, hk⟩ with
          acc := (s.seat d ⟨k, hk⟩).acc.map (fun (a : Access) => if a.id = id then { a with result := some (st, data) } else a) }).vacantAt i :=
        State.vacantAt.setDesk h fun e => e ▸ h
      dsimp only
      split
      · exact State.vacantAt.setDesk given fun e => e ▸ given
      · exact given
    case isFalse => exact h

theorem State.giveRole_none (s : State) (i : Nat) : ∃ d : Desk, d.vacant ∧ s.giveRole i none = s.setDesk i d :=
  ⟨_, ⟨rfl, rfl, rfl⟩, rfl⟩

/-- With no role entry every Desk is without a role. -/
theorem State.vacantAt_assignRoles (s : State) (i : Nat) : (s.assignRoles []).vacantAt i := by
  have free := lessonFree_vacantAt i
  have given {v : State} (j : Nat) (hv : v.vacantAt i) : (v.giveRole j none).vacantAt i := by
    obtain ⟨d, hd, he⟩ := v.giveRole_none j
    rw [he]
    exact hv.setDesk fun _ => hd
  unfold State.assignRoles
  extract_lets named all entry t0 t1 t2 t3
  by_cases hi : i ∈ all
  · refine State.forAll_of_mem (Q := fun _ => True) (P := State.vacantAt i) all hi trivial (fun _ _ _ _ => trivial) (fun u _ => ?_)
      fun u j _ _ hu _ => given j hu
    obtain ⟨d, hd, he⟩ := u.giveRole_none i
    show (u.giveRole i none).vacantAt i
    rw [he, State.vacantAt, State.desk_setDesk, if_pos rfl]
    exact hd
  · have away {j : Nat} (hj : j ∈ all) : j ≠ i := fun e => hi (e ▸ hj)
    have absent : ∀ e ∈ s.desks, e.1 ≠ i := fun e he => away (List.mem_eraseDups.mpr (List.mem_append.mpr (.inl (List.mem_map_of_mem he))))
    have start : s.vacantAt i := by
      rw [State.vacantAt, State.desk, tget_of_not_mem _ _ _ absent]
      exact ⟨rfl, rfl, rfl⟩
    refine State.forAll_induct (State.forAll_induct (State.forAll_mem_induct (State.forAll_induct (State.forAll_induct start
      fun u j hu => ?_) fun u j hu => ?_) fun u j hj hu => ?_) fun u j hu => hu) fun u j hu => given j hu
    · exact free.other hu rfl rfl rfl
    · split
      · exact free.spill _ hu
      · exact hu
    · exact free.keepOrZero (fun d hv => hv.setDesk fun e => absurd e (away hj)) _ hu

theorem State.vacantAt.scrubStart {i : Nat} (h : s.vacantAt i) (x : Tear) : (s.scrubStart x).vacantAt i :=
  (lessonFree_vacantAt i).scrubStart x (fun _ hu => hu.setDesk fun e => e ▸ hu) (fun hu => hu) (fun _ _ hu => hu) h

theorem State.rolesNow_none (h : s.bell.run = none) : s.rolesNow = [] := by
  rw [State.rolesNow, h]

theorem State.vacantAt_rollActivate (hp : s.bell.passed = none) (hr : s.bell.run = none) (i : Nat) : s.rollActivate.vacantAt i := by
  have free := lessonFree_vacantAt i
  have run := lessonFree_onRun none 0 (s.pageState 0)
  have reserved : (s.activate.takeSeeds.collReleaseDone.collAdvance.releaseSlots.reserveNow).onRun none 0 (s.pageState 0) :=
    run.reserveNow (run.other (run.collAdvance (run.collReleaseDone (run.other (t := s.activate.takeSeeds) (State.onRun_activate_none hp hr) rfl rfl rfl)))
      rfl rfl rfl)
  unfold State.rollActivate
  dsimp only
  rw [State.rolesNow_none reserved.1]
  exact State.forAll_induct (free.streamsLesson (free.recordOwners (free.loadWindows (State.vacantAt_assignRoles _ i)))) fun _ x hu => hu.scrubStart x

theorem State.execRollCallActivate_of_checked (h : s.bell.phase = .checked) :
    exec .rollCallActivate s = .next { s.rollActivate with bell := { s.rollActivate.bell with phase := .activated } } :=
  congrArg Host.Outcome.next (if_pos h)

theorem State.does_bodyStart (h : s.bell.phase = .gapped) : Does .bodyStart s (fun t => t.bell.phase = .body ∧ OnlyBell s t ∧
    ∀ p : Fin 2, t.page p = { s.page p with fresh := false }) := by
  refine ⟨_, congrArg Host.Outcome.next (if_pos h), rfl, rfl, fun p => ?_⟩
  simp [State.page]

end

/-- Settles O8: the steps of the roll call in order, and what each one leaves. -/
theorem rollCallPhases : Obligations.RollCallPhases := by
  unfold Obligations.RollCallPhases
  intro moves
  refine ⟨⟨fun s h => ⟨_, State.execRollCallCheck_of_rung h, rfl⟩, fun s h => congrArg Host.Outcome.next (if_neg h)⟩,
    ⟨fun s h => ⟨_, State.execRollCallActivate_of_checked h, rfl⟩, fun s h => congrArg Host.Outcome.next (if_neg h)⟩,
    ⟨fun s h => ⟨_, State.execRollCallSwap_of_activated h, rfl⟩, fun s h => congrArg Host.Outcome.next (if_neg h)⟩,
    ⟨fun s h => ?_, fun s h => congrArg Host.Outcome.next (if_neg h)⟩,
    ⟨fun s h => ⟨_, congrArg Host.Outcome.next (if_pos h), rfl⟩, fun s h => congrArg Host.Outcome.next (if_neg h)⟩,
    ⟨fun s h => State.does_closingGuard h, fun s h => congrArg Host.Outcome.next (if_neg h)⟩,
    fun s h hp hr hm ho => ?_, fun s h hm => ?_, fun s r reason h hp hm hr hl => ?_, fun s h ho => ?_, fun s p x h hp hx hr hg => ?_,
    fun s h hp hr _ => ?_, fun s h ha hrt => ?_, fun s h ha hrt hl he hok => ?_, fun s h ha hl hrt hoff => ?_, fun s h => State.does_rollCallGap h,
    fun s h => State.does_bodyStart h⟩
  · obtain ⟨t, run, hphase, -⟩ := State.does_rollCallGap h
    exact ⟨t, run, hphase⟩
  · have run := State.execRollCallCheck_of_rung h
    rw [State.rollCheck_quiet hp hr hm ho] at run
    exact ⟨_, run, rfl, rfl, fun _ => rfl⟩
  · obtain ⟨hmode, hrun⟩ := State.rollCheck_mode hm
    exact ⟨_, State.execRollCallCheck_of_rung h, rfl, hmode, hrun⟩
  · obtain ⟨hrun, hstate, hreason⟩ := State.rollCheck_length hp hm hr hl
    exact ⟨_, State.execRollCallCheck_of_rung h, rfl, hrun, hstate, hreason⟩
  · obtain ⟨hpin, hout⟩ := State.rollCheck_pin ho
    exact ⟨_, State.execRollCallCheck_of_rung h, hpin, hout⟩
  · obtain ⟨hrun, hpassed, hstate⟩ := (State.onRun_activate hp hx hr hg).rollActivate
    exact ⟨_, State.execRollCallActivate_of_checked h, rfl, hrun, hstate, hpassed⟩
  · obtain ⟨hrun, -, -⟩ := (State.onRun_activate_none hp hr).rollActivate
    exact ⟨_, State.execRollCallActivate_of_checked h, rfl, hrun, State.vacantAt_rollActivate hp hr⟩
  · have run := State.execRollCallSwap_of_activated h
    rw [State.routeSwap_unarmed hrt, State.partSwapLesson_unarmed ha] at run
    exact ⟨_, run, rfl, rfl⟩
  · obtain ⟨hswap, hstatus, hmem, hpart, htable⟩ := State.routeSwap_leaves hrt hl he hok
    have run := State.execRollCallSwap_of_activated h
    rw [State.partSwapLesson_unarmed ((State.regBit_congr hpart 63).trans ha)] at run
    refine ⟨_, run, rfl, hswap, hstatus, SameMemory.of_mem hmem, fun d => ?_⟩
    have within := d.isLt
    have upper := htable (16 * d.toNat + 8) (by omega)
    rw [← Nat.add_assoc, ← Nat.add_assoc] at upper
    exact ⟨htable (16 * d.toNat) (by omega), upper⟩
  · obtain ⟨harmed, hstatus, hports⟩ := State.partSwap_leaves hoff
    have run := State.execRollCallSwap_of_activated h
    rw [State.routeSwap_unarmed hrt, State.partSwapLesson_now ha hl] at run
    exact ⟨_, run, rfl, harmed, hstatus, hports⟩

end Sys2Proof.Machine
end
